-- ==== Sys2Proof/Word.lean ====
section
/-! DEFINITION. The word types of the ZCH-1640 model (R5, R7): bytes, 32- and 64-bit register words,
the 128-bit step word (R40), and a byte or word with its poison mark (R67). -/

namespace Sys2Proof

/-- One byte. -/
abbrev Byte := BitVec 8
/-- A 32-bit register or free-running position (R6, R94). -/
abbrev W32 := BitVec 32
/-- A 64-bit register, counter or context word (R6, R42, R424). -/
abbrev W64 := BitVec 64
/-- A step word (R40, Table 2.1). -/
abbrev W128 := BitVec 128

/-- A byte of a cell with its poison mark (R67). -/
structure PByte where
  b : Byte
  p : Bool
  deriving DecidableEq, Repr

/-- A context word with its poison mark (R67). -/
structure PWord where
  v : W64
  p : Bool
  deriving DecidableEq, Repr

/-- A clean byte with the numeric value `n` modulo 256. -/
def PByte.ofNat (n : Nat) : PByte := ⟨BitVec.ofNat 8 n, false⟩

/-- The zero byte without a poison mark, as every zeroed cell holds (R140). -/
def PByte.zero : PByte := ⟨0, false⟩

/-- The zero word without a poison mark, as every word holds at dispatch (R43). -/
def PWord.zero : PWord := ⟨0, false⟩

end Sys2Proof
end

