-- ==== Sys2Proof/Syntax.lean ====
section
/-! DEFINITION. The commands the part takes from outside and the events that come about in it: one
constructor per row of the operation table, with the operands the rules give each. Bytes travel as
numbers below 256, in the order in which they stand in a packet, a frame or memory. -/

namespace Sys2Proof

/-- The submission paths of Table 14.3; the two mailboxes are told apart by the issuer FID. -/
inductive Path where
  | admin | mailbox | svc | mctp | twin
  deriving DecidableEq, Repr

/-- The transports of SPDM messages (R482, Table 14.21): DOE, MCTP, service port and twin link. -/
inductive SpdmPath where
  | doe | mctp | svc | twin
  deriving DecidableEq, Repr

/-- Where an accepted command packet came from: its path, issuer FID, tag and notify bit (Table 14.1). -/
structure Meta where
  path : Path
  fid : Nat
  tag : Nat
  notify : Bool
  deriving DecidableEq, Repr

/-- How a read of host memory ended (R364, R365): data, a timeout, poisoned data, or a completion with an error status. -/
inductive ReadResult where
  | ok | timeout | poisoned | error
  deriving DecidableEq, Repr

/-- One DMA window record: window number, base, pages, read and write bits (R321). -/
structure WinRec where
  win : Nat
  base : Nat
  pages : Nat
  read : Bool
  write : Bool
  deriving DecidableEq, Repr

/-- One Granary share record of a grant record (Table 11.2). -/
structure ShareRec where
  pool : Nat
  mn : Nat
  mx : Nat
  weight : Nat
  deriving DecidableEq, Repr

/-- One table grant record of a grant record (Table 11.2). -/
structure TblGrantRec where
  table : Nat
  pmask : Nat
  maxEntries : Nat
  ovfReserve : Nat
  deriving DecidableEq, Repr

/-- The three shares of a hook region (R74). -/
structure Shares where
  steps : Nat
  access : Nat
  latency : Nat
  deriving DecidableEq, Repr

/-- The grant items that command 0x0209 changes (Table 11.2). -/
structure GrantItems where
  tx : Nat
  rx : Nat
  cq : Nat
  msix : Nat
  haul : Nat
  policers : Nat
  hookRegion : Nat
  shares : Shares
  mbxPerMs : Nat
  deriving DecidableEq, Repr

/-- A whole grant record (Table 11.2). -/
structure GrantRec where
  items : GrantItems
  granary : List ShareRec
  tables : List TblGrantRec
  lanes : Nat
  saMax : Nat
  activeMax : Nat
  connMax : Nat
  windows : List WinRec
  deriving DecidableEq, Repr

/-- Port parameters of command 0x0121 (R187, Table 14.19). -/
structure PortParams where
  port : Nat
  maxFrame : Nat
  fcMode : Nat
  defaultPrio : Nat
  xoff : Nat
  xon : Nat
  quanta : Nat
  prioToClass : Nat
  burst : List Nat
  onchipKib : List Nat
  spillMib : List Nat
  laneFix : Nat
  stage : Nat
  deriving DecidableEq, Repr

/-- The figures of one entry point's summary record (R57, Table 2.6). `classes` holds one class mask per
port, `pathClass` the set [0] receive, [1] push-transmit, [2] wire-to-wire, [3] paced. -/
structure Summary where
  sMax : Nat
  lMax : Nat
  aMax : Nat
  b : Nat
  parks : Bool
  classes : List Nat
  pathClass : Nat
  longest : Nat
  deriving DecidableEq, Repr

/-- Port parameters a table set was compiled against (R59, check 10): port type byte (mode), longest
frame, and the burst guard of each class. -/
structure PortDecl where
  mode : Nat
  maxFrame : Nat
  burst : List Nat
  deriving DecidableEq, Repr

/-- What a table set declares beside its steps (R57, R58, R429); `shipped` says that its storage entry points are those of the shipped
storage library, whose behaviour the spec gives and whose steps it does not (chapter 10, log entry 125). -/
structure TableDecl where
  stepBudget : Nat
  accessBudget : Nat
  rxBudget : Nat
  pushBudget : Nat
  w2wBudget : Nat
  paced : List Nat
  allow : Shares
  summary : List (Nat × Summary)
  ports : List (Nat × PortDecl)
  names : List (Nat × List Nat)
  shipped : Bool := false
  deriving DecidableEq, Repr

/-- A table-set image (R517): its steps as (index, step word) pairs, and what it declares. -/
structure TableSet where
  steps : List (Nat × Nat)
  decl : TableDecl
  deriving DecidableEq, Repr

/-- Parameters of command 0x0601 beside the SA index (Table 8.9). -/
structure SaParams where
  owner : Nat
  dir : Nat
  mode : Nat
  esn : Bool
  mirrored : Bool
  replayWindow : Nat
  seq : Nat
  unitLog2 : Nat
  key : List Nat
  activate : Bool
  deriving DecidableEq, Repr

/-- Parameters of command 0x0701 (Table 10.12). `steer` is the 32-byte steering key, `transport state`
the opaque bytes the storage program keeps. -/
structure ConnParams where
  conn : Nat
  owner : Nat
  transport : Nat
  program : Nat
  hdgst : Bool
  ddgst : Bool
  cmdMax : Nat
  timeoutMs : Nat
  retxLimit : Nat
  rtoUs : Nat
  steer : List Nat
  /-- The pipeline that R16 selects for the connection's inbound frames. -/
  frameFields : List Nat
  port : Nat
  transportState : List Nat
  deriving DecidableEq, Repr

/-- Parameters of command 0x0C02 (Table 9.9). -/
structure ChanCfg where
  mode : Nat
  statusAddr : Nat
  msix : Nat
  head : Nat
  queueType : Nat
  queue : Nat
  high : Nat
  low : Nat
  deriving DecidableEq, Repr

/-- What a haul descriptor finds outside the part: the 32 bytes at the descriptor's host address, how
that read ended, the bytes a host or flash source holds, and how their read ended. -/
structure HaulIn where
  desc : List Nat
  descRd : ReadResult
  data : List Nat
  dataRd : ReadResult
  deriving DecidableEq, Repr

/-- What the receiver finds of one lane at a link start (R213). -/
structure LaneStart where
  inverted : Bool
  position : Nat
  deriving DecidableEq, Repr

/-- What the Almanac's monitors read at a one-second sample (R468, R469): the hottest sensor in signed
1/16 degree steps (offset by 32768), the five rail currents in milliamperes, and the links that are up. -/
structure LifeSample where
  tj : Nat
  amps : List Nat
  lanesUp : List Bool
  hostUp : Bool
  deriving DecidableEq, Repr

/-- The authenticated header of a twin frame (Table 13.1) and whether its tag verified. -/
structure TwinHdr where
  role : Nat
  armed : Bool
  paired : Bool
  inSync : Bool
  epoch : Nat
  seq : Nat
  tagOk : Bool
  deriving DecidableEq, Repr

/-- What carries a command packet over MCTP or the service port (R402): the types of the outer and the inner MCTP message and
the vendor of the inner one, the UDP port, and whether the packet came inside an SPDM session. -/
structure Carrier where
  inSession : Bool := true
  outer : Nat := 0x06
  inner : Nat := 0x7E
  vendor : Nat := 0x1EA7
  port : Nat := 0x1640
  deriving DecidableEq, Repr

/-- A chain frame (Table 17.10): the pair it arrives on, its header fields, payload and whether its CRC
is right. -/
structure ChainFrame where
  pair : Nat
  kind : Nat
  off : Nat
  version : Nat
  digestId : Nat
  payload : List Nat
  crcOk : Bool
  deriving DecidableEq, Repr

/-- FEC codewords decoded on a port's lanes: corrected, and beyond correction (R216). -/
structure Fec where
  corrected : Nat
  lost : Nat
  deriving DecidableEq, Repr

/-- The straps as a release of PERST# samples them (R507): STRAP_BIFURCATE selects 2 × x8 mode, STRAP_MGMT carries MCTP over I3C. -/
structure Straps where
  bifurcate : Bool
  i3c : Bool
  deriving DecidableEq, Repr


/-- The commands and events of the part: one constructor for each row of the operation table, in the
table's order. The docstring of each cites the rule the table names. -/
inductive Instr where
  /-- READ_IDENTITY (R409): Command 0x0101 returns DEV_ID and DEV_UNIT. -/
  | readIdentity (m : Meta)
  /-- LOAD_TABLE_SET (R517): Command 0x0110 loads a table-set image into the idle bank, copies assigned hook regions from the CURRENT bank, and seals it. -/
  | loadTableSet (m : Meta) (bank : Nat) (addr : Nat) (len : Nat) (img : TableSet) (rd : ReadResult)
  /-- FLIP (R63): Command 0x0111 flips all four pipelines to the SEALED bank in one FABRIC cycle after rechecking check 10. -/
  | flip (m : Meta)
  /-- DISCARD_BANK (R62): Command 0x0112 returns a LOADING or SEALED bank to IDLE with its contents zeroed. -/
  | discardBank (m : Meta) (bank : Nat)
  /-- LOAD_HOOK (R75): Command 0x0113 copies the CURRENT bank to the IDLE bank, writes the hook, seals the bank and flips. -/
  | loadHook (m : Meta) (region : Nat) (fid : Nat) (shares : Shares) (raw : Bool) (addr : Nat) (len : Nat) (steps : List Nat) (rd : ReadResult)
  /-- SET_PORT_LAYOUT (R186): Command 0x0120 applies a lane-to-port layout at once, or stages it while a bank is CURRENT or DRAINING. -/
  | setPortLayout (m : Meta) (types : List Nat)
  /-- SET_PORT_PARAMETERS (R187): Command 0x0121 sets the per-port parameters; a change that would raise W is refused unless it is staged. -/
  | setPortParameters (m : Meta) (prm : PortParams)
  /-- WITHDRAW_STAGED_CONFIGURATION (R186): Command 0x0122 discards a staged port layout or parameter set. -/
  | withdrawStagedConfiguration (m : Meta)
  /-- ENABLE_PORT (R189): Command 0x0123 enables a port; it is refused until a bank is CURRENT. -/
  | enablePort (m : Meta) (port : Nat)
  /-- DISABLE_PORT (R189): Command 0x0124 disables a port with option none, drain or force. -/
  | disablePort (m : Meta) (port : Nat) (option : Nat) (limitMs : Nat)
  /-- PORT_DRAIN_END (R189): A port drain ends when its queued frames are sent or its limit expires, and the disable command then completes. -/
  | portDrainEnd (port : Nat)
  /-- WRITE_GROUP_FILTER (R196): Command 0x0125 replaces a port's 64 group-filter words and grp_all at a frame boundary. -/
  | writeGroupFilter (m : Meta) (port : Nat) (words : List Nat) (grpAll : Nat)
  /-- WRITE_SELECT_TABLE (R19): Command 0x0126 writes a port's select fields and 128-entry select table, effective at a frame boundary. -/
  | writeSelectTable (m : Meta) (port : Nat) (fields : Nat) (entries : List Nat)
  /-- MODULE_TRANSFER (R214): Command 0x0127 reads or writes a cage module over the sideband bus, completing with FAILED_TIMEOUT on faults. -/
  | moduleTransfer (m : Meta) (cage : Nat) (dir : Nat) (dev : Nat) (off : Nat) (len : Nat) (data : List Nat) (ack : Bool)
  /-- CREATE_INSTANCE (R317): Command 0x0201 creates a VF instance with a grant record, takes its reservations and zeroes its counters. -/
  | createInstance (m : Meta) (fid : Nat) (rec : GrantRec)
  /-- QUIESCE (R325): Command 0x0202 stops fetch and new haul starts for a function and waits for its blocking work to reach zero. -/
  | quiesce (m : Meta) (fid : Nat) (limitMs : Nat)
  /-- QUIESCE_END (R327): A quiesce ends when every blocking item is zero or its limit expires, and the instance enters QUIESCED with a report. -/
  | quiesceEnd (fid : Nat)
  /-- RESUME (R319): Command 0x0203 returns a QUIESCED, unfrozen instance to ACTIVE. -/
  | resume (m : Meta) (fid : Nat)
  /-- RESET_INSTANCE (R329): Command 0x0204 resets a QUIESCED instance, by force if requested, and holds it in RESETTING. -/
  | resetInstance (m : Meta) (fid : Nat) (force : Bool)
  /-- REMOVE_INSTANCE (R330): Command 0x0205 resets an instance, undoes its configuration, returns its reservations and leaves it ABSENT. -/
  | removeInstance (m : Meta) (fid : Nat) (force : Bool)
  /-- RESET_COMPLETE (R332): When every effect of Table 11.5 is done, including the table scan, the instance leaves RESETTING. -/
  | resetComplete (fid : Nat)
  /-- RELEASE (R338): Command 0x0206 releases a frozen function from the stocks once a quiesce, reset or FLR has completed. -/
  | release (m : Meta) (fid : Nat)
  /-- SET_DMA_WINDOW (R324): Command 0x0207 sets or removes a DMA window; a change that would uncover a live range is refused. -/
  | setDmaWindow (m : Meta) (fid : Nat) (win : WinRec)
  /-- SET_EXPERT_GRANT (R341): Command 0x0208 sets the raw_table and raw_hook expert scopes of a function. -/
  | setExpertGrant (m : Meta) (fid : Nat) (rawTable : Bool) (rawHook : Bool)
  /-- SET_INSTANCE_GRANT (R318): Command 0x0209 changes grant items of an instance; lowering below present use is refused. -/
  | setInstanceGrant (m : Meta) (fid : Nat) (items : GrantItems)
  /-- READ_INSTANCE (R345): Command 0x020A returns FN_STATE, the grant record and the last quiesce report. -/
  | readInstance (m : Meta) (fid : Nat)
  /-- DECLARE_CONFINEMENT (R343): Command 0x020B records the manager's declaration of host IOMMU or DMA-window confinement. -/
  | declareConfinement (m : Meta) (v : Nat)
  /-- CREATE_TRANSMIT_RING (R85): Command 0x0301 creates a transmit ring bound to a function, completion ring, pipeline and program. -/
  | createTransmitRing (m : Meta) (fid : Nat) (window : Nat) (base : Nat) (sizeLog2 : Nat) (cq : Nat) (pipeline : Nat) (program : Nat) (weight : Nat) (burst : Nat)
  /-- CREATE_RECEIVE_RING (R85): Command 0x0302 creates a receive ring with its completion ring and timestamp option. -/
  | createReceiveRing (m : Meta) (fid : Nat) (window : Nat) (base : Nat) (sizeLog2 : Nat) (cq : Nat) (ts : Bool)
  /-- CREATE_COMPLETION_RING (R85): Command 0x0303 creates a completion ring with its counter address and MSI-X entry. -/
  | createCompletionRing (m : Meta) (fid : Nat) (window : Nat) (base : Nat) (sizeLog2 : Nat) (ctrAddr : Nat) (msix : Nat)
  /-- DESTROY_RING (R121): Command 0x0304 destroys a STOPPED ring. -/
  | destroyRing (m : Meta) (type : Nat) (ring : Nat)
  /-- START_RING (R119): Command 0x0305 moves a STOPPED or HALTED_ERROR ring to RUNNING, writing a pending FROZEN completion first when one is due. -/
  | startRing (m : Meta) (type : Nat) (ring : Nat)
  /-- STOP_RING (R410): Command 0x0306 moves a ring to STOPPED at once. -/
  | stopRing (m : Meta) (type : Nat) (ring : Nat)
  /-- RESUME_RINGS (R120): Command 0x0307 drains backlogs and returns every HALTED_HOST ring of a function to RUNNING. -/
  | resumeRings (m : Meta) (fid : Nat)
  /-- SET_WEIGHT_AND_BURST (R103): Command 0x0308 sets a queue's weight and burst, taken at the next round. -/
  | setWeightAndBurst (m : Meta) (ring : Nat) (weight : Nat) (burst : Nat)
  /-- READ_RING (R410): Command 0x0309 returns a ring's QM_ registers. -/
  | readRing (m : Meta) (type : Nat) (ring : Nat)
  /-- REGISTER_POOL (R129): Command 0x0401 registers a host pool with all buffers FREE_DIRTY. -/
  | registerPool (m : Meta) (pool : Nat) (set : Nat) (kind : Nat) (sizeLog2 : Nat) (count : Nat) (base : Nat) (spaceFid : Nat)
  /-- UNREGISTER_POOL (R131): Command 0x0402 unregisters a host pool with no held buffer or waiter. -/
  | unregisterPool (m : Meta) (pool : Nat)
  /-- SET_SHARE (R136): Command 0x0403 sets an owner's minimum, maximum and weight in a pool. -/
  | setShare (m : Meta) (pool : Nat) (fid : Nat) (mn : Nat) (mx : Nat) (weight : Nat)
  /-- SIZE_ONCHIP_POOLS (R125): Command 0x0404 resizes on-chip pools 0, 1 and 3 while idle. -/
  | sizeOnchipPools (m : Meta) (c0 : Nat) (c1 : Nat) (c3 : Nat)
  /-- SET_PRESSURE (R135): Command 0x0405 sets a pool's pressure_eighths. -/
  | setPressure (m : Meta) (pool : Nat) (eighths : Nat)
  /-- QUERY_HANDLE (R151): Command 0x0406 returns the ledger entry of a handle. -/
  | queryHandle (m : Meta) (handle : Nat)
  /-- CREATE_TABLE (R154): Command 0x0501 creates a table and zeroes its bucket arrays in all four instances. -/
  | createTable (m : Meta) (table : Nat) (location : Nat) (kind : Nat) (bucketsLog2 : Nat) (keyLen : Nat) (ageLimit : Nat) (seed : Nat)
  /-- DESTROY_TABLE (R181): Command 0x0502 destroys a table that no non-IDLE bank names and that has no locked bucket. -/
  | destroyTable (m : Meta) (table : Nat)
  /-- INSERT_OR_REPLACE_ENTRY (R182): Command 0x0503 writes an entry to all four instances or to none. -/
  | insertOrReplaceEntry (m : Meta) (table : Nat) (owner : Nat) (key : List Nat) (result : List Nat) (noAge : Bool)
  /-- DELETE_ENTRY (R182): Command 0x0504 removes an entry instance by instance and returns a found mask. -/
  | deleteEntry (m : Meta) (table : Nat) (owner : Nat) (key : List Nat)
  /-- READ_ENTRY (R182): Command 0x0505 returns the slot, overflow flag, last_hit and result of an entry for each named pipeline. -/
  | readEntry (m : Meta) (table : Nat) (owner : Nat) (key : List Nat) (pmask : Nat)
  /-- SET_AGE_LIMIT (R182): Command 0x0506 sets a table's age_limit. -/
  | setAgeLimit (m : Meta) (table : Nat) (ageLimit : Nat)
  /-- SET_TABLE_GRANT (R158): Command 0x0507 sets a FID's max_entries and ovf_reserve in a table's instances. -/
  | setTableGrant (m : Meta) (fid : Nat) (table : Nat) (pmask : Nat) (maxEntries : Nat) (ovfReserve : Nat)
  /-- FLUSH (R182): Command 0x0508 removes the entries of an owner, or of all owners, from named instances. -/
  | flush (m : Meta) (table : Nat) (owner : Nat) (pmask : Nat)
  /-- CREATE_OR_REPLACE_POLICER (R236): Command 0x0510 creates or replaces a policer with a full bucket, effective the next FABRIC cycle. -/
  | createOrReplacePolicer (m : Meta) (policer : Nat) (fid : Nat) (rate : Nat) (ilog : Nat) (burst : Nat)
  /-- DESTROY_POLICER (R238): Command 0x0511 destroys a policer. -/
  | destroyPolicer (m : Meta) (policer : Nat)
  /-- READ_POLICER (R238): Command 0x0512 returns a policer's tokens, last_k and parameters. -/
  | readPolicer (m : Meta) (policer : Nat)
  /-- SET_LOOP_SHARE (R223): Command 0x0513 sets loop_cells_max. -/
  | setLoopShare (m : Meta) (cells : Nat)
  /-- INSTALL_SA (R244): Command 0x0601 installs an SA, wraps its key material under the KEK and zeroes the command's key bytes. -/
  | installSa (m : Meta) (sa : Nat) (prm : SaParams)
  /-- REMOVE_SA (R266): Command 0x0602 removes an SA once the records accepted on it have ended. -/
  | removeSa (m : Meta) (sa : Nat)
  /-- ACTIVATE_SA (R241): Command 0x0603 copies an SA record into the CIP state store and takes its key-cache slots. -/
  | activateSa (m : Meta) (sa : Nat)
  /-- DEACTIVATE_SA (R241): Command 0x0604 waits for accepted records to end, writes the SA record back and frees its slots. -/
  | deactivateSa (m : Meta) (sa : Nat)
  /-- REKEY_SA (R264): Command 0x0605 installs new key material under the current KEK, keeping the SA's sequence state. -/
  | rekeySa (m : Meta) (sa : Nat) (key : List Nat) (activate : Bool)
  /-- READ_SA (R265): Command 0x0606 returns bytes 0-55 of an SA record. -/
  | readSa (m : Meta) (sa : Nat)
  /-- SET_CIPHER_GRANT (R249): Command 0x0607 sets a function's dedicated lanes, sa_max and active_max. -/
  | setCipherGrant (m : Meta) (fid : Nat) (lanes : Nat) (saMax : Nat) (activeMax : Nat)
  /-- ERASE_VAULT (R263): Command 0x0608 erases the vault as an alarm with cause 0. -/
  | eraseVault (m : Meta)
  /-- CREATE_CONNECTION (R292): Command 0x0701 creates a storage connection from host-established transport state and inserts its steering key. -/
  | createConnection (m : Meta) (prm : ConnParams)
  /-- CLOSE_CONNECTION (R314): Command 0x0702 closes a connection, by force or after a drain limit, aborts slots in flight and frees the record. -/
  | closeConnection (m : Meta) (conn : Nat) (drainMs : Nat) (force : Bool)
  /-- CLOSE_DRAIN_END (R314): The drain of a close ends when no command remains in flight or the drain limit expires, and the connection becomes FREE. -/
  | closeDrainEnd (conn : Nat)
  /-- READ_CONNECTION (R314): Command 0x0703 returns line 0 and the slot table of a connection. -/
  | readConnection (m : Meta) (conn : Nat)
  /-- CONFIGURE_STORAGE (R312): Command 0x0704 sets the haul channel per pipeline and the TCP and RoCEv2 steering tables. -/
  | configureStorage (m : Meta) (channels : List Nat) (tcpTable : Nat) (roceTable : Nat)
  /-- SET_STORAGE_GRANT (R314): Command 0x0705 sets a function's conn_max. -/
  | setStorageGrant (m : Meta) (fid : Nat) (connMax : Nat)
  /-- PIN_PEER (R377): Command 0x0801 pins the twin peer's unit number. -/
  | pinPeer (m : Meta) (unit : Nat)
  /-- SET_LINK (R376): Command 0x0802 enables or disables the twin link and sets its lane_fix_policy. -/
  | setLink (m : Meta) (enable : Nat) (policy : Nat)
  /-- SET_ROLE (R380): Command 0x0803 sets the twin role and raises the role epoch. -/
  | setRole (m : Meta) (role : Nat) (epoch : Nat)
  /-- PAIR (R385): Command 0x0804 sends a full copy of every mirrored class and sets paired and in_sync. -/
  | pair (m : Meta)
  /-- ARM_TAKEOVER (R392): Command 0x0805 arms a STANDBY for takeover with a new epoch, a deadline and a flip option. -/
  | armTakeover (m : Meta) (epoch : Nat) (deadline : Nat) (flip : Bool)
  /-- DISARM (R392): Command 0x0806 ends an arm. -/
  | disarm (m : Meta)
  /-- UNPAIR (R381): Command 0x0807 clears paired, after which leases are recorded at once. -/
  | unpair (m : Meta)
  /-- READ_TWIN (R394): Command 0x0808 returns the TWN_ registers. -/
  | readTwin (m : Meta)
  /-- STAGE_COMPONENT_IMAGE (R481): Command 0x0901 copies a component image into its staging slot and verifies it under Table 17.4. -/
  | stageComponentImage (m : Meta) (comp : Nat) (source : Nat) (addr : Nat) (len : Nat) (img : List Nat) (rd : ReadResult)
  /-- STAGE_MANIFEST (R479): Command 0x0902 stages a signed manifest. -/
  | stageManifest (m : Meta) (addr : Nat) (len : Nat) (man : List Nat) (rd : ReadResult)
  /-- ACTIVATE (R486): Command 0x0903 runs the seven activation phases and moves the whole set into service at one flip, or none of it. -/
  | activate (m : Meta)
  /-- ACTIVATION_STEWARD_READY (R486): The trial Steward reports ready, or fails to within 200 ms, and activation continues to the flip or rolls back. -/
  | activationStewardReady (ready : Bool)
  /-- READ_VERSIONS (R411): Command 0x0904 returns the running and staged versions. -/
  | readVersions (m : Meta)
  /-- REWRAP_TO_UNIT (R476): Command 0x0905 rewraps a staged image's content key under the unit key. -/
  | rewrapToUnit (m : Meta) (comp : Nat)
  /-- READ_CHAIN_STATUS (R411): Command 0x0906 returns the bucket chain state. -/
  | readChainStatus (m : Meta)
  /-- COMPATIBILITY_UPDATE (R487): Command 0x0910 stages, verifies and activates one component from a ZCH-0820 image. -/
  | compatibilityUpdate (m : Meta) (comp : Nat) (source : Nat) (addr : Nat) (len : Nat) (img : List Nat) (rd : ReadResult)
  /-- READ_ALMANAC (R411): Command 0x0A01 returns the Almanac state. -/
  | readAlmanac (m : Meta)
  /-- SET_CALENDAR (R465): Command 0x0A02 sets the calendar at the next tick and sets cal_valid. -/
  | setCalendar (m : Meta) (sec : Nat) (ns : Nat)
  /-- SET_WAKE_TIMER (R466): Command 0x0A03 converts a TIME instant to calendar time and stores it in ALM_WAKE, or clears it. -/
  | setWakeTimer (m : Meta) (instant : Nat)
  /-- READ_LIFETIME_COUNTERS (R467): Command 0x0A04 returns the lifetime counters. -/
  | readLifetimeCounters (m : Meta)
  /-- CHANGE_LIFE_CYCLE_STATE (R458): Command 0x0A05 verifies a signed authorisation, then erases the vault, wipes memories and enters the new life-cycle state. -/
  | changeLifeCycleState (m : Meta) (target : Nat) (sig : List Nat)
  /-- SET_IDLE_LIMIT (R443): Command 0x0A06 sets a domain's idle limit, applied to the idle period in progress. -/
  | setIdleLimit (m : Meta) (domain : Nat) (limitUs : Nat)
  /-- WAKE (R369): Command 0x0A07 raises a wake event. -/
  | wake (m : Meta)
  /-- POWER_DOWN (R374): Command 0x0A10 holds an SE, CIPHER or HAUL domain down with option none, drain or force. -/
  | powerDown (m : Meta) (domain : Nat) (option : Nat) (limitMs : Nat)
  /-- POWER_DOWN_DRAIN_END (R374): A power-down drain ends when in-flight work reaches zero or the limit expires. -/
  | powerDownDrainEnd (domain : Nat)
  /-- POWER_UP (R374): Command 0x0A11 releases a held domain and completes at its first usable edge. -/
  | powerUp (m : Meta) (domain : Nat)
  /-- SNAPSHOT_COUNTERS (R430): Command 0x0B01 copies a counter set in the cycle of acceptance and returns it in the reply. -/
  | snapshotCounters (m : Meta) (fid : Nat)
  /-- SET_TRACE_SAMPLING (R433): Command 0x0B02 sets the trace sampling N and the entry-point mask. -/
  | setTraceSampling (m : Meta) (n : Nat) (mask : Nat)
  /-- CONFIGURE_CRIER (R435): Command 0x0B03 sets the export interval, destination and template set. -/
  | configureCrier (m : Meta) (interval : Nat) (dest : Nat) (addr : Nat) (port : Nat) (channel : Nat) (templates : Nat)
  /-- START_OR_STOP_EXPORT (R435): Command 0x0B04 starts or stops Crier export. -/
  | startOrStopExport (m : Meta) (start : Nat)
  /-- CREATE_OR_REPLACE_MIRROR_SESSION (R233): Command 0x0B20 creates or replaces a mirror session. -/
  | createOrReplaceMirrorSession (m : Meta) (session : Nat) (fid : Nat) (window : Nat) (snapLen : Nat) (sampleN : Nat) (crossTenant : Bool)
  /-- DESTROY_MIRROR_SESSION (R238): Command 0x0B21 destroys a mirror session that no port uses. -/
  | destroyMirrorSession (m : Meta) (session : Nat)
  /-- SET_PORT_MIRROR (R235): Command 0x0B22 assigns a port's rx_session and tx_session. -/
  | setPortMirror (m : Meta) (port : Nat) (rx : Nat) (tx : Nat)
  /-- GRANT_CHANNEL (R268): Command 0x0C01 grants or withdraws a haul channel with priority and desc_limit. -/
  | grantChannel (m : Meta) (ch : Nat) (owner : Nat) (prio : Nat) (descLimit : Nat)
  /-- CONFIGURE_CHANNEL (R269): Command 0x0C02 fixes a channel's start mode, addresses and watermark queue. -/
  | configureChannel (m : Meta) (ch : Nat) (cfg : ChanCfg)
  /-- STOP_CHANNEL (R274): Command 0x0C03 stops a channel at the next descriptor boundary. -/
  | stopChannel (m : Meta) (ch : Nat)
  /-- RESET_CHANNEL (R272): Command 0x0C04 returns a HALTED_ERROR channel to IDLE. -/
  | resetChannel (m : Meta) (ch : Nat)
  /-- COMPATIBILITY_PACKET (R421): A ZCH-0820 packet is checked, translated to its native command and answered with a 32-byte reply. -/
  | compatibilityPacket (path : Path) (fid : Nat) (bytes : List Nat)
  /-- ADMIN_DOORBELL (R400): A write of P to STW_ADMIN_DB announces admin packets under the rule of R96. -/
  | adminDoorbell (v : Nat)
  /-- ADMIN_REPLY_CONSUMER_WRITE (R400): A write to STW_ADMIN_RPL_POS.cons returns reply space under the rule of R114. -/
  | adminReplyConsumerWrite (v : Nat)
  /-- MAILBOX_DOORBELL (R401): A write to STW_MBX_DB.go submits the mailbox packet, subject to the BUSY state and mbx_per_ms. -/
  | mailboxDoorbell (fid : Nat) (go : Nat)
  /-- SECURED_PACKET_RECEIVED (R402): A command packet arrives over MCTP or the service port inside an SPDM session, or is discarded outside one. -/
  | securedPacketReceived (path : Path) (carrier : Carrier) (bytes : List Nat)
  /-- ACCEPT_PACKET (R405): The Steward visits a path with a packet ready, fetches it and runs the acceptance checks of Table 14.5. -/
  | acceptPacket (path : Path) (fid : Nat) (bytes : List Nat) (rd : ReadResult)
  /-- BACKGROUND_COMMAND_END (R407): A background command ends and its reply is written. -/
  | backgroundCommandEnd (slot : Nat)
  /-- DEV_LOG_CONS_WRITE (R414): A write to DEV_LOG_CONS consumes event-log entries under the rule of R114. -/
  | devLogConsWrite (v : Nat)
  /-- INTA_UPDATE (R359): At the end of each PCIE-TL cycle the endpoint compares W with the last message and sends Assert_INTA or Deassert_INTA. -/
  | intaUpdate
  /-- REGISTER_WRITE (R13): A register write without behaviour of its own acts on each writable field under its access code or is discarded and counted. -/
  | registerWrite (fid : Nat) (off : Nat) (size : Nat) (v : Nat)
  /-- SEQ_FLIP_GO (R63): Writing SEQ_FLIP.go requests a flip under R63 and R64. -/
  | seqFlipGo (v : Nat)
  /-- SEAL_REQUEST (R59): Writing SEQ_BANK_x.seal moves a LOADING bank to VERIFYING and starts the seal checks. -/
  | sealRequest (bank : Nat)
  /-- SEAL_COMPLETE (R59): Verification ends, and the bank becomes SEALED or returns to LOADING with seal_status and fail_index. -/
  | sealComplete (bank : Nat)
  /-- DISCARD_REQUEST (R62): Writing SEQ_BANK_x.discard returns a LOADING or SEALED bank to IDLE with its contents zeroed. -/
  | discardRequest (bank : Nat)
  /-- STEP_LO_WRITE (R77): A write to SEQ_STEP_LO_i latches the low half of a step. -/
  | stepLoWrite (idx : Nat) (v : Nat)
  /-- STEP_HI_WRITE (R77): A write to SEQ_STEP_HI_i commits both halves to all four cluster copies, or is discarded. -/
  | stepHiWrite (idx : Nat) (v : Nat)
  /-- RESIDENCY_PEAK_READ (R76): A read of SEQ_PIPE_p.residency_peak_ns returns the peak and clears it. -/
  | residencyPeakRead (p : Nat) (off : Nat) (size : Nat)
  /-- STEP_SCRUB (R69): The scrubber reads every step of every bank every 10 ms and writes back corrected words. -/
  | stepScrub
  /-- DISPATCH (R49): A packet waiting in an admission queue is dispatched to a free context with its descriptor words and bank fixed. -/
  | dispatch (p : Nat)
  /-- PARKED_RESUME (R52): When a parked read or haul run finishes, the packet is dispatched again with its saved words and code. -/
  | parkedResume (p : Nat) (ord : Nat)
  /-- CTL_JUMP (R79): CTL JUMP continues at its target with DONE. -/
  | ctlJump (p : Nat) (c : Nat)
  /-- CTL_END (R79): CTL END retires the packet and frees the cells it still holds. -/
  | ctlEnd (p : Nat) (c : Nat)
  /-- CTL_DROP (R45): CTL DROP counts its reason counter, frees the packet's cells and retires it. -/
  | ctlDrop (p : Nat) (c : Nat)
  /-- CTL_HOOK (R71): CTL HOOK enters the hook region of the packet's FID, or returns MISS. -/
  | ctlHook (p : Nat) (c : Nat)
  /-- CTL_RETURN (R71): CTL RETURN resumes at the HOOK step with the code in imm[3:0]. -/
  | ctlReturn (p : Nat) (c : Nat)
  /-- CTL_MARK (R79): CTL MARK writes a mark into the step trace of a traced packet. -/
  | ctlMark (p : Nat) (c : Nat)
  /-- ALU_MOVE (R80): ALU MOVE copies a word or an immediate to dst. -/
  | aluMove (p : Nat) (c : Nat)
  /-- ALU_ADD (R80): ALU ADD adds A and B modulo 2^64. -/
  | aluAdd (p : Nat) (c : Nat)
  /-- ALU_SUB (R80): ALU SUB subtracts B from A modulo 2^64. -/
  | aluSub (p : Nat) (c : Nat)
  /-- ALU_AND (R80): ALU AND writes A AND B. -/
  | aluAnd (p : Nat) (c : Nat)
  /-- ALU_OR (R80): ALU OR writes A OR B. -/
  | aluOr (p : Nat) (c : Nat)
  /-- ALU_XOR (R80): ALU XOR writes A XOR B. -/
  | aluXor (p : Nat) (c : Nat)
  /-- ALU_SHIFT (R80): ALU SHIFT shifts A left or logically right. -/
  | aluShift (p : Nat) (c : Nat)
  /-- ALU_CMP_EQ (R80): ALU CMP_EQ returns DONE when A equals B, and MISS otherwise. -/
  | aluCmpEq (p : Nat) (c : Nat)
  /-- ALU_CMP_LT (R80): ALU CMP_LT returns DONE when A is below B unsigned, and MISS otherwise. -/
  | aluCmpLt (p : Nat) (c : Nat)
  /-- LOAD_HDR (R80): ALU LOAD_HDR loads 1 to 8 header bytes into dst. -/
  | loadHdr (p : Nat) (c : Nat)
  /-- STORE_HDR (R80): ALU STORE_HDR writes the low bytes of A into the header window. -/
  | storeHdr (p : Nat) (c : Nat)
  /-- STRIP (R229): ALU STRIP removes bytes from the start of the packet and clears the fix-up marks. -/
  | strip (p : Nat) (c : Nat)
  /-- PREPEND (R229): ALU PREPEND inserts zero bytes at offset 0 and sets the fix-up marks. -/
  | prepend (p : Nat) (c : Nat)
  /-- READ_TIME (R80): ALU READ_TIME writes the TIME nanoseconds or fraction to dst. -/
  | readTime (p : Nat) (c : Nat)
  /-- PARSE_L2 (R81): PARSE L2 parses the Ethernet header and its tags. -/
  | parseL2 (p : Nat) (c : Nat)
  /-- PARSE_L3 (R81): PARSE L3 parses an IPv4 or IPv6 header. -/
  | parseL3 (p : Nat) (c : Nat)
  /-- PARSE_L4 (R81): PARSE L4 parses a TCP or UDP header. -/
  | parseL4 (p : Nat) (c : Nat)
  /-- PARSE_TUNNEL (R81): PARSE TUNNEL parses a tunnel header of the named format. -/
  | parseTunnel (p : Nat) (c : Nat)
  /-- PARSE_STORAGE_PDU (R81): PARSE STORAGE_PDU parses an NVMe/TCP common header. -/
  | parseStoragePdu (p : Nat) (c : Nat)
  /-- HASH_CRC32C (R82): HASH CRC32C computes CRC-32C over the key bytes from an initial value. -/
  | hashCrc32c (p : Nat) (c : Nat)
  /-- HASH_CRC32 (R82): HASH CRC32 computes the complemented IEEE CRC-32 over the key bytes. -/
  | hashCrc32 (p : Nat) (c : Nat)
  /-- HASH_TOEPLITZ (R82): HASH TOEPLITZ computes the Toeplitz hash under a 40-byte key. -/
  | hashToeplitz (p : Nat) (c : Nat)
  /-- LKP_HOT_LOOKUP (R160): LKP_HOT LOOKUP searches a hot-table bucket for a key matching the FID. -/
  | lkpHotLookup (p : Nat) (c : Nat)
  /-- LKP_RLD_LOOKUP (R160): LKP_RLD LOOKUP searches an RLDRAM bucket and the overflow store, with optional refresh on hit. -/
  | lkpRldLookup (p : Nat) (c : Nat)
  /-- FWT_LEARN (R165): FWT_UPD LEARN decides its code at issue, reserves an overflow entry and posts the write to the bucket. -/
  | fwtLearn (p : Nat) (c : Nat)
  /-- FWT_REFRESH (R168): FWT_UPD REFRESH sets last_hit in every copy of the key and owner. -/
  | fwtRefresh (p : Nat) (c : Nat)
  /-- FWT_WRITE_FLOW (R165): FWT_UPD WRITE_FLOW writes a flow entry under the same issue-time rules as LEARN. -/
  | fwtWriteFlow (p : Nat) (c : Nat)
  /-- POLICE_METER (R237): POLICE METER refreshes the policer's tokens by window and takes or refuses the length. -/
  | policeMeter (p : Nat) (c : Nat)
  /-- GRN_ALLOC (R138): GRN ALLOC requests buffers from a pool set along its fallback chain. -/
  | grnAlloc (p : Nat) (c : Nat)
  /-- GRN_FREE (R146): GRN FREE frees a held buffer or chain, or detects a double or foreign free. -/
  | grnFree (p : Nat) (c : Nat)
  /-- GRN_WAIT_RETRY (R141): A waiting Granary request is tried again in a later cycle and is served when stock frees. -/
  | grnWaitRetry (id : Nat)
  /-- GRN_WAIT_EXPIRY (R141): A waiting request not served before t + L is refused at t + L. -/
  | grnWaitExpiry (id : Nat)
  /-- INLINE_SCRUB_COMPLETE (R148): The last zero write of an inline scrub is posted, and the request completes with DEFERRED. -/
  | inlineScrubComplete (id : Nat)
  /-- BACKGROUND_SCRUB (R149): The background scrubber zeroes the next FREE_DIRTY host buffer at the GRN_SCRUB rate. -/
  | backgroundScrub
  /-- GRN_QUERY_WRITE (R152): A write to GRN_QUERY clears done and starts a lookup of the handle. -/
  | grnQueryWrite (v : Nat)
  /-- GRN_QUERY_COMPLETE (R152): The handle lookup ends within 200 ns and sets GRN_QUERY_RESULT.done. -/
  | grnQueryComplete
  /-- CIP_RECORD (R248): CIP RECORD is checked at issue, assigned a lane and sequence number, and accepted or refused. -/
  | cipRecord (p : Nat) (c : Nat)
  /-- RECORD_FINISH (R259): A lane finishes a record, verifies the tag, commits replay state and returns the final code. -/
  | recordFinish (id : Nat)
  /-- CLAIM_EXPIRY (R254): A lane claim still held at its limit is cleared, the lane wipes and the claimant goes into the stocks. -/
  | claimExpiry (lane : Nat)
  /-- DMAW_DELIVER (R83): DMAW DELIVER reserves credit and posts packet data, receive completions, counter and signal to a destination queue. -/
  | dmawDeliver (p : Nat) (c : Nat)
  /-- DMAR_READ (R84): DMAR READ checks windows, issues a host read into cells and parks the packet. -/
  | dmarRead (p : Nat) (c : Nat)
  /-- XMIT_CLASS (R197): XMIT CLASS queues the frame in a port transmit class or refuses it. -/
  | xmitClass (p : Nat) (c : Nat)
  /-- XMIT_LOOP (R221): XMIT LOOP prepends a loop header and queues the frame as a new arrival at entry point 62. -/
  | xmitLoop (p : Nat) (c : Nat)
  /-- XMIT_MIRROR (R226): XMIT MIRROR makes list-mode or session-mode copies of the frame. -/
  | xmitMirror (p : Nat) (c : Nat)
  /-- HAUL_START (R286): HAUL START queues a step-mode list on a channel and parks the packet until its run ends. -/
  | haulStart (p : Nat) (c : Nat)
  /-- CNT_INC (R429): CNT INC adds 1 to a reason counter of a FID or the device. -/
  | cntInc (p : Nat) (c : Nat)
  /-- CNT_ADD (R429): CNT ADD adds src_b to a reason counter. -/
  | cntAdd (p : Nat) (c : Nat)
  /-- CONN_GET (R300): STG CONN_GET copies one line of a connection record into eight context words. -/
  | connGet (p : Nat) (c : Nat)
  /-- CONN_PUT_WRITE (R301): CONN_PUT WRITE writes a program line and optionally the connection timer. -/
  | connPutWrite (p : Nat) (c : Nat)
  /-- HANDOFF_SUBMISSION (R301): CONN_PUT HANDOFF allocates a slot, reserves completion credit and places a kind 1 work packet in the turn queue. -/
  | handoffSubmission (p : Nat) (c : Nat)
  /-- HANDOFF_INBOUND (R301): CONN_PUT HANDOFF places an inbound packet in the turn queue as kind 2. -/
  | handoffInbound (p : Nat) (c : Nat)
  /-- CONN_PUT_COMPLETE (R303): CONN_PUT COMPLETE writes the storage completion and frees or quarantines the slot. -/
  | connPutComplete (p : Nat) (c : Nat)
  /-- CONN_PUT_RELEASE (R301): CONN_PUT RELEASE sets a QUARANTINED slot FREE. -/
  | connPutRelease (p : Nat) (c : Nat)
  /-- CONN_PUT_FAIL (R309): CONN_PUT FAIL fails the connection, aborts and quarantines its slots and discards its turn queue. -/
  | connPutFail (p : Nat) (c : Nat)
  /-- TURN_DISPATCH (R298): The STG unit dispatches the oldest waiting work packet of a connection whose turn is free. -/
  | turnDispatch (conn : Nat)
  /-- SLOT_EXPIRY (R305): At t_a + cmd_timeout_ms an ACTIVE slot becomes EXPIRED, and a kind 3 work packet is handed to the turn queue. -/
  | slotExpiry (conn : Nat) (slot : Nat)
  /-- CONNECTION_TIMER_EXPIRY (R302): A connection timer deadline expires, and a kind 4 work packet is built and queued. -/
  | connectionTimerExpiry (conn : Nat)
  /-- TIMER_CELL_RETRY (R302): The STG unit retries a refused timer-cell request in a later cycle, counting stg_timer_delay. -/
  | timerCellRetry (conn : Nat)
  /-- DOORBELL (R96): A 4-byte write of P_new to a transmit or receive ring window is checked and moves P. -/
  | doorbell (fid : Nat) (window : Nat) (off : Nat) (size : Nat) (v : Nat)
  /-- INLINE_PUSH (R99): A write of a whole entry to a doorbell window places it in staging and advances P, or falls back to a position doorbell. -/
  | inlinePush (fid : Nat) (window : Nat) (bytes : List Nat)
  /-- COMPLETION_CONSUMER_WRITE (R114): A write of C_new to a completion ring window returns space and moves backlog entries into the ring. -/
  | completionConsumerWrite (fid : Nat) (window : Nat) (v : Nat)
  /-- COMPLETION_ARM (R113): A write to offset 0x004 sets C_new and arms the completion ring to signal once. -/
  | completionArm (fid : Nat) (window : Nat) (v : Nat)
  /-- QUEUE_FETCH (R103): A pipeline visits an eligible transmit queue in its round and starts fetching up to burst entries. -/
  | queueFetch (rx : Bool) (n : Nat)
  /-- ENTRY_FETCH_COMPLETE (R92): A fetched entry arrives, is checked for structure, and is dispatched or handled by the queue manager. -/
  | entryFetchComplete (rx : Bool) (q : Nat)
  /-- FRAME_RECEIVED (R190): A frame is received on a port, decoded, filtered, stamped, written to cells and admitted to a pipeline, or ended early. -/
  | frameReceived (port : Nat) (bytes : List Nat) (pcsError : Bool) (fec : Fec)
  /-- PFC_PAUSE_END (R205): The pause window of a priority expires, and its class may start frames again. -/
  | pfcPauseEnd (port : Nat) (prio : Nat)
  /-- PFC_SEND (R206): When a priority's cell count crosses xoff, stays above xon or falls below xon, the MAC sends a PFC frame. -/
  | pfcSend (port : Nat) (prio : Nat)
  /-- PFC_RESEND (R206): While a priority stays at or above xon_cells, a PFC frame is sent again each half quanta. -/
  | pfcResend (port : Nat) (prio : Nat)
  /-- TRANSMIT_FRAME_START (R200): At a frame boundary the MAC starts the oldest frame of the highest eligible class and sends it whole. -/
  | transmitFrameStart (port : Nat)
  /-- TXTS_TAG_READ (R208): A read that covers MAC_TXTS_TAG_n.valid removes the oldest timestamp entry and latches its nanoseconds. -/
  | txtsTagRead (port : Nat) (off : Nat) (size : Nat)
  /-- MAC_TIME_STEP_WRITE (R209): A write to MAC_TIME_STEP adds a signed offset to TIME in one TIME cycle and logs the step. -/
  | macTimeStepWrite (v : Nat)
  /-- MAC_TIME_NS_READ (R217): A read of MAC_TIME_NS latches the fraction in MAC_TIME_FRAC. -/
  | macTimeNsRead
  /-- PPS_INPUT_EDGE (R211): A rising edge on TIME_PPS_IN is captured into MAC_TIME_PPS and sets pps_seen. -/
  | ppsInputEdge
  /-- PPS_OUTPUT (R211): At each whole second of TIME, TIME_PPS_OUT goes high for 100 ms. -/
  | ppsOutput
  /-- LINK_DOWN (R204): A port's link goes down, and its queued frames are discarded and counted. -/
  | linkDown (port : Nat)
  /-- LANE_FAULT (R212): A lane fault brings down the lane's port and is recorded and logged. -/
  | laneFault (lane : Nat) (code : Nat)
  /-- CAGE_FAULT (R214): A cage sideband fault is detected, recorded in MAC_CAGE_c and logged. -/
  | cageFault (cage : Nat) (kind : Nat)
  /-- AGER_VISIT (R175): The ager visits a bucket at its rate and removes every expired entry in that cycle. -/
  | agerVisit (p : Nat)
  /-- HOMING_MOVE (R171): When a bucket slot frees, the homing unit writes the oldest overflow entry of that bucket into it. -/
  | homingMove (p : Nat) (t : Nat) (b : Nat)
  /-- HOMING_OVERFLOW_REMOVE (R171): Two bucket cycles after the homing write, the overflow copy is removed. -/
  | homingOverflowRemove (p : Nat) (t : Nat) (b : Nat)
  /-- LOCK_EXPIRY (R180): A bucket lock still held at its limit is cleared, and the holder goes into the stocks with violation 0x07. -/
  | lockExpiry (p : Nat) (t : Nat) (b : Nat)
  /-- HAUL_START_WRITE (R273): A write of a head address to a start register starts a host-mode run of an IDLE channel. -/
  | haulStartWrite (fid : Nat) (j : Nat) (head : Nat)
  /-- HAUL_ACK_WRITE (R283): A write of consumed half and full counts acknowledges events and releases a WAIT_ACK channel. -/
  | haulAckWrite (fid : Nat) (j : Nat) (half : Nat) (full : Nat)
  /-- HAUL_STOP_WRITE (R274): Writing HAUL_VF_CTL_j.stop requests a stop at the next descriptor boundary. -/
  | haulStopWrite (fid : Nat) (j : Nat)
  /-- WATERMARK_HIGH (R278): An ARMED watermark channel whose queue fill reaches high enters READY. -/
  | watermarkHigh (ch : Nat)
  /-- RUN_START (R275): A free haul unit takes the READY channel of highest priority and starts its run. -/
  | runStart (unit : Nat)
  /-- HAUL_NOP (R271): A NOP descriptor is checked and counted as a descriptor of the run. -/
  | haulNop (ch : Nat) (inp : HaulIn)
  /-- HAUL_COPY (R280): A COPY descriptor is checked and copies bytes through the funnel. -/
  | haulCopy (ch : Nat) (inp : HaulIn)
  /-- HAUL_ZERO (R271): A ZERO descriptor writes zero bytes to its destination. -/
  | haulZero (ch : Nat) (inp : HaulIn)
  /-- TBL_READ (R177): A TBL_READ descriptor copies a bucket without a lock. -/
  | tblRead (ch : Nat) (inp : HaulIn)
  /-- TBL_LOCK_READ (R177): A TBL_LOCK_READ descriptor locks a bucket for the FID and copies it. -/
  | tblLockRead (ch : Nat) (inp : HaulIn)
  /-- TBL_WRITE_UNLOCK (R179): A TBL_WRITE_UNLOCK descriptor checks an image, writes it into the bucket and clears the lock. -/
  | tblWriteUnlock (ch : Nat) (inp : HaulIn)
  /-- TBL_UNLOCK (R177): A TBL_UNLOCK descriptor clears a bucket lock without writing. -/
  | tblUnlock (ch : Nat) (inp : HaulIn)
  /-- READ_COMPLETION (R358): A completion for a device read arrives and its data is released in stream order. -/
  | readCompletion (link : Nat) (tag : Nat) (ok : Bool) (ep : Bool) (data : List Nat)
  /-- COMPLETION_TIMEOUT (R364): A read whose completion has not arrived by t_i + T completes with FAILED_TIMEOUT, and its tag is quarantined. -/
  | completionTimeout (link : Nat) (tag : Nat)
  /-- TAG_QUARANTINE_END (R362): A quarantined tag becomes free 2T after its timeout. -/
  | tagQuarantineEnd (link : Nat) (tag : Nat)
  /-- BUS_MASTER_ENABLE_CLEAR (R366): Clearing a function's Bus Master Enable stops its requests and halts its running rings. -/
  | busMasterEnableClear (fid : Nat)
  /-- INTERRUPT_DISABLE_WRITE (R360): A write of PF0's Interrupt Disable changes W, with Deassert_INTA sent first when W falls. -/
  | interruptDisableWrite (v : Bool)
  /-- MSIX_UNMASK (R361): Unmasking a vector or function sends held MSI-X messages in PBA order. -/
  | msixUnmask (fid : Nat) (vec : Nat)
  /-- FUNCTION_LEVEL_RESET (R371): Initiate FLR stops the function's requests and ends its in-flight work with ABORTED. -/
  | functionLevelReset (fid : Nat)
  /-- FLR_COMPLETE (R372): By t0 + 8 ms the FLR applies the reset state and configuration requests are served. -/
  | flrComplete (fid : Nat)
  /-- SRIOV_VF_ENABLE_SET (R351): A write setting VF Enable enables the virtual functions, or has no effect and logs an event while ARI is off. -/
  | sriovVfEnableSet (numVfs : Nat)
  /-- SRIOV_VF_DISABLE (R320): Clearing VF Enable or lowering NumVFs resets by force each instance whose VF ceases to exist. -/
  | sriovVfDisable (clearEnable : Bool) (numVfs : Nat)
  /-- POWER_STATE_WRITE (R367): A write of a function's D-state sets the device mode and halts rings as a Bus Master Enable clear. -/
  | powerStateWrite (fid : Nat) (dstate : Nat)
  /-- PME_TURN_OFF (R370): On PME_Turn_Off the endpoint answers PME_TO_Ack and enters L2/L3 Ready. -/
  | pmeTurnOff
  /-- WAKE_EVENT (R369): A wake event sets PME_Status and sends PM_PME or drives WAKE#. -/
  | wakeEvent (row : Nat)
  /-- DL_UP (R360): At DL_Up, Assert_INTA is sent again if W is 1. -/
  | dlUp (link : Nat) (rate : Nat) (flit : Bool) (widthLog2 : Nat)
  /-- HOT_RESET (R449): A hot reset, DL_Down or Secondary Bus Reset resets configuration space and performs FLRs of PF0 and PF1. -/
  | hotReset
  /-- PERST_ASSERT (R449): PERST# assertion with main power present stops requests and begins a PERST# reset. -/
  | perstAssert
  /-- PERST_RELEASE (R448): PERST# release rechecks the kept Steward code and reruns start-up. -/
  | perstRelease (recheckOk : Bool) (straps : Straps) (lib : TableSet)
  /-- COLD_RESET (R446): Main supplies reach their windows, and start-up verifies and starts the Steward and brings the device up. -/
  | coldReset (imageOk : Bool) (straps : Straps) (lib : TableSet)
  /-- SRAM_WIPE_END (R453): The 2 ms SRAM wipe ends. -/
  | sramWipeEnd
  /-- RLDRAM_WIPE_END (R453): The RLDRAM wipe ends, wipe_done sets and queues leave NOT_READY. -/
  | rldramWipeEnd
  /-- MAIN_SUPPLY_LOSS (R503): A main rail below 60 % for 10 us counts a supply loss and commits the lifetime store. -/
  | mainSupplyLoss
  /-- AUX_POWER_UP (R442): Auxiliary power returns, and the Almanac starts with the calendar at 0 and cal_valid 0. -/
  | auxPowerUp
  /-- DOMAIN_START (R34): A demand starts a stopped clock domain after its dependencies are running. -/
  | domainStart (dom : Nat)
  /-- DOMAIN_READY (R36): A started domain gives its first usable edge. -/
  | domainReady (dom : Nat)
  /-- DOMAIN_IDLE_STOP (R33): A domain idle for its limit is stopped after its dependents stop. -/
  | domainIdleStop (dom : Nat)
  /-- STEWARD_RESTART (R450): ALM_CTL.steward_restart reloads the Steward from its code memory once no command is executing. -/
  | stewardRestart
  /-- ALMANAC_RESTART (R451): ALM_CTL.almanac_restart commits the store and reboots the Almanac within 5 ms. -/
  | almanacRestart
  /-- ALARM (R263): A voltage, clock, temperature or shield alarm erases the KEK and every lane's keys, and every SA becomes ERASED. -/
  | alarm (cause : Nat) (value : Nat)
  /-- ALARM_CLEAR (R264): Once every alarm cause has been clear for 10 ms, the vault draws a new KEK. -/
  | alarmClear (cause : Nat)
  /-- THERMAL_WARNING (R459): Tj at or above 110 C logs event 0x0102 once per rise. -/
  | thermalWarning (tj : Nat)
  /-- THERMTRIP (R460): Tj at or above 125 C drives THERMTRIP_N low, and it stays low for 1 s after. -/
  | thermtrip (tj : Nat)
  /-- CRYSTAL_FAULT (R462): A stopped or off-frequency crystal switches the calendar to AON-16M. -/
  | crystalFault
  /-- CRYSTAL_RECOVERY (R462): After 1 s within limits, the calendar returns to the crystal at the next whole second. -/
  | crystalRecovery
  /-- REFERENCE_CLOCK_FAULT (R463): Loss of REF-156 or REF-100 is recorded and handled as stated. -/
  | referenceClockFault (which : Nat)
  /-- THERMAL_DIODE_FAULT (R464): A short or open on THERM_DP and THERM_DN sets diode_fault. -/
  | thermalDiodeFault (kind : Nat)
  /-- WAKE_TIMER_FIRE (R466): The wake timer fires at the first tick at or after the stored instant and clears. -/
  | wakeTimerFire
  /-- LIFETIME_SAMPLE (R468): Once per second the Almanac updates thermal half cycles and em_age. -/
  | lifetimeSample (smp : LifeSample)
  /-- STORE_COMMIT (R470): At each aux hour the Almanac commits the lifetime store to the next record slot. -/
  | storeCommit
  /-- CNT_SNAP_WRITE (R431): A write to CNT_SNAP with go copies a counter set into a snapshot slot in the next FABRIC cycle. -/
  | cntSnapWrite (v : Nat)
  /-- SNAPSHOT_COPY_COMPLETE (R432): The slot copy completes, gen increments and done sets. -/
  | snapshotCopyComplete
  /-- CRIER_EXPORT (R436): At each interval boundary the Crier snapshots the counter sets and writes IPFIX messages. -/
  | crierExport
  /-- FN_SEL_WRITE (R346): A write to FN_SEL snapshots the selected function's registers. -/
  | fnSelWrite (v : Nat)
  /-- FWT_GRANT_SEL_WRITE (R183): A write to FWT_GRANT_SEL samples the selected grant figures in one bucket cycle. -/
  | fwtGrantSelWrite (v : Nat)
  /-- FWT_OVF_SEL_WRITE (R183): A write to FWT_OVF_SEL snapshots the selected overflow entry. -/
  | fwtOvfSelWrite (v : Nat)
  /-- CIP_SA_SEL_WRITE (R267): A write to CIP_SA_SEL snapshots the selected SA. -/
  | cipSaSelWrite (v : Nat)
  /-- CIP_GRANT_SEL_WRITE (R267): A write to CIP_GRANT_SEL snapshots the selected cipher grant. -/
  | cipGrantSelWrite (v : Nat)
  /-- STG_CONN_SEL_WRITE (R315): A write to STG_CONN_SEL snapshots the selected connection's registers. -/
  | stgConnSelWrite (v : Nat)
  /-- STG_GRANT_SEL_WRITE (R315): A write to STG_GRANT_SEL snapshots the selected storage grant. -/
  | stgGrantSelWrite (v : Nat)
  /-- TWIN_LINK_AUTHENTICATED (R377): SPDM mutual authentication and KEY_EXCHANGE with the pinned peer complete, and the link enters LINKED. -/
  | twinLinkAuthenticated (unit : Nat) (chainOk : Bool)
  /-- HEARTBEAT_SEND (R390): At the start of each 10 us window, a LINKED device sends a heartbeat. -/
  | heartbeatSend
  /-- HEARTBEAT_RECEIVED (R390): An authenticated heartbeat is resolved under Table 13.3 and marks its window. -/
  | heartbeatReceived (hdr : TwinHdr)
  /-- HEARTBEAT_WINDOW_END (R390): A heartbeat window ends, and a missed window is counted. -/
  | heartbeatWindowEnd
  /-- ARM_DEADLINE (R392): An arm ends at its deadline and the end is logged. -/
  | armDeadline
  /-- MIRRORED_COMMAND (R384): A type 2 frame executes a mirrored command on the standby. -/
  | mirroredCommand (hdr : TwinHdr) (bytes : List Nat)
  /-- LEASE_RECORD (R386): A type 3 frame records the next outbound lease on the standby. -/
  | leaseRecord (hdr : TwinHdr) (sa : Nat) (k : Nat)
  /-- REPLAY_SNAPSHOT (R387): A type 4 frame stores an inbound replay snapshot on the standby. -/
  | replaySnapshot (hdr : TwinHdr) (sa : Nat) (top : Nat)
  /-- STORAGE_RECORD (R388): A type 5 frame replaces mirrored connection lines on the standby. -/
  | storageRecord (hdr : TwinHdr) (conn : Nat) (lines : List (Nat × List Nat))
  /-- BANK_IMAGE_PART (R384): A type 6 frame loads part of a sealed bank image into the standby's idle bank. -/
  | bankImagePart (hdr : TwinHdr) (steps : List (Nat × Nat)) (decl : Option TableDecl)
  /-- TWIN_ACKNOWLEDGEMENT (R379): A type 7 frame acknowledges applied frames, setting lease_ready for confirmed leases. -/
  | twinAcknowledgement (hdr : TwinHdr) (acked : Nat) (result : Option (Nat × Nat))
  /-- TWIN_RESEND (R379): An unacknowledged frame is resent after 4 us, and the link goes DOWN after eight resends. -/
  | twinResend (seq : Nat)
  /-- MIRROR_REPLY_TIMEOUT (R385): With no standby result within 1 ms, the pair is marked out of sync. -/
  | mirrorReplyTimeout
  /-- CHAIN_OFFER_SEND (R491): Each second, the upstream unit offers each verified, unconfirmed package. -/
  | chainOfferSend
  /-- CHAIN_OFFER_RECEIVED (R491): A received OFFER is answered with REQUEST, CONFIRM, REFUSE or nothing. -/
  | chainOfferReceived (frm : ChainFrame)
  /-- CHAIN_REQUEST_RECEIVED (R491): A received REQUEST makes the upstream unit send DATA frames from the offset to the end. -/
  | chainRequestReceived (frm : ChainFrame)
  /-- CHAIN_DATA_RECEIVED (R492): DATA frames assemble a package, which is verified and applied or stored when whole. -/
  | chainDataReceived (frm : ChainFrame)
  /-- CHAIN_CONFIRM_RECEIVED (R491): A CONFIRM ends the offering of that package downstream. -/
  | chainConfirmReceived (frm : ChainFrame)
  /-- CHAIN_REFUSE_RECEIVED (R491): A REFUSE reports the downstream check that failed. -/
  | chainRefuseReceived (frm : ChainFrame)
  /-- CHAIN_FAULT (R493): A chain pair fault is detected, corrected or held, and logged. -/
  | chainFault (pair : Nat) (code : Nat)
  /-- SPDM_GET_CERTIFICATE (R482): GET_CERTIFICATE returns the slot 0 certificate chain. -/
  | spdmGetCertificate (path : SpdmPath) (off : Nat) (len : Nat)
  /-- SPDM_CHALLENGE (R482): CHALLENGE is answered with a DeviceID-key signature. -/
  | spdmChallenge (path : SpdmPath) (nonce : Nat)
  /-- GET_MEASUREMENTS (R484): GET_MEASUREMENTS returns the signed measurement blocks. -/
  | getMeasurements (path : SpdmPath) (index : Nat) (nonce : Nat)
  /-- KEY_EXCHANGE (R482): KEY_EXCHANGE opens a mutually authenticated session only for a pinned requester key. -/
  | keyExchange (path : SpdmPath) (leafHash : List Nat) (mutualAuth : Bool)
  /-- PUT_IMAGE (R483): A PUT_IMAGE message writes one image chunk into a staging slot. -/
  | putImage (path : SpdmPath) (comp : Nat) (off : Nat) (bytes : List Nat)
  /-- LINK_UP (R204): An enabled port completes training and its link comes up, so XMIT CLASS to it is accepted again. -/
  | linkUp (port : Nat) (lanes : List LaneStart)
  /-- LANE_FAULT_CLEAR (R212): A lane fault of code 1 or 2 clears when the signal or the leg recovers. -/
  | laneFaultClear (lane : Nat) (code : Nat)
  /-- CAGE_FAULT_CLEAR (R214): A stuck SCL or SDA fault clears after 10 ms high, and module transfers work again. -/
  | cageFaultClear (cage : Nat) (kind : Nat)
  /-- CAGE_INTERRUPT (R214): A module asserts CAGEc_INT_N, and MAC_CAGE_c.int_events increments. -/
  | cageInterrupt (cage : Nat)
  /-- TWIN_LINK_DOWN (R377): The twin link is lost and returns to DOWN, which stops heartbeats and clears twin_ok. -/
  | twinLinkDown
  /-- TAKEOVER_COMPLETE (R393): The armed takeover ends within 200 us: the role becomes PRIMARY, TWN_TAKEOVER is set and the event is logged. -/
  | takeoverComplete
  /-- REFERENCE_CLOCK_RECOVERY (R463): REF-156 or REF-100 returns within limits, ref156_lost or ref100_lost clears, and event 0x0105 reports recovery. -/
  | referenceClockRecovery (which : Nat)
  /-- THERMAL_WARNING_CLEAR (R459): The hottest sensor falls below 105 C and the Tj warning clears. -/
  | thermalWarningClear (tj : Nat)
  /-- THERMTRIP_RELEASE (R460): One second after Tj falls below 125 C, THERMTRIP_N is released. -/
  | thermtripRelease
  /-- THERMAL_DIODE_FAULT_CLEAR (R464): A short or open on THERM_DP and THERM_DN clears, diode_fault clears, and event 0x0106 reports cleared. -/
  | thermalDiodeFaultClear
  /-- CHAIN_FAULT_CLEAR (R493): A chain pair's leg recovers or transitions return, and the pair leaves DOWN or END. -/
  | chainFaultClear (pair : Nat) (code : Nat)
  /-- AUX_POWER_LOSS (R442): Auxiliary power is lost, the calendar and wake timer are lost, and the accumulation since the last store commit is lost. -/
  | auxPowerLoss
  /-- BUS_MASTER_ENABLE_SET (R361): A write setting a function's Bus Master Enable lets it issue requests again and lets held MSI-X messages be sent. -/
  | busMasterEnableSet (fid : Nat)
  /-- SMBUS_CLOCK_LOW_TIMEOUT (R509): The device releases the SMBus after clock low has lasted 25 ms. -/
  | smbusClockLowTimeout
  /-- STEWARD_RESTART_COMPLETE (R450): The reloaded Steward accepts packets again, STW_STATUS.ready sets and event 0x010A is logged with the duration. -/
  | stewardRestartComplete
  /-- ALMANAC_RESTART_COMPLETE (R451): The Almanac runs again, acts on waiting domain starts and any wake instant reached, and logs event 0x010B. -/
  | almanacRestartComplete
  /-- ALM_CAL_SEC_READ (R472): A read of ALM_CAL_SEC latches the tick count in ALM_CAL_FRAC. -/
  | almCalSecRead
  deriving DecidableEq, Repr

end Sys2Proof
end

