-- ==== Sys2Proof/Decode.lean ====
section
/-! DEFINITION. The decoder over the rows of the operation table that give bits. No row of this part's
table gives any (every row's field list is empty), so no word spells a command. -/

namespace Sys2Proof

/-- The command a word of the table's bits spells: none, because no row gives bits. -/
def decodeTableWord (_nbits _w : Nat) : Option Instr := none

end Sys2Proof
end

