-- ==== Sys2Proof/Config.lean ====
section
/-! DEFINITION. What the specification leaves open: free values with no body, so that no proof can see
what they are, and the cryptographic functions, whose results the specification takes from published
standards. Every one is named in the assumption log. -/

namespace Sys2Proof.Config

/-- FREE VALUE. Which free on-chip cell of a pool a grant takes: R125 says the order is not specified.
The argument is the draw number; the result is reduced modulo the pool's cells. -/
opaque cellPick : Nat → Nat

/-- FREE VALUE. Which free ring number of a type a created ring takes; no rule states one. The argument is the draw
number; the result is reduced modulo the rings of the type. -/
opaque ringPick : Nat → Nat

/-- FREE VALUE. Which free key-cache slot an activated SA takes; no rule states one. The argument is the draw number; the
result is reduced modulo the slots. -/
opaque slotPick : Nat → Nat

/-- FREE VALUE. Which free tag of a link's pool a read takes: R362 states no order. The argument is the draw
number; the result is reduced modulo the pool's tags. -/
opaque tagPick : Nat → Nat

/-- FREE VALUE. A 64-bit value the specification leaves undefined; the argument is the draw number. -/
opaque freeWord : Nat → BitVec 64

/-- FREE VALUE. Where in the device staging the trace area of a pipeline begins; no rule places it. -/
opaque traceBase : Nat → Nat

/-- FREE VALUE. Where in the device staging the Crier's observer queue begins; no rule places it. -/
opaque observerBase : Nat

/-- FREE VALUE. Where in the device staging the Crier's queue of the service port begins; no rule places it. -/
opaque serviceBase : Nat

/-- FREE VALUE. How far, within 2 %, the calendar's tick from AON-16M is off at an instant while the crystal fails (R462). -/
opaque degradedRate : Nat → Nat

/-- FREE VALUE. What half `h` of a step word reads as in a cluster's copy with an uncorrectable error (R78): arguments are
the place of the copy (bank, cluster, index) and the half. -/
opaque damagedStep : Nat → Nat → BitVec 64

/-- FREE VALUE. The Ethernet and IP headers, with UDP's where the transport has it, of a frame of a connection that carries `n`
bytes behind them: the create command passes no addresses of them (Table 10.12). -/
opaque netHead : Nat → Nat → List Nat

/-- FREE VALUE. The port and the paced class that a connection sends on (Table 10.1): no parameter of its create names them. -/
opaque stgClass : Nat → Nat × Nat

/-- The bytes of the identity record in the board's flash (R520), which no rule gives (log entry 123). -/
opaque identityByte : Nat → BitVec 8

/-- FREE VALUE. The invariant CRC of a RoCEv2 frame: it covers header fields that the spec leaves open. -/
opaque invariantCrc : List Nat → List Nat

/-! ## Firmware and keys (R474, R475, R488, R492) -/

/-- The vendor's public key of an index (R474), a point of brainpoolP384r1: the part's own data, which no rule gives. -/
opaque vendorKey : Nat → Nat × Nat

/-- The SHA-384 hash of a vendor key that the ROM holds (R474). -/
opaque vendorRomHash : Nat → List Nat

/-- The hash of the vendor authority's key in ROM (R455). -/
opaque authorityRomHash : List Nat

/-- The public key of a life-cycle authority that has a hash (R455, R474): no command carries it. -/
opaque authorityKey : List Nat → Nat × Nat

/-- The hardware-type key HTK (R474), unreadable. -/
opaque hardwareKey : List Nat

/-- The unit key UK (R474), unreadable. -/
opaque unitKey : List Nat

/-- The private half of the DeviceID key (R474), unreadable. -/
opaque deviceKey : Nat

/-- The DeviceID certificate chain of slot 0 (R480, R482). -/
opaque certChain : List Nat

/-- The table set in a step library's plaintext (R473), if it holds one: no rule gives its byte layout. -/
opaque libraryOf : List Nat → Option TableSet

/-- The compatibility table of a Steward firmware, by the digest of its plaintext, admits the versions of components 1 to 7
beside one another (R488). -/
opaque compatOk : List Nat → List Nat → Bool

/-- The mask that a key-revocation list holds (R492): no rule gives its place in the package. -/
opaque revocationMask : List Nat → Nat

/-- The owner authority key hash that a fuse package holds (R455, R492), if it sets one: no rule gives its place. -/
opaque fuseOwnerKey : List Nat → Option (List Nat)

end Sys2Proof.Config
end

