-- ==== Sys2Proof/Machine/Base.lean ====
section
/-! DEFINITION. Status and condition codes, the sorted sparse table every array of the device is held in,
and the byte packing of packets, replies and event details. -/

namespace Sys2Proof.Machine

/-! ## Status codes (R413, Table 14.10) and condition codes (R44, Table 2.3) -/

/-- The complete set of status codes (Table 14.10). -/
inductive Status where
  | done | doneFallback | deferred | refusedLimit | refusedEmpty | refusedBusy | refusedState
  | refusedPermission | badOpcode | badParam | badLength | failedParity | failedTimeout | failedAuth
  | aborted | frozen
  deriving DecidableEq, Repr

/-- The code of a status (Table 14.10). -/
def Status.code : Status → Nat
  | .done => 0x00 | .doneFallback => 0x01 | .deferred => 0x02
  | .refusedLimit => 0x10 | .refusedEmpty => 0x11 | .refusedBusy => 0x12 | .refusedState => 0x13
  | .refusedPermission => 0x14 | .badOpcode => 0x20 | .badParam => 0x21 | .badLength => 0x22
  | .failedParity => 0x30 | .failedTimeout => 0x31 | .failedAuth => 0x32 | .aborted => 0x33
  | .frozen => 0x34

/-- The status a code names, if it names one. -/
def Status.ofCode (n : Nat) : Option Status :=
  [Status.done, .doneFallback, .deferred, .refusedLimit, .refusedEmpty, .refusedBusy, .refusedState,
    .refusedPermission, .badOpcode, .badParam, .badLength, .failedParity, .failedTimeout, .failedAuth,
    .aborted, .frozen].find? (fun s => s.code = n)

/-- Condition codes 0 to 15 (Table 2.3). -/
inductive Cc where
  | done | alt | deferred | miss | refusedLimit | refusedEmpty | refusedBusy | refusedState
  | refusedPermission | failedParity | failedTimeout | failedAuth | aborted | frozen | malformed
  | badOperand
  deriving DecidableEq, Repr

/-- The 4-bit number of a condition code. -/
def Cc.num : Cc → Nat
  | .done => 0 | .alt => 1 | .deferred => 2 | .miss => 3 | .refusedLimit => 4 | .refusedEmpty => 5
  | .refusedBusy => 6 | .refusedState => 7 | .refusedPermission => 8 | .failedParity => 9
  | .failedTimeout => 10 | .failedAuth => 11 | .aborted => 12 | .frozen => 13 | .malformed => 14
  | .badOperand => 15

/-- All sixteen condition codes in the order of their numbers. -/
def Cc.all : List Cc :=
  [.done, .alt, .deferred, .miss, .refusedLimit, .refusedEmpty, .refusedBusy, .refusedState,
    .refusedPermission, .failedParity, .failedTimeout, .failedAuth, .aborted, .frozen, .malformed,
    .badOperand]

/-- The condition code of a 4-bit number. -/
def Cc.ofNum (n : Nat) : Cc := Cc.all.getD (n % 16) .done

/-- The condition code a status is reported as (Table 2.3). -/
def Status.cc : Status → Cc
  | .done => .done | .doneFallback => .alt | .deferred => .deferred
  | .refusedLimit => .refusedLimit | .refusedEmpty => .refusedEmpty | .refusedBusy => .refusedBusy
  | .refusedState => .refusedState | .refusedPermission => .refusedPermission
  | .badOpcode => .badOperand | .badParam => .badOperand | .badLength => .badOperand
  | .failedParity => .failedParity | .failedTimeout => .failedTimeout | .failedAuth => .failedAuth
  | .aborted => .aborted | .frozen => .frozen

/-! ## Sparse tables

An array of the device is a list of (index, element) pairs with rising indices; an index that is not
listed holds the array's default element. -/

/-- A sparse array: (index, element) pairs, indices strictly rising. -/
abbrev Tbl (α : Type) := List (Nat × α)

/-- The element listed at an index, if one is. -/
def tget {α : Type} : Tbl α → Nat → Option α
  | [], _ => none
  | (k, v) :: t, i => if k = i then some v else tget t i

/-- The element at an index, with the array's default for an index that is not listed. -/
def tgetD {α : Type} (t : Tbl α) (i : Nat) (d : α) : α := (tget t i).getD d

/-- List an element at an index, in place of any element listed there. -/
def tset {α : Type} : Tbl α → Nat → α → Tbl α
  | [], i, x => [(i, x)]
  | (k, v) :: t, i, x =>
    if i < k then (i, x) :: (k, v) :: t
    else if i = k then (i, x) :: t
    else (k, v) :: tset t i x

/-- Remove the element listed at an index. -/
def tdel {α : Type} : Tbl α → Nat → Tbl α
  | [], _ => []
  | (k, v) :: t, i => if k = i then t else (k, v) :: tdel t i

/-- Write an element, keeping the form in which the default element is not listed. -/
def tput {α : Type} [DecidableEq α] (d : α) (t : Tbl α) (i : Nat) (x : α) : Tbl α :=
  if x = d then tdel t i else tset t i x

/-- Apply a change to every listed element. -/
def tmap {α : Type} (t : Tbl α) (f : Nat → α → α) : Tbl α := t.map (fun e => (e.1, f e.1 e.2))

/-- Keep the listed elements a test accepts. -/
def tfilter {α : Type} (t : Tbl α) (f : Nat → α → Bool) : Tbl α := t.filter (fun e => f e.1 e.2)

/-- The number of listed elements a test accepts. -/
def tcount {α : Type} (t : Tbl α) (f : Nat → α → Bool) : Nat := (tfilter t f).length

/-- Whether some listed element passes a test. -/
def tany {α : Type} (t : Tbl α) (f : Nat → α → Bool) : Bool := t.any (fun e => f e.1 e.2)

/-- The sum of a figure over the listed elements. -/
def tsum {α : Type} (t : Tbl α) (f : Nat → α → Nat) : Nat := (t.map (fun e => f e.1 e.2)).sum

/-- Every index listed in a table is above `b`, and the indices rise strictly. -/
def tsortedFrom {α : Type} : Tbl α → Nat → Bool
  | [], _ => true
  | (k, _) :: t, b => b ≤ k && tsortedFrom t (k + 1)

/-- The canonical form of a sparse table whose default element is `d`. -/
def twf {α : Type} [DecidableEq α] (d : α) (t : Tbl α) : Bool :=
  tsortedFrom t 0 && t.all (fun e => decide (e.2 ≠ d))

/-- The first number from `lo` up, below `lo + fuel`, that a table does not list. -/
def firstFree {α : Type} (t : Tbl α) : Nat → Nat → Option Nat
  | 0, _ => none
  | fuel + 1, lo => if (tget t lo).isNone then some lo else firstFree t fuel (lo + 1)

/-- The first answer of a search over `n` numbers from `i` on. -/
def scanFrom {α : Type} (f : Nat → Option α) : Nat → Nat → Option α
  | 0, _ => none
  | n + 1, i =>
    match f i with
    | some x => some x
    | none => scanFrom f n (i + 1)

/-! ## Byte packing (R5, R397, R519) -/

/-- The `n` little-endian bytes of a number (R5). -/
def leBytes : Nat → Nat → List Nat
  | 0, _ => []
  | n + 1, v => v % 256 :: leBytes n (v / 256)

/-- The `n` big-endian bytes of a number. -/
def beBytes (n v : Nat) : List Nat := (leBytes n v).reverse

/-- The number that little-endian bytes hold. -/
def leNat : List Nat → Nat
  | [] => 0
  | b :: t => b + 256 * leNat t

/-- The number that big-endian bytes hold. -/
def beNat (bs : List Nat) : Nat := leNat bs.reverse

/-- The least multiple of `a` that is at least `n`. -/
def alignUp (a n : Nat) : Nat := if a = 0 then n else (n + a - 1) / a * a

/-- One encoded item: a scalar of `size` bytes, aligned to its own size, a byte string, or a list of records as a byte
string whose first record lies at a multiple of its largest field (R397). -/
inductive Fld where
  | num (size value : Nat)
  | bytes (bs : List Nat)
  | list (width : Nat) (body : List Nat)
  deriving DecidableEq, Repr

/-- The bytes of one item that starts at offset `off`: alignment padding, then the item (R397). -/
def Fld.enc (off : Nat) : Fld → List Nat
  | .num sz v => List.replicate (alignUp sz off - off) 0 ++ leBytes sz v
  | .bytes bs =>
    List.replicate (alignUp 4 off - off) 0 ++ leBytes 4 bs.length ++ bs
  | .list width body =>
    let n := alignUp 4 off + 4
    List.replicate (alignUp 4 off - off) 0 ++ leBytes 4 body.length ++
      (if body.isEmpty then [] else List.replicate (alignUp width n - n) 0) ++ body

/-- The bytes of items in order, from offset `off` (R397, R519). -/
def encFrom (off : Nat) : List Fld → List Nat
  | [] => []
  | f :: t => let b := f.enc off; b ++ encFrom (off + b.length) t

/-- Bytes padded with zero bytes to a multiple of `a`. -/
def padTo (a : Nat) (bs : List Nat) : List Nat :=
  bs ++ List.replicate (alignUp a bs.length - bs.length) 0

/-- A parameter or result block: items in order, padded to a multiple of 8 (R397). -/
def encBlock (fs : List Fld) : List Nat := padTo 8 (encFrom 0 fs)

/-- The exclusive or of bytes, the parity of packets and headers (R89, R396, R398). -/
def xorBytes (bs : List Nat) : Nat := bs.foldl (fun a b => a ^^^ b) 0

/-- Bits [hi:lo] of a number (R4). -/
def bits (hi lo v : Nat) : Nat := v / 2 ^ lo % 2 ^ (hi + 1 - lo)

/-- Bit n of a number (R4). -/
def bitOf (n v : Nat) : Bool := v / 2 ^ n % 2 = 1

/-- A flag as the number 0 or 1. -/
def b2n (b : Bool) : Nat := if b then 1 else 0

/-! ## Cyclic redundancy checks -/

/-- One bit of a reflected CRC over 32 bits. -/
def crcBit (poly : Nat) (c : Nat) : Nat := if c % 2 = 1 then (c / 2) ^^^ poly else c / 2

/-- One byte of a reflected CRC over 32 bits. -/
def crcByte (poly c b : Nat) : Nat :=
  (List.range 8).foldl (fun a _ => crcBit poly a) (c ^^^ b % 256)

/-- A reflected CRC over bytes in order, from an initial value, without the final complement. -/
def crcRun (poly init : Nat) (bs : List Nat) : Nat := bs.foldl (crcByte poly) init

/-- The complement of a 32-bit value. -/
def not32 (v : Nat) : Nat := 0xFFFFFFFF - v % 2 ^ 32

end Sys2Proof.Machine
end

