-- ==== Sys2Proof/Machine/Reasons.lean ====
section
/-! DEFINITION. The reason counters of Table 15.1 (R428): the index of each named counter in its set. -/

namespace Sys2Proof.Machine

/-- Counter `reg_write_denied`. -/
def cRegWriteDenied : Nat := 0x00
/-- Counter `viol_double_free`. -/
def cViolDoubleFree : Nat := 0x01
/-- Counter `viol_foreign_free`. -/
def cViolForeignFree : Nat := 0x02
/-- Counter `viol_dma_window`. -/
def cViolDmaWindow : Nat := 0x03
/-- Counter `viol_malformed_entry`. -/
def cViolMalformedEntry : Nat := 0x04
/-- Counter `viol_doorbell`. -/
def cViolDoorbell : Nat := 0x05
/-- Counter `viol_lane_overstay`. -/
def cViolLaneOverstay : Nat := 0x06
/-- Counter `viol_lock_overstay`. -/
def cViolLockOverstay : Nat := 0x07
/-- Counter `viol_mailbox_flood`. -/
def cViolMailboxFlood : Nat := 0x08
/-- Counter `viol_expert_access`. -/
def cViolExpertAccess : Nat := 0x09
/-- Counter `frozen_refused`. -/
def cFrozenRefused : Nat := 0x0A
/-- Counter `fn_force_aborted`. -/
def cFnForceAborted : Nat := 0x0B
/-- Counter `late_cpl`. -/
def cLateCpl : Nat := 0x0C
/-- Counter `pci_cpl_error`. -/
def cPciCplError : Nat := 0x0D
/-- Counter `pci_rx_poisoned`. -/
def cPciRxPoisoned : Nat := 0x0E
/-- Counter `poisoned_discard`. -/
def cPoisonedDiscard : Nat := 0x0F
/-- Counter `step_ecc_uncorrectable`. -/
def cStepEccUncorrectable : Nat := 0x10
/-- Counter `seq_bad_entry`. -/
def cSeqBadEntry : Nat := 0x11
/-- Counter `cq_hold`. -/
def cCqHold : Nat := 0x12
/-- Counter `push_fallback`. -/
def cPushFallback : Nat := 0x13
/-- Counter `tx_fetch_no_cell`. -/
def cTxFetchNoCell : Nat := 0x14
/-- Counter `rx_no_host_buffer`. -/
def cRxNoHostBuffer : Nat := 0x15
/-- Counter `rx_cq_hold_drop`. -/
def cRxCqHoldDrop : Nat := 0x16
/-- Counter `rx_fn_quiesced`. -/
def cRxFnQuiesced : Nat := 0x17
/-- Counter `rx_dest_frozen`. -/
def cRxDestFrozen : Nat := 0x18
/-- Counter `rx_dest_halted`. -/
def cRxDestHalted : Nat := 0x19
/-- Counter `tx_malformed_length`. -/
def cTxMalformedLength : Nat := 0x1A
/-- Counter `tx_malformed_gather`. -/
def cTxMalformedGather : Nat := 0x1B
/-- Counter `tx_malformed_class`. -/
def cTxMalformedClass : Nat := 0x1C
/-- Counter `tx_malformed_offload`. -/
def cTxMalformedOffload : Nat := 0x1D
/-- Counter `tx_port_down`. -/
def cTxPortDown : Nat := 0x1E
/-- Counter `tx_class_full`. -/
def cTxClassFull : Nat := 0x1F
/-- Counter `grn_fallback`. -/
def cGrnFallback : Nat := 0x20
/-- Counter `grn_deferred`. -/
def cGrnDeferred : Nat := 0x21
/-- Counter `grn_refused_empty`. -/
def cGrnRefusedEmpty : Nat := 0x22
/-- Counter `grn_refused_limit`. -/
def cGrnRefusedLimit : Nat := 0x23
/-- Counter `grn_refused_permission`. -/
def cGrnRefusedPermission : Nat := 0x24
/-- Counter `fwt_no_table`. -/
def cFwtNoTable : Nat := 0x25
/-- Counter `fwt_quota`. -/
def cFwtQuota : Nat := 0x26
/-- Counter `learn_fail`. -/
def cLearnFail : Nat := 0x27
/-- Counter `flow_write_fail`. -/
def cFlowWriteFail : Nat := 0x28
/-- Counter `learn_queue_full`. -/
def cLearnQueueFull : Nat := 0x29
/-- Counter `learn_deferred`. -/
def cLearnDeferred : Nat := 0x2A
/-- Counter `hit_on_expiry`. -/
def cHitOnExpiry : Nat := 0x2B
/-- Counter `refresh_lost`. -/
def cRefreshLost : Nat := 0x2C
/-- Counter `fwt_aged`. -/
def cFwtAged : Nat := 0x2D
/-- Counter `police_drop`. -/
def cPoliceDrop : Nat := 0x2E
/-- Counter `fwd_bd_denied`. -/
def cFwdBdDenied : Nat := 0x2F
/-- Counter `fwd_flood`. -/
def cFwdFlood : Nat := 0x30
/-- Counter `fwd_unknown_drop`. -/
def cFwdUnknownDrop : Nat := 0x31
/-- Counter `fwd_hairpin`. -/
def cFwdHairpin : Nat := 0x32
/-- Counter `fwd_local`. -/
def cFwdLocal : Nat := 0x33
/-- Counter `loop_hops_exceeded`. -/
def cLoopHopsExceeded : Nat := 0x34
/-- Counter `loop_refused`. -/
def cLoopRefused : Nat := 0x35
/-- Counter `tun_too_long`. -/
def cTunTooLong : Nat := 0x36
/-- Counter `cip_sa_inactive`. -/
def cCipSaInactive : Nat := 0x37
/-- Counter `cip_foreign_sa`. -/
def cCipForeignSa : Nat := 0x38
/-- Counter `cip_sa_erased`. -/
def cCipSaErased : Nat := 0x39
/-- Counter `cip_sa_mode`. -/
def cCipSaMode : Nat := 0x3A
/-- Counter `cip_length`. -/
def cCipLength : Nat := 0x3B
/-- Counter `cip_key_parity`. -/
def cCipKeyParity : Nat := 0x3C
/-- Counter `cip_seq_exhausted`. -/
def cCipSeqExhausted : Nat := 0x3D
/-- Counter `cip_lease_wait`. -/
def cCipLeaseWait : Nat := 0x3E
/-- Counter `cip_replay`. -/
def cCipReplay : Nat := 0x3F
/-- Counter `cip_busy`. -/
def cCipBusy : Nat := 0x40
/-- Counter `cip_auth_fail`. -/
def cCipAuthFail : Nat := 0x41
/-- Counter `cip_replay_takeover`. -/
def cCipReplayTakeover : Nat := 0x42
/-- Counter `haul_timeout`. -/
def cHaulTimeout : Nat := 0x43
/-- Counter `haul_poisoned`. -/
def cHaulPoisoned : Nat := 0x44
/-- Counter `haul_bad_desc`. -/
def cHaulBadDesc : Nat := 0x45
/-- Counter `haul_refused`. -/
def cHaulRefused : Nat := 0x46
/-- Counter `haul_run_limit`. -/
def cHaulRunLimit : Nat := 0x47
/-- Counter `haul_tbl_refused`. -/
def cHaulTblRefused : Nat := 0x48
/-- Counter `haul_start_refused`. -/
def cHaulStartRefused : Nat := 0x49
/-- Counter `haul_ack_wait`. -/
def cHaulAckWait : Nat := 0x4A
/-- Counter `haul_queue_full`. -/
def cHaulQueueFull : Nat := 0x4B
/-- Counter `stg_bad_entry`. -/
def cStgBadEntry : Nat := 0x4C
/-- Counter `stg_conn_absent`. -/
def cStgConnAbsent : Nat := 0x4D
/-- Counter `stg_conn_not_active`. -/
def cStgConnNotActive : Nat := 0x4E
/-- Counter `stg_conn_foreign`. -/
def cStgConnForeign : Nat := 0x4F
/-- Counter `stg_cmd_limit`. -/
def cStgCmdLimit : Nat := 0x50
/-- Counter `stg_turn_full`. -/
def cStgTurnFull : Nat := 0x51
/-- Counter `stg_bad_cid`. -/
def cStgBadCid : Nat := 0x52
/-- Counter `stg_cmd_timeout`. -/
def cStgCmdTimeout : Nat := 0x53
/-- Counter `stg_late_response`. -/
def cStgLateResponse : Nat := 0x54
/-- Counter `stg_ddgst_error`. -/
def cStgDdgstError : Nat := 0x55
/-- Counter `stg_nvme_error`. -/
def cStgNvmeError : Nat := 0x56
/-- Counter `stg_retx`. -/
def cStgRetx : Nat := 0x57
/-- Counter `stg_tcp_ooo`. -/
def cStgTcpOoo : Nat := 0x58
/-- Counter `stg_conn_failed`. -/
def cStgConnFailed : Nat := 0x59
/-- Counter `stg_cmd_aborted`. -/
def cStgCmdAborted : Nat := 0x5A
/-- Counter `stg_closed_drop`. -/
def cStgClosedDrop : Nat := 0x5B
/-- Counter `stg_wrong_pipeline`. -/
def cStgWrongPipeline : Nat := 0x5C
/-- Counter `mbx_busy`. -/
def cMbxBusy : Nat := 0x5D
/-- Counter `admin_reply_hold`. -/
def cAdminReplyHold : Nat := 0x5E
/-- Counter `stw_bad_packet`. -/
def cStwBadPacket : Nat := 0x5F
/-- Counter `stw_denied`. -/
def cStwDenied : Nat := 0x60
/-- Counter `stw_busy`. -/
def cStwBusy : Nat := 0x61
/-- Counter `stw_cmd_refused`. -/
def cStwCmdRefused : Nat := 0x62
/-- Counter `compat_unsupported`. -/
def cCompatUnsupported : Nat := 0x63
/-- Counter `rx_malformed`. -/
def cRxMalformed : Nat := 0x64
/-- Counter `latency_over_bound_rx`. -/
def cLatencyOverBoundRx : Nat := 0x68
/-- Counter `latency_over_bound_push`. -/
def cLatencyOverBoundPush : Nat := 0x69
/-- Counter `latency_over_bound_w2w`. -/
def cLatencyOverBoundW2w : Nat := 0x6A
/-- Counter `rx_wake_held`. -/
def cRxWakeHeld : Nat := 0x6B
/-- Counter `fwd_bad_port`. -/
def cFwdBadPort : Nat := 0x6C
/-- Counter `fwd_too_long`. -/
def cFwdTooLong : Nat := 0x6D
/-- Counter `grn_scrub_bytes`. -/
def cGrnScrubBytes : Nat := 0x6E
/-- Counter `fwt_parity`. -/
def cFwtParity : Nat := 0x6F
/-- Counter `step_ecc_corrected`. -/
def cStepEccCorrected : Nat := 0x70
/-- Counter `copy_refused`. -/
def cCopyRefused : Nat := 0x71
/-- Counter `tun_fragment`. -/
def cTunFragment : Nat := 0x72
/-- Counter `tun_ip_options`. -/
def cTunIpOptions : Nat := 0x73
/-- Counter `tun_bad_version`. -/
def cTunBadVersion : Nat := 0x74
/-- Counter `tun_gre_unsupported`. -/
def cTunGreUnsupported : Nat := 0x75
/-- Counter `tun_geneve_critical`. -/
def cTunGeneveCritical : Nat := 0x76
/-- Counter `tun_no_tunnel`. -/
def cTunNoTunnel : Nat := 0x77
/-- Counter `tun_ecn_drop`. -/
def cTunEcnDrop : Nat := 0x78
/-- Counter `stg_timer_delay`. -/
def cStgTimerDelay : Nat := 0x79
/-- Counter `stg_owner_frozen`. -/
def cStgOwnerFrozen : Nat := 0x7A
/-- Counter `stg_twin_idle`. -/
def cStgTwinIdle : Nat := 0x7B
/-- Counter `twin_frame_bad`. -/
def cTwinFrameBad : Nat := 0x7C
/-- Counter `twin_link_resend`. -/
def cTwinLinkResend : Nat := 0x7D
/-- Counter `twin_stale_epoch`. -/
def cTwinStaleEpoch : Nat := 0x7E
/-- Counter `twin_diverged`. -/
def cTwinDiverged : Nat := 0x7F
/-- Counter `twin_hb_missed`. -/
def cTwinHbMissed : Nat := 0x80
/-- Counter `twin_peer_loss`. -/
def cTwinPeerLoss : Nat := 0x81
/-- Counter `pci_tag_wait`. -/
def cPciTagWait : Nat := 0x82
/-- Counter `pci_unexpected_cpl`. -/
def cPciUnexpectedCpl : Nat := 0x83
/-- Counter `pwr_force_aborted`. -/
def cPwrForceAborted : Nat := 0x84
/-- Counter `rx_pipe_down`. -/
def cRxPipeDown : Nat := 0x85
/-- Counter `event_log_lost`. -/
def cEventLogLost : Nat := 0x86
/-- Counter `svc_unauth`. -/
def cSvcUnauth : Nat := 0x87
/-- Counter `cnt_bad_index`. -/
def cCntBadIndex : Nat := 0x88
/-- Counter `cnt_parity`. -/
def cCntParity : Nat := 0x89
/-- Counter `trace_lost`. -/
def cTraceLost : Nat := 0x8A
/-- Counter `crier_lost`. -/
def cCrierLost : Nat := 0x8B

/-! Per-port counters: counter k of port n is at 0x90 + 8k + n. -/

/-- Counter `rx_aborted` of port `n`. -/
def cRxAborted (n : Nat) : Nat := 0x90 + 8 * 0 + n % 8
/-- Counter `rx_runt` of port `n`. -/
def cRxRunt (n : Nat) : Nat := 0x90 + 8 * 1 + n % 8
/-- Counter `rx_group_filtered` of port `n`. -/
def cRxGroupFiltered (n : Nat) : Nat := 0x90 + 8 * 2 + n % 8
/-- Counter `rx_no_cell` of port `n`. -/
def cRxNoCell (n : Nat) : Nat := 0x90 + 8 * 3 + n % 8
/-- Counter `rx_oversize` of port `n`. -/
def cRxOversize (n : Nat) : Nat := 0x90 + 8 * 4 + n % 8
/-- Counter `rx_fcs_error` of port `n`. -/
def cRxFcsError (n : Nat) : Nat := 0x90 + 8 * 5 + n % 8
/-- Counter `rx_admit_overflow` of port `n`. -/
def cRxAdmitOverflow (n : Nat) : Nat := 0x90 + 8 * 6 + n % 8
/-- Counter `rx_pfc_frames` of port `n`. -/
def cRxPfcFrames (n : Nat) : Nat := 0x90 + 8 * 7 + n % 8
/-- Counter `rx_mac_control_dropped` of port `n`. -/
def cRxMacControlDropped (n : Nat) : Nat := 0x90 + 8 * 8 + n % 8
/-- Counter `tx_poisoned_stomped` of port `n`. -/
def cTxPoisonedStomped (n : Nat) : Nat := 0x90 + 8 * 9 + n % 8
/-- Counter `tx_link_flush` of port `n`. -/
def cTxLinkFlush (n : Nat) : Nat := 0x90 + 8 * 10 + n % 8
/-- Counter `tx_reconfig_flush` of port `n`. -/
def cTxReconfigFlush (n : Nat) : Nat := 0x90 + 8 * 11 + n % 8
/-- Counter `tx_disable_flush` of port `n`. -/
def cTxDisableFlush (n : Nat) : Nat := 0x90 + 8 * 12 + n % 8
/-- Counter `tx_ts_lost` of port `n`. -/
def cTxTsLost (n : Nat) : Nat := 0x90 + 8 * 13 + n % 8

end Sys2Proof.Machine
end

