-- ==== Sys2Proof/Machine/State.lean ====
section
/-! DEFINITION. The state of the part as plain data, block by block, the machine right after reset, and
the reasons a command can stop. Arrays are sparse tables (Base.lean); an index that is not listed holds
the default element named beside the array. -/

namespace Sys2Proof.Machine

/-! ## What leaves the part -/

/-- The requests, messages and frames the part sends, in the order it posts them (R357). The model's own
record of them; no rule reads it back. -/
inductive Emit where
  | hostWrite (fid addr : Nat) (bytes : List PByte)
  | hostRead (fid addr len link tag : Nat)
  | msix (fid vec : Nat)
  | inta (assert : Bool)
  | frame (port : Nat) (bytes : List PByte) (badFcs : Bool)
  | pfc (port prio time : Nat)
  | remoteFault (port : Nat) (on : Bool)
  | reply (path : Path) (fid : Nat) (bytes : List Nat)
  | twin (dir : Nat) (frame : List Nat)
  | chain (pair type kind off version digestId : Nat) (payload : List Nat)
  | spdm (path : SpdmPath) (bytes : List Nat)
  | pmPme | pmeToAck | wakeLow | wakeHigh
  | sideband (cage dir dev off len : Nat) (data : List Nat)
  | crier (dest addr port : Nat) (bytes : List Nat)
  | smbusRelease
  deriving DecidableEq, Repr

/-! ## Device block, event log and Steward (chapter 14) -/

/-- One event-log entry (Table 14.11). -/
structure EventEntry where
  seq : Nat := 0
  code : Nat := 0
  fid : Nat := 0
  time : Nat := 0
  detail : List Nat := []
  deriving DecidableEq, Repr

/-- Device block: DEV_ registers, the event log (R414 to R416), the wipes (R453) and the identity
record's subsystem IDs (R352, R520). -/
structure Dev where
  compatEnable : Bool := false
  logProd : W32 := 0
  logCons : W32 := 0
  lostPending : Nat := 0
  lostTotal : W32 := 0
  log : Tbl EventEntry := []
  eventSeq : W32 := 0
  wipeDone : Bool := false
  sramWiping : Bool := false
  rldWiping : Bool := false
  subsysVendor : Nat := 0x1EA7
  subsysId : Nat := 0
  deriving DecidableEq, Repr

/-- A packet accepted on a path and not yet executed (R404, R405); `compat` is the old opcode of a
ZCH-0820 packet (R421). -/
structure Accepted where
  path : Path
  fid : Nat
  opcode : Nat
  tag : Nat
  notify : Bool
  params : List Nat
  ns : Nat
  cal : Nat := 0
  compat : Option Nat := none
  deriving DecidableEq, Repr

/-- The kinds of object a background command holds (R407). -/
inductive Obj where
  | fid (n : Nat) | ring (type n : Nat) | bank (n : Nat) | port (n : Nat) | cage (n : Nat)
  | table (n : Nat) | sa (n : Nat) | conn (n : Nat) | channel (n : Nat) | component (n : Nat) | domain (n : Nat)
  | staging | chainSlots
  deriving DecidableEq, Repr

/-- The end of a command: its status, item index and results (Table 14.2). -/
structure CmdEnd where
  status : Status
  item : Nat := 0xFFFF
  results : List Fld := []
  deriving DecidableEq, Repr

/-- A command running in the background (R407). `fin` is its end once it is known; `deadline` is the
instant by which a wait in it ends. -/
structure BgCmd where
  opcode : Nat
  m : Meta
  ns : Nat
  params : List Nat
  compat : Option Nat
  objs : List Obj
  fin : Option CmdEnd
  deadline : Nat := 0
  deriving DecidableEq, Repr

/-- Steward: STW_ registers and working state (R400 to R407, R423, R450). `restartAt` is the instant at which a requested
restart began, once no command was executing; `fore` holds the command in the foreground that has acted and has not replied;
`lcChange` says that a life-cycle change is in progress (R457), `mgmtI3c` what STRAP_MGMT read at the last release of PERST#
(R507, R509). -/
structure Stw where
  ready : Bool := false
  admEnable : Bool := false
  admSizeLog2 : Nat := 6
  cmdBase : Nat := 0
  rplBase : Nat := 0
  ctrAddr : Nat := 0
  cmdProd : W32 := 0
  cmdCons : W32 := 0
  rplProd : W32 := 0
  rplCons : W32 := 0
  admHeld : Bool := false
  svcMask : Nat := 0x0E01
  mctpMask : Nat := 0x0E01
  udpPort : Nat := 0x1640
  mbxSel : Nat := 1
  accepted : List Accepted := []
  bg : List BgCmd := []
  fore : List BgCmd := []
  rotation : Nat := 0
  vfPointer : Nat := 0
  svcQueue : List (List Nat) := []
  mctpQueue : List (List Nat) := []
  restarting : Bool := false
  restartAt : Option Nat := none
  lcChange : Bool := false
  mgmtI3c : Bool := false
  rldAt : Option Nat := none
  deriving DecidableEq, Repr

/-- A function's mailbox (R401, Table 14.4): state 0 IDLE, 1 BUSY, 2 REPLY. `taken` is the command buffer as the Steward read it
at the doorbell. -/
structure Mbx where
  st : Nat := 0
  lastStatus : Nat := 0
  lastOpcode : Nat := 0
  busyRefused : W32 := 0
  cmd : Tbl Nat := []
  taken : Tbl Nat := []
  reply : List Nat := []
  window : Nat := 0
  count : Nat := 0
  deriving DecidableEq, Repr

/-! ## Functions (chapter 11) -/

/-- Instance states (Table 11.3). -/
inductive InstState where
  | absent | active | quiescing | quiesced | resetting
  deriving DecidableEq, Repr

/-- A DMA window (R321); `pages` 0 means unused. -/
structure Win where
  base : Nat := 0
  pages : Nat := 0
  read : Bool := false
  write : Bool := false
  deriving DecidableEq, Repr

/-- The counts of a quiesce report (Table 11.4). -/
structure QReport where
  fetched : Nat := 0
  parked : Nat := 0
  haulRuns : Nat := 0
  reads : Nat := 0
  lanes : Nat := 0
  locks : Nat := 0
  slots : Nat := 0
  backlog : Nat := 0
  uncovered : Nat := 0
  granary : Nat := 0
  frozenDuring : Bool := false
  deriving DecidableEq, Repr

/-- What ends a RESETTING state: a reset, a remove, or a forced reset (R320, R332). -/
inductive ResetKind where
  | reset | remove | forced
  deriving DecidableEq, Repr

/-- Function manager record of one FID (Tables 11.2, 11.3, 11.13). -/
structure Fn where
  st : InstState := .absent
  frozen : Bool := false
  releaseOk : Bool := false
  rawTable : Bool := false
  rawHook : Bool := false
  hookRegion : Nat := 0x7F
  shares : Shares := ⟨0, 0, 0⟩
  mbxPerMs : Nat := 64
  tx : Nat := 0
  rx : Nat := 0
  cq : Nat := 0
  msix : Nat := 0
  haul : Nat := 0
  policers : Nat := 0
  violCode : Nat := 0
  violMask : Nat := 0
  violTarget : Nat := 0
  violDetail : Nat := 0
  violTime : Nat := 0
  windows : Tbl Win := []
  lastQ : QReport := {}
  lastQStatus : Nat := 0
  quiesceUntil : Option Nat := none
  qSeen : QReport := {}
  violAt : Option Nat := none
  frozenDuring : Bool := false
  resetKind : Option ResetKind := none
  mbx : Mbx := {}
  deriving DecidableEq, Repr

/-- The snapshot a write of FN_SEL takes (R346). -/
structure FnSnap where
  fid : Nat := 0
  fn : Fn := {}
  vfEnabled : Bool := false
  deriving DecidableEq, Repr

/-- Function manager, device wide (Table 11.12). `stocksDue` holds the FIDs whose violations of this cycle are to be logged at its
end (R335). -/
structure FnMgr where
  ready : Bool := false
  confinement : Nat := 0
  fwAuthentic : Bool := false
  isoHolds : Bool := false
  sel : FnSnap := {}
  stocksDue : List Nat := []
  deriving DecidableEq, Repr

/-! ## Counters, traces and the Crier (chapter 15) -/

/-- A reason counter word with its parity mark (R427). -/
structure CntWord where
  v : W64 := 0
  mark : Bool := false
  deriving DecidableEq, Repr

/-- A snapshot slot of the CNT window (R431, R432). -/
structure Slot where
  fid : Nat := 0
  done : Bool := false
  gen : Nat := 0
  time : Nat := 0
  words : List Nat := []
  deriving DecidableEq, Repr

/-- Counter sets, snapshots, trace set-up and the Crier. Counter i of set f is at index f * 256 + i. `obsQueue` and `svcQueue`
hold closed chunks, of which the one at the head is chunk `obsRead` or `svcRead` of its ring, `svcOff` counts the bytes of the
head chunk that the service port has sent, `dueExports` are the counter records of exports that their messages still have to
carry, `svcFreeAt` is the instant from which the service port can send its next message. -/
structure Cnt where
  ready : Bool := false
  words : Tbl CntWord := []
  snapSlot : Nat := 0
  snapFid : Nat := 0
  snapGo : Bool := false
  snapWords : List Nat := []
  snapTime : Nat := 0
  slots : Tbl Slot := []
  traceN : Nat := 0
  traceMask : Nat := 0
  exporting : Bool := false
  interval : Nat := 0
  dest : Nat := 0
  collector : Nat := 0
  collectorPort : Nat := 0
  channel : Nat := 0
  templates : Nat := 0
  exports : W32 := 0
  lastExport : Option Nat := none
  lastValues : Tbl W64 := []
  firstExport : Bool := true
  tmplDue : Bool := true
  seqNo : W32 := 0
  obsQueue : List (List Nat) := []
  obsOpen : List Nat := []
  obsRead : Nat := 0
  svcQueue : List (List Nat) := []
  svcRead : Nat := 0
  svcOff : Nat := 0
  svcOpen : List Nat := []
  dueExports : List (List (Nat × List Nat)) := []
  svcFreeAt : Nat := 0
  deriving DecidableEq, Repr

/-! ## Step engines (chapter 2) -/

/-- Bank states (Table 2.8). -/
inductive BankState where
  | idle | loading | verifying | sealed | current | draining
  deriving DecidableEq, Repr

/-- A hook region assigned in a bank: owner, shares and its s_max, a_max (R74, R517). -/
structure HookReg where
  fid : Nat
  shares : Shares
  deriving DecidableEq, Repr

/-- A step-table bank (R47, Table 2.8): step words by index, assigned hook regions, what its image
declared, and the uncorrectable or correctable errors its cluster copies hold (cluster * 65536 + index:
1 correctable, 2 uncorrectable). -/
structure Bank where
  st : BankState := .idle
  steps : Tbl W128 := []
  hooks : Tbl HookReg := []
  decl : Option TableDecl := none
  sealStatus : Nat := 0
  failIndex : Nat := 0
  bMax : Nat := 0
  drainFrom : Nat := 0
  ecc : Tbl Nat := []
  deriving DecidableEq, Repr

/-- Context states (R50): READY; WAIT for a unit's answer; and WAIT with a delivery that an earlier packet of its destination
holds back (R18, R51). FREE is an absent context, and PARKED packets stand in the parked list. -/
inductive CtxState where
  | ready | wait | held
  deriving DecidableEq, Repr

/-- Fix-up marks of a packet (R229): outer IP and UDP offsets, 0x1FF for none. -/
structure FixMarks where
  ip : Nat
  udp : Nat
  deriving DecidableEq, Repr

/-- The trace being taken of a packet (R434, Table 15.2). -/
structure Trace where
  dispatchNs : Nat
  fid : Nat
  entry : Nat
  bank : Nat
  port : Nat
  parked : Bool
  entries : List Nat
  truncated : Bool
  deriving DecidableEq, Repr

/-- What the end point of a path measures (R32): the path class (0 receive, 1 push-transmit, 2 wire-to-wire), TIME at the
start point, and the budget that the class declares in the bank of the packet. -/
structure Meas where
  cls : Nat
  start : Nat
  budget : Nat
  deriving DecidableEq, Repr

/-! ### The shipped storage library (chapter 10) -/

/-- A command that the storage library carries out: its identifier, the submitting FID, its direction, its encryption, its
length and gather elements, and whether a data digest of it did not match (R296, R307, R308). -/
structure LibCmd where
  cid : Nat
  fid : Nat
  toHost : Bool
  xts : Bool
  sa : Nat
  dun : Nat
  len : Nat
  gather : List (Nat × Nat)
  bad : Bool := false
  deriving DecidableEq, Repr

/-- A PDU or capsule that the library sends, until the target has acknowledged it: the first number it takes, its header with the
header digest, and the data of a command that follows (command, offset, length). -/
structure LibItem where
  seq : Nat := 0
  head : List Nat
  data : Option (LibCmd × Nat × Nat) := none
  ddgst : Bool := false
  deriving DecidableEq, Repr

/-- What the library is in the middle of receiving: header bytes, then bytes before the data, then the data of a slot (`keep`
false: it is discarded) with its running digest, then the digest bytes (R307). -/
structure LibIn where
  head : List Nat := []
  pad : Nat := 0
  slot : Nat := 0
  keep : Bool := false
  base : Nat := 0
  off : Nat := 0
  left : Nat := 0
  crc : Nat := 0xFFFFFFFF
  tail : List Nat := []
  needTail : Bool := false
  deriving DecidableEq, Repr

/-- A part of a data unit that has come: the command's identifier, its place in the command's data, and the pool 3 chain that
gathers it until the unit is whole (R308). -/
structure LibFrag where
  cid : Nat
  off : Nat
  len : Nat
  cell : Nat
  deriving DecidableEq, Repr

/-- What the library keeps in the lines of a connection's record: numbers of the transport (oldest unacknowledged, next to send,
next to receive; the peer's window and the connection's own, the segment size or path MTU, the queue pairs), the expiries since
the last progress, the sequence of acknowledged requests, what it has sent and waits to send, what it is receiving, the parts of
data units, and its commands by slot. -/
structure LibRec where
  una : Nat := 0
  nxt : Nat := 0
  rcv : Nat := 0
  wnd : Nat := 0
  own : Nat := 0
  mss : Nat := 0
  qpn : Nat := 0
  peer : Nat := 0
  tries : Nat := 0
  msn : Nat := 0
  sent : List LibItem := []
  waiting : List LibItem := []
  inp : LibIn := {}
  frags : List LibFrag := []
  cmds : Tbl LibCmd := []
  deriving DecidableEq, Repr

/-- A part of a haul list: zeros, or bytes between the data chain from an offset on and a host address. -/
structure LibPiece where
  zero : Bool
  toHost : Bool
  host : Nat
  off : Nat
  len : Nat
  deriving DecidableEq, Repr

/-- A frame to send: transport header, and `n` bytes from `at_` of a PDU, which is a head, `data` bytes of the data chain from
`skip` on, and a data digest where it has one; `tcp` says that the header's checksum is TCP's. -/
structure LibFrame where
  tcp : Bool
  hdr : List Nat
  head : List Nat
  skip : Nat := 0
  data : Nat := 0
  ddgst : Bool := false
  at_ : Nat
  n : Nat
  deriving DecidableEq, Repr

/-- What the library does next in a packet: a step of a unit, or the bytes that steps of its own put into a chain (`fill`, `list`,
`frame`, and `keep` for a part of a data unit). -/
inductive LibOp where
  | get
  | handoff (inbound : Bool)
  | write (line : Nat) (timed : Bool) (timer : Nat)
  | complete (slot : Nat) (quarantine : Bool) (status nvme cid result : Nat)
  | release (slot : Nat)
  | fail (cause : Nat)
  | alloc (dst len : Nat)
  | free (dst : Nat)
  | freeKept (cell : Nat)
  | fill (bs : List PByte)
  | keep (cid off : Nat) (bs : List PByte)
  | list (ps : List LibPiece)
  | haul (chan count : Nat) (slot : Option Nat)
  | record (decrypt hold : Bool) (sa fid off len dun slot cid : Nat)
  | frame (f : LibFrame)
  | xmit (port cls len : Nat)
  | count (fid i : Nat)
  | finish
  | drop (i status : Nat)
  deriving DecidableEq, Repr

/-- The library's work on a packet: its connection and acting FID, whether the packet holds the turn, the steps that remain (the
first is the one to issue), the words whose chains it has to free, the connection's record as it will be written back, and the
chains that only this record names yet. -/
structure LibRun where
  conn : Nat
  fid : Nat
  turn : Bool
  plan : List LibOp
  held : List Nat := []
  draft : Option LibRec := none
  kept : List Nat := []
  deriving DecidableEq, Repr

/-- A packet: in an admission queue, in a context, or parked. `ord` is its place in R18's order;
`chains` the first cells of the chains it
holds; `ring` the transmit queue and entry position it stands for;
`conn` the connection whose turn it holds; `startNs`
TIME at its start point and `pathClass` how it came: 0 looped, 1 pushed, 2 from a port (R32), `dispNs` the instant of its dispatch;
`readCc` the first failure among the pieces of its host read (R84), `ep` whether a haul run of it wrote
poisoned data to the host (R303); `hookRet` the HOOK step to resume at (R71); `logged` whether its event 0x0022 has been
reported (R68, R70); `doneAt` the place of its read or run in the order in which they ended (R53); `lib` the work of the shipped
storage library on it (log entry 125). -/
structure Pkt where
  ord : Nat
  words : List PWord
  bank : Nat := 0
  pc : Nat := 0
  entry : Nat := 0
  st : CtxState := .ready
  chains : List Nat := []
  gen : Nat := 0
  looped : Bool := false
  fix : Option FixMarks := none
  hookRet : Option Nat := none
  ring : Option (Nat × W32) := none
  conn : Option Nat := none
  lane : Option Nat := none
  trace : Option Trace := none
  startNs : Nat := 0
  dispNs : Nat := 0
  pathClass : Option Nat := none
  result : Option Cc := none
  resultDst : Option PWord := none
  readCc : Option Cc := none
  ep : Bool := false
  logged : Bool := false
  doneAt : Nat := 0
  parkCell : Option Nat := none
  lib : Option LibRun := none
  deriving DecidableEq, Repr

/-- One pipeline of the step engines (R22, R49 to R53): contexts by number 0 to 255 (engine * 8 + slot),
the admission queue, the parked list, and the engine that issued last. -/
structure Pipe where
  ctxs : Tbl Pkt := []
  admission : List Pkt := []
  parked : List Pkt := []
  nextOrd : Nat := 0
  residencyPeak : Nat := 0
  traceCount : Nat := 0
  traced : W32 := 0
  area : List (List Nat) := []
  lastIssue : Tbl Nat := []
  deriving DecidableEq, Repr

/-- Step engines: banks A and B, four pipelines, and the SEQ_ registers; `nextDone` numbers the reads and runs of parked
packets in the order in which they end (R53). -/
structure Seq where
  bankA : Bank := {}
  bankB : Bank := {}
  pipe0 : Pipe := {}
  pipe1 : Pipe := {}
  pipe2 : Pipe := {}
  pipe3 : Pipe := {}
  epochB : Bool := false
  flipStatus : Nat := 0
  winBank : Nat := 0
  readCluster : Nat := 0
  loLatched : Option (Nat × Nat) := none
  eccCorrected : Nat := 0
  eccUncorrectable : Nat := 0
  eccCluster : Nat := 0
  eccBank : Nat := 0
  eccSeen : Bool := false
  lastScrub : Nat := 0
  nextDone : Nat := 0
  deriving DecidableEq, Repr

/-! ## Rings (chapter 3) -/

/-- Ring states (Table 3.8). -/
inductive RingState where
  | notReady | stopped | running | held | haltedHost | haltedError | frozen | quiescing
  deriving DecidableEq, Repr

/-- A fetched entry that has not retired (R106). `outcome` is set when its work has ended; `ord` is the place that its packet
took in its pipeline's order (R18). -/
structure Entry where
  pos : W32
  fin : W32
  opcode : Nat
  cmpl : Bool
  tag : Nat
  outcome : Option Status := none
  ord : Option Nat := none
  deriving DecidableEq, Repr

/-- A transmit or receive ring (Tables 3.1, 3.12). `base0` is the completion base (R109), `staged` the pushed entries awaiting
fetch by position with TIME at their arrival, `marks` the positions accepted as fallbacks (R99, R101), `covered` the entries
retired since the completion base, `fetching` whether an entry fetch is outstanding, `fenced` whether the entry at F waits for
its fence (R104), `failed` the fetch failures still to be completed, with F as it was at each (R108), `coverFrozen` whether the
first start owes a FROZEN completion (R338). -/
structure Ring where
  fid : Nat
  window : Nat
  base : Nat
  sizeLog2 : Nat
  cq : Nat
  pipeline : Nat := 0
  program : Nat := 0
  ts : Bool := false
  effWeight : Nat := 1
  effBurst : Nat := 1
  st : RingState := .stopped
  p : W32 := 0
  c : W32 := 0
  f : W32 := 0
  base0 : W32 := 0
  covered : Nat := 0
  entries : List Entry := []
  staged : List (W32 × Nat × List Nat) := []
  marks : List W32 := []
  fetching : Bool := false
  fenced : Bool := false
  failed : List (Status × W32) := []
  coverFrozen : Bool := false
  deriving DecidableEq, Repr

/-- A completion entry waiting in a backlog (R116): its 16 bytes and, for an entry that moves a queue's C
(R95), that queue (receive or transmit, and number) and the position; `meas` what its counter write measures. -/
structure BackItem where
  bytes : List Nat
  queue : Option (Bool × Nat) := none
  pos : W32 := 0
  meas : Option Meas := none
  deriving DecidableEq, Repr

/-- A completion ring (Tables 3.1, 3.13); `zero` while its credit stands at zero (R117), `owed` while a counter write and its
signal wait for the function to issue requests again (R518). -/
structure CqRing where
  fid : Nat
  window : Nat
  base : Nat
  sizeLog2 : Nat
  ctrAddr : Nat
  msix : Nat
  st : RingState := .stopped
  armed : Bool := false
  pc : W32 := 0
  c : W32 := 0
  backlog : List BackItem := []
  reserved : Nat := 0
  zero : Bool := false
  owed : Bool := false
  deriving DecidableEq, Repr

/-- The scheduler of one pipeline (R103): pass and rounds of QM_PIPE_p, the queue visited last in the
pass, and the fetches left in the visit. -/
structure Sched where
  pass : Nat := 0
  rounds : W32 := 0
  last : Option Nat := none
  left : Nat := 0
  deriving DecidableEq, Repr

/-- Queue manager; `weights` holds weight and burst of QM_WEIGHT_q, for rings that exist and for rings that do not. -/
structure Qm where
  ready : Bool := false
  tx : Tbl Ring := []
  rx : Tbl Ring := []
  cq : Tbl CqRing := []
  weights : Tbl (Nat × Nat) := []
  sched : Tbl Sched := []
  deriving DecidableEq, Repr

/-! ## Granary (chapter 4) -/

/-- A pool (Table 4.13): kind 0 unregistered, 1 sized, 2 chain, 3 on-chip. -/
structure Pool where
  kind : Nat := 0
  set : Nat := 0
  sizeLog2 : Nat := 0
  count : Nat := 0
  first : Nat := 0
  base : Nat := 0
  spaceFid : Nat := 0xFFF
  pressure : Nat := 1
  pointer : Nat := 0
  cursor : Nat := 0
  deriving DecidableEq, Repr

/-- A buffer's ledger entry (Table 4.2): state 0 FREE_CLEAN, 1 FREE_DIRTY, 2 HELD; on-chip cells also
link to the next cell of their chain (R134). -/
structure Buf where
  owner : Nat
  st : Nat
  issues : Nat := 0
  link : Option Nat := none
  deriving DecidableEq, Repr

/-- A share record (R135). -/
structure Share where
  mn : Nat := 0
  mx : Nat := 0
  weight : Nat := 0
  deriving DecidableEq, Repr

/-- Who made a waiting Granary request (R142). -/
inductive Requester where
  | step (p c : Nat)
  | haul (ch : Nat)
  deriving DecidableEq, Repr

/-- An inline scrub under way (R148): the buffers taken with the ledger entries they had, the list cell
taken with them, whether the pool comes after the home pool, and the instant it began. -/
structure ScrubJob where
  bufs : List (Nat × Buf)
  list : Option Nat
  fallback : Bool
  began : Nat
  deriving DecidableEq, Repr

/-- A waiting Granary request (R141, R142), or one whose inline scrub is under way (R148); `came` is the instant at which it
arrived (R139), `allLimit` says that every pool blocked on limit at its last attempt. -/
structure WaitReq where
  id : Nat
  who : Requester
  owner : Nat
  set : Nat
  len : Nat
  came : Nat
  deadline : Nat
  dst : Nat
  waited : Bool := false
  allLimit : Bool := false
  scrub : Option ScrubJob := none
  deriving DecidableEq, Repr

/-- Granary. `bufs` is keyed by handle (R133); an on-chip cell that is not listed is FREE_CLEAN, a host
buffer of a registered pool that is not listed is FREE_DIRTY with last owner 0xFFE (R131). `data` holds
the bytes of each held on-chip chain by the handle of its first cell. Shares are at pool * 4096 + FID. -/
structure Grn where
  ready : Bool := false
  scrubRate : Nat := 100
  pools : Tbl Pool := []
  bufs : Tbl Buf := []
  data : Tbl (List PByte) := []
  shares : Tbl Share := []
  waiting : List WaitReq := []
  nextId : Nat := 0
  violCode : Nat := 0
  violFid : Nat := 0
  violHolder : Nat := 0
  violHandle : Nat := 0
  shareSelPool : Nat := 0
  shareSelFid : Nat := 0
  query : Nat := 0
  queryDone : Bool := false
  queryState : Nat := 0
  queryOwner : Nat := 0
  queryIssues : Nat := 0
  scrubAt : Nat := 0
  ledgerAt : Option Nat := none
  deriving DecidableEq, Repr

/-! ## Forwarding tables (chapter 5) -/

/-- A table entry (Table 5.2); `mark` says that its compared bytes carry a parity mark (R163), `resMark` that its result bytes
do. -/
structure FEntry where
  origin : Bool
  noAge : Bool
  table : Nat
  owner : Nat
  lastHit : W32
  key : List Nat
  result : List Nat
  mark : Bool := false
  resMark : Bool := false
  deriving DecidableEq, Repr

/-- An overflow entry (R156): home bucket, order of entry into the store, whether a bucket copy exists (between h1 and h1 + 2,
R171), and whether a bucket image wrote that copy (R179). -/
structure OvfEntry where
  e : FEntry
  bucket : Nat
  ord : Nat
  homed : Bool := false
  byImage : Bool := false
  deriving DecidableEq, Repr

/-- A table's parameters (Table 5.1). -/
structure FTable where
  hot : Bool
  kind : Nat
  bucketsLog2 : Nat
  keyLen : Nat
  ageLimit : Nat
  seed : Nat
  ready : Bool := true
  deriving DecidableEq, Repr

/-- A table grant (R158). -/
structure FGrant where
  maxEntries : Nat := 0
  ovfReserve : Nat := 0
  deriving DecidableEq, Repr

/-- A bucket lock (R177, R180). -/
structure Lock where
  holder : Nat
  at_ : Nat
  deriving DecidableEq, Repr

/-- A deferred LEARN or WRITE_FLOW (R165, R167): its key and result, each with a poison mark (R67), and the overflow entry
reserved. -/
structure PendWrite where
  table : Nat
  bucket : Nat
  owner : Nat
  key : List Nat
  result : List Nat
  mark : Bool := false
  resMark : Bool := false
  deriving DecidableEq, Repr

/-- A write that waits for the end of its bucket cycle (Table 5.5): an ager's removal, a homing move, a LEARN or WRITE_FLOW, a
refresh. The last two carry their place in the order of engines and ports (R169). -/
inductive CycleWrite where
  | age (table bucket : Nat)
  | home (table bucket : Nat)
  | learn (ord : Nat) (w : PendWrite)
  | refresh (ord table bucket owner : Nat) (key : List Nat)
  deriving DecidableEq, Repr

/-- One pipeline of the forwarding tables. `slots` is keyed by (table * 2^23 + bucket) * 4 + slot, `ovf`
by overflow index, `locks` by table * 2^23 + bucket; `aged` lists the keys the ager removed and nothing
has written since, `gone` those that another removal took (R168); `cycle` holds the writes of the bucket cycle (R169), `badSlots`
the empty slots whose bytes carry a parity mark (R163), `rawSlots` the bytes that an image left in an empty slot (R177). -/
structure FPipe where
  slots : Tbl FEntry := []
  ovf : Tbl OvfEntry := []
  nextOrd : Nat := 0
  locks : Tbl Lock := []
  pend : List PendWrite := []
  homing : List (Nat × Nat × Nat) := []
  homeMoves : W32 := 0
  agerTable : Nat := 0
  agerBucket : Nat := 0
  agerMarks : List Nat := []
  aged : List (Nat × Nat × List Nat) := []
  gone : List (Nat × Nat × List Nat) := []
  cycle : List CycleWrite := []
  badSlots : List Nat := []
  rawSlots : Tbl (List Nat) := []
  deriving DecidableEq, Repr

/-- Forwarding tables. Grants are at (FID * 16 + table) * 4 + pipeline; `rldAt` holds the instant of the last access to the
tables of RLD-0 and of RLD-1 (R33). -/
structure Fwt where
  ready : Bool := false
  tables : Tbl FTable := []
  grants : Tbl FGrant := []
  p0 : FPipe := {}
  p1 : FPipe := {}
  p2 : FPipe := {}
  p3 : FPipe := {}
  tick : W32 := 0
  tickSub : Nat := 0
  agerEnable : Bool := true
  agerRate : Nat := 32
  lockLimitUs : Nat := 100
  violFid : Nat := 0
  violPipe : Nat := 0
  violTable : Nat := 0
  violBucket : Nat := 0
  violSeen : Bool := false
  parPipe : Nat := 0
  parTable : Nat := 0
  parBucket : Nat := 0
  parOverflow : Bool := false
  parSeen : Bool := false
  grantSel : Nat := 0
  grantSnap : List Nat := []
  ovfSel : Nat := 0
  ovfSnap : Option OvfEntry := none
  ovfSnapRes : Bool := false
  rldAt : Tbl Nat := []
  deriving DecidableEq, Repr

/-! ## Ports and MACs, switching (chapters 6, 7) -/

/-- A frame queued in a transmit class; `stomp` where a poisoned operand word of its step ends it with an inverted FCS (R67),
`meas` what its path's end measures. -/
structure TxFrame where
  bytes : List PByte
  chain : Option Nat
  spilled : Bool
  stampTag : Option Nat
  stomp : Bool := false
  meas : Option Meas := none
  at_ : Nat := 0
  deriving DecidableEq, Repr

/-- A transmit class (R200 to R203): `since` is the instant its oldest frame became the oldest, `log` the
instants and bytes of the frames it started, for its burst guard (R201). -/
structure TxClass where
  burst : Nat := 0
  onchipKib : Nat := 32
  spillMib : Nat := 94
  q : List TxFrame := []
  since : Nat := 0
  log : List (Nat × Nat) := []
  deriving DecidableEq, Repr

/-- A transmit timestamp FIFO entry (R208). -/
structure TxStamp where
  tag : Nat
  ns : Nat
  frac : Nat
  deriving DecidableEq, Repr

/-- A port number's configuration and state (Tables 6.11, 6.12, 7.10). `pauseEnd` is keyed by priority (R205); `pfcSent` lists
the priorities whose last PFC frame sent was not zero, with its instant (R206). `txEnd` is the instant at which the frame last
started has left, `flyWire` its bytes on the wire and `flyPfc` whether it is a PFC frame (R204). `rxCut` is the instant at
which the port was last cut, with its rate: a frame in reception then is counted when it ends (R186, R189). -/
structure Port where
  enabled : Bool := false
  txClosed : Bool := false
  fcMode : Nat := 0
  laneFix : Nat := 0
  maxFrame : Nat := 0x05EE
  defaultPrio : Nat := 0
  grpAll : Bool := false
  link : Bool := false
  localFault : Bool := false
  remoteFault : Bool := false
  anComplete : Bool := false
  linkChanges : W32 := 0
  xoff : Nat := 0x400
  xon : Nat := 0x200
  quanta : Nat := 0xFFFF
  prioToClass : Nat := 0xFAC688
  classes : Tbl TxClass := []
  pauseEnd : Tbl Nat := []
  pfcSent : Tbl Nat := []
  txEnd : Nat := 0
  flyWire : Option Nat := none
  flyPfc : Bool := false
  grpHash : Tbl W64 := []
  sel : Tbl Nat := []
  ipFields : Nat := 0x01B0
  nonIpFields : Nat := 0x0007
  txts : List TxStamp := []
  txtsNs : Nat := 0
  rxFrames : W64 := 0
  rxOctets : W64 := 0
  txFrames : W64 := 0
  txOctets : W64 := 0
  fecCorr : W64 := 0
  fecUncorr : W64 := 0
  pfcTx : W64 := 0
  rxSession : Nat := 0xFF
  txSession : Nat := 0xFF
  wasEnabled : Bool := false
  rxCut : Option (Nat × Nat) := none
  deriving DecidableEq, Repr

/-- A lane (MAC_LANE_l, TWN_LANE_l and the service lane). -/
structure Lane where
  signal : Bool := false
  fault : Nat := 0
  polaritySeen : Bool := false
  polarityFixed : Bool := false
  orderSeen : Bool := false
  orderFixed : Bool := false
  position : Nat := 0
  txInvert : Bool := false
  faultSeen : Bool := false
  driverOff : Bool := false
  deriving DecidableEq, Repr

/-- A cage sideband set (MAC_CAGE_c). -/
structure Cage where
  present : Bool := false
  intAsserted : Bool := false
  lpmode : Bool := true
  resetDriven : Bool := true
  sclStuck : Bool := false
  sdaStuck : Bool := false
  busShort : Bool := false
  noAck : Bool := false
  lpmodeShort : Bool := false
  resetShort : Bool := false
  intStuck : Bool := false
  faultSeen : Bool := false
  intEvents : W32 := 0
  lastInt : Option Nat := none
  deriving DecidableEq, Repr

/-- Ports, lanes, cages and TIME. A layout is eight port type bytes, lane L0 first, 0 for no port. `timeSub` is the part of
TIME below a nanosecond in units of 2^-32 ns. `cellPrio` remembers, for each pool 0 cell of a received frame, the port and
priority it counts under (R206). `ppsAt` is the instant of the last captured edge of TIME_PPS_IN (R511). -/
structure Mac where
  layout : List Nat := []
  staged : Option (List Nat) := none
  stagedParams : List PortParams := []
  ports : Tbl Port := []
  lanes : Tbl Lane := []
  cages : Tbl Cage := []
  cellPrio : Tbl (Nat × Nat) := []
  timeRunning : Bool := false
  timeNs : W64 := 0
  timeSub : Nat := 0
  ppsSeen : Bool := false
  stepCount : Nat := 0
  freqAdj : W32 := 0
  ppsNs : Nat := 0
  ppsFrac : Nat := 0
  ppsAt : Option Nat := none
  ppsOutUntil : Nat := 0
  fracLatch : Nat := 0
  deriving DecidableEq, Repr

/-- A policer (R236). -/
structure Policer where
  fid : Nat
  rate : Nat
  ilog : Nat
  burst : Nat
  tokens : Nat
  lastK : Nat
  deriving DecidableEq, Repr

/-- A mirror session (R233, R234). -/
structure Session where
  fid : Nat
  window : Nat
  snapLen : Nat
  sampleN : Nat
  crossTenant : Bool
  copies : W32 := 0
  dropped : W32 := 0
  deriving DecidableEq, Repr

/-- Loop path, policers and mirrors. `calls` counts XMIT MIRROR calls at session * 4 + pipeline. -/
structure Switch where
  loopMax : Nat := 0x400
  policers : Tbl Policer := []
  sessions : Tbl Session := []
  calls : Tbl Nat := []
  deriving DecidableEq, Repr

/-! ## Cipher lanes (chapter 8) -/

/-- SA states (Table 8.1). -/
inductive SaState where
  | dormant | active | erased
  deriving DecidableEq, Repr

/-- An installed SA (Table 8.1). `blob` is the wrapped key material, `jumped` whether a takeover's jump has been made (R260,
R387), `snapSent` the replay_top of its last snapshot to the twin (R387), `uid` the number of this installation, which tells it
from a later one of the same index (R258). -/
structure Sa where
  st : SaState
  dir : Nat
  mode : Nat
  esn : Bool
  mirrored : Bool
  leaseReady : Bool
  owner : Nat
  slot : Nat
  kekGen : Nat
  seq : Nat
  lease : Nat
  replayWindow : Nat
  unitLog2 : Nat
  bitmap : Nat
  blob : List Nat
  blobMark : Bool := false
  snapSent : Nat := 0
  jumped : Bool := false
  uid : Nat := 0
  deriving DecidableEq, Repr

/-- A record a lane has accepted and not finished (R250). -/
structure Rec where
  id : Nat
  lane : Nat
  p : Nat
  c : Nat
  fid : Nat
  sa : Nat
  saSnap : Sa
  seq : Nat
  off : Nat
  aad : Nat
  payload : Nat
  decrypt : Bool
  hold : Bool
  dun : Nat
  dst : Nat
  poison : Bool
  deriving DecidableEq, Repr

/-- A cipher lane (Table 8.12). Instants are in eighths of a nanosecond. -/
structure CLane where
  owner : Nat := 0xFFE
  lastOwner : Nat := 0xFFE
  dedicated : Nat := 0xFFE
  held : Option (Nat × Nat) := none
  claimAt : Nat := 0
  until8 : Nat := 0
  records : W32 := 0
  wipes : W32 := 0
  leaving : Bool := false
  deriving DecidableEq, Repr

/-- A cipher grant (R249). -/
structure CGrant where
  lanes : Nat := 0
  saMax : Nat := 0
  activeMax : Nat := 0
  deriving DecidableEq, Repr

/-- Cipher lanes and key vault. `kek` is the vault's key as a draw number; no rule lets a command read
it. -/
structure Cip where
  kek : Option Nat := none
  kekGen : W32 := 0
  lastCause : Nat := 0
  seen : Bool := false
  erasures : W32 := 0
  clearSince : Option Nat := none
  claimLimitUs : Nat := 100
  violFid : Nat := 0
  violLane : Nat := 0
  violSeen : Bool := false
  sas : Tbl Sa := []
  lanes : Tbl CLane := []
  records : List Rec := []
  nextId : Nat := 0
  grants : Tbl CGrant := []
  saSel : Nat := 0
  saSnap : Option Sa := none
  grantSel : Nat := 0
  grantSnap : List Nat := []
  deriving DecidableEq, Repr

/-! ## Haul engine (chapter 9) -/

/-- Channel states (Table 9.5). -/
inductive ChanState where
  | ungranted | idle | armed | ready | running | waitAck | haltedError | frozen
  deriving DecidableEq, Repr

/-- A list queued on a step-mode channel by HAUL START (R286): the parked packet and its operands. -/
structure StepList where
  p : Nat
  ord : Nat
  fid : Nat
  cell : Nat
  count : Nat
  deriving DecidableEq, Repr

/-- A haul channel (Table 9.11). `cur` is the host address of the next descriptor of the run, `index` the
descriptor number from the head, `done` the descriptors of this run, `readyAt` the order in which it became
READY, `waitHalf` and `waitFull` what a WAIT_ACK channel waits for. -/
structure Chan where
  owner : Nat := 0xFFE
  prio : Nat := 0
  mode : Nat := 0
  descLimit : Nat := 0x100
  msix : Nat := 0
  queueType : Nat := 0
  queue : Nat := 0
  st : ChanState := .ungranted
  lastStatus : Nat := 0
  index : Nat := 0
  done : Nat := 0
  halfPosted : Nat := 0
  fullPosted : Nat := 0
  halfAcked : Nat := 0
  fullAcked : Nat := 0
  head : Nat := 0
  cur : Nat := 0
  statusAddr : Nat := 0
  high : Nat := 0
  low : Nat := 0
  fill : Nat := 0
  runs : W32 := 0
  readyAt : Nat := 0
  unit : Option Nat := none
  stopReq : Bool := false
  waitHalf : Bool := false
  waitFull : Bool := false
  fresh : Bool := false
  lists : List StepList := []
  deriving DecidableEq, Repr

/-- Haul engine: channels, units and their run counts; `staging` lists the bytes that runs wrote into the
device staging (Table 1.4). -/
structure Haul where
  chans : Tbl Chan := []
  unitRuns : Tbl W32 := []
  nextReady : Nat := 0
  staging : Tbl PByte := []
  deriving DecidableEq, Repr

/-! ## Storage initiator (chapter 10) -/

/-- Connection states (Table 10.2). -/
inductive ConnState where
  | active | closing | failed
  deriving DecidableEq, Repr

/-- A command slot (Table 10.4): state 0 FREE, 1 ACTIVE, 2 EXPIRED, 3 QUARANTINED; `ep` whether a data byte was written with EP
set (R303). -/
structure CSlot where
  tag : Nat := 0
  cq : Nat := 0
  st : Nat := 0
  gen : Nat := 0
  allocAt : Nat := 0
  ep : Bool := false
  deriving DecidableEq, Repr

/-- A connection that is not FREE (Tables 10.2 to 10.4). `lines` holds program lines 7 to 31; `turn` is the turn queue, oldest
first, `turnAt` the instant of the last dispatch from it (R305), `timerCells` the timer packets whose cell is still refused:
kind, slot, command identifier and instant (R302); `lib` what the shipped library keeps in those lines (log entry 125). -/
structure Conn where
  st : ConnState
  transport : Nat
  hdgst : Bool
  ddgst : Bool
  retxLimit : Nat
  program : Nat
  turnHeld : Bool := false
  owner : Nat
  pipeline : Nat
  cmdMax : Nat
  timeoutMs : Nat
  rtoUs : Nat
  timer : Nat := 0
  mirrored : Bool
  slots : Tbl CSlot := []
  lines : Tbl (List Nat) := []
  turn : List Pkt := []
  turnAt : Nat := 0
  timerCells : List (Nat × Nat × Nat × Nat) := []
  steer : List Nat
  dirty : List Nat := []
  lib : Option LibRec := none
  deriving DecidableEq, Repr

/-- Storage initiator. -/
structure Stg where
  ready : Bool := false
  configured : Bool := false
  tcpTable : Nat := 0
  roceTable : Nat := 0
  channels : Tbl Nat := []
  conns : Tbl Conn := []
  connMax : Tbl Nat := []
  connSel : Nat := 0
  connSnap : Option Conn := none
  grantSel : Nat := 0
  grantSnap : List Nat := []
  deriving DecidableEq, Repr

/-! ## PCI Express endpoint (chapter 12) -/

/-- An MSI-X vector: mask and PBA bit (R361), address and data. -/
structure MsixVec where
  mask : Bool := true
  pending : Bool := false
  addr : Nat := 0
  data : Nat := 0
  deriving DecidableEq, Repr

/-- Configuration state of one function: Bus Master Enable, Memory Space Enable, D-state, FLR in progress and its instant, FLR
that waits for the end of a restart (R452), MSI-X enable and mask, vectors, and the order held messages were set in. `bar` is
the base in BAR0, `intLine` the Interrupt Line; `devCtl`, `devCtl2` and `linkCtl` hold the control bits of the PCI Express
capability (R349), the `aer` fields the AER capability, whose header log records a read by its offset in the BAR, its length
and the draw of its requester (R356). -/
structure PciFn where
  bme : Bool := false
  mse : Bool := false
  dstate : Nat := 0
  flrAt : Option Nat := none
  flrDue : Bool := false
  msixEnable : Bool := false
  msixMask : Bool := false
  vecs : Tbl MsixVec := []
  held : List Nat := []
  bar : Nat := 0
  intLine : Nat := 0
  devCtl : Nat := 0x2810
  devCtl2 : Nat := 0
  linkCtl : Nat := 0
  aerUnc : Nat := 0
  aerUncMask : Nat := 0
  aerUncSev : Nat := 0x462030
  aerCor : Nat := 0
  aerCorMask : Nat := 0x6000
  aerCtl : Nat := 0
  aerLog : Option (Nat × Nat × Nat) := none
  deriving DecidableEq, Repr

/-- What a device read is for. -/
inductive ReadUse where
  | fetch (rx : Bool) (q : Nat)
  | dmar (p ord handle off : Nat)
  deriving DecidableEq, Repr

/-- A device read (R358, R362): its link and tag, none while it waits for one, its requester, stream, issue instant and timeout
value, whether it was abandoned (R371) or its data is to be discarded (R366) and, once it has ended and waits behind earlier
reads of its stream, how it ended and its data. -/
structure Read where
  link : Nat
  tag : Option Nat
  addr : Nat
  fid : Nat
  stream : Nat
  use : ReadUse
  at_ : Nat
  tmo : Nat := 0
  len : Nat
  abandoned : Bool := false
  discard : Bool := false
  fin : Option ReadResult := none
  data : List Nat := []
  deriving DecidableEq, Repr

/-- PCI Express endpoint. Quarantined tags are keyed by link * 16384 + tag, with the instant the quarantine ends and the
requester; `sysPage` and `vfBar` are the System Page Size and VF BAR0 of the SR-IOV capability, `l23` is L2/L3 Ready, `wakePin`
WAKE# driven low, `pmeDue` a PM_PME to send after DL_Up (R369), `hotDue` a hot reset that waits for the end of a restart
(R452). -/
structure Pci where
  bifurcated : Bool := false
  rate : Nat := 0
  flit : Bool := false
  width : Nat := 0
  rateB : Nat := 0
  flitB : Bool := false
  widthB : Nat := 0
  dlUpCount : Nat := 0
  fns : Tbl PciFn := []
  vfEnable : Bool := false
  vfMse : Bool := false
  numVfs : Nat := 0
  ari : Bool := false
  intDisable : Bool := false
  ctoPf0 : Nat := 0
  ctoPf1 : Nat := 0
  lastAssert : Bool := false
  asserts : Nat := 0
  reads : List Read := []
  quarantine : Tbl (Nat × Nat) := []
  wakeCause : Nat := 0
  wakeSeen : Bool := false
  pmeEn : Bool := false
  pmeStatus : Bool := false
  lateFid : Nat := 0
  lateTag : Nat := 0
  lateLink : Nat := 0
  lateSeen : Bool := false
  linkUp : Bool := false
  configReady : Bool := false
  sysPage : Nat := 1
  vfBar : Nat := 0
  l23 : Bool := false
  wakePin : Bool := false
  pmeDue : Bool := false
  hotDue : Bool := false
  deriving DecidableEq, Repr

/-! ## Twin link (chapter 13) -/

/-- A twin frame of types 2 to 6 sent and not acknowledged (R379). -/
structure TwinOut where
  seq : Nat
  type : Nat
  role : Nat
  flags : Nat
  epoch : Nat
  body : List Nat
  sentAt : Nat
  resends : Nat := 0
  lease : Option (Nat × Nat) := none
  deriving DecidableEq, Repr

/-- A reply that waits for the standby's result (R385). -/
structure MirrorWait where
  seq : Nat
  opcode : Nat
  m : Meta
  ns : Nat
  compat : Option Nat
  fin : CmdEnd
  until_ : Nat
  deriving DecidableEq, Repr

/-- A frame of types 2 to 6 that a standby has taken in its order and not applied: the packet of a mirrored command, or what
stands behind one (R379, R405). -/
inductive TwinWork where
  | command (bytes : List Nat)
  | lease (sa k : Nat)
  | snapshot (sa top : Nat)
  | storage (conn : Nat) (lines : List (Nat × List Nat))
  | image (steps : List (Nat × Nat)) (decl : Option TableDecl)
  deriving DecidableEq, Repr

/-- The packet of a mirrored command. -/
def TwinWork.isCommand : TwinWork → Bool
  | .command _ => true
  | _ => false

/-- Twin link (Tables 13.9, 13.10): link 0 DOWN, 1 TRAINING, 2 AUTHENTICATING, 3 LINKED; roles as Table 13.2. `nextSeq` is
the number of the next frame sent, `rxSeq` one more than the last frame of types 2 to 6 applied, `hbWatch` whether
heartbeat windows are judged (R390), `linkKey` the random draw behind the link keys (R377), `pairing` the last frame of a
full copy under way (R385). -/
structure Twn where
  enabled : Bool := false
  policy : Nat := 0
  link : Nat := 0
  role : Nat := 0
  paired : Bool := false
  armed : Bool := false
  inSync : Bool := false
  peerLostSeen : Bool := false
  splitSeen : Bool := false
  divergedSeen : Bool := false
  peerRole : Nat := 0
  peerEpoch : Nat := 0
  linkChanges : W32 := 0
  epoch : Nat := 0
  armEpoch : Nat := 0
  armDeadline : Nat := 0
  armFlip : Bool := false
  peer : Nat := 0
  sent : W32 := 0
  acked : W32 := 0
  nextSeq : Nat := 0
  rxSeq : Nat := 0
  missedRun : Nat := 0
  received : BitVec 48 := 0
  hbInWindow : Bool := false
  hbLast : Option Nat := none
  hbWindow : Nat := 0
  hbSent : Option Nat := none
  hbWatch : Bool := false
  linkKey : Option (Nat × Nat) := none
  noPrimarySeen : Bool := false
  outq : List TwinOut := []
  waits : List MirrorWait := []
  takeoverAt : Option Nat := none
  takeoverNs : Nat := 0
  slotsAborted : Nat := 0
  pairing : Option Nat := none
  copies : List Nat := []
  copyBad : Bool := false
  rxq : List TwinWork := []
  rxResult : Option (Nat × Nat) := none
  peerPaired : Option Bool := none
  deriving DecidableEq, Repr

/-! ## Almanac (chapter 16) -/

/-- An alarm history entry (Table 16.9). -/
structure Hist where
  sec : Nat := 0
  cause : Nat := 0
  flags : Nat := 0
  value : Nat := 0
  poh : Nat := 0
  deriving DecidableEq, Repr

/-- A clock domain of Table 1.6: running, starting since an instant, asked to start once what it depends on runs (R34), idle
since, held down (R374), draining until an instant with the work left before this nanosecond, and its idle limit in microseconds
(0 none). -/
structure Domain where
  running : Bool := false
  starting : Option Nat := none
  asked : Bool := false
  idleSince : Option Nat := none
  held : Bool := false
  draining : Option Nat := none
  drainSeen : Nat := 0
  limitUs : Nat := 0
  deriving DecidableEq, Repr

/-- Almanac: calendar, wake timer, life-cycle record, alarms, clock domains by number. `calTicks` counts ticks of 1/32,768 s
within the second and `calSub` the part below a tick, `calSet` is what the next tick sets the calendar to (R465), `lcTarget`
the state that a change under way will enter (R458), `dataDead` that the loss of REF-156 left the data path undefined (R463),
`causeSince` the instant each alarm cause appeared, `xtalBack` that the crystal is good again and the next whole second returns
to it (R462), `tripAt` the last instant at which Tj was seen at or above 125 C (R460). -/
structure Alm where
  unit : Nat := 0
  lcState : Nat := 0
  wipePending : Bool := false
  calValid : Bool := false
  calDegraded : Bool := false
  calSec : Nat := 0
  calTicks : Nat := 0
  calSub : Nat := 0
  calLatch : Nat := 0
  trim : Nat := 0
  wakeAt : Nat := 0
  domains : Tbl Domain := []
  tj : Nat := 0
  coreMv : Nat := 0
  sramMv : Nat := 0
  auxMv : Nat := 0
  causes : Nat := 0
  warning : Bool := false
  thermtrip : Bool := false
  alarmSeen : Bool := false
  raised : Nat := 0
  causeSince : Tbl Nat := []
  xtalFault : Bool := false
  xtalBack : Bool := false
  ref156Lost : Bool := false
  ref100Lost : Bool := false
  diodeFault : Bool := false
  faultSeen : Bool := false
  dataDead : Bool := false
  tripAt : Nat := 0
  calSet : Option (Nat × Nat) := none
  lcTarget : Nat := 0
  deriving DecidableEq, Repr

/-- What the Almanac accumulates for the lifetime store (R467 to R470): the counters of Table 16.10, the parts below one
unit of the hour counters (seconds) and of the em_age counters (2^-32 equivalent seconds) at the same numbers, and the
extreme and direction of R468. Temperatures are in 1/16 degree, offset by 32,768. -/
structure LifeAcc where
  life : Tbl Nat := []
  sub : Tbl Nat := []
  dirUp : Bool := true
  ext : Nat := 0
  deriving DecidableEq, Repr

/-- Lifetime store, life-cycle nonce and restart state of the Almanac (R442, R456, R461, R467, R470). `records` are
the 32 record slots, each with its sequence number, `recSeq` the number of the next record, `acc` what has accumulated
since the newest one; `waitStarts` the domain starts that wait for a restart's end,
`library` the step library in flash, `codeDigestKept` whether the Steward's code was verified at the last cold start
(R448). -/
structure AlmStore where
  nonce : Nat := 0
  acc : LifeAcc := {}
  records : Tbl (Nat × LifeAcc) := []
  recSeq : Nat := 0
  histNext : Nat := 0
  histTotal : Nat := 0
  hist : Tbl Hist := []
  restarting : Bool := false
  restartCause : Nat := 0
  waitStarts : List Nat := []
  auxPresent : Bool := true
  mainPresent : Bool := false
  perst : Bool := true
  codeDigestKept : Bool := false
  library : Option TableSet := none
  deriving DecidableEq, Repr

/-! ## Firmware (chapter 17) -/

/-- A component image slot or running image (Tables 17.3, 17.5): version, security version, plaintext
digest and length, binding, and the staged bytes. -/
structure Image where
  version : Nat := 0
  secVersion : Nat := 0
  plainLen : Nat := 0
  digest : List Nat := []
  binding : Nat := 0
  bytes : List Nat := []
  deriving DecidableEq, Repr

/-- A manifest entry (Table 17.5). -/
structure ManEntry where
  comp : Nat
  version : Nat
  secVersion : Nat
  plainLen : Nat
  digest : List Nat
  deriving DecidableEq, Repr

/-- A staged or running manifest. -/
structure Manifest where
  setVersion : Nat := 0
  entries : List ManEntry := []
  digest : List Nat := []
  deriving DecidableEq, Repr


/-- A chain package as an OFFER names it: kind, version and digest id (Table 17.10). -/
structure PkgId where
  kind : Nat
  version : Nat
  digestId : Nat
  deriving DecidableEq, Repr

/-- A chain package this unit holds (R491), with its bytes, and whether the downstream unit has confirmed it. -/
structure Package where
  id : PkgId
  bytes : List Nat
  confirmed : Bool := false
  deriving DecidableEq, Repr

/-- A record of the set pointer (R480): its sequence number, the running area, the version and digest of each running
component, and the digest of the running manifest. Its CRC-32C is that of these fields; no event damages it (log entry 132). -/
structure PtrRec where
  seq : Nat
  areaB : Bool
  comps : List (Nat × List Nat)
  manifest : List Nat
  deriving DecidableEq, Repr

/-- Firmware, sessions, pins and the bucket chain (Table 17.13). `pointers` are the two records of the set pointer, written
alternately, and `ptrSeq` the number of the next one. `staged` and `partials` are the slots of the staging area: verified
copies, and bytes that PUT_IMAGE left; `committed` holds components 4 and 6 from phase 6 until a reset. `actComp` is 0 for a
native activation, else the component that 0x0910 changes, and `actFresh` the components that the activation changes.
`packages` are the chain packages held, `refusals` those refused with their check order, `rx` the package being received.
`flash` lists the bytes that runs of channel 15 wrote by flash address. `chainDown` gives the fault code that holds a pair down
(0 chain-in, 1 chain-out), `chainSwap` says that the pairs' roles are exchanged. -/
structure Fw where
  activation : Nat := 0
  compatSet : Bool := false
  areaB : Bool := false
  pendingReset : Bool := false
  running : Tbl Image := []
  committed : Tbl Image := []
  staged : Tbl Image := []
  partials : Tbl (List Nat) := []
  manifest : Option Manifest := none
  runManifest : Option Manifest := none
  floors : Tbl Nat := []
  revoked : Nat := 0
  ownerKey : List Nat := []
  pins : Tbl W64 := []
  sessions : List SpdmPath := []
  actComp : Nat := 0
  actStart : Nat := 0
  actDeadline : Nat := 0
  actFresh : List Nat := []
  packages : List Package := []
  refusals : List (PkgId × Nat) := []
  chainSt : Nat := 0
  polarityFixed : Bool := false
  swapFixed : Bool := false
  chainFault : Nat := 0
  chainPair : Nat := 0
  chainSeen : Bool := false
  chainConfirmed : W32 := 0
  chainDown : Tbl Nat := []
  chainSwap : Bool := false
  rx : Option PkgId := none
  rxBytes : List Nat := []
  offeredAt : Option Nat := none
  chainSlot : Option Image := none
  flash : Tbl Byte := []
  pointers : Tbl PtrRec := []
  ptrSeq : Nat := 0
  deriving DecidableEq, Repr

/-! ## The whole part -/

/-- The state of the part. `now` counts nanoseconds of the part's own clocks since reset, `draws` the
free values and random draws taken so far, `out` what has left the part, `pending` the commands that
wait, first in first out; these four are the model's own. -/
structure State where
  dev : Dev := {}
  stw : Stw := {}
  fns : Tbl Fn := []
  fmg : FnMgr := {}
  cnt : Cnt := {}
  seq : Seq := {}
  qm : Qm := {}
  grn : Grn := {}
  fwt : Fwt := {}
  mac : Mac := {}
  sw : Switch := {}
  cip : Cip := {}
  haul : Haul := {}
  stg : Stg := {}
  pci : Pci := {}
  twn : Twn := {}
  alm : Alm := {}
  store : AlmStore := {}
  fw : Fw := {}
  out : List Emit := []
  now : Nat := 0
  draws : Nat := 0
  pending : List Instr := []
  deriving DecidableEq, Repr

/-- The windows PF0 and PF1 start with (R321): the whole 64-bit space, read and write. -/
def Win.whole : Win := ⟨0, 2 ^ 52, true, true⟩

/-- The function record PF0 and PF1 hold from start-up (R317, Table 11.13). -/
def Fn.operator (pf0 : Bool) : Fn :=
  { st := .active, rawTable := pf0, rawHook := pf0, windows := [(0, Win.whole)] }

/-- The on-chip pools with their default sizes (R125, Table 4.13). -/
def Grn.resetPools : Tbl Pool :=
  [(0, { kind := 3, set := 0, sizeLog2 := 8, count := 65536, first := 0 }),
   (1, { kind := 3, set := 1, sizeLog2 := 8, count := 16384, first := 65536 }),
   (2, { kind := 3, set := 2, sizeLog2 := 8, count := 8192, first := 90112 }),
   (3, { kind := 3, set := 3, sizeLog2 := 8, count := 8192, first := 81920 })]

/-- The default share records of PF0, PF1 and the device in pools 1 and 3, and of the device in pool 0
(R127). -/
def Grn.resetShares : Tbl Share :=
  [(0xFFF, ⟨0, 65536, 1⟩),
   (0x1000, ⟨0, 16384, 1⟩), (0x1001, ⟨0, 16384, 1⟩), (0x1FFF, ⟨0, 16384, 1⟩),
   (0x3000, ⟨0, 8192, 1⟩), (0x3001, ⟨0, 8192, 1⟩), (0x3FFF, ⟨0, 8192, 1⟩)]

/-- The clock domains that have an idle limit, with their defaults (Table 16.2), and the two that run
whenever auxiliary power is present. -/
def Alm.resetDomains : Tbl Domain :=
  [(1, { running := true }), (2, { running := true }), (11, { limitUs := 10000 }),
   (12, { limitUs := 50 }), (13, { limitUs := 50 }), (14, { limitUs := 50 }),
   (15, { limitUs := 50 }), (18, { limitUs := 50 }), (19, { limitUs := 50 }),
   (20, { limitUs := 50 }), (23, { limitUs := 50 })]

/-- Channel 15 belongs to the Steward from reset (R268, Table 9.11). -/
def Haul.resetChans : Tbl Chan := [(15, { owner := 0xFFF, mode := 3, st := .idle })]

/-- The part right after reset: every register at the value its map gives, nothing created, and an empty
queue of commands. -/
def State.reset : State :=
  { fns := [(0, Fn.operator true), (1, Fn.operator false)]
    fmg := { sel := { fid := 0, fn := Fn.operator true } }
    grn := { pools := Grn.resetPools, shares := Grn.resetShares }
    haul := { chans := Haul.resetChans }
    alm := { domains := Alm.resetDomains }
    mac := { layout := List.replicate 8 0 } }

/-! ## Stops -/

/-- Why a command can fault: no command of this model does. -/
inductive Fault where
  /-- Raised by nothing; kept so that the type has a name to compare. Safe. -/
  | none
  deriving DecidableEq, Repr

/-- Why a command can be refused. -/
inductive Refusal where
  /-- Raised by an arm of the dispatch for a command without a meaning; none remains. Safe. -/
  | notModelled (mnemonic : String)
  deriving DecidableEq, Repr

end Sys2Proof.Machine
end

