-- ==== Sys2Proof/Machine/Ops.lean ====
section
/-! DEFINITION. The operations every family of commands is written over: FIDs, TIME, reason counters, the
event log, function records, pipelines and banks, and the free values. -/

namespace Sys2Proof.Machine

/-! ## FIDs (R316, Table 11.1) -/

/-- The FID of the device itself. -/
def fidDevice : Nat := 0xFFF
/-- The FID that means none. -/
def fidNone : Nat := 0xFFE
/-- A FID that names a function: PF0, PF1 or a virtual function. -/
def isFn (f : Nat) : Bool := f ≤ 2049
/-- A FID that names a virtual function. -/
def isVf (f : Nat) : Bool := 2 ≤ f && f ≤ 2049
/-- A FID that has a counter set (R424). -/
def hasSet (f : Nat) : Bool := f ≤ 2049 || f = 0xFFF

/-! ## TIME -/

/-- TIME in nanoseconds; 0 while TIME is not running (Table 14.11). -/
def timeNow (s : State) : Nat := if s.mac.timeRunning then s.mac.timeNs.toNat else 0

/-- The 16-bit fraction of a nanosecond of TIME, as stamps hold it (Table 6.10). -/
def timeFrac (s : State) : Nat := s.mac.timeSub / 65536 % 65536

/-! ## Free values -/

/-- Take a free value number and count the draw. -/
def draw (s : State) : Nat × State := (s.draws, { s with draws := s.draws + 1 })

/-- Take four consecutive free values, 32 bytes: a random draw of the part. -/
def draw4 (s : State) : Nat × State := (s.draws, { s with draws := s.draws + 4 })

/-- The 32 bytes of a random draw; nothing in the model can see them. -/
def randomBytes (d : Nat) : List Nat :=
  [0, 1, 2, 3].flatMap (fun i => leBytes 8 (Sys2Proof.Config.freeWord (d + i)).toNat)

/-! ## Reason counters (R424 to R428) -/

/-- The index of counter `i` of the set of `fid`. -/
def cntKey (fid i : Nat) : Nat := fid * 256 + i

/-- Add to the counter words: a word with a parity mark keeps it and counts `cnt_parity` of the device
instead (R427). -/
def addWord (ws : Tbl CntWord) (fid i n : Nat) : Tbl CntWord :=
  let w := tgetD ws (cntKey fid i) {}
  if w.mark then
    let k := cntKey 0xFFF cCntParity
    let d := tgetD ws k {}
    if d.mark then ws else tput {} ws k { d with v := d.v + 1 }
  else tput {} ws (cntKey fid i) { w with v := w.v + BitVec.ofNat 64 n }

/-- Count `n` in counter `i` of the set of `fid` (R425, R426); a FID without a set counts nothing. -/
def countN (s : State) (fid i n : Nat) : State :=
  if !hasSet fid then s
  else { s with cnt := { s.cnt with words := addWord s.cnt.words fid i n } }

/-- Count one event in counter `i` of the set of `fid` (R425). -/
def count (s : State) (fid i : Nat) : State := countN s fid i 1

/-- Count one event of the device set. -/
def countDev (s : State) (i : Nat) : State := count s 0xFFF i

/-- The value a read returns for a counter: all ones while its word carries a parity mark (R427). -/
def readCnt (s : State) (fid i : Nat) : Nat :=
  let w := tgetD s.cnt.words (cntKey fid i) {}
  if w.mark then 2 ^ 64 - 1 else w.v.toNat

/-- The first `n` counters of a set in index order. -/
def readSet (s : State) (fid n : Nat) : List Nat := (List.range n).map (fun i => readCnt s fid i)

/-- The counter words with the set of `fid` zeroed (R317, R424). -/
def zeroSet (ws : Tbl CntWord) (fid : Nat) : Tbl CntWord := tfilter ws (fun k _ => k / 256 ≠ fid)

/-! ## Event log (R414 to R416, R519) -/

/-- The 16 detail bytes of an event: each field aligned to its own size from byte 16 (R519). -/
def packDetail (fs : List Fld) : List Nat :=
  let b := (encFrom 0 fs).take 16
  b ++ List.replicate (16 - b.length) 0

/-- Write one entry at P (R414, Table 14.11). -/
def appendEvent (s : State) (code fid : Nat) (d : List Fld) : State :=
  let e : EventEntry :=
    { seq := s.dev.eventSeq.toNat, code := code, fid := fid, time := timeNow s, detail := packDetail d }
  { s with dev := { s.dev with
      log := tset s.dev.log (s.dev.logProd.toNat % 4096) e
      logProd := s.dev.logProd + 1
      eventSeq := s.dev.eventSeq + 1 } }

/-- Append an ordinary event, or count it as lost when the log has no room (R416). -/
def logEvent (s : State) (code fid : Nat) (d : List Fld) : State :=
  if (s.dev.logProd - s.dev.logCons).toNat < 4095 then appendEvent s code fid d
  else
    countDev { s with dev := { s.dev with
      lostPending := s.dev.lostPending + 1, lostTotal := s.dev.lostTotal + 1 } } cEventLogLost

/-- PF0's event log is non-empty (R414). -/
def logBusy (s : State) : Bool := s.dev.logProd ≠ s.dev.logCons

/-! ## Function records -/

/-- The function manager's record of a FID. -/
def fnOf (s : State) (fid : Nat) : Fn := tgetD s.fns fid {}

/-- Write the record of a FID. -/
def setFn (s : State) (fid : Nat) (f : Fn) : State := { s with fns := tput {} s.fns fid f }

/-- Change the record of a FID. -/
def modFn (s : State) (fid : Nat) (g : Fn → Fn) : State := setFn s fid (g (fnOf s fid))

/-- The function is in the stocks (R335). -/
def isFrozen (s : State) (fid : Nat) : Bool := (fnOf s fid).frozen

/-- The configuration state of a function. -/
def pciOf (s : State) (fid : Nat) : PciFn := tgetD s.pci.fns fid {}

/-- Write the configuration state of a function. -/
def setPci (s : State) (fid : Nat) (f : PciFn) : State :=
  { s with pci := { s.pci with fns := tput {} s.pci.fns fid f } }

/-- An uncorrectable error that a function's AER status records. -/
def aerError (s : State) (fid bit : Nat) : State :=
  setPci s fid { pciOf s fid with aerUnc := (pciOf s fid).aerUnc ||| 2 ^ bit }

/-- The virtual function exists in the SR-IOV capability (R320). -/
def vfExists (s : State) (fid : Nat) : Bool := s.pci.vfEnable && isVf fid && fid < s.pci.numVfs + 2

/-- The function whose requester ID a FID's requests carry: PF0 for the device (R322). -/
def requester (fid : Nat) : Nat := if fid = 0xFFF then 0 else fid

/-- The link of a function (Table 12.2): 1 only for PF1 in 2 x x8 mode. -/
def linkOf (s : State) (fid : Nat) : Nat := if s.pci.bifurcated && fid = 1 then 1 else 0

/-- The function may issue requests: Bus Master Enable set, no FLR, no D-state that stops it (R366 to
R368, R370, R371, R518), not being reset, and not in the stocks (R335). -/
def mayIssue (s : State) (fid : Nat) : Bool :=
  let r := requester fid
  let f := pciOf s r
  f.bme && f.flrAt.isNone && f.dstate = 0 && !s.pci.l23 &&
    ((pciOf s 0).dstate = 0 || linkOf s r = 1) && (fnOf s r).st ≠ .resetting && !isFrozen s r

/-- A memory request reaches a function's BAR (R356, R367): the function exists, Memory Space Enable is 1, and
no FLR or low-power state is in force. -/
def memReach (s : State) (fid : Nat) : Bool :=
  let f := pciOf s fid
  f.flrAt.isNone && f.dstate = 0 && (if fid ≤ 1 then f.mse else vfExists s fid && s.pci.vfMse)

/-- A write to a BAR of a function acts only when it reaches it; otherwise it is discarded (R356). -/
def memWrite (s : State) (fid : Nat) (f : State) : State := if memReach s fid then f else s

/-! ## DMA windows (R321, R322) -/

/-- One window holds the whole range with the bit needed. -/
def Win.covers (w : Win) (addr len : Nat) (wr : Bool) : Bool :=
  w.pages ≠ 0 && w.base ≤ addr && addr + len ≤ w.base + w.pages * 4096 &&
    (if wr then w.write else w.read)

/-- An access made for a FID is inside that function's windows; the device uses PF0's (R322). -/
def inWindows (s : State) (fid addr len : Nat) (wr : Bool) : Bool :=
  tany (fnOf s (requester fid)).windows (fun _ w => w.covers addr len wr)

/-! ## Emitting -/

/-- Record what leaves the part, in the order it is posted (R357). -/
def emit (s : State) (e : Emit) : State := { s with out := s.out ++ [e] }

/-- `n` bytes of the device staging from `a` on are written by the Crier or a trace: what a run wrote there before is gone. -/
def coverStaging (s : State) (a n : Nat) : State :=
  { s with haul := { s.haul with staging := tfilter s.haul.staging (fun i _ => !(a ≤ i && i < a + n)) } }

/-! ## The twin link (R379, R382, R384) -/

/-- The role codes of Table 13.2. -/
def rolePrimary : Nat := 1
/-- STANDBY. -/
def roleStandby : Nat := 2
/-- TAKING_OVER. -/
def roleTaking : Nat := 3
/-- FENCED. -/
def roleFenced : Nat := 4

/-- The calendar in nanoseconds. -/
def calNs (s : State) : Nat := s.alm.calSec * 1000000000 + s.alm.calTicks * 1000000000 / 32768

/-- The device mirrors: PRIMARY, paired, and the link LINKED (R384). -/
def mirroring (s : State) : Bool := s.twn.role = rolePrimary && s.twn.paired && s.twn.link = 3

/-- Mirrored SAs and connections are idle: STANDBY or FENCED (R382). -/
def twinIdle (s : State) : Bool := s.twn.role = roleStandby || s.twn.role = roleFenced

/-- The flags of a twin frame header (Table 13.1). -/
def twinFlags (s : State) : Nat := b2n s.twn.armed + b2n s.twn.paired * 2 + b2n s.twn.inSync * 4

/-- The direction value of the frames that the device sends: 0 from the lower unit number, 1 from the higher (R378). -/
def twinDir (s : State) : Nat := if s.alm.unit < s.twn.peer then 0 else 1

/-- A twin frame from its EtherType on: the 24-byte header of Table 13.1 and the body (R378). -/
def twinBytes (type role flags epoch seq : Nat) (body : List Nat) : List Nat :=
  [0x88, 0xB5, type, role] ++ leBytes 2 body.length ++ [flags, 0, 0, 0] ++ leBytes 8 epoch ++ leBytes 8 seq ++ body

/-- Put a frame on the link: it takes the next frame number and carries role, flags and epoch (R378). -/
def twinFrame (s : State) (type : Nat) (body : List Nat) : State :=
  if s.twn.link ≠ 3 then s
  else
    emit { s with twn := { s.twn with nextSeq := (s.twn.nextSeq + 1) % 2 ^ 64 } }
      (.twin (twinDir s) (twinBytes type s.twn.role (twinFlags s) s.twn.epoch s.twn.nextSeq body))

/-- Send a frame of types 2 to 6 over the link; it waits for its acknowledgement (R379). -/
def twinSend (s : State) (type : Nat) (body : List Nat) (lease : Option (Nat × Nat)) : State :=
  if s.twn.link ≠ 3 then s
  else
    let f : TwinOut :=
      { seq := s.twn.nextSeq, type := type, role := s.twn.role, flags := twinFlags s, epoch := s.twn.epoch, body := body
        sentAt := s.now, lease := lease }
    let s1 := twinFrame s type body
    { s1 with twn := { s1.twn with sent := s1.twn.sent + 1, outq := s1.twn.outq ++ [f] } }

/-- The link takes a state; each change is counted (Table 13.10). -/
def twinLink (s : State) (st : Nat) : State :=
  if s.twn.link = st then s else { s with twn := { s.twn with link := st, linkChanges := s.twn.linkChanges + 1 } }

/-- The link goes DOWN (R377, R379): its keys are gone, nothing waits for an acknowledgement, and a pair command under way
has lost its link. -/
def twinDown (s : State) : State :=
  let s1 := twinLink s 0
  { s1 with
    twn := { s1.twn with outq := [], linkKey := none, pairing := none, copies := [], copyBad := false }
    stw := { s1.stw with bg := s1.stw.bg.map (fun b =>
      if b.opcode = 0x0804 then { b with fin := some { status := .failedTimeout }, deadline := s1.now } else b) } }

/-! ## Pipelines and banks -/

/-- The four pipelines. -/
def pipes : List Nat := [0, 1, 2, 3]

/-- Pipeline `p`. -/
def pipeOf (s : State) (p : Nat) : Pipe :=
  match p with
  | 0 => s.seq.pipe0
  | 1 => s.seq.pipe1
  | 2 => s.seq.pipe2
  | _ => s.seq.pipe3

/-- Write pipeline `p`. -/
def setPipe (s : State) (p : Nat) (x : Pipe) : State :=
  match p with
  | 0 => { s with seq := { s.seq with pipe0 := x } }
  | 1 => { s with seq := { s.seq with pipe1 := x } }
  | 2 => { s with seq := { s.seq with pipe2 := x } }
  | _ => { s with seq := { s.seq with pipe3 := x } }

/-- Change pipeline `p`. -/
def modPipe (s : State) (p : Nat) (g : Pipe → Pipe) : State := setPipe s p (g (pipeOf s p))

/-- Change all four pipelines. -/
def modPipes (s : State) (g : Nat → Pipe → Pipe) : State :=
  { s with seq := { s.seq with
      pipe0 := g 0 s.seq.pipe0, pipe1 := g 1 s.seq.pipe1
      pipe2 := g 2 s.seq.pipe2, pipe3 := g 3 s.seq.pipe3 } }

/-- Bank 0 (A) or 1 (B). -/
def bankOf (s : State) (b : Nat) : Bank := if b = 0 then s.seq.bankA else s.seq.bankB

/-- Write a bank. -/
def setBank (s : State) (b : Nat) (x : Bank) : State :=
  if b = 0 then { s with seq := { s.seq with bankA := x } }
  else { s with seq := { s.seq with bankB := x } }

/-- The number of the CURRENT bank, if one is (Table 2.8). -/
def currentBank (s : State) : Option Nat :=
  if s.seq.bankA.st = .current then some 0
  else if s.seq.bankB.st = .current then some 1
  else none

/-- A bank is CURRENT or DRAINING (R61). -/
def bankLive (s : State) : Bool :=
  s.seq.bankA.st = .current || s.seq.bankA.st = .draining ||
  s.seq.bankB.st = .current || s.seq.bankB.st = .draining

/-- The queue manager is ready: the RLDRAM wipe has ended and a bank is CURRENT (Table 3.11, R66). -/
def queuesReady (s : State) : Bool := s.dev.wipeDone && (currentBank s).isSome

/-- The packets of a pipeline: in contexts, waiting for admission, and parked. -/
def Pipe.packets (x : Pipe) : List Pkt := x.ctxs.map (·.2) ++ x.admission ++ x.parked

/-! ## Outcomes -/

/-- What one command answers. -/
abbrev Res := Host.Outcome State Fault Refusal

end Sys2Proof.Machine
end

