-- ==== Sys2Proof/Machine/Operands.lean ====
section
/-! DEFINITION. The operand forms of steps: the fields of a step word, context words with their poison
marks, the cells of on-chip chains, and the packet's bytes and header window. -/

namespace Sys2Proof.Machine

/-! ## Step words (R40, Table 2.1) -/

/-- The fields of a step word. -/
structure StepWord where
  unit : Nat
  op : Nat
  ccMask : Nat
  succA : Nat
  succB : Nat
  poisonOk : Bool
  reserved : Nat
  dst : Nat
  srcA : Nat
  srcB : Nat
  imm : Nat
  deriving DecidableEq, Repr

/-- The fields of the 128 bits of a step (Table 2.1). -/
def StepWord.ofNat (w : Nat) : StepWord :=
  { unit := bits 3 0 w, op := bits 11 4 w, ccMask := bits 27 12 w, succA := bits 43 28 w
    succB := bits 59 44 w, poisonOk := bitOf 60 w, reserved := bits 63 61 w, dst := bits 71 64 w
    srcA := bits 79 72 w, srcB := bits 87 80 w, imm := bits 127 88 w }

/-- The step a bank holds at an index; a step that was never written is a zero word. -/
def Bank.step (b : Bank) (i : Nat) : StepWord := StepWord.ofNat (tgetD b.steps i 0).toNat

/-! ## Context words (R42, R43) -/

/-- Word `i` of a packet. -/
def Pkt.word (k : Pkt) (i : Nat) : PWord := k.words.getD i PWord.zero

/-- The value of word `i`. -/
def Pkt.val (k : Pkt) (i : Nat) : Nat := (k.word i).v.toNat

/-- Write word `i`. -/
def Pkt.setWord (k : Pkt) (i : Nat) (w : PWord) : Pkt := { k with words := k.words.set i w }

/-- Write the value of word `i`, without a mark. -/
def Pkt.setVal (k : Pkt) (i v : Nat) : Pkt := k.setWord i ⟨BitVec.ofNat 64 v, false⟩

/-- A selector names a context word (R42). -/
def isSel (x : Nat) : Bool := x < 32

/-- The word a selector names; zero for 0xFF. -/
def Pkt.opnd (k : Pkt) (sel : Nat) : PWord := if isSel sel then k.word sel else PWord.zero

/-- The words of a packet from a list of 32 values. -/
def mkWords (f : Nat → Nat) : List PWord :=
  (List.range 32).map (fun i => ⟨BitVec.ofNat 64 (f i), false⟩)

/-- The handle that w24 names (Table 2.2). -/
def Pkt.handle (k : Pkt) : Nat := bits 39 0 (k.val 24)
/-- One of `n` words from a selector carries the poison mark. -/
def wordsPoisoned (k : Pkt) (sel n : Nat) : Bool := (List.range n).any (fun i => (k.word (sel + i)).p)

/-- The packet length in w24. -/
def Pkt.len (k : Pkt) : Nat := bits 55 40 (k.val 24)
/-- The function that w26[35:24] names. -/
def Pkt.fid (k : Pkt) : Nat := bits 35 24 (k.val 26)
/-- The port in w26[23:16]. -/
def Pkt.port (k : Pkt) : Nat := bits 23 16 (k.val 26)

/-- w24 with a new length. -/
def Pkt.setLen (k : Pkt) (n : Nat) : Pkt :=
  k.setWord 24 ⟨BitVec.ofNat 64 (bits 63 56 (k.val 24) * 2 ^ 56 + n % 65536 * 2 ^ 40 + k.handle),
    (k.word 24).p⟩

/-- A field of a word replaced: bits [hi:lo] of `v` take `x`. -/
def putBits (hi lo v x : Nat) : Nat :=
  v / 2 ^ (hi + 1) * 2 ^ (hi + 1) + x % 2 ^ (hi + 1 - lo) * 2 ^ lo + v % 2 ^ lo

/-! ## Handles and cells (R133, R134) -/

/-- The pool of a handle. -/
def hPool (h : Nat) : Nat := h / 2 ^ 34
/-- The index of a handle. -/
def hIdx (h : Nat) : Nat := h % 2 ^ 34
/-- A handle. -/
def mkHandle (pool idx : Nat) : Nat := pool * 2 ^ 34 + idx

/-- The ledger entry of a handle, if one is listed. -/
def bufOf (s : State) (h : Nat) : Option Buf := tget s.grn.bufs h

/-- The handle is HELD. -/
def isHeld (s : State) (h : Nat) : Bool :=
  match bufOf s h with
  | some b => b.st = 2
  | none => false

/-- The handle is HELD by an owner. -/
def heldByOwner (s : State) (h o : Nat) : Bool :=
  match bufOf s h with
  | some b => b.st = 2 && b.owner = o
  | none => false

/-- The held cells of an on-chip chain from a first cell on, in link order. -/
def chainFrom (bufs : Tbl Buf) : Nat → Nat → List Nat
  | 0, _ => []
  | fuel + 1, h =>
    match tget bufs h with
    | some b =>
      if b.st = 2 then
        match b.link with
        | some n => h :: chainFrom bufs fuel n
        | none => [h]
      else []
    | none => []

/-- The cells of the chain at a handle; a chain has at most 257 cells (65,535 bytes). -/
def chainOf (s : State) (h : Nat) : List Nat := chainFrom s.grn.bufs 300 h

/-- The 256 bytes of a cell, zero where nothing was written (R140). -/
def cellBytes (s : State) (h : Nat) : List PByte :=
  let b := tgetD s.grn.data h []
  b ++ List.replicate (256 - b.length) PByte.zero

/-- All the bytes of the chain at a handle. -/
def chainBytes (s : State) (h : Nat) : List PByte := (chainOf s h).flatMap (cellBytes s)

/-- `n` bytes of the chain at a handle from an offset, zero past its end. -/
def readChain (s : State) (h off n : Nat) : List PByte :=
  let b := ((chainBytes s h).drop off).take n
  b ++ List.replicate (n - b.length) PByte.zero

/-- Bytes laid over bytes from an offset. -/
def overlay (old : List PByte) (off : Nat) (new : List PByte) : List PByte :=
  old.take off ++ List.replicate (off - old.length) PByte.zero ++ new ++ old.drop (off + new.length)

/-- Spread bytes over cells, 256 to each; the last cell takes what remains. -/
def spread (data : Tbl (List PByte)) : List Nat → List PByte → Tbl (List PByte)
  | [], _ => data
  | [h], bs => tput [] data h bs
  | h :: t, bs => spread (tput [] data h (bs.take 256)) t (bs.drop 256)

/-- Replace the bytes of the chain at a handle. -/
def setChain (s : State) (h : Nat) (bs : List PByte) : State :=
  { s with grn := { s.grn with data := spread s.grn.data (chainOf s h) bs } }

/-- Write bytes into the chain at a handle from an offset. -/
def writeChain (s : State) (h off : Nat) (bs : List PByte) : State :=
  setChain s h (overlay (chainBytes s h) off bs)

/-! ## The packet (R42, R80) -/

/-- The bytes of the packet that w24 names. -/
def pktBytes (s : State) (k : Pkt) : List PByte := readChain s k.handle 0 k.len

/-- The numeric bytes of marked bytes. -/
def rawBytes (bs : List PByte) : List Nat := bs.map (fun b => b.b.toNat)

/-- Some byte carries the poison mark. -/
def anyPoison (bs : List PByte) : Bool := bs.any (·.p)

/-- Clean marked bytes of numbers. -/
def pbytes (bs : List Nat) : List PByte := bs.map PByte.ofNat

/-- Bytes that all carry a mark, or none. -/
def markBytes (bs : List Nat) (m : Bool) : List PByte := bs.map (fun b => ⟨BitVec.ofNat 8 b, m⟩)

/-- The header window: the first 512 bytes of the packet (Table 2.2). -/
def window (s : State) (k : Pkt) : List PByte := (pktBytes s k).take 512

/-- Bytes of a list from an offset. -/
def slice {α : Type} (bs : List α) (off n : Nat) : List α := (bs.drop off).take n

/-! ## The step a context is to issue (R50) -/

/-- What a step meaning is given: pipeline, context, the packet, the step's index and fields, and the FID
and region of the hook the step lies in, if it lies in one. -/
structure StepIn where
  p : Nat
  c : Nat
  k : Pkt
  idx : Nat
  w : StepWord
  hook : Option HookReg
  deriving DecidableEq, Repr

/-- The word of src_a. -/
def StepIn.a (x : StepIn) : PWord := x.k.opnd x.w.srcA
/-- The word of src_b. -/
def StepIn.b (x : StepIn) : PWord := x.k.opnd x.w.srcB
/-- The value of src_a. -/
def StepIn.av (x : StepIn) : Nat := x.a.v.toNat
/-- The value of src_b. -/
def StepIn.bv (x : StepIn) : Nat := x.b.v.toNat
/-- The immediate. -/
def StepIn.imm (x : StepIn) : Nat := x.w.imm
/-- B of Table 2.21: src_b, or the immediate when src_b is 0xFF. -/
def StepIn.bOrImm (x : StepIn) : PWord :=
  if x.w.srcB = 0xFF then ⟨BitVec.ofNat 64 x.w.imm, false⟩ else x.b

/-- The region of a step index, if it is a hook step (Table 2.5). -/
def regionOf (i : Nat) : Option Nat := if 49152 ≤ i then some ((i - 49152) / 256) else none

/-- The hook assignment in force at a step of a bank. -/
def hookAt (b : Bank) (i : Nat) : Option HookReg :=
  match regionOf i with
  | some r => tget b.hooks r
  | none => none

/-- It is the context's turn on its engine: no other READY context of the engine comes between the one
that issued last and this one (R50). -/
def issueTurn (x : Pipe) (c : Nat) : Bool :=
  let e := c / 8
  let last := tgetD x.lastIssue e 7
  let dist := fun n => (n + 8 - (last + 1) % 8) % 8
  x.ctxs.all (fun y =>
    y.1 / 8 ≠ e || y.1 = c || y.2.st ≠ .ready || dist (c % 8) < dist (y.1 % 8))

/-- The packet of a context that may act: READY and its turn, or with a delivery that its unit holds back. -/
def readyCtx (s : State) (p c : Nat) : Option Pkt :=
  if p < 4 then
    match tget (pipeOf s p).ctxs c with
    | some k => if k.st = .held || k.st = .ready && issueTurn (pipeOf s p) c then some k else none
    | none => none
  else none

/-- A step word of a unit and an operation that goes on whatever code it gets. -/
def libWord (unit op dst a b imm : Nat) : StepWord :=
  { unit := unit, op := op, ccMask := 0, succA := 0, succB := 0, poisonOk := false, reserved := 0
    dst := dst, srcA := a, srcB := b, imm := imm }

/-- The step by which the storage library does what comes next: its unit, operation and operands (R150, R197, R300, R301, R429,
Tables 8.4 and 9.9; log entry 125). The library keeps handles in w0 to w3, operands in w4 to w15 and results in w16 and w17. -/
def LibOp.word (r : LibRun) : LibOp → StepWord
  | .get => libWord 15 0 8 4 5 0
  | .handoff inb => libWord 15 1 16 4 0xFF ((if inb then 2 else 1) + r.fid * 2 ^ 12 + r.conn * 2 ^ 24)
  | .write line timed _ =>
    libWord 15 1 16 8 (if timed then 4 else 0xFF) (line * 2 ^ 3 + b2n timed * 2 ^ 8 + r.fid * 2 ^ 12 + r.conn * 2 ^ 24)
  | .complete i q _ _ _ _ => libWord 15 1 16 4 5 (3 + i * 2 ^ 3 + b2n q * 2 ^ 9 + r.fid * 2 ^ 12 + r.conn * 2 ^ 24)
  | .release i => libWord 15 1 16 0xFF 0xFF (4 + i * 2 ^ 3 + r.fid * 2 ^ 12 + r.conn * 2 ^ 24)
  | .fail cause => libWord 15 1 16 0xFF 0xFF (5 + cause * 2 ^ 3 + r.fid * 2 ^ 12 + r.conn * 2 ^ 24)
  | .alloc d _ => libWord 8 0 d 4 5 3
  | .free d => libWord 8 1 0xFF d 5 1
  | .freeKept _ => libWord 8 1 0xFF 3 5 1
  | .haul ch _ _ => libWord 13 0 16 4 5 ch
  | .record dec hold .. => libWord 9 0 17 4 5 (b2n dec + 2 * b2n hold)
  | .xmit port cls _ => libWord 12 0 0xFF 4 0xFF (port + 2 ^ (8 + cls))
  | .count _ i => libWord 14 0 0xFF 4 0xFF i
  | .drop i _ => libWord 0 2 0xFF 0xFF 0xFF i
  | .fill _ | .keep .. | .list _ | .frame _ | .finish => libWord 0 1 0xFF 0xFF 0xFF 0

/-- The word of the step that a packet stands at: its bank's, or the storage library's. -/
def stepWord (b : Bank) (k : Pkt) : StepWord :=
  match k.lib with
  | some r => (r.plan.headD .finish).word r
  | none => b.step k.pc

/-- The step of a packet. -/
def stepIn (s : State) (p c : Nat) (k : Pkt) : StepIn :=
  let b := bankOf s k.bank
  { p := p, c := c, k := k, idx := k.pc, w := stepWord b k, hook := hookAt b k.pc }

/-- The step word of a packet has an uncorrectable error in its cluster's copy (R70). -/
def stepCorrupt (s : State) (p : Nat) (k : Pkt) (i : Nat) : Bool :=
  tgetD (bankOf s k.bank).ecc (p * 65536 + i) 0 = 2

/-- Write the packet of a context. -/
def setCtx (s : State) (p c : Nat) (k : Pkt) : State :=
  modPipe s p (fun x => { x with ctxs := tset x.ctxs c k })

/-- Note which context of an engine issued last (R50). -/
def issued (s : State) (p c : Nat) : State :=
  modPipe s p (fun x => { x with lastIssue := tset x.lastIssue (c / 8) (c % 8) })

end Sys2Proof.Machine
end

