-- ==== Sys2Proof/Machine/ParseBase.lean ====
section
/-! DEFINITION. The parsers of the PARSE steps (R81, Tables 2.22 and 2.23): every parser reads one header through the
header window; `lim` is the lesser of the packet's length and 512. -/

namespace Sys2Proof.Machine

/-! ## Sums (R230) -/

/-- The one's complement sum of big-endian 16-bit words. -/
def sum16 : List Nat → Nat
  | a :: b :: t => a * 256 + b + sum16 t
  | [a] => a * 256
  | [] => 0

/-- Fold a sum into 16 bits, end around. -/
def fold16 (n : Nat) : Nat := let m := n / 65536 + n % 65536; m / 65536 + m % 65536

/-- What a parser finds: its code, its result word, and the header bytes it read, `lo` up to `hi`. -/
structure PRes where
  cc : Cc
  w : Nat
  lo : Nat
  hi : Nat
  deriving DecidableEq, Repr

/-- A header that cannot be parsed: the result word is zero (R81). -/
def PRes.bad (lo hi : Nat) : PRes := ⟨.malformed, 0, lo, hi⟩

/-- A header of another kind: the result word is zero (R81). -/
def PRes.miss (lo hi : Nat) : PRes := ⟨.miss, 0, lo, hi⟩

/-- Big-endian number of `n` bytes at an offset. -/
def beAt (d : List Nat) (off n : Nat) : Nat := beNat (slice d off n)

/-- Byte at an offset. -/
def byteAt (d : List Nat) (off : Nat) : Nat := d.getD off 0

/-- next, start and next_off of a result word (Table 2.22). -/
def parseBase (nxt start end_ : Nat) : Nat :=
  nxt % 2 ^ 16 + start % 2 ^ 10 * 2 ^ 16 + min end_ 512 * 2 ^ 26

/-! ## L2 -/

/-- An EtherType that announces a VLAN tag. -/
def isTagType (e : Nat) : Bool := e = 0x8100 || e = 0x88A8

/-- The Ethernet header at an offset and up to two tags. -/
def parseEth (d : List Nat) (off lim : Nat) : PRes :=
  if lim < off + 14 then .bad off (off + 14)
  else if !isTagType (beAt d (off + 12) 2) then
    ⟨.done, parseBase (beAt d (off + 12) 2) off (off + 14), off, off + 14⟩
  else if lim < off + 18 then .bad off (off + 18)
  else
    let tci := beAt d (off + 14) 2
    let t := tci % 4096 * 2 ^ 38 + tci / 2 ^ 13 * 2 ^ 50
    if !isTagType (beAt d (off + 16) 2) then
      ⟨.done, parseBase (beAt d (off + 16) 2) off (off + 18) + 2 ^ 36 + t, off, off + 18⟩
    else if lim < off + 22 then .bad off (off + 22)
    else ⟨.done, parseBase (beAt d (off + 20) 2) off (off + 22) + 2 * 2 ^ 36 + t, off, off + 22⟩

/-! ## L3 -/

/-- An IPv6 next header value that names an extension header (RFC 8200; log entry 20). -/
def isV6Ext (n : Nat) : Bool := [0, 43, 44, 51, 60, 135, 139, 140].contains n

/-- The walk over IPv6 extension headers: the last next header, the offset after them, whether one was
found, whether one is a fragment header, and its offset field; none when one runs past the window. -/
def v6Walk (d : List Nat) (lim : Nat) : Nat → Nat → Nat → Bool → Option Nat →
    Except Nat (Nat × Nat × Bool × Option Nat)
  | 0, _, p, _, _ => .error p
  | fuel + 1, nh, p, ext, fo =>
    if !isV6Ext nh then .ok (nh, p, ext, fo)
    else if lim < p + 8 then .error (p + 8)
    else
      let n := if nh = 44 then 8 else if nh = 51 then (byteAt d (p + 1) + 2) * 4
        else (byteAt d (p + 1) + 1) * 8
      if lim < p + n then .error (p + n)
      else v6Walk d lim fuel (byteAt d p) (p + n) true
        (if nh = 44 then some (beAt d (p + 2) 2 / 8) else fo)

/-- An IPv4 header at an offset. -/
def parseV4 (d : List Nat) (off lim : Nat) : PRes :=
  let hl := byteAt d off % 16 * 4
  if hl < 20 then .bad off (off + 1)
  else if lim < off + hl then .bad off (off + hl)
  else
    let tot := beAt d (off + 2) 2
    let hdr := slice d off hl
    if d.length < off + tot || fold16 (sum16 hdr) % 65536 ≠ 0xFFFF then
      .bad off (off + hl)
    else
      let fl := beAt d (off + 6) 2
      let fo := fl % 8192
      let tos := byteAt d (off + 1)
      ⟨.done, parseBase (byteAt d (off + 9)) off (off + hl) + b2n (bitOf 13 fl || fo ≠ 0) * 2 ^ 37 +
          b2n (20 < hl) * 2 ^ 38 + tos / 4 * 2 ^ 39 + tos % 4 * 2 ^ 45 + byteAt d (off + 8) * 2 ^ 47,
        off, off + hl⟩

/-- An IPv6 header at an offset with its extension headers. -/
def parseV6 (d : List Nat) (off lim : Nat) : PRes :=
  if lim < off + 40 then .bad off (off + 40)
  else
    let ipEnd := off + 40 + beAt d (off + 4) 2
    if d.length < ipEnd then .bad off (off + 40)
    else
      match v6Walk d lim 65 (byteAt d (off + 6)) (off + 40) false none with
      | .error e => .bad off e
      | .ok (nh, p, ext, fo) =>
        let tc := beAt d off 2 / 16 % 256
        ⟨.done, parseBase nh off p + 2 ^ 36 + b2n fo.isSome * 2 ^ 37 + b2n ext * 2 ^ 38 +
            tc / 4 * 2 ^ 39 + tc % 4 * 2 ^ 45 + byteAt d (off + 7) * 2 ^ 47, off, p⟩

/-- The IP header at an offset. -/
def parseIp (d : List Nat) (off lim : Nat) : PRes :=
  if lim ≤ off then .bad off (off + 1)
  else if byteAt d off / 16 = 4 then parseV4 d off lim
  else if byteAt d off / 16 = 6 then parseV6 d off lim
  else .miss off (off + 1)

/-! ## L4 -/

/-- What an L4 parse reads of the L3 header that its word names: the fragment offset, and the end of the IP datagram. The header
has been parsed, and its own checks are not made again (Table 2.23). -/
def l3Facts (d : List Nat) (start lim : Nat) (v6 : Bool) : Nat × Nat :=
  if v6 then
    ((match v6Walk d lim 65 (byteAt d (start + 6)) (start + 40) false none with
      | .ok (_, _, _, fo) => fo.getD 0
      | .error _ => 0), start + 40 + beAt d (start + 4) 2)
  else (beAt d (start + 6) 2 % 8192, start + beAt d (start + 2) 2)

/-- The TCP or UDP header after the L3 header that a result word names (R81). -/
def parsePorts (d : List Nat) (l3 lim : Nat) : PRes :=
  let start := bits 25 16 l3
  let proto := bits 15 0 l3
  if proto ≠ 6 && proto ≠ 17 then .miss start start
  else
    let (fragOff, ipEnd) := l3Facts d start lim (bitOf 36 l3)
    let off := bits 35 26 l3
    if bitOf 37 l3 && fragOff ≠ 0 then .miss start off
    else
      let word := fun (tcp : Bool) (n : Nat) =>
        parseBase (beAt d (off + 2) 2) off (off + n) + b2n tcp * 2 ^ 36 + beAt d off 2 * 2 ^ 37
      if proto = 6 then
        let hl := byteAt d (off + 12) / 16 * 4
        if lim < off + 13 then .bad start (off + 20)
        else if hl < 20 || lim < off + hl then .bad start (off + max hl 20)
        else ⟨.done, word true hl, start, off + hl⟩
      else if lim < off + 8 then .bad start (off + 8)
      else
        let len := beAt d (off + 4) 2
        if len < 8 || (!bitOf 37 l3 && off + len ≠ ipEnd) then .bad start (off + 8)
        else ⟨.done, word false 8, start, off + 8⟩

/-! ## Tunnels -/

/-- The Geneve options from `p` to `end_`: whether one is critical; none when one runs past the end. -/
def geneveOpts (d : List Nat) (end_ : Nat) : Nat → Nat → Bool → Option Bool
  | 0, _, crit => some crit
  | fuel + 1, p, crit =>
    if end_ ≤ p then some crit
    else
      let n := 4 + byteAt d (p + 3) % 32 * 4
      if end_ < p + n then none
      else geneveOpts d end_ fuel (p + n) (crit || bitOf 7 (byteAt d (p + 2)))

/-- A VXLAN header (RFC 7348). -/
def parseVxlan (d : List Nat) (off lim : Nat) : PRes :=
  if lim < off + 8 then .bad off (off + 8)
  else ⟨.done, parseBase 0x6558 off (off + 8) + beAt d (off + 4) 3 * 2 ^ 36 +
    b2n (!bitOf 3 (byteAt d off)) * 2 ^ 61, off, off + 8⟩

/-- A Geneve header (RFC 8926) with its options. -/
def parseGeneve (d : List Nat) (off lim : Nat) : PRes :=
  let end_ := off + 8 + byteAt d off % 64 * 4
  if lim < off + 8 then .bad off (off + 8)
  else if lim < end_ then .bad off end_
  else
    match geneveOpts d end_ 64 (off + 8) false with
    | none => .bad off end_
    | some crit =>
      ⟨.done, parseBase (beAt d (off + 2) 2) off end_ + beAt d (off + 4) 3 * 2 ^ 36 +
        b2n (byteAt d off / 64 ≠ 0) * 2 ^ 61 + b2n crit * 2 ^ 62, off, end_⟩

/-- A GRE header (RFC 2784, RFC 2890), or NVGRE (RFC 7637), whose identifier is the key's upper 24 bits. -/
def parseGre (d : List Nat) (off lim : Nat) (nv : Bool) : PRes :=
  let f := byteAt d off
  let c := b2n (bitOf 7 f)
  let k := b2n (bitOf 5 f)
  let q := b2n (bitOf 4 f)
  let end_ := off + 4 + 4 * (c + k + q)
  if lim < off + 4 then .bad off (off + 4)
  else if lim < end_ then .bad off end_
  else
    let key := if k = 1 then beAt d (off + 4 + 4 * c) 4 else 0
    ⟨.done, parseBase (beAt d (off + 2) 2) off end_ +
      (if nv then key / 256 else key % 2 ^ 24) * 2 ^ 36 + k * 2 ^ 60 +
      b2n (byteAt d (off + 1) % 8 ≠ 0) * 2 ^ 61 + max c q * 2 ^ 63, off, end_⟩

/-- IP-in-IP: the inner header's version tells its protocol; the format has no header of its own. An inner header of another
version is MALFORMED (DESIGN CHOICE, log entry 20). -/
def parseIpIp (d : List Nat) (off lim : Nat) : PRes :=
  let v := byteAt d off / 16
  if lim < off + 1 then .bad off (off + 1)
  else if v = 4 then ⟨.done, parseBase 0x0800 off off, off, off + 1⟩
  else if v = 6 then ⟨.done, parseBase 0x86DD off off, off, off + 1⟩
  else .bad off (off + 1)

/-- The tunnel header of a format: 1 VXLAN, 2 Geneve, 3 GRE, 4 NVGRE, 5 IP-in-IP. A step with another
format is in no sealed bank (R81). -/
def parseTun (d : List Nat) (off lim fmt : Nat) : PRes :=
  if fmt = 1 then parseVxlan d off lim
  else if fmt = 2 then parseGeneve d off lim
  else if fmt = 3 then parseGre d off lim false
  else if fmt = 4 then parseGre d off lim true
  else if fmt = 5 then parseIpIp d off lim
  else .bad off off

/-! ## Storage PDUs -/

/-- A PDU type that Table 10.1 lists, by its number in the NVMe/TCP binding (log entry 21). -/
def isPduType (t : Nat) : Bool := [2, 3, 4, 5, 6, 7, 9].contains t

/-- The NVMe/TCP common header: type, flags, HLEN, PDO and the big-endian PLEN of R291. HLEN and PDO are inconsistent with PLEN
where the header, with its digest, is longer than PLEN, or the data begins before its end or after PLEN (DESIGN CHOICE, log entry
21). -/
def parsePdu (d : List Nat) (off lim : Nat) : PRes :=
  if lim < off + 8 then .bad off (off + 8)
  else
    let typ := byteAt d off
    let fl := byteAt d (off + 1)
    let hlen := byteAt d (off + 2)
    let pdo := byteAt d (off + 3)
    let plen := beAt d (off + 4) 4
    let hend := hlen + 4 * (fl % 2)
    if !isPduType typ then .miss off (off + 8)
    else if hlen < 8 || plen < hend || lim < off + hlen ||
        (pdo ≠ 0 && (pdo < hend || plen < pdo)) then .bad off (max (off + hlen) (off + 8))
    else ⟨.done, parseBase typ off (off + hlen) + hlen * 2 ^ 36 + pdo * 2 ^ 44 + fl % 4 * 2 ^ 52,
      off, off + hlen⟩

end Sys2Proof.Machine
end

