-- ==== Sys2Proof/Machine/Tables.lean ====
section
/-! DEFINITION. The forwarding tables: hashing (R155), buckets and the overflow store (R156 to R160), grants
and reserves (R158, R159), the writes of a bucket cycle (R165 to R171), and locks (R177 to R180). -/

namespace Sys2Proof.Machine

/-! ## Hashes (R82, R155, R194) -/

/-- CRC-32C before the final complement, from an initial value (R155). -/
def crc32cRaw (init : Nat) (bs : List Nat) : Nat := crcRun 0x82F63B78 init bs

/-- CRC-32C over bytes from an initial value, complemented (R155). -/
def crc32c (init : Nat) (bs : List Nat) : Nat := not32 (crc32cRaw init bs)

/-- The IEEE CRC-32 over bytes from an initial value, complemented (R82, R194). -/
def crc32 (init : Nat) (bs : List Nat) : Nat := not32 (crcRun 0xEDB88320 init bs)

/-! ## Access -/

/-- Pipeline `p`'s tables. -/
def fpOf (s : State) (p : Nat) : FPipe :=
  match p with
  | 0 => s.fwt.p0
  | 1 => s.fwt.p1
  | 2 => s.fwt.p2
  | _ => s.fwt.p3

/-- Write pipeline `p`'s tables. -/
def setFp (s : State) (p : Nat) (x : FPipe) : State :=
  match p with
  | 0 => { s with fwt := { s.fwt with p0 := x } }
  | 1 => { s with fwt := { s.fwt with p1 := x } }
  | 2 => { s with fwt := { s.fwt with p2 := x } }
  | _ => { s with fwt := { s.fwt with p3 := x } }

/-- A bucket of pipeline `p` is accessed: the idle period of its RLDRAM domain begins anew (R33); pipelines 0 and 1 lie in
RLD-0, 2 and 3 in RLD-1 (log entry 121). -/
def touchRld (s : State) (p : Nat) : State := { s with fwt := { s.fwt with rldAt := tset s.fwt.rldAt (p / 2) s.now } }

/-- The number of a bucket among all tables. -/
def bktKey (t b : Nat) : Nat := t * 2 ^ 23 + b

/-- The number of a slot among all tables. -/
def slotKey (t b i : Nat) : Nat := bktKey t b * 4 + i

/-- A table that exists and is ready for use (R154). -/
def tableOf (s : State) (t : Nat) : Option FTable :=
  match tget s.fwt.tables t with
  | some x => if x.ready then some x else none
  | none => none

/-- Where a grant is listed. -/
def grantKey (fid t p : Nat) : Nat := (fid * 16 + t) * 4 + p

/-- The grant of a FID in a table instance, if it holds one (R158). -/
def grantOf (s : State) (fid t p : Nat) : Option FGrant := tget s.fwt.grants (grantKey fid t p)

/-- The bucket a key hashes to (R155). -/
def bucketOf (x : FTable) (key : List Nat) : Nat :=
  crc32c x.seed (key.take x.keyLen) % 2 ^ x.bucketsLog2

/-- Key bytes 0 to 31 with the bytes from key_len on zero (Table 5.2). -/
def normKey (x : FTable) (key : List Nat) : List Nat :=
  let k := key.take (min x.keyLen 32)
  k ++ List.replicate (32 - k.length) 0

/-- The bucket of a hash. -/
def bucketOfHash (x : FTable) (hash : Nat) : Nat := hash % 2 ^ x.bucketsLog2

/-- The entries of a bucket: slot and entry, in slot order. -/
def bucketSlots (fp : FPipe) (t b : Nat) : List (Nat × FEntry) :=
  [0, 1, 2, 3].filterMap (fun i => (tget fp.slots (slotKey t b i)).map (fun e => (i, e)))

/-- The overflow entries of a bucket, in ascending overflow index. -/
def bucketOvf (fp : FPipe) (t b : Nat) : List (Nat × OvfEntry) :=
  fp.ovf.filter (fun e => e.2.e.table = t && e.2.bucket = b)

/-- The entry holds the key under the owner. -/
def FEntry.isFor (e : FEntry) (t : Nat) (key : List Nat) (owner : Nat) : Bool :=
  e.table = t && e.key = key && e.owner = owner

/-- The entry matches a lookup for a FID (R157). -/
def FEntry.matches (e : FEntry) (t : Nat) (key : List Nat) (fid : Nat) : Bool :=
  e.table = t && e.key = key && (e.owner = fid || e.owner = 0xFFF)

/-- Outside its live interval at a tick (R174). -/
def FEntry.expired (e : FEntry) (x : FTable) (tick : W32) : Bool :=
  !e.noAge && x.ageLimit ≠ 0 && x.ageLimit ≤ (tick - e.lastHit).toNat

/-- The bucket is locked. -/
def isLocked (fp : FPipe) (t b : Nat) : Bool := (tget fp.locks (bktKey t b)).isSome

/-! ## Quotas and reserves (R158, R159) -/

/-- Entries a FID owns in an instance, bucket and overflow together. -/
def ownedIn (fp : FPipe) (t o : Nat) : Nat :=
  tcount fp.slots (fun _ e => e.table = t && e.owner = o) +
    tcount fp.ovf (fun _ e => e.e.table = t && e.e.owner = o && !e.homed)

/-- The LEARN and WRITE_FLOW writes of a bucket cycle. -/
def cycleLearns (fp : FPipe) : List PendWrite :=
  fp.cycle.filterMap (fun w => match w with
    | .learn _ x => some x
    | _ => none)

/-- The writes with a reservation: those of the cycle, and those pending on a lock (R165). -/
def FPipe.writes (fp : FPipe) : List PendWrite := cycleLearns fp ++ fp.pend

/-- The FID's writes still pending in an instance. -/
def pendIn (fp : FPipe) (t o : Nat) : Nat :=
  (fp.writes.filter (fun w => w.table = t && w.owner = o)).length

/-- Overflow entries a FID holds in an instance, reservations of pending writes included. -/
def ovfHeld (fp : FPipe) (t o : Nat) : Nat :=
  tcount fp.ovf (fun _ e => e.e.table = t && e.e.owner = o) + pendIn fp t o

/-- The sum of the reserves of a pipeline. -/
def reserveSum (s : State) (p : Nat) : Nat :=
  tsum s.fwt.grants (fun k g => if k % 4 = p then g.ovfReserve else 0)

/-- Overflow entries of a pipeline in use from reserves: for each holder, at most its reserve. -/
def reserveUsed (s : State) (p : Nat) : Nat :=
  tsum s.fwt.grants (fun k g =>
    if k % 4 = p then min g.ovfReserve (ovfHeld (fpOf s p) (k / 4 % 16) (k / 64)) else 0)

/-- The free entries of a pipeline's overflow Commons. -/
def ovfCommonsFree (s : State) (p : Nat) : Nat :=
  let fp := fpOf s p
  (16384 - reserveSum s p) - (fp.ovf.length + fp.writes.length - reserveUsed s p)

/-- An overflow entry can be reserved for an owner (R159). -/
def ovfAvail (s : State) (p t o : Nat) : Bool :=
  ovfHeld (fpOf s p) t o < ((grantOf s o t p).getD {}).ovfReserve || 0 < ovfCommonsFree s p

/-! ## Writes of one bucket -/

/-- The lowest free slot of a bucket. -/
def freeSlot (fp : FPipe) (t b : Nat) : Option Nat :=
  [0, 1, 2, 3].find? (fun i => (tget fp.slots (slotKey t b i)).isNone)

/-- Forget that a key was removed: something has written it since (R168). -/
def clearAged (fp : FPipe) (t o : Nat) (key : List Nat) : FPipe :=
  { fp with
    aged := fp.aged.filter (fun a => a ≠ (t, o, key))
    gone := fp.gone.filter (fun a => a ≠ (t, o, key)) }

/-- The keys that one pipeline's tables hold: table, owner and key of each entry. -/
def heldKeys (fp : FPipe) : List (Nat × Nat × List Nat) :=
  fp.slots.map (fun e => (e.2.table, e.2.owner, e.2.key)) ++ fp.ovf.map (fun e => (e.2.e.table, e.2.e.owner, e.2.e.key))

/-- Note the keys of which a removal other than the ager's left no copy (R168). -/
def noteGone (old new : FPipe) : FPipe :=
  let left := heldKeys new
  { new with gone := new.gone ++ ((heldKeys old).filter (fun k => !left.contains k)).eraseDups }

/-- Some copy of the key and owner is present. -/
def hasCopy (fp : FPipe) (t b o : Nat) (key : List Nat) : Bool :=
  (bucketSlots fp t b).any (fun e => e.2.isFor t key o) ||
    (bucketOvf fp t b).any (fun e => e.2.e.isFor t key o)

/-- Change every copy of a key and owner. -/
def modCopies (fp : FPipe) (t b o : Nat) (key : List Nat) (g : FEntry → FEntry) : FPipe :=
  { fp with
    slots := tmap fp.slots (fun k e => if k / 4 = bktKey t b && e.isFor t key o then g e else e)
    ovf := tmap fp.ovf (fun _ e =>
      if e.bucket = b && e.e.isFor t key o then { e with e := g e.e } else e) }

/-- Place a new entry: the lowest free slot, else the overflow store (R165). A parity mark of the slot stays with what the data
path writes there; a manager's write replaces the bad bytes (R163). -/
def placeEntry (fp : FPipe) (t b : Nat) (hot : Bool) (e : FEntry) : FPipe :=
  match freeSlot fp t b with
  | some i =>
    let k := slotKey t b i
    { fp with
      slots := tset fp.slots k { e with mark := e.mark || (e.origin && fp.badSlots.contains k) }
      badSlots := fp.badSlots.filter (fun j => j ≠ k), rawSlots := tdel fp.rawSlots k }
  | none =>
    if hot then fp
    else
      match firstFree fp.ovf 16384 0 with
      | some i =>
        { fp with
          ovf := tset fp.ovf i { e := e, bucket := b, ord := fp.nextOrd }, nextOrd := fp.nextOrd + 1 }
      | none => fp

/-- Apply a LEARN or WRITE_FLOW (R165): every copy takes the result, or a new entry is placed, with the marks of what is
written (R67). -/
def applyLearn (fp : FPipe) (w : PendWrite) (tick : W32) : FPipe :=
  let fp := clearAged fp w.table w.owner w.key
  if hasCopy fp w.table w.bucket w.owner w.key then
    modCopies fp w.table w.bucket w.owner w.key (fun e => { e with
      result := w.result, lastHit := tick, mark := e.mark || w.mark, resMark := w.resMark })
  else
    placeEntry fp w.table w.bucket false
      { origin := true, noAge := false, table := w.table, owner := w.owner, lastHit := tick, key := w.key
        result := w.result, mark := w.mark, resMark := w.resMark }

/-- Remove every copy of a key and owner. -/
def removeCopies (fp : FPipe) (t b o : Nat) (key : List Nat) : FPipe :=
  noteGone fp { fp with
    slots := tfilter fp.slots (fun k e => !(k / 4 = bktKey t b && e.isFor t key o))
    ovf := tfilter fp.ovf (fun _ e => !(e.bucket = b && e.e.isFor t key o)) }

/-- A refresh of every copy. One that finds no copy is counted when the ager or another removal took the key, and one of a
key that nothing removed is not (R168). -/
def applyRefresh (s : State) (p t b o : Nat) (key : List Nat) : State :=
  let fp := fpOf s p
  if hasCopy fp t b o key then
    setFp s p (modCopies fp t b o key (fun e => { e with lastHit := s.fwt.tick }))
  else if fp.aged.contains (t, o, key) then count s o cHitOnExpiry
  else if fp.gone.contains (t, o, key) then count s o cRefreshLost
  else s

/-- The overflow entries searched with a bucket carry a mark. -/
def ovfMarked (fp : FPipe) (t b : Nat) : Bool := (bucketOvf fp t b).any (·.2.e.mark)

/-- The compared bytes of a bucket carry a mark: those of its four slots, or of its overflow entries (R163). -/
def bucketMarked (fp : FPipe) (t b : Nat) : Bool :=
  (bucketSlots fp t b).any (·.2.mark) || [0, 1, 2, 3].any (fun i => fp.badSlots.contains (slotKey t b i)) || ovfMarked fp t b

/-- A read met marked bytes: counted, and FWT_PARITY records the bucket (R163). -/
def noteParity (s : State) (p t b : Nat) : State :=
  countDev { s with fwt := { s.fwt with
    parPipe := p, parTable := t, parBucket := b, parOverflow := ovfMarked (fpOf s p) t b, parSeen := true } } cFwtParity

/-- A write joins its bucket cycle. -/
def addCycle (s : State) (p : Nat) (w : CycleWrite) : State := setFp s p { fpOf s p with cycle := (fpOf s p).cycle ++ [w] }

/-- The ager's read of a bucket: its expired entries go at the end of the cycle, unless the compared bytes are marked
(R163, R175, R176). -/
def agerVisitBucket (s : State) (p t b : Nat) : State :=
  if bucketMarked (fpOf s p) t b then noteParity s p t b else addCycle s p (.age t b)

/-- The ager's removal of every expired entry of a bucket (R175). -/
def ageBucket (s : State) (p t b : Nat) (x : FTable) : State :=
    let fp := fpOf s p
    let es := (bucketSlots fp t b).map (·.2) ++ (bucketOvf fp t b).map (·.2.e)
    let dead := es.filter (fun e => e.expired x s.fwt.tick)
    let dead' : List (Nat × List Nat) := (dead.map (fun e => (e.owner, e.key))).eraseDups
    let fp' : FPipe :=
      { fp with
        slots := tfilter fp.slots (fun k e => !(k / 4 = bktKey t b && e.expired x s.fwt.tick))
        ovf := tfilter fp.ovf (fun _ e =>
          !(e.bucket = b && e.e.table = t && e.e.expired x s.fwt.tick))
        aged := fp.aged ++ dead'.map (fun e => (t, e.1, e.2)) }
    dead'.foldl (fun s e => count s e.1 cFwtAged) (setFp s p fp')

/-- The overflow entry of a bucket that entered the store first and has no bucket copy yet. -/
def oldestOvf (fp : FPipe) (t b : Nat) : Option (Nat × OvfEntry) :=
  ((bucketOvf fp t b).filter (fun e => !e.2.homed)).foldl (fun best e =>
    match best with
    | none => some e
    | some x => if e.2.ord < x.2.ord then some e else some x) none

/-- The homing unit's write of a bucket copy; with no free slot left the move is abandoned (Table 5.5). -/
def homeBucket (fp : FPipe) (t b : Nat) : FPipe :=
  match freeSlot fp t b, oldestOvf fp t b with
  | some i, some (j, e) =>
    { fp with
      slots := tset fp.slots (slotKey t b i) e.e
      rawSlots := tdel fp.rawSlots (slotKey t b i)
      ovf := tset fp.ovf j { e with homed := true }
      homing := fp.homing ++ [(t, b, j)] }
  | _, _ => fp

/-- The rank of a write in its bucket cycle (Table 5.5). -/
def CycleWrite.rank : CycleWrite → Nat
  | .age _ _ => 2
  | .home _ _ => 4
  | .learn _ _ => 5
  | .refresh _ _ _ _ _ => 6

/-- The place of a write within its rank (R169). -/
def CycleWrite.ord : CycleWrite → Nat
  | .learn n _ => n
  | .refresh n _ _ _ _ => n
  | _ => 0

/-- A write among others of its rank, behind those of its own place. -/
def insertWrite (w : CycleWrite) : List CycleWrite → List CycleWrite
  | [] => [w]
  | v :: t => if w.ord < v.ord then w :: v :: t else v :: insertWrite w t

/-- Writes of one rank in ascending engine number, then in port order (R169). -/
def inOrder (ws : List CycleWrite) : List CycleWrite := ws.foldl (fun l w => insertWrite w l) []

/-- Apply one write of a bucket cycle. -/
def applyWrite (s : State) (p : Nat) (w : CycleWrite) : State :=
  match w with
  | .age t b =>
    match tableOf s t with
    | some x => ageBucket s p t b x
    | none => s
  | .home t b => setFp s p (homeBucket (fpOf s p) t b)
  | .learn _ y => setFp s p (applyLearn (fpOf s p) y s.fwt.tick)
  | .refresh _ t b o key => applyRefresh s p t b o key

/-- The bucket cycle of a pipeline ends: its writes apply in the ranks of Table 5.5, and within a rank in ascending engine number,
then in port order (R169, log entry 122). -/
def endCycle (s : State) (p : Nat) : State :=
  let ws := (fpOf s p).cycle
  if ws.isEmpty then s
  else [2, 4, 5, 6].foldl (fun s r => (inOrder (ws.filter (fun w => w.rank = r))).foldl (fun s w => applyWrite s p w) s)
    (setFp s p { fpOf s p with cycle := [] })

/-- The open bucket cycles end before a write of the manager, a flush or an image, which begins a cycle of its own (log entry
122). -/
def endCycles (s : State) : State := pipes.foldl endCycle s

/-- Clear a bucket's lock and apply its pending writes in order (R167). -/
def unlockBucket (s : State) (p t b : Nat) : State :=
  let fp := fpOf s p
  let mine := fp.pend.filter (fun w => w.table = t && w.bucket = b)
  let fp1 := { fp with
    locks := tdel fp.locks (bktKey t b)
    pend := fp.pend.filter (fun w => !(w.table = t && w.bucket = b)) }
  setFp s p (mine.foldl (fun fp w => applyLearn fp w s.fwt.tick) fp1)

/-- The pending writes of an owner that enters the stocks are discarded, and their reservations released (R167). -/
def dropPending (s : State) (o : Nat) : State :=
  pipes.foldl (fun s p => setFp s p { fpOf s p with pend := (fpOf s p).pend.filter (fun w => w.owner ≠ o) }) s

/-- Clear every lock a FID holds in a pipeline, with its pending writes applied (R287). -/
def clearLocksIn (s : State) (p fid : Nat) : State :=
  ((fpOf s p).locks.filter (fun l => l.2.holder = fid)).foldl
    (fun s l => unlockBucket s p (l.1 / 2 ^ 23) (l.1 % 2 ^ 23)) s

/-- Clear every lock a FID holds (R287). -/
def clearLocksOf (s : State) (fid : Nat) : State :=
  [0, 1, 2, 3].foldl (fun s p => clearLocksIn s p fid) s

/-- The bucket locks a FID holds in all pipelines. -/
def locksOf (s : State) (fid : Nat) : Nat :=
  ([0, 1, 2, 3].map (fun p => tcount (fpOf s p).locks (fun _ l => l.holder = fid))).sum

/-! ## Bucket images (R156, R179, Table 5.2) -/

/-- The 64 bytes of an entry (Table 5.2). -/
def FEntry.bytes (e : FEntry) : List Nat :=
  leBytes 4 (1 + b2n e.origin * 2 + b2n e.noAge * 4 + e.table * 16 + e.owner * 65536) ++
    leBytes 4 e.lastHit.toNat ++ e.key ++ List.replicate (32 - e.key.length) 0 ++ e.result ++
    List.replicate (24 - e.result.length) 0

/-- The 256 bytes of a bucket. -/
def bucketBytes (fp : FPipe) (t b : Nat) : List Nat :=
  [0, 1, 2, 3].flatMap (fun i =>
    match tget fp.slots (slotKey t b i) with
    | some e => e.bytes
    | none => List.replicate 64 0)

/-- The entry that 64 bytes hold; none where valid is 0. -/
def FEntry.ofBytes (bs : List Nat) : Option FEntry :=
  let c := leNat (bs.take 4)
  if bitOf 0 c then
    some { origin := bitOf 1 c, noAge := bitOf 2 c, table := bits 7 4 c, owner := bits 27 16 c
           lastHit := BitVec.ofNat 32 (leNat ((bs.drop 4).take 4)), key := (bs.drop 8).take 32
           result := (bs.drop 40).take 24 }
  else none

/-- Reserved bits of the control word are zero. -/
def entryReservedOk (bs : List Nat) : Bool :=
  let c := leNat (bs.take 4)
  !bitOf 3 c && bits 15 8 c = 0 && bits 31 28 c = 0

end Sys2Proof.Machine
end

