-- ==== Sys2Proof/Machine/Library.lean ====
section
/-! DEFINITION. The shipped storage library (R291, R293, R295 to R297, R305 to R311, R313): what it does with an entry, with a
frame of a connection, and with a work packet. The spec gives its behaviour and not its steps; here it is a plan of unit steps,
which the units run as they run a table set's (log entry 125). -/

namespace Sys2Proof.Machine

/-! ## Storage entries (Table 10.5) -/

/-- A storage entry of opcode 0x40. -/
structure StgCmd where
  conn : Nat
  flags : Nat
  sa : Nat
  dun : Nat
  len : Nat
  sqe : List Nat
  gather : List (Nat × Nat)
  padding : List Nat
  deriving DecidableEq, Repr

/-- The 16-byte elements of gather bytes: address, length and the bytes that must be zero. -/
def gatherOf : Nat → List Nat → List (Nat × Nat × List Nat)
  | 0, _ => []
  | n + 1, bs => (leNat (slice bs 0 8), leNat (slice bs 8 4), slice bs 12 4) :: gatherOf n (bs.drop 16)

/-- The fields of an entry's bytes; an odd number of elements leaves the last 16 bytes zero. -/
def StgCmd.ofBytes (bs : List Nat) : StgCmd :=
  let all := gatherOf ((bs.length - 96) / 16) (bs.drop 96)
  let odd := (slice bs (bs.length - 16) 16).all (fun b => b = 0)
  let els := if 96 < bs.length && odd then all.dropLast else all
  { conn := leNat (slice bs 8 2), flags := bs.getD 10 0, sa := leNat (slice bs 12 4), dun := leNat (slice bs 16 8)
    len := leNat (slice bs 24 4), sqe := slice bs 32 64, gather := els.map (fun e => (e.1, e.2.1))
    padding := [bs.getD 11 0] ++ slice bs 28 4 ++ els.flatMap (fun e => e.2.2) }

/-- The data direction: bits [1:0] of the SQE opcode (R296). -/
def StgCmd.dir (e : StgCmd) : Nat := e.sqe.getD 0 0 % 4

/-- The data is encrypted (R308). -/
def StgCmd.xts (e : StgCmd) : Bool := bitOf 0 e.flags

/-- Check 2 of Table 10.6 fails. -/
def StgCmd.bad (e : StgCmd) (slots : Nat) : Bool :=
  e.flags / 2 ≠ 0 || e.padding.any (fun b => b ≠ 0) || slots ≠ 3 + (e.gather.length + 1) / 2 || 26 < e.gather.length ||
    (e.gather.map (·.2)).sum ≠ e.len || e.gather.any (fun g => g.2 = 0) || 8388608 < e.len || e.dir = 3

/-- Check 3 of Table 10.6 fails: not an ACTIVE mode 11 SA of the function, or data that is no whole number of its units. -/
def xtsBad (s : State) (fid : Nat) (e : StgCmd) : Bool :=
  e.xts &&
    (match tget s.cip.sas e.sa with
    | some a => a.st ≠ .active || a.mode ≠ 11 || a.owner ≠ fid || e.len % 2 ^ a.unitLog2 ≠ 0
    | none => true)

/-- The checks 1 to 3 of Table 10.6: the entry status of the first that fails; each counts stg_bad_entry. -/
def entryFault (s : State) (fid : Nat) (bs : List Nat) : Option Nat :=
  let e := StgCmd.ofBytes bs
  if bs.getD 0 0 ≠ 0x40 then some 0x20
  else if e.bad (bs.length / 32) || xtsBad s fid e then some 0x21
  else none

/-- The checks 4 to 8 of Table 10.6: counter and status for what CONN_GET and CONN_PUT HANDOFF answer. -/
def handoffFault (cc : Cc) (reason : Nat) : Nat × Nat :=
  match cc with
  | .miss => (cStgConnAbsent, 0x13)
  | .refusedState =>
    if reason = 0x02 then (cStgConnForeign, 0x14) else if reason = 0x03 || reason = 0x04 then (cStgCmdLimit, 0x10)
    else if reason = 0x05 then (cStgTurnFull, 0x12) else (cStgConnNotActive, 0x13)
  | .frozen => (cStgConnNotActive, 0x34)
  | _ => (cPoisonedDiscard, 0x30)

/-- The command of a slot from its entry. -/
def LibCmd.ofEntry (fid cid : Nat) (e : StgCmd) : LibCmd :=
  { cid := cid, fid := fid, toHost := e.dir = 2, xts := e.xts, sa := e.sa, dun := e.dun, len := e.len, gather := e.gather }

/-! ## Gather ranges -/

/-- The host ranges of `n` bytes of gather elements from an offset, each with its offset in the data. -/
def gatherAt : List (Nat × Nat) → Nat → Nat → Nat → List (Nat × Nat × Nat)
  | [], _, _, _ => []
  | (a, l) :: t, off, n, at_ =>
    if n = 0 then []
    else if l ≤ off then gatherAt t (off - l) n at_
    else
      let m := min n (l - off)
      (a + off, at_, m) :: gatherAt t 0 (n - m) (at_ + m)

/-- Lists of at most eight parts, as HAUL START takes them. -/
def groups8 : Nat → List LibPiece → List (List LibPiece)
  | 0, _ => []
  | n + 1, ps => if ps.isEmpty then [] else ps.take 8 :: groups8 n (ps.drop 8)

/-- The descriptor bytes of a part (Table 9.1); the data chain's handle is given, and the last ends its list. -/
def LibPiece.bytes (h : Nat) (last : Bool) (x : LibPiece) : List Nat :=
  let cell := leBytes 8 (h + x.off * 2 ^ 40)
  let host := leBytes 8 x.host
  let spaces := if x.zero then 1 * 16 else if x.toHost then 2 + 1 * 16 else 1 + 2 * 16
  let src := if x.zero then List.replicate 8 0 else if x.toHost then cell else host
  let dst := if x.zero || x.toHost then host else cell
  let head := [if x.zero then 2 else 1, b2n last, spaces]
  let tail := leBytes 4 x.len ++ src ++ dst ++ List.replicate 8 0
  head ++ [xorBytes (head ++ tail)] ++ tail

/-- The bytes of a list. -/
def listBytes (h : Nat) : List LibPiece → List Nat
  | [] => []
  | [x] => x.bytes h true
  | x :: t => x.bytes h false ++ listBytes h t

/-- Haul runs over parts: their lists are built in the cell in w1. -/
def haulSteps (chan : Nat) (slot : Option Nat) (ps : List LibPiece) : List LibOp :=
  (groups8 (ps.length + 1) ps).flatMap (fun g => [.list g, .haul chan g.length slot])

/-- The parts of `n` bytes of a command from an offset. -/
def LibCmd.parts (m : LibCmd) (zero toHost : Bool) (off n : Nat) : List LibPiece :=
  (gatherAt m.gather off n 0).map (fun e => ⟨zero, toHost, e.1, e.2.1, e.2.2⟩)

/-! ## What the library knows in a turn -/

/-- A part of a data unit in a turn: its command, its place, its bytes, and the chain that holds it already. -/
structure LibPart where
  cid : Nat
  off : Nat
  bs : List PByte
  cell : Option Nat := none
  deriving DecidableEq, Repr

/-- What the library has worked out so far in a turn packet: the steps, the record, the slots as those steps will leave them, the
parts of data units, and the cause of a failure it has met. `una0` is the oldest unacknowledged number at the start, `idle0` says
that nothing was unacknowledged then, and `expired` that the packet is a connection timer's. -/
structure LibAcc where
  conn : Nat
  c : Conn
  chan : Nat
  now : Nat
  ops : List LibOp := []
  rc : LibRec
  parts : List LibPart := []
  una0 : Nat := 0
  idle0 : Bool := true
  expired : Bool := false
  stop : Option Nat := none
  deriving DecidableEq, Repr

/-- Add steps. -/
def LibAcc.add (a : LibAcc) (ops : List LibOp) : LibAcc := { a with ops := a.ops ++ ops }

/-- A fatal event (Table 10.11). -/
def LibAcc.halt (a : LibAcc) (cause : Nat) : LibAcc := { a with stop := some cause }

/-- The state of the slot that an identifier names: 0 where the slot is FREE or of another generation (R295). -/
def LibAcc.slotSt (a : LibAcc) (cid : Nat) : Nat :=
  let x := tgetD a.c.slots (cid % 64) {}
  if cid % 64 < 48 && x.gen = cid / 64 then x.st else 0

/-- The slot takes a state. -/
def LibAcc.putSlot (a : LibAcc) (i st : Nat) : LibAcc :=
  { a with c := { a.c with slots := tset a.c.slots i { tgetD a.c.slots i {} with st := st } } }

/-- Complete the command of a slot (Table 10.11), with the counters named. -/
def LibAcc.finish (a : LibAcc) (i : Nat) (q : Bool) (status nvme cid result : Nat) (cnts : List Nat) : LibAcc :=
  (a.putSlot i (if q then 3 else 0)).add
    (.complete i q status nvme cid result :: cnts.map (fun n => .count a.c.owner n))

/-- A response that names no command in flight: stg_bad_cid, or stg_late_response for one that has expired (R295, R305). -/
def LibAcc.stale (a : LibAcc) (cid : Nat) : LibAcc :=
  a.add [.count a.c.owner (if a.slotSt cid = 0 then cStgBadCid else cStgLateResponse)]

/-- A CQE (R305, R306, Table 10.11): it completes the command; the slot that expired ends with FAILED_TIMEOUT, and a quarantined
one is released. -/
def LibAcc.cqe (a : LibAcc) (dw0 cid sf : Nat) : LibAcc :=
  let i := cid % 64
  match a.slotSt cid with
  | 1 =>
    if ((tget a.rc.cmds i).map (·.bad)).getD false then a.finish i false 0x00 0x0022 cid 0 [cStgDdgstError]
    else a.finish i false 0x00 (sf % 32768 + 32768) cid dw0 (if sf % 32768 = 0 then [] else [cStgNvmeError])
  | 2 => a.finish i false 0x31 0 cid 0 [cStgCmdTimeout]
  | 3 => (a.putSlot i 0).add [.release i, .count a.c.owner cStgLateResponse]
  | _ => a.stale cid

/-! ## Frames of a connection -/

/-- Transport header of NVMe/TCP: ports from the steering key, numbers, flags and window; its checksum is filled when the frame is
built. -/
def tcpHdr (c : Conn) (rc : LibRec) (seq flags : Nat) : List Nat :=
  slice c.steer 10 2 ++ slice c.steer 8 2 ++ beBytes 4 seq ++ beBytes 4 rc.rcv ++ [0x50, flags] ++ beBytes 2 rc.own ++ [0, 0, 0, 0]

/-- Base transport header of RoCEv2: opcode, the peer's queue pair, whether an acknowledgement is asked for, and the PSN. -/
def bth (rc : LibRec) (op : Nat) (ack : Bool) (psn : Nat) : List Nat :=
  [op, 0x40, 0xFF, 0xFF, 0] ++ beBytes 3 rc.peer ++ [b2n ack * 128] ++ beBytes 3 psn

/-- Send a frame: a chain for it in w2, its bytes, and XMIT CLASS on the connection's paced class (Table 10.1). -/
def LibAcc.send (a : LibAcc) (f : LibFrame) : LibAcc :=
  let n := (Sys2Proof.Config.netHead a.conn (f.hdr.length + f.n)).length + f.hdr.length + f.n + (if f.tcp then 0 else 4)
  let (port, cls) := Sys2Proof.Config.stgClass a.conn
  a.add [.alloc 2 n, .frame f, .xmit (port % 16) (cls % 8) n]

/-- An acknowledgement: a segment without data, or an ACK or NAK with a syndrome. -/
def LibAcc.ackTcp (a : LibAcc) : LibAcc :=
  a.send { tcp := true, hdr := tcpHdr a.c a.rc a.rc.nxt 0x10, head := [], at_ := 0, n := 0 }

/-- A RoCEv2 acknowledgement or NAK: AETH with a syndrome and the message number. -/
def LibAcc.ackRoce (a : LibAcc) (syndrome psn : Nat) : LibAcc :=
  a.send { tcp := false, hdr := bth a.rc 0x11 false psn ++ [syndrome] ++ beBytes 3 a.rc.msn, head := [], at_ := 0, n := 0 }

/-- The data unit of a command's SA; 512 where the SA is gone. -/
def unitOf (s : State) (m : LibCmd) : Nat := 2 ^ ((tget s.cip.sas m.sa).map (·.unitLog2)).getD 9

/-- One CIP RECORD for each data unit of `n` bytes of a command from an offset; the lane is held until the last (R308). -/
def recordOps (m : LibCmd) (slot u off n : Nat) (decrypt : Bool) : List LibOp :=
  (List.range (n / u)).map (fun j => .record decrypt (j + 1 < n / u) m.sa m.fid (j * u) u (m.dun + off / u + j) slot m.cid)

/-- The whole data units that cover `n` bytes of a command from an offset, and just those bytes where it is not encrypted
(R308). -/
def unitSpan (s : State) (m : LibCmd) (off n : Nat) : Nat × Nat :=
  if m.xts then
    let u := unitOf s m
    (off / u * u, (off + n + u - 1) / u * u - off / u * u)
  else (off, n)

/-- Move data to the host (R304, R308): the bytes go into a chain of the owner in pool 3, are decrypted there, and a haul run
writes them to the gather range. -/
def LibAcc.toHost (s : State) (a : LibAcc) (slot : Nat) (m : LibCmd) (off : Nat) (bs : List PByte) : LibAcc :=
  a.add ([.alloc 0 bs.length, .fill bs] ++ (if m.xts then recordOps m slot (unitOf s m) off bs.length true else []) ++
    [.alloc 1 256] ++ haulSteps a.chan (some slot) (m.parts false true off bs.length) ++ [.free 1, .free 0])

/-- Zero a part of a command's gather range (R307). -/
def LibAcc.zero (a : LibAcc) (slot : Nat) (m : LibCmd) (off n : Nat) : LibAcc :=
  if n = 0 then a
  else a.add ([.alloc 1 256] ++ haulSteps a.chan (some slot) (m.parts true true off n) ++ [.free 1])

/-- The frames of an item: header bytes, then data that a haul run reads from the host, by whole data units, and lanes encrypt,
then its data digest (R307, R308, R310); no segment is longer than the MSS or the path MTU (R311). -/
def LibAcc.item (s : State) (a : LibAcc) (x : LibItem) (frame : Nat → Nat → Nat → LibFrame) : LibAcc :=
  let n := (x.data.map (·.2.2)).getD 0
  let total := x.head.length + n + (if x.ddgst then 4 else 0)
  let cut := max a.rc.mss 1
  let (skip, pre) : Nat × List LibOp := match x.data with
    | some (m, off, n) =>
      let (lo, k) := unitSpan s m off n
      (off - lo, [.alloc 0 k, .alloc 1 256] ++ haulSteps a.chan none (m.parts false false lo k) ++
        (if m.xts then recordOps m (m.cid % 64) (unitOf s m) lo k false else []))
    | none => (0, [])
  let sent := (List.range ((total + cut - 1) / cut)).foldl (fun a i =>
    a.send { frame i (i * cut) (min cut (total - i * cut)) with skip := skip }) (a.add pre)
  sent.add (if x.data.isSome then [.free 1, .free 0] else [])

/-- The length of an item in the transport's stream. -/
def LibItem.len (x : LibItem) : Nat := x.head.length + (x.data.map (·.2.2)).getD 0 + (if x.ddgst then 4 else 0)

/-- Send, or send again, an item of NVMe/TCP. -/
def LibAcc.sendTcp (s : State) (a : LibAcc) (x : LibItem) : LibAcc :=
  a.item s x (fun _ at_ n =>
    { tcp := true, hdr := tcpHdr a.c a.rc ((x.seq + at_) % 2 ^ 32) 0x18, head := x.head, data := (x.data.map (·.2.2)).getD 0
      ddgst := x.ddgst, at_ := at_, n := n })

/-- Send, or send again, a capsule by RoCEv2 SEND. -/
def LibAcc.sendRoce (s : State) (a : LibAcc) (x : LibItem) : LibAcc :=
  a.item s x (fun _ at_ n => { tcp := false, hdr := bth a.rc 0x04 true x.seq, head := x.head, at_ := at_, n := n })

/-- Take the items that wait into the stream, while they fit in the peer's window (R311). -/
def pump (s : State) : Nat → LibAcc → LibAcc
  | 0, a => a
  | fuel + 1, a =>
    match a.rc.waiting with
    | [] => a
    | x :: t =>
      if a.c.transport = 1 then
        if a.rc.wnd < (a.rc.nxt + 2 ^ 32 - a.rc.una) % 2 ^ 32 + x.len then a
        else
          let y := { x with seq := a.rc.nxt }
          let b := a.sendTcp s y
          pump s fuel { b with rc := { b.rc with waiting := t, sent := b.rc.sent ++ [y], nxt := (b.rc.nxt + x.len) % 2 ^ 32 } }
      else
        let y := { x with seq := a.rc.nxt }
        let b := a.sendRoce s y
        pump s fuel { b with rc := { b.rc with waiting := t, sent := b.rc.sent ++ [y], nxt := (b.rc.nxt + 1) % 2 ^ 24 } }

/-! ## PDUs (R291, R307) -/

/-- A CRC32C digest of the NVMe/TCP binding. -/
def digest (bs : List Nat) : List Nat := beBytes 4 (crc32c 0xFFFFFFFF bs)

/-- A PDU header with its header digest. -/
def pduHead (c : Conn) (h : List Nat) : List Nat := if c.hdgst then h ++ digest h else h

/-- The submission queue entry as it is sent: the device writes its identifier and its data pointer, a transport data block for
NVMe/TCP and a keyed block for RoCEv2 (R295, R296, R311). -/
def sentSqe (n : Nat) (c : Conn) (cid len : Nat) (sqe : List Nat) : List Nat :=
  let sgl := if c.transport = 1 then List.replicate 8 0 ++ beBytes 4 len ++ [0, 0, 0, 0x5A]
    else List.replicate 8 0 ++ beBytes 3 len ++ beBytes 4 (n * 65536 + cid) ++ [0x40]
  sqe.take 2 ++ beBytes 2 cid ++ slice sqe 4 20 ++ sgl ++ sqe.drop 40

/-- The capsule of a command. -/
def capsule (n : Nat) (c : Conn) (m : LibCmd) (sqe : List Nat) : LibItem :=
  let q := sentSqe n c m.cid m.len sqe
  if c.transport = 1 then { head := pduHead c ([0x04, b2n c.hdgst, 72, 0] ++ beBytes 4 (72 + 4 * b2n c.hdgst) ++ q) }
  else { head := q }

/-- An H2CData PDU: `n` bytes of a command from an offset, in answer to a transfer tag. -/
def h2cData (c : Conn) (m : LibCmd) (ttag off n : Nat) (last : Bool) : LibItem :=
  let pdo := 24 + 4 * b2n c.hdgst
  let h := [0x06, b2n c.hdgst + 2 * b2n c.ddgst + 4 * b2n last, 24, pdo] ++ beBytes 4 (pdo + n + 4 * b2n c.ddgst) ++
    beBytes 2 m.cid ++ beBytes 2 ttag ++ beBytes 4 off ++ beBytes 4 n ++ List.replicate 4 0
  { head := pduHead c h, data := some (m, off, n), ddgst := c.ddgst }

/-- The H2CTermReq that goes before a failure by a digest or a PDU format error (R309). -/
def termReq (c : Conn) (cause : Nat) : LibItem :=
  { head := pduHead c ([0x02, b2n c.hdgst, 24, 0] ++ beBytes 4 (24 + 4 * b2n c.hdgst) ++ beBytes 2 (if cause = 1 then 3 else 1) ++
      List.replicate 14 0) }

/-- The H2CData PDUs of a range: each stays in one data unit, or takes as much as one segment does. -/
def h2cItems (s : State) (a : LibAcc) (m : LibCmd) (ttag off n : Nat) : List LibItem :=
  let cut := if m.xts then unitOf s m else max (a.rc.mss - 32) 1
  let lo := if m.xts then off / cut * cut else off
  (List.range ((off + n - lo + cut - 1) / cut)).map (fun i =>
    let b := max off (lo + i * cut)
    let e := min (off + n) (lo + (i + 1) * cut)
    h2cData a.c m ttag b (e - b) (e = off + n))

/-- The length and the data offset that a PDU's header gives fit its type and its data (Table 10.1; the binding's PLEN and PDO). -/
def pduLenOk (c : Conn) (h : List Nat) : Bool :=
  let full := 24 + 4 * b2n c.hdgst
  match byteAt h 0 with
  | 0x03 => true
  | 0x07 => full ≤ byteAt h 3 && beAt h 4 4 = byteAt h 3 + beAt h 16 4 + 4 * b2n c.ddgst
  | _ => beAt h 4 4 = full

/-- A whole PDU header has come: what it announces. -/
def LibAcc.header (s : State) (a : LibAcc) (h : List Nat) : LibAcc :=
  let cid := beAt h 8 2
  let i := cid % 64
  let off := beAt h 12 4
  let n := beAt h 16 4
  match byteAt h 0 with
  | 0x03 => a.halt 2
  | 0x05 => let v := beAt h 20 4; a.cqe (beAt h 8 4) (v % 65536) (v / 2 ^ 17)
  | 0x07 =>
    let pad := byteAt h 3 - (24 + 4 * b2n a.c.hdgst)
    let skip := { a with rc := { a.rc with inp := { pad := pad, left := n, needTail := a.c.ddgst } } }
    match a.slotSt cid, tget a.rc.cmds i with
    | 1, some m =>
      if !m.toHost || m.len < off + n then a.halt 3
      else { a with rc := { a.rc with inp := { pad := pad, slot := i, keep := true, base := off, off := off, left := n, needTail := a.c.ddgst } } }
    | 1, none => a.halt 3
    | _, _ => skip.stale cid
  | 0x09 =>
    match a.slotSt cid, tget a.rc.cmds i with
    | 1, some m =>
      if m.toHost || m.len < off + n then a.halt 3
      else { a with rc := { a.rc with waiting := a.rc.waiting ++ h2cItems s a m (beAt h 10 2) off n } }
    | 1, none => a.halt 3
    | _, _ => a.stale cid
  | _ => a.halt 3

/-- The bytes of a PDU header that are known to be needed: eight, then the 24 of every header that Table 10.1 receives and its
digest. -/
def headNeed (c : Conn) (h : List Nat) : Nat := if h.length < 8 then 8 else 24 + 4 * b2n c.hdgst

/-- Header bytes: a type that the initiator does not receive, or a header length that is not its type's, is a format error;
when the header is whole, its digest is checked and it is read. -/
def LibAcc.headBytes (s : State) (a : LibAcc) (bs : List Nat) : LibAcc :=
  let h := a.rc.inp.head ++ bs
  let a1 := { a with rc := { a.rc with inp := { a.rc.inp with head := h } } }
  if h.length < 8 then a1
  else if !([3, 5, 7, 9].contains (byteAt h 0)) || byteAt h 2 ≠ 24 then a1.halt 3
  else if h.length < headNeed a.c h then a1
  else
    let body := h.take 24
    if a.c.hdgst && h.drop 24 ≠ digest body then a1.halt 1
    else if !pduLenOk a.c body then a1.halt 3
    else { a1 with rc := { a1.rc with inp := {} } }.header s body

/-- A part of a command's data joined with the parts that it touches, which leave the list. -/
def joinPart (ps : List LibPart) (x : LibPart) : LibPart × List LibPart :=
  let ps := ps.filter (fun y => y ≠ x)
  let before := ps.find? (fun y => y.cid = x.cid && y.off + y.bs.length = x.off)
  let after := ps.find? (fun y => y.cid = x.cid && y.off = x.off + x.bs.length)
  let bytes := fun (o : Option LibPart) => (o.map (·.bs)).getD []
  ({ cid := x.cid, off := x.off - (bytes before).length, bs := bytes before ++ x.bs ++ bytes after },
    ps.filter (fun y => some y ≠ before && some y ≠ after))

/-- Encrypted data of a command: whole data units go to the host, and what is left of the first and of the last stays until its
unit is whole (R308). -/
def LibAcc.units (s : State) (a : LibAcc) (slot : Nat) (m : LibCmd) (off : Nat) (bs : List PByte) : LibAcc :=
  let u := unitOf s m
  let (x, others) := joinPart a.parts { cid := m.cid, off := off, bs := bs }
  let stop := x.off + x.bs.length
  let lo := (x.off + u - 1) / u * u
  let hi := stop / u * u
  if hi < lo then { a with parts := others ++ [x] }
  else
    let left : List LibPart := [{ cid := m.cid, off := x.off, bs := x.bs.take (lo - x.off) },
      { cid := m.cid, off := hi, bs := x.bs.drop (hi - x.off) }]
    let a1 := { a with parts := others ++ left.filter (fun y => y.bs ≠ []) }
    if lo < hi then a1.toHost s slot m lo (slice x.bs (lo - x.off) (hi - lo)) else a1

/-- Data bytes: those of a command that is still ACTIVE go to the host, by whole data units where it is encrypted; those of one
that expired since are discarded and counted (R304, R305). The running digest covers the bytes on the wire (R307). -/
def LibAcc.data (s : State) (a : LibAcc) (bs : List PByte) : LibAcc :=
  let x := a.rc.inp
  let y := { x with off := x.off + bs.length, left := x.left - bs.length, crc := crc32cRaw x.crc (rawBytes bs) }
  let a1 := { a with rc := { a.rc with inp := y } }
  match x.keep, tget a.rc.cmds x.slot with
  | true, some m =>
    if a.slotSt m.cid ≠ 1 then { a1 with rc := { a1.rc with inp := { y with keep := false } } }.stale m.cid
    else if bs.isEmpty then a1
    else if m.xts then a1.units s x.slot m x.off bs
    else a1.toHost s x.slot m x.off bs
  | true, none => { a1 with rc := { a1.rc with inp := { y with keep := false } } }.add [.count a.c.owner cStgLateResponse]
  | false, _ => a1

/-- Digest bytes behind data: a mismatch zeroes the command's range of this PDU, drops the parts of units that hold bytes of
it, and marks the command (R307). -/
def LibAcc.tailBytes (a : LibAcc) (bs : List Nat) : LibAcc :=
  let x := a.rc.inp
  let t := x.tail ++ bs
  if t.length < 4 then { a with rc := { a.rc with inp := { x with tail := t } } }
  else
    let a1 := { a with rc := { a.rc with inp := {} } }
    if t = beBytes 4 (not32 x.crc) then a1
    else
      match x.keep, tget a.rc.cmds x.slot with
      | true, some m =>
        let hit := fun (y : LibPart) => y.cid = m.cid && y.off < x.off && x.base < y.off + y.bs.length
        { a1 with rc := { a1.rc with cmds := tset a1.rc.cmds x.slot { m with bad := true } }
                  parts := a1.parts.filter (fun y => !hit y) }.zero x.slot m x.base (x.off - x.base)
      | _, _ => a1

/-- Feed in-order bytes of the stream. -/
def LibAcc.feed (s : State) : Nat → LibAcc → List PByte → LibAcc
  | 0, a, _ => a
  | fuel + 1, a, bs =>
    if a.stop.isSome || bs.isEmpty then a
    else
      let x := a.rc.inp
      if 0 < x.pad then feed s fuel { a with rc := { a.rc with inp := { x with pad := x.pad - bs.length } } } (bs.drop x.pad)
      else if 0 < x.left then feed s fuel (a.data s (bs.take x.left)) (bs.drop x.left)
      else if x.needTail then
        let n := 4 - x.tail.length
        feed s fuel (a.tailBytes (rawBytes (bs.take n))) (bs.drop n)
      else
        let n := headNeed a.c x.head - x.head.length
        feed s fuel (a.headBytes s (rawBytes (bs.take n))) (bs.drop n)

/-! ## Acknowledgements and retransmission (R310) -/

/-- Items that an acknowledgement covers are dropped, and the count of expiries starts again. -/
def LibAcc.acked (a : LibAcc) (una : Nat) (keep : LibItem → Bool) : LibAcc :=
  if una = a.rc.una then a else { a with rc := { a.rc with una := una, tries := 0, sent := a.rc.sent.filter keep } }

/-- What is not acknowledged is sent once more, as far as the peer's window goes (R311), and counted; after the limit the
connection fails (R310). -/
def LibAcc.again (s : State) (a : LibAcc) : LibAcc :=
  if a.c.retxLimit ≤ a.rc.tries then a.halt 4
  else
    let fits := fun (x : LibItem) => (x.seq + 2 ^ 32 - a.rc.una) % 2 ^ 32 + x.len ≤ a.rc.wnd
    let b := a.rc.sent.foldl (fun a x =>
      if a.c.transport ≠ 1 then a.sendRoce s x else if fits x then a.sendTcp s x else a) a
    { b with rc := { b.rc with tries := b.rc.tries + 1 } }.add [.count a.c.owner cStgRetx]

/-! ## A frame of NVMe/TCP (R311) -/

/-- Where the payload of a frame's transport begins and ends, and where its transport header begins; none where the headers are
not IP with this protocol. -/
def l4Of (d : List Nat) (proto : Nat) : Option (Nat × Nat × Bool) :=
  let lim := min d.length 512
  let l2 := parseEth d 0 lim
  let ip := parseIp d l2.hi lim
  let (fragOff, ipEnd) := l3Facts d l2.hi lim (bitOf 36 ip.w)
  if l2.cc ≠ .done || ip.cc ≠ .done || bits 15 0 ip.w ≠ proto || fragOff ≠ 0 then none
  else
    let ce := if byteAt d l2.hi / 16 = 4 then byteAt d (l2.hi + 1) % 4 = 3 else byteAt d (l2.hi + 1) / 16 % 4 = 3
    some (bits 35 26 ip.w, ipEnd, ce)

/-- A segment: FIN and RST, its order, then the acknowledgement and window it brings and its bytes; one out of order is dropped
whole. -/
def LibAcc.segment (s : State) (a : LibAcc) (d : List PByte) (l4 ipEnd : Nat) : LibAcc :=
  let b := rawBytes d
  let flags := byteAt b (l4 + 13)
  let ack := beAt b (l4 + 8) 4
  let seq := beAt b (l4 + 4) 4
  let pay := slice d (l4 + byteAt b (l4 + 12) / 16 * 4) (ipEnd - (l4 + byteAt b (l4 + 12) / 16 * 4))
  if bitOf 0 flags || bitOf 2 flags then a.halt 5
  else if seq ≠ a.rc.rcv then (a.add [.count a.c.owner cStgTcpOoo]).ackTcp
  else
    let inFlight := (a.rc.nxt + 2 ^ 32 - a.rc.una) % 2 ^ 32
    let taken := (ack + 2 ^ 32 - a.rc.una) % 2 ^ 32
    let a1 := if bitOf 4 flags && taken ≤ inFlight then
        a.acked ack (fun x => taken < (x.seq + x.len + 2 ^ 32 - a.rc.una) % 2 ^ 32)
      else a
    let a2 := { a1 with rc := { a1.rc with wnd := beAt b (l4 + 14) 2 } }
    if pay.isEmpty then a2
    else
      let a3 := LibAcc.feed s (pay.length + 1) { a2 with rc := { a2.rc with rcv := (a2.rc.rcv + pay.length) % 2 ^ 32 } } pay
      if a3.stop.isSome then a3 else a3.ackTcp

/-! ## A frame of RoCEv2 (R311) -/

/-- How an RDMA access ends: its command is served, it is discarded, or it is an access error. -/
inductive LibAccess where
  | serve (m : LibCmd)
  | discard
  | error
  deriving DecidableEq, Repr

/-- An RDMA access by its rkey, conn × 65,536 + cid: a key of another connection is an error; one that names a FREE slot or another
generation is discarded (R295); a range outside the gather list or the wrong direction is an error; and one for a slot that is not
ACTIVE any more is discarded (R305). -/
def LibAcc.access (a : LibAcc) (rkey va n : Nat) (toHost : Bool) : LibAccess :=
  let cid := rkey % 65536
  if rkey / 65536 ≠ a.conn then .error
  else
    match a.slotSt cid, tget a.rc.cmds (cid % 64) with
    | 0, _ => .discard
    | st, some m =>
      if m.cid ≠ cid || m.toHost ≠ toHost || m.len < va + n then .error else if st = 1 then .serve m else .discard
    | st, none => if st = 1 then .error else .discard

/-- A remote access error: the NAK, and the failure of the connection. -/
def LibAcc.accessNak (a : LibAcc) (psn : Nat) : LibAcc := (a.ackRoce 0x62 psn).halt 6

/-- The request in order is done: its number, and the acknowledgement. -/
def LibAcc.accept (a : LibAcc) (psn n : Nat) (ends : Bool) : LibAcc :=
  { a with rc := { a.rc with rcv := (psn + n) % 2 ^ 24, msn := if ends then (a.rc.msn + 1) % 2 ^ 24 else a.rc.msn } }

/-- The response packets of an RDMA READ of `n` bytes. -/
def readPkts (a : LibAcc) (n : Nat) : Nat := max 1 ((n + max a.rc.mss 1 - 1) / max a.rc.mss 1)

/-- An RDMA READ: the command's data goes back in response packets of the path MTU. -/
def LibAcc.readBack (s : State) (a : LibAcc) (psn : Nat) (m : LibCmd) (va n : Nat) : LibAcc :=
  let mtu := max a.rc.mss 1
  let cut := if m.xts then max (unitOf s m) mtu else mtu
  let total := readPkts a n
  let op := fun i => if total = 1 then 0x10 else if i = 0 then 0x0D else if i + 1 = total then 0x0F else 0x0E
  let aeth := fun i => if op i = 0x0E then [] else [0] ++ beBytes 3 a.rc.msn
  if n = 0 then a.send { tcp := false, hdr := bth a.rc 0x10 false psn ++ aeth 0, head := [], at_ := 0, n := 0 }
  else
  (List.range ((n + cut - 1) / cut)).foldl (fun a j =>
    let len := min cut (n - j * cut)
    a.item s { head := [], data := some (m, va + j * cut, len) } (fun i at_ k =>
      let t := j * (cut / mtu) + i
      { tcp := false, hdr := bth a.rc (op t) false ((psn + t) % 2 ^ 24) ++ aeth t, head := [], data := len, at_ := at_, n := k })) a

/-- An answer of the peer to a SEND. -/
def LibAcc.answer (s : State) (a : LibAcc) (psn syndrome : Nat) : LibAcc :=
  let age := fun v => (v + 2 ^ 24 - a.rc.una) % 2 ^ 24
  let upTo := fun v (a : LibAcc) => a.acked v (fun x => age v ≤ age x.seq)
  if syndrome / 32 = 0 then (if age psn < age a.rc.nxt then upTo ((psn + 1) % 2 ^ 24) a else a)
  else if syndrome = 0x60 then (if age psn ≤ age a.rc.nxt then (upTo psn a).again s else a)
  else if syndrome / 32 = 3 then a.halt 6
  else a

/-- A request in order: a SEND with a CQE, an RDMA WRITE of read data, an RDMA READ of write data. -/
def LibAcc.request (s : State) (a : LibAcc) (op psn : Nat) (h : List Nat) (pay : List PByte) : LibAcc :=
  let va := beAt h 12 8
  let rkey := beAt h 20 4
  let n := beAt h 24 4
  if op = 0x04 then
    let q := rawBytes pay
    let v := beAt q 12 4
    ((a.accept psn 1 true).cqe (beAt q 0 4) (v % 65536) (v / 2 ^ 17)).ackRoce 0 psn
  else if op = 0x06 || op = 0x0A || op = 0x07 || op = 0x08 then
    let first := op = 0x06 || op = 0x0A
    let a1 := a.accept psn 1 (op = 0x0A || op = 0x08)
    if first then
      match a.access rkey va n true with
      | .serve m =>
        ({ a1 with rc := { a1.rc with inp := { slot := m.cid % 64, keep := true, base := va, off := va, left := n } } }.data s pay).ackRoce 0 psn
      | .error => a.accessNak psn
      | .discard => (({ a1 with rc := { a1.rc with inp := { left := n } } }.stale (rkey % 65536)).data s pay).ackRoce 0 psn
    else if pay.length ≤ a.rc.inp.left then (a1.data s pay).ackRoce 0 psn
    else a.accessNak psn
  else if op = 0x0C then
    let a1 := a.accept psn (readPkts a n) true
    match a.access rkey va n false with
    | .serve m => a1.readBack s psn m va n
    | .error => a.accessNak psn
    | .discard => a1.stale (rkey % 65536)
  else a.halt 6

/-- A RoCEv2 packet: a CE mark is answered with a CNP, a gap of the PSN with a NAK, and a repeated request is acknowledged anew. -/
def LibAcc.roce (s : State) (a : LibAcc) (d : List PByte) (l4 ipEnd : Nat) (ce : Bool) : LibAcc :=
  let b := rawBytes d
  let h := b.drop (l4 + 8)
  let op := byteAt h 0
  let psn := beAt h 9 3
  let skip := if op = 0x06 || op = 0x0A || op = 0x0C then 28 else 12
  let pay := slice d (l4 + 8 + skip) (ipEnd - 4 - byteAt h 1 / 16 % 4 - (l4 + 8 + skip))
  let a1 := if ce then
      a.send { tcp := false, hdr := bth a.rc 0x81 false 0 ++ List.replicate 16 0, head := [], at_ := 0, n := 0 }
    else a
  let ahead := (psn + 2 ^ 24 - a.rc.rcv) % 2 ^ 24
  if op = 0x81 then a1
  else if op = 0x11 then a1.answer s psn (byteAt h 12)
  else if ahead = 0 then a1.request s op psn h pay
  else if ahead < 2 ^ 23 then a1.ackRoce 0x60 a.rc.rcv
  else a1.ackRoce 0 ((a.rc.rcv + 2 ^ 24 - 1) % 2 ^ 24)

/-! ## A turn packet -/

/-- Line 30 of the library's record (log entry 125): what line 31 has no room for, and a last byte that says the library wrote
it. -/
def LibRec.line30 (x : LibRec) : List Nat :=
  let i := x.inp
  leBytes 4 x.own ++ leBytes 4 x.mss ++ leBytes 4 x.qpn ++ leBytes 4 x.peer ++ leBytes 4 x.msn ++
    [i.slot, b2n i.keep + 2 * b2n i.needTail, i.pad, i.tail.length] ++ leBytes 4 i.base ++
    i.tail ++ List.replicate (4 - i.tail.length) 0 ++ [i.head.length] ++ i.head ++ List.replicate (30 - i.head.length) 0 ++ [1]

/-- Line 31 of the library's record: the numbers of the transport, and how far the PDU has come. -/
def LibRec.line31 (x : LibRec) : List Nat :=
  [x.una, x.nxt, x.rcv, x.wnd, x.tries, x.inp.crc, x.inp.off, x.inp.left].flatMap (leBytes 8)

/-- The record of the library as lines 30 and 31 give it. -/
def LibRec.ofRecord (a b : List Nat) : LibRec :=
  let v := fun i => leNat (slice a (4 * i) 4)
  let w := fun i => leNat (slice b (8 * i) 8)
  let fl := a.getD 21 0
  { own := v 0, mss := v 1, qpn := v 2, peer := v 3, msn := v 4
    una := w 0, nxt := w 1, rcv := w 2, wnd := w 3, tries := w 4
    inp := { head := slice a 33 (a.getD 32 0), pad := a.getD 22 0, slot := a.getD 20 0, keep := bitOf 0 fl, base := leNat (slice a 24 4)
             off := w 6, left := w 7, crc := w 5, tail := slice a 28 (a.getD 23 0), needTail := bitOf 1 fl } }

/-- What the record's lines give: what the library wrote in lines 30 and 31, or else the transport state that the create passes
from line 7 on (log entry 125): sequence numbers, windows and MSS for TCP; queue pairs, PSNs and path MTU for RoCEv2. -/
def LibRec.ofLines (c : Conn) : LibRec :=
  let b := (tgetD c.lines 7 []) ++ List.replicate 64 0
  let w := fun i => beAt b (4 * i) 4
  let mss := beAt b 16 2
  if (tgetD c.lines 30 []).getD 63 0 = 1 then LibRec.ofRecord (tgetD c.lines 30 []) (tgetD c.lines 31 [])
  else if c.transport = 1 then { una := w 0, nxt := w 0, rcv := w 1, wnd := w 2, own := w 3 % 65536, mss := mss }
  else { qpn := w 0, peer := w 1 % 2 ^ 24, una := w 2 % 2 ^ 24, nxt := w 2 % 2 ^ 24, rcv := w 3 % 2 ^ 24, mss := mss }

/-- The retransmission timer after a turn (R310): it is cleared when nothing is unacknowledged, starts anew when the first data
goes out, on progress and after its expiry, and runs on otherwise. -/
def LibAcc.timer (a : LibAcc) : Option Nat :=
  if a.rc.una = a.rc.nxt then some 0
  else if a.idle0 || a.rc.una ≠ a.una0 || a.expired then some (a.now + 1000 * a.c.rtoUs)
  else none

/-- The record is written back: parts of units that are new go to chains of their own, lines 30 and 31 are written, and then
the chains that it names no more are freed (R308, R388). -/
def LibAcc.save (a : LibAcc) : List LibOp :=
  let live := a.parts.filter (fun x => a.slotSt x.cid = 1)
  let new := (live.filter (fun x => x.cell.isNone)).flatMap (fun x => [LibOp.alloc 3 x.bs.length, .keep x.cid x.off x.bs])
  let gone := a.rc.frags.filter (fun f => !live.any (fun x => x.cell = some f.cell))
  let t := a.timer
  new ++ [.write 30 false 0, .write 31 t.isSome (t.getD 0)] ++ gone.map (fun f => .freeKept f.cell) ++ [.finish]

/-- The end of a turn packet's work: what waits is sent as far as the window allows, the record is written back with its timer, and
the packet ends. A failure sends the termination request, where the window has room for it, and issues FAIL (R309, R311). -/
def LibAcc.close (s : State) (a : LibAcc) : LibAcc :=
  match a.stop with
  | some cause =>
    let t := termReq a.c cause
    let fits := (a.rc.nxt + 2 ^ 32 - a.rc.una) % 2 ^ 32 + t.len ≤ a.rc.wnd
    let b := if a.c.transport = 1 && (cause = 1 || cause = 3) && fits then a.sendTcp s { t with seq := a.rc.nxt } else a
    b.add [.fail cause, .finish]
  | none =>
    let ended := fun (x : LibItem) => (x.data.map (fun d => a.slotSt d.1.cid = 0 || a.slotSt d.1.cid = 3)).getD false
    let todo := a.rc.waiting.filter (fun x => !ended x)
    let b := pump s todo.length { a with rc := { a.rc with waiting := todo } }
    let live := b.rc.cmds.filter (fun e => (tgetD b.c.slots e.1 {}).st ≠ 0)
    let held := b.parts.filterMap (fun x => if b.slotSt x.cid = 1 then x.cell else none)
    { b with rc := { b.rc with cmds := live, frags := b.rc.frags.filter (fun f => held.contains f.cell) } }.add b.save

/-- The kinds of Table 10.8: a submission, an inbound frame, a command timeout, a connection timer. -/
def LibAcc.work (s : State) (a : LibAcc) (bs : List PByte) : LibAcc :=
  let b := rawBytes bs
  let slot := byteAt b 1
  let cid := leNat (slice b 2 2)
  match byteAt b 0 with
  | 1 =>
    if a.slotSt cid ≠ 1 then a
    else
      let e := StgCmd.ofBytes (b.drop 32)
      let m := LibCmd.ofEntry (leNat (slice b 30 2)) cid e
      { a with rc := { a.rc with cmds := tset a.rc.cmds slot m, waiting := a.rc.waiting ++ [capsule a.conn a.c m e.sqe] } }
  | 2 =>
    let d := bs.drop 32
    if anyPoison bs then a.halt 8
    else if a.c.transport = 1 then
      match l4Of (rawBytes d) 6 with
      | some (l4, e, _) => a.segment s d l4 e
      | none => a
    else
      match l4Of (rawBytes d) 17 with
      | some (l4, e, ce) => a.roce s d l4 e ce
      | none => a
  | 3 => if a.slotSt cid = 2 || a.slotSt cid = 0 && (tgetD a.c.slots slot {}).st = 0 then a.finish slot true 0x31 0 cid 0 [cStgCmdTimeout] else a
  | 4 =>
    if a.c.timer ≠ 0 || a.rc.una = a.rc.nxt then a
    else if a.rc.sent.isEmpty then a.halt 4
    else { a with expired := true }.again s
  | _ => a

/-- The slots as the turn that holds a connection reads them: one that expired after the turn's dispatch reads as ACTIVE (R305,
R306). -/
def turnSlots (c : Conn) : Tbl CSlot :=
  c.slots.map (fun e =>
    (e.1, if e.2.st = 2 && c.turnAt < e.2.allocAt + 1000000 * c.timeoutMs then { e.2 with st := 1 } else e.2))

/-- The plan of a turn packet once it has read its connection. -/
def turnPlan (s : State) (p : Nat) (k : Pkt) (n : Nat) (c : Conn) : LibAcc :=
  let rc := c.lib.getD (LibRec.ofLines c)
  let a : LibAcc :=
    { conn := n, c := { c with slots := turnSlots c }, chan := tgetD s.stg.channels p 0, now := timeNow s, rc := rc
      parts := rc.frags.map (fun f => { cid := f.cid, off := f.off, bs := readChain s f.cell 0 f.len, cell := some f.cell })
      una0 := rc.una, idle0 := rc.una = rc.nxt }
  (a.work s (pktBytes s k)).close s

/-! ## Going on -/

/-- The library gives its plan up for another: it frees what it has taken. -/
def LibRun.giveUp (r : LibRun) (l : List LibOp) : LibRun :=
  { r with plan := r.held.map .free ++ r.kept.map .freeKept ++ l, held := [], kept := [] }

/-- The transport number of a frame of NVMe/TCP. -/
def LibFrame.seq (f : LibFrame) : Nat := beAt f.hdr 4 4

/-- The PDU that a turn was to send cannot be encrypted: it and those behind it leave the stream again, those of its command
for good, and the record is written (R308, Table 10.11). `old` is the number to send next before this turn. -/
def LibRun.unsend (r : LibRun) (old cid : Nat) (rest : List LibOp) : Option LibRun :=
  match r.draft, rest.findSome? (fun o => match o with | .frame f => some f | _ => none) with
  | some d, some f =>
    if !f.tcp || 2 ^ 31 ≤ (f.seq + 2 ^ 32 - old) % 2 ^ 32 then none
    else
      let back := d.sent.filter (fun x => (x.seq + 2 ^ 32 - f.seq) % 2 ^ 32 < 2 ^ 31)
      let other := fun (x : LibItem) => (x.data.map (fun e => decide (e.1.cid ≠ cid))).getD true
      let d1 := { d with sent := d.sent.filter (fun x => !back.contains x), nxt := f.seq, waiting := (back ++ d.waiting).filter other }
      let tail := rest.dropWhile (fun o => match o with | .alloc 3 _ => false | .write .. => false | _ => true)
      some { r with draft := some d1, plan := r.held.map .free ++ tail, held := [] }
  | _, _ => none

/-- The connection fails with a cause (R309). -/
def LibRun.failed (r : LibRun) (cause : Nat) : LibRun := r.giveUp [.fail cause, .finish]

/-- A mirrored connection of a device that is STANDBY or FENCED, or whose takeover is not complete (R382, Table 13.7). -/
def stgTwinIdle (s : State) (c : Conn) : Bool := c.mirrored && (twinIdle s || s.twn.role = roleTaking)

/-- What follows a step for the code it got; `reason` is the low byte of its result word. -/
def libAfter (s : State) (p : Nat) (k : Pkt) (r : LibRun) (cc : Cc) (reason : Nat) : LibRun :=
  let rest := r.plan.drop 1
  let next := fun l => { r with plan := l }
  match r.plan.headD .finish with
  | .get =>
    match r.turn, cc, tget s.stg.conns r.conn with
    | true, .done, some c => let a := turnPlan s p k r.conn c; { r with plan := a.ops, draft := some a.rc }
    | true, _, _ =>
      if cc ≠ .refusedState || byteAt (rawBytes (pktBytes s k)) 0 ≠ 2 then next [.finish]
      else if reason = 0x01 then next [.count 0xFFF cStgTwinIdle, .finish]
      else if reason = 0x0A then next [.count 0xFFF cStgOwnerFrozen, .finish]
      else next [.finish]
    | false, .miss, _ => next [.drop cStgConnAbsent 0x13]
    | false, _, _ => next rest
  | .handoff false => if cc = .done then next rest else let e := handoffFault cc reason; next [.drop e.1 e.2]
  | .handoff true =>
    if cc = .done then next rest
    else if cc ≠ .refusedState then next [.drop cPoisonedDiscard 0]
    else if reason = 0x0A then next [.count 0xFFF cStgOwnerFrozen, .finish]
    else if reason = 0x07 then next [.count r.fid cStgWrongPipeline, .finish]
    else if reason = 0x05 then next [.count r.fid cStgTurnFull, .finish]
    else if ((tget s.stg.conns r.conn).map (stgTwinIdle s)).getD false then next [.count 0xFFF cStgTwinIdle, .finish]
    else next [.count r.fid cStgClosedDrop, .finish]
  | .complete .. => if cc = .done then next rest else if cc = .failedParity then r.failed 8 else r.giveUp [.finish]
  | .alloc d _ =>
    if cc = .done then { r with plan := rest, held := if d = 2 then r.held else d :: r.held }
    else if cc = .frozen then r.giveUp [.finish] else r.failed 7
  | .free d => { r with plan := rest, held := r.held.filter (fun e => e ≠ d) }
  | .haul .. => if cc = .done then next rest else if cc = .frozen then r.giveUp [.finish] else r.failed 7
  | .record dec _ _ _ _ _ _ slot cid =>
    if cc = .done then next rest
    else if cc = .frozen then r.giveUp [.finish]
    else
      let op := LibOp.complete slot false (if cc = .failedParity then 0x30 else 0x13) 0 cid 0
      let old := ((tget s.stg.conns r.conn).map (fun c => (c.lib.getD (LibRec.ofLines c)).nxt)).getD 0
      match dec, r.unsend old cid rest with
      | false, some r1 => { r1 with plan := op :: r1.plan }
      | _, _ => next (op :: rest.dropWhile (fun o => match o with | .free _ => false | _ => true))
  | .xmit .. => if cc = .failedParity then r.failed 8 else next rest
  | .write line .. =>
    if cc = .failedParity then r.failed 8
    else if cc ≠ .done then r.giveUp [.finish]
    else { next rest with kept := if line = 31 then [] else r.kept }
  | _ => next rest

/-- The handle in word `i`. -/
def Pkt.handleAt (k : Pkt) (i : Nat) : Nat := bits 39 0 (k.val i)

/-- The TCP checksum of a segment between the addresses of a steering key. -/
def tcpSum (c : Conn) (seg : List Nat) : Nat :=
  0xFFFF - fold16 (sum16 (slice c.steer 4 4 ++ slice c.steer 0 4 ++ [0, 6] ++ beBytes 2 seg.length ++ seg)) % 65536

/-- The bytes of a frame, its PDU's data taken from the data chain. -/
def LibFrame.bytes (s : State) (k : Pkt) (n : Nat) (f : LibFrame) : List PByte :=
  let data := readChain s (k.handleAt 0) f.skip f.data
  let pdu := pbytes f.head ++ data ++ (if f.ddgst then pbytes (digest (rawBytes data)) else [])
  let body := slice pdu f.at_ f.n
  let seg := f.hdr ++ rawBytes body
  let hdr := match f.tcp, tget s.stg.conns n with
    | true, some c => f.hdr.take 16 ++ beBytes 2 (tcpSum c seg) ++ f.hdr.drop 18
    | _, _ => f.hdr
  let all := pbytes (Sys2Proof.Config.netHead n (f.hdr.length + f.n)) ++ pbytes hdr ++ body
  if f.tcp then all
  else all ++ pbytes ((Sys2Proof.Config.invariantCrc (rawBytes all) ++ List.replicate 4 0).take 4)

/-- The operand words of a step. -/
def LibOp.operands (r : LibRun) (k : Pkt) : LibOp → Pkt
  | .get => (k.setVal 4 r.conn).setVal 5 r.fid
  | .handoff _ => k.setVal 4 0
  | .write line _ t =>
    let x := r.draft.getD {}
    let b := if line = 30 then x.line30 else x.line31
    (List.range 8).foldl (fun k i => k.setVal (8 + i) (leNat (slice b (8 * i) 8))) (k.setVal 4 t)
  | .complete _ _ st nvme cid res => (k.setVal 4 (st + nvme * 2 ^ 8 + cid * 2 ^ 24)).setVal 5 res
  | .alloc _ n => (k.setVal 4 n).setVal 5 r.fid
  | .free _ => k.setVal 5 r.fid
  | .freeKept h => (k.setVal 3 h).setVal 5 r.fid
  | .haul _ n _ => (k.setVal 4 (k.handleAt 1 + (n - 1) * 2 ^ 40)).setVal 5 r.fid
  | .record _ _ sa fid off n dun _ _ =>
    (((k.setVal 24 (k.handleAt 0 + (off + n) * 2 ^ 40)).setVal 4 (off + n * 2 ^ 32)).setVal 5 (sa + fid * 2 ^ 32)).setVal 17 dun
  | .xmit _ cls n => { (k.setVal 24 (k.handleAt 2 + n * 2 ^ 40)).setVal 4 cls with chains := k.chains ++ [k.handleAt 2] }
  | .count fid _ => k.setVal 4 fid
  | .drop _ st => if bits 15 0 (k.val 27) = 0xFFFF then k else k.setVal 29 (putBits 7 0 (k.val 29) st)
  | _ => k

/-- Bring the plan to its next step: bytes are put in place, then the operand words. -/
def libPrep (s : State) (k : Pkt) (r : LibRun) : List LibOp → State × Pkt
  | [] => (s, { k with lib := some { r with plan := [.finish] } })
  | .fill bs :: t => libPrep (writeChain s (k.handleAt 0) 0 bs) k r t
  | .keep cid off bs :: t =>
    let h := k.handleAt 3
    let f : LibFrag := { cid := cid, off := off, len := bs.length, cell := h }
    libPrep (writeChain s h 0 bs) k { r with
      held := r.held.filter (fun d => d ≠ 3), kept := r.kept ++ [h]
      draft := r.draft.map (fun d => { d with frags := d.frags ++ [f] }) } t
  | .list ps :: t => libPrep (writeChain s (k.handleAt 1) 0 (pbytes (listBytes (k.handleAt 0) ps))) k r t
  | .frame f :: t => libPrep (writeChain s (k.handleAt 2) 0 (f.bytes s k r.conn)) k r t
  | op :: t => (s, { op.operands r k with lib := some { r with plan := op :: t } })

/-- The library goes on after a step's code. -/
def libNext (s : State) (p : Nat) (k : Pkt) (r : LibRun) (cc : Cc) : State × Pkt :=
  let w := match r.plan.head? with
    | some .get => 8
    | _ => 16
  let r1 := libAfter s p k r cc (bits 7 0 (k.val w))
  libPrep s k r1 r1.plan

/-! ## What the library takes on -/

/-- The bank's storage entry points are the shipped library's. -/
def Bank.shipped (b : Bank) : Bool := (b.decl.map (·.shipped)).getD false

/-- The steering key of a destination queue pair: its three bytes, then zeros (log entry 125). -/
def qpnKey (steer : List Nat) (qpn : Nat) : Bool := steer.take 3 = beBytes 3 qpn && (steer.drop 3).all (fun b => b = 0)

/-- The connection of an inbound frame: by its addresses and ports for NVMe/TCP, by the destination queue pair for RoCEv2. -/
def frameConn (s : State) (d : List Nat) : Option (Nat × Conn) :=
  match l4Of d 6, l4Of d 17 with
  | some (l4, _, _), _ =>
    let ip := (parseEth d 0 (min d.length 512)).hi
    let key := slice d (ip + 12) 8 ++ slice d l4 4 ++ [6]
    s.stg.conns.find? (fun e => e.2.transport = 1 && byteAt d ip / 16 = 4 && e.2.steer.take 13 = key)
  | none, some (l4, _, _) =>
    if beAt d (l4 + 2) 2 = 4791 then
      s.stg.conns.find? (fun e => e.2.transport = 2 && qpnKey e.2.steer (beAt d (l4 + 13) 3))
    else none
  | none, none => none

/-- The library's work on a packet that starts in a bank: a storage entry, a work packet, or a frame of a connection (R296 to
R298); a work packet whose connection has closed only ends (R314); none for every other packet. -/
def libStart (s : State) (k : Pkt) : Option LibRun :=
  if !(bankOf s k.bank).shipped then none
  else if k.lib.isSome then k.lib
  else if 16 ≤ k.entry && k.entry ≤ 23 then
    match k.conn with
    | some n =>
      let c := (tget s.stg.conns n).map (·.owner)
      some { conn := n, fid := c.getD 0xFFF, turn := true, plan := [.get] }
    | none =>
      let bs := rawBytes (pktBytes s k)
      let e := StgCmd.ofBytes bs
      let plan := match entryFault s k.fid bs with
        | some st => [LibOp.drop cStgBadEntry st]
        | none => [.get, .handoff false, .finish]
      some { conn := e.conn, fid := k.fid, turn := false, plan := plan }
  else if k.entry < 16 && !k.looped && k.ring.isNone then
    (frameConn s (rawBytes (pktBytes s k))).map (fun e =>
      { conn := e.1, fid := e.2.owner, turn := false, plan := [.handoff true, .finish] })
  else none

/-- A packet as the library starts on it. -/
def takeUp (s : State) (k : Pkt) : Pkt :=
  match libStart s k with
  | some r => { (r.plan.headD .finish).operands r k with lib := some r }
  | none => { k with lib := none }

/-- A packet of the library can still deliver to a connection's turn queue, to a completion ring or to a port. -/
def LibRun.reaches (r : LibRun) (turn ring port : Bool) (conn : Nat) : Bool :=
  if r.turn then ring || port else turn && r.conn = conn

end Sys2Proof.Machine
end

