-- ==== Sys2Proof/Machine/Flags.lean ====
section
/-! DEFINITION. Condition codes and what follows from them: the successor (R41), the poison mark of a
result (R67), the entry to the poison handler (R68), and the trace of a step (R434). -/

namespace Sys2Proof.Machine

/-- The successor that a condition code selects (R41). -/
def StepWord.succ (w : StepWord) (cc : Cc) : Nat :=
  if w.ccMask / 2 ^ cc.num % 2 = 1 then w.succA else w.succB

/-- Write a cause into w28[15:12] (Table 2.2, R70). -/
def Pkt.setCause (k : Pkt) (c : Nat) : Pkt :=
  k.setWord 28 ⟨BitVec.ofNat 64 (putBits 15 12 (k.val 28) c), (k.word 28).p⟩

/-- Add an entry to a trace; entries after the 252nd set the truncated flag (R434). -/
def Trace.add (t : Trace) (e : Nat) : Trace :=
  if t.entries.length < 252 then { t with entries := t.entries ++ [e] } else { t with truncated := true }

/-- Add a step entry to the trace of a traced packet (Table 15.2). -/
def Pkt.traceStep (k : Pkt) (idx : Nat) (cc : Cc) : Pkt :=
  { k with trace := k.trace.map (fun t => t.add (idx + 65536 * cc.num)) }

/-- Event 0x0022 for a packet at the poison handler, once for the packet (R68, R70): cause, cluster, bank, step index. -/
def logPoison (s : State) (p : Nat) (k : Pkt) (cause idx : Nat) : State :=
  if k.logged then s else logEvent s 0x0022 k.fid [.num 1 cause, .num 1 p, .num 1 k.bank, .num 2 idx]

/-- A packet that enters the poison handler: cause 0, and its event is logged unless step 63 cannot be read. -/
def Pkt.enterPoison (k : Pkt) (unreadable : Bool) : Pkt :=
  { k.setCause 0 with logged := k.logged || !unreadable }

/-- A READY context whose step ends issued it in this cycle; one whose unit answers later issued it before (R50, R51). -/
def noteIssue (s : State) (x : StepIn) : State := if x.k.st = .ready then issued s x.p x.c else s

/-- Move a packet of a context to the successor of its step for a condition code, and note the issue where it
is of this cycle. An entry to index 63 writes cause 0 and is logged (R68), unless step 63 cannot be read: then the engine logs
the packet when it reads that step (R70). Where the storage library works on the packet, it decides what follows. -/
def advance (s : State) (x : StepIn) (k : Pkt) (cc : Cc) : State :=
  match k.lib with
  | some r =>
    let (s1, k1) := libNext s x.p { k.traceStep x.idx cc with st := .ready } r cc
    noteIssue (setCtx s1 x.p x.c k1) x
  | none =>
    let n := x.w.succ cc
    let k1 := { k.traceStep x.idx cc with pc := n, st := .ready }
    if n = 63 then
      let s1 := noteIssue (setCtx s x.p x.c (k1.enterPoison (stepCorrupt s x.p k1 63))) x
      if stepCorrupt s x.p k1 63 then s1 else logPoison s1 x.p k 0 x.idx
    else noteIssue (setCtx s x.p x.c k1) x

/-- Write a result word to dst, where dst names a word. -/
def putDst (x : StepIn) (k : Pkt) (v : PWord) : Pkt := if isSel x.w.dst then k.setWord x.w.dst v else k

/-- Some operand word of the step carries the poison mark. -/
def StepIn.poisoned (x : StepIn) : Bool := x.a.p || x.b.p

/-- The step ends with a code and leaves dst as it is. -/
def done (s : State) (x : StepIn) (cc : Cc) : State := advance s x x.k cc

/-- The step ends with a code and a result word, marked when an operand was poisoned (R67). -/
def doneW (s : State) (x : StepIn) (cc : Cc) (v : Nat) (mark : Bool) : State :=
  advance s x (putDst x x.k ⟨BitVec.ofNat 64 v, mark⟩) cc

/-- Run a step unless a poisoned operand and poison_ok = 0 end it with FAILED_PARITY (R67). -/
def poisonGate (s : State) (x : StepIn) (mark : Bool) (f : State) : State :=
  if mark && !x.w.poisonOk then done s x .failedParity else f

end Sys2Proof.Machine
end

