-- ==== Sys2Proof/Machine/Granary.lean ====
section
/-! DEFINITION. The Granary: the figures of a pool (R135), the service of a request (R138 to R145), the
choice of a buffer (R148), freeing (R146, R147) and waiting requests (R141 to R143). -/

namespace Sys2Proof.Machine

/-! ## The figures of a pool (R135) -/

/-- Pool `p`. -/
def poolOf (s : State) (p : Nat) : Pool := tgetD s.grn.pools p {}

/-- Write pool `p`. -/
def setPool (s : State) (p : Nat) (x : Pool) : State :=
  { s with grn := { s.grn with pools := tset s.grn.pools p x } }

/-- The share record of an owner in a pool. -/
def shareOf (s : State) (p o : Nat) : Share := tgetD s.grn.shares (p * 4096 + o) {}

/-- held(o): the buffers of the pool that the owner holds. -/
def heldBy (s : State) (p o : Nat) : Nat :=
  tcount s.grn.bufs (fun h b => hPool h = p && b.st = 2 && b.owner = o)

/-- The buffers of the pool that anyone holds. -/
def heldAll (s : State) (p : Nat) : Nat := tcount s.grn.bufs (fun h b => hPool h = p && b.st = 2)

/-- The packets parked on all four pipelines. -/
def parkedAll (s : State) : Nat :=
  s.seq.pipe0.parked.length + s.seq.pipe1.parked.length + s.seq.pipe2.parked.length +
    s.seq.pipe3.parked.length

/-- Cell `n` of pool 2 is taken by a packet parked on pipeline `p` (R126). -/
def parkTaken (s : State) (p n : Nat) : Bool := (pipeOf s p).parked.any (fun k => k.parkCell = some n)

/-- The cell of its pipeline's quarter of pool 2 that a parking step takes; which free one is not specified (R125, R126). -/
def takeParkCell (s : State) (p : Nat) : Option Nat × State :=
  let (d, s1) := draw s
  (scanFrom (fun i =>
    let n := 90112 + 2048 * p + (Sys2Proof.Config.cellPick d + i) % 2048
    if parkTaken s p n then none else some n) 2048 0, s1)

/-- The free buffers of a pool; pool 2 has 8,192 less the parked packets (R126). -/
def freeOf (s : State) (p : Nat) : Nat :=
  if p = 2 then 8192 - parkedAll s else (poolOf s p).count - heldAll s p

/-- The pool's reserve: the sum of all minima. -/
def reserveOf (s : State) (p : Nat) : Nat :=
  tsum s.grn.shares (fun k x => if k / 4096 = p then x.mn else 0)

/-- The reserve outstanding. -/
def reserveOut (s : State) (p : Nat) : Nat :=
  if p = 2 then 0
  else tsum s.grn.shares (fun k x => if k / 4096 = p then x.mn - heldBy s p (k % 4096) else 0)

/-- The Commons of a pool. -/
def commonsOf (s : State) (p : Nat) : Nat := (poolOf s p).count - reserveOf s p

/-- The Commons free. -/
def commonsFree (s : State) (p : Nat) : Nat := freeOf s p - reserveOut s p

/-- The Commons that an owner holds. -/
def commonsHeld (s : State) (p o : Nat) : Nat := heldBy s p o - (shareOf s p o).mn

/-- The weighted share of an owner. -/
def weightedShare (s : State) (p o : Nat) : Nat :=
  let w := tsum s.grn.shares (fun k x => if k / 4096 = p && x.mx ≠ 0 then x.weight else 0)
  if (shareOf s p o).mx = 0 then 0 else commonsOf s p * (shareOf s p o).weight / w

/-- The pool is under pressure. -/
def underPressure (s : State) (p : Nat) : Bool :=
  commonsFree s p < commonsOf s p * (poolOf s p).pressure / 8

/-! ## Pool sets (R124, R132) -/

/-- The registered pools of a set, in ascending pool number. -/
def poolsOfSet (s : State) (set : Nat) : List Nat :=
  (s.grn.pools.filter (fun e => e.2.kind ≠ 0 && e.2.set = set)).map (·.1)

/-- The set holds sized pools. -/
def setSized (s : State) (set : Nat) : Bool := (poolsOfSet s set).any (fun p => (poolOf s p).kind = 1)

/-- Insert a pool into a list kept in ascending buffer size. -/
def insertBySize (s : State) (p : Nat) : List Nat → List Nat
  | [] => [p]
  | q :: t =>
    if (poolOf s p).sizeLog2 ≤ (poolOf s q).sizeLog2 then p :: q :: t else q :: insertBySize s p t

/-- The fallback chain of a request of `len` bytes (R132). -/
def fallbackChain (s : State) (set len : Nat) : List Nat :=
  let ps := poolsOfSet s set
  if setSized s set then
    (ps.filter (fun p => len ≤ 2 ^ (poolOf s p).sizeLog2)).foldr (insertBySize s) []
  else ps

/-- The buffers a request takes: one in a sized set, otherwise one cell for each 256 bytes (R145). -/
def needOf (s : State) (set len : Nat) : Nat := if setSized s set then 1 else (len + 255) / 256

/-! ## One pool (Table 4.3) -/

/-- What one pool answers a request: reserved stock, the Commons, a block, or a chain that could have been granted but for
the block that pool 3 gives its list cell (R145). -/
inductive PoolAns where
  | reserved | commons | limit | empty | listLimit | listEmpty
  deriving DecidableEq, Repr

/-- Table 4.3 for `n` buffers for owner `o`, with `used` Commons grants already made this cycle (R139). -/
def poolAns (s : State) (p o n used : Nat) : PoolAns :=
  let sh := shareOf s p o
  let held := heldBy s p o
  let above := if held < sh.mn then held + n - sh.mn else n
  if held + n ≤ sh.mn then .reserved
  else if sh.mx < held + n then .limit
  else if commonsFree s p < above then .empty
  else if underPressure s p && weightedShare s p o ≤ commonsHeld s p o then .empty
  else if 2 ≤ used then .empty
  else .commons

/-! ## Taking buffers -/

/-- The ledger entry of a buffer; a host buffer that is not listed is FREE_DIRTY of none (R131). -/
def ledger (s : State) (h : Nat) : Buf :=
  match bufOf s h with
  | some b => b
  | none => if hPool h < 4 then { owner := 0xFFE, st := 0 } else { owner := 0xFFE, st := 1 }

/-- Write a ledger entry; a free on-chip cell is not listed. The entry of a host buffer lies in the RLDRAM ledger (R134), whose
access is noted (R33). -/
def setBuf (s : State) (h : Nat) (b : Buf) : State :=
  if hPool h < 4 && b.st ≠ 2 then
    { s with grn := { s.grn with bufs := tdel s.grn.bufs h, data := tdel s.grn.data h } }
  else { s with grn := { s.grn with
    bufs := tset s.grn.bufs h b, ledgerAt := if hPool h < 4 then s.grn.ledgerAt else some s.now } }

/-- The first free on-chip cell of a pool at or after a start, going round once. -/
def findCell (s : State) (p : Nat) (start : Nat) : Option Nat :=
  let x := poolOf s p
  scanFrom (fun i =>
    let n := x.first + (start + i) % x.count
    if isHeld s (mkHandle p n) then none else some n) x.count 0

/-- Take one on-chip cell of a pool; which free one is not specified (R125). -/
def takeCell (s : State) (p o : Nat) : Option (Nat × State) :=
  let (d, s1) := draw s
  (findCell s1 p (Sys2Proof.Config.cellPick d % (poolOf s p).count)).map (fun i =>
    (mkHandle p i, setBuf s1 (mkHandle p i) { owner := o, st := 2 }))

/-- Take `n` on-chip cells and link them in order (R134, R145). -/
def takeCells (s : State) (p o : Nat) : Nat → Option (List Nat × State)
  | 0 => some ([], s)
  | n + 1 =>
    match takeCell s p o with
    | none => none
    | some (h, s1) =>
      match takeCells s1 p o n with
      | none => none
      | some ([], s2) => some ([h], s2)
      | some (g :: t, s2) => some (h :: g :: t, setBuf s2 h { owner := o, st := 2, link := some g })

/-- The free buffers of a ledger line of a host pool: index and entry, in order. -/
def lineFree (s : State) (p line : Nat) : List (Nat × Buf) :=
  ((List.range 16).map (fun j => line * 16 + j)).filterMap (fun i =>
    if i < (poolOf s p).count then
      let b := ledger s (mkHandle p i)
      if b.st = 2 then none else some (i, b)
    else none)

/-- The buffer of a line for an owner: its own dirty one, else a clean one, else the lowest dirty one,
which is scrubbed inline where `scrub` allows (R148). -/
def pickInLine (s : State) (p o line : Nat) (scrub : Bool) : Option (Nat × Bool) :=
  let fs := lineFree s p line
  match fs.find? (fun e => e.2.st = 1 && e.2.owner = o) with
  | some e => some (e.1, false)
  | none =>
    match fs.find? (fun e => e.2.st = 0) with
    | some e => some (e.1, false)
    | none => if scrub then (fs.find? (fun e => e.2.st = 1)).map (fun e => (e.1, true)) else none

/-- The buffer R148 picks in a host pool: line, index, and whether it needs an inline scrub. -/
def pickHost (s : State) (p o : Nat) : Option (Nat × Nat × Bool) :=
  let x := poolOf s p
  let lines := (x.count + 15) / 16
  let scrub := mayIssue s x.spaceFid
  scanFrom (fun k =>
    let l := (x.cursor + k) % lines
    (pickInLine s p o l scrub).map (fun e => (l, e.1, e.2))) lines 0

/-- Take one host buffer for an owner; the cursor moves past its line (R148). -/
def takeHost (s : State) (p o : Nat) : Option (Nat × Buf × Bool × State) :=
  (pickHost s p o).map (fun e =>
    let h := mkHandle p e.2.1
    let b := ledger s h
    let x := poolOf s p
    let s1 := setBuf s h { owner := o, st := 2, issues := (b.issues + 1) % 65536 }
    (h, b, e.2.2, setPool s1 p { x with cursor := (e.1 + 1) % ((x.count + 15) / 16) }))

/-- Take `n` host buffers: handles with their previous entries, and whether any needs a scrub. -/
def takeHosts (s : State) (p o : Nat) : Nat → Option (List (Nat × Buf) × Bool × State)
  | 0 => some ([], false, s)
  | n + 1 =>
    match takeHost s p o with
    | none => none
    | some (h, b, d, s1) =>
      match takeHosts s1 p o n with
      | none => none
      | some (t, d2, s2) => some ((h, b) :: t, d || d2, s2)

/-! ## One attempt (R138 to R140, R145) -/

/-- A grant: the buffers with their previous entries, the list cell, the pool, whether an inline scrub is
needed, and the pools whose Commons it drew on. -/
structure Grant where
  bufs : List (Nat × Buf)
  list : Option Nat
  pool : Nat
  fallback : Bool
  scrub : Bool
  commons : List Nat
  s : State

/-- The bytes of a chain handle list (Table 4.5). -/
def listCellBytes (hs : List Nat) : List Nat :=
  leBytes 2 hs.length ++ List.replicate 14 0 ++ hs.flatMap (leBytes 5)

/-- One attempt in one pool: a grant, or the block that the pool, or pool 3 for its list cell, gives. -/
def attemptIn (s : State) (p o n : Nat) (host fb : Bool) (used : Nat → Nat) : Except PoolAns Grant :=
  let a := poolAns s p o n (used p)
  match a with
  | .limit => .error .limit
  | .empty => .error .empty
  | _ =>
    let cm := if a = .commons then [p] else []
    if !host then
      match takeCells s p o n with
      | none => .error .empty
      | some (hs, s1) =>
        .ok ⟨hs.map (fun h => (h, { owner := 0xFFE, st := 0 })), none, p, fb, false, cm, s1⟩
    else if n ≤ 1 || (poolOf s p).kind = 1 then
      match takeHosts s p o n with
      | none => .error .empty
      | some (hs, d, s1) => .ok ⟨hs, none, p, fb, d, cm, s1⟩
    else
      let a3 := poolAns s 3 o 1 (used 3)
      match takeHosts s p o n with
      | none => .error .empty
      | some (hs, d, s1) =>
        match a3 with
        | .limit => .error .listLimit
        | .empty => .error .listEmpty
        | _ =>
          match takeCell s1 3 o with
          | none => .error .listEmpty
          | some (lc, s2) =>
            let s3 := setChain s2 lc (pbytes (listCellBytes (hs.map (·.1))))
            .ok ⟨hs, some lc, p, fb, d, cm ++ (if a3 = .commons then [3] else []), s3⟩

/-- The refusal that the blocks of an attempt call for: REFUSED_LIMIT (true) when pool 3 blocked a list cell on limit, or
when every pool blocked on limit (R141, R145). -/
def blockRefusal (blocks : List PoolAns) : Bool :=
  match blocks.find? (fun b => b = .listLimit || b = .listEmpty) with
  | some b => b = .listLimit
  | none => blocks.all (fun b => b = .limit)

/-- Try the pools of a fallback chain in order; with no grant, whether the request is blocked on limit. -/
def attemptChain (s : State) (o n : Nat) (sized : Bool) (used : Nat → Nat) :
    List Nat → Bool → List PoolAns → Except Bool Grant
  | [], _, blocks => .error (blockRefusal blocks)
  | p :: t, first, blocks =>
    match attemptIn s p o n (4 ≤ p) (sized && !first) used with
    | .ok g => .ok g
    | .error b => attemptChain s o n sized used t false (blocks ++ [b])

/-- One attempt of a request on its whole fallback chain (R138). -/
def attempt (s : State) (o set len : Nat) (used : Nat → Nat) : Except Bool Grant :=
  attemptChain s o (needOf s set len) (setSized s set) used (fallbackChain s set len) true []

/-- The handle a grant returns: the list cell's, or the first buffer's. -/
def Grant.handle (g : Grant) : Nat := g.list.getD ((g.bufs.map (·.1)).headD 0)

/-- The result word of ALLOC (Table 4.6). -/
def allocWord (handle : Nat) (waited scrubbed fb list : Bool) (n : Nat) : Nat :=
  handle % 2 ^ 40 + b2n waited * 2 ^ 40 + b2n scrubbed * 2 ^ 41 + b2n fb * 2 ^ 42 +
    b2n list * 2 ^ 43 + n % 64 * 2 ^ 44

/-- A request that is refused before any attempt: no share in the set, or a length beyond it (R132, R137,
R145). -/
def refusedEarly (s : State) (o set len : Nat) : Option Status :=
  let ps := poolsOfSet s set
  if ps.all (fun p => (shareOf s p o).mx = 0) then some .refusedPermission
  else if setSized s set then
    if (fallbackChain s set len).isEmpty then some .refusedLimit else none
  else if 12288 < len then some .refusedLimit else none

/-- The counter of a request outcome (Table 4.4). -/
def grnCounter : Status → Option Nat
  | .doneFallback => some cGrnFallback
  | .deferred => some cGrnDeferred
  | .refusedEmpty => some cGrnRefusedEmpty
  | .refusedLimit => some cGrnRefusedLimit
  | .refusedPermission => some cGrnRefusedPermission
  | _ => none

/-- Count a request outcome in the owner's set (R143). -/
def countGrn (s : State) (o : Nat) (st : Status) : State :=
  match grnCounter st with
  | some i => count s o i
  | none => s

/-- The zero writes over the buffers of a scrub that are dirty of another owner (R148). -/
def scrubWrites (s : State) (o : Nat) (bs : List (Nat × Buf)) : State :=
  bs.foldl (fun s e =>
    if e.2.st = 1 && e.2.owner ≠ o then
      let x := poolOf s (hPool e.1)
      let n := 2 ^ x.sizeLog2
      let s1 := emit s (.hostWrite x.spaceFid (x.base + hIdx e.1 * n) (List.replicate n PByte.zero))
      countN s1 0xFFF cGrnScrubBytes n
    else s) s

/-! ## Freeing (R146, R147) -/

/-- The handle names a buffer of a registered pool. -/
def handleValid (s : State) (h : Nat) : Bool :=
  let x := poolOf s (hPool h)
  x.kind ≠ 0 && h < 2 ^ 40 &&
    (if hPool h < 4 then x.first ≤ hIdx h && hIdx h < x.first + x.count else hIdx h < x.count)

/-- The cell of pool 2 at an index is held by a parked packet, for the device (R126, log entry 120). -/
def parkHeld (s : State) (h : Nat) : Bool := pipes.any (fun p => parkTaken s p (hIdx h))

/-- What a FREE of a handle by a FID is: none for legal, or the violation (R146). A cell of pool 2 is never a FREE's to give
back: held, it is another owner's (R126). -/
def freeCheck (s : State) (h fid : Nat) : Option Nat :=
  if !handleValid s h then some 0x02
  else if hPool h = 2 then (if parkHeld s h then some 0x02 else some 0x01)
  else
    let b := ledger s h
    if b.st ≠ 2 then some 0x01 else if b.owner ≠ fid then some 0x02 else none

/-- A held buffer becomes free: dirty of its owner, or an on-chip cell zeroed (R146). -/
def releaseBuf (s : State) (h : Nat) : State :=
  let b := ledger s h
  let s1 := setBuf s h { b with st := if hPool h < 4 then 0 else 1, link := none }
  { s1 with mac := { s1.mac with cellPrio := tdel s1.mac.cellPrio h } }

/-- Release every cell of the chain at a handle. -/
def releaseChain (s : State) (h : Nat) : State := (chainOf s h).foldl releaseBuf s

/-- Free a handle, or a chain from it in link order, for a FID; the first violation stops it (R147). -/
def freeCellsFrom (fid : Nat) : Nat → State → Nat → Option Nat × Nat × State
  | 0, s, h => (none, h, s)
  | fuel + 1, s, h =>
    match freeCheck s h fid with
    | some v => (some v, h, s)
    | none =>
      let l := (ledger s h).link
      let s1 := releaseBuf s h
      match l with
      | none => (none, h, s1)
      | some n => freeCellsFrom fid fuel s1 n

/-- A FREE: the violation and the handle it stopped at, if any (R146, R147). -/
def freeHandle (s : State) (h fid : Nat) (chain : Bool) : Option Nat × Nat × State :=
  if chain && hPool h < 4 then freeCellsFrom fid 300 s h
  else
    match freeCheck s h fid with
    | some v => (some v, h, s)
    | none => (none, h, releaseBuf s h)

/-- GRN_VIOL and GRN_VIOL_HANDLE of a violation (R146, Table 4.11). -/
def recordGrnViol (s : State) (code fid h : Nat) : State :=
  { s with grn := { s.grn with
      violCode := code, violFid := fid, violHandle := h
      violHolder := if !handleValid s h then 0xFFE
        else if hPool h = 2 then (if parkHeld s h then 0xFFF else 0xFFE)
        else (ledger s h).owner } }

/-! ## Completing requests of steps -/

/-- End the request of a waiting step: its result word and code (R51, R143). -/
def endStepAlloc (s : State) (p c : Nat) (st : Status) (word : Nat) : State :=
  match tget (pipeOf s p).ctxs c with
  | some k =>
    if k.st = .wait then
      let x := stepIn s p c k
      doneW s x st.cc word (x.poisoned)
    else s
  | none => s

/-- End a waiting request with a status and result word, counted in the owner's set (R143). -/
def endRequest (s : State) (r : WaitReq) (st : Status) (word : Nat) : State :=
  let s1 := countGrn { s with grn := { s.grn with
    waiting := s.grn.waiting.filter (fun y => y.id ≠ r.id) } } r.owner st
  match r.who with
  | .step p c => endStepAlloc s1 p c st word
  | _ => s1

/-- Give back what an inline scrub took: the buffers keep the entries they had (R148). -/
def undoScrub (s : State) (j : ScrubJob) : State :=
  let s1 := j.bufs.foldl (fun s e => setBuf s e.1 e.2) s
  match j.list with
  | some h => releaseBuf s1 h
  | none => s1

/-- Replace a waiting request. -/
def setWaiting (s : State) (r : WaitReq) : State :=
  { s with grn := { s.grn with
      waiting := s.grn.waiting.map (fun y => if y.id = r.id then r else y) } }

/-- A request whose inline scrub has ended unposted goes on waiting: the time of the scrub is not counted (R148). -/
def WaitReq.resume (r : WaitReq) (s : State) (j : ScrubJob) : WaitReq :=
  { r with scrub := none, deadline := r.deadline + (s.now - j.began) }

/-- The scrubs for an owner end unposted: their buffers stay as they were, and the requests go on waiting (R148). -/
def dropScrubsOf (s : State) (o : Nat) : State :=
  s.grn.waiting.foldl (fun s r =>
    match r.scrub with
    | some j => if r.owner = o then setWaiting (undoScrub s j) (r.resume s j) else s
    | none => s) s

/-- Free every buffer an owner holds (R144, Table 11.5); a buffer that a scrub has not yet zeroed for it is not its own. -/
def freeAllOf (s : State) (o : Nat) : State :=
  let s1 := dropScrubsOf s o
  ((s1.grn.bufs.filter (fun e => e.2.st = 2 && e.2.owner = o)).map (·.1)).foldl releaseBuf s1

/-- A grant to a waiting request: it completes with DEFERRED, or its inline scrub begins. -/
def grantWaiting (r : WaitReq) (g : Grant) : State :=
  if g.scrub then setWaiting g.s { r with waited := true, scrub := some ⟨g.bufs, g.list, g.fallback, g.s.now⟩ }
  else endRequest g.s r .deferred
    (allocWord g.handle true false g.fallback g.list.isSome g.bufs.length)

/-- The request port of a requester (R138). -/
def Requester.port : Requester → Nat
  | .step p _ => p
  | .haul _ => 7

/-- The pool whose Commons a request contends for next, if that is what would serve it (Table 4.3, row 5). -/
def contendsAt (s : State) (used : List Nat) (r : WaitReq) : Option Nat :=
  let ask := fun p => poolAns s p r.owner (needOf s r.set r.len) (used.count p)
  ((fallbackChain s r.set r.len).find? (fun p => ask p = .reserved || ask p = .commons)).filter (fun p => ask p = .commons)

/-- How far a request's port lies past the rotating pointer of the pool it contends for (R139). -/
def turnOf (s : State) (r : WaitReq) : Nat :=
  match contendsAt s [] r with
  | some p => (r.who.port + 16 - (poolOf s p).pointer) % 16
  | none => 0

/-- Insert a request in the order of R139: by arrival, then from the pointer on. -/
def insertWait (s : State) (r : WaitReq) : List WaitReq → List WaitReq
  | [] => [r]
  | q :: t => if r.came < q.came || (r.came = q.came && turnOf s r ≤ turnOf s q) then r :: q :: t else q :: insertWait s r t

/-- Requests in the order of R139. -/
def arrivalOrder (s : State) (l : List WaitReq) : List WaitReq := l.foldr (insertWait s) []

/-- What the contention of a cycle has decided so far: the Commons grants by pool, and the winners and losers of each pool as
pool, arrival and port (R139). -/
structure Contest where
  used : List Nat := []
  won : List (Nat × Nat × Nat) := []
  lost : List (Nat × Nat × Nat) := []
  deriving DecidableEq, Repr

/-- The pools in which a request would have contended at the start `s0` of the cycle, and where the grants made since have
taken the Commons from it; `till` is the pool that served it. -/
def lostPools (s0 s : State) (used : List Nat) (r : WaitReq) (till : Option Nat) : List Nat :=
  let n := needOf s r.set r.len
  ((fallbackChain s r.set r.len).takeWhile (fun p => some p ≠ till)).filter (fun p =>
    poolAns s0 p r.owner n 0 = .commons && poolAns s p r.owner n (used.count p) = .empty)

/-- The contest after the turn of a request that drew on the Commons of `pools` and was served by `till`. -/
def Contest.after (x : Contest) (s0 s : State) (r : WaitReq) (pools : List Nat) (till : Option Nat) : Contest :=
  { used := x.used ++ pools
    won := x.won ++ pools.map (fun p => (p, r.came, r.who.port))
    lost := x.lost ++ (lostPools s0 s x.used r till).map (fun p => (p, r.came, r.who.port)) }

/-- A pool's pointer moves past the winner's port where it decided between requests that arrived together by different ports:
one of them won and another lost (R139). -/
def movePointers (s : State) (x : Contest) : State :=
  x.won.foldl (fun s w =>
    if x.lost.any (fun l => l.1 = w.1 && l.2.1 = w.2.1 && l.2.2 ≠ w.2.2) then
      setPool s w.1 { poolOf s w.1 with pointer := (w.2.2 + 1) % 16 }
    else s) s

/-- Try the waiting requests of a list again in its order, from the start `s0` of the cycle (R139, R141). -/
def retryList (s0 s : State) (x : Contest) : List WaitReq → State × Contest
  | [] => (s, x)
  | r :: t =>
    if r.scrub.isSome || r.deadline ≤ s.now then retryList s0 s x t
    else
      match attempt s r.owner r.set r.len (fun p => x.used.count p) with
      | .ok g => retryList s0 (grantWaiting r g) (x.after s0 s r g.commons (some g.pool)) t
      | .error l => retryList s0 (setWaiting s { r with waited := true, allLimit := l }) (x.after s0 s r [] none) t

/-- One cycle's tries of the requests that wait, in the order of R139; the state and the pools drawn on. -/
def retryWaiting (s : State) (l : List WaitReq) : State × List Nat :=
  let (s1, x) := retryList s s {} (arrivalOrder s l)
  (movePointers s1 x, x.used)

/-- A request of a unit that never waits (ports 4, 5, 6 and 9 of R142): the granted chain of an on-chip set, or the refusal,
counted (R143). The requests that wait are older and are tried first (R139, R140). -/
def allocCells (s : State) (o set len : Nat) : Except Status Nat × State :=
  match refusedEarly s o set len with
  | some st => (.error st, countGrn s o st)
  | none =>
    let (s1, used) := retryWaiting s s.grn.waiting
    match attempt s1 o set len (fun p => used.count p) with
    | .ok g => (.ok g.handle, g.s)
    | .error l =>
      let st : Status := if l then .refusedLimit else .refusedEmpty
      (.error st, countGrn s1 o st)

/-- Every waiting request of an owner completes with FROZEN (R144). -/
def freezeRequests (s : State) (o : Nat) : State :=
  (s.grn.waiting.filter (fun r => r.owner = o)).foldl (fun s r =>
    let s1 := match r.scrub with
      | some j => undoScrub s j
      | none => s
    endRequest s1 r .frozen 0) s

end Sys2Proof.Machine
end

