-- ==== Sys2Proof/Machine/Stocks.lean ====
section
/-! DEFINITION. Violations and the stocks (R334 to R337): what a violation counts, records and logs, and
what entering the stocks stops at once in every unit. -/

namespace Sys2Proof.Machine

/-! ## Cipher lanes (R253, R255, R261, R263) -/

/-- The IV bytes of a mode (Table 8.2). -/
def ivLen (mode : Nat) : Nat := if mode ≤ 3 then 8 else 0

/-- The mode appends a 16-byte tag: every mode but 11. -/
def isAead (mode : Nat) : Bool := mode ≠ 11

/-- The bytes of a record: AAD, IV, payload and tag (R246). -/
def recBytes (mode aad payload : Nat) : Nat :=
  aad + ivLen mode + payload + (if isAead mode then 16 else 0)

/-- Offset and length of a record's output area in its packet: payload and tag (R246). -/
def outArea (r : Rec) : Nat × Nat :=
  (r.off + r.aad + ivLen r.saSnap.mode, r.payload + (if isAead r.saSnap.mode then 16 else 0))

/-- The waiting packet of a record. -/
def recPkt (s : State) (r : Rec) : Option Pkt :=
  match tget (pipeOf s r.p).ctxs r.c with
  | some k => if k.st = .wait then some k else none
  | none => none

/-- Zero the output area of a record, within its packet (R261); zeroed bytes carry no mark (R262). -/
def zeroOutput (s : State) (r : Rec) : State :=
  match recPkt s r with
  | some k =>
    let (o, n) := outArea r
    writeChain s k.handle o (List.replicate (min n (k.len - o)) PByte.zero)
  | none => s

/-- The lane releases its claim (R252). -/
def CLane.release (l : CLane) : CLane :=
  { l with lastOwner := if l.owner = 0xFFE then l.lastOwner else l.owner, owner := 0xFFE, held := none }

/-- The lane wipes its key registers (R253). -/
def CLane.wipe (l : CLane) : CLane := { l with wipes := l.wipes + 1 }

/-- Lane `n`. -/
def laneOf (s : State) (n : Nat) : CLane := tgetD s.cip.lanes n {}

/-- Write lane `n`. -/
def setLane (s : State) (n : Nat) (l : CLane) : State :=
  { s with cip := { s.cip with lanes := tput {} s.cip.lanes n l } }

/-- The claim at the end of a record: it is released unless the record holds its lane, or the lane has accepted
another record (R252, R256). -/
def endClaim (s : State) (r : Rec) : State :=
  if r.hold || s.cip.records.any (fun y => y.lane = r.lane) then s
  else setLane s r.lane { (laneOf s r.lane).release with lastOwner := r.fid }

/-- A record leaves its lane. -/
def takeRecord (s : State) (r : Rec) : State :=
  endClaim { s with cip := { s.cip with records := s.cip.records.filter (fun y => y.id ≠ r.id) } } r

/-- A record in progress stops: its output area is zeroed, its claim ends, and its step gets a code with reason
0x09 (R255, R263). Records of others on its lane are not touched. -/
def stopRecord (s : State) (r : Rec) (cc : Cc) : State :=
  let s3 := takeRecord (zeroOutput s r) r
  match recPkt s3 r with
  | some k => doneW s3 (stepIn s3 r.p r.c k) cc 0x09 false
  | none => s3

/-- The lanes that a FID claims, or that have a record of it. -/
def lanesClaimed (s : State) (fid : Nat) : List Nat :=
  (List.range 32).filter (fun n => (laneOf s n).owner = fid ||
    s.cip.records.any (fun r => r.fid = fid && r.lane = n))

/-- Every record of a FID stops, each of its lanes wipes once, and every lane it holds is released (R253, R255). -/
def freezeCipher (s : State) (fid : Nat) : State :=
  let s1 := (s.cip.records.filter (fun r => r.fid = fid)).foldl (fun s r => stopRecord s r .frozen) s
  (lanesClaimed s fid).foldl (fun s n =>
    let l := (laneOf s n).wipe
    setLane s n (if l.owner = fid then l.release else l)) s1

/-! ## Haul engine (R287) -/

/-- The FID that a host-mode or watermark-mode channel acts for: its owner, or PF1 for the Crier's channel
of the device (R269, R439). -/
def Chan.acting (c : Chan) : Nat := if c.owner = 0xFFF && c.mode = 1 then 1 else c.owner

/-- Channel `n`. -/
def chanOf (s : State) (n : Nat) : Chan := tgetD s.haul.chans n {}

/-- Write channel `n`. -/
def setChan (s : State) (n : Nat) (c : Chan) : State :=
  { s with haul := { s.haul with chans := tput {} s.haul.chans n c } }

/-- Give a parked packet its result (R52): it can then be dispatched again, in the order in which the results came. -/
def resumeParked (s : State) (p ord : Nat) (cc : Cc) (dst : Option Nat) : State :=
  let s1 := modPipe s p (fun x => { x with parked := x.parked.map (fun k =>
    if k.ord = ord && k.result.isNone then
      { k with result := some cc, resultDst := dst.map (fun v => ⟨BitVec.ofNat 64 v, false⟩), doneAt := s.seq.nextDone }
    else k) })
  { s1 with seq := { s1.seq with nextDone := s1.seq.nextDone + 1 } }

/-- A channel enters READY, behind the channels that are READY already (R275), to start its list anew or to go on
where it waits. -/
def makeReady (s : State) (n : Nat) (c : Chan) (anew : Bool) : State :=
  let s1 := setChan s n { c with st := ChanState.ready, readyAt := s.haul.nextReady, fresh := anew }
  { s1 with haul := { s1.haul with nextReady := s1.haul.nextReady + 1 } }

/-- A channel's run ends: its unit is free, and channel and unit count it (R276). -/
def unitFreed (s : State) (n : Nat) : State :=
  let c := chanOf s n
  match c.unit with
  | some u =>
    let s1 := setChan s n { c with unit := none, runs := c.runs + 1, stopReq := false }
    { s1 with haul := { s1.haul with unitRuns := tput 0 s1.haul.unitRuns u (tgetD s1.haul.unitRuns u 0 + 1) } }
  | none => s

/-- A step-mode channel after its running list ended or lists were taken away: READY while lists wait, else
IDLE (R276). -/
def settleLists (s : State) (n : Nat) : State :=
  let c := chanOf s n
  if c.st = .running && c.unit.isSome then s
  else if c.lists.isEmpty then setChan s n { c with st := .idle }
  else if c.st = .ready then s
  else makeReady s n c true

/-- End the queued and running lists of a step-mode channel that a test picks. A first list that runs, or that waits
part of the way, ends at its descriptor; one that stays is not started anew. -/
def endLists (s : State) (n : Nat) (pick : StepList → Bool) (cc : Cc) (status : Nat) : State :=
  let c := chanOf s n
  let mine := c.lists.filter pick
  let first := (c.lists.head?.map pick) = some true
  let begun := first && !c.fresh
  let s1 := setChan s n { c with
    lists := c.lists.filter (fun l => !pick l), fresh := c.fresh || first
    waitHalf := c.waitHalf && !first, waitFull := c.waitFull && !first
    lastStatus := if begun then status else c.lastStatus }
  let s2 := if first then unitFreed s1 n else s1
  let s3 := if mine.isEmpty || (c.st = .waitAck && !first) then s2 else settleLists s2 n
  mine.foldl (fun s l =>
    let idx := if begun && some l = c.lists.head? then c.index else 0
    resumeParked s l.p l.ord cc (some (status + idx % 256 * 256))) s3

/-- End the queued and running lists of a step-mode channel that act for a FID (R287). -/
def dropLists (s : State) (n fid : Nat) (cc : Cc) (status : Nat) : State :=
  endLists s n (fun l => l.fid = fid) cc status

/-- The haul work of a FID stops: its channels enter FROZEN and its lists end (R287). -/
def freezeHaul (s : State) (fid : Nat) : State :=
  (List.range 16).foldl (fun s n =>
    let c := chanOf s n
    if c.mode = 2 then dropLists s n fid .frozen 0x34
    else if c.acting = fid && c.st ≠ .ungranted then
      let s1 := unitFreed s n
      let d := chanOf s1 n
      setChan s1 n { d with st := .frozen, lastStatus := if c.unit.isSome then 0x34 else d.lastStatus }
    else s) s

/-! ## Rings (R118, Table 3.8) -/

/-- Every ring of a FID enters FROZEN, but for rings that are NOT_READY; a failure completion that is still to be written
is discarded with the others, and what it would cover stays uncovered. -/
def freezeRings (s : State) (fid : Nat) : State :=
  let f := fun (r : Ring) => if r.fid = fid && r.st ≠ .notReady then
    { r with st := .frozen, coverFrozen := true, failed := [] } else r
  { s with qm := { s.qm with
      tx := tmap s.qm.tx (fun _ r => f r)
      rx := tmap s.qm.rx (fun _ r => f r)
      cq := tmap s.qm.cq (fun _ c =>
        if c.fid = fid && c.st ≠ .notReady then { c with st := .frozen } else c) } }

/-! ## Violations (R334 to R337) -/

/-- The detail of event 0x0010: code, mask, target and detail of FN_VIOL. -/
def stocksDetail (code mask detail target : Nat) : List Fld :=
  [.num 1 code, .num 2 mask, .num 1 target, .num 4 (detail % 2 ^ 32)]

/-- A violation of the FID was detected in this cycle. -/
def violNow (s : State) (fid : Nat) : Bool := (fnOf s fid).violAt = some s.now

/-- FN_VIOL and FN_VIOL_TIME after a violation (R334): further ones of the same cycle join the mask, and the lowest code stands
with its own detail and target (R336). -/
def Fn.viol (f : Fn) (s : State) (code detail target : Nat) : Fn :=
  if f.violAt = some s.now then
    let g := { f with violMask := f.violMask ||| 2 ^ (code - 1) }
    if code < f.violCode then { g with violCode := code, violTarget := target, violDetail := detail % 2 ^ 32 } else g
  else { f with
    violCode := code, violMask := 2 ^ (code - 1), violTarget := target
    violDetail := detail % 2 ^ 32, violTime := timeNow s, violAt := some s.now }

/-- Record a violation: it is counted in its own counter, and its event is due at the end of the cycle (R335, R336). -/
def recordViol (s : State) (fid code detail target : Nat) : State :=
  let s1 := modFn (count s fid code) fid (fun f => f.viol s code detail target)
  if s.fmg.stocksDue.contains fid then s1 else { s1 with fmg := { s1.fmg with stocksDue := s1.fmg.stocksDue ++ [fid] } }

/-- Enter the stocks: the frozen flag and what every unit stops at once (R335, R328). A read of a parked packet that still waits
for a tag stays waiting, its packet parked, until the release (DESIGN CHOICE, log entry 133). -/
def enterStocks (s : State) (fid : Nat) : State :=
  let s0 := modFn s fid (fun f => { f with
    frozen := true, releaseOk := false
    frozenDuring := f.frozenDuring || f.st = .quiescing })
  let s1 := freezeRings (dropPending s0 fid) fid
  let s2 := freezeRequests s1 fid
  let s3 := freezeCipher s2 fid
  clearLocksOf (freezeHaul s3 fid) fid

/-- A violation: counted, recorded, and logged at the end of its cycle. PF0 and the device never enter the stocks (R337), and
an act of a FID frozen in an earlier cycle is no second violation (R336). The device, which is no function and has no FN_VIOL,
has its violation logged at once. -/
def violate (s : State) (fid code detail target : Nat) : State :=
  if fid = 0xFFF then logEvent (count s fid code) 0x0010 fid (stocksDetail code (2 ^ (code - 1)) detail target)
  else if isFrozen s fid then (if violNow s fid then recordViol s fid code detail target else s)
  else
    let s1 := recordViol s fid code detail target
    if fid = 0 then s1 else enterStocks s1 fid

/-- The end of a cycle: one event for each FID whose violations it saw, with what FN_VIOL then holds (R335). -/
def logStocks (s : State) : State :=
  s.fmg.stocksDue.foldl (fun s fid =>
      let f := fnOf s fid
      logEvent s 0x0010 fid (stocksDetail f.violCode f.violMask f.violDetail f.violTarget))
    { s with fmg := { s.fmg with stocksDue := [] } }

/-- What a refusal for the stocks leaves: the act `t` is not done, but a violation that it is, in the cycle in which the FID
entered the stocks, is counted and joined (R336); the Boolean says so. -/
def joinOnly (s t : State) (fid : Nat) : Bool × State :=
  if violNow s fid then
    match [1, 2, 3, 4, 5, 6, 7, 8, 9].find? (fun c => readCnt t fid c ≠ readCnt s fid c) with
    | some c => (true, count (setFn s fid (fnOf t fid)) fid c)
    | none => (false, s)
  else (false, s)

/-- A FID whose offences never freeze it: PF0 and the device (R337). -/
def neverFrozen (fid : Nat) : Bool := fid = 0 || fid = 0xFFF

end Sys2Proof.Machine
end

