-- ==== Sys2Proof/Machine/AlmBase.lean ====
section
/-! DEFINITION. The isolation state (R342, R343), the alarm history (R461), and the vault: its key and its erasure
(R243, R263, R264). -/

namespace Sys2Proof.Machine

/-! ## The isolation state (Table 11.7, R343) -/

/-- No tenant holds an expert grant. -/
def noTenantExpert (s : State) : Bool := !tany s.fns (fun fid f => isVf fid && (f.rawTable || f.rawHook))

/-- Not paired, or the link is LINKED. -/
def twinOk (s : State) : Bool := !s.twn.paired || s.twn.link = 3

/-- The life-cycle state is FIELD. -/
def lcField (s : State) : Bool := s.alm.lcState = 2

/-- FN_ISO.holds: every field of Table 11.7 is satisfied. -/
def isoNow (s : State) : Bool :=
  s.fmg.fwAuthentic && lcField s && noTenantExpert s && s.fmg.confinement ≠ 0 && twinOk s

/-- FN_ISO (Table 11.12). -/
def isoWord (s : State) : Nat :=
  b2n s.fmg.fwAuthentic + b2n (lcField s) * 2 + b2n (noTenantExpert s) * 4 + s.fmg.confinement * 8 + b2n (twinOk s) * 32 +
    b2n (isoNow s) * 64

/-- A field of Table 11.7 may have changed: a change of holds is logged with the field's bit number (R343). -/
def isoCheck (s : State) (field : Nat) : State :=
  if isoNow s = s.fmg.isoHolds then s
  else
    let s1 := { s with fmg := { s.fmg with isoHolds := isoNow s } }
    logEvent s1 0x0012 0xFFF [.num 4 (isoWord s1), .num 1 field]

/-! ## Alarm history and vault -/

/-- The Steward runs and writes events (R461). -/
def stewardRuns (s : State) : Bool := s.stw.ready

/-- Append one entry to the alarm history, a ring of 64 (R461, Table 16.9). -/
def histAppend (s : State) (cause value : Nat) : State :=
  let e : Hist :=
    { sec := s.alm.calSec, cause := cause, flags := b2n s.alm.calValid + b2n s.store.mainPresent * 2
      value := value % 65536, poh := tgetD s.store.acc.life 0 0 % 2 ^ 32 }
  { s with store := { s.store with
      hist := tset s.store.hist (s.store.histNext % 64) e
      histNext := (s.store.histNext + 1) % 64, histTotal := (s.store.histTotal + 1) % 65536 } }

/-- Log an event of the Almanac, if the Steward is running. -/
def almEvent (s : State) (code : Nat) (d : List Fld) : State := if stewardRuns s then logEvent s code 0xFFF d else s

/-- The vault draws a KEK (R243); a DECOMMISSIONED device draws none (Table 16.6). -/
def drawKek (s : State) : State :=
  if s.alm.lcState = 4 then s
  else
    let (d, s1) := draw4 s
    { s1 with cip := { s1.cip with kek := some d, kekGen := s1.cip.kekGen + 1, clearSince := none } }

/-- The key bytes of install and rekey commands that the Steward holds are overwritten (R263). -/
def wipeHeldKeys (a : Accepted) : Accepted :=
  if a.opcode = 0x0601 || a.opcode = 0x0605 then { a with params := a.params.map (fun _ => 0) } else a

/-- A packet that the Steward holds unread: the parameters of an install or rekey are overwritten (R263). -/
def wipeHeldBytes (bs : List Nat) : List Nat :=
  if leNat (bs.take 2) = 0x0601 || leNat (bs.take 2) = 0x0605 then bs.take 64 ++ (bs.drop 64).map (fun _ => 0) else bs

/-- An installed SA after an erasure: its slots are free, its sequence state is kept (R263). -/
def Sa.erase (a : Sa) : Sa := { a with st := .erased, slot := 0, blob := a.blob.map (fun _ => 0), blobMark := false }

/-- Erase the vault's KEK and every lane's key registers with a cause (R263); the twin link keys go with them (R377). -/
def eraseVault (s : State) (cause value : Nat) : State :=
  let s1 := s.cip.records.foldl (fun s r => stopRecord s r .refusedState) s
  let s2 := (List.range 32).foldl (fun s n => setLane s n (laneOf s n).wipe) s1
  let s3 : State := { s2 with
    cip := { s2.cip with
      kek := none, sas := tmap s2.cip.sas (fun _ a => a.erase), lastCause := cause, seen := true
      erasures := s2.cip.erasures + 1, clearSince := some s2.now }
    stw := { s2.stw with
      accepted := s2.stw.accepted.map wipeHeldKeys
      svcQueue := s2.stw.svcQueue.map wipeHeldBytes, mctpQueue := s2.stw.mctpQueue.map wipeHeldBytes } }
  isoCheck (almEvent (histAppend (twinDown s3) cause value) 0x0050 [.num 1 cause]) 5

end Sys2Proof.Machine
end

