-- ==== Sys2Proof/Machine/Crypto.lean ====
section
/-! DEFINITION. The ciphers that Table 8.2 and R243 name, as their standards define them: AES (FIPS 197),
GCM (SP 800-38D), ChaCha20-Poly1305 (RFC 8439), XTS (IEEE 1619) and AES Key Wrap (RFC 3394). Bytes are
numbers below 256. -/

namespace Sys2Proof.Machine

/-- The complement of a 64-bit value. -/
def not64 (v : Nat) : Nat := 2 ^ 64 - 1 - v % 2 ^ 64

/-- Exclusive or of two byte strings, as long as the shorter. -/
def xorList (a b : List Nat) : List Nat := List.zipWith (· ^^^ ·) a b

/-! ## AES (FIPS 197) -/

/-- Multiplication by x in GF(2^8). -/
def xtime (a : Nat) : Nat := if a < 128 then 2 * a else (2 * a) ^^^ 0x11B

/-- Multiplication in GF(2^8). -/
def gmul (a b : Nat) : Nat :=
  ([0, 1, 2, 3, 4, 5, 6, 7].foldl (fun (z : Nat × Nat) i =>
    (if bitOf i b then z.1 ^^^ z.2 else z.1, xtime z.2)) (0, a)).1

/-- The inverse in GF(2^8), 0 for 0: a^254. -/
def ginv (a : Nat) : Nat :=
  let a2 := gmul a a
  let a4 := gmul a2 a2
  let a8 := gmul a4 a4
  let a16 := gmul a8 a8
  let a32 := gmul a16 a16
  let a64 := gmul a32 a32
  let a128 := gmul a64 a64
  gmul (gmul (gmul a2 a4) (gmul a8 a16)) (gmul (gmul a32 a64) a128)

/-- A byte rotated left. -/
def rotl8 (a n : Nat) : Nat := (a * 2 ^ n + a / 2 ^ (8 - n)) % 256

/-- The S-box. -/
def aesSub (a : Nat) : Nat :=
  let i := ginv a
  i ^^^ rotl8 i 1 ^^^ rotl8 i 2 ^^^ rotl8 i 3 ^^^ rotl8 i 4 ^^^ 0x63

/-- The inverse S-box. -/
def aesInvSub (a : Nat) : Nat := ginv (rotl8 a 1 ^^^ rotl8 a 3 ^^^ rotl8 a 6 ^^^ 0x05)

/-- The words of the key schedule after `i` words, newest first. -/
def aesExpand (nk : Nat) : Nat → Nat → Nat → List (List Nat) → List (List Nat)
  | 0, _, _, ws => ws
  | fuel + 1, i, rcon, ws =>
    let t := ws.headD []
    let old := ws.getD (nk - 1) []
    if i % nk = 0 then
      let r := (t.drop 1 ++ t.take 1).map aesSub
      aesExpand nk fuel (i + 1) (xtime rcon) (xorList old (xorList r [rcon, 0, 0, 0]) :: ws)
    else if 6 < nk && i % nk = 4 then
      aesExpand nk fuel (i + 1) rcon (xorList old (t.map aesSub) :: ws)
    else aesExpand nk fuel (i + 1) rcon (xorList old t :: ws)

/-- The round keys of a key of 16 or 32 bytes, 16 bytes each. -/
def aesKeys (key : List Nat) : List (List Nat) :=
  let nk := key.length / 4
  let ws0 := ((List.range nk).map (fun i => (key.drop (4 * i)).take 4)).reverse
  let ws := (aesExpand nk (4 * (nk + 7) - nk) nk 1 ws0).reverse
  (List.range (nk + 7)).map (fun r => ((ws.drop (4 * r)).take 4).flatten)

/-- ShiftRows, or its inverse. -/
def aesShift (b : List Nat) (inv : Bool) : List Nat :=
  (List.range 16).map (fun i =>
    let r := i % 4
    b.getD ((i + (if inv then 16 - 4 * r else 4 * r)) % 16) 0)

/-- MixColumns with the coefficients of the first row. -/
def aesMix (b : List Nat) (m : List Nat) : List Nat :=
  (List.range 16).map (fun i =>
    let c := i / 4 * 4
    let r := i % 4
    (List.range 4).foldl (fun a j => a ^^^ gmul (b.getD (c + j) 0) (m.getD ((j + 4 - r) % 4) 0)) 0)

/-- One block encrypted with round keys. -/
def aesEncWith (ks : List (List Nat)) (b : List Nat) : List Nat :=
  match ks with
  | [] => b
  | k0 :: rest =>
    (rest.foldl (fun (z : List Nat × Nat) k =>
      let s := aesShift (z.1.map aesSub) false
      (xorList (if z.2 = 1 then s else aesMix s [2, 3, 1, 1]) k, z.2 - 1)) (xorList b k0, rest.length)).1

/-- One block decrypted with round keys. -/
def aesDecWith (ks : List (List Nat)) (b : List Nat) : List Nat :=
  match ks.reverse with
  | [] => b
  | k0 :: rest =>
    (rest.foldl (fun (z : List Nat × Nat) k =>
      let s := xorList ((aesShift z.1 true).map aesInvSub) k
      (if z.2 = 1 then s else aesMix s [14, 11, 13, 9], z.2 - 1)) (xorList b k0, rest.length)).1

/-- AES encryption of one 16-byte block. -/
def aesEnc (key b : List Nat) : List Nat := aesEncWith (aesKeys key) b

/-! ## GCM (SP 800-38D) -/

/-- Multiplication in GF(2^128) with the bit order of GCM. -/
def ghashMul (x h : Nat) : Nat :=
  ((List.range 128).foldl (fun (z : Nat × Nat) i =>
    (if bitOf (127 - i) x then z.1 ^^^ z.2 else z.1,
      if z.2 % 2 = 1 then (z.2 / 2) ^^^ (0xE1 * 2 ^ 120) else z.2 / 2)) (0, h)).1

/-- The blocks of 16 bytes of a byte string, the last one padded with zeros. -/
def blocks16 (bs : List Nat) : List (List Nat) :=
  let p := padTo 16 bs
  (List.range (p.length / 16)).map (fun i => (p.drop (16 * i)).take 16)

/-- GHASH over additional data and ciphertext. -/
def ghash (h : Nat) (aad ct : List Nat) : Nat :=
  (blocks16 aad ++ blocks16 ct ++ [beBytes 8 (8 * aad.length) ++ beBytes 8 (8 * ct.length)]).foldl
    (fun y b => ghashMul (y ^^^ beNat b) h) 0

/-- Counter mode from a counter value over a 12-byte nonce. -/
def gcmCtr (ks : List (List Nat)) (iv bs : List Nat) : List Nat :=
  let n := (bs.length + 15) / 16
  xorList bs ((List.range n).flatMap (fun i => aesEncWith ks (iv ++ beBytes 4 (i + 2))))

/-- The GCM tag. -/
def gcmTag (ks : List (List Nat)) (iv aad ct : List Nat) : List Nat :=
  let h := beNat (aesEncWith ks (List.replicate 16 0))
  xorList (aesEncWith ks (iv ++ [0, 0, 0, 1])) (beBytes 16 (ghash h aad ct))

/-! ## ChaCha20-Poly1305 (RFC 8439) -/

/-- A 32-bit word rotated left. -/
def rotl32 (a n : Nat) : Nat := (a * 2 ^ n + a / 2 ^ (32 - n)) % 2 ^ 32

/-- A quarter round on words a, b, c and d of a state. -/
def chachaQr (st : List Nat) (ia ib ic id : Nat) : List Nat :=
  let a := (st.getD ia 0 + st.getD ib 0) % 2 ^ 32
  let d := rotl32 (st.getD id 0 ^^^ a) 16
  let c := (st.getD ic 0 + d) % 2 ^ 32
  let b := rotl32 (st.getD ib 0 ^^^ c) 12
  let a := (a + b) % 2 ^ 32
  let d := rotl32 (d ^^^ a) 8
  let c := (c + d) % 2 ^ 32
  let b := rotl32 (b ^^^ c) 7
  (((st.set ia a).set ib b).set ic c).set id d

/-- Two rounds. -/
def chachaDouble (s : List Nat) : List Nat :=
  let s := chachaQr (chachaQr (chachaQr (chachaQr s 0 4 8 12) 1 5 9 13) 2 6 10 14) 3 7 11 15
  chachaQr (chachaQr (chachaQr (chachaQr s 0 5 10 15) 1 6 11 12) 2 7 8 13) 3 4 9 14

/-- The 64 bytes of a ChaCha20 block. -/
def chachaBlock (key nonce : List Nat) (ctr : Nat) : List Nat :=
  let w := fun (bs : List Nat) (n : Nat) => (List.range n).map (fun i => leNat ((bs.drop (4 * i)).take 4))
  let s := [0x61707865, 0x3320646E, 0x79622D32, 0x6B206574] ++ w key 8 ++ [ctr] ++ w nonce 3
  let t := (List.range 10).foldl (fun s _ => chachaDouble s) s
  (List.zipWith (fun a b => (a + b) % 2 ^ 32) s t).flatMap (leBytes 4)

/-- ChaCha20 from block counter 1. -/
def chacha20 (key nonce bs : List Nat) : List Nat :=
  let n := (bs.length + 63) / 64
  xorList bs ((List.range n).flatMap (fun i => chachaBlock key nonce (i + 1)))

/-- Poly1305 of a message whose length is a multiple of 16, under a 32-byte one-time key. -/
def poly1305 (key msg : List Nat) : List Nat :=
  let r := leNat (key.take 16) &&& 0x0FFFFFFC0FFFFFFC0FFFFFFC0FFFFFFF
  let a := (blocks16 msg).foldl (fun a b => (a + leNat b + 2 ^ 128) * r % (2 ^ 130 - 5)) 0
  leBytes 16 ((a + leNat (key.drop 16)) % 2 ^ 128)

/-- The tag of the AEAD construction. -/
def chachaTag (key nonce aad ct : List Nat) : List Nat :=
  poly1305 ((chachaBlock key nonce 0).take 32)
    (padTo 16 aad ++ padTo 16 ct ++ leBytes 8 aad.length ++ leBytes 8 ct.length)

/-! ## XTS (IEEE 1619) -/

/-- Multiplication of a tweak by x. -/
def xtsNext (t : Nat) : Nat :=
  let d := 2 * t
  if d < 2 ^ 128 then d else (d % 2 ^ 128) ^^^ 0x87

/-- One data unit, whose length is a multiple of 16, under a 64-byte key. -/
def xts (key : List Nat) (dun : Nat) (decrypt : Bool) (bs : List Nat) : List Nat :=
  let k1 := aesKeys (key.take 32)
  let t0 := leNat (aesEnc ((key.drop 32).take 32) (leBytes 16 dun))
  ((blocks16 bs).foldl (fun (z : List (List Nat) × Nat) b =>
    let t := leBytes 16 z.2
    let x := xorList b t
    (xorList (if decrypt then aesDecWith k1 x else aesEncWith k1 x) t :: z.1, xtsNext z.2))
    ([], t0)).1.reverse.flatten

/-! ## AES Key Wrap (RFC 3394) -/

/-- One pass of the wrapping rounds over the registers R[1..n]: the new A and the new registers. -/
def kwPass (ks : List (List Nat)) (a : List Nat) (t : Nat) : List (List Nat) → List Nat × List (List Nat)
  | [] => (a, [])
  | r :: rs =>
    let b := aesEncWith ks (a ++ r)
    let (a2, rs2) := kwPass ks (xorList (b.take 8) (beBytes 8 t)) (t + 1) rs
    (a2, b.drop 8 :: rs2)

/-- Wrap key material, a multiple of 8 bytes, under a key. -/
def kwWrap (kek p : List Nat) : List Nat :=
  let ks := aesKeys kek
  let n := p.length / 8
  let rs := (List.range n).map (fun i => (p.drop (8 * i)).take 8)
  let (a, out) := (List.range 6).foldl (fun (z : List Nat × List (List Nat)) j =>
    kwPass ks z.1 (n * j + 1) z.2) (List.replicate 8 0xA6, rs)
  a ++ out.flatten

/-- One pass of the unwrapping rounds, over the registers from R[n] down. -/
def kwUnpass (ks : List (List Nat)) (a : List Nat) (t : Nat) : List (List Nat) → List Nat × List (List Nat)
  | [] => (a, [])
  | r :: rs =>
    let b := aesDecWith ks (xorList a (beBytes 8 t) ++ r)
    let (a2, rs2) := kwUnpass ks (b.take 8) (t - 1) rs
    (a2, b.drop 8 :: rs2)

/-- Unwrap a blob; none when its integrity check fails (R245). -/
def kwUnwrap (kek blob : List Nat) : Option (List Nat) :=
  let ks := aesKeys kek
  let n := blob.length / 8 - 1
  let rs := ((List.range n).map (fun i => (blob.drop (8 * (i + 1))).take 8)).reverse
  let (a, out) := (List.range 6).foldl (fun (z : List Nat × List (List Nat)) j =>
    kwUnpass ks z.1 (n * (6 - j)) z.2) (blob.take 8, rs)
  if a = List.replicate 8 0xA6 then some out.reverse.flatten else none

/-! ## SHA-384 (FIPS 180-4) -/

/-- The primes below a bound. -/
def primesBelow (n : Nat) : List Nat :=
  (List.range n).filter (fun p => 2 ≤ p && (List.range 20).all (fun d => d < 2 || p ≤ d || p % d ≠ 0))

/-- The first 64 bits of the fractional part of the root of degree `deg` of a number below 2^9: the root of the number
times 2^(64 * deg), bit by bit from the top. -/
def rootFrac (deg n : Nat) : Nat :=
  (List.range 72).foldl (fun x i =>
    let y := x + 2 ^ (71 - i)
    if y ^ deg ≤ n * 2 ^ (64 * deg) then y else x) 0 % 2 ^ 64

/-- The eighty round constants: from the cube roots of the first eighty primes. -/
def shaConsts : List Nat := (primesBelow 410).map (rootFrac 3)

/-- The initial hash value of SHA-384: from the square roots of the ninth to the sixteenth prime. -/
def shaStart : List Nat := ((primesBelow 54).drop 8).map (rootFrac 2)

/-- A 64-bit word rotated right by three amounts, or by two and then shifted, and folded by exclusive or. -/
def shaMix (x : Nat) (rot : List Nat) (shift : Option Nat) : Nat :=
  rot.foldl (fun a n => a ^^^ (x / 2 ^ n + x % 2 ^ n * 2 ^ (64 - n)))
    (match shift with
    | some n => x / 2 ^ n
    | none => 0)

/-- The message schedule of a block: its sixteen words, then each word from those 16, 15, 7 and 2 places before it. -/
def shaSchedule (block : List Nat) : List Nat :=
  (List.range 64).foldl (fun w i =>
    let at_ := fun j => w.getD (i + j) 0
    w ++ [(at_ 0 + shaMix (at_ 1) [1, 8] (some 7) + at_ 9 + shaMix (at_ 14) [19, 61] (some 6)) % 2 ^ 64])
    ((List.range 16).map (fun j => beNat (block.drop (8 * j) |>.take 8)))

/-- The working variables after one step with the sum of its constant and schedule word. -/
def shaStep (v : List Nat) (kw : Nat) : List Nat :=
  let x := fun i => v.getD i 0
  let choose := (x 4 &&& x 5) ^^^ (not64 (x 4) &&& x 6)
  let major := (x 0 &&& (x 1 ||| x 2)) ||| (x 1 &&& x 2)
  let t := x 7 + shaMix (x 4) [14, 18, 41] none + choose + kw
  ((t + shaMix (x 0) [28, 34, 39] none + major) % 2 ^ 64 :: v.take 7).set 4 ((x 3 + t) % 2 ^ 64)

/-- The hash value after one block of 128 bytes. -/
def shaBlock (h block : List Nat) : List Nat :=
  let v := (List.zipWith (· + ·) shaConsts (shaSchedule block)).foldl shaStep h
  (List.range 8).map (fun i => (h.getD i 0 + v.getD i 0) % 2 ^ 64)

/-- SHA-384 of bytes: 48 bytes. -/
def sha384 (bs : List Nat) : List Nat :=
  let zeros := (239 - bs.length % 128) % 128
  let m := bs ++ 0x80 :: List.replicate zeros 0 ++ beBytes 16 (8 * bs.length)
  (((List.range (m.length / 128)).foldl (fun h i => shaBlock h (m.drop (128 * i) |>.take 128)) shaStart).take 6).flatMap
    (beBytes 8)

end Sys2Proof.Machine
end

