-- ==== Sys2Proof/Machine/Domains.lean ====
section
/-! DEFINITION. Clock domains (R33, R34): what each depends on, when one may start, and how a demand starts it. -/

namespace Sys2Proof.Machine

/-- Domain `d` of Table 1.6. -/
def domOf (s : State) (d : Nat) : Domain := tgetD s.alm.domains d {}

/-- Write a domain. -/
def setDom (s : State) (d : Nat) (x : Domain) : State :=
  { s with alm := { s.alm with domains := tput {} s.alm.domains d x } }

/-- The clock domain of a pipeline is running (Table 1.6). -/
def domainRuns (s : State) (d : Nat) : Bool := (tgetD s.alm.domains d {}).running

/-- The domains a domain depends on (R34): its source, and FABRIC and SRAM for the units of the core. -/
def domDeps (d : Nat) : List Nat :=
  if (12 ≤ d && d ≤ 15) || d = 17 || d = 18 || d = 23 then [3, 16, 21]
  else if d = 5 || d = 6 then [4]
  else if 7 ≤ d && d ≤ 24 then [3]
  else []

/-- The domains that depend on a domain. -/
def domUsers (d : Nat) : List Nat := (List.range 26).filter (fun e => (domDeps e).contains d)

/-- The clock domains that a step commands a unit in, where they are none of those that run whenever the pipeline does: RLDRAM
for LKP_RLD and FWT_UPD, both halves for the connection records of STG, GRANARY for GRN, CIPHER for CIP (Table 1.6, log
entry 121). -/
def unitDomains (unit p : Nat) : List Nat :=
  match unit with
  | 5 => [19 + p / 2]
  | 6 => [19 + p / 2]
  | 8 => [17]
  | 9 => [18]
  | 15 => [19, 20]
  | _ => []

/-- The RLDRAM channels are in self-refresh while PF0 is in D3hot (Table 12.9). -/
def selfRefresh (s : State) (d : Nat) : Bool := (d = 19 || d = 20) && (pciOf s 0).dstate = 3

/-- A domain may be started: it is stopped and not held down, its source has not been lost (R463), and start-up has not
stopped after row 2 of Table 16.4 (R446). -/
def startable (s : State) (d : Nat) : Bool :=
  let x := domOf s d
  d ≠ 0 && d ≤ 25 && !x.running && x.starting.isNone && !x.held && !selfRefresh s d &&
    !(d ≠ 4 && d ≠ 5 && d ≠ 6 && d ≠ 25 && (s.alm.ref156Lost || s.alm.dataDead)) &&
    !(s.store.mainPresent && !s.store.codeDigestKept && d ∉ [1, 2, 3, 16, 21])

/-- Every domain that a domain depends on runs. -/
def depsRun (s : State) (d : Nat) : Bool := (domDeps d).all (fun e => (domOf s e).running)

/-- A domain begins to start, down to `n` levels of what it depends on: what is not running is asked for first (R34). -/
def startDeps : Nat → State → Nat → State
  | 0, s, _ => s
  | n + 1, s, d =>
    if !startable s d then s
    else if depsRun s d then setDom s d { domOf s d with starting := some s.now, asked := false, idleSince := none }
    else (domDeps d).foldl (startDeps n) (setDom s d { domOf s d with asked := true })

/-- A domain begins to start. -/
def startDom (s : State) (d : Nat) : State := startDeps 3 s d

/-- A start that is asked for: during an Almanac restart it waits (R451). -/
def askStart (s : State) (d : Nat) : State :=
  if s.store.restarting then
    (if s.store.waitStarts.contains d then s
      else { s with store := { s.store with waitStarts := s.store.waitStarts ++ [d] } })
  else startDom s d

/-- The instant of the last access to an RLDRAM domain: of a table in it, of the ledger or by a command of the Steward in the
shared region, which is striped over all channels (R25, R33). -/
def rldLast (s : State) (d : Nat) : Nat :=
  max (tgetD s.fwt.rldAt (d - 19) 0) (max (s.grn.ledgerAt.getD 0) (s.stw.rldAt.getD 0))

/-- An RLDRAM domain has been accessed in the nanosecond that ends. -/
def rldUsed (s : State) (d : Nat) : Bool :=
  tget s.fwt.rldAt (d - 19) = some s.now || s.grn.ledgerAt = some s.now || s.stw.rldAt = some s.now

end Sys2Proof.Machine
end

