-- ==== Sys2Proof/Machine/Order.lean ====
section
/-! DEFINITION. Rings and their access, and the order of deliveries: which destinations a step can reach, and which
deliveries of a pipeline wait for earlier packets (R18, R54, R299). -/

namespace Sys2Proof.Machine

/-! ## Access to rings -/

/-- A transmit (`rx` false) or receive ring. -/
def ringOf (s : State) (rx : Bool) (q : Nat) : Option Ring := tget (if rx then s.qm.rx else s.qm.tx) q

/-- Write a ring. -/
def setRing (s : State) (rx : Bool) (q : Nat) (r : Ring) : State :=
  if rx then { s with qm := { s.qm with rx := tset s.qm.rx q r } }
  else { s with qm := { s.qm with tx := tset s.qm.tx q r } }

/-- Weight and burst of QM_WEIGHT_q (R122). -/
def weightOf (s : State) (q : Nat) : Nat × Nat := tgetD s.qm.weights q (1, 1)

/-- Write weight and burst of QM_WEIGHT_q. -/
def setWeight (s : State) (q w b : Nat) : State :=
  { s with qm := { s.qm with weights := tput (1, 1) s.qm.weights q (w, b) } }

/-- Completion ring `n`. -/
def cqOf (s : State) (n : Nat) : Option CqRing := tget s.qm.cq n

/-- Write a completion ring. -/
def setCq (s : State) (n : Nat) (c : CqRing) : State :=
  { s with qm := { s.qm with cq := tset s.qm.cq n c } }

/-- The transmit queue number of a receive queue at a window of a FID. -/
def rxAtWindow (s : State) (fid k : Nat) : Option (Nat × Ring) :=
  s.qm.rx.find? (fun e => e.2.fid = fid && e.2.window = k)

/-! ## Destinations (R18) -/

/-- A destination of R18: a host receive queue by FID and window, a completion ring, a class of a port, or a connection's
turn queue (R299). The loop path is none: a looped frame is a new packet with its own place in the order (Table 2.7). -/
inductive Dest where
  | host (fid window : Nat) | ring (n : Nat) | port (n cls : Nat) | turn (conn : Nat)
  deriving DecidableEq, Repr

/-- The completion rings of the slots of a connection. -/
def connRings (s : State) (conn : Nat) : List Nat :=
  match tget s.stg.conns conn with
  | some c => c.slots.map (fun e => e.2.cq)
  | none => []

/-- A step can deliver to a destination, whatever its operand words hold. -/
def StepWord.delivers (s : State) (w : StepWord) (d : Dest) : Bool :=
  match d with
  | .host _ _ => w.unit = 10
  | .ring n => w.unit = 10 ||
      (w.unit = 15 && w.op = 1 && bits 2 0 w.imm = 3 && (connRings s (bits 39 24 w.imm)).contains n)
  | .port n cls => w.unit = 12 &&
      (w.op = 0 && n = bits 7 0 w.imm && bitOf (8 + cls) w.imm || w.op = 2 && !bitOf 0 w.imm)
  | .turn c => w.unit = 15 && w.op = 1 && c = bits 39 24 w.imm && (bits 2 0 w.imm = 1 || bits 2 0 w.imm = 2)

/-- The step that a packet stands at delivers to a destination, by its operand words. -/
def Pkt.delivers (s : State) (k : Pkt) (w : StepWord) (d : Dest) : Bool :=
  let b := (k.opnd w.srcB).v.toNat
  w.delivers s d &&
    (match d with
    | .host fid window => bits 11 0 b = fid && bits 19 12 b = window
    | .ring n =>
      if w.unit = 10 then (rxAtWindow s (bits 11 0 b) (bits 19 12 b)).map (·.2.cq) = some n
      else
        match tget s.stg.conns (bits 39 24 w.imm) with
        | some c => (tgetD c.slots (bits 8 3 w.imm) {}).cq = n
        | none => false
    | .port _ cls => w.op ≠ 0 || bits 2 0 (k.opnd w.srcA).v.toNat = cls
    | _ => true)

/-- The indices that follow a step: its successors, and for a HOOK every assigned region. -/
def nextsOf (b : Bank) (w : StepWord) : List Nat :=
  if w.unit = 0 && (w.op = 1 || w.op = 2 || w.op = 4) then []
  else
    w.succA :: w.succB ::
      (if w.unit = 0 && w.op = 3 then b.hooks.map (fun e => 49152 + 256 * e.1) else [])

/-- The indices that can be reached from a set, by one ascending pass over the steps of a bank. -/
def reachPass (b : Bank) (start : List Nat) : List Nat :=
  b.steps.foldl (fun acc e =>
    if acc.contains e.1 then acc ++ nextsOf b (StepWord.ofNat e.2.toNat) else acc) start

/-- The indices that can be reached from a set; a second pass follows the poison handler. -/
def reachable (b : Bank) (l : List Nat) : List Nat := reachPass b (reachPass b l)

/-- The clock domains on the path of a packet of an entry point: those of the core, and those of the units its steps can
command (R37). -/
def pathDomains (s : State) (p entry : Nat) : List Nat :=
  let units := match currentBank s with
    | some b => (reachable (bankOf s b) [entry]).map (fun i => ((bankOf s b).step i).unit)
    | none => []
  [3, 12 + p, 16, 17, 21] ++ units.flatMap (fun u => unitDomains u p) ++ (if units.contains 13 then [23] else [])

/-- A domain on the path of a packet of an entry point is starting, or is to start (R37). -/
def pathStarting (s : State) (p entry : Nat) : Bool :=
  (pathDomains s p entry).any (fun d =>
    let x := tgetD s.alm.domains d {}
    x.starting.isSome || x.asked)

/-- A dispatched packet can still deliver to a destination: at the step it stands at, or at a later one. -/
def mayReach (s : State) (k : Pkt) (d : Dest) : Bool :=
  let b := bankOf s k.bank
  let w := b.step k.pc
  match k.lib with
  | some r =>
    (match d with
    | .turn n => r.reaches true false false n
    | .ring n => r.reaches false ((connRings s r.conn).contains n) false 0
    | .port n cls =>
      let x := Sys2Proof.Config.stgClass r.conn
      r.reaches false false (x.1 % 16 = n && x.2 % 8 = cls) 0
    | _ => false)
  | none =>
  k.delivers s w d || (reachable b (nextsOf b w ++ k.hookRet.toList)).any (fun i => (b.step i).delivers s d)

/-! ## What waits (R18, R54) -/

/-- A ring entry fetched before a place in the order of a pipeline is still to be completed on a completion ring. -/
def entryAhead (s : State) (p ord : Nat) (d : Dest) : Bool :=
  match d with
  | .ring n => tany s.qm.tx (fun _ r => r.cq = n && r.pipeline = p &&
      r.entries.any (fun e => match e.ord with | some o => o < ord | none => false))
  | _ => false

/-- A delivery at a place in a pipeline's order waits: an earlier packet of the pipeline can still deliver to the
destination, or an earlier entry is to be completed there (R18, R54). -/
def waitsAt (s : State) (p ord : Nat) (d : Dest) : Bool :=
  let x := pipeOf s p
  (x.ctxs.map (·.2) ++ x.parked).any (fun y => y.ord < ord && mayReach s y d) || entryAhead s p ord d

/-- A packet's delivery to a destination waits. -/
def mustWait (s : State) (p : Nat) (k : Pkt) (d : Dest) : Bool := waitsAt s p k.ord d

/-- The completion of an entry waits for earlier packets and entries bound for its ring. -/
def Entry.waits (s : State) (r : Ring) (e : Entry) : Bool :=
  match e.ord with
  | some o => waitsAt s r.pipeline o (.ring r.cq)
  | none => false

/-- A delivery step that waits keeps its context in WAIT (R51): the step has issued, and the unit holds the delivery back. -/
def holdStep (s : State) (x : StepIn) : State :=
  if x.k.st = .held then s else issued (setCtx s x.p x.c { x.k with st := .held }) x.p x.c

/-! ## Measured latency (R32) -/

/-- The declared path classes of an entry point: [0] receive, [1] push-transmit, [2] wire-to-wire, [3] paced. -/
def classOf (d : TableDecl) (e : Nat) : Nat := ((tget d.summary e).map (·.pathClass)).getD 0

/-- The budget of a path class. -/
def classBudget (d : TableDecl) (cls : Nat) : Nat :=
  match cls with
  | 0 => d.rxBudget
  | 1 => d.pushBudget
  | _ => d.w2wBudget

/-- What a packet's end in a path class measures, where the class is one that its entry point declares in its bank; the
budget is that bank's (log entry 116). -/
def Pkt.meas (s : State) (k : Pkt) (cls : Nat) : Option Meas :=
  match (bankOf s k.bank).decl with
  | some d => if bitOf cls (classOf d k.entry) then some ⟨cls, k.startNs, classBudget d cls⟩ else none
  | none => none

/-- What a delivery to a host measures: the receive class of a frame from a port or the loop path. -/
def Pkt.measHost (s : State) (k : Pkt) : Option Meas :=
  if k.pathClass = some 0 || k.pathClass = some 2 then k.meas s 0 else none

/-- What a frame to a port measures: push-transmit for a pushed entry, wire-to-wire for a frame from a port. -/
def Pkt.measPort (s : State) (k : Pkt) : Option Meas :=
  match k.pathClass with
  | some 1 => k.meas s 1
  | some 2 => k.meas s 2
  | _ => none

/-- The end point of a path: a measured time above the budget is counted (R32). -/
def measure (s : State) (m : Option Meas) : State :=
  match m with
  | some m => if m.budget < timeNow s - m.start then countDev s (cLatencyOverBoundRx + m.cls) else s
  | none => s

end Sys2Proof.Machine
end

