-- ==== Sys2Proof/Machine/Rings.lean ====
section
/-! DEFINITION. Host accesses (R322, R361), completion rings (R110 to R118), and the retirement of ring
entries (R106 to R109). -/

namespace Sys2Proof.Machine

/-! ## Host writes and reads (R322) -/

/-- The violation detail of an address: bits [43:12] (Table 11.6). -/
def addrDetail (addr : Nat) : Nat := bits 43 12 addr

/-- A request for a FID lies outside its windows: violation 0x03 (R322). -/
def dmaViolation (s : State) (fid addr : Nat) : State := violate s fid 0x03 (addrDetail addr) 0

/-- Post a write made for a FID: outside its windows it is a violation, but one made after its FID entered the stocks is not
counted (R336); a function that may not issue requests posts nothing (R322, R518). Answers whether it was posted. -/
def hostWrite (s : State) (fid addr : Nat) (bytes : List PByte) : Bool × State :=
  if isFrozen s (requester fid) && !violNow s (requester fid) then (false, s)
  else if !inWindows s fid addr bytes.length true then (false, dmaViolation s fid addr)
  else if !mayIssue s fid then (false, s)
  else (true, emit s (.hostWrite (requester fid) addr bytes))

/-! ## MSI-X (R361) -/

/-- A message for a vector of a function can be sent now. -/
def msixOpen (f : PciFn) (v : MsixVec) : Bool := f.msixEnable && !f.msixMask && !v.mask && f.bme

/-- Signal with a vector: the message is sent, or its PBA bit is set (R361). -/
def raiseMsix (s : State) (fid vec : Nat) : State :=
  let f := pciOf s fid
  let v := tgetD f.vecs vec {}
  if msixOpen f v && mayIssue s fid then emit s (.msix fid vec)
  else if v.pending then s
  else setPci s fid { f with
    vecs := tput {} f.vecs vec { v with pending := true }, held := f.held ++ [vec] }

/-- Send the held messages that have become sendable, in the order their PBA bits were set (R361). -/
def sendHeld (s : State) (fid : Nat) : State :=
  (pciOf s fid).held.foldl (fun s vec =>
    let f := pciOf s fid
    let v := tgetD f.vecs vec {}
    if msixOpen f v && mayIssue s fid then
      emit (setPci s fid { f with
        vecs := tput {} f.vecs vec { v with pending := false }
        held := f.held.filter (fun x => x ≠ vec) }) (.msix fid vec)
    else s) s

/-! ## Completion credit (R115, R117) -/

/-- Entries in a completion ring that software has not consumed. -/
def CqRing.used (c : CqRing) : Nat := (c.pc - c.c).toNat

/-- The completion credit of a ring (R115). -/
def CqRing.credit (c : CqRing) : Nat := 2 ^ c.sizeLog2 - c.used + (64 - c.backlog.length) - c.reserved

/-- Entries fetched and not retired of the queues of a completion ring (R115). -/
def unretiredOf (s : State) (n : Nat) : Nat :=
  tsum s.qm.tx (fun _ r => if r.cq = n then r.entries.length else 0) +
    tsum s.qm.rx (fun _ r => if r.cq = n then r.entries.length else 0)

/-- A queue's state after its completion ring's credit changed (R117, Table 3.8). -/
def Ring.hold (r : Ring) (n : Nat) (noCredit : Bool) : Ring :=
  if r.cq ≠ n then r
  else if noCredit then
    if r.st = .running then { r with st := .held } else r
  else if r.st = .held then { r with st := .running } else r

/-- Bring the states of a completion ring and of its queues up to date with its credit; credit that reaches zero while a
queue waits to fetch is counted (R117). -/
def holdUpdate (s : State) (n : Nat) : State :=
  match cqOf s n with
  | none => s
  | some c =>
    let full := 2 ^ c.sizeLog2 ≤ c.used
    let st := if c.st = .running && full then RingState.held
      else if c.st = .held && !full then RingState.running else c.st
    let none_ := c.credit = 0
    let waiting := tany s.qm.tx (fun _ r => r.cq = n && r.st = .running && r.f ≠ r.p) ||
      tany s.qm.rx (fun _ r => r.cq = n && r.st = .running && r.f ≠ r.p)
    let hit := none_ && waiting && !c.zero
    let s1 := { s with qm := { s.qm with
      tx := tmap s.qm.tx (fun _ r => r.hold n none_)
      rx := tmap s.qm.rx (fun _ r => r.hold n none_)
      cq := tset s.qm.cq n { c with st := st, zero := none_ } } }
    if hit then count s1 c.fid cCqHold else s1

/-! ## Writing completions (R110 to R113, R116, R118) -/

/-- A 16-byte completion entry from its kind, status, flags and bytes 4 to 15 (R110). -/
def cqEntry (kind status flags : Nat) (body : List Nat) : List Nat :=
  [kind, status, flags, xorBytes ([kind, status, flags] ++ body)] ++ body

/-- Nothing is written for a function in the stocks, in an FLR or being reset by force (R118, R329,
R371). -/
def silent (s : State) (fid : Nat) : Bool :=
  isFrozen s fid || (pciOf s fid).flrAt.isSome || (fnOf s fid).st = .resetting

/-- A completion ring has room and its function may issue requests (R116, R120). -/
def cqRoom (s : State) (c : CqRing) : Bool :=
  c.st ≠ .haltedHost && mayIssue s c.fid && c.used < 2 ^ c.sizeLog2

/-- Write one entry into a completion ring; the queue it covers moves its C (R95). The counter write follows in the same
instant, and is the end point of the path of a delivery whose last entry it is (R29). -/
def cqPut (s : State) (n : Nat) (c : CqRing) (it : BackItem) : State :=
  let (ok, s1) := hostWrite s c.fid (c.base + 16 * (c.pc.toNat % 2 ^ c.sizeLog2)) (pbytes it.bytes)
  if ok then
    let s2 := measure (setCq s1 n { c with pc := c.pc + 1 }) it.meas
    match it.queue with
    | some (rx, q) =>
      match ringOf s2 rx q with
      | some r => setRing s2 rx q { r with c := it.pos }
      | none => s2
    | none => s2
  else s1

/-- Write entries, or queue them in the backlog behind those that wait (R116). -/
def cqPutAll (s : State) (n : Nat) : List BackItem → State
  | [] => s
  | it :: t =>
    match cqOf s n with
    | none => s
    | some c =>
      if c.backlog.isEmpty && cqRoom s c then cqPutAll (cqPut s n c it) n t
      else cqPutAll (setCq s n { c with backlog := c.backlog ++ [it] }) n t

/-- Signal for a completion ring (R113): MSI-X, or an event for PF0. -/
def cqSignal (s : State) (n : Nat) (c : CqRing) : State :=
  if c.fid = 0 then logEvent s 0x0002 0 [.num 2 n] else raiseMsix s c.fid c.msix

/-- Write the producer counter, then disarm and signal an armed ring (R112, R113). Of a function that may not issue
requests, or a ring that awaits its resume command, the counter and the signal wait (R518). -/
def cqCounter (s : State) (n : Nat) : State :=
  match cqOf s n with
  | none => s
  | some c =>
    if isFrozen s (requester c.fid) then s
    else if c.st = .haltedHost || !mayIssue s c.fid then setCq s n { c with owed := true }
    else
      let (ok, s1) := hostWrite (setCq s n { c with owed := false }) c.fid c.ctrAddr (pbytes (leBytes 4 c.pc.toNat))
      if ok && c.armed then cqSignal (setCq s1 n { c with owed := false, armed := false }) n c else s1

/-- Post entries to a completion ring, releasing reserved credit: entries, counter, signal (R112). -/
def cqPost (s : State) (n : Nat) (items : List BackItem) (release : Nat) : State :=
  match cqOf s n with
  | none => s
  | some c =>
    let s0 := setCq s n { c with reserved := c.reserved - release }
    if silent s c.fid then holdUpdate s0 n
    else
      let s1 := cqPutAll s0 n items
      let moved := (cqOf s1 n).map (·.pc) ≠ some c.pc
      holdUpdate (if moved then cqCounter s1 n else s1) n

/-- Move backlog entries into a ring in order while there is room (R116). -/
def drainItems (s : State) (n : Nat) : List BackItem → State
  | [] => s
  | it :: t =>
    match cqOf s n with
    | none => s
    | some c =>
      if cqRoom s c && !silent s c.fid then
        drainItems (cqPut s n { c with backlog := t } it) n t
      else s

/-- Drain a backlog and, when entries moved or a counter write waits, write the counter (R116, R518). -/
def cqDrain (s : State) (n : Nat) : State :=
  match cqOf s n with
  | none => s
  | some c =>
    let s1 := drainItems s n c.backlog
    if c.owed || (cqOf s1 n).map (·.pc) ≠ some c.pc then holdUpdate (cqCounter s1 n) n else holdUpdate s1 n

/-! ## Retirement (R106 to R109) -/

/-- The kind of an ordinary completion: transmit or return (Table 3.6). -/
def ringKind (rx : Bool) : Nat := if rx then 0x03 else 0x01

/-- An ordinary completion entry of a queue (Table 3.6). -/
def ringEntry (rx : Bool) (r : Ring) (status flags tag : Nat) (pos : W32) (cnt : Nat) : List Nat :=
  cqEntry (ringKind rx) status flags
    (leBytes 4 tag ++ leBytes 4 pos.toNat ++ leBytes 2 r.window ++ leBytes 2 cnt)

/-- Retire the oldest entry of a queue with its outcome, and assign it to a completion when R109 says. -/
def retireOne (s : State) (rx : Bool) (q : Nat) (r : Ring) (e : Entry) (st : Status) : State :=
  let r1 := { r with entries := r.entries.tail }
  let failed := st ≠ .done
  let half := 2 ^ r.sizeLog2 / 2 ≤ (e.fin - r.base0).toNat
  if silent s r.fid || !(failed || e.cmpl || half) then
    cqPost (setRing s rx q { r1 with covered := r1.covered + 1 }) r.cq [] 1
  else
    let implicit := half && !failed && !e.cmpl
    let b := ringEntry rx r st.code (b2n implicit) e.tag e.fin (r.covered + 1)
    cqPost (setRing s rx q { r1 with covered := 0, base0 := e.fin }) r.cq
      [{ bytes := b, queue := some (rx, q), pos := e.fin }] 1

/-- A completion that holds a fetch position and covers a number of entries not yet covered (R108, R338). -/
def coverTo (s : State) (rx : Bool) (q : Nat) (r : Ring) (st : Status) (f : W32) (cnt : Nat) : State :=
  let b := ringEntry rx r st.code 0 0 f cnt
  cqPost (setRing s rx q { r with covered := 0, base0 := f, failed := r.failed.tail }) r.cq
    [{ bytes := b, queue := some (rx, q), pos := f }] 0

/-- A completion that holds F and covers every entry not yet covered (R338). -/
def coverAll (s : State) (rx : Bool) (q : Nat) (r : Ring) (st : Status) : State :=
  coverTo s rx q r st r.f (r.covered + r.entries.length)

/-- The oldest failure of a fetch, where it is to be completed now: every entry before it has retired (R108). -/
def Ring.failDue (r : Ring) : Option (Status × W32) :=
  match r.failed, r.entries with
  | x :: _, [] => some x
  | x :: _, e :: _ => if e.pos = x.2 then some x else none
  | [], _ => none

/-- Retire the entries at the head of a queue whose work has ended, in order (R106), each when its completion ring's order
allows it (R18); the completion of a failed fetch follows every earlier entry (R108). -/
def retireHead (s : State) (rx : Bool) (q : Nat) : Nat → State
  | 0 => s
  | fuel + 1 =>
    match ringOf s rx q with
    | none => s
    | some r =>
      match r.failDue, r.entries with
      | some (st, f), _ => retireHead (coverTo s rx q r st f r.covered) rx q fuel
      | none, [] => s
      | none, e :: _ =>
        match e.outcome with
        | some st => if e.waits s r then s else retireHead (retireOne s rx q r e st) rx q fuel
        | none => s

/-- The entry at a position has ended with an outcome (R106, R107). -/
def entryEnded (s : State) (rx : Bool) (q : Nat) (pos : W32) (st : Status) : State :=
  match ringOf s rx q with
  | none => s
  | some r =>
    let es := r.entries.map (fun e =>
      if e.pos = pos && e.outcome.isNone then { e with outcome := some st } else e)
    retireHead (setRing s rx q { r with entries := es }) rx q (es.length + r.failed.length + 2)

/-- A packet of a pipeline has ended: entries whose completions it held back retire (R18, R106). One queue's entries may
hold back another's, so that as many passes are made as there are queues. -/
def retireQueues (s : State) (p : Nat) : State :=
  let qs := (s.qm.tx.filter (fun e => e.2.pipeline = p && !e.2.entries.isEmpty)).map
    (fun e => (e.1, e.2.entries.length + e.2.failed.length + 2))
  qs.foldl (fun s _ => qs.foldl (fun s e => retireHead s false e.1 e.2) s) s

end Sys2Proof.Machine
end

