-- ==== Sys2Proof/Machine/Conns.lean ====
section
/-! DEFINITION. Connection records of the storage initiator: their 32 lines (Tables 10.3, 10.4), the turn,
and what a turn's end sends to the twin (R388). -/

namespace Sys2Proof.Machine

/-- Connection `n`; a FREE connection has no record. -/
def connOf (s : State) (n : Nat) : Option Conn := tget s.stg.conns n

/-- Write connection `n`. -/
def setConn (s : State) (n : Nat) (c : Conn) : State :=
  { s with stg := { s.stg with conns := tset s.stg.conns n c } }

/-- The code of a connection state (Table 10.2). -/
def ConnState.code : ConnState → Nat
  | .active => 1 | .closing => 2 | .failed => 3

/-- Slot `i` of a connection. -/
def Conn.slot (c : Conn) (i : Nat) : CSlot := tgetD c.slots i {}

/-- Write slot `i`, and note that its line and line 0 changed. -/
def Conn.setSlot (c : Conn) (i : Nat) (x : CSlot) : Conn :=
  { c with slots := tset c.slots i x, dirty := (c.dirty ++ [0, 1 + i / 8]).eraseDups }

/-- Slots that are not FREE. -/
def Conn.outstanding (c : Conn) : Nat := tcount c.slots (fun _ x => x.st ≠ 0)

/-- Bytes 0 to 7 of the control line (Table 10.3). -/
def Conn.ctl (c : Conn) : Nat :=
  c.st.code + c.transport * 2 ^ 3 + b2n c.hdgst * 2 ^ 5 + b2n c.ddgst * 2 ^ 6 + c.retxLimit * 2 ^ 8 +
    c.program * 2 ^ 12 + b2n c.turnHeld * 2 ^ 15 + c.owner * 2 ^ 16 + c.pipeline * 2 ^ 28 +
    c.cmdMax * 2 ^ 32 + c.outstanding * 2 ^ 38 + c.turn.length * 2 ^ 44

/-- Bytes 8 to 15 of the control line. -/
def Conn.aux (c : Conn) : Nat := c.timeoutMs + c.rtoUs * 2 ^ 32

/-- A slot entry (Table 10.4). -/
def CSlot.word (x : CSlot) : Nat := x.tag + x.cq * 2 ^ 32 + x.st * 2 ^ 46 + x.gen * 2 ^ 48

/-- Line `n` of a connection record, 64 bytes (R294). -/
def Conn.line (c : Conn) (n : Nat) : List Nat :=
  if n = 0 then leBytes 8 c.ctl ++ leBytes 8 c.aux ++ leBytes 8 c.timer ++ List.replicate 40 0
  else if n ≤ 6 then (List.range 8).flatMap (fun j => leBytes 8 (c.slot ((n - 1) * 8 + j)).word)
  else tgetD c.lines n (List.replicate 64 0)

/-- A turn packet's connection lines that changed go to the twin when the turn ends (R388). -/
def sendLines (s : State) (n : Nat) (c : Conn) : State :=
  if c.mirrored && mirroring s && !c.dirty.isEmpty then
    twinSend s 5 (leBytes 2 n ++ [0, 0] ++ c.dirty.flatMap (fun l => l :: c.line l)) none
  else s

/-- The turn of a connection ends (R298). -/
def endTurn (s : State) (n : Nat) : State :=
  match connOf s n with
  | some c => setConn (sendLines s n c) n { c with turnHeld := false, dirty := [] }
  | none => s

end Sys2Proof.Machine
end

