-- ==== Sys2Proof/Machine/Packets.lean ====
section
/-! DEFINITION. The life of a packet: admission (Table 1.1), dispatch (R49), the order of deliveries (R18,
R54), the end of a packet (R79, R107, R434), bank draining (R65), and the issue of a step (R50, R70). -/

namespace Sys2Proof.Machine

/-! ## Admission -/

/-- The cells that a packet of a length occupies. -/
def cellsOf (len : Nat) : Nat := (len + 255) / 256

/-- The cells in a pipeline's admission queue. -/
def admitCells (x : Pipe) : Nat := (x.admission.map (fun k => cellsOf k.len)).sum

/-- The looped cells in a pipeline's admission queue (R223). -/
def loopCells (x : Pipe) : Nat := (x.admission.map (fun k => if k.looped then cellsOf k.len else 0)).sum

/-- Place a packet at the end of a pipeline's admission queue; it takes its place in R18's order. -/
def admitPkt (s : State) (p : Nat) (k : Pkt) : State :=
  modPipe s p (fun x => { x with admission := x.admission ++ [{ k with ord := x.nextOrd }]
                                 nextOrd := x.nextOrd + 1 })

/-- The domain is held down (R374). -/
def domainHeld (s : State) (d : Nat) : Bool := (tgetD s.alm.domains d {}).held

/-- The domain is held down or draining: new work is not admitted (Table 12.12). -/
def domainClosed (s : State) (d : Nat) : Bool :=
  let x := tgetD s.alm.domains d {}
  x.held || x.draining.isSome

/-! ## Dispatch (R43, R49) -/

/-- The occupied contexts of an engine. -/
def engineLoad (x : Pipe) (e : Nat) : Nat := tcount x.ctxs (fun c _ => c / 8 = e)

/-- The free context a packet goes to: on the engine with the fewest occupied contexts, the lowest engine
among equals (R49), and there the lowest slot. -/
def freeCtx (x : Pipe) : Option Nat :=
  let best := ((List.range 32).map (engineLoad x)).foldl min 8
  if 8 ≤ best then none
  else
    match (List.range 32).find? (fun e => engineLoad x e = best) with
    | some e => ((List.range 8).find? (fun i => (tget x.ctxs (e * 8 + i)).isNone)).map (e * 8 + ·)
    | none => none

/-- Trace sampling at a dispatch (R433): whether this dispatch is traced, and the new count. -/
def traceSample (s : State) (x : Pipe) (entry : Nat) : Bool × Nat :=
  if s.cnt.traceN ≠ 0 && bitOf entry s.cnt.traceMask then
    (x.traceCount % s.cnt.traceN = 0, x.traceCount + 1)
  else (false, x.traceCount)

/-- The packet as it starts in a context: its bank fixed, w28 written, its trace opened (R43, R63). -/
def startPkt (s : State) (k : Pkt) (bank : Nat) (traced : Bool) : Pkt :=
  let k1 := { k.setVal 28 (k.entry + 256 * bank) with
    bank := bank, pc := k.entry, st := CtxState.ready, dispNs := s.now }
  if traced then
    { k1 with trace := some ⟨timeNow s, k.fid, k.entry, bank, k.port, false, [], false⟩ }
  else k1

/-! ## Bank draining (R65) -/

/-- A dispatched packet of some pipeline carries a bank's epoch bit. -/
def bankInUse (s : State) (b : Nat) : Bool :=
  [0, 1, 2, 3].any (fun p =>
    let x := pipeOf s p
    x.ctxs.any (fun e => e.2.bank = b) || x.parked.any (fun k => k.bank = b))

/-- A DRAINING bank whose last packet has retired becomes IDLE, and the event is logged (R65). -/
def drainBank (s : State) (b : Nat) : State :=
  let x := bankOf s b
  if x.st = .draining && !bankInUse s b then
    logEvent (setBank s b { x with st := .idle }) 0x0030 0xFFF [.num 1 b, .num 8 (s.now - x.drainFrom)]
  else s

/-! ## Trace records (R434, Table 15.2) -/

/-- The bytes of a trace record. -/
def traceRecord (t : Trace) (endNs outcome dropIdx p : Nat) : List Nat :=
  leBytes 8 t.dispatchNs ++ leBytes 4 (min (endNs - t.dispatchNs) 0xFFFFFFFF) ++ leBytes 2 t.fid ++
    [t.entry, t.bank + 2 * b2n t.truncated + 4 * b2n t.parked, outcome, dropIdx, t.port, p] ++
    leBytes 2 t.entries.length ++ List.replicate 10 0 ++ t.entries.flatMap (leBytes 4)

/-- Write the record of a traced packet into its pipeline's 32 MiB area, or count it lost (R434). -/
def writeTrace (s : State) (p : Nat) (k : Pkt) (outcome dropIdx : Nat) : State :=
  match k.trace with
  | none => s
  | some t =>
    let r := traceRecord t (timeNow s) outcome dropIdx p
    let x := pipeOf s p
    if (x.area.map List.length).sum + r.length ≤ 33554432 then
      coverStaging (setPipe s p { x with area := x.area ++ [r], traced := x.traced + 1 })
        (Sys2Proof.Config.traceBase p + (x.area.map List.length).sum) r.length
    else countDev s cTraceLost

/-! ## The end of a packet -/

/-- Release the lane a packet holds (R256). -/
def releaseHeldLane (s : State) (p ord : Nat) : State :=
  { s with cip := { s.cip with lanes := tmap s.cip.lanes (fun _ l =>
      if l.held = some (p, ord) then l.release else l) } }

/-- The outcome of an entry from w29[7:0] at a DROP (R107); a value that is no status code succeeds. -/
def dropOutcome (k : Pkt) : Status := (Status.ofCode (bits 7 0 (k.val 29))).getD .done

/-- What a packet leaves behind when it ends, wherever it was: cells, lane, turn, trace and its ring
entry, whose outcome is given. -/
def finishPkt (s : State) (p : Nat) (k : Pkt) (outcome dropIdx : Nat) (st : Status) : State :=
  let s1 := k.chains.foldl releaseChain s
  let s2 := releaseHeldLane s1 p k.ord
  let s3 := match k.conn with
    | some n => endTurn s2 n
    | none => s2
  let s4 := writeTrace s3 p k outcome dropIdx
  let s5 := modPipe s4 p (fun x => { x with
    residencyPeak := max x.residencyPeak (min (s.now - k.dispNs) 0xFFFF) })
  let s6 := match k.ring with
    | some (q, pos) => entryEnded s5 false q pos st
    | none => s5
  drainBank (retireQueues s6 p) k.bank

/-- Retire the packet of a context (R79): outcome 0 END, 1 DROP, 2 stopped. -/
def endPacket (s : State) (p c : Nat) (k : Pkt) (outcome dropIdx : Nat) (st : Status) : State :=
  let s1 := modPipe (issued s p c) p (fun x => { x with ctxs := tdel x.ctxs c })
  finishPkt s1 p k outcome dropIdx st

/-- The set a packet's DROP and poison counters belong to: its function, or the device (R45). -/
def Pkt.countFid (k : Pkt) : Nat := if hasSet k.fid then k.fid else 0xFFF

/-! ## Issue of a step (R50, R70) -/

/-- A step that cannot be read (R70): SEQ_ECC_STATUS, event 0x0022 with cause 1, and the packet goes on
at the poison handler; with that unreadable too, it is dropped. -/
def corruptStep (s : State) (p c : Nat) (k : Pkt) : State :=
  let s1 := { s with seq := { s.seq with
    eccUncorrectable := k.pc, eccCluster := p, eccBank := k.bank, eccSeen := true } }
  let s2 := logPoison s1 p k 1 k.pc
  let k1 := { (k.setCause 1).traceStep k.pc .failedParity with logged := true }
  if stepCorrupt s2 p k1 63 then
    let k2 := if bits 15 0 (k1.val 27) ≠ 0xFFFF then
      k1.setWord 29 ⟨BitVec.ofNat 64 (putBits 7 0 (k1.val 29) 0x30), (k1.word 29).p⟩ else k1
    endPacket (count s2 k2.countFid cStepEccUncorrectable) p c k2 1 0
      (if k2.ring.isSome then .failedParity else .done)
  else issued (setCtx s2 p c { k1 with pc := 63, st := .ready }) p c

/-- The unit of a step has its clock. -/
def unitRuns (s : State) (x : StepIn) : Bool := (unitDomains x.w.unit x.p).all (domainRuns s)

/-- Issue the step of a context as unit `unit` and operation `op`: nothing happens while the context is neither READY nor
holding a step back, it is another context's turn, or the step names another operation. A step whose unit has no clock waits for
it (R35). -/
def withStep (unit op p c : Nat) (s : State) (f : StepIn → State) : State :=
  match readyCtx s p c with
  | none => s
  | some k =>
    if k.st = .ready && k.lib.isNone && stepCorrupt s p k k.pc then corruptStep s p c k
    else
      let x := stepIn s p c k
      if x.w.unit = unit && x.w.op = op then (if unitRuns s x then f x else holdStep s x) else s

/-- The function an operation names is in the stocks: the step gets FROZEN before any other check, and a violation in the cycle
of its entry is still counted (R335, R336); otherwise a poisoned operand with poison_ok = 0 ends it (R67). -/
def unitGate (s : State) (x : StepIn) (fid : Nat) (mark : Bool) (f : State) : State :=
  if isFrozen s fid then done (joinOnly s f fid).2 x .frozen else poisonGate s x mark f

/-- The hook's FID where the step lies in a hook region, and the FID differs from it (R73). -/
def hookMismatch (x : StepIn) (fid : Nat) : Bool :=
  match x.hook with
  | some h => h.fid ≠ fid
  | none => false

/-! ## Fix-up marks (R230) -/

/-- The IPv4 header checksum of header bytes whose checksum field is zero. -/
def ipChecksum (bs : List Nat) : Nat := 0xFFFF - fold16 (sum16 bs) % 65536

/-- Rewrite lengths and checksums at the fix-up marks from the packet's final length (R230); none when the
version at the IP mark is neither 4 nor 6, or a header at a mark runs past the packet (log entry 38). -/
def fixUp (m : Option FixMarks) (bs : List PByte) : Option (List PByte) :=
  match m with
  | none => some bs
  | some m =>
    let n := bs.length
    let at_ := fun i => (bs.getD i PByte.zero).b.toNat
    let hl := at_ m.ip % 16 * 4
    let udp := fun (b : List PByte) =>
      if m.udp = 0x1FF then some b
      else if n < m.udp + 8 then none
      else some (overlay b (m.udp + 4) (pbytes (beBytes 2 (n - m.udp) ++ [0, 0])))
    if m.ip = 0x1FF then udp bs
    else if at_ m.ip / 16 = 4 then
      if hl < 20 || n < m.ip + hl then none
      else
        let b1 := overlay (overlay bs (m.ip + 2) (pbytes (beBytes 2 (n - m.ip)))) (m.ip + 10)
          (pbytes [0, 0])
        udp (overlay b1 (m.ip + 10) (pbytes (beBytes 2 (ipChecksum (rawBytes (slice b1 m.ip hl))))))
    else if at_ m.ip / 16 = 6 then
      if n < m.ip + 40 then none
      else udp (overlay bs (m.ip + 4) (pbytes (beBytes 2 (n - m.ip - 40))))
    else none

end Sys2Proof.Machine
end

