-- ==== Sys2Proof/Machine/TwinBase.lean ====
section
/-! DEFINITION. What other chapters need of the twin link: the SA records and the
leases of their numbers (R258, R381, R386). -/

namespace Sys2Proof.Machine

/-- SA `n`, if it is installed. -/
def saOf (s : State) (n : Nat) : Option Sa := tget s.cip.sas n

/-- Write SA `n`. -/
def setSa (s : State) (n : Nat) (a : Sa) : State :=
  { s with cip := { s.cip with sas := tset s.cip.sas n a } }

/-- An SA whose numbers have reached the end of its lease goes into the next one once that is recorded (R258). -/
def Sa.rollLease (a : Sa) : Sa :=
  if a.dir = 0 && a.leaseReady && a.lease ≤ a.seq then { a with lease := a.lease + 2 ^ 20, leaseReady := false } else a

/-- The standby's form of a lease record (R386): the first number of the next unused lease. -/
def Sa.leaseRecord (a : Sa) (k : Nat) : Sa :=
  if (k + 1) * 2 ^ 20 ≤ a.seq then a else { a with seq := (k + 1) * 2 ^ 20, lease := (k + 2) * 2 ^ 20 }

/-- The standby's form of an inbound SA whose replay_top is `top`: the jump that a takeover makes is made already (R260,
R387). -/
def Sa.jump (a : Sa) (top : Nat) : Sa := { a with lease := top, seq := top + 2 ^ 20, bitmap := 0, jumped := true }

/-- Ask for the next lease of an outbound SA once its numbers reach the last half of the lease (R258, R381,
R386): a PRIMARY has its twin record it, for this installation of the SA, and an SA that is not on a twin has it recorded
at once. -/
def askLease (s : State) (n : Nat) : State :=
  match saOf s n with
  | none => s
  | some a =>
    if a.dir ≠ 0 || a.leaseReady || a.seq + 2 ^ 19 < a.lease then s
    else if a.mirrored && s.twn.paired then
      if s.twn.role ≠ rolePrimary || s.twn.outq.any (fun f => f.lease = some (n, a.uid)) then s
      else twinSend s 3 (leBytes 4 n ++ leBytes 4 0 ++ leBytes 8 (a.lease / 2 ^ 20)) (some (n, a.uid))
    else setSa s n { a with leaseReady := true }.rollLease

end Sys2Proof.Machine
end

