-- ==== Sys2Proof/Machine/Cipher.lean ====
section
/-! DEFINITION. CIP RECORD (R246 to R262): acceptance (Table 8.5), lanes (R250 to R256), sequence numbers and
replay (R257 to R260), the processing of a record at its end (R242, R247), and the expiry of a claim. -/

namespace Sys2Proof.Machine

/-! ## Modes and key material (Tables 8.2, 8.3) -/

/-- Key bytes of a mode. -/
def keyLen (mode : Nat) : Nat :=
  if mode = 11 then 64 else if [1, 4, 6, 8].contains mode then 16 else 32

/-- Bytes of nonce material of a mode. -/
def nonceLen (mode : Nat) : Nat :=
  if mode ≤ 3 then 4 else if mode = 6 || mode = 7 then 16 else if mode = 11 then 0 else 12

/-- A mode of ESP. -/
def isEsp (mode : Nat) : Bool := 1 ≤ mode && mode ≤ 3
/-- A mode of MACsec. -/
def isMacsec (mode : Nat) : Bool := 4 ≤ mode && mode ≤ 7
/-- A MACsec mode with 64-bit packet numbers. -/
def isXpn (mode : Nat) : Bool := mode = 6 || mode = 7
/-- A mode of TLS. -/
def isTls (mode : Nat) : Bool := 8 ≤ mode && mode ≤ 10
/-- A mode that uses ChaCha20-Poly1305. -/
def isChacha (mode : Nat) : Bool := mode = 3 || mode = 10

/-- The key-encryption key's bytes (R243). -/
def kekBytes (s : State) : Option (List Nat) := s.cip.kek.map randomBytes

/-- Wrap the key material of a mode, padded to a multiple of 8 bytes, under the current KEK (R243). -/
def wrapKey (kek : List Nat) (key : List Nat) : List Nat := kwWrap kek (padTo 8 key)

/-- Unwrap an SA's blob into key and nonce material; none when it fails or its slot is marked (R245). -/
def unwrapKey (s : State) (a : Sa) : Option (List Nat × List Nat) :=
  if a.blobMark then none
  else
    match kekBytes s with
    | none => none
    | some k => (kwUnwrap k a.blob).map (fun m =>
        (m.take (keyLen a.mode), (m.drop (keyLen a.mode)).take (nonceLen a.mode)))

/-- The SA counts as ERASED: erased, or wrapped under an earlier KEK (R264). -/
def saErased (s : State) (a : Sa) : Bool := a.st = .erased || a.kekGen ≠ s.cip.kekGen.toNat % 65536

/-! ## Sequence numbers and replay (R257, R259, R260) -/

/-- The last number an outbound SA issues (R257). -/
def lastSeq (a : Sa) : Nat := if a.mode ≤ 5 && !a.esn then 2 ^ 32 - 1 else 2 ^ 64 - 1

/-- The lowest acceptable number of an inbound SA (R259). -/
def lowestSeq (a : Sa) : Nat := a.seq + 1 - a.replayWindow

/-- The 64-bit number of an inbound ESP record with esn (RFC 4303, Appendix A); its high half is a 32-bit number. -/
def espEstimate (a : Sa) (low : Nat) : Nat :=
  let tl := a.seq % 2 ^ 32
  let th := a.seq / 2 ^ 32
  let w := a.replayWindow
  let bl := (tl + 2 ^ 32 + 1 - w) % 2 ^ 32
  if w ≤ tl + 1 then (if bl ≤ low then th else (th + 1) % 2 ^ 32) * 2 ^ 32 + low
  else (if bl ≤ low then (th + 2 ^ 32 - 1) % 2 ^ 32 else th) * 2 ^ 32 + low

/-- The 64-bit number of an inbound XPN record (IEEE 802.1AE; log entry 31). -/
def xpnEstimate (a : Sa) (low : Nat) : Nat :=
  let l := lowestSeq a
  let hi := l / 2 ^ 32
  (if 2 ^ 31 ≤ l % 2 ^ 32 && low < 2 ^ 31 then hi + 1 else hi) % 2 ^ 32 * 2 ^ 32 + low

/-- The number of an inbound record from the 32 bits on the wire; TLS counts implicitly (log entry 30). -/
def inboundSeq (a : Sa) (low : Nat) : Nat :=
  if isTls a.mode then a.seq
  else if isEsp a.mode && a.esn then espEstimate a low
  else if isXpn a.mode then xpnEstimate a low
  else low

/-- The number is refused as a replay: below the window, or its bit is set (R259). -/
def replayed (a : Sa) (n : Nat) : Bool :=
  if isEsp a.mode then n < lowestSeq a || (n ≤ a.seq && bitOf (a.seq - n) a.bitmap)
  else isMacsec a.mode && n < lowestSeq a

/-- The counter of a replay refusal (R260): a number below the window above jump_base − replay_window, on an
SA that a takeover moved. -/
def replayCounter (a : Sa) (n : Nat) : Nat :=
  if a.jumped && n < lowestSeq a && a.lease < n + a.replayWindow then cCipReplayTakeover else cCipReplay

/-- Commit a number whose tag verified (R259). -/
def commitSeq (a : Sa) (n : Nat) : Sa :=
  if isEsp a.mode then
    if a.seq < n then
      { a with seq := n, bitmap := (a.bitmap * 2 ^ min (n - a.seq) 128 + 1) % 2 ^ 128 }
    else { a with bitmap := a.bitmap ||| 2 ^ (a.seq - n) }
  else if isMacsec a.mode then { a with seq := max a.seq n }
  else a

/-! ## Operands and checks (Tables 8.4, 8.5) -/

/-- The operands of CIP RECORD (Table 8.4). -/
structure RecOp where
  off : Nat
  aad : Nat
  payload : Nat
  sa : Nat
  fid : Nat
  decrypt : Bool
  hold : Bool
  reserved : Bool
  deriving DecidableEq, Repr

/-- The operands of a step. -/
def recOp (x : StepIn) : RecOp :=
  { off := bits 15 0 x.av, aad := bits 22 16 x.av, payload := bits 47 32 x.av
    sa := bits 21 0 x.bv, fid := bits 43 32 x.bv, decrypt := bitOf 0 x.imm, hold := bitOf 1 x.imm
    reserved := bits 31 23 x.av ≠ 0 || bits 63 48 x.av ≠ 0 || bits 31 22 x.bv ≠ 0 ||
      bits 63 44 x.bv ≠ 0 || bits 39 2 x.imm ≠ 0 }

/-- Bytes of the record that lie in the packet at issue: a tag to append does not yet. -/
def recSpan (mode : Nat) (o : RecOp) : Nat :=
  recBytes mode o.aad o.payload - (if !o.decrypt && isAead mode then 16 else 0)

/-- Row 6 of Table 8.5: lengths and place of the record (R246). -/
def recLengthBad (k : Pkt) (a : Sa) (o : RecOp) : Bool :=
  let appends := !o.decrypt && isAead a.mode
  let end_ := o.off + recSpan a.mode o
  k.len < end_ || (appends && end_ ≠ k.len) || 16704 < recBytes a.mode o.aad o.payload ||
    64 < o.aad || (a.mode = 11 && o.aad ≠ 0) || (isEsp a.mode && o.payload = 0) ||
    (a.mode = 11 && o.payload ≠ 2 ^ a.unitLog2) || (appends && 65535 < k.len + 16)

/-- The bytes of the record in its packet. -/
def recordBytes (s : State) (k : Pkt) (a : Sa) (o : RecOp) : List PByte :=
  slice (pktBytes s k) o.off (recSpan a.mode o)

/-- The 32 bits of the number on the wire: AAD bytes 4 to 7 of ESP, 16 to 19 of MACsec (R247). -/
def wireSeq (a : Sa) (aad : List Nat) : Nat :=
  if isEsp a.mode then beNat (slice aad 4 4) else if isMacsec a.mode then beNat (slice aad 16 4) else 0

/-- A refusal of RECORD: code, reason and counter. -/
structure RecRefusal where
  cc : Cc
  reason : Nat
  counter : Option Nat
  deriving DecidableEq, Repr

/-- Row 8 of Table 8.5 (R257 to R259, R382): a refusal, or the number of the record. -/
def recSeq (s : State) (a : Sa) (low : Nat) : Except RecRefusal Nat :=
  if a.mirrored && twinIdle s then .error ⟨.refusedState, 0x06, some cCipLeaseWait⟩
  else if a.mode = 11 then .ok 0
  else if a.dir = 0 then
    if lastSeq a < a.seq then .error ⟨.refusedState, 0x05, some cCipSeqExhausted⟩
    else if a.lease ≤ a.seq && !a.leaseReady then .error ⟨.refusedState, 0x06, some cCipLeaseWait⟩
    else .ok a.seq
  else
    let n := inboundSeq a low
    if replayed a n then .error ⟨.refusedState, 0x04, some (replayCounter a n)⟩ else .ok n

/-- Rows 2 to 8 of Table 8.5: a refusal, or the SA and the number of the record. -/
def recCheck (s : State) (x : StepIn) (o : RecOp) : Except RecRefusal (Sa × Nat) :=
  match saOf s o.sa with
  | none => .error ⟨.refusedState, 0x01, some cCipSaInactive⟩
  | some a =>
    if a.st = .dormant then .error ⟨.refusedState, 0x01, some cCipSaInactive⟩
    else if a.owner ≠ o.fid then .error ⟨.refusedState, 0x08, some cCipForeignSa⟩
    else if saErased s a then .error ⟨.refusedState, 0x02, some cCipSaErased⟩
    else if o.decrypt ≠ (a.dir = 1) || o.reserved then .error ⟨.refusedState, 0x03, some cCipSaMode⟩
    else if recLengthBad x.k a o then .error ⟨.refusedState, 0x07, some cCipLength⟩
    else if (unwrapKey s a).isNone then .error ⟨.failedParity, 0, some cCipKeyParity⟩
    else
      let bs := recordBytes s x.k a o
      let bad := anyPoison bs || (a.mode = 11 && (x.k.opnd x.w.dst).p)
      if bad && !x.w.poisonOk then .error ⟨.failedParity, 0, none⟩
      else (recSeq s a (wireSeq a (rawBytes (bs.take o.aad)))).map (fun n => (a, n))

/-! ## Lanes (R249 to R256) -/

/-- Now, in eighths of a nanosecond. -/
def now8 (s : State) : Nat := 8 * s.now

/-- A lane can start a record within 16 ns, no packet holds it, and no record of the function that gave it back
is left on it (R250, R256, R266). -/
def laneFree (s : State) (n : Nat) : Bool :=
  let l := laneOf s n
  l.held.isNone && l.until8 ≤ now8 s + 128 && !(l.leaving && s.cip.records.any (fun r => r.lane = n))

/-- The lane of a group with the earliest committed_until, the lowest number among equals. -/
def bestLane (s : State) (ls : List Nat) : Option Nat :=
  (ls.filter (laneFree s)).foldl (fun b n =>
    match b with
    | none => some n
    | some m => if (laneOf s n).until8 < (laneOf s m).until8 then some n else some m) none

/-- The lane that takes a record of a FID: its dedicated lanes, then the common lanes (R250). -/
def pickLane (s : State) (fid : Nat) : Option Nat :=
  let group := fun d => (List.range 32).filter (fun n => (laneOf s n).dedicated = d)
  match bestLane s (group fid) with
  | some n => some n
  | none => bestLane s (group 0xFFE)

/-- The lane a packet holds. -/
def heldLane (s : State) (p ord : Nat) : Option Nat :=
  (List.range 32).find? (fun n => (laneOf s n).held = some (p, ord))

/-- The lane of a record, with a lane that its packet holds for another FID released first (R256); a held
lane of the same FID takes the record without the rule of R250. -/
def laneFor (s : State) (x : StepIn) (fid : Nat) : Option Nat × State :=
  match heldLane s x.p x.k.ord with
  | some n =>
    if (laneOf s n).owner = fid then (some n, s)
    else
      let s1 := setLane s n (laneOf s n).release
      (pickLane s1 fid, s1)
  | none => (pickLane s fid, s)

/-- Put a record on a lane: the claim, the wipe of R253, and the lane's time and count (R250, R252). -/
def claimLane (s : State) (n fid bytes : Nat) (held : Option (Nat × Nat)) : State :=
  let l := laneOf s n
  let start := max l.until8 (now8 s)
  let prev := if l.owner = 0xFFE then l.lastOwner else l.owner
  let l1 := if prev = fid then l else l.wipe
  setLane s n { l1 with
    owner := fid, held := held, leaving := false, records := l1.records + 1, claimAt := if l.owner = fid && l.held.isSome then l.claimAt else s.now
    until8 := start + 64 + bytes }

/-! ## RECORD at issue (R247, R248) -/

/-- A refused record: its counter, and the reason in dst. -/
def refuseRecord (s : State) (x : StepIn) (fid : Nat) (mark : Bool) (r : RecRefusal) : State :=
  let s1 := match r.counter with
    | some i => if i = cCipKeyParity then countDev s i else count s fid i
    | none => s
  doneW s1 x r.cc r.reason mark

/-- An outbound SA assigns its number: the lease that has come into use, and the next number (R257, R258).
An inbound TLS SA counts its records (log entry 30). -/
def takeSeq (a : Sa) : Sa :=
  if a.mode = 11 then a
  else if a.dir = 0 then
    let b := a.rollLease
    { b with seq := b.seq + 1 }.rollLease
  else if isTls a.mode then { a with seq := a.seq + 1 }
  else a

/-- A record in flight on a removed SA, with the SA's replay state as another leaves it (R259). -/
def Rec.withReplay (r : Rec) (a : Sa) : Rec :=
  { r with saSnap := { r.saSnap with seq := a.seq, bitmap := a.bitmap, lease := a.lease, jumped := a.jumped } }

/-- Accept a record on a lane (R250 to R252): its step waits for the lane. -/
def acceptRecord (s : State) (x : StepIn) (o : RecOp) (a : Sa) (seq lane : Nat) (mark : Bool) : State :=
  let bytes := recBytes a.mode o.aad o.payload
  let s1 := claimLane s lane o.fid bytes (if o.hold || heldLane s x.p x.k.ord = some lane then some (x.p, x.k.ord) else none)
  let s2 := askLease (setSa s1 o.sa (takeSeq a)) o.sa
  let r : Rec :=
    { id := s2.cip.nextId, lane := lane, p := x.p, c := x.c, fid := o.fid, sa := o.sa, saSnap := a
      seq := seq, off := o.off, aad := o.aad, payload := o.payload, decrypt := o.decrypt
      hold := o.hold, dun := (x.k.opnd x.w.dst).v.toNat, dst := x.w.dst
      poison := mark || anyPoison (recordBytes s x.k a o) || (a.mode = 11 && (x.k.opnd x.w.dst).p) }
  let s3 := { s2 with cip := { s2.cip with
    records := s2.cip.records ++ [r], nextId := s2.cip.nextId + 1 } }
  issued (setCtx s3 x.p x.c { x.k with st := .wait }) x.p x.c

/-- CIP RECORD at issue: rows 1 to 9 of Table 8.5. -/
def execCipRecord (p c : Nat) (s : State) : Res :=
  .next (withStep 9 0 p c s (fun x =>
    let o := recOp x
    let m := x.a.p || x.b.p
    if isFrozen s o.fid then doneW s x .frozen 0 false
    else if m && !x.w.poisonOk then doneW s x .failedParity 0 false
    else
      match recCheck s x o with
      | .error r =>
        let s1 := if r.reason = 0x06 then askLease s o.sa else s
        refuseRecord s1 x o.fid m r
      | .ok (a, n) =>
        if domainClosed s 18 then refuseRecord s x o.fid m ⟨.refusedBusy, 0, some cCipBusy⟩
        else
          match laneFor s x o.fid with
          | (none, s1) => refuseRecord s1 x o.fid m ⟨.refusedBusy, 0, some cCipBusy⟩
          | (some lane, s1) => acceptRecord s1 x o a n lane m))

/-! ## The end of a record (R242, R247, R259, R261, R262) -/

/-- The nonce of a record from its nonce material, number and IV bytes (R242). -/
def recNonce (mode : Nat) (mat : List Nat) (seq : Nat) (iv : List Nat) : List Nat :=
  if isEsp mode then mat ++ iv
  else if mode = 4 || mode = 5 then mat.take 8 ++ beBytes 4 seq
  else if isXpn mode then xorList (mat.take 12) (mat.drop 12 ++ beBytes 8 seq)
  else xorList mat (List.replicate 4 0 ++ beBytes 8 seq)

/-- The authenticated data: for ESP with esn, the high half goes in before the low half (R247). -/
def recAad (a : Sa) (aad : List Nat) (seq : Nat) : List Nat :=
  if isEsp a.mode && a.esn then aad.take 4 ++ beBytes 4 (seq / 2 ^ 32) ++ aad.drop 4 else aad

/-- Encrypt or decrypt bytes under an AEAD mode. -/
def aeadStream (mode : Nat) (key nonce bs : List Nat) : List Nat :=
  if isChacha mode then chacha20 key nonce bs else gcmCtr (aesKeys key) nonce bs

/-- The tag over authenticated data and ciphertext. -/
def aeadTag (mode : Nat) (key nonce aad ct : List Nat) : List Nat :=
  if isChacha mode then chachaTag key nonce aad ct else gcmTag (aesKeys key) nonce aad ct

/-- AAD with the number written into it on encryption (R247): its low 32 bits at bytes 4 to 7 for ESP and 16
to 19 for MACsec, as far as the AAD reaches. -/
def stampAad {α : Type} (a : Sa) (aad num : List α) : List α :=
  let put := fun o => (aad.take o ++ num ++ aad.drop (o + 4)).take aad.length
  if isEsp a.mode then put 4 else if isMacsec a.mode then put 16 else aad

/-- The bytes that replace an encrypted record, from its first byte on, tag included. -/
def encryptRecord (a : Sa) (key mat : List Nat) (r : Rec) (bs : List Nat) : List Nat :=
  let pt := (bs.drop (r.aad + ivLen a.mode)).take r.payload
  if a.mode = 11 then xts key r.dun false pt
  else
    let aad := stampAad a (bs.take r.aad) (beBytes 4 r.seq)
    let iv := if isEsp a.mode then beBytes 8 r.seq else []
    let nonce := recNonce a.mode mat r.seq iv
    let ct := aeadStream a.mode key nonce pt
    aad ++ iv ++ ct ++ aeadTag a.mode key nonce (recAad a aad r.seq) ct

/-- The plaintext of a decrypted record; none when its tag does not verify (R261). -/
def decryptRecord (a : Sa) (key mat : List Nat) (r : Rec) (bs : List Nat) : Option (List Nat) :=
  let ct := (bs.drop (r.aad + ivLen a.mode)).take r.payload
  if a.mode = 11 then some (xts key r.dun true ct)
  else
    let aad := bs.take r.aad
    let iv := (bs.drop r.aad).take (ivLen a.mode)
    let nonce := recNonce a.mode mat r.seq iv
    let tag := (bs.drop (r.aad + ivLen a.mode + r.payload)).take 16
    if tag = aeadTag a.mode key nonce (recAad a aad r.seq) ct then
      some (aeadStream a.mode key nonce ct)
    else none

/-- A snapshot of an inbound mirrored SA goes to the twin when its top has risen far enough (R387). -/
def snapshotSa (s : State) (n : Nat) (a : Sa) : State :=
  if a.mirrored && mirroring s && (isEsp a.mode || isMacsec a.mode) && a.snapSent + 2 ^ 18 ≤ a.seq then
    twinSend (setSa s n { a with snapSent := a.seq }) 4 (leBytes 4 n ++ leBytes 4 0 ++ leBytes 8 a.seq) none
  else setSa s n a

/-- The end of an encrypted record: the packet is rewritten and its length raised by the tag (R247). Payload and
tag come out marked or clean as the record is, and authenticated bytes that the unit does not write keep their
marks (R262). -/
def finishEncrypt (s : State) (r : Rec) (x : StepIn) (key mat : List Nat) : State :=
  let a := r.saSnap
  let n := recSpan a.mode ⟨r.off, r.aad, r.payload, r.sa, r.fid, false, r.hold, false⟩
  let old := slice (pktBytes s x.k) r.off n
  let out := encryptRecord a key mat r (rawBytes old)
  if a.mode = 11 then
    let s1 := writeChain s x.k.handle r.off (markBytes out r.poison)
    doneW s1 x .done (r.dun + 1) r.poison
  else
    let head := r.aad + ivLen a.mode
    let aad := stampAad a (old.take r.aad) (markBytes (beBytes 4 r.seq) false)
    let iv := markBytes ((out.take head).drop r.aad) false
    let bs := aad ++ iv ++ markBytes (out.drop head) r.poison
    let s1 := setChain s x.k.handle (overlay (pktBytes s x.k) r.off bs)
    let y := { x with k := x.k.setLen (x.k.len + 16) }
    doneW s1 y .done r.seq r.poison

/-- A replay commit takes place in the SA, or, after its removal, among the records that are still in flight on it (R259). -/
def commitRecord (s : State) (n : Nat) (a : Sa) : State :=
  if (saOf s n).isSome then snapshotSa s n a
  else { s with cip := { s.cip with records := s.cip.records.map (fun y => if y.sa = n then y.withReplay a else y) } }

/-- The end of a decrypted record: the tag, then the replay commit, decide (row 10 of Table 8.5). -/
def finishDecrypt (s : State) (r : Rec) (x : StepIn) (key mat : List Nat) : State :=
  let a := r.saSnap
  let n := recBytes a.mode r.aad r.payload
  let at_ := r.off + r.aad + ivLen a.mode
  match decryptRecord a key mat r (rawBytes (slice (pktBytes s x.k) r.off n)) with
  | none => doneW (count (zeroOutput s r) r.fid cCipAuthFail) x .failedAuth 0 r.poison
  | some pt =>
    let cur := (saOf s r.sa).getD a
    if a.mode ≠ 11 && replayed cur r.seq then
      doneW (count (zeroOutput s r) r.fid (replayCounter cur r.seq)) x .refusedState 0x04 r.poison
    else
      let s1 := if a.mode = 11 then s else commitRecord s r.sa (commitSeq cur r.seq)
      let tag := rawBytes (slice (pktBytes s x.k) (at_ + r.payload) (n - (r.aad + ivLen a.mode + r.payload)))
      let s2 := writeChain s1 x.k.handle at_ (markBytes (pt ++ tag) r.poison)
      doneW s2 x .done (if a.mode = 11 then r.dun + 1 else r.seq) r.poison

/-- A record is the first that its lane has accepted and not finished; a lane takes its records in turn. -/
def firstOnLane (s : State) (r : Rec) : Bool :=
  (s.cip.records.find? (fun y => y.lane = r.lane)).map (fun y => y.id) = some r.id

/-- A lane finishes a record (R259). The unit of the lane is clocked by domain 18. -/
def execRecordFinish (id : Nat) (s : State) : Res :=
  .next (match s.cip.records.find? (fun r => r.id = id) with
    | none => s
    | some r =>
      if !firstOnLane s r then s
      else
        match recPkt s r with
        | none => s
        | some k =>
          let s2 := takeRecord s r
          let x := stepIn s2 r.p r.c k
          match unwrapKey s2 r.saSnap with
          | none => refuseRecord (zeroOutput s2 r) x r.fid r.poison ⟨.failedParity, 0, some cCipKeyParity⟩
          | some (key, mat) =>
            if r.decrypt then finishDecrypt s2 r x key mat else finishEncrypt s2 r x key mat)

/-! ## The expiry of a claim (R254) -/

/-- A claim held to its limit is cleared: the lane wipes and the claimant goes into the stocks. -/
def execClaimExpiry (lane : Nat) (s : State) : Res :=
  .next (
    let l := laneOf s lane
    if l.owner = 0xFFE || l.held.isNone || s.now < l.claimAt + 1000 * s.cip.claimLimitUs then s
    else
      let s1 := setLane s lane l.wipe.release
      let s2 := { s1 with cip := { s1.cip with violFid := l.owner, violLane := lane, violSeen := true } }
      violate s2 l.owner 0x06 lane 0)

end Sys2Proof.Machine
end

