-- ==== Sys2Proof/Machine/Tags.lean ====
section
/-! DEFINITION. The tags of device reads (R362 to R364): the pool of a link, quarantine, the timeout value, and the reads that a
row issues and ends itself. -/

namespace Sys2Proof.Machine

/-- Tags in use per link: 4,096 in FLIT mode, 768 otherwise (Table 12.1). -/
def tagPool (s : State) (link : Nat) : Nat :=
  if (if link = 1 then s.pci.flitB else s.pci.flit) then 4096 else 768

/-- The requester of a timed-out read whose quarantine on a tag has not ended (R362): it ends at its instant, whether or not
the row that says so has come. -/
def quarantined (s : State) (link tag : Nat) : Option Nat :=
  match tget s.pci.quarantine (link * 16384 + tag) with
  | some (t, fid) => if s.now < t then some fid else none
  | none => none

/-- A tag is neither busy nor quarantined (R362). -/
def tagFree (s : State) (link tag : Nat) : Bool :=
  !(s.pci.reads.any (fun r => r.link = link && r.tag = some tag && r.fin.isNone)) &&
    (quarantined s link tag).isNone

/-- The tag a read takes: which free one is not stated (R362). -/
def pickTag (s : State) (link d : Nat) : Option Nat :=
  let n := tagPool s link
  scanFrom (fun i => let t := (Sys2Proof.Config.tagPick d + i) % n
    if tagFree s link t then some t else none) n 0

/-- The timeout value of an encoding in nanoseconds (Table 12.7); none for an encoding that is absent. -/
def ctoNs : Nat → Option Nat
  | 0 => some 10000000
  | 1 => some 80000
  | 2 => some 8000000
  | 5 => some 40000000
  | 6 => some 160000000
  | 9 => some 640000000
  | 10 => some 2500000000
  | 13 => some 10000000000
  | 14 => some 40000000000
  | _ => none

/-- T of the reads of a requester: PF1 has its own field, virtual functions take PF0's (R363). -/
def ctoOf (s : State) (fid : Nat) : Nat := (ctoNs (if fid = 1 then s.pci.ctoPf1 else s.pci.ctoPf0)).getD 10000000

/-- The tag that a read of a row takes, with the count of a wait: where none is free, the read waits within its row for the
one that becomes free, a free value (DESIGN CHOICE, log entry 136). -/
def rowTag (s : State) (link : Nat) : Nat × State :=
  let (d, s1) := draw s
  match pickTag s1 link d with
  | some t => (t, s1)
  | none => (Sys2Proof.Config.tagPick d % tagPool s link, countDev s1 cPciTagWait)

/-- A read that times out: its tag is quarantined until `t`, twice the timeout value after its timeout instant, the
event is logged, and AER records it (R362, R364). -/
def readTimedOut (s : State) (fid link tag t : Nat) : State :=
  let s1 : State := { s with pci := { s.pci with quarantine := tset s.pci.quarantine (link * 16384 + tag) (t, fid) } }
  logEvent (aerError s1 fid 14) 0x0021 fid [.num 4 tag, .num 1 link]

/-- A read of host memory that a row of a haul channel or of the Steward issues, and whose end is an operand of the row: it takes
a tag of its link, and its end is counted, or recorded as a timeout (R358, R362 to R365). -/
def rowRead (s : State) (fid addr len : Nat) (rd : ReadResult) : State :=
  let f := requester fid
  let l := linkOf s f
  let (t, s1) := rowTag s l
  let s2 := emit s1 (.hostRead f addr len l t)
  match rd with
  | .ok => s2
  | .poisoned => count s2 f cPciRxPoisoned
  | .error => count s2 f cPciCplError
  | .timeout => readTimedOut s2 f l t (s2.now + 2 * ctoOf s2 f)

end Sys2Proof.Machine
end

