-- ==== Sys2Proof/Machine/Reply.lean ====
section
/-! DEFINITION. What every Steward command goes through (chapter 14): the acceptance checks that a typed command can
still fail (R404, R408), held objects (R407), the wipes and the life-cycle state (R453, R454), mirroring (R382,
R384, R385), and the reply on its path (R398 to R402). -/

namespace Sys2Proof.Machine

/-! ## Paths (Table 14.3) -/

/-- The counter set of a path (Table 14.3). -/
def pathSet (m : Meta) : Nat :=
  match m.path with
  | .admin => 0
  | .mailbox => m.fid
  | _ => 0xFFF

/-- The issuer FID fits the path: 0 but for a mailbox, which is PF1's or a VF's (Table 14.3). -/
def issuerOk (m : Meta) : Bool :=
  match m.path with
  | .mailbox => m.fid = 1 || isVf m.fid
  | _ => m.fid = 0

/-- The read opcodes that bit 0 of a path mask opens (R403). -/
def readOpcodes : List Nat :=
  [0x0101, 0x020A, 0x0309, 0x0406, 0x0505, 0x0512, 0x0606, 0x0703, 0x0808, 0x0904, 0x0A01, 0x0A04, 0x0B01]

/-- A path mask opens an opcode (R403). -/
def maskOpens (mask op : Nat) : Bool := bitOf (op / 256) mask || (bitOf 0 mask && readOpcodes.contains op)

/-- A command of a mirrored class (Table 13.4); read commands are not mirrored. -/
def isMirrored (op : Nat) : Bool :=
  !readOpcodes.contains op &&
    ((0x0200 ≤ op && op < 0x0800) || (0x0C00 ≤ op && op < 0x0D00) ||
      [0x0111, 0x0120, 0x0121, 0x0B20, 0x0B21, 0x0B22].contains op)

/-- The opcode is open to the issuer and to the path (R403, R408); the twin path carries the mirrored classes alone (R384). -/
def opcodeOpen (s : State) (m : Meta) (op : Nat) : Bool :=
  match m.path with
  | .mailbox => [0x0101, 0x0309, 0x0904, 0x0B01].contains op
  | .svc => maskOpens s.stw.svcMask op
  | .mctp => maskOpens s.stw.mctpMask op
  | .twin => isMirrored op
  | _ => true

/-- The background-capable opcodes (R407). -/
def backgroundOpcodes : List Nat :=
  [0x0110, 0x0113, 0x0124, 0x0127, 0x0202, 0x0204, 0x0205, 0x0501, 0x0508, 0x0702, 0x0804, 0x0901, 0x0903,
    0x0910, 0x0A05, 0x0A10]

/-- The opcodes a DECOMMISSIONED device accepts (Table 16.6). -/
def decommissionedOpcodes : List Nat := [0x0101, 0x0904, 0x0A01, 0x0A04]

/-- A command of the mirrored classes, the load of an image among them (R382). -/
def mirroredClass (op : Nat) : Bool := isMirrored op || op = 0x0110

/-! ## Packets and replies (R396, R398, R421) -/

/-- A native command packet (Table 14.1). -/
def packetBytes (op tag fid : Nat) (notify : Bool) (params : List Nat) : List Nat :=
  let h := leBytes 2 op ++ leBytes 2 params.length ++ leBytes 4 tag ++ leBytes 2 fid ++ [b2n notify, 2] ++
    List.replicate 51 0
  h ++ [xorBytes (h ++ params)] ++ params

/-- A native reply (Table 14.2). -/
def replyBytes (op tag status check item ns doneNs : Nat) (results : List Fld) : List Nat :=
  let r := encBlock results
  let h := leBytes 2 op ++ leBytes 2 r.length ++ leBytes 4 tag ++ [status, check] ++ leBytes 2 item ++
    List.replicate 4 0 ++ leBytes 8 ns ++ leBytes 8 doneNs ++ List.replicate 31 0
  h ++ [xorBytes (h ++ r)] ++ r

/-- The old status of a native status (Table 14.15). -/
def oldStatus (st : Status) : Nat :=
  match st with
  | .done => 0 | .doneFallback => 0
  | .deferred => 1 | .refusedBusy => 1
  | .badOpcode => 2 | .badParam => 2 | .badLength => 2
  | .refusedPermission => 3 | .frozen => 3
  | _ => 4

/-- A ZCH-0820 reply (R421). -/
def compatReply (old tag : Nat) (st : Status) (oldSt : Nat) (results : List Fld) : List Nat :=
  let r := encBlock results
  let h := [old, 0] ++ leBytes 2 r.length ++ leBytes 4 tag ++ [st.code, oldSt] ++ List.replicate 21 0
  h ++ [xorBytes (h ++ r)] ++ r

/-! ## The admin ring's replies (R400) -/

/-- A reply PAD that covers `units` units. -/
def padReply (units : Nat) : List Nat :=
  let r := List.replicate ((units - 1) * 64) 0
  let h := [0, 0] ++ leBytes 2 r.length ++ List.replicate 59 0
  h ++ [xorBytes h] ++ r

/-- Write bytes at the reply producer position and move it over their whole units. -/
def rplWrite (s : State) (bytes : List Nat) : State :=
  let size := 2 ^ s.stw.admSizeLog2
  let s1 := (hostWrite s 0xFFF (s.stw.rplBase + 64 * (s.stw.rplProd.toNat % size)) (pbytes bytes)).2
  { s1 with stw := { s1.stw with rplProd := s1.stw.rplProd + BitVec.ofNat 32 ((bytes.length + 63) / 64) } }

/-- Write a reply into the reply ring, then the producer position, then event 0x0001 when notify is set. -/
def adminReply (s : State) (m : Meta) (op : Nat) (st : Status) (bytes : List Nat) : State :=
  let size := 2 ^ s.stw.admSizeLog2
  let rem := size - s.stw.rplProd.toNat % size
  let s1 := if rem < (bytes.length + 63) / 64 then rplWrite s (padReply rem) else s
  let s2 := rplWrite s1 bytes
  let s3 := (hostWrite s2 0xFFF s2.stw.ctrAddr (pbytes (leBytes 4 s2.stw.rplProd.toNat))).2
  if m.notify then logEvent s3 0x0001 0 [.num 4 m.tag, .num 2 op, .num 1 st.code] else s3

/-! ## Replies on the other paths -/

/-- Place a reply in a function's mailbox and signal it (R401, Table 14.3). -/
def mailboxReply (s : State) (fid : Nat) (st : Status) (bytes : List Nat) : State :=
  let f := fnOf s fid
  if f.mbx.st ≠ 1 then s
  else
    let s1 := setFn s fid { f with mbx := { f.mbx with
      st := 2, lastStatus := st.code, reply := bytes } }
    if 0 < f.msix then raiseMsix s1 fid 0 else s1

/-- The highest frame number applied: frames that wait behind a command are not, and a command counts once its packet waits at
the twin path (R379; log entry 34). -/
def takenSeq (s : State) : Nat :=
  (s.twn.rxSeq + (2 ^ 64 - 1) - (s.twn.rxq.dropWhile TwinWork.isCommand).length) % 2 ^ 64

/-- The number of the frame that was taken from the head of the twin path last. -/
def twinSeq (s : State) : Nat := (s.twn.rxSeq + (2 ^ 64 - 1) - s.twn.rxq.length) % 2 ^ 64

/-- An acknowledgement: the highest number applied, and the number and status of a mirrored command that has ended (R379, R385;
log entry 34). -/
def twinAck (s : State) (result : Option (Nat × Nat)) : State :=
  twinFrame s 7 (leBytes 8 (takenSeq s) ++ match result with
    | some (q, st) => [1] ++ leBytes 8 q ++ [st]
    | none => [0])

/-- A mirrored command has ended: its result, by the number of its frame, which is the tag that the path gives it, is kept for a
repeat and sent. -/
def twinResult (s : State) (m : Meta) (st : Status) : State :=
  twinAck { s with twn := { s.twn with rxResult := some (m.tag, st.code) } } (some (m.tag, st.code))

/-- Send a reply on the path its packet came by. -/
def sendReply (s : State) (m : Meta) (op : Nat) (st : Status) (bytes : List Nat) : State :=
  match m.path with
  | .admin => adminReply s m op st bytes
  | .mailbox => mailboxReply s m.fid st bytes
  | .twin => twinResult s m st
  | _ => emit s (.reply m.path m.fid bytes)

/-! ## The end of a command -/

/-- What a command needs of its packet: when it was accepted, its parameter bytes, its old opcode. -/
structure PktInfo where
  ns : Nat
  params : List Nat
  compat : Option Nat
  deriving DecidableEq, Repr

/-- The reply of a command, in the form of its packet. -/
def answer (s : State) (m : Meta) (op : Nat) (i : PktInfo) (check : Nat) (e : CmdEnd) : State :=
  let bytes := match i.compat with
    | some old => compatReply old m.tag e.status (oldStatus e.status) e.results
    | none => replyBytes op m.tag e.status.code check e.item i.ns (timeNow s) e.results
  sendReply s m op e.status bytes

/-- A refusal by an acceptance check: its counter and its reply (R404). -/
def denyCheck (s : State) (m : Meta) (op : Nat) (i : PktInfo) (check item : Nat) (st : Status) (counter : Nat) :
    State :=
  answer (count s (pathSet m) counter) m op i check { status := st, item := item }

/-- A command that was mirrored waits for the standby's result (R385). -/
def sendMirrored (s : State) (m : Meta) (op : Nat) (i : PktInfo) (e : CmdEnd) : State :=
  let w : MirrorWait :=
    { seq := s.twn.nextSeq, opcode := op, m := m, ns := i.ns, compat := i.compat, fin := e, until_ := s.now + 1000000 }
  let s1 := twinSend s 2 (packetBytes op m.tag m.fid false i.params) none
  { s1 with twn := { s1.twn with waits := s1.twn.waits ++ [w] } }

/-- A command ends: a status other than DONE is counted, unless its chapter counts it (R404); a mirrored command
replies once the standby has answered. -/
def endCommand (s : State) (m : Meta) (op : Nat) (i : PktInfo) (e : CmdEnd) (quiet : Bool) : State :=
  let good := e.status = .done || e.status = .doneFallback
  let s1 := if good || quiet then s else count s (pathSet m) cStwCmdRefused
  if good && m.path ≠ .twin && isMirrored op && mirroring s1 then sendMirrored s1 m op i e
  else answer s1 m op i 0 e

/-! ## Commands in the background (R407) -/

/-- Some command in the background holds one of the objects. -/
def heldObj (s : State) (objs : List Obj) : Bool := s.stw.bg.any (fun b => b.objs.any objs.contains)

/-- The command of an opcode in the background that holds an object. -/
def bgOf (s : State) (ops : List Nat) (o : Obj) : Option BgCmd :=
  s.stw.bg.find? (fun b => ops.contains b.opcode && b.objs.contains o)

/-- A command in the background ends and its reply is written. -/
def endBg (s : State) (b : BgCmd) (e : CmdEnd) (quiet : Bool) : State :=
  endCommand { s with stw := { s.stw with bg := s.stw.bg.erase b } } b.m b.opcode ⟨b.ns, b.params, b.compat⟩ e quiet

/-- A command in the foreground that has acted replies. -/
def endFore (s : State) (b : BgCmd) (e : CmdEnd) : State :=
  endCommand { s with stw := { s.stw with fore := s.stw.fore.erase b } } b.m b.opcode ⟨b.ns, b.params, b.compat⟩ e false

/-! ## Running a command -/

/-- What a command's own rules answer: its end, or that it goes on in the background; and the state it leaves. A
refusal leaves the state as it was, but for what it counts. -/
structure CmdOut where
  fin : CmdEnd := { status := .done }
  quiet : Bool := false
  bg : Bool := false
  fore : Bool := false
  bgFin : Option CmdEnd := none
  deadline : Nat := 0
  s : State
  deriving DecidableEq, Repr

/-- The command is done. -/
def ok (s : State) : CmdOut := { s := s }
/-- The command is done, with results. -/
def okWith (s : State) (r : List Fld) : CmdOut := { s := s, fin := { status := .done, results := r } }
/-- The command is refused, or failed, with a status. -/
def no (s : State) (st : Status) : CmdOut := { s := s, fin := { status := st } }
/-- The command is refused for the item at an index. -/
def noItem (s : State) (st : Status) (i : Nat) : CmdOut := { s := s, fin := { status := st, item := i } }
/-- The command goes on in the background; its end is known from `t` on. -/
def bgUntil (s : State) (t : Nat) (e : CmdEnd) : CmdOut := { s := s, bg := true, bgFin := some e, deadline := t }
/-- The command goes on in the background until another event ends it. -/
def bgOpen (s : State) (t : Nat) : CmdOut := { s := s, bg := true, deadline := t }

/-- The command has acted, and replies once what it waits for has ended; it stays in the foreground (R405). -/
def foreOpen (s : State) : CmdOut := { s := s, fore := true }

/-- The accepted packet that a command is the execution of. -/
def acceptedOf (s : State) (m : Meta) (op : Nat) : Option Accepted :=
  s.stw.accepted.find? (fun a => a.path = m.path && a.fid = m.fid && a.tag = m.tag && a.opcode = op)

/-- The opcodes whose acts read or write RLDRAM: tables, the ledger, the SA table and connection records (Table 1.4). -/
def rldOpcodes : List Nat :=
  [0x0204, 0x0205, 0x0401, 0x0402, 0x0406, 0x0501, 0x0502, 0x0503, 0x0504, 0x0505, 0x0508, 0x0601, 0x0602, 0x0603, 0x0604,
    0x0605, 0x0606, 0x0701, 0x0702, 0x0703, 0x0704]

/-- Take the accepted packet of a command, with its acceptance instant; a command on RLDRAM accesses it (R33). -/
def takeAccepted (s : State) (m : Meta) (op : Nat) : PktInfo × State :=
  let at_ := if rldOpcodes.contains op then some s.now else s.stw.rldAt
  match acceptedOf s m op with
  | some a => (⟨a.ns, a.params, a.compat⟩, { s with stw := { s.stw with accepted := s.stw.accepted.erase a, rldAt := at_ } })
  | none => (⟨timeNow s, [], none⟩, { s with stw := { s.stw with rldAt := at_ } })

/-- The rules that stand before every command's own: the DECOMMISSIONED state (R454), the RLDRAM wipe (R453),
and the mirrored classes on a paired STANDBY (R382). -/
def commonRefusal (s : State) (m : Meta) (op : Nat) (rld : Bool) : Bool :=
  (s.alm.lcState = 4 && !decommissionedOpcodes.contains op) || (rld && s.dev.rldWiping) ||
    (s.twn.role = roleStandby && s.twn.paired && m.path ≠ .twin && mirroredClass op)

/-- A command that its own rules have judged: refused, held off by an object that another command holds, run, or running on in
the foreground or in the background (R405 to R407). -/
def settleCmd (s0 : State) (m : Meta) (op : Nat) (i : PktInfo) (objs : List Obj) (o : CmdOut) : State :=
  if !o.bg && o.fin.status ≠ .done then endCommand o.s m op i o.fin o.quiet
  else if heldObj s0 objs then endCommand s0 m op i { status := .refusedBusy } false
  else if o.fore then
    { o.s with stw := { o.s.stw with fore := o.s.stw.fore ++ [{
        opcode := op, m := m, ns := i.ns, params := i.params, compat := i.compat, objs := objs, fin := none }] } }
  else if o.bg then
    { o.s with stw := { o.s.stw with bg := o.s.stw.bg ++ [{
        opcode := op, m := m, ns := i.ns, params := i.params, compat := i.compat, objs := objs, fin := o.bgFin
        deadline := o.deadline }] } }
  else endCommand o.s m op i o.fin o.quiet

/-- A command that a device mirrors goes on as the packet that it was, so it runs only as the execution of one (R384; log entry
138). -/
def needsPacket (s : State) (m : Meta) (op : Nat) : Bool := mirroring s && m.path ≠ .twin && isMirrored op

/-- A command's packet waits on its path: it was not accepted, and the Steward is not ready, has a command in the foreground, or
runs the command as a packet alone (R405, R450). -/
def cmdWaits (s : State) (m : Meta) (op : Nat) : Bool :=
  (!s.stw.ready || !s.stw.fore.isEmpty || needsPacket s m op) && (acceptedOf s m op).isNone

/-- Run a command: the acceptance checks that its packet can still fail, then its rules `f`. `bad` is the first
parameter at fault under check 8, `objs` the objects its parameters identify, `rld` whether it writes RLDRAM.
During a life-cycle change every other packet is refused (R457). -/
def runCmd (m : Meta) (op : Nat) (objs : List Obj) (rld : Bool) (bad : Option Nat) (f : State → CmdOut)
    (s : State) : State :=
  if cmdWaits s m op then s
  else
    let (i, s0) := takeAccepted s m op
    if !issuerOk m then denyCheck s0 m op i 4 0xFFFF .refusedPermission cStwDenied
    else if !opcodeOpen s0 m op then denyCheck s0 m op i 6 0xFFFF .refusedPermission cStwDenied
    else
      match bad with
      | some k => denyCheck s0 m op i 8 k .badParam cStwBadPacket
      | none =>
        if s.stw.lcChange || (backgroundOpcodes.contains op && 16 ≤ s0.stw.bg.length) then
          denyCheck s0 m op i 9 0xFFFF .refusedBusy cStwBusy
        else if commonRefusal s0 m op rld then endCommand s0 m op i { status := .refusedState } false
        else settleCmd s0 m op i objs (f s0)

/-- A read of host memory for the device itself (R322): none when its data came, else the status that ends the
command (R420, R518). -/
def imageRead (s : State) (addr len : Nat) (rd : ReadResult) : Option Status × State :=
  if !inWindows s 0xFFF addr len false then (some .failedTimeout, dmaViolation s 0xFFF addr)
  else if !mayIssue s 0xFFF then (some .failedTimeout, s)
  else
    (match rd with
      | .ok => none
      | .timeout | .error => some .failedTimeout
      | .poisoned => some .failedParity, rowRead s 0xFFF addr len rd)

/-- The first item at fault among (item, in range) pairs (R404). -/
def firstBad (l : List (Nat × Bool)) : Option Nat := (l.find? (fun e => !e.2)).map (·.1)

end Sys2Proof.Machine
end

