-- ==== Sys2Proof/Machine/CipherCmds.lean ====
section
/-! DEFINITION. The cipher commands of class 0x06 (R241, R244, R249, R264 to R266, Table 8.9). -/

namespace Sys2Proof.Machine

/-! ## Key-cache slots and limits (R241, R243) -/

/-- The key-cache slots of the part (Table 1.3). -/
def keySlots : Nat := 57344

/-- The slots that an ACTIVE SA of a mode holds. -/
def modeSlots (mode : Nat) : Nat := if mode = 11 then 2 else 1

/-- A slot is held by no ACTIVE SA, and by no SA that a record in progress was accepted with (R241, R266). -/
def slotFree (s : State) (n : Nat) : Bool :=
  let holds := fun (a : Sa) => a.slot ≤ n && n < a.slot + modeSlots a.mode
  !tany s.cip.sas (fun _ a => a.st = .active && holds a) && !s.cip.records.any (fun r => holds r.saSnap)

/-- Free slots for a mode, one or two that lie together; which is not stated (log entry 72). -/
def findSlot (s : State) (mode : Nat) : Option Nat × State :=
  let (d, s1) := draw s
  (scanFrom (fun i =>
    let n := (Sys2Proof.Config.slotPick d + i) % keySlots
    if n + modeSlots mode ≤ keySlots && (List.range (modeSlots mode)).all (fun j => slotFree s (n + j)) then some n
    else none) keySlots 0, s1)

/-- The cipher grant of a FID. -/
def cgrantOf (s : State) (fid : Nat) : CGrant := tgetD s.cip.grants fid {}

/-- The SAs a FID has installed. -/
def sasOf (s : State) (fid : Nat) : Nat := tcount s.cip.sas (fun _ a => a.owner = fid)

/-- The ACTIVE SAs of a FID. -/
def activeSas (s : State) (fid : Nat) : Nat := tcount s.cip.sas (fun _ a => a.owner = fid && a.st = .active)

/-- One more ACTIVE SA of a FID exceeds its grant; the device has none. -/
def activeOver (s : State) (fid : Nat) : Bool := fid ≠ 0xFFF && (cgrantOf s fid).activeMax ≤ activeSas s fid

/-- Make an SA ACTIVE: its grant, then a free slot (R241). -/
def activate (s : State) (sa : Nat) (a : Sa) : CmdOut :=
  if activeOver s a.owner then no s .refusedLimit
  else
    match findSlot s a.mode with
    | (none, _) => no s .refusedEmpty
    | (some n, s1) => ok (setSa s1 sa { a with st := .active, slot := n })

/-- The records that the unit has accepted on an SA and not finished. -/
def recordsOn (s : State) (sa : Nat) : Bool := s.cip.records.any (fun r => r.sa = sa)

/-- The vault holds a KEK and no alarm cause is present. -/
def vaultReady (s : State) : Bool := s.cip.kek.isSome

/-! ## Install, remove, rekey -/

/-- The bytes of key and nonce material of a mode (Table 8.3). -/
def materialLen (mode : Nat) : Nat := keyLen mode + nonceLen mode

/-- The replay window fits direction and mode (Table 8.1). -/
def windowOk (dir mode w : Nat) : Bool :=
  if dir = 1 && isEsp mode then 32 ≤ w && w ≤ 128 else if dir = 1 && isMacsec mode then w < 2 ^ 32 else w = 0

/-- The initial sequence number fits direction and mode (R257). -/
def seqOk (dir mode seq : Nat) (esn : Bool) : Bool :=
  seq < (if mode ≤ 5 && !esn then 2 ^ 32 else 2 ^ 64) && (dir = 1 || !isMacsec mode || 1 ≤ seq)

/-- The parameters of 0x0601 that a packet alone shows to be out of range. -/
def badSa (sa : Nat) (q : SaParams) : Option Nat :=
  firstBad [(0, sa < 2 ^ 22), (1, isFn q.owner || q.owner = 0xFFF), (2, q.dir ≤ 1), (3, 1 ≤ q.mode && q.mode ≤ 11),
    (4, !q.esn || isEsp q.mode), (6, windowOk q.dir q.mode q.replayWindow), (7, seqOk q.dir q.mode q.seq q.esn),
    (8, if q.mode = 11 then q.unitLog2 = 9 || q.unitLog2 = 12 else q.unitLog2 = 0),
    (9, q.key.length = materialLen q.mode)]

/-- The SA that an install makes: DORMANT, its key wrapped under the KEK, its first lease under way (R244, R258). -/
def newSa (s : State) (q : SaParams) : Sa :=
  { st := .dormant, dir := q.dir, mode := q.mode, esn := q.esn, mirrored := q.mirrored, leaseReady := false
    owner := q.owner, slot := 0, kekGen := s.cip.kekGen.toNat % 65536, seq := q.seq
    lease := if q.dir = 0 then (q.seq / 2 ^ 20 + 1) * 2 ^ 20 else 0
    replayWindow := q.replayWindow, unitLog2 := q.unitLog2, bitmap := 0
    blob := wrapKey ((kekBytes s).getD []) q.key }

/-- The Steward wraps key material on a lane that it claims for the device, chosen as R250 chooses one, and gives
the lane back at once (R244, R252, R253; log entry 115). -/
def wrapLane (s : State) : State :=
  match pickLane s 0xFFF with
  | none => s
  | some n =>
    let l := laneOf s n
    let prev := if l.owner = 0xFFE then l.lastOwner else l.owner
    let l1 := if prev = 0xFFF then l else l.wipe
    setLane s n (if l.owner = 0xFFE then { l1 with lastOwner := 0xFFF } else l1)

/-- A command that did its effect has wrapped key material. -/
def wrapDone (o : CmdOut) : CmdOut := if o.fin.status = .done then { o with s := wrapLane o.s } else o

/-- The SA as the device keeps it: a standby holds a mirrored outbound SA in the form it needs after a takeover, past the
lease that its PRIMARY starts in, and an inbound one past the jump of R260 (R386, R387; log entry 76). -/
def installedSa (s : State) (m : Meta) (q : SaParams) : Sa :=
  if m.path ≠ .twin || !q.mirrored then newSa s q
  else if q.dir = 0 then (newSa s q).leaseRecord (q.seq / 2 ^ 20)
  else if isEsp q.mode || isMacsec q.mode then (newSa s q).jump q.seq
  else newSa s q

/-- INSTALL_SA. While records of a removed SA of the index are still in progress, the command waits (R266). -/
def execInstallSa (m : Meta) (sa : Nat) (prm : SaParams) (s : State) : Res :=
  .next (if recordsOn s sa && (tget s.cip.sas sa).isNone then s
    else runCmd m 0x0601 [.fid prm.owner] true (badSa sa prm)
      (fun s =>
        if (tget s.cip.sas sa).isSome || !vaultReady s then no s .refusedState
        else if prm.owner ≠ 0xFFF && (cgrantOf s prm.owner).saMax ≤ sasOf s prm.owner then no s .refusedLimit
        else
          let a := { installedSa s m prm with uid := s.cip.nextId }
          let s1 := { s with cip := { s.cip with nextId := s.cip.nextId + 1 } }
          wrapDone (if prm.activate then activate s1 sa a else ok (setSa s1 sa a))) s)

/-- The end of a command that replies once the records accepted before it have ended (R266). -/
def afterRecords (s : State) (sa : Nat) : CmdOut := if recordsOn s sa then foreOpen s else ok s

/-- Commands that waited for the records of an SA reply once these have ended (R241, R266). -/
def endSaWaits (s : State) : State :=
  s.stw.fore.foldl (fun s b =>
    match b.objs with
    | [.sa n] => if recordsOn s n then s else endFore s b { status := .done }
    | _ => s) s

/-- An SA is removed: the records in flight on it keep its replay state between them (R259). -/
def dropSa (s : State) (sa : Nat) (a : Sa) : State :=
  { s with cip := { s.cip with
      sas := tdel s.cip.sas sa, records := s.cip.records.map (fun y => if y.sa = sa then y.withReplay a else y) } }

/-- REMOVE_SA. -/
def execRemoveSa (m : Meta) (sa : Nat) (s : State) : Res :=
  .next (runCmd m 0x0602 [.sa sa] true (firstBad [(0, sa < 2 ^ 22)])
    (fun s =>
      match saOf s sa with
      | none => no s .refusedState
      | some a => afterRecords (dropSa s sa a) sa) s)

/-- ACTIVATE_SA. -/
def execActivateSa (m : Meta) (sa : Nat) (s : State) : Res :=
  .next (runCmd m 0x0603 [] false (firstBad [(0, sa < 2 ^ 22)])
    (fun s =>
      match saOf s sa with
      | none => no s .refusedState
      | some a => if a.st ≠ .dormant || saErased s a then no s .refusedState else activate s sa a) s)

/-- DEACTIVATE_SA. -/
def execDeactivateSa (m : Meta) (sa : Nat) (s : State) : Res :=
  .next (runCmd m 0x0604 [.sa sa] true (firstBad [(0, sa < 2 ^ 22)])
    (fun s =>
      match saOf s sa with
      | none => no s .refusedState
      | some a =>
        if a.st ≠ .active then no s .refusedState
        else afterRecords (setSa s sa { a with st := .dormant, slot := 0 }) sa) s)

/-- REKEY_SA: new key material under the current KEK; sequence, lease and replay state are kept (R264). -/
def execRekeySa (m : Meta) (sa : Nat) (key : List Nat) (act : Bool) (s : State) : Res :=
  .next (runCmd m 0x0605 [] true (firstBad [(0, sa < 2 ^ 22)])
    (fun s =>
      match saOf s sa with
      | none => no s .refusedState
      | some a =>
        if !vaultReady s then no s .refusedState
        else if key.length ≠ materialLen a.mode then noItem s .badParam 1
        else
          let b := { a with
            kekGen := s.cip.kekGen.toNat % 65536, blob := wrapKey ((kekBytes s).getD []) key, blobMark := false }
          wrapDone (if !act then ok (setSa s sa { b with st := .dormant, slot := 0 })
            else if a.st = .active then ok (setSa s sa b)
            else activate s sa { b with st := .dormant, slot := 0 })) s)

/-! ## Read, grant, erase -/

/-- The code of an SA's state (Table 8.1); one of another KEK's generation is ERASED (R264). -/
def saCode (s : State) (a : Sa) : Nat :=
  if saErased s a then 2
  else
    match a.st with
    | .dormant => 0
    | .active => 1
    | .erased => 2

/-- Bytes 0 to 7 of an SA record. -/
def saCtl (s : State) (a : Sa) : Nat :=
  1 + saCode s a * 2 + a.dir * 8 + a.mode * 16 + b2n a.esn * 2 ^ 8 + b2n a.mirrored * 2 ^ 9 +
    b2n a.leaseReady * 2 ^ 10 + a.owner * 2 ^ 16 + a.slot * 2 ^ 32 + a.kekGen * 2 ^ 48

/-- READ_SA: bytes 0 to 55, never the blob. -/
def execReadSa (m : Meta) (sa : Nat) (s : State) : Res :=
  .next (runCmd m 0x0606 [] false (firstBad [(0, sa < 2 ^ 22)])
    (fun s =>
      match saOf s sa with
      | none => no s .refusedState
      | some a => okWith s [.num 8 (saCtl s a), .num 8 a.seq, .num 8 a.lease, .num 4 a.replayWindow, .num 4 a.unitLog2,
          .num 8 (a.bitmap % 2 ^ 64), .num 8 (a.bitmap / 2 ^ 64), .num 8 0]) s)

/-- The lanes dedicated to a FID. -/
def lanesOf (s : State) (fid : Nat) : List Nat := (List.range 32).filter (fun n => (laneOf s n).dedicated = fid)

/-- The dedicated lanes of all functions but one. -/
def lanesBeside (s : State) (fid : Nat) : Nat :=
  ((List.range 32).filter (fun n => (laneOf s n).dedicated ≠ 0xFFE && (laneOf s n).dedicated ≠ fid)).length

/-- Give a function `n` dedicated lanes: more are taken downward from lane 31, fewer are given back lowest first
(R249); one given back finishes its accepted records before it is a common lane (R266). -/
def assignLanes (s : State) (fid n : Nat) : State :=
  let mine := lanesOf s fid
  let dedicate := fun (d : Nat) (s : State) (l : Nat) => setLane s l { laneOf s l with
    dedicated := d, leaving := d = 0xFFE && s.cip.records.any (fun r => r.lane = l) }
  if mine.length < n then
    (((List.range 24).map (fun i => 31 - i)).filter (fun l => (laneOf s l).dedicated = 0xFFE)).take (n - mine.length)
      |>.foldl (dedicate fid) s
  else (mine.take (mine.length - n)).foldl (dedicate 0xFFE) s

/-- Write a cipher grant and bring the dedicated lanes to it. -/
def putCGrant (s : State) (fid : Nat) (g : CGrant) : State :=
  assignLanes { s with cip := { s.cip with grants := tput {} s.cip.grants fid g } } fid g.lanes

/-- SET_CIPHER_GRANT. -/
def execSetCipherGrant (m : Meta) (fid lanes saMax activeMax : Nat) (s : State) : Res :=
  .next (runCmd m 0x0607 [.fid fid] false
    (firstBad [(0, isFn fid), (1, lanes ≤ 24), (2, saMax ≤ 2 ^ 22), (3, activeMax ≤ keySlots)])
    (fun s =>
      if 24 < lanesBeside s fid + lanes || saMax < sasOf s fid || activeMax < activeSas s fid then no s .refusedLimit
      else ok (putCGrant s fid ⟨lanes, saMax, activeMax⟩)) s)

/-- ERASE_VAULT acts as an alarm with cause 0. -/
def execEraseVault (m : Meta) (s : State) : Res :=
  .next (runCmd m 0x0608 [] false none (fun s => ok (eraseVault s 0 0)) s)

end Sys2Proof.Machine
end

