-- ==== Sys2Proof/Machine/Crier.lean ====
section
/-! DEFINITION. The Crier's messages (R435 to R439, Table 15.3): IPFIX packing, templates, and the chunk queues of the two
destinations. How records are spread over messages is the model's choice (log entry 93). -/

namespace Sys2Proof.Machine

/-! ## IPFIX (R438, RFC 7011) -/

/-- One record of a set: the set's id and the record's bytes. -/
abbrev IpfixRec := Nat × List Nat

/-- The enterprise number of every field (Table 15.3). -/
def enterprise : Nat := 60214

/-- A field of a template: element id and length, 65,535 for a variable length. -/
def fieldSpec (f : Nat × Nat) : List Nat := beBytes 2 (0x8000 + f.1) ++ beBytes 2 f.2 ++ beBytes 4 enterprise

/-- A template record of the template set. -/
def templateRec (id : Nat) (fs : List (Nat × Nat)) : IpfixRec :=
  (2, beBytes 2 id ++ beBytes 2 fs.length ++ fs.flatMap fieldSpec)

/-- Template 256, a counter record. -/
def template256 : IpfixRec := templateRec 256 [(1, 2), (2, 1), (3, 8), (4, 8)]
/-- Template 257, a trace record. -/
def template257 : IpfixRec := templateRec 257 [(5, 65535)]
/-- Template 258, a counter name. -/
def template258 : IpfixRec := templateRec 258 [(2, 1), (6, 65535)]

/-- A variable-length field. -/
def varBytes (bs : List Nat) : List Nat :=
  if bs.length < 255 then bs.length :: bs else 255 :: (beBytes 2 bs.length ++ bs)

/-- A counter record (Table 15.3). -/
def counterRec (fid i v ns : Nat) : IpfixRec := (256, beBytes 2 fid ++ [i] ++ beBytes 8 v ++ beBytes 8 ns)

/-- The sets of a message: consecutive records of one id share a set. -/
def setBytes : List IpfixRec → List (Nat × List Nat)
  | [] => []
  | (id, b) :: t =>
    match setBytes t with
    | (id2, c) :: r => if id = id2 then (id, b ++ c) :: r else (id, b) :: (id2, c) :: r
    | [] => [(id, b)]

/-- The bytes of a message's sets. -/
def bodyBytes (rs : List IpfixRec) : List Nat :=
  (setBytes rs).flatMap (fun e => beBytes 2 e.1 ++ beBytes 2 (e.2.length + 4) ++ e.2)

/-- The three templates. -/
def templates : List IpfixRec := [template256, template257, template258]

/-- Records fit one message of 1,472 bytes, with the templates in front of them where they are due. -/
def fitsMessage (rs : List IpfixRec) : Bool := 16 + (bodyBytes templates).length + (bodyBytes rs).length ≤ 1472

/-- Spread records over messages: `cur` are the records of the message being filled. A record that no message can hold is left
out (DESIGN CHOICE, log entry 93). -/
def splitRecs (cur : List IpfixRec) : List IpfixRec → List (List IpfixRec)
  | [] => if cur.isEmpty then [] else [cur]
  | r :: t =>
    if !fitsMessage [r] then splitRecs cur t
    else if fitsMessage (cur ++ [r]) then splitRecs (cur ++ [r]) t
    else cur :: splitRecs [r] t

/-- The data records of a message. -/
def dataCount (rs : List IpfixRec) : Nat := (rs.filter (fun r => 256 ≤ r.1)).length

/-- A message: version, length, export time, sequence number, observation domain, sets (RFC 7011). -/
def message (s : State) (rs : List IpfixRec) : List Nat :=
  let b := bodyBytes rs
  beBytes 2 10 ++ beBytes 2 (16 + b.length) ++ beBytes 4 (s.alm.calSec % 2 ^ 32) ++ beBytes 4 s.cnt.seqNo.toNat ++
    beBytes 4 (s.alm.unit % 2 ^ 32) ++ b

/-! ## Chunks (R439) -/

/-- The bytes of a chunk. -/
def chunkLen : Nat := 65536

/-- A chunk that is full closes at once. -/
def closeFull (closed : List (List Nat)) (open_ : List Nat) : List (List Nat) × List Nat :=
  if open_.length = chunkLen then (closed ++ [open_], []) else (closed, open_)

/-- Put a message into a queue of `cap` chunks: the open chunk takes it if it fits, else it closes and the next one opens;
none when no chunk is free. -/
def putChunk (cap : Nat) (closed : List (List Nat)) (open_ : List Nat) (msg : List Nat) :
    Option (List (List Nat) × List Nat) :=
  if open_.length + msg.length ≤ chunkLen then (if closed.length < cap then some (closeFull closed (open_ ++ msg)) else none)
  else if closed.length + 1 < cap then some (closeFull (closed ++ [open_]) msg)
  else none

/-- Where the chunk lies in the device staging that is `n` chunks behind the head of the destination's queue. -/
def chunkAt (s : State) (n : Nat) : Nat :=
  if s.cnt.dest = 2 then Sys2Proof.Config.observerBase + chunkLen * ((s.cnt.obsRead + n) % 1024)
  else Sys2Proof.Config.serviceBase + chunkLen * ((s.cnt.svcRead + n) % 768)

/-- The destination's queue: its chunks, and the open one. -/
def crierQueue (s : State) : List (List Nat) × List Nat :=
  if s.cnt.dest = 2 then (s.cnt.obsQueue, s.cnt.obsOpen) else (s.cnt.svcQueue, s.cnt.svcOpen)

/-- Replace the destination's queue. -/
def setQueue (s : State) (q : List (List Nat) × List Nat) : State :=
  if s.cnt.dest = 2 then { s with cnt := { s.cnt with obsQueue := q.1, obsOpen := q.2 } }
  else { s with cnt := { s.cnt with svcQueue := q.1, svcOpen := q.2 } }

/-- Write a message into the destination's queue; one that finds no room is discarded and counted, and templates are due
again (R438). The rest of a chunk that closes is zero (R439). -/
def putMessage (s : State) (msg : List Nat) : State :=
  let q := crierQueue s
  let n := q.2.length
  match putChunk (if s.cnt.dest = 2 then 1024 else 768) q.1 q.2 msg with
  | some x =>
    let s1 := setQueue s x
    if n + msg.length ≤ chunkLen then coverStaging s1 (chunkAt s q.1.length + n) msg.length
    else coverStaging (coverStaging s1 (chunkAt s q.1.length + n) (chunkLen - n)) (chunkAt s (q.1.length + 1)) msg.length
  | none => countDev { s with cnt := { s.cnt with tmplDue := true } } cCrierLost

/-- Write one message of records, behind the templates where they are due; the sequence number counts its data records, lost
ones too. -/
def putRecs (s : State) (rs : List IpfixRec) : State :=
  let x := if s.cnt.tmplDue then templates ++ rs else rs
  let s1 := putMessage { s with cnt := { s.cnt with tmplDue := false } } (message s x)
  { s1 with cnt := { s1.cnt with seqNo := s1.cnt.seqNo + BitVec.ofNat 32 (dataCount rs) } }

/-- Write records as messages. -/
def putRecords (s : State) (rs : List IpfixRec) : State := (splitRecs [] rs).foldl putRecs s

/-- The open chunk closes when an export ends; its rest is zero. -/
def closeChunk (s : State) : State :=
  let q := crierQueue s
  if q.2.isEmpty then s
  else coverStaging (setQueue s (q.1 ++ [q.2], [])) (chunkAt s q.1.length + q.2.length) (chunkLen - q.2.length)

/-! ## What is exported -/

/-- The program counter names of the CURRENT bank (R429). -/
def nameRecs (s : State) : List IpfixRec :=
  match currentBank s with
  | some b => (((bankOf s b).decl.map (·.names)).getD []).map (fun e => (258, e.1 % 256 :: varBytes e.2))
  | none => []

/-- The templates, with the names, where they are due. -/
def templateRecs (s : State) : List IpfixRec :=
  if s.cnt.tmplDue || s.cnt.exports.toNat % 16 = 0 then templates ++ nameRecs s else []

/-- At each flip template 258 and the names of the new CURRENT bank are sent, with the other templates where they are due
(R438). -/
def crierFlip (s : State) : State :=
  if s.cnt.exporting then
    putRecords { s with cnt := { s.cnt with tmplDue := false } }
      ((if s.cnt.tmplDue then templates else [template258]) ++ nameRecs s)
  else s

/-- The counters of a set that are exported: with changed only, those that differ from the previous export (R436). -/
def setRecs (s : State) (fid n : Nat) : List IpfixRec :=
  ((List.range n).filter (fun i =>
    s.cnt.firstExport || !bitOf 2 s.cnt.templates ||
      tget s.cnt.lastValues (cntKey fid i) ≠ some (BitVec.ofNat 64 (readCnt s fid i)))).map
    (fun i => counterRec fid i (readCnt s fid i) (timeNow s))

/-- Remember the values of a set as exported. -/
def keepValues (s : State) (fid n : Nat) : State :=
  { s with cnt := { s.cnt with
      lastValues := (List.range n).foldl (fun t i => tset t (cntKey fid i) (BitVec.ofNat 64 (readCnt s fid i)))
        s.cnt.lastValues } }

/-- The sets that the template set names: the device set, and every function set not ABSENT, in rising order. -/
def exportSets (s : State) : List (Nat × Nat) :=
  (if bitOf 0 s.cnt.templates then [(0xFFF, 256)] else []) ++
    (if bitOf 1 s.cnt.templates then (s.fns.filter (fun e => e.2.st ≠ .absent)).map (fun e => (e.1, 248)) else [])

/-- The trace records leave their areas through the Crier (R434). -/
def takeTraces (s : State) : List IpfixRec × State :=
  if !bitOf 3 s.cnt.templates then ([], s)
  else
    ([0, 1, 2, 3].flatMap (fun p => (pipeOf s p).area.map (fun r => (257, varBytes r))),
      modPipes s (fun _ x => { x with area := [] }))

/-- The boundary that TIME has reached. -/
def boundaryNow (s : State) : Nat := timeNow s / (s.cnt.interval * 1000000)

/-- TIME has reached boundary k, which lies beyond the last one exported: in the nanosecond since `old`, or by a step right to it
(R436, R437). -/
def boundaryReached (old s : State) : Bool :=
  let k := boundaryNow s
  let beyond := match s.cnt.lastExport with
    | some l => decide (l < k)
    | none => true
  s.cnt.exporting && s.mac.timeRunning && beyond &&
    (boundaryNow old < k || timeNow old = k * (s.cnt.interval * 1000000))

/-- At a boundary the Crier takes the counters of its sets, with the instant of the boundary (R436). -/
def noteExport (old s : State) : State :=
  if !boundaryReached old s then s
  else
    let sets := exportSets s
    let recs := sets.flatMap (fun e => setRecs s e.1 e.2)
    let s1 := sets.foldl (fun s e => keepValues s e.1 e.2) s
    { s1 with cnt := { s1.cnt with
      firstExport := false, lastExport := some (boundaryNow s), dueExports := s1.cnt.dueExports ++ [recs] } }

/-- The messages of an export, whose counters were taken at its boundary. -/
def runExport (s : State) (counters : List IpfixRec) : State :=
  let due := templateRecs s
  let (traces, s1) := takeTraces s
  let s2 : State := { s1 with cnt := { s1.cnt with tmplDue := false, exports := s1.cnt.exports + 1 } }
  closeChunk (putRecords s2 (due ++ counters ++ traces))

/-! ## The service port's queue (R438, R439) -/

/-- The length of the message at the head of a chunk. -/
def headLen (c : List Nat) : Nat := beNat ((c.drop 2).take 2)

/-- The service port sends the next message of its queue, one datagram at a time at 2 Gb/s at most. -/
def drainSvc (s : State) : State :=
  match s.cnt.svcQueue with
  | [] => s
  | c :: t =>
    if s.now < s.cnt.svcFreeAt || (tgetD s.mac.lanes 10 {}).fault ≠ 0 then s
    else
      let rest := c.drop s.cnt.svcOff
      let n := max 1 (headLen rest)
      let ended := c.length ≤ s.cnt.svcOff + n
      emit { s with cnt := { s.cnt with
        svcQueue := if ended then t else c :: t, svcRead := if ended then (s.cnt.svcRead + 1) % 768 else s.cnt.svcRead
        svcOff := if ended then 0 else s.cnt.svcOff + n, svcFreeAt := s.now + 4 * n } }
        (.crier 1 s.cnt.collector s.cnt.collectorPort (rest.take n))

end Sys2Proof.Machine
end

