-- ==== Sys2Proof/Machine/StepsCore.lean ====
section
/-! DEFINITION. The steps of CTL (R79), ALU (R80, R229), HASH (R82), CNT (R429) and POLICE (R237). -/

namespace Sys2Proof.Machine

/-! ## CTL (R45, R71, R79) -/

/-- CTL JUMP continues with DONE (Table 2.20). -/
def execCtlJump (p c : Nat) (s : State) : Res :=
  .next (withStep 0 0 p c s (fun x => done s x .done))

/-- CTL END retires the packet and frees the cells it still holds (Table 2.20). -/
def execCtlEnd (p c : Nat) (s : State) : Res :=
  .next (withStep 0 1 p c s (fun x => endPacket s p c (x.k.traceStep x.idx .done) 0 0 .done))

/-- A reason counter that DROP names: one that its set reserves is never incremented (R428), and a FID without a counter set counts
nothing (DESIGN CHOICE, log entry 129). -/
def dropCount (s : State) (fid i : Nat) : State :=
  if !hasSet fid then s
  else if 0x65 ≤ i && i ≤ 0x67 then s
  else if fid = 0xFFF then (if 0x8C ≤ i && i ≤ 0x8F then s else count s fid i)
  else if 0xF8 ≤ i then s else count s fid i

/-- CTL DROP counts its reason, frees the packet's cells and retires it (R45, R72, R107). -/
def execCtlDrop (p c : Nat) (s : State) : Res :=
  .next (withStep 0 2 p c s (fun x =>
    let fid := match x.hook with
      | some h => h.fid
      | none => x.k.fid
    let i := bits 7 0 x.imm
    endPacket (dropCount s fid i) p c (x.k.traceStep x.idx .done) 1 i (dropOutcome x.k)))

/-- The region assigned to a FID in a bank. -/
def regionFor (b : Bank) (fid : Nat) : Option Nat := (b.hooks.find? (fun e => e.2.fid = fid)).map (·.1)

/-- CTL HOOK enters the region of the packet's FID, or returns MISS (R71). -/
def execCtlHook (p c : Nat) (s : State) : Res :=
  .next (withStep 0 3 p c s (fun x =>
    poisonGate s x (x.k.word 26).p
      (match regionFor (bankOf s x.k.bank) x.k.fid with
      | some r => issued (setCtx s p c { x.k with pc := 49152 + 256 * r, hookRet := some x.idx }) p c
      | none => done s x .miss)))

/-- CTL RETURN continues from the HOOK step with the code in imm[3:0] (R71). -/
def execCtlReturn (p c : Nat) (s : State) : Res :=
  .next (withStep 0 4 p c s (fun x =>
    match x.k.hookRet with
    | some h =>
      let y := { x with idx := h, w := (bankOf s x.k.bank).step h }
      advance s y { x.k.traceStep x.idx .done with hookRet := none } (Cc.ofNum (bits 3 0 x.imm))
    | none => s))

/-- CTL MARK writes its mark into the trace of a traced packet (R45, R434). -/
def execCtlMark (p c : Nat) (s : State) : Res :=
  .next (withStep 0 5 p c s (fun x =>
    advance s x { x.k with trace := x.k.trace.map (fun t => t.add (bits 15 0 x.imm + 2 ^ 31)) } .done))

/-! ## ALU (R80, Table 2.21) -/

/-- An ALU operation on A and B that writes dst and returns DONE. -/
def aluBin (op p c : Nat) (s : State) (f : W64 → W64 → W64) : State :=
  withStep 1 op p c s (fun x =>
    let m := x.a.p || x.bOrImm.p
    poisonGate s x m (doneW s x .done (f x.a.v x.bOrImm.v).toNat m))

/-- ALU MOVE: dst takes A, or the immediate when src_a is 0xFF. -/
def execAluMove (p c : Nat) (s : State) : Res :=
  .next (withStep 1 0 p c s (fun x =>
    poisonGate s x x.a.p
      (doneW s x .done (if x.w.srcA = 0xFF then x.imm else x.av) x.a.p)))

/-- ALU ADD, modulo 2^64. -/
def execAluAdd (p c : Nat) (s : State) : Res := .next (aluBin 1 p c s (fun a b => a + b))
/-- ALU SUB, modulo 2^64. -/
def execAluSub (p c : Nat) (s : State) : Res := .next (aluBin 2 p c s (fun a b => a - b))
/-- ALU AND. -/
def execAluAnd (p c : Nat) (s : State) : Res := .next (aluBin 3 p c s (fun a b => a &&& b))
/-- ALU OR. -/
def execAluOr (p c : Nat) (s : State) : Res := .next (aluBin 4 p c s (fun a b => a ||| b))
/-- ALU XOR. -/
def execAluXor (p c : Nat) (s : State) : Res := .next (aluBin 5 p c s (fun a b => a ^^^ b))

/-- ALU SHIFT: imm[5:0] places, left, or right logical when imm[6] is 1. -/
def execAluShift (p c : Nat) (s : State) : Res :=
  .next (withStep 1 6 p c s (fun x =>
    let n := bits 5 0 x.imm
    let r := if bitOf 6 x.imm then x.a.v >>> n else x.a.v <<< n
    poisonGate s x x.a.p (doneW s x .done r.toNat x.a.p)))

/-- A comparison of A with B: DONE when it holds, MISS otherwise. -/
def aluCmp (op p c : Nat) (s : State) (f : W64 → W64 → Bool) : State :=
  withStep 1 op p c s (fun x =>
    poisonGate s x (x.a.p || x.bOrImm.p)
      (done s x (if f x.a.v x.bOrImm.v then .done else .miss)))

/-- ALU CMP_EQ. -/
def execAluCmpEq (p c : Nat) (s : State) : Res := .next (aluCmp 7 p c s (fun a b => a == b))
/-- ALU CMP_LT, unsigned. -/
def execAluCmpLt (p c : Nat) (s : State) : Res := .next (aluCmp 8 p c s (fun a b => a.ult b))

/-- The header bytes that LOAD_HDR and STORE_HDR address: offset imm[8:0], imm[11:9] + 1 bytes. -/
def hdrRange (x : StepIn) : Nat × Nat := (bits 8 0 x.imm, bits 11 9 x.imm + 1)

/-- The addressed bytes lie in the packet and the header window. -/
def hdrOk (x : StepIn) : Bool :=
  let (o, n) := hdrRange x
  o + n ≤ x.k.len && o + n ≤ 512

/-- ALU LOAD_HDR: dst takes the bytes, big-endian, or little-endian when imm[12] is 1. -/
def execLoadHdr (p c : Nat) (s : State) : Res :=
  .next (withStep 1 0x10 p c s (fun x =>
    if !hdrOk x then done s x .malformed
    else
      let (o, n) := hdrRange x
      let bs := slice (window s x.k) o n
      let v := if bitOf 12 x.imm then leNat (rawBytes bs) else beNat (rawBytes bs)
      poisonGate s x (anyPoison bs) (doneW s x .done v (anyPoison bs))))

/-- ALU STORE_HDR: the low bytes of A at the offset; they take the mark of A (R67, log entry 114). A marked word or
marked addressed bytes end the step where poison_ok is 0 (R80). -/
def execStoreHdr (p c : Nat) (s : State) : Res :=
  .next (withStep 1 0x11 p c s (fun x =>
    poisonGate s x x.a.p
      (if !hdrOk x then done s x .malformed
      else
        let (o, n) := hdrRange x
        let raw := if bitOf 12 x.imm then leBytes n x.av else beBytes n x.av
        let bs := raw.map (fun b => (⟨BitVec.ofNat 8 b, x.a.p⟩ : PByte))
        poisonGate s x (anyPoison (slice (window s x.k) o n)) (done (writeChain s x.k.handle o bs) x .done))))

/-- ALU STRIP removes imm[8:0] bytes from the start and clears the fix-up marks (R229). -/
def execStrip (p c : Nat) (s : State) : Res :=
  .next (withStep 1 0x12 p c s (fun x =>
    let n := bits 8 0 x.imm
    if n = 0 || 384 < n || x.k.len < n + 14 then done s x .malformed
    else
      let s1 := setChain s x.k.handle ((chainBytes s x.k.handle).drop n)
      advance s1 x { x.k.setLen (x.k.len - n) with fix := none } .done))

/-- ALU PREPEND inserts imm[8:0] zero bytes and sets the fix-up marks (R229). -/
def execPrepend (p c : Nat) (s : State) : Res :=
  .next (withStep 1 0x13 p c s (fun x =>
    let n := bits 8 0 x.imm
    if n = 0 || 384 < n || 65535 < x.k.len + n then done s x .malformed
    else
      let s1 := setChain s x.k.handle (List.replicate n PByte.zero ++ pktBytes s x.k)
      advance s1 x { x.k.setLen (x.k.len + n) with
        fix := some ⟨bits 17 9 x.imm, bits 26 18 x.imm⟩ } .done))

/-- ALU READ_TIME: the nanoseconds of TIME, or its 16-bit fraction when imm[0] is 1. -/
def execReadTime (p c : Nat) (s : State) : Res :=
  .next (withStep 1 0x14 p c s (fun x =>
    doneW s x .done (if bitOf 0 x.imm then timeFrac s else timeNow s) false))

/-! ## HASH (R82) -/

/-- The 32 key bytes in four words from a selector. -/
def keyWords (k : Pkt) (sel : Nat) : List Nat :=
  [0, 1, 2, 3].flatMap (fun i => leBytes 8 (k.val (sel + i)))

/-- The bits of bytes, most significant first. -/
def msbBits (bs : List Nat) : List Bool := bs.flatMap (fun b => [7, 6, 5, 4, 3, 2, 1, 0].map (fun i => bitOf i b))

/-- The 32 hash-key bits from bit `i`, as a number whose most significant bit is bit `i`. -/
def keyWindow (kb : List Bool) (i : Nat) : Nat :=
  (slice kb i 32).foldl (fun a b => 2 * a + b2n b) 0

/-- The Toeplitz hash of key bytes under a hash key (R82). -/
def toeplitz (hashKey bs : List Nat) : Nat :=
  let kb := msbBits hashKey
  ((msbBits bs).foldl (fun (a : Nat × Nat) b =>
    (a.1 + 1, if b then a.2 ^^^ keyWindow kb a.1 else a.2)) (0, 0)).2

/-- A HASH step: its value over imm[5:0] key bytes. -/
def hashStep (op p c : Nat) (s : State) (more : Nat) (f : StepIn → List Nat → Nat) : State :=
  withStep 3 op p c s (fun x =>
    let m := wordsPoisoned x.k x.w.srcA ((bits 5 0 x.imm + 7) / 8) || (0 < more && wordsPoisoned x.k x.w.srcB more)
    let bs := (keyWords x.k x.w.srcA).take (bits 5 0 x.imm)
    poisonGate s x m (doneW s x .done (f x bs) m))

/-- HASH CRC32C: the hash of R155 from the initial value in imm[37:6]. -/
def execHashCrc32c (p c : Nat) (s : State) : Res :=
  .next (hashStep 0 p c s 0 (fun x bs => crc32c (bits 37 6 x.imm) bs))

/-- HASH CRC32: the complemented IEEE CRC-32 from the initial value in imm[37:6]. -/
def execHashCrc32 (p c : Nat) (s : State) : Res :=
  .next (hashStep 1 p c s 0 (fun x bs => crc32 (bits 37 6 x.imm) bs))

/-- HASH TOEPLITZ under the 40-byte hash key in five words from src_b. -/
def execHashToeplitz (p c : Nat) (s : State) : Res :=
  .next (hashStep 2 p c s 5 (fun x bs =>
    toeplitz ([0, 1, 2, 3, 4].flatMap (fun i => leBytes 8 (x.k.val (x.w.srcB + i)))) bs))

/-! ## CNT (R429) -/

/-- A counter that a CNT step may not count: `cnt_bad_index` counts in its place (R429). -/
def cntBad (fid i : Nat) : Bool :=
  !hasSet fid || (0x65 ≤ i && i ≤ 0x67) || (if fid = 0xFFF then 0x68 ≤ i else 0xF8 ≤ i)

/-- The FID of a CNT step: the hook's in a hook region, else src_a[11:0]. -/
def cntFid (x : StepIn) : Nat :=
  match x.hook with
  | some h => h.fid
  | none => bits 11 0 x.av

/-- Count `n` for a CNT step. -/
def cntAdd (s : State) (fid i n : Nat) : State :=
  if cntBad fid i then countDev s cCntBadIndex else countN s fid i n

/-- CNT INC adds 1 to a reason counter. -/
def execCntInc (p c : Nat) (s : State) : Res :=
  .next (withStep 14 0 p c s (fun x =>
    poisonGate s x x.a.p (done (cntAdd s (cntFid x) (bits 7 0 x.imm) 1) x .done)))

/-- CNT ADD adds src_b to a reason counter. -/
def execCntAdd (p c : Nat) (s : State) : Res :=
  .next (withStep 14 1 p c s (fun x =>
    poisonGate s x (x.a.p || x.b.p) (done (cntAdd s (cntFid x) (bits 7 0 x.imm) x.bv) x .done)))

/-! ## POLICE (R237) -/

/-- The tokens and window of a policer refreshed for an instant (R237). -/
def Policer.refresh (z : Policer) (t : Nat) : Policer :=
  let k := t / 2 ^ z.ilog
  if z.lastK < k then
    { z with tokens := min z.burst (z.tokens + z.rate * (k - z.lastK)), lastK := k }
  else z

/-- Write a policer. -/
def setPolicer (s : State) (n : Nat) (z : Policer) : State :=
  { s with sw := { s.sw with policers := tset s.sw.policers n z } }

/-- POLICE METER refreshes the policer by window, then takes or refuses the length (R237). -/
def execPoliceMeter (p c : Nat) (s : State) : Res :=
  .next (withStep 7 0 p c s (fun x =>
    let n := bits 13 0 x.av
    let fid := bits 43 32 x.av
    let len := bits 16 0 x.bv
    unitGate s x fid (x.a.p || x.b.p)
      (match tget s.sw.policers n with
      | none => done s x .refusedPermission
      | some z =>
        if z.fid ≠ fid || hookMismatch x fid then done s x .refusedPermission
        else
          let z1 := z.refresh (timeNow s)
          if len ≤ z1.tokens then done (setPolicer s n { z1 with tokens := z1.tokens - len }) x .done
          else done (setPolicer s n z1) x .refusedLimit)))

end Sys2Proof.Machine
end

