-- ==== Sys2Proof/Machine/Haul.lean ====
section
/-! DEFINITION. The haul engine (chapter 9): starts, stops and acknowledgements (R273, R274, R283, R286), runs
(R275 to R279), descriptors (R270, R271, R280 to R282) and the table operations (R177 to R180). -/

namespace Sys2Proof.Machine

/-! ## Descriptors (Tables 9.1 to 9.3) -/

/-- The fields of a descriptor. -/
structure HDesc where
  op : Nat
  end_ : Bool
  half : Bool
  full : Bool
  src : Nat × Nat
  dst : Nat × Nat
  len : Nat
  next : Nat
  wellFormed : Bool
  deriving DecidableEq, Repr

/-- The operations of Table 9.2. -/
def haulOps : List Nat := [0x00, 0x01, 0x02, 0x10, 0x11, 0x12, 0x13]

/-- The spaces of an operation agree with Table 9.2. -/
def spacesOk (op ss ds : Nat) : Bool :=
  match op with
  | 0x00 => ss = 0 && ds = 0
  | 0x01 => [1, 2, 4, 5].contains ss && [1, 2, 4, 5].contains ds
  | 0x02 => ss = 0 && [1, 2, 4].contains ds
  | 0x10 => ss = 3 && [1, 2].contains ds
  | 0x11 => ss = 3 && [1, 2].contains ds
  | 0x12 => [1, 2].contains ss && ds = 3
  | 0x13 => ss = 0 && ds = 3
  | _ => false

/-- The length agrees with Table 9.2. -/
def lengthOk (op len : Nat) : Bool :=
  match op with
  | 0x00 => len = 0
  | 0x13 => len = 0
  | 0x01 => 1 ≤ len && len ≤ 16777216
  | 0x02 => 1 ≤ len && len ≤ 16777216
  | _ => len = 256

/-- Reserved bits of an address are zero (Table 9.3). -/
def addrOk (sp a : Nat) : Bool :=
  match sp with
  | 0 => a = 0
  | 2 => bits 63 56 a = 0
  | 3 => bits 63 29 a = 0
  | _ => true

/-- A descriptor's bytes; `wellFormed` is row 3 of Table 9.4. In a step list next is ignored, and the last
descriptor must have end set (R270). -/
def HDesc.ofBytes (bs : List Nat) (stepList last : Bool) : HDesc :=
  let at_ := fun i => bs.getD i 0
  let word := fun i => leNat (slice bs i 8)
  let ss := at_ 2 % 16
  let ds := at_ 2 / 16
  let op := at_ 0
  let e := bitOf 0 (at_ 1)
  let len := leNat (slice bs 4 4)
  let ok := at_ 3 = xorBytes (bs.take 3 ++ slice bs 4 28) && haulOps.contains op && at_ 1 / 8 = 0 &&
    spacesOk op ss ds && lengthOk op len && addrOk ss (word 8) && addrOk ds (word 16)
  let chainOk := if stepList then (e || !last) && ss ≤ 2 && ds ≤ 2 && op ≤ 2
    else e || word 24 % 32 = 0
  { op := op, end_ := e, half := bitOf 1 (at_ 1), full := bitOf 2 (at_ 1), src := (ss, word 8)
    dst := (ds, word 16), len := len, next := word 24, wellFormed := ok && chainOk }

/-! ## Starts, stops and acknowledgements -/

/-- The channels a FID owns, in ascending channel number. -/
def ownedChans (s : State) (fid : Nat) : List Nat :=
  (List.range 15).filter (fun n => (chanOf s n).owner = fid && (chanOf s n).st ≠ .ungranted)

/-- The channel a function reaches with a register index: PF0 by channel number, the others by their j-th
channel (R273, R290). -/
def regChan (s : State) (fid j : Nat) : Option Nat :=
  if fid = 0 then (if (ownedChans s 0).contains j then some j else none) else (ownedChans s fid)[j]?

/-- New haul starts of the FID are refused while it is quiescing or quiesced (R325). -/
def startsRefused (s : State) (fid : Nat) : Bool :=
  (fnOf s fid).st = .quiescing || (fnOf s fid).st = .quiesced

/-- A host-mode start (R273): a start that the channel cannot take is discarded and counted. -/
def execHaulStartWrite (fid j head : Nat) (s : State) : Res :=
  .next (memWrite s fid (match regChan s fid j with
    | none => count s fid cRegWriteDenied
    | some n =>
      let c := chanOf s n
      if c.st ≠ .idle || c.mode ≠ 0 || head % 32 ≠ 0 || startsRefused s fid ||
          domainClosed s 23 then count s fid cHaulStartRefused
      else makeReady s n { c with head := head } true))

/-- An acknowledgement count lies at or before the posted count (R283). -/
def ackOk (posted acked new : Nat) : Bool :=
  (new + 65536 - acked) % 65536 ≤ (posted + 65536 - acked) % 65536

/-- A waiting channel whose awaited counts match goes on at the waiting descriptor (R283). -/
def ackRelease (s : State) (n : Nat) : State :=
  let c := chanOf s n
  if c.st = .waitAck && (!c.waitHalf || c.halfPosted = c.halfAcked) &&
      (!c.waitFull || c.fullPosted = c.fullAcked) then
    makeReady s n { c with waitHalf := false, waitFull := false } false
  else s

/-- An acknowledgement (R283); counts ahead of the posted ones are discarded and counted. -/
def execHaulAckWrite (fid j half full : Nat) (s : State) : Res :=
  .next (memWrite s fid (match regChan s fid j with
    | none => count s fid cRegWriteDenied
    | some n =>
      let c := chanOf s n
      if ackOk c.halfPosted c.halfAcked (half % 65536) && ackOk c.fullPosted c.fullAcked (full % 65536) then
        ackRelease (setChan s n { c with halfAcked := half % 65536, fullAcked := full % 65536 }) n
      else count s fid cHaulStartRefused))

/-- A stop of a channel (R274): at the next descriptor boundary while it runs, at once while it is READY or
ARMED; the lists of a READY step-mode channel end with ABORTED (log entry 43). -/
def stopChan (s : State) (n : Nat) : State :=
  let c := chanOf s n
  match c.st with
  | .running => setChan s n { c with stopReq := true }
  | .armed => setChan s n { c with st := .idle }
  | .ready =>
    let s1 := endLists s n (fun _ => true) .refusedBusy 0x33
    setChan s1 n { chanOf s1 n with st := .idle }
  | _ => s

/-- A write of HAUL_VF_CTL_j.stop (R274); PF0 has no such register (R289). -/
def execHaulStopWrite (fid j : Nat) (s : State) : Res :=
  .next (memWrite s fid (if fid = 0 then count s 0 cRegWriteDenied
    else
      match regChan s fid j with
      | none => count s fid cRegWriteDenied
      | some n => stopChan s n))

/-! ## HAUL START (R285, R286) -/

/-- HAUL START queues a list and parks its packet, or is refused at once. -/
def execHaulStart (p c : Nat) (s : State) : Res :=
  .next (withStep 13 0 p c s (fun x =>
    let fid := bits 11 0 x.bv
    let n := bits 3 0 x.imm
    let ch := chanOf s n
    unitGate s x fid (x.a.p || x.b.p)
      (if startsRefused s fid then done (count s fid cHaulStartRefused) x .refusedBusy
      else if ch.mode ≠ 2 || ch.st = .ungranted || (ch.owner ≠ fid && ch.owner ≠ 0xFFF) ||
          64 ≤ ch.lists.length || bits 63 43 x.av ≠ 0 || bits 39 4 x.imm ≠ 0 || domainClosed s 23 ||
          2048 ≤ (pipeOf s p).parked.length then done (count s fid cHaulQueueFull) x .refusedBusy
      else
        let l : StepList :=
          { p := p, ord := x.k.ord, fid := fid, cell := bits 39 0 x.av, count := bits 42 40 x.av + 1 }
        let (cell, s0) := takeParkCell s p
        let k := { x.k with trace := x.k.trace.map (fun t => { t with parked := true }), parkCell := cell }
        let s1 := modPipe (issued s0 p c) p (fun y => { y with
          ctxs := tdel y.ctxs c, parked := y.parked ++ [k] })
        let c1 := { ch with lists := ch.lists ++ [l] }
        if ch.st = .idle then makeReady s1 n c1 true else setChan s1 n c1)))

/-! ## Watermarks and run starts (R275, R278) -/

/-- The fill of a channel's queue (R278); a ring number names the transmit, else the receive, else the
completion ring of the acting FID (log entry 42), and the observer queue counts closed chunks in KiB (R439). -/
def chanFill (s : State) (c : Chan) : Nat :=
  if c.queueType = 1 then
    match tget s.qm.tx c.queue, tget s.qm.rx c.queue, tget s.qm.cq c.queue with
    | some r, _, _ => (r.p - r.c).toNat
    | none, some r, _ => (r.p - r.c).toNat
    | none, none, some r => (r.pc - r.c).toNat
    | none, none, none => 0
  else if c.queueType = 2 then 64 * s.cnt.obsQueue.length
  else 0

/-- An ARMED channel whose fill has reached high enters READY (R278). -/
def execWatermarkHigh (ch : Nat) (s : State) : Res :=
  .next (
    let c := chanOf s ch
    let f := chanFill s c
    if c.st = .armed && c.high ≤ f && !startsRefused s c.acting && !domainClosed s 23 then
      makeReady s ch { c with fill := f } true
    else s)

/-- The READY channel a free unit takes: highest priority, READY earliest, lowest number (R275). -/
def nextChan (s : State) : Option Nat :=
  (List.range 16).foldl (fun b n =>
    let c := chanOf s n
    if c.st ≠ .ready then b
    else
      match b with
      | none => some n
      | some m =>
        let d := chanOf s m
        if d.prio < c.prio || (d.prio = c.prio && c.readyAt < d.readyAt) then some n else b) none

/-- A free unit takes a channel: a list that starts anew begins at its head. -/
def Chan.take (c : Chan) (unit : Nat) : Chan :=
  let d := { c with st := .running, unit := some unit, done := 0 }
  if c.fresh then { d with index := 0, cur := c.head, fresh := false } else d

/-- A free unit takes a READY channel and starts its run (R275). The HAUL domain must be running. -/
def execRunStart (unit : Nat) (s : State) : Res :=
  .next (if 4 ≤ unit || tany s.haul.chans (fun _ c => c.unit = some unit) || !domainRuns s 23 then s
    else
      match nextChan s with
      | none => s
      | some n => setChan s n ((chanOf s n).take unit))

/-! ## The end of a run (R276, R279, R282, R284) -/

/-- The FID a run acts for. -/
def runFid (c : Chan) : Nat :=
  if c.mode = 2 then (c.lists.head?.map (·.fid)).getD c.owner else c.acting

/-- One signal of a channel (R282): an event of PF0, or an MSI-X message. -/
def haulSignal (s : State) (n events : Nat) : State :=
  let c := chanOf s n
  if c.acting = 0 then logEvent s 0x0003 0 [.num 2 n, .num 1 events]
  else if isFn c.acting then raiseMsix s c.acting c.msix
  else s

/-- The status block of Table 9.7. -/
def statusBlock (n : Nat) (c : Chan) (status events : Nat) : List Nat :=
  let head := [status, events, n]
  let tail := leBytes 2 c.halfPosted ++ leBytes 2 c.fullPosted ++ leBytes 4 c.runs.toNat ++ leBytes 4 c.index
  head ++ [xorBytes (head ++ tail)] ++ tail

/-- Write the status block and signal once (R284); a step-mode channel writes no block, and signals its events
alone (R282). A block that puts the FID into the stocks is followed by no signal. -/
def postStatus (s : State) (n status events : Nat) : State :=
  let c := chanOf s n
  if isFrozen s c.acting then s
  else if c.mode = 2 then (if events < 4 then haulSignal s n events else s)
  else
    let s1 := (hostWrite s c.acting c.statusAddr (pbytes (statusBlock n c status events))).2
    if isFrozen s1 c.acting then s1 else haulSignal s1 n events

/-- The code of HAUL START for a run status (R286). -/
def haulCc (st : Status) : Cc :=
  match st with
  | .done => .done
  | .failedTimeout => .failedTimeout
  | .failedParity => .failedParity
  | .frozen => .frozen
  | _ => .refusedBusy

/-- The state a run leaves its channel in (R276, R279). -/
def afterRun (s : State) (n : Nat) (st : Status) (listEnd : Bool) : State :=
  let c := chanOf s n
  let kind := st = .done || st = .aborted
  if c.mode = 2 then
    match c.lists with
    | l :: t =>
      let s1 := settleLists (setChan s n { c with lists := t }) n
      resumeParked s1 l.p l.ord (haulCc st) (some (st.code + c.index % 256 * 256))
    | [] => settleLists s n
  else if !kind then setChan s n { c with st := .haltedError }
  else if c.mode = 1 && listEnd then
    let f := chanFill s c
    let c1 := { c with fill := f }
    if c.low ≤ f && !startsRefused s c.acting then makeReady s n c1 true
    else setChan s n { c1 with st := .armed }
  else setChan s n { c with st := .idle }

/-- The run of a channel ends with a status (R276); a status block follows at every end but a wait. A channel whose FID its
own events or block put into the stocks stays FROZEN (R272, R287). -/
def endRun (s : State) (n : Nat) (st : Status) : State :=
  if (chanOf s n).st = .frozen then s
  else
    let s1 := unitFreed (setChan s n { chanOf s n with lastStatus := st.code }) n
    let s2 := postStatus s1 n st.code 4
    if (chanOf s2 n).st = .frozen then s2 else afterRun s2 n st true

/-- The lowest of the units that serve no channel, while the HAUL domain runs (R275). -/
def freeUnit (s : State) : Option Nat :=
  if domainRuns s 23 then (List.range 4).find? (fun u => !tany s.haul.chans (fun _ c => c.unit = some u)) else none

/-- Channel 15 runs where a free unit takes it before every other READY channel (R275), or where RUN_START has given it one. -/
def stewardUnit (s : State) : Option Nat :=
  let c := chanOf s 15
  if c.st = .running then c.unit
  else if nextChan (makeReady s 15 c true) = some 15 then freeUnit s
  else none

/-- The Steward asks for a run of channel 15, which waits in READY until a unit takes it (R269, R275); one that waits goes on
waiting. -/
def askSteward (s : State) : State :=
  if (chanOf s 15).st = .idle then makeReady s 15 (chanOf s 15) true else s

/-- A whole run of channel 15 on a unit, which the Steward starts and drives: one COPY into the flash, at whose end the channel
is in the state that its status calls for (R269, R276, R481; log entry 123). -/
def stewardRun (s : State) (unit : Nat) (st : Status) : State :=
  let s1 := unitFreed (setChan s 15 { chanOf s 15 with unit := some unit, index := 0, lastStatus := st.code }) 15
  setChan s1 15 { chanOf s1 15 with
    fresh := false, st := if st = .done || st = .aborted then .idle else .haltedError }

/-- A run of a function that may not issue requests ends with ABORTED and without a status block, and its
channel enters IDLE (R366). -/
def dropRun (s : State) (n : Nat) : State :=
  let s1 := unitFreed (setChan s n { chanOf s n with lastStatus := 0x33 }) n
  afterRun s1 n .aborted false

/-- A check of Table 9.4 fails: its counter, and the end of the run. -/
def failRun (s : State) (n fid : Nat) (st : Status) (counter : Nat) : State := endRun (count s fid counter) n st

/-- A violation of a run (rows 4 and 5): the stocks end it; a run of PF0 or the device ends with
REFUSED_PERMISSION (R337). -/
def violateRun (s : State) (n fid code detail : Nat) : State :=
  let s1 := violate s fid code detail 0
  if neverFrozen fid then endRun s1 n .refusedPermission else s1

/-- The event waits of R283: the run ends, and the channel waits at this descriptor. -/
def waitRun (s : State) (n fid : Nat) (half full : Bool) : State :=
  let s1 := unitFreed s n
  setChan (count s1 fid cHaulAckWait) n { chanOf s1 n with
    st := .waitAck, waitHalf := half, waitFull := full }

/-! ## The checks of a descriptor (Table 9.4) -/

/-- A range in host memory, if the address is one. -/
def hostRange (a : Nat × Nat) (len : Nat) : Option (Nat × Nat) := if a.1 = 1 then some (a.2, len) else none

/-- Row 4: the first host range outside the FID's windows. -/
def rangeViol (s : State) (fid : Nat) (d : HDesc) : Option Nat :=
  match hostRange d.src d.len, hostRange d.dst d.len with
  | some (a, n), x =>
    if !inWindows s fid a n false then some a
    else
      match x with
      | some (b, m) => if inWindows s fid b m true then none else some b
      | none => none
  | none, some (b, m) => if inWindows s fid b m true then none else some b
  | none, none => none

/-- Row 5, spaces and handles: the space may be named, and a cell's handle is held by the FID. -/
def placeOk (s : State) (n fid : Nat) (a : Nat × Nat) : Bool :=
  match a.1 with
  | 2 => hPool (bits 39 0 a.2) < 4 && heldByOwner s (bits 39 0 a.2) fid
  | 4 => (chanOf s n).owner = 0xFFF && (fid = 0xFFF || fid = 1)
  | 5 => n = 15
  | _ => true

/-- The size of the device staging (Table 1.4). -/
def stagingSize : Nat := 240 * 2 ^ 20

/-- Row 6: a range in cells or staging lies within them. -/
def rangeOk (s : State) (a : Nat × Nat) (len : Nat) : Bool :=
  match a.1 with
  | 2 => bits 55 40 a.2 + len ≤ 256 * (chainOf s (bits 39 0 a.2)).length
  | 4 => a.2 + len ≤ stagingSize
  | _ => true

/-- An operation on a table. -/
def isTblOp (op : Nat) : Bool := 0x10 ≤ op

/-- Rows 3 to 7 of Table 9.4 and the event wait of R283, then the operation. -/
def checkDesc (s : State) (n fid : Nat) (d : HDesc) (f : State) : State :=
  let c := chanOf s n
  if !d.wellFormed then failRun s n fid .badParam cHaulBadDesc
  else
    match rangeViol s fid d with
    | some a => violateRun s n fid 0x03 (addrDetail a)
    | none =>
      if !placeOk s n fid d.src || !placeOk s n fid d.dst then failRun s n fid .refusedPermission cHaulRefused
      else if isTblOp d.op && fid ≠ 0xFFF && !(fnOf s fid).rawTable then violateRun (count s fid cHaulRefused) n fid 0x09 1
      else if !rangeOk s d.src d.len || !rangeOk s d.dst d.len then failRun s n fid .badParam cHaulBadDesc
      else if c.descLimit ≤ c.done then failRun s n fid .refusedLimit cHaulRunLimit
      else
        let wh := d.half && c.halfPosted ≠ c.halfAcked
        let wf := d.full && c.fullPosted ≠ c.fullAcked
        if wh || wf then waitRun s n fid wh wf
        else if (d.src.1 = 1 || d.dst.1 = 1) && !mayIssue s fid then dropRun s n
        else f

/-! ## The end of a descriptor -/

/-- How the operation of a descriptor ended: it completed, it completed with poisoned data (R281), it failed with a status and
counter, or it waits for the RLDRAM domain of a pipeline, which it demands (R33, R35). -/
inductive OpEnd where
  | ok | poisoned | fail (st : Status) (counter : Nat) | wait (p : Nat)
  deriving DecidableEq, Repr

/-- The events of a descriptor (R282). -/
def postEvents (s : State) (n : Nat) (d : HDesc) : State :=
  let c := chanOf s n
  if d.half || d.full then
    postStatus (setChan s n { c with
      halfPosted := (c.halfPosted + b2n d.half) % 65536
      fullPosted := (c.fullPosted + b2n d.full) % 65536 }) n 0 (b2n d.half + 2 * b2n d.full)
  else s

/-- After the operation: events, the end of the run, or the next descriptor (R276). -/
def afterOp (s : State) (n fid : Nat) (d : HDesc) (e : OpEnd) : State :=
  if (chanOf s n).unit.isNone then s
  else
    match e with
    | .wait _ => s
    | .fail st counter => failRun s n fid st counter
    | .poisoned => failRun (postEvents s n d) n fid .failedParity cHaulPoisoned
    | .ok =>
      let s1 := postEvents s n d
      let c := chanOf s1 n
      if c.unit.isNone then s1
      else if d.end_ then endRun (setChan s1 n { c with done := c.done + 1 }) n .done
      else setChan s1 n { c with done := c.done + 1, index := c.index + 1, cur := d.next }

/-- The descriptor a run has reached: its bytes, or the end of the run that its read brings (rows 1, 2, 4). -/
def fetchDesc (s : State) (n fid : Nat) (inp : HaulIn) : Except State (List Nat × State) :=
  let c := chanOf s n
  if isFrozen s fid then .error (endRun s n .frozen)
  else if c.mode = 2 then
    match c.lists.head? with
    | none => .error s
    | some l =>
      if !(heldByOwner s l.cell fid || heldByOwner s l.cell 0xFFF) || hPool l.cell ≠ 3 then
        .error (failRun s n fid .refusedPermission cHaulRefused)
      else
        let bs := readChain s l.cell (32 * c.index) 32
        if anyPoison bs then .error (failRun s n fid .failedParity cHaulPoisoned) else .ok (rawBytes bs, s)
  else if !inWindows s fid c.cur 32 false then .error (violateRun s n fid 0x03 (addrDetail c.cur))
  else if !mayIssue s fid then .error (dropRun s n)
  else
    let s1 := rowRead s fid c.cur 32 inp.descRd
    match inp.descRd with
    | .timeout | .error => .error (failRun s1 n fid .failedTimeout cHaulTimeout)
    | .poisoned => .error (failRun s1 n fid .failedParity cHaulPoisoned)
    | .ok => .ok ((inp.desc ++ List.replicate 32 0).take 32, s1)

/-- One descriptor of a running channel as operation `op`. A descriptor of another operation is not this
command's; one whose operation no row names is refused by NOP. A stop takes effect here (R274). -/
def runDesc (op n : Nat) (inp : HaulIn) (s : State) (f : State → Nat → HDesc → OpEnd × State) : State :=
  let c := chanOf s n
  if c.st ≠ .running || c.unit.isNone then s
  else if c.stopReq then endRun s n .aborted
  else
    let fid := runFid c
    match fetchDesc s n fid inp with
    | .error s1 => s1
    | .ok (bs, s0) =>
      let last := (c.lists.head?.map (fun l => decide (l.count ≤ c.index + 1))).getD false
      let d := HDesc.ofBytes bs (c.mode = 2) last
      if d.op ≠ op && (op ≠ 0 || haulOps.contains d.op) then s
      else
        checkDesc s0 n fid d
          (match f s0 fid d with
          | (.wait p, _) => touchRld s p
          | (e, s1) => afterOp s1 n fid d e)

/-! ## NOP, COPY and ZERO (Table 9.2, R280, R281) -/

/-- A NOP descriptor is checked and counted. -/
def execHaulNop (ch : Nat) (inp : HaulIn) (s : State) : Res :=
  .next (runDesc 0x00 ch inp s (fun s _ _ => (.ok, s)))

/-- The bytes that lie in the device staging, area by area: base and bytes. -/
def stagingAreas (s : State) : List (Nat × List Nat) :=
  (List.range 4).map (fun p => (Sys2Proof.Config.traceBase p, (pipeOf s p).area.flatten)) ++
    (List.range (s.cnt.obsQueue.length + 1)).map (fun i =>
      (Sys2Proof.Config.observerBase + (s.cnt.obsRead + i) % 1024 * 65536, (s.cnt.obsQueue ++ [s.cnt.obsOpen]).getD i [])) ++
    (List.range (s.cnt.svcQueue.length + 1)).map (fun i =>
      (Sys2Proof.Config.serviceBase + (s.cnt.svcRead + i) % 768 * 65536, (s.cnt.svcQueue ++ [s.cnt.svcOpen]).getD i []))

/-- A byte of the identity record (R520): written by a run, else as the board's flash holds it (log entry 123). -/
def idByte (s : State) (a : Nat) : Byte := (tget s.fw.flash a).getD (Sys2Proof.Config.identityByte a)

/-- One byte of the flash: of the identity record, written by a run, else what the device found there, a free value (log
entry 123). -/
def flashByte (s : State) (d a : Nat) : PByte :=
  match tget s.fw.flash a with
  | some b => ⟨b, false⟩
  | none => if a < 65536 then ⟨idByte s a, false⟩ else PByte.ofNat ((Sys2Proof.Config.freeWord (d + a)).toNat % 256)

/-- One byte of the device staging: what was written last, by a run or as part of an area, else zero (DESIGN CHOICE, log entry
42). -/
def stagingByte (s : State) (a : Nat) : PByte :=
  match tget s.haul.staging a with
  | some b => b
  | none =>
    match (stagingAreas s).find? (fun e => e.1 ≤ a && a < e.1 + e.2.length) with
    | some e => PByte.ofNat (e.2.getD (a - e.1) 0)
    | none => PByte.zero

/-- The source bytes of a copy, and how their read ended. -/
def copySource (s : State) (d : HDesc) (inp : HaulIn) : List PByte × ReadResult :=
  match d.src.1 with
  | 2 => (readChain s (bits 39 0 d.src.2) (bits 55 40 d.src.2) d.len, .ok)
  | 4 => ((List.range d.len).map (fun i => stagingByte s (d.src.2 + i)), .ok)
  | 5 => ((List.range d.len).map (fun i => flashByte s s.draws (d.src.2 + i)), .ok)
  | _ =>
    let b := (inp.data ++ List.replicate (d.len - inp.data.length) 0).take d.len
    (b.map (fun v => ⟨BitVec.ofNat 8 v, inp.dataRd = .poisoned⟩), inp.dataRd)

/-- The read of a source in host memory (R358). -/
def readSource (s : State) (fid : Nat) (d : HDesc) (inp : HaulIn) : State :=
  if d.src.1 = 1 then rowRead s fid d.src.2 d.len inp.dataRd else s

/-- The slot whose data the storage library's run moves for a packet: its connection and number. -/
def LibRun.runSlot (r : LibRun) : Option (Nat × Nat) :=
  match r.plan.headD .finish with
  | .haul _ _ (some i) => some (r.conn, i)
  | _ => none

/-- A byte of a slot's data was written with EP set (R303). -/
def markSlot (s : State) (r : Option LibRun) : State :=
  match r.bind LibRun.runSlot with
  | some (n, i) =>
    match connOf s n with
    | some c => setConn s n { c with slots := tset c.slots i { c.slot i with ep := true } }
    | none => s
  | none => s

/-- Note that a run of a parked packet wrote poisoned data to the host (R303). -/
def notePoison (s : State) (n : Nat) : State :=
  let c := chanOf s n
  match c.mode, c.lists.head? with
  | 2, some l =>
    let k := (pipeOf s l.p).parked.find? (fun k => k.ord = l.ord)
    markSlot (modPipe s l.p (fun x => { x with
      parked := x.parked.map (fun k => if k.ord = l.ord then { k with ep := true } else k) })) (k.bind (·.lib))
  | _, _ => s

/-- Write bytes at an address of space 1, 2, 4 or 5; flash holds no marks. -/
def haulWrite (s : State) (n fid : Nat) (a : Nat × Nat) (bs : List PByte) : State :=
  match a.1 with
  | 1 =>
    let s1 := (hostWrite s fid a.2 bs).2
    if anyPoison bs then notePoison s1 n else s1
  | 2 => writeChain s (bits 39 0 a.2) (bits 55 40 a.2) bs
  | 4 =>
    { s with haul := { s.haul with
        staging := ((List.range bs.length).zip bs).foldl (fun t e => tset t (a.2 + e.1) e.2) s.haul.staging } }
  | 5 =>
    { s with fw := { s.fw with
        flash := ((List.range bs.length).zip bs).foldl (fun t e => tset t (a.2 + e.1) e.2.b) s.fw.flash } }
  | _ => s

/-- A copy that reads the oldest chunks of the observer queue in order returns them (R439). -/
def readObserver (s : State) (a : Nat × Nat) (len : Nat) : State :=
  if a.1 = 4 && a.2 = Sys2Proof.Config.observerBase + s.cnt.obsRead % 1024 * 65536 then
    let n := min (len / 65536) s.cnt.obsQueue.length
    { s with cnt := { s.cnt with
        obsQueue := s.cnt.obsQueue.drop n, obsRead := (s.cnt.obsRead + n) % 1024 } }
  else s

/-- A COPY descriptor. A read that times out leaves its destination unreliable: how many of its bytes were
written is a free value (R281). -/
def execHaulCopy (ch : Nat) (inp : HaulIn) (s : State) : Res :=
  .next (runDesc 0x01 ch inp s (fun s fid d =>
    let (bs, rd) := copySource s d inp
    let s0 := readSource s fid d inp
    if rd = .timeout || rd = .error then
      let (k, s1) := draw s0
      let n := (Sys2Proof.Config.freeWord k).toNat % (d.len + 1)
      (.fail .failedTimeout cHaulTimeout, haulWrite s1 ch fid d.dst (bs.take n))
    else
      let s1 := readObserver (haulWrite s0 ch fid d.dst bs) d.src d.len
      (if anyPoison bs then .poisoned else .ok, s1)))

/-- A ZERO descriptor writes zero bytes. -/
def execHaulZero (ch : Nat) (inp : HaulIn) (s : State) : Res :=
  .next (runDesc 0x02 ch inp s (fun s fid d =>
    (.ok, haulWrite s ch fid d.dst (List.replicate d.len PByte.zero))))

/-! ## Table operations (R177 to R180) -/

/-- The pipeline, table and bucket of an address in space 3 (Table 9.3). -/
def tblAddr (a : Nat) : Nat × Nat × Nat := (bits 28 27 a, bits 26 23 a, bits 22 0 a)

/-- The table a FID may reach, with a bucket of it. -/
def tblReach (s : State) (fid p t b : Nat) : Option FTable :=
  match tableOf s t with
  | some x =>
    if b < 2 ^ x.bucketsLog2 && (fid = 0xFFF || (grantOf s fid t p).isSome) then some x else none
  | none => none

/-- The image of a bucket as a run copies it; marked bytes of an entry carry poison marks: those of its control word and key, or
those of its result (R156, R163). -/
def bucketImage (s : State) (p t b : Nat) : List PByte :=
  let fp := fpOf s p
  [0, 1, 2, 3].flatMap (fun i =>
    let k := slotKey t b i
    match tget fp.slots k with
    | some e => markBytes (e.bytes.take 40) e.mark ++ markBytes (e.bytes.drop 40) e.resMark
    | none => markBytes ((tget fp.rawSlots k).getD (List.replicate 64 0)) (fp.badSlots.contains k))

/-- A table operation acts on a bucket: in an RLDRAM table it accesses the pipeline's RLDRAM domain, and waits while that is
stopped (R33, R35). -/
def withBucket (s : State) (p t : Nat) (f : State → OpEnd × State) : OpEnd × State :=
  match tableOf s t with
  | some x => if x.hot then f s else if domainRuns s (19 + p / 2) then f (touchRld s p) else (.wait p, s)
  | none => f s

/-- TBL_READ copies a bucket without a lock. -/
def execTblRead (ch : Nat) (inp : HaulIn) (s : State) : Res :=
  .next (runDesc 0x10 ch inp s (fun s fid d =>
    let (p, t, b) := tblAddr d.src.2
    match tblReach s fid p t b with
    | none => (.fail .refusedPermission cHaulTblRefused, s)
    | some _ => withBucket s p t (fun s =>
      let bs := bucketImage s p t b
      if anyPoison bs then (.fail .failedParity cHaulTblRefused, s)
      else (.ok, haulWrite s ch fid d.dst bs))))

/-- TBL_LOCK_READ locks a bucket for the FID and copies it. -/
def execTblLockRead (ch : Nat) (inp : HaulIn) (s : State) : Res :=
  .next (runDesc 0x11 ch inp s (fun s fid d =>
    let (p, t, b) := tblAddr d.src.2
    match tblReach s fid p t b with
    | none => (.fail .refusedPermission cHaulTblRefused, s)
    | some _ => withBucket s p t (fun s =>
      let fp := fpOf s p
      if isLocked fp t b || 256 ≤ fp.locks.length then (.fail .refusedBusy cHaulTblRefused, s)
      else
        let s1 := setFp s p { fp with locks := tset fp.locks (bktKey t b) { holder := fid, at_ := s.now } }
        let bs := bucketImage s p t b
        (if anyPoison bs then .poisoned else .ok, haulWrite s1 ch fid d.dst bs))))

/-- The lock a FID holds on a bucket. -/
def lockHeld (s : State) (fid p t b : Nat) : Option Lock :=
  match tget (fpOf s p).locks (bktKey t b) with
  | some l => if l.holder = fid then some l else none
  | none => none

/-- The lock limit has passed (R180). -/
def lockOver (s : State) (l : Lock) : Bool := l.at_ + 1000 * s.fwt.lockLimitUs ≤ s.now

/-- A lock at its limit is cleared, FWT_LOCK_VIOL records it, and its holder goes into the stocks (R180). -/
def lockOverstay (s : State) (p t b : Nat) (l : Lock) : State :=
  let s1 := unlockBucket s p t b
  let s2 := { s1 with fwt := { s1.fwt with
    violFid := l.holder, violPipe := p, violTable := t, violBucket := b, violSeen := true } }
  violate s2 l.holder 0x07 (b + t * 2 ^ 23 + p * 2 ^ 27) 0

/-- The entries of a bucket image: one for each slot. -/
def imageEntries (bs : List Nat) : List (Option FEntry) :=
  [0, 1, 2, 3].map (fun i => FEntry.ofBytes (slice bs (64 * i) 64))

/-- An entry of an image is well formed (R179): its table, its bucket, and zero bytes where none belong. -/
def imageEntryOk (x : FTable) (t b : Nat) (bs : List Nat) (e : FEntry) : Bool :=
  e.table = t && bucketOf x e.key = b && (e.key.drop x.keyLen).all (fun v => v = 0) && entryReservedOk bs

/-- Two valid entries hold the same key and owner. -/
def imageDup : List (Option FEntry) → Bool
  | [] => false
  | none :: t => imageDup t
  | some e :: t => t.any (fun o => match o with
      | some f => f.key = e.key && f.owner = e.owner
      | none => false) || imageDup t

/-- A slot's change touches an entry of another owner than the holder. -/
def foreignChange (holder : Nat) (old new : Option FEntry) : Bool :=
  old ≠ new && ((old.map (·.owner)).getD holder ≠ holder || (new.map (·.owner)).getD holder ≠ holder)

/-- The pipeline's tables with a bucket's slots replaced: its entries `es`, and the image's bytes where a slot is empty (R177). -/
def putBucket (fp : FPipe) (t b : Nat) (bs : List Nat) (es : List (Option FEntry)) : FPipe :=
  [0, 1, 2, 3].foldl (fun fp i =>
    let k := slotKey t b i
    let fp := { fp with badSlots := fp.badSlots.filter (fun j => j ≠ k) }
    match es.getD i none with
    | some e => { fp with slots := tset fp.slots k e, rawSlots := tdel fp.rawSlots k }
    | none => { fp with
        slots := tdel fp.slots k, rawSlots := tput (List.replicate 64 0) fp.rawSlots k (slice bs (64 * i) 64) }) fp

/-- The overflow copies of keys that a bucket image placed wait for their removal (R179). -/
def homeImage (fp : FPipe) (t b : Nat) (es : List (Option FEntry)) : FPipe :=
  es.foldl (fun fp o =>
    match o with
    | none => fp
    | some e =>
      let hits := (bucketOvf fp t b).filter (fun v => v.2.e.isFor t e.key e.owner)
      { clearAged fp t e.owner e.key with
        ovf := tmap fp.ovf (fun i v => if hits.any (fun h => h.1 = i) then { v with homed := true, byImage := true } else v)
        homing := fp.homing ++ hits.map (fun h => (t, b, h.1)) }) fp

/-- An owner's entries exceed its max_entries (R179); the device has a limit only where a grant gives it one (R158). -/
def overGrant (s : State) (fp : FPipe) (p t o : Nat) : Bool :=
  match grantOf s o t p with
  | some g => g.maxEntries < ownedIn fp t o
  | none => o ≠ 0xFFF

/-- The checks of R179 on an image: a status, or the tables with it written. -/
def writeImage (s : State) (fid p t b : Nat) (x : FTable) (bs : List Nat) : Except Status FPipe :=
  let fp := fpOf s p
  let old := [0, 1, 2, 3].map (fun i => (tget fp.slots (slotKey t b i)).map (fun e => { e with mark := false, resMark := false }))
  let new := imageEntries bs
  let ok := [0, 1, 2, 3].all (fun i => match new.getD i none with
    | some e => imageEntryOk x t b (slice bs (64 * i) 64) e
    | none => true)
  if !ok || imageDup new then .error .badParam
  else if fid ≠ 0 && [0, 1, 2, 3].any (fun i => foreignChange fid (old.getD i none) (new.getD i none)) then
    .error .refusedPermission
  else
    let fp1 := noteGone fp (homeImage (putBucket fp t b bs new) t b new)
    if new.any (fun o => match o with
        | some e => overGrant s fp1 p t e.owner
        | none => false) then .error .refusedLimit
    else .ok fp1

/-- TBL_WRITE_UNLOCK writes an image into a bucket and clears the lock; a refused image clears it too (R179). -/
def execTblWriteUnlock (ch : Nat) (inp : HaulIn) (s : State) : Res :=
  .next (runDesc 0x12 ch inp s (fun s fid d =>
    let (p, t, b) := tblAddr d.dst.2
    match tblReach s fid p t b with
    | none => (.fail .refusedPermission cHaulTblRefused, s)
    | some x =>
      match lockHeld s fid p t b with
      | none => (.fail .refusedState cHaulTblRefused, s)
      | some l =>
        if lockOver s l then (.fail .refusedState cHaulTblRefused, lockOverstay s p t b l)
        else withBucket (endCycles s) p t (fun s =>
          let (bs, rd) := copySource s d inp
          let s0 := readSource s fid d inp
          if rd = .timeout || rd = .error then (.fail .failedTimeout cHaulTimeout, s0)
          else if anyPoison bs then (.fail .failedParity cHaulPoisoned, s0)
          else
            match writeImage s0 fid p t b x (rawBytes bs) with
            | .error st => (.fail st cHaulTblRefused, unlockBucket s0 p t b)
            | .ok fp => (.ok, unlockBucket (setFp s0 p fp) p t b))))

/-- TBL_UNLOCK clears a lock without writing; at the lock's limit or later the lock has overstayed (R180). -/
def execTblUnlock (ch : Nat) (inp : HaulIn) (s : State) : Res :=
  .next (runDesc 0x13 ch inp s (fun s fid d =>
    let (p, t, b) := tblAddr d.dst.2
    match lockHeld s fid p t b with
    | none => (.fail .refusedState cHaulTblRefused, s)
    | some l =>
      if lockOver s l then (.fail .refusedState cHaulTblRefused, lockOverstay s p t b l)
      else withBucket (endCycles s) p t (fun s => (.ok, unlockBucket s p t b))))

/-- A lock still held at its limit is cleared, and its holder goes into the stocks (R180). -/
def execLockExpiry (p t b : Nat) (s : State) : Res :=
  .next (match tget (fpOf s p).locks (bktKey t b) with
    | some l => if p < 4 && lockOver s l then lockOverstay s p t b l else s
    | none => s)

end Sys2Proof.Machine
end

