-- ==== Sys2Proof/Machine/HaulCmds.lean ====
section
/-! DEFINITION. The haul commands of class 0x0C (R268, R269, R272, R274, R277, R278, Table 9.9). -/

namespace Sys2Proof.Machine

/-! ## Grants (R268) -/

/-- An owner that a channel can be given: a function, the device, or 0xFFE for none. -/
def chanOwnerOk (f : Nat) : Bool := isFn f || f = 0xFFF || f = 0xFFE

/-- The grantable channels of an owner beside one. -/
def chansBeside (s : State) (owner ch : Nat) : Nat :=
  ((List.range 15).filter (fun n => n ≠ ch && (chanOf s n).owner = owner)).length

/-- The channels that the grants of all instances reserve (Table 11.2). -/
def haulReserved (s : State) : Nat := tsum s.fns (fun _ f => f.haul)

/-- One more channel of an owner exceeds its grant, or for the device the pool that the grants leave (R318). -/
def chanOver (s : State) (owner ch : Nat) : Bool :=
  if owner = 0xFFF then 15 ≤ haulReserved s + chansBeside s 0xFFF ch else (fnOf s owner).haul ≤ chansBeside s owner ch

/-- GRANT_CHANNEL: a channel given to another owner starts with its configuration at reset values. -/
def execGrantChannel (m : Meta) (ch owner prio descLimit : Nat) (s : State) : Res :=
  .next (runCmd m 0x0C01 [.channel ch, .fid owner] false
    (firstBad [(0, ch < 15), (1, chanOwnerOk owner), (2, prio ≤ 3), (3, 1 ≤ descLimit && descLimit ≤ 4096)])
    (fun s =>
      let c := chanOf s ch
      if c.st ≠ .ungranted && c.st ≠ .idle then no s .refusedBusy
      else if owner = 0xFFE then ok (setChan s ch {})
      else if chanOver s owner ch then no s .refusedLimit
      else
        let base : Chan := if c.owner = owner then c else {}
        ok (setChan s ch { base with owner := owner, prio := prio, descLimit := descLimit, st := .idle })) s)

/-! ## Configure (R269, R278) -/

/-- The ring that a queue number names, with its function and its capacity: transmit, else receive, else completion
(log entry 42). -/
def ringNamed (s : State) (q : Nat) : Option (Nat × Nat) :=
  match tget s.qm.tx q, tget s.qm.rx q, tget s.qm.cq q with
  | some r, _, _ => some (r.fid, 2 ^ r.sizeLog2)
  | none, some r, _ => some (r.fid, 2 ^ r.sizeLog2)
  | none, none, some r => some (r.fid, 2 ^ r.sizeLog2)
  | none, none, none => none

/-- The associated queue of a watermark channel: its FID and capacity, or the item at fault. A device staging queue is
the Crier's observer queue of 64 MiB, counted in KiB (R439). -/
def watermarkQueue (s : State) (c : Chan) (g : ChanCfg) : Except Nat (Nat × Nat) :=
  if c.owner = 0xFFF then
    if g.queueType = 2 then (if g.queue = 0 then .ok (c.acting, 65536) else .error 6) else .error 5
  else if g.queueType = 1 then
    match ringNamed s g.queue with
    | some r => .ok r
    | none => .error 6
  else .error 5

/-- A channel with a configuration. -/
def Chan.configure (c : Chan) (g : ChanCfg) : Chan :=
  { c with
    mode := g.mode, statusAddr := g.statusAddr, msix := g.msix, head := g.head, queueType := g.queueType
    queue := g.queue, high := g.high, low := g.low, fill := 0, st := if g.mode = 1 then .armed else .idle }

/-- The status address lies in the acting FID's windows, whatever the mode (R323). -/
def statusAddrOk (s : State) (c : Chan) (g : ChanCfg) : Bool :=
  inWindows s (Chan.acting { c with mode := g.mode }) g.statusAddr 16 true

/-- The head address lies in the acting FID's windows, whatever the mode (R323). -/
def headAddrOk (s : State) (c : Chan) (g : ChanCfg) : Bool :=
  inWindows s (Chan.acting { c with mode := g.mode }) g.head 32 false

/-- The MSI-X entry lies within the grant of the function that signals with it: PF1 or a virtual function (R361). -/
def chanVectorOk (s : State) (c : Chan) (g : ChanCfg) : Bool :=
  let f := Chan.acting { c with mode := g.mode }
  !isFn f || f = 0 || g.msix < (fnOf s f).msix

/-- CONFIGURE_CHANNEL: a channel in watermark mode becomes ARMED. -/
def execConfigureChannel (m : Meta) (ch : Nat) (cfg : ChanCfg) (s : State) : Res :=
  .next (runCmd m 0x0C02 [.channel ch] false
    (firstBad [(0, ch < 15), (1, cfg.mode ≤ 2), (2, cfg.statusAddr % 16 = 0 && cfg.statusAddr < 2 ^ 64),
      (3, cfg.msix < 128), (4, cfg.head % 32 = 0 && cfg.head < 2 ^ 64), (5, cfg.queueType ≤ 2),
      (6, cfg.queue < 16384), (7, cfg.high < 2 ^ 17), (8, cfg.mode ≠ 1 || cfg.low < cfg.high)])
    (fun s =>
      let c := chanOf s ch
      let d : Chan := { c with mode := cfg.mode }
      if c.st ≠ .idle then no s .refusedState
      else if !chanVectorOk s c cfg then noItem s .badParam 3
      else if !statusAddrOk s c cfg || !headAddrOk s c cfg then no s .refusedPermission
      else if cfg.mode ≠ 1 then ok (setChan s ch (c.configure cfg))
      else
        match watermarkQueue s d cfg with
        | .error i => noItem s .badParam i
        | .ok (fid, cap) =>
          if fid ≠ d.acting then no s .refusedPermission
          else if cap < cfg.high then noItem s .badParam 7
          else ok (setChan s ch (c.configure cfg))) s)

/-! ## Stop and reset -/

/-- STOP_CHANNEL (R274). -/
def execStopChannel (m : Meta) (ch : Nat) (s : State) : Res :=
  .next (runCmd m 0x0C03 [.channel ch] false (firstBad [(0, ch < 16)])
    (fun s =>
      let c := chanOf s ch
      if c.st = .running || c.st = .ready || c.st = .armed then ok (stopChan s ch) else no s .refusedState) s)

/-- RESET_CHANNEL: HALTED_ERROR becomes IDLE (Table 9.5). -/
def execResetChannel (m : Meta) (ch : Nat) (s : State) : Res :=
  .next (runCmd m 0x0C04 [.channel ch] false (firstBad [(0, ch < 16)])
    (fun s =>
      let c := chanOf s ch
      if c.st = .haltedError then ok (setChan s ch { c with st := .idle }) else no s .refusedState) s)

end Sys2Proof.Machine
end

