-- ==== Sys2Proof/Machine/MacBase.lean ====
section
/-! DEFINITION. Port layouts (R184, R185), ports, and the transmit classes (R197, R200, R203). -/

namespace Sys2Proof.Machine

/-! ## Layouts (R184, R185, Table 6.1) -/

/-- A port's block of lanes: its first lane, its lanes, and its port type byte (Table 14.19). -/
structure Block where
  first : Nat
  lanes : Nat
  type : Nat
  deriving DecidableEq, Repr

/-- The lanes of a port type byte; 0 for none. -/
def typeLanes (v : Nat) : Nat :=
  if v < 256 && 1 ≤ v % 16 && v % 16 ≤ 3 then
    match v / 16 with
    | 1 => 1
    | 2 => 2
    | 3 => 4
    | 4 => 8
    | _ => 0
  else 0

/-- The blocks of a layout from a lane on; none for a block that is misaligned, overlaps, or has a port type
that does not match it (R185). -/
def blocksFrom (l : List Nat) : Nat → Nat → Option (List Block)
  | 0, _ => some []
  | fuel + 1, i =>
    if 8 ≤ i then some []
    else
      let v := l.getD i 0
      if v = 0 then blocksFrom l fuel (i + 1)
      else
        let n := typeLanes v
        if n = 0 || i % n ≠ 0 || 8 < i + n || (List.range n).any (fun j => l.getD (i + j) 0 ≠ v) then none
        else (blocksFrom l fuel (i + n)).map (fun t => ⟨i, n, v⟩ :: t)

/-- The ports of a layout, numbered from 0 in ascending order of their first lane (R184). -/
def parseLayout (l : List Nat) : Option (List Block) := if l.length = 8 then blocksFrom l 9 0 else none

/-- The ports of the live layout. -/
def livePorts (s : State) : List Block := (parseLayout s.mac.layout).getD []

/-- The block of a port of the live layout. -/
def portBlock (s : State) (n : Nat) : Option Block := (livePorts s)[n]?

/-- The rate of a block in Gb/s. -/
def Block.gbps (b : Block) : Nat := 200 * b.lanes

/-- The configuration and state of a port number. -/
def portOf (s : State) (n : Nat) : Port := tgetD s.mac.ports n {}

/-- Write a port. -/
def setPort (s : State) (n : Nat) (x : Port) : State :=
  { s with mac := { s.mac with ports := tset s.mac.ports n x } }

/-- XMIT CLASS to the port is accepted (R189, R204). -/
def Port.open_ (x : Port) : Bool := x.enabled && !x.txClosed && x.link

/-! ## Transmit classes (R203) -/

/-- Class `c` of a port. -/
def Port.cls (x : Port) (c : Nat) : TxClass := tgetD x.classes c {}

/-- Write a class. -/
def Port.setCls (x : Port) (c : Nat) (q : TxClass) : Port := { x with classes := tset x.classes c q }

/-- Frame bytes of a class in cells, or in the spill area. -/
def TxClass.held (q : TxClass) (spilled : Bool) : Nat :=
  ((q.q.filter (fun f => f.spilled = spilled)).map (fun f => f.bytes.length)).sum

/-- The frames queued in a port's classes. -/
def Port.queued (x : Port) : List TxFrame := x.classes.flatMap (fun e => e.2.q)

/-- A port number's part of the spill area in MiB (R203, Table 1.4). -/
def spillArea : Nat := 752

/-- Where a frame of `n` bytes of class `c` goes: cells, the class's share of the port number's spill area, or nowhere
(R203). -/
def Port.place (x : Port) (c n : Nat) : Option Bool :=
  let q := x.cls c
  if q.held false + n ≤ q.onchipKib * 1024 then some false
  else if q.held true + n ≤ q.spillMib * 2 ^ 20 &&
      (x.classes.map (fun e => e.2.held true)).sum + n ≤ spillArea * 2 ^ 20 then some true
  else none

/-- Rows 2 to 5 of Table 6.4 for a frame to a port of the live layout; a spilled frame's cells are freed
(R203). -/
def queueFrame (s : State) (n c : Nat) (f : TxFrame) : Cc × State :=
  let x := portOf s n
  let len := f.bytes.length
  if len < 14 || x.maxFrame - 4 < len then (.badOperand, s)
  else if !x.open_ then (.refusedState, s)
  else
    let q := x.cls c
    match x.place c len with
    | none => (.refusedLimit, s)
    | some sp =>
      let s1 := if sp then
          match f.chain with
          | some h => releaseChain s h
          | none => s
        else s
      let g := { f with spilled := sp, chain := if sp then none else f.chain, at_ := s.now }
      let q1 := { q with q := q.q ++ [g], since := if q.q.isEmpty then s.now else q.since }
      (.done, setPort s1 n (x.setCls c q1))

/-- Release the cells of queued frames. -/
def releaseFrames (s : State) (fs : List TxFrame) : State :=
  fs.foldl (fun s f =>
    match f.chain with
    | some h => releaseChain s h
    | none => s) s

/-- Discard every frame queued in a port's classes, counting each (R186, R189, R204). -/
def flushPort (s : State) (n counter : Nat) : State :=
  let x := portOf s n
  let fs := x.queued
  let s1 := releaseFrames s fs
  let y := { x with classes := tmap x.classes (fun _ q => { q with q := [], log := [] }) }
  countN (setPort s1 n y) 0xFFF counter fs.length

/-- A frame still in transmission is cut and counted (R204). -/
def cutFrame (s : State) (n : Nat) : State :=
  let x := portOf s n
  match x.flyWire with
  | some w =>
    if s.now < x.txEnd then
      let y := { x with flyWire := none, txFrames := x.txFrames - (if w = 0 then 0 else 1),
                        txOctets := x.txOctets - BitVec.ofNat 64 w, txEnd := s.now
                        pfcTx := x.pfcTx - (if x.flyPfc then 1 else 0) }
      count (setPort s n y) 0xFFF (cTxLinkFlush n)
    else s
  | none => s

/-- A frame in reception on a port whose link is up is cut (R186, R189, R190): it is counted when its end comes. -/
def Port.cutRx (x : Port) (now gbps : Nat) : Port := if x.link then { x with rxCut := some (now, gbps) } else x

/-! ## Port configuration (R61, R186, R187) -/

/-- A port with the parameters of command 0x0121. -/
def Port.withParams (x : Port) (q : PortParams) : Port :=
  { x with
    maxFrame := q.maxFrame, fcMode := q.fcMode, defaultPrio := q.defaultPrio, xoff := q.xoff, xon := q.xon
    quanta := q.quanta, prioToClass := q.prioToClass, laneFix := q.laneFix
    classes := (List.range 8).map (fun c =>
      (c, { x.cls c with burst := q.burst.getD c 0, onchipKib := q.onchipKib.getD c 0
                         spillMib := q.spillMib.getD c 0 })) }

/-- The configuration that check 10 compares with: the staged layout and parameters where there are some (R186). -/
def cfgLayout (s : State) : List Block := (parseLayout (s.mac.staged.getD s.mac.layout)).getD []

/-- A port as it would be configured with what is staged. -/
def cfgPort (s : State) (n : Nat) : Port :=
  (s.mac.stagedParams.filter (fun q => q.port = n)).foldl (fun x q => x.withParams q) (portOf s n)

/-- The bytes that W is made of for a class: the longest frame and the bursts of the classes above it; none when one
of them has no guard (R30, R201). -/
def Port.waitBytes (x : Port) (c : Nat) : Option Nat :=
  let up := (List.range 8).filter (fun d => c < d)
  if up.any (fun d => (x.cls d).burst = 0) then none
  else some (x.maxFrame + (up.map (fun d => (x.cls d).burst)).sum)

/-- A port of a new layout whose block or type changes: it is down and trains again, and keeps the enable of the port
that began at the same lane. -/
def freshPort (s : State) (n : Nat) (b : Block) : State :=
  let old := livePorts s
  let prev := ((List.range old.length).find? (fun m => (old[m]?.map (·.first)) = some b.first)).map (portOf s)
  let x := portOf s n
  setPort s n { x with
    enabled := (prev.map (·.enabled)).getD false, txClosed := false, link := false, localFault := false
    remoteFault := false, anComplete := false, pauseEnd := [], pfcSent := []
    linkChanges := match prev with
      | some y => y.linkChanges + (if y.link then 1 else 0)
      | none => x.linkChanges }

/-- A port that leaves the layout. -/
def closePort (s : State) (n : Nat) : State :=
  setPort s n { portOf s n with enabled := false, txClosed := false, link := false }

/-- A lane that is in no port is powered down: no energy, no fault and no driver (R184). -/
def idleLanes (s : State) (new : List Block) : State :=
  { s with mac := { s.mac with lanes := tfilter (tmap s.mac.lanes (fun l x =>
      if 8 ≤ l || new.any (fun b => b.first ≤ l && l < b.first + b.lanes) then x
      else { x with signal := false, fault := 0, driverOff := false })) (fun _ x => x ≠ {}) } }

/-- Make a layout live: a port whose block or type changes is flushed and goes down; the others keep their link
(R186). -/
def applyLayout (s : State) (l : List Nat) : State :=
  let old := livePorts s
  let new := (parseLayout l).getD []
  let gone := (List.range old.length).filter (fun n => old[n]? ≠ new[n]?)
  let fresh := (List.range new.length).filter (fun n => old[n]? ≠ new[n]?)
  let s0 := gone.foldl (fun s n =>
    setPort s n ((portOf s n).cutRx s.now ((old[n]?.map Block.gbps).getD 0))) s
  let s1 := gone.foldl (fun s n => flushPort (cutFrame s n) n (cTxReconfigFlush n)) s0
  let started := fresh.map (fun n => (n, freshPort s1 n (new.getD n ⟨0, 0, 0⟩)))
  let s2 := started.foldl (fun s e => setPort s e.1 (portOf e.2 e.1)) s1
  let s3 := (gone.filter (fun n => new.length ≤ n)).foldl closePort s2
  idleLanes { s3 with mac := { s3.mac with layout := l } } new

/-- What is staged becomes live in the flip cycle (R186). -/
def goLive (s : State) : State :=
  let s1 := match s.mac.staged with
    | some l => applyLayout s l
    | none => s
  let s2 := s.mac.stagedParams.foldl (fun s q => setPort s q.port ((portOf s q.port).withParams q)) s1
  { s2 with mac := { s2.mac with staged := none, stagedParams := [] } }

end Sys2Proof.Machine
end

