-- ==== Sys2Proof/Machine/SealCheck.lean ====
section
/-! DEFINITION. The seal checks of a step-table bank (R59, Table 2.7): the operand forms of every step (R42, R45, R79
to R84), the step graph (R41, R48), the figures of a path (R56, R57), hooks (R72, R74), and the budgets (R29, R30,
R58). Costs are counted in units of 1/72 ns: an engine cycle of 1.8 GHz is 40 of them. -/

namespace Sys2Proof.Machine

/-! ## Units (R44, R45, Table 2.4) -/

/-- The codes a unit can return (Table 2.4); CTL's are given per operation. -/
def unitCodes (unit : Nat) : List Cc :=
  match unit with
  | 1 => [.done, .miss, .malformed, .failedParity]
  | 2 => [.done, .miss, .malformed, .failedParity]
  | 3 => [.done, .failedParity]
  | 4 => [.done, .miss, .failedParity, .refusedPermission, .frozen]
  | 5 => [.done, .alt, .miss, .failedParity, .refusedPermission, .frozen]
  | 6 => [.done, .deferred, .refusedEmpty, .refusedPermission, .failedParity, .frozen]
  | 7 => [.done, .refusedLimit, .refusedPermission, .failedParity, .frozen]
  | 8 => [.done, .alt, .deferred, .refusedLimit, .refusedEmpty, .refusedPermission, .failedParity, .frozen,
      .badOperand]
  | 9 => [.done, .refusedBusy, .refusedState, .failedAuth, .failedParity, .frozen]
  | 10 => [.done, .refusedState, .frozen, .badOperand, .failedParity]
  | 11 => [.done, .failedTimeout, .failedParity, .refusedBusy, .frozen, .badOperand]
  | 12 => [.done, .refusedLimit, .refusedState, .badOperand, .failedParity, .frozen]
  | 13 => [.done, .failedTimeout, .failedParity, .refusedBusy, .frozen]
  | 14 => [.done, .failedParity]
  | 15 => [.done, .miss, .refusedState, .failedParity]
  | _ => []

/-- The codes that a step can return; with a zero hook allowance a HOOK returns only MISS or FAILED_PARITY (R71). -/
def stepCodes (w : StepWord) (noHooks : Bool) : List Cc :=
  if w.unit = 0 then
    match w.op with
    | 0 => [.done]
    | 3 => if noHooks then [.miss, .failedParity] else Cc.all
    | 5 => [.done]
    | _ => []
  else unitCodes w.unit

/-- The successors that the codes of a step lead to (R41). -/
def stepSuccs (w : StepWord) (noHooks : Bool) : List Nat := ((stepCodes w noHooks).map w.succ).eraseDups

/-- The successors that the fields of a step name (R48): "the step's two successors", both fields whatever the codes select; an
operation that ends the packet or returns names none (R41), and HOOK those that a code selects. -/
def namedSuccs (w : StepWord) (noHooks : Bool) : List Nat :=
  if w.unit = 0 && (w.op = 1 || w.op = 2 || w.op = 4) then []
  else if w.unit = 0 && w.op = 3 then stepSuccs w noHooks
  else [w.succA, w.succB].eraseDups

/-- The latency bound of a unit in 1/72 ns; for CIP, with the longest record of the entry point (Table 2.4). -/
def unitLatency (unit longest : Nat) : Nat :=
  match unit with
  | 2 => 576 | 3 => 288 | 4 => 864 | 5 => 5184 | 6 => 1440 | 7 => 576 | 8 => 1152
  | 9 => 2880 + 9 * longest
  | 10 => 864 | 12 => 864 | 14 => 288 | 15 => 5760
  | _ => 0

/-- The RLDRAM access charge of a unit (Table 2.4). -/
def unitAccess (unit : Nat) : Nat := if unit = 5 || unit = 15 then 1 else 0

/-- The unit parks its packet (R52). -/
def unitParks (unit : Nat) : Bool := unit = 11 || unit = 13

/-! ## Check 1: operand forms -/

/-- What a selector field must hold: 0xFF, a word, or either. -/
inductive SelForm where
  | none | word | any
  deriving DecidableEq, Repr

/-- A selector has its form (R42). -/
def SelForm.ok (f : SelForm) (x : Nat) : Bool :=
  match f with
  | .none => x = 0xFF
  | .word => isSel x
  | .any => x = 0xFF || isSel x

/-- The form of an operation: dst, src_a, src_b, and the immediate bits it may set. -/
structure OpForm where
  d : SelForm
  a : SelForm
  b : SelForm
  imm : Nat

/-- The 40 bits of an immediate. -/
def immAll : Nat := 2 ^ 40 - 1

/-- The form of each operation of Table 2.4; none for a unit and op that the table does not list. -/
def opForm (unit op : Nat) : Option OpForm :=
  match unit, op with
  | 0, 0 => some ⟨.none, .none, .none, 0⟩
  | 0, 1 => some ⟨.none, .none, .none, 0⟩
  | 0, 2 => some ⟨.none, .none, .none, 0xFF⟩
  | 0, 3 => some ⟨.none, .none, .none, 0⟩
  | 0, 4 => some ⟨.none, .none, .none, 0xF⟩
  | 0, 5 => some ⟨.none, .none, .none, 0xFFFF⟩
  | 1, 0 => some ⟨.word, .any, .none, immAll⟩
  | 1, 6 => some ⟨.word, .word, .none, 0x7F⟩
  | 1, 7 => some ⟨.none, .word, .any, immAll⟩
  | 1, 8 => some ⟨.none, .word, .any, immAll⟩
  | 1, 0x10 => some ⟨.word, .none, .none, 0x1FFF⟩
  | 1, 0x11 => some ⟨.none, .word, .none, 0x1FFF⟩
  | 1, 0x12 => some ⟨.none, .none, .none, 0x1FF⟩
  | 1, 0x13 => some ⟨.none, .none, .none, 0x7FFFFFF⟩
  | 1, 0x14 => some ⟨.word, .none, .none, 1⟩
  | 1, n => if 1 ≤ n && n ≤ 5 then some ⟨.word, .word, .any, immAll⟩ else none
  | 2, 2 => some ⟨.word, .word, .none, 0⟩
  | 2, 3 => some ⟨.word, .none, .none, 0xFFF⟩
  | 2, n => if n ≤ 4 then some ⟨.word, .none, .none, 0x1FF⟩ else none
  | 3, 2 => some ⟨.word, .word, .word, 0x3F⟩
  | 3, n => if n ≤ 1 then some ⟨.word, .word, .none, 2 ^ 38 - 1⟩ else none
  | 4, 0 => some ⟨.word, .word, .word, 0x1F⟩
  | 5, 0 => some ⟨.word, .word, .word, 0x1F⟩
  | 6, 0 => some ⟨.none, .word, .word, immAll - 0xF0⟩
  | 6, 1 => some ⟨.none, .word, .word, 0xF⟩
  | 6, 2 => some ⟨.word, .word, .word, 0xF⟩
  | 7, 0 => some ⟨.any, .word, .word, 0⟩
  | 8, 0 => some ⟨.any, .word, .word, 0xFFF0F⟩
  | 8, 1 => some ⟨.any, .word, .word, 1⟩
  | 9, 0 => some ⟨.any, .word, .word, 3⟩
  | 10, 0 => some ⟨.none, .word, .word, 0xFFFF⟩
  | 11, 0 => some ⟨.none, .word, .word, 2 ^ 30 - 1⟩
  | 12, 0 => some ⟨.any, .word, .any, 0x1FFFF⟩
  | 12, 1 => some ⟨.any, .word, .word, 0⟩
  | 12, 2 => some ⟨.any, .any, .word, 0x7F⟩
  | 13, 0 => some ⟨.any, .word, .word, 0xF⟩
  | 14, 0 => some ⟨.any, .word, .none, 0xFF⟩
  | 14, 1 => some ⟨.any, .word, .word, 0xFF⟩
  | 15, 0 => some ⟨.word, .word, .word, 0x1F⟩
  | 15, 1 => some ⟨.word, .any, .any, immAll⟩
  | _, _ => none

/-- `n` words from a selector lie in w0 to w31; 0xFF names none. -/
def spanOk (x n : Nat) : Bool := x = 0xFF || x + n ≤ 32

/-- Operands of several words lie within the context (R82, R161, R226, R299). -/
def spansOk (w : StepWord) : Bool :=
  match w.unit, w.op with
  | 3, 2 => spanOk w.srcA 4 && spanOk w.srcB 5
  | 3, _ => spanOk w.srcA 4
  | 4, _ => spanOk w.srcA 4 && spanOk w.dst 4
  | 5, _ => spanOk w.srcA 4 && spanOk w.dst 4
  | 6, 2 => spanOk w.srcA 4 && spanOk w.dst 3
  | 6, _ => spanOk w.srcA 4
  | 12, 2 => spanOk w.srcA 3
  | 15, 0 => spanOk w.dst 8
  | _, _ => true

/-- The selectors and fields of a CONN_PUT action (R301). -/
def connPutOk (w : StepWord) : Bool :=
  let act := bits 2 0 w.imm
  let fields := [0x1F8, 0, 0, 0x3F8, 0x1F8, 0x7F8].getD act 0
  let usesB := act = 3 || (act = 0 && bitOf 8 w.imm)
  act ≤ 5 && (w.imm &&& 0xFF8 &&& fields) = (w.imm &&& 0xFF8) && decide (isSel w.srcA = (act < 4)) &&
    decide (isSel w.srcB = usesB) && (act ≠ 0 || spanOk w.srcA 8)

/-- The rules of single operations beyond their form: the byte count of HASH (R82), the format of TUNNEL (R81), the
length of DMAR READ (R84), the mode of MIRROR (R226), the action of CONN_PUT (R301). -/
def opRulesOk (w : StepWord) : Bool :=
  match w.unit, w.op with
  | 2, 3 => 1 ≤ bits 11 9 w.imm && bits 11 9 w.imm ≤ 5
  | 3, _ => 1 ≤ bits 5 0 w.imm && bits 5 0 w.imm ≤ 32
  | 11, _ => 1 ≤ bits 13 0 w.imm && bits 13 0 w.imm ≤ 12288
  | 12, 2 => decide (bitOf 0 w.imm = decide (w.srcA = 0xFF)) && (bitOf 0 w.imm || w.imm = 0)
  | 15, 1 => connPutOk w
  | _, _ => true

/-- Check 1 for one step. -/
def stepOk (w : StepWord) : Bool :=
  match opForm w.unit w.op with
  | none => false
  | some f =>
    w.reserved = 0 && f.d.ok w.dst && f.a.ok w.srcA && f.b.ok w.srcB && (w.imm &&& f.imm) = w.imm &&
      spansOk w && opRulesOk w

/-- The declared budgets and hook allowance lie within the ranges of R58. -/
def budgetsOk (d : TableDecl) : Bool :=
  1 ≤ d.stepBudget && d.stepBudget ≤ 96 && 1 ≤ d.accessBudget && d.accessBudget ≤ 6 && d.rxBudget < 65536 &&
    d.pushBudget < 65536 && d.w2wBudget < 65536 && d.allow.steps ≤ 255 && d.allow.access ≤ 6 &&
    d.allow.latency ≤ 430 && d.paced.all (· < 256)

/-! ## What the checks visit -/

/-- The bank with its entry points listed: one that was never written holds a zero word. -/
def withEntries (b : Bank) : Bank :=
  { b with steps := (List.range 64).foldl (fun t i => if (tget t i).isNone then tset t i 0 else t) b.steps }

/-- A step the checks visit: every listed one but those of unassigned regions (R517). -/
def visited (b : Bank) (i : Nat) : Bool :=
  match regionOf i with
  | some r => (tget b.hooks r).isSome
  | none => true

/-- The steps the checks visit: index and word. -/
def visitedSteps (b : Bank) : List (Nat × StepWord) :=
  (b.steps.filter (fun e => visited b e.1)).map (fun e => (e.1, StepWord.ofNat e.2.toNat))

/-! ## Checks 2 to 4: the step graph -/

/-- A successor that FAILED_PARITY, and of the codes that the unit can return it alone, leads to (R48). -/
def onlyParity (w : StepWord) (noHooks : Bool) (t : Nat) : Bool :=
  (stepCodes w noHooks).contains .failedParity &&
    (stepCodes w noHooks).all (fun c => decide (w.succ c = t) = decide (c = .failedParity))

/-- One successor obeys R48. -/
def succOk (noHooks : Bool) (i : Nat) (w : StepWord) (t : Nat) : Bool :=
  if i ≤ 63 then i < t || (64 ≤ t && t ≤ 49151)
  else i < t || (t = 63 && onlyParity w noHooks 63)

/-- The steps that can follow a step: its successors, and for CTL HOOK the first steps of the assigned regions. -/
def stepNext (hooks : Tbl HookReg) (noHooks : Bool) (w : StepWord) : List Nat :=
  stepSuccs w noHooks ++
    (if w.unit = 0 && w.op = 3 && !noHooks then hooks.map (fun h => 49152 + 256 * h.1) else [])

/-- The steps that can be reached from entry point 63, in one ascending pass over the steps above it. -/
def poisonReach (ss : List (Nat × StepWord)) (hooks : Tbl HookReg) (noHooks : Bool) : List Nat :=
  ss.foldl (fun acc e => if 63 ≤ e.1 && acc.contains e.1 then acc ++ stepNext hooks noHooks e.2 else acc) [63]

/-- A step that can be reached from entry point 63 names 63 (R48). -/
def poisonLoop (ss : List (Nat × StepWord)) (hooks : Tbl HookReg) (noHooks : Bool) (i : Nat) (w : StepWord) : Bool :=
  63 ≤ i && (poisonReach ss hooks noHooks).contains i && (namedSuccs w noHooks).contains 63

/-! ## Figures (R56, R57) -/

/-- The figures of the paths from one step: steps, latency, access, cost, parking, class masks by port, and whether
DMAW DELIVER is reachable. -/
structure Fig where
  s : Nat := 0
  l : Nat := 0
  a : Nat := 0
  b : Nat := 0
  parks : Bool := false
  classes : List Nat := [0, 0, 0, 0, 0, 0, 0, 0]
  dmaw : Bool := false
  deriving DecidableEq, Repr

/-- The union of two lists of masks. -/
def orMasks (x y : List Nat) : List Nat := (List.range 8).map (fun i => x.getD i 0 ||| y.getD i 0)

/-- The maxima of two figures. -/
def Fig.max (x y : Fig) : Fig :=
  { s := Nat.max x.s y.s, l := Nat.max x.l y.l, a := Nat.max x.a y.a, b := Nat.max x.b y.b
    parks := x.parks || y.parks, classes := orMasks x.classes y.classes, dmaw := x.dmaw || y.dmaw }

/-- The figures of a step by itself; a HOOK adds the allowance of the table set (R56). -/
def ownFig (allow : Shares) (longest : Nat) (w : StepWord) : Fig :=
  if w.unit = 0 && w.op = 3 then
    { s := 1 + allow.steps, l := 72 * allow.latency, a := allow.access
      b := 320 * (1 + allow.steps) + 72 * allow.latency }
  else
    let l := unitLatency w.unit longest
    { s := 1, l := l, a := unitAccess w.unit, b := 320 + l, parks := unitParks w.unit
      classes := (List.range 8).map (fun n =>
        if w.unit = 12 && w.op = 0 && bits 7 0 w.imm = n then bits 15 8 w.imm else 0)
      dmaw := decide (w.unit = 10) }

/-- The figures of a step with those of its successors. -/
def joinFig (x y : Fig) : Fig :=
  { s := x.s + y.s, l := x.l + y.l, a := x.a + y.a, b := x.b + y.b, parks := x.parks || y.parks
    classes := orMasks x.classes y.classes, dmaw := x.dmaw || y.dmaw }

/-- The figures of every step, from the last step down; `poison` stands for those of entry point 63 where a later
step names it. -/
def figPass (ss : List (Nat × StepWord)) (allow : Shares) (longest : Nat) (poison : Fig) : Tbl Fig :=
  let noHooks := allow = ⟨0, 0, 0⟩
  ss.foldr (fun e acc =>
    let next := (stepSuccs e.2 noHooks).foldl (fun f t =>
      f.max (if t = 63 && 63 < e.1 then poison else tgetD acc t {})) ({} : Fig)
    (e.1, joinFig (ownFig allow longest e.2) next) :: acc) []

/-- The figures of every step of a bank, for records of at most `longest` bytes. -/
def figures (ss : List (Nat × StepWord)) (allow : Shares) (longest : Nat) : Tbl Fig :=
  figPass ss allow longest (tgetD (figPass ss allow longest {}) 63 {})

/-- A cost in ns, rounded up. -/
def ceilNs (x : Nat) : Nat := (x + 71) / 72

/-- The entry points that have a summary record (R57). -/
def summaryEntries : List Nat := List.range 24 ++ [62, 63]

/-- The longest record of an entry point; without one declared, 16,704 bytes (R45). -/
def longestOf (d : TableDecl) (e : Nat) : Nat :=
  match tget d.summary e with
  | some x => if x.longest = 0 then 16704 else x.longest
  | none => 16704

/-- The figures of an entry point. -/
def entryFig (ss : List (Nat × StepWord)) (d : TableDecl) (e : Nat) : Fig :=
  tgetD (figures ss d.allow (longestOf d e)) e {}

/-- The entry point is paced and nothing else. -/
def onlyPaced (d : TableDecl) (e : Nat) : Bool := classOf d e = 8

/-- A summary record agrees with the figures (check 5). -/
def summaryOk (x : Summary) (f : Fig) : Bool :=
  x.sMax = f.s && x.lMax = ceilNs f.l && x.aMax = f.a && x.b = ceilNs f.b && x.parks = f.parks &&
    orMasks x.classes [] = f.classes

/-! ## Hook regions (R72, R74) -/

/-- An operation that a hook may use, on a table in which its FID holds capacity (R72). -/
def hookOpOk (s : State) (fid : Nat) (w : StepWord) : Bool :=
  match w.unit with
  | 0 => w.op = 0 || w.op = 2 || w.op = 4 || w.op = 5
  | 1 => true
  | 2 => true
  | 3 => true
  | 4 => holds
  | 5 => holds
  | 7 => true
  | 14 => true
  | _ => false
where
  /-- The FID holds capacity in the table that the step names. -/
  holds : Bool := [0, 1, 2, 3].any (fun p =>
    match tget s.fwt.grants ((fid * 16 + bits 3 0 w.imm) * 4 + p) with
    | some g => 0 < g.maxEntries
    | none => false)

/-- A step of a hook region obeys R72. -/
def hookStepOk (s : State) (b : Bank) (noHooks : Bool) (i : Nat) (w : StepWord) : Bool :=
  match hookAt b i with
  | some h => hookOpOk s h.fid w && (namedSuccs w noHooks).all (fun t => regionOf t = regionOf i || t = 63)
  | none => true

/-- The figures of a region lie within its shares, and its shares within the allowance (R74). Steps of the poison handler that the
region reaches count in its figures (DESIGN CHOICE, log entry 127). -/
def hookFits (figs : Tbl Fig) (d : TableDecl) (n : Nat) (h : HookReg) : Bool :=
  let f := tgetD figs (49152 + 256 * n) {}
  f.s ≤ h.shares.steps && f.a ≤ h.shares.access && f.l + 320 * f.s ≤ 72 * h.shares.latency &&
    h.shares.steps ≤ d.allow.steps && h.shares.access ≤ d.allow.access && h.shares.latency ≤ d.allow.latency

/-! ## Checks 6 to 10 -/

/-- B_max of a bank (R30). -/
def bMaxOf (ss : List (Nat × StepWord)) (d : TableDecl) : Nat :=
  (List.range 64).foldl (fun m e => if onlyPaced d e then m else Nat.max m (ceilNs (entryFig ss d e).b)) 0

/-- The paced classes of a port (R58). -/
def pacedMask (d : TableDecl) (n : Nat) : Nat := d.paced.getD n 0

/-- The sum of R29 without W: the fixed segments of a path class (Table 1.5). Entry point 62 has no MAC receive
segment (R224). -/
def fixedNs (cls : Nat) (onlyLoop : Bool) : Nat :=
  match cls with
  | 0 => if onlyLoop then 450 else 570
  | 1 => 330
  | _ => 290

/-- W of a port and class fits in what the budget leaves (R30). -/
def waitFits (s : State) (n c room : Nat) : Bool :=
  match (cfgLayout s)[n]? with
  | none => true
  | some blk =>
    match (cfgPort s n).waitBytes c with
    | none => false
    | some bytes => bytes * 8 ≤ room * blk.gbps

/-- Check 8 for one path class: the sum of R29 for every bounded class that its entry points name. -/
def classFits (s : State) (ss : List (Nat × StepWord)) (d : TableDecl) (cls : Nat) : Bool :=
  let es := (List.range 64).filter (fun e => bitOf cls (classOf d e))
  let base := fixedNs cls (es.all (· = 62)) + bMaxOf ss d
  es.isEmpty || (base ≤ classBudget d cls &&
    (cls = 0 || es.all (fun e => (List.range 8).all (fun n => (List.range 8).all (fun c =>
      !bitOf c ((entryFig ss d e).classes.getD n 0) || bitOf c (pacedMask d n) ||
        waitFits s n c (classBudget d cls - base))))))

/-- Check 9 for one entry point. -/
def pacedOk (ss : List (Nat × StepWord)) (d : TableDecl) (e : Nat) : Bool :=
  let f := entryFig ss d e
  let pc := classOf d e
  let named := fun (want : Bool) => (List.range 8).all (fun n => (List.range 8).all (fun c =>
    !bitOf c (f.classes.getD n 0) || bitOf c (pacedMask d n) = want))
  (!f.parks || pc = 8) && (!bitOf 3 pc || (!f.dmaw && named true)) && (pc % 8 = 0 || named false)

/-- Check 10: the declared port parameters equal the configuration (R59, R186). -/
def portsMatch (s : State) (d : TableDecl) : Bool :=
  let l := cfgLayout s
  d.ports.length = l.length && (List.range l.length).all (fun n =>
    match tget d.ports n, l[n]? with
    | some x, some blk =>
      x.mode = blk.type && x.maxFrame = (cfgPort s n).maxFrame &&
        (List.range 8).all (fun c => x.burst.getD c 0 = ((cfgPort s n).cls c).burst)
    | _, _ => false)

/-- The first index among visited steps that fails a test. -/
def firstFail (ss : List (Nat × StepWord)) (f : Nat → StepWord → Bool) : Option Nat :=
  (ss.find? (fun e => !f e.1 e.2)).map (·.1)

/-- The first check of Table 2.7 that fails, with its status and index; none when all pass. A check that names no single step
shows index 0 or that of its entry point (DESIGN CHOICE, log entry 127). -/
def sealChecks (s : State) (bank : Bank) : Option (Status × Nat) :=
  let b := withEntries bank
  let ss := visitedSteps b
  match b.decl with
  | none => some (.badParam, 0)
  | some d =>
    let nh := d.allow = ⟨0, 0, 0⟩
    let checks : List (Status × Option Nat) :=
      [ (.badParam, if budgetsOk d then none else some 0),
        (.badParam, firstFail ss (fun _ w => stepOk w)),
        (.badParam, firstFail ss (fun i w =>
          (namedSuccs w nh).all (succOk nh i w) && !poisonLoop ss b.hooks nh i w)),
        (.badParam, firstFail ss (fun _ w => (stepSuccs w nh).all (fun t => (tget b.steps t).isSome))),
        (.badParam, firstFail ss (fun i w => 49152 ≤ i || (namedSuccs w nh).all (· < 49152))),
        (.badParam, summaryEntries.find? (fun e =>
          match tget d.summary e with
          | some x => !summaryOk x (entryFig ss d e)
          | none => true)),
        (.refusedPermission, firstFail ss (fun i w => hookStepOk s b nh i w)),
        (.refusedLimit, (b.hooks.find? (fun h => !hookFits (figures ss d.allow 0) d h.1 h.2)).map
          (fun h => 49152 + 256 * h.1)),
        (.refusedLimit, (List.range 64).find? (fun e =>
          d.stepBudget < (entryFig ss d e).s || d.accessBudget < (entryFig ss d e).a)),
        (.refusedLimit, (List.range 64).find? (fun e => !onlyPaced d e && 430 * 72 < (entryFig ss d e).b)),
        (.refusedLimit, ([0, 1, 2].find? (fun c => !classFits s ss d c)).map (fun c =>
          ((List.range 64).find? (fun e => bitOf c (classOf d e))).getD 0)),
        (.refusedLimit, (List.range 64).find? (fun e => !pacedOk ss d e)),
        (.refusedState, if portsMatch s d then none else some 0) ]
    checks.findSome? (fun c => c.2.map (fun i => (c.1, i)))

/-- The figures that a bank sealed with: B_max. -/
def sealedBMax (bank : Bank) : Nat :=
  match bank.decl with
  | some d => bMaxOf (visitedSteps (withEntries bank)) d
  | none => 0

end Sys2Proof.Machine
end

