-- ==== Sys2Proof/Machine/Banks.lean ====
section
/-! DEFINITION. Step-table banks (R59 to R66, R74 to R78, R517), their commands and registers, and the dispatch of
packets (R49, R52, R53). -/

namespace Sys2Proof.Machine

/-! ## The states of a bank (Table 2.8) -/

/-- Software may write the bank. -/
def BankState.writable (x : BankState) : Bool := x = .idle || x = .loading

/-- A bank that is not IDLE holds a hook region assigned to the FID (R317, R333). -/
def hookHeld (s : State) (fid : Nat) : Bool :=
  [s.seq.bankA, s.seq.bankB].any (fun b => b.st ≠ .idle && tany b.hooks (fun _ h => h.fid = fid))

/-- The hook allowance of the CURRENT bank; zero with none (R74). -/
def currentAllow (s : State) : Shares :=
  match currentBank s with
  | some c => ((bankOf s c).decl.map (·.allow)).getD ⟨0, 0, 0⟩
  | none => ⟨0, 0, 0⟩

/-- Each share lies within an allowance. -/
def sharesWithin (x y : Shares) : Bool := x.steps ≤ y.steps && x.access ≤ y.access && x.latency ≤ y.latency

/-- Created rings leave NOT_READY once the wipe has ended and a bank is CURRENT (Table 3.8, R66). -/
def settleQueues (s : State) : State :=
  if queuesReady s then
    { s with qm := { s.qm with
        ready := true
        tx := tmap s.qm.tx (fun _ r => if r.st = .notReady then { r with st := .stopped } else r)
        rx := tmap s.qm.rx (fun _ r => if r.st = .notReady then { r with st := .stopped } else r)
        cq := tmap s.qm.cq (fun _ c => if c.st = .notReady then { c with st := .stopped } else c) } }
  else s

/-- A discard (R62): the bank returns to IDLE with its contents zeroed, or the refusal is shown. A latched low half stays latched
(DESIGN CHOICE, log entry 128). -/
def discard (s : State) (b : Nat) : Bool × State :=
  let x := bankOf s b
  if x.st = .loading || x.st = .sealed then
    (true, setBank s b { failIndex := x.failIndex })
  else (false, setBank s b { x with sealStatus := 0x13 })

/-! ## Loading an image (R517) -/

/-- The regions of the CURRENT bank that an image with an allowance takes over. -/
def carriedHooks (s : State) (allow : Shares) : Tbl HookReg :=
  match currentBank s with
  | some c => tfilter (bankOf s c).hooks (fun _ h => sharesWithin h.shares allow)
  | none => []

/-- The steps of some regions of the CURRENT bank. -/
def carriedSteps (s : State) (hooks : Tbl HookReg) : Tbl W128 :=
  match currentBank s with
  | some c => tfilter (bankOf s c).steps (fun i _ =>
      match regionOf i with
      | some r => (tget hooks r).isSome
      | none => false)
  | none => []

/-- An image carries steps for indices 0 to 49,151 only, each once (R517). -/
def imageOk (img : TableSet) : Bool :=
  img.steps.all (fun e => e.1 < 49152) && decide (img.steps.map (·.1)).Nodup

/-- Write an image into a bank, with the hook regions that carry over (R517). -/
def putImage (s : State) (b : Nat) (img : TableSet) (st : BankState) : State :=
  let hooks := carriedHooks s img.decl.allow
  let main : Tbl W128 := img.steps.foldl (fun t e => tset t e.1 (BitVec.ofNat 128 e.2)) []
  let x := bankOf s b
  setBank s b { st := st, steps := main ++ carriedSteps s hooks, hooks := hooks, decl := some img.decl
                sealStatus := x.sealStatus, failIndex := x.failIndex }

/-- LOAD_TABLE_SET: an image goes into an IDLE or LOADING bank, and verification begins. -/
def execLoadTableSet (m : Meta) (bank addr len : Nat) (img : TableSet) (rd : ReadResult) (s : State) : Res :=
  .next (runCmd m 0x0110 [.bank bank] false (firstBad [(0, bank ≤ 1), (1, addr < 2 ^ 64), (2, 1 ≤ len && len < 2 ^ 32)])
    (fun s =>
      if !(bankOf s bank).st.writable then no s .refusedState
      else
        match imageRead s addr len rd with
        | (some st, s1) => no s1 st
        | (none, s1) =>
          if imageOk img then bgOpen (putImage s1 bank img .verifying) s.now else no s1 .badParam) s)

/-! ## Flips (R63, R64) -/

/-- The bank that a flip would make CURRENT: the other one where it is SEALED; with none CURRENT, the lower SEALED
bank. -/
def flipTarget (s : State) : Option Nat :=
  match currentBank s with
  | some c => if (bankOf s (1 - c)).st = .sealed then some (1 - c) else none
  | none => if s.seq.bankA.st = .sealed then some 0 else if s.seq.bankB.st = .sealed then some 1 else none

/-- The flip cycle: the new bank is CURRENT, the old one DRAINING, and what is staged becomes live (R63, R186). -/
def flipTo (s : State) (t : Nat) : State :=
  let old := currentBank s
  let s1 := match old with
    | some c => setBank s c { bankOf s c with st := .draining, drainFrom := s.now }
    | none => s
  let s2 := setBank s1 t { bankOf s1 t with st := .current }
  let s3 := goLive { s2 with seq := { s2.seq with epochB := decide (t = 1), flipStatus := 0 } }
  crierFlip (settleQueues (match old with
    | some c => drainBank s3 c
    | none => s3))

/-- A flip request: done, or refused with both banks as they were. -/
def requestFlip (s : State) : Bool × State :=
  let refuse := (false, { s with seq := { s.seq with flipStatus := 0x13 } })
  match flipTarget s with
  | none => refuse
  | some t =>
    match (bankOf s t).decl with
    | some d => if portsMatch s d then (true, flipTo s t) else refuse
    | none => refuse

/-- FLIP. -/
def execFlip (m : Meta) (s : State) : Res :=
  .next (runCmd m 0x0111 [] false none (fun s =>
    match requestFlip s with
    | (true, s1) => ok s1
    | (false, s1) => no s1 .refusedState) s)

/-- A write of SEQ_FLIP (Table 2.12): bit 0 requests a flip, which a mirroring device passes on (R384). -/
def execSeqFlipGo (v : Nat) (s : State) : Res :=
  .next (memWrite s 0 (if bitOf 0 v then
      match requestFlip s with
      | (true, s1) => if mirroring s then twinSend s1 2 (packetBytes 0x0111 0 0 false []) none else s1
      | (false, s1) => s1
    else s))

/-- DISCARD_BANK. -/
def execDiscardBank (m : Meta) (bank : Nat) (s : State) : Res :=
  .next (runCmd m 0x0112 [.bank bank] false (firstBad [(0, bank ≤ 1)])
    (fun s =>
      match discard s bank with
      | (true, s1) => ok s1
      | (false, s1) => no s1 .refusedState) s)

/-! ## Sealing (R59, R60) -/

/-- A write of SEQ_BANK_x.seal: a LOADING bank enters VERIFYING. -/
def execSealRequest (bank : Nat) (s : State) : Res :=
  .next (memWrite s 0 (if 1 < bank then s
    else
      let x := bankOf s bank
      if x.st = .loading then setBank s bank { x with st := .verifying }
      else setBank s bank { x with sealStatus := 0x13 }))

/-- A write of SEQ_BANK_x.discard. -/
def execDiscardRequest (bank : Nat) (s : State) : Res :=
  .next (memWrite s 0 (if 1 < bank then s else (discard s bank).2))

/-- The bytes of a table set's declaration as a bank image part carries them (log entry 53). -/
def declBytes (d : TableDecl) : List Nat :=
  [d.stepBudget, d.accessBudget] ++ leBytes 2 d.rxBudget ++ leBytes 2 d.pushBudget ++ leBytes 2 d.w2wBudget ++
    (List.range 8).map (fun n => d.paced.getD n 0) ++ [d.allow.steps, d.allow.access] ++ leBytes 2 d.allow.latency ++
    d.summary.flatMap (fun e => [e.1] ++ leBytes 2 e.2.sMax ++ leBytes 4 e.2.lMax ++ [e.2.aMax] ++ leBytes 4 e.2.b ++
      [b2n e.2.parks] ++ (List.range 8).map (fun n => e.2.classes.getD n 0) ++ [e.2.pathClass] ++ leBytes 4 e.2.longest) ++
    d.ports.flatMap (fun e => [e.1, e.2.mode] ++ leBytes 2 e.2.maxFrame ++
      (List.range 8).flatMap (fun c => leBytes 4 (e.2.burst.getD c 0)))

/-- Steps in parts of at most 400, as bodies of at most 8,192 bytes carry them. -/
def imageParts : Nat → List (Nat × W128) → List (List (Nat × W128))
  | 0, _ => []
  | fuel + 1, l => if l.isEmpty then [] else l.take 400 :: imageParts fuel (l.drop 400)

/-- A mirroring device sends a bank that has sealed: its steps in type 6 parts, its declaration last (R384). -/
def sendBank (s : State) (b : Nat) : State :=
  if !mirroring s then s
  else
    let x := bankOf s b
    let main := x.steps.filter (fun e => e.1 < 49152)
    let s1 := (imageParts (main.length + 1) main).foldl (fun s part =>
      twinSend s 6 (part.flatMap (fun e => leBytes 4 e.1 ++ leBytes 16 e.2.toNat)) none) s
    match x.decl with
    | some d => twinSend s1 6 (declBytes d) none
    | none => s1

/-- The command in the background that waits for a bank's verification. -/
def sealCommand (s : State) (b : Nat) : Option BgCmd := bgOf s [0x0110, 0x0113] (.bank b)

/-- Verification of a hook load ends (R75): the bank is discarded when a check failed; else the flip follows. -/
def endHookLoad (s : State) (b : Nat) (cmd : BgCmd) (fail : Option Status) : State :=
  match fail with
  | some st => endBg (discard s b).2 cmd { status := st } false
  | none =>
    match requestFlip s with
    | (true, s1) => endBg s1 cmd { status := .done } false
    | (false, s1) => endBg s1 cmd { status := .refusedState } false

/-- The verification of a bank: SEALED, or LOADING again with the status of the check and the first failing index (R59). -/
def sealBank (s : State) (b : Nat) : Option Status × State :=
  let x := bankOf s b
  match sealChecks s x with
  | some (st, i) => (some st, setBank s b { x with st := .loading, sealStatus := st.code, failIndex := i })
  | none => (none, setBank s b { x with st := .sealed, sealStatus := 0, bMax := sealedBMax x })

/-- Verification of a bank ends (R59). A mirroring device sends the bank that sealed, unless a hook load filled it (R384). -/
def execSealComplete (bank : Nat) (s : State) : Res :=
  .next (if 1 < bank then s
    else
      if (bankOf s bank).st ≠ .verifying then s
      else
        let (bad, s0) := sealBank s bank
        let hook := (sealCommand s bank).any (fun c => c.opcode = 0x0113)
        let s1 := if bad.isSome || hook then s0 else sendBank s0 bank
        match sealCommand s1 bank with
        | some cmd =>
          if cmd.opcode = 0x0113 then endHookLoad s1 bank cmd bad
          else endBg s1 cmd { status := bad.getD .done } false
        | none => s1)

/-! ## Hooks (R74, R75) -/

/-- The other bank filled with a copy of the CURRENT one, with a hook in its region. -/
def putHook (s : State) (cur region fid : Nat) (shares : Shares) (steps : List Nat) : State :=
  let c := bankOf s cur
  let first := 49152 + 256 * region
  let dropped := (c.hooks.filter (fun e => e.2.fid = fid)).map (·.1)
  let kept := tfilter c.steps (fun i _ =>
    match regionOf i with
    | some r => r ≠ region && !dropped.contains r
    | none => true)
  let all := (List.range steps.length).foldl (fun t i =>
    tset t (first + i) (BitVec.ofNat 128 (steps.getD i 0))) kept
  let hooks := tset (tfilter c.hooks (fun r h => r ≠ region && h.fid ≠ fid)) region ⟨fid, shares⟩
  let x := bankOf s (1 - cur)
  setBank s (1 - cur) { st := .verifying, steps := all, hooks := hooks, decl := c.decl
                        sealStatus := x.sealStatus, failIndex := x.failIndex }

/-- LOAD_HOOK: the first three acts of R75; SEAL_COMPLETE does the rest. -/
def execLoadHook (m : Meta) (region fid : Nat) (shares : Shares) (raw : Bool) (addr len : Nat) (steps : List Nat)
    (rd : ReadResult) (s : State) : Res :=
  .next (runCmd m 0x0113 ([.fid fid] ++ (if s.seq.bankA.st = .current then [.bank 1] else [.bank 0])) false
    (firstBad [(0, region ≤ 63), (1, isFn fid), (2, shares.steps ≤ 255), (3, shares.access ≤ 6),
      (4, shares.latency ≤ 430), (6, addr < 2 ^ 64), (7, 16 ≤ len && len ≤ 4096 && len % 16 = 0)])
    (fun s =>
      let f := fnOf s fid
      if raw && !f.rawHook then
        let o := no (violate s fid 0x09 2 0) .refusedPermission
        { o with quiet := true }
      else if f.hookRegion ≠ region then no s .refusedPermission
      else
        match currentBank s with
        | none => no s .refusedState
        | some cur =>
          if !sharesWithin shares (currentAllow s) || !sharesWithin f.shares (currentAllow s) ||
              !sharesWithin shares f.shares then
            no s .refusedLimit
          else if (bankOf s (1 - cur)).st ≠ .idle then no s .refusedBusy
          else
            match imageRead s addr len rd with
            | (some st, s1) => no s1 st
            | (none, s1) => bgOpen (putHook s1 cur region fid shares (steps.take (len / 16))) s.now) s)

/-! ## The step window (R77) -/

/-- A write of SEQ_STEP_LO_i latches the low half; the first write makes an IDLE bank LOADING (R62). -/
def execStepLoWrite (i v : Nat) (s : State) : Res :=
  .next (memWrite s 0 (
    let b := s.seq.winBank
    let x := bankOf s b
    if 65536 ≤ i || !x.st.writable then count s 0 cRegWriteDenied
    else
      let s1 := setBank s b { x with st := .loading }
      { s1 with seq := { s1.seq with loLatched := some (i, v % 2 ^ 64) } }))

/-- A write of SEQ_STEP_HI_i commits both halves to the four copies with fresh SECDED, in the bank that SEQ_WINDOW names
at this write; an IDLE bank becomes LOADING (R62). -/
def execStepHiWrite (i v : Nat) (s : State) : Res :=
  .next (memWrite s 0 (
    let b := s.seq.winBank
    let x := bankOf s b
    match s.seq.loLatched with
    | some (j, lo) =>
      if 65536 ≤ i || !x.st.writable || j ≠ i then count s 0 cRegWriteDenied
      else
        let s1 := setBank s b { x with
          st := .loading, steps := tset x.steps i (BitVec.ofNat 128 (lo + v % 2 ^ 64 * 2 ^ 64))
          ecc := tfilter x.ecc (fun k _ => k % 65536 ≠ i) }
        { s1 with seq := { s1.seq with loLatched := none } }
    | none => count s 0 cRegWriteDenied))

/-- A read of SEQ_PIPE_p that covers residency_peak_ns entirely clears it (R9, R12, Table 2.19). -/
def execResidencyPeakRead (p off size : Nat) (s : State) : Res :=
  .next (if p < 4 && memReach s 0 && off ≤ 6 && 8 ≤ off + size && size ≤ 8 then
    modPipe s p (fun x => { x with residencyPeak := 0 })
  else s)

/-! ## The scrubber (R69) -/

/-- The scrubber's pass over one bank: every corrected error is counted and its word written back. A step that cannot be corrected
is left to the engine that reads it (DESIGN CHOICE, log entry 128). -/
def scrubBank (s : State) (b : Nat) : State :=
  let x := bankOf s b
  let fixed := x.ecc.filter (fun e => e.2 = 1)
  let s1 := fixed.foldl (fun s e =>
    countDev { s with seq := { s.seq with eccCorrected := e.1 % 65536 } } cStepEccCorrected) s
  setBank s1 b { x with ecc := tfilter x.ecc (fun _ k => k ≠ 1) }

/-- The scrubber reads every step of both banks once every 10 ms. -/
def execStepScrub (s : State) : Res :=
  .next (if s.now < s.seq.lastScrub + 10000000 then s
  else
    let s1 := scrubBank (scrubBank s 0) 1
    { s1 with seq := { s1.seq with lastScrub := s.now } })

/-! ## Dispatch (R43, R49, R50) -/

/-- The packet at the head of an admission queue goes to a free context and starts in the CURRENT bank; while a domain on its
path is starting it is held (R37). -/
def execDispatch (p : Nat) (s : State) : Res :=
  .next (
    let x := pipeOf s p
    match x.admission, freeCtx x, currentBank s with
    | k :: rest, some c, some b =>
      if p < 4 && domainRuns s (12 + p) && !pathStarting s p k.entry then
        let (traced, n) := traceSample s x k.entry
        setPipe s p { x with admission := rest, ctxs := tset x.ctxs c (takeUp s (startPkt s k b traced)), traceCount := n }
      else s
    | _, _, _ => s)

/-! ## Parked packets (R52, R53) -/

/-- The read stream or channel that a parked packet waits on: its parking step's unit and the acting FID or channel. -/
def parkKey (s : State) (p : Nat) (k : Pkt) : Nat × Nat :=
  let x := stepIn s p 0 k
  if x.w.unit = 11 then (11, bits 51 40 x.bv) else (13, bits 3 0 x.imm)

/-- A packet resumes before no other of its stream, or of its channel, that is to resume first (R53): on a stream, those
that parked before it; on a channel, those whose runs ended before its own, on whatever pipeline they are parked. -/
def resumeTurn (s : State) (p : Nat) (k : Pkt) : Bool :=
  let key := parkKey s p k
  if key.1 = 11 then ((pipeOf s p).parked.takeWhile (fun y => y.ord ≠ k.ord)).all (fun y => parkKey s p y ≠ key)
  else pipes.all (fun q => (pipeOf s q).parked.all (fun y =>
    parkKey s q y ≠ key || y.result.isNone || k.doneAt ≤ y.doneAt))

/-- A packet resumes in a context at the successor of its parking step for the code it received. -/
def resumeIn (s : State) (p c : Nat) (k : Pkt) (cc : Cc) : State :=
  let x := stepIn s p c k
  let n := x.w.succ cc
  let k1 := match k.resultDst with
    | some v => putDst x k v
    | none => k
  let k2 := { k1.traceStep x.idx cc with pc := n, st := CtxState.ready, result := none, resultDst := none, readCc := none, parkCell := none }
  match k.lib with
  | some r =>
    let (s1, k3) := libNext s p { k2 with pc := k.pc } r cc
    setCtx s1 p c k3
  | none =>
    if n = 63 then
      let s1 := setCtx s p c (k2.enterPoison (stepCorrupt s p k2 63))
      if stepCorrupt s p k2 63 then s1 else logPoison s1 p k 0 x.idx
    else setCtx s p c k2

/-- A parked packet whose read or run has finished is dispatched again, with its words and its bank. -/
def execParkedResume (p ord : Nat) (s : State) : Res :=
  .next (
    let x := pipeOf s p
    match x.parked.find? (fun k => k.ord = ord), freeCtx x with
    | some k, some c =>
      match k.result with
      | some cc =>
        if p < 4 && domainRuns s (12 + p) && resumeTurn s p k then
          resumeIn (setPipe s p { x with parked := x.parked.filter (fun y => y.ord ≠ ord) }) p c k cc
        else s
      | none => s
    | _, _ => s)

end Sys2Proof.Machine
end

