-- ==== Sys2Proof/Machine/GrnSteps.lean ====
section
/-! DEFINITION. The steps of GRN (R150) and the events of waiting requests, scrubs and queries (R141, R148,
R149, R152). -/

namespace Sys2Proof.Machine

/-! ## ALLOC (R138 to R145, R150) -/

/-- A step waits with a request in the wait table (R51, R142). -/
def startWait (s : State) (x : StepIn) (r : WaitReq) : State :=
  let s1 := { s with grn := { s.grn with waiting := s.grn.waiting ++ [r], nextId := s.grn.nextId + 1 } }
  issued (setCtx s1 x.p x.c { x.k with st := .wait }) x.p x.c

/-- A request of a step that some pool may serve: the waiting requests are older and are tried first. -/
def allocStep (s : State) (x : StepIn) (o set len lim : Nat) (mark : Bool) : State :=
  let (s1, used) := retryWaiting s s.grn.waiting
  let r : WaitReq :=
    { id := s1.grn.nextId, who := .step x.p x.c, owner := o, set := set, len := len
      came := s.now, deadline := s.now + 16 * lim, dst := x.w.dst }
  match attempt s1 o set len (fun p => used.count p) with
  | .ok g =>
    if g.scrub then startWait g.s x { r with scrub := some ⟨g.bufs, g.list, g.fallback, s.now⟩ }
    else
      let st : Status := if g.fallback then .doneFallback else .done
      doneW (countGrn g.s o st) x st.cc
        (allocWord g.handle false false g.fallback g.list.isSome g.bufs.length) mark
  | .error l =>
    if lim = 0 then
      let st : Status := if l then .refusedLimit else .refusedEmpty
      doneW (countGrn s1 o st) x st.cc 0 mark
    else startWait s1 x { r with allLimit := l }

/-- GRN ALLOC (Table 4.6). -/
def execGrnAlloc (p c : Nat) (s : State) : Res :=
  .next (withStep 8 0 p c s (fun x =>
    let o := bits 11 0 x.bv
    let len := bits 16 0 x.av
    let set := bits 3 0 x.imm
    let m := x.a.p || x.b.p
    if isFrozen s o then doneW s x .frozen 0 false
    else poisonGate s x m
      (if len = 0 then doneW s x .badOperand 0 m
      else
        let early := if set = 0 || set = 2 || hookMismatch x o then some Status.refusedPermission
          else refusedEarly s o set len
        match early with
        | some st => doneW (countGrn s o st) x st.cc 0 m
        | none => allocStep s x o set len (bits 19 8 x.imm) m)))

/-! ## FREE (R146, R147, R150) -/

/-- A FREE that is a violation: GRN_VIOL, the stocks, and the code of R146 and R337. -/
def freeViolation (s : State) (fid code h : Nat) : Cc × State :=
  let s1 := violate (recordGrnViol s code fid h) fid code (h % 2 ^ 32) 0
  (if neverFrozen fid then .refusedPermission else .frozen, s1)

/-- GRN FREE (Table 4.6). -/
def execGrnFree (p c : Nat) (s : State) : Res :=
  .next (withStep 8 1 p c s (fun x =>
    let fid := bits 11 0 x.bv
    let h := bits 39 0 x.av
    unitGate s x fid (x.a.p || x.b.p)
      (if hookMismatch x fid then done s x .refusedPermission
      else match freeHandle s h fid (bitOf 0 x.imm) with
      | (none, _, s1) => advance s1 x { x.k with chains := x.k.chains.filter (fun g => g ≠ h) } .done
      | (some v, at_, s1) =>
        let (cc, s2) := freeViolation s1 fid v at_
        done s2 x cc)))

/-! ## Waiting requests (R141, R148) -/

/-- The waiting request of a number. -/
def waitOf (s : State) (id : Nat) : Option WaitReq := s.grn.waiting.find? (fun r => r.id = id)

/-- The waiting requests up to a number are tried again, oldest first (R139, R141). -/
def execGrnWaitRetry (id : Nat) (s : State) : Res :=
  .next (match waitOf s id with
    | some _ => (retryWaiting s (s.grn.waiting.filter (fun r => r.id ≤ id))).1
    | none => s)

/-- The refusal of a request by its last attempt (R141). -/
def WaitReq.refusal (r : WaitReq) : Status := if r.allLimit then .refusedLimit else .refusedEmpty

/-- A request not served before t + L is refused at t + L (R141). -/
def execGrnWaitExpiry (id : Nat) (s : State) : Res :=
  .next (match waitOf s id with
    | some r =>
      if r.scrub.isNone && r.deadline ≤ s.now then endRequest s r r.refusal 0 else s
    | none => s)

/-- A request whose scrub `j` could not be posted gives the buffers back and goes on: down its chain, waiting, or refused
(R148). The requests before it are tried first (R139), and the time of its scrub does not count against its limit. -/
def resumeRequest (s : State) (r : WaitReq) (j : ScrubJob) : State :=
  let r1 := r.resume s j
  let s1 := setWaiting (undoScrub s j) r1
  let before := (arrivalOrder s1 s1.grn.waiting).takeWhile (fun q => q.id ≠ r.id)
  let (s2, used) := retryWaiting s1 before
  match attempt s2 r.owner r.set r.len (fun p => used.count p) with
  | .ok g => grantWaiting r1 g
  | .error l =>
    if r1.deadline ≤ s.now then endRequest s2 r1 (if l then .refusedLimit else .refusedEmpty) 0
    else setWaiting s2 { r1 with allLimit := l }

/-- The buffers of a scrub can be zeroed: their space functions may issue requests (R148, R518). -/
def scrubPosts (s : State) (o : Nat) (j : ScrubJob) : Bool :=
  j.bufs.all (fun e => !(e.2.st = 1 && e.2.owner ≠ o) || mayIssue s (poolOf s (hPool e.1)).spaceFid)

/-- The last zero write of an inline scrub is posted: the request completes with DEFERRED (R148). -/
def execInlineScrubComplete (id : Nat) (s : State) : Res :=
  .next (match waitOf s id with
    | some r =>
      match r.scrub with
      | some j =>
        if scrubPosts s r.owner j then
          let h := j.list.getD ((j.bufs.map (·.1)).headD 0)
          endRequest (scrubWrites s r.owner j.bufs) r .deferred
            (allocWord h r.waited true j.fallback j.list.isSome j.bufs.length)
        else resumeRequest s r j
      | none => s
    | none => s)

/-! ## The background scrubber (R149) -/

/-- The lowest FREE_DIRTY buffer of a host pool at or after an index. -/
def dirtyFrom (s : State) (p i : Nat) : Option Nat :=
  scanFrom (fun k => if (ledger s (mkHandle p k)).st = 1 then some (mkHandle p k) else none)
    ((poolOf s p).count - i) i

/-- The registered host pools whose space FID may issue requests, in ascending order. -/
def scrubPools (s : State) : List Nat :=
  (s.grn.pools.filter (fun e =>
    4 ≤ e.1 && (e.2.kind = 1 || e.2.kind = 2) && mayIssue s e.2.spaceFid)).map (·.1)

/-- The next FREE_DIRTY buffer in ledger order from a handle on, going round once (R149). -/
def nextDirty (s : State) (h : Nat) : Option Nat :=
  let ps := scrubPools s
  let here := if ps.contains (hPool h) then dirtyFrom s (hPool h) (hIdx h) else none
  match here with
  | some x => some x
  | none =>
    match (ps.filter (fun p => hPool h < p)).findSome? (fun p => dirtyFrom s p 0) with
    | some x => some x
    | none => ps.findSome? (fun p => dirtyFrom s p 0)

/-- The background scrubber zeroes the next FREE_DIRTY host buffer; a rate of 0 stops it, and so does a stopped GRANARY domain
(R33, R149, R152). -/
def execBackgroundScrub (s : State) : Res :=
  .next (if s.grn.scrubRate = 0 || !domainRuns s 17 then s
    else
      match nextDirty s s.grn.scrubAt with
      | none => s
      | some h =>
        let x := poolOf s (hPool h)
        let n := 2 ^ x.sizeLog2
        let s1 := emit s (.hostWrite x.spaceFid (x.base + hIdx h * n) (List.replicate n PByte.zero))
        let s2 := countN s1 0xFFF cGrnScrubBytes n
        let b := ledger s2 h
        let s3 := setBuf s2 h { b with st := 0, owner := 0xFFE }
        { s3 with grn := { s3.grn with scrubAt := h + 1 } })

/-! ## Queries (R152, Table 4.2) -/

/-- A write to GRN_QUERY clears done and starts a lookup of the handle. -/
def execGrnQueryWrite (v : Nat) (s : State) : Res :=
  .next (memWrite s 0 { s with grn := { s.grn with query := v % 2 ^ 40, queryDone := false } })

/-- State, owner and issue count of a handle (Table 4.2, Table 4.12); a cell of pool 2 is held by a parked packet (R126, log
entry 120). -/
def queryFields (s : State) (h : Nat) : Nat × Nat × Nat :=
  if !handleValid s h then (3, 0, 0)
  else if hPool h = 2 then
    if parkHeld s h then (2, 0xFFF, 0) else (0, 0xFFE, 0)
  else
    let b := ledger s h
    (b.st, b.owner, if hPool h < 4 then 0 else b.issues)

/-- The lookup of the last write to GRN_QUERY ends (R152). -/
def execGrnQueryComplete (s : State) : Res :=
  .next (if s.grn.queryDone then s
    else
      let (st, o, n) := queryFields s s.grn.query
      { s with grn := { s.grn with
          queryDone := true, queryState := st, queryOwner := o, queryIssues := n } })

end Sys2Proof.Machine
end

