-- ==== Sys2Proof/Machine/PciBase.lean ====
section
/-! DEFINITION. Device reads (R358, R362 to R365): streams, tags, issue, and the release of read data in stream
order to the units that wait for it. -/

namespace Sys2Proof.Machine

/-! ## Streams and tags -/

/-- The stream of the reads of a function on a pipeline (R358). The reads of a haul channel and of the Steward are streams of their
own, each of which has one read at a time: a row issues it and ends it (`rowRead`). -/
def fnStream (fid p : Nat) : Nat := fid * 8 + p

/-! ## Issue (R322, R358, R362) -/

/-- Max_Read_Request_Size of the reads of a FID: PF1 has its own, virtual functions take PF0's (R349; log entry 39). -/
def readMax (s : State) (fid : Nat) : Nat := 128 * 2 ^ bits 14 12 (pciOf s (if fid = 1 then 1 else 0)).devCtl

/-- The bytes of one piece of a read from an address: up to a size, within a 4 KiB page (R280). -/
def pieceLen (mx addr len : Nat) : Nat := min len (min mx (4096 - addr % 4096))

/-- The pieces of a read: address and length, in address order. -/
def piecesFrom (mx : Nat) : Nat → Nat → Nat → List (Nat × Nat)
  | 0, _, _ => []
  | fuel + 1, addr, len =>
    if len = 0 then []
    else
      let n := pieceLen mx addr len
      (addr, n) :: piecesFrom mx fuel (addr + n) (len - n)

/-- Change one read of the list by its place. -/
def setRead (s : State) (i : Nat) (r : Read) : State :=
  { s with pci := { s.pci with reads := s.pci.reads.set i r } }

/-- Give a read that waits a tag and issue it, if one is free. -/
def tagRead (s : State) (i : Nat) (r : Read) : State :=
  let (d, s1) := draw s
  match pickTag s1 r.link d with
  | some t =>
    emit (setRead s1 i { r with tag := some t, at_ := s.now, tmo := ctoOf s (requester r.fid) })
      (.hostRead (requester r.fid) r.addr r.len r.link t)
  | none => s

/-- Append a read to its stream and issue it; a read that finds no free tag waits and is counted (R362). A read of a
function that may not issue requests takes no tag (R518). -/
def issueRead (s : State) (fid addr len stream : Nat) (use : ReadUse) : State :=
  let i := s.pci.reads.length
  let r : Read :=
    { link := linkOf s (requester fid), tag := none, addr := addr, fid := fid, stream := stream
      use := use, at_ := s.now, len := len }
  let s0 : State := { s with pci := { s.pci with reads := s.pci.reads ++ [r] } }
  let s1 := if mayIssue s fid then tagRead s0 i r else s0
  if mayIssue s fid && (s1.pci.reads[i]?.map (fun x => x.tag.isNone)) = some true then countDev s1 cPciTagWait else s1

/-- Reads that wait take the tags that have become free, oldest first (R362). -/
def issueWaiting (s : State) : State :=
  (List.range s.pci.reads.length).foldl (fun s i =>
    match s.pci.reads[i]? with
    | some r => if r.tag.isNone && r.fin.isNone && mayIssue s r.fid then tagRead s i r else s
    | none => s) s

/-! ## Release in stream order (R358) -/

/-- The result of a read as a condition code (R84). -/
def readCc : ReadResult → Cc
  | .ok => .done
  | .timeout | .error => .failedTimeout
  | .poisoned => .failedParity

/-- A piece of a parked packet's read has come: its bytes go to the cells with their mark, and with the last
piece the packet can resume (R84). Where pieces end differently, the first in stream order that is not DONE decides the code
(DESIGN CHOICE, log entry 133: the spec does not say which). -/
def dmarPiece (s : State) (r : Read) (p ord handle off : Nat) (res : ReadResult) : State :=
  let s1 := if res = .timeout then s
    else writeChain s handle off
      ((r.data.take r.len).map (fun b => (⟨BitVec.ofNat 8 b, res = .poisoned⟩ : PByte)))
  let more := s1.pci.reads.any (fun y =>
    match y.use with
    | .dmar p2 o2 _ _ => p2 = p && o2 = ord
    | _ => false)
  let s2 := modPipe s1 p (fun x => { x with parked := x.parked.map (fun k =>
    if k.ord = ord && k.readCc.isNone && res ≠ .ok then { k with readCc := some (readCc res) } else k) })
  if more then s2
  else
    let cc := ((pipeOf s2 p).parked.find? (fun k => k.ord = ord)).bind (·.readCc)
    resumeParked s2 p ord (cc.getD .done) none

/-- Remove the read at a place. -/
def dropRead (s : State) (i : Nat) : State :=
  { s with pci := { s.pci with reads := s.pci.reads.eraseIdx i } }

/-- Every earlier read of the stream has ended or was abandoned. -/
def streamReady (rs : List Read) (i : Nat) (r : Read) : Bool :=
  (rs.take i).all (fun y => y.stream ≠ r.stream || y.fin.isSome || y.abandoned)

/-- Deliver the ended reads of parked packets that no earlier read of their stream holds back (R358). Fetch
reads stay until the queue manager takes them. -/
def releaseReads : Nat → State → State
  | 0, s => s
  | fuel + 1, s =>
    let rs := s.pci.reads
    match (List.range rs.length).find? (fun i =>
        match rs[i]? with
        | some r =>
          match r.use with
          | .dmar _ _ _ _ => r.fin.isSome && streamReady rs i r
          | .fetch _ _ => false
        | none => false) with
    | none => s
    | some i =>
      match rs[i]? with
      | some r =>
        let s1 := dropRead s i
        match r.use, r.fin with
        | .dmar p ord h off, some res => releaseReads fuel (dmarPiece s1 r p ord h off res)
        | _, _ => releaseReads fuel s1
      | none => s

/-- A read ends: its result and data are kept, its tag is free again, and what can be delivered is. -/
def endRead (s : State) (i : Nat) (r : Read) (res : ReadResult) (data : List Nat) : State :=
  let s1 := setRead s i { r with fin := some res, data := data }
  issueWaiting (releaseReads (s1.pci.reads.length + 1) s1)

/-- A fetch read that is over and whose stream has reached it. -/
def fetchReady (s : State) (rx : Bool) (q : Nat) : Option (Nat × Read) :=
  let rs := s.pci.reads
  (List.range rs.length).findSome? (fun i =>
    match rs[i]? with
    | some r =>
      if r.use = .fetch rx q && r.fin.isSome && streamReady rs i r then some (i, r) else none
    | none => none)

/-- Requests of a function that has become unable to issue end: reads not yet issued end with
FAILED_TIMEOUT (R518). -/
def failWaiting (s : State) (fid : Nat) : State :=
  let s1 := { s with pci := { s.pci with reads := s.pci.reads.map (fun r =>
    if requester r.fid = fid && r.tag.isNone && r.fin.isNone then { r with fin := some .timeout }
    else r) } }
  releaseReads (s1.pci.reads.length + 1) s1

end Sys2Proof.Machine
end

