-- ==== Sys2Proof/Machine/Queues.lean ====
section
/-! DEFINITION. The queue manager's events: doorbells and pushes (R96 to R101), consumer writes and arming
(R113, R114), the schedule of fetches (R102, R103), and the arrival of an entry (R92, R104 to R108). -/

namespace Sys2Proof.Machine

/-! ## Windows (R88, R97) -/

/-- What a doorbell window holds. -/
inductive WinRing where
  | ring (rx : Bool) (q : Nat) (r : Ring)
  | cq (n : Nat) (c : CqRing)
  deriving DecidableEq, Repr

/-- The windows of a function (R88, Table 12.5). -/
def windowsOf (fid : Nat) : Nat := if isVf fid then 64 else 256

/-- The ring at window `k` of a function. -/
def atWindow (s : State) (fid k : Nat) : Option WinRing :=
  match s.qm.tx.find? (fun e => e.2.fid = fid && e.2.window = k), rxAtWindow s fid k with
  | some (q, r), _ => some (.ring false q r)
  | none, some (q, r) => some (.ring true q r)
  | none, none =>
    (s.qm.cq.find? (fun e => e.2.fid = fid && e.2.window = k)).map (fun e => .cq e.1 e.2)

/-- An illegal doorbell: violation 0x05 with the window and the value written (Table 11.6). -/
def badDoorbell (s : State) (fid window v : Nat) : State :=
  violate s fid 0x05 (window % 256 + v % 2 ^ 24 * 256) 0

/-- A malformed entry: violation 0x04 with the window and the position (Table 11.6). -/
def badEntry (s : State) (r : Ring) (pos : W32) : State :=
  violate s r.fid 0x04 (r.window % 256 + pos.toNat % 2 ^ 24 * 256) 0

/-- A write into a doorbell window of a function: it reaches the function, and the doorbells of a function in
the stocks are ignored and counted, or counted as a violation in the cycle of its entry (R335, R336, R356). -/
def windowWrite (s : State) (fid : Nat) (f : State) : State :=
  memWrite s fid (if isFrozen s fid then
      let (joined, s1) := joinOnly s f fid
      if joined then s1 else count s fid cFrozenRefused
    else f)

/-! ## Doorbells (R96, R97) -/

/-- A new producer position that R96 allows. -/
def doorbellOk (r : Ring) (v : W32) : Bool :=
  (v - r.c).toNat ≤ 2 ^ r.sizeLog2 && (r.p - r.c).toNat ≤ (v - r.c).toNat

/-- A position doorbell on a ring. -/
def ringDoorbell (s : State) (fid : Nat) (rx : Bool) (q : Nat) (r : Ring) (v : W32) : State :=
  if doorbellOk r v then holdUpdate (setRing s rx q { r with p := v }) r.cq
  else badDoorbell s fid r.window v.toNat

/-- A consumer position that R114 allows. -/
def consumerOk (c : CqRing) (v : W32) : Bool :=
  (c.pc - v).toNat ≤ c.used && (c.pc - v).toNat ≤ 2 ^ c.sizeLog2

/-- A consumer write to a completion ring, which arms it where `arm` says (R113, R114, R116). -/
def cqConsume (s : State) (fid n : Nat) (c : CqRing) (v : W32) (arm : Bool) : State :=
  if !consumerOk c v then badDoorbell s fid c.window v.toNat
  else
    let s1 := setCq s n { c with c := v, armed := c.armed || arm }
    let s2 := cqDrain s1 n
    match cqOf s2 n with
    | some d => if arm && d.armed && d.pc ≠ v then holdUpdate (cqCounter s2 n) n else holdUpdate s2 n
    | none => s2

/-- A 4-byte write at offset 0 of a window: a doorbell, or the consumer position of a completion ring. -/
def windowPos (s : State) (fid window : Nat) (v : W32) : State :=
  match atWindow s fid window with
  | some (.ring rx q r) => ringDoorbell s fid rx q r v
  | some (.cq n c) => cqConsume s fid n c v false
  | none => badDoorbell s fid window v.toNat

/-- A write into a doorbell window of at most 8 bytes (Table 3.5). A write there that is longer and no push is violation 0x05 in
this row and in INLINE_PUSH (R97), and discarded and counted in `reg_write_denied` in REGISTER_WRITE (R356): the spec says
both (DESIGN CHOICE, log entry 134). -/
def execDoorbell (fid window off size v : Nat) (s : State) : Res :=
  .next (windowWrite s fid
    (if windowsOf fid ≤ window then count s fid cRegWriteDenied
    else if off = 0 && size = 4 then windowPos s fid window (BitVec.ofNat 32 v)
    else if off = 4 && size = 4 then
      match atWindow s fid window with
      | some (.cq n c) => cqConsume s fid n c (BitVec.ofNat 32 v) true
      | _ => badDoorbell s fid window v
    else badDoorbell s fid window v))

/-- A consumer write to a completion ring's window. -/
def execCompletionConsumerWrite (fid window v : Nat) (s : State) : Res :=
  .next (windowWrite s fid
    (if windowsOf fid ≤ window then count s fid cRegWriteDenied
    else windowPos s fid window (BitVec.ofNat 32 v)))

/-- A consumer write that arms a completion ring. -/
def execCompletionArm (fid window v : Nat) (s : State) : Res :=
  .next (windowWrite s fid
    (if windowsOf fid ≤ window then count s fid cRegWriteDenied
    else
      match atWindow s fid window with
      | some (.cq n c) => cqConsume s fid n c (BitVec.ofNat 32 v) true
      | _ => badDoorbell s fid window v))

/-! ## Inline push (R99 to R101) -/

/-- Entries in inline-push staging. -/
def stagedAll (s : State) : Nat :=
  tsum s.qm.tx (fun _ r => r.staged.length) + tsum s.qm.rx (fun _ r => r.staged.length)

/-- A push into a ring: its checks, then staging or the fallback (R99, R101). -/
def pushEntry (s : State) (rx : Bool) (q : Nat) (r : Ring) (bytes : List Nat) : State :=
  let len := bytes.getD 2 0
  let v := r.p + BitVec.ofNat 32 len
  if 32 * len ≠ bytes.length || !bitOf 2 (bytes.getD 1 0) then badEntry s r r.p
  else if !doorbellOk r v then badDoorbell s r.fid r.window v.toNat
  else if stagedAll s < 4096 then
    holdUpdate (setRing s rx q { r with p := v, staged := r.staged ++ [(r.p, timeNow s, bytes)] }) r.cq
  else
    holdUpdate (count (setRing s rx q { r with p := v, marks := r.marks ++ [r.p] }) r.fid cPushFallback) r.cq

/-- A write of a whole entry into a doorbell window. -/
def execInlinePush (fid window : Nat) (bytes : List Nat) (s : State) : Res :=
  .next (windowWrite s fid
    (if windowsOf fid ≤ window then count s fid cRegWriteDenied
    else if bytes.length = 0 || bytes.length % 32 ≠ 0 || 512 < bytes.length then
      badDoorbell s fid window (leNat (bytes.take 4))
    else
      match atWindow s fid window with
      | some (.ring rx q r) => pushEntry s rx q r bytes
      | _ => badDoorbell s fid window (leNat (bytes.take 4))))

/-! ## The schedule (R102, R103) -/

/-- The completion ring of a queue has a credit, and its queues hold fewer than 64 entries (R115). -/
def creditOk (s : State) (r : Ring) : Bool :=
  match cqOf s r.cq with
  | some c => 0 < c.credit && unretiredOf s r.cq < 64
  | none => false

/-- A queue is eligible (R102). -/
def eligible (s : State) (r : Ring) : Bool :=
  r.st = .running && r.f ≠ r.p && !r.fetching && !(r.fenced && !r.entries.isEmpty) && creditOk s r &&
    mayIssue s r.fid

/-- A transmit queue is eligible on its pipeline, which takes new work (Table 12.12). -/
def eligibleTx (s : State) (p : Nat) (r : Ring) : Bool :=
  r.pipeline = p && eligible s r && !domainClosed s (12 + p)

/-- The lowest eligible queue above the last one visited whose weight lies above a pass. -/
def passQueue (s : State) (p pass : Nat) (last : Option Nat) : Option Nat :=
  (s.qm.tx.find? (fun e => eligibleTx s p e.2 && pass < e.2.effWeight &&
    match last with
    | some n => n < e.1
    | none => true)).map (·.1)

/-- The next queue of a round from a pass on: its pass and number. -/
def roundQueue (s : State) (p : Nat) : Nat → Nat → Option Nat → Option (Nat × Nat)
  | 0, _, _ => none
  | fuel + 1, pass, last =>
    match passQueue s p pass last with
    | some q => some (pass, q)
    | none => roundQueue s p fuel (pass + 1) none

/-- A round ends: the weights and bursts written since take effect (R103). -/
def newRound (s : State) (p : Nat) (sc : Sched) : State :=
  { s with qm := { s.qm with
      tx := tmap s.qm.tx (fun q r =>
        if r.pipeline = p then { r with effWeight := (weightOf s q).1, effBurst := (weightOf s q).2 } else r)
      sched := tset s.qm.sched p { sc with pass := 0, last := none, left := 0, rounds := sc.rounds + 1 } } }

/-- The queue that a pipeline visits next, with the schedule as the visit leaves it; the visit of a queue
whose fetch is outstanding goes on (log entry 45). -/
def nextVisit (s : State) (p : Nat) : Option Nat × State :=
  let sc := tgetD s.qm.sched p {}
  let goOn := match sc.last with
    | some q => (tget s.qm.tx q).map (fun r => (q, r))
    | none => none
  match goOn with
  | some (q, r) =>
    if 0 < sc.left && r.fetching then (none, s)
    else if 0 < sc.left && eligibleTx s p r then
      (some q, { s with qm := { s.qm with sched := tset s.qm.sched p { sc with left := sc.left - 1 } } })
    else search s p sc
  | none => search s p sc
where
  /-- Look for the next visit in this round, then in a new one. -/
  search (s : State) (p : Nat) (sc : Sched) : Option Nat × State :=
    let visit := fun (s : State) (sc : Sched) (e : Nat × Nat) =>
      let b := ((tget s.qm.tx e.2).map (·.effBurst)).getD 1
      (some e.2, { s with qm := { s.qm with
        sched := tset s.qm.sched p { sc with pass := e.1, last := some e.2, left := b - 1 } } })
    match roundQueue s p (255 - sc.pass) sc.pass sc.last with
    | some e => visit s sc e
    | none =>
      let s1 := newRound s p sc
      match roundQueue s1 p 255 0 none with
      | some e => visit s1 (tgetD s1.qm.sched p {}) e
      | none => (none, s1)

/-- The bytes of one entry fetch: to the ring's end, to P, and at most 16 slots (log entry 46). -/
def fetchSlots (r : Ring) : Nat :=
  min 16 (min (2 ^ r.sizeLog2 - r.f.toNat % 2 ^ r.sizeLog2) (r.p - r.f).toNat)

/-- The stream of a queue's fetch reads (R358); receive rings have one of their own. -/
def fetchStream (r : Ring) (rx : Bool) : Nat := fnStream r.fid (if rx then 4 else r.pipeline)

/-- Start the fetch of the entry at F: from staging with no host read, else by a read of ring memory (R101). -/
def startFetch (s : State) (rx : Bool) (q : Nat) (r : Ring) : State :=
  let s1 := setRing s rx q { r with fetching := true }
  if r.staged.any (fun e => e.1 = r.f) then s1
  else
    issueRead s1 r.fid (r.base + 32 * (r.f.toNat % 2 ^ r.sizeLog2)) (32 * fetchSlots r) (fetchStream r rx)
      (.fetch rx q)

/-- A visit to a queue starts a fetch: the transmit queue the pipeline's round has reached, or an eligible
receive ring (R103). -/
def execQueueFetch (rx : Bool) (n : Nat) (s : State) : Res :=
  .next (match ringOf s rx n with
    | none => s
    | some r =>
      if rx then
        if eligible s r then startFetch s true n r else s
      else
        match nextVisit s r.pipeline with
        | (some q, s1) =>
          if q = n then
            match ringOf s1 false n with
            | some r1 => startFetch s1 false n r1
            | none => s
          else s
        | (none, _) => s)

/-! ## The arrival of an entry (R92, R104 to R108) -/

/-- The header of an entry (Table 3.2). -/
structure EntryHdr where
  opcode : Nat
  flags : Nat
  len : Nat
  parity : Nat
  tag : Nat
  deriving DecidableEq, Repr

/-- The header of an entry's bytes. -/
def EntryHdr.ofBytes (bs : List Nat) : EntryHdr :=
  { opcode := bs.getD 0 0, flags := bs.getD 1 0, len := bs.getD 2 0, parity := bs.getD 3 0
    tag := leNat (slice bs 4 4) }

/-- An opcode is legal on the ring type (Table 3.3). -/
def opcodeOk (rx : Bool) (op : Nat) : Bool :=
  op = 0x00 || op = 0x10 || (if rx then op = 0x20 else op = 0x01 || op = 0x02 || (0x40 ≤ op && op ≤ 0x5F))

/-- The entry at F is malformed (R92): `pushed` says that it comes from staging. -/
def malformed (rx : Bool) (r : Ring) (h : EntryHdr) (bs : List Nat) (pushed : Bool) : Bool :=
  let push := bitOf 2 h.flags
  let cnt := leNat (slice bs 8 2)
  h.parity ≠ xorBytes (bs.take 3) || h.len = 0 || 16 < h.len || !opcodeOk rx h.opcode || h.flags / 8 ≠ 0 ||
    2 ^ r.sizeLog2 < r.f.toNat % 2 ^ r.sizeLog2 + h.len ||
    (if pushed then !push else push && !r.marks.contains r.f) ||
    (h.opcode = 0x20 && (cnt = 0 || 2 + 4 * (h.len - 1) < cnt))

/-- The fetch is over and the entry stays unfetched; a refusal of a cell also ends the visit (R128). -/
def unfetched (s : State) (rx : Bool) (q : Nat) (r : Ring) (endVisit : Bool) : State :=
  let s1 := setRing s rx q { r with fetching := false }
  if endVisit && !rx then
    let sc := tgetD s1.qm.sched r.pipeline {}
    { s1 with qm := { s1.qm with sched := tset s1.qm.sched r.pipeline { sc with left := 0 } } }
  else s1

/-- Take the entry at F into the queue, with the place its packet takes in its pipeline's order: F moves, and one completion
credit is reserved (R18, R95, R115). -/
def takeEntry (s : State) (rx : Bool) (q : Nat) (r : Ring) (h : EntryHdr) (st : Option Status) (ord : Option Nat) :
    State :=
  let fin := r.f + BitVec.ofNat 32 h.len
  let e : Entry := { pos := r.f, fin := fin, opcode := h.opcode, cmpl := bitOf 0 h.flags, tag := h.tag, outcome := st, ord := ord }
  let r1 := { r with
    f := fin, fetching := false, fenced := false, entries := r.entries ++ [e]
    staged := r.staged.filter (fun x => x.1 ≠ r.f), marks := r.marks.filter (fun m => m ≠ r.f) }
  let s1 := setRing s rx q r1
  match cqOf s1 r.cq with
  | some c => holdUpdate (setCq s1 r.cq { c with reserved := c.reserved + 1 }) r.cq
  | none => s1

/-- The FREEs of a RETURN entry in order; a violation stops them and ends the entry with its status (R105, R337). -/
def returnHandles (s : State) (fid : Nat) : List Nat → Status × State
  | [] => (.done, s)
  | h :: t =>
    match freeHandle s h fid false with
    | (none, _, s1) => returnHandles s1 fid t
    | (some v, at_, s1) =>
      let s2 := (freeViolation s1 fid v at_).2
      (if neverFrozen fid then .refusedPermission else .frozen, s2)

/-- A RETURN entry: its FREEs under the ring's FID, then its retirement (R105, R106). -/
def returnEntry (s : State) (q : Nat) (r : Ring) (h : EntryHdr) (bs : List Nat) : State :=
  let pos := r.f
  let s1 := takeEntry s true q r h none none
  let hs := (List.range (leNat (slice bs 8 2))).map (fun i => leNat (slice bs (16 + 8 * i) 8))
  let (st, s2) := returnHandles s1 r.fid hs
  entryEnded s2 true q pos st

/-- A transmit or storage entry enters its pipeline: its slots in pool 1 cells of the queue's FID, and its
descriptor words (R43, R104, R128). -/
def dispatchEntry (s : State) (q : Nat) (r : Ring) (h : EntryHdr) (bs : List Nat) (pushNs : Option Nat) :
    State :=
  let n := 32 * h.len
  if 4096 < admitCells (pipeOf s r.pipeline) + cellsOf n then unfetched s false q r true
  else
    match allocCells s r.fid 1 n with
    | (.error _, s1) => unfetched (count s1 r.fid cTxFetchNoCell) false q r true
    | (.ok a, s1) =>
      let pos := r.f
      let s2 := takeEntry s1 false q r h none (some (pipeOf s1 r.pipeline).nextOrd)
      let w := mkWords (fun i =>
        if i = 24 then a + n * 2 ^ 40
        else if i = 25 then timeNow s
        else if i = 26 then timeFrac s + 0xFF * 2 ^ 16 + r.fid * 2 ^ 24
        else if i = 27 then q + h.tag * 2 ^ 16 else 0)
      let k : Pkt :=
        { ord := 0, words := w, entry := if 0x40 ≤ h.opcode then 16 + r.program else 8 + r.program
          chains := [a], ring := some (q, pos), startNs := pushNs.getD (timeNow s)
          pathClass := if pushNs.isSome && h.opcode = 0x02 then some 1 else none }
      admitPkt (setChain s2 a (pbytes (bs.take n))) r.pipeline k

/-- An entry has arrived: its structure, its fence, and what handles it. -/
def arriveEntry (s : State) (rx : Bool) (q : Nat) (r : Ring) (bs : List Nat) (pushNs : Option Nat) : State :=
  let h := EntryHdr.ofBytes bs
  if r.st ≠ .running || !creditOk s r then unfetched s rx q r false
  else if malformed rx r h bs pushNs.isSome then
    badEntry (unfetched s rx q r false) r r.f
  else if (r.p - r.f).toNat < h.len then unfetched s rx q r true
  else if bitOf 1 h.flags && !r.entries.isEmpty then
    unfetched s rx q { r with fenced := true } true
  else if h.opcode = 0x00 || h.opcode = 0x10 then
    let s1 := takeEntry s rx q r h (some .done) none
    retireHead s1 rx q (r.entries.length + r.failed.length + 2)
  else if rx then returnEntry s q r h bs
  else dispatchEntry s q r h bs pushNs

/-- A fetch that failed: the queue enters HALTED_ERROR, the event is logged, and the completion follows every
earlier entry (R108). -/
def failFetch (s : State) (rx : Bool) (q : Nat) (r : Ring) (st : Status) : State :=
  let s1 := setRing s rx q { r with st := .haltedError, fetching := false, failed := r.failed ++ [(st, r.f)] }
  let s2 := logEvent s1 0x0020 r.fid [.num 2 q, .num 1 st.code]
  retireHead s2 rx q (r.entries.length + r.failed.length + 3)

/-- The fetched entry of a queue has arrived, from staging or from the host (R92, R101, R108). -/
def execEntryFetchComplete (rx : Bool) (q : Nat) (s : State) : Res :=
  .next (match ringOf s rx q with
    | none => s
    | some r =>
      if !r.fetching then s
      else
        match r.staged.find? (fun e => e.1 = r.f) with
        | some (_, ns, bs) => arriveEntry s rx q r bs (some ns)
        | none =>
          match fetchReady s rx q with
          | none => s
          | some (i, rd) =>
            let s1 := dropRead s i
            let s2 := releaseReads (s1.pci.reads.length + 1) s1
            match rd.fin with
            | some .ok => arriveEntry s2 rx q r rd.data none
            | some res =>
              let st : Status := if res = .poisoned then .failedParity else .failedTimeout
              if r.st = .running && mayIssue s2 r.fid && !rd.discard then failFetch s2 rx q r st
              else unfetched s2 rx q r false
            | none => s)

end Sys2Proof.Machine
end

