-- ==== Sys2Proof/Machine/QueueCmds.lean ====
section
/-! DEFINITION. The queue commands of class 0x03 (R85 to R88, R119 to R121, R410) and the QM_ registers they return
(R122). -/

namespace Sys2Proof.Machine

/-! ## Register values (Tables 3.8, 3.12, 3.13) -/

/-- The code of a ring state (Table 3.8). -/
def RingState.code : RingState → Nat
  | .notReady => 0 | .stopped => 1 | .running => 2 | .held => 3 | .haltedHost => 4 | .haltedError => 5
  | .frozen => 6 | .quiescing => 7

/-- QM_TXQ_CFG_q or QM_RXQ_CFG_q. -/
def ringCfg (rx : Bool) (r : Ring) : Nat :=
  r.st.code + r.fid * 2 ^ 8 + (if rx then b2n r.ts else r.pipeline) * 2 ^ 20 +
    (if rx then 0 else r.program) * 2 ^ 24 + r.window * 2 ^ 32 + r.sizeLog2 * 2 ^ 40 + r.cq * 2 ^ 48

/-- QM_TXQ_POS_q or QM_RXQ_POS_q. -/
def ringPos (r : Ring) : Nat := r.p.toNat + r.c.toNat * 2 ^ 32

/-- QM_WEIGHT_q. -/
def ringWeight (s : State) (q : Nat) : Nat := (weightOf s q).1 + (weightOf s q).2 * 2 ^ 8

/-- QM_CQ_CFG_n. -/
def cqCfg (c : CqRing) : Nat :=
  c.st.code + b2n c.armed * 2 ^ 4 + c.fid * 2 ^ 8 + c.msix * 2 ^ 20 + c.window * 2 ^ 32 + c.sizeLog2 * 2 ^ 40 +
    c.backlog.length * 2 ^ 48

/-- QM_CQ_POS_n. -/
def cqPos (c : CqRing) : Nat := c.pc.toNat + c.c.toNat * 2 ^ 32

/-- The QM_ registers of a transmit or receive ring, as command 0x0309 returns them. -/
def ringRegs (s : State) (rx : Bool) (q : Nat) (r : Ring) : List Fld :=
  [.num 8 (ringCfg rx r), .num 8 (ringPos r), .num 8 r.base] ++ (if rx then [] else [.num 4 (ringWeight s q)]) ++
    [.num 4 r.f.toNat]

/-- The QM_ registers of a completion ring. -/
def cqRegs (c : CqRing) : List Fld := [.num 8 (cqCfg c), .num 8 (cqPos c), .num 8 c.base, .num 8 c.ctrAddr]

/-! ## Create (R85 to R88) -/

/-- A base address is aligned to the ring's size or to 4 KiB, whichever is smaller (R86). -/
def baseOk (base sizeLog2 unit : Nat) : Bool := base % min (2 ^ sizeLog2 * unit) 4096 = 0

/-- A size in units is a power of two from 64 to 65,536 (R86). -/
def sizeOk (n : Nat) : Bool := 6 ≤ n && n ≤ 16

/-- The ring types of the commands: 1 transmit, 2 receive, 3 completion (log entry 60). -/
def ringTypeOk (t : Nat) : Bool := 1 ≤ t && t ≤ 3

/-- A free ring number; which one is not stated (log entry 57). -/
def freeRing {α : Type} (s : State) (t : Tbl α) : Option Nat × State :=
  let (d, s1) := draw s
  (scanFrom (fun i => let n := (Sys2Proof.Config.ringPick d + i) % 16384
    if (tget t n).isNone then some n else none) 16384 0, s1)

/-- A window number lies within the function's windows and holds no ring (R88). -/
def windowFree (s : State) (fid window : Nat) : Bool := window < windowsOf fid && (atWindow s fid window).isNone

/-- The state in which a ring is created (Table 3.8). -/
def newState (s : State) : RingState := if queuesReady s then .stopped else .notReady

/-- The completion ring that a create names: there must be one, of the same function (R87). -/
def cqFor (s : State) (fid cq : Nat) (f : State → CmdOut) : CmdOut :=
  match cqOf s cq with
  | none => noItem s .badParam 4
  | some c => if c.fid ≠ fid then no s .refusedPermission else f s

/-- CREATE_TRANSMIT_RING. -/
def execCreateTransmitRing (m : Meta) (fid window base sizeLog2 cq pipeline program weight burst : Nat) (s : State) :
    Res :=
  .next (runCmd m 0x0301 [.fid fid, .ring 3 cq] false
    (firstBad [(0, isFn fid), (1, window < 256), (2, !sizeOk sizeLog2 || (baseOk base sizeLog2 32 && base < 2 ^ 64)),
      (3, sizeOk sizeLog2), (4, cq < 16384), (5, pipeline ≤ 3 || pipeline = 0xFF), (6, program ≤ 7),
      (7, 1 ≤ weight && weight ≤ 255), (8, 1 ≤ burst && burst ≤ 64)])
    (fun s => cqFor s fid cq (fun s =>
      if !inWindows s fid base (32 * 2 ^ sizeLog2) false then no s .refusedPermission
      else if !windowFree s fid window || (fnOf s fid).tx ≤ tcount s.qm.tx (fun _ r => r.fid = fid) then
        no s .refusedLimit
      else
        match freeRing s s.qm.tx with
        | (some n, s1) =>
          okWith (setRing (setWeight s1 n weight burst) false n
            { fid := fid, window := window, base := base, sizeLog2 := sizeLog2, cq := cq
              pipeline := if pipeline = 0xFF then n % 4 else pipeline, program := program
              effWeight := weight, effBurst := burst, st := newState s }) [.num 2 n]
        | (none, _) => no s .refusedLimit)) s)

/-- CREATE_RECEIVE_RING. -/
def execCreateReceiveRing (m : Meta) (fid window base sizeLog2 cq : Nat) (ts : Bool) (s : State) : Res :=
  .next (runCmd m 0x0302 [.fid fid, .ring 3 cq] false
    (firstBad [(0, isFn fid), (1, window < 256), (2, !sizeOk sizeLog2 || (baseOk base sizeLog2 32 && base < 2 ^ 64)),
      (3, sizeOk sizeLog2), (4, cq < 16384)])
    (fun s => cqFor s fid cq (fun s =>
      if !inWindows s fid base (32 * 2 ^ sizeLog2) false then no s .refusedPermission
      else if !windowFree s fid window || (fnOf s fid).rx ≤ tcount s.qm.rx (fun _ r => r.fid = fid) then
        no s .refusedLimit
      else
        match freeRing s s.qm.rx with
        | (some n, s1) =>
          okWith (setRing s1 true n
            { fid := fid, window := window, base := base, sizeLog2 := sizeLog2, cq := cq, ts := ts
              st := newState s }) [.num 2 n]
        | (none, _) => no s .refusedLimit)) s)

/-- CREATE_COMPLETION_RING. -/
def execCreateCompletionRing (m : Meta) (fid window base sizeLog2 ctrAddr msix : Nat) (s : State) : Res :=
  .next (runCmd m 0x0303 [.fid fid] false
    (firstBad [(0, isFn fid), (1, window < 256), (2, !sizeOk sizeLog2 || (baseOk base sizeLog2 16 && base < 2 ^ 64)),
      (3, sizeOk sizeLog2), (4, ctrAddr % 4 = 0 && ctrAddr < 2 ^ 64), (5, msix < 128)])
    (fun s =>
      if fid ≠ 0 && (fnOf s fid).msix ≤ msix then noItem s .badParam 5
      else if !inWindows s fid base (16 * 2 ^ sizeLog2) true || !inWindows s fid ctrAddr 4 true then
        no s .refusedPermission
      else if !windowFree s fid window || (fnOf s fid).cq ≤ tcount s.qm.cq (fun _ c => c.fid = fid) then
        no s .refusedLimit
      else
        match freeRing s s.qm.cq with
        | (some n, s1) =>
          okWith (setCq s1 n
            { fid := fid, window := window, base := base, sizeLog2 := sizeLog2, ctrAddr := ctrAddr, msix := msix
              st := newState s }) [.num 2 n]
        | (none, _) => no s .refusedLimit) s)

/-! ## Destroy, start, stop, resume -/

/-- The parameters that name a ring (Table 14.8). -/
def ringBad (type ring : Nat) : Option Nat := firstBad [(0, ringTypeOk type), (1, ring < 16384)]

/-- A queue is bound to a completion ring. -/
def cqBound (s : State) (n : Nat) : Bool := tany s.qm.tx (fun _ r => r.cq = n) || tany s.qm.rx (fun _ r => r.cq = n)

/-- DESTROY_RING. -/
def execDestroyRing (m : Meta) (type ring : Nat) (s : State) : Res :=
  .next (runCmd m 0x0304 [.ring type ring] false (ringBad type ring)
    (fun s =>
      if type = 3 then
        match cqOf s ring with
        | none => no s .refusedState
        | some c =>
          if c.st ≠ .stopped || cqBound s ring then no s .refusedBusy
          else ok { s with qm := { s.qm with cq := tdel s.qm.cq ring } }
      else
        match ringOf s (type = 2) ring with
        | none => no s .refusedState
        | some r =>
          if r.st ≠ .stopped then no s .refusedBusy
          else if type = 2 then ok { s with qm := { s.qm with rx := tdel s.qm.rx ring } }
          else ok { s with qm := { s.qm with tx := tdel s.qm.tx ring } }) s)

/-- A ring's first start after a release: its backlog drains, and one completion with FROZEN covers what was fetched
before the stocks (R338). -/
def coverStocks (s : State) (rx : Bool) (q : Nat) (r : Ring) : State :=
  if !r.coverFrozen then s
  else
    let s1 := cqDrain s r.cq
    match ringOf s1 rx q with
    | some r1 => coverAll (setRing s1 rx q { r1 with coverFrozen := false }) rx q { r1 with coverFrozen := false } .frozen
    | none => s1

/-- START_RING. -/
def execStartRing (m : Meta) (type ring : Nat) (s : State) : Res :=
  .next (runCmd m 0x0305 [.ring type ring] false (ringBad type ring)
    (fun s =>
      if type = 3 then
        match cqOf s ring with
        | none => no s .refusedState
        | some c =>
          if (c.st ≠ .stopped && c.st ≠ .haltedError) || !(pciOf s c.fid).bme then no s .refusedState
          else ok (holdUpdate (cqDrain (setCq s ring { c with st := .running }) ring) ring)
      else
        match ringOf s (type = 2) ring with
        | none => no s .refusedState
        | some r =>
          if (r.st ≠ .stopped && r.st ≠ .haltedError) || !(pciOf s r.fid).bme then no s .refusedState
          else
            let s1 := coverStocks s (type = 2) ring r
            match ringOf s1 (type = 2) ring with
            | some r1 => ok (holdUpdate (setRing s1 (type = 2) ring { r1 with st := .running }) r1.cq)
            | none => ok s1) s)

/-- A ring that the stop command takes to STOPPED (Table 3.8). -/
def RingState.stoppable (x : RingState) : Bool :=
  x = .running || x = .held || x = .haltedHost || x = .haltedError

/-- STOP_RING. -/
def execStopRing (m : Meta) (type ring : Nat) (s : State) : Res :=
  .next (runCmd m 0x0306 [.ring type ring] false (ringBad type ring)
    (fun s =>
      if type = 3 then
        match cqOf s ring with
        | none => no s .refusedState
        | some c => if c.st.stoppable then ok (setCq s ring { c with st := .stopped }) else no s .refusedState
      else
        match ringOf s (type = 2) ring with
        | none => no s .refusedState
        | some r =>
          if r.st.stoppable then ok (setRing s (type = 2) ring { r with st := .stopped }) else no s .refusedState) s)

/-- Some ring of a FID is HALTED_HOST. -/
def anyHalted (s : State) (fid : Nat) : Bool :=
  tany s.qm.tx (fun _ r => r.fid = fid && r.st = .haltedHost) ||
    tany s.qm.rx (fun _ r => r.fid = fid && r.st = .haltedHost) ||
    tany s.qm.cq (fun _ c => c.fid = fid && c.st = .haltedHost)

/-- Every HALTED_HOST ring of a FID returns to RUNNING, its completion rings with their backlogs drained first
(R120). -/
def resumeRings (s : State) (fid : Nat) : State :=
  let s1 : State := { s with qm := { s.qm with
    cq := tmap s.qm.cq (fun _ c => if c.fid = fid && c.st = .haltedHost then { c with st := .running } else c) } }
  let mine := (s1.qm.cq.filter (fun e => e.2.fid = fid)).map (·.1)
  let s2 := mine.foldl cqDrain s1
  let up := fun (r : Ring) => if r.fid = fid && r.st = .haltedHost then { r with st := .running } else r
  mine.foldl holdUpdate { s2 with qm := { s2.qm with
    tx := tmap s2.qm.tx (fun _ r => up r), rx := tmap s2.qm.rx (fun _ r => up r) } }

/-- RESUME_RINGS. -/
def execResumeRings (m : Meta) (fid : Nat) (s : State) : Res :=
  .next (runCmd m 0x0307 [.fid fid] false (firstBad [(0, isFn fid)])
    (fun s =>
      if !(pciOf s fid).bme || !anyHalted s fid then no s .refusedState else ok (resumeRings s fid)) s)

/-- SET_WEIGHT_AND_BURST: taken at the next round (R103). -/
def execSetWeightAndBurst (m : Meta) (ring weight burst : Nat) (s : State) : Res :=
  .next (runCmd m 0x0308 [.ring 1 ring] false
    (firstBad [(0, ring < 16384), (1, 1 ≤ weight && weight ≤ 255), (2, 1 ≤ burst && burst ≤ 64)])
    (fun s =>
      match ringOf s false ring with
      | none => noItem s .badParam 0
      | some _ => ok (setWeight s ring weight burst)) s)

/-- READ_RING: the QM_ registers of a ring, for the manager or the ring's own function (R408). -/
def execReadRing (m : Meta) (type ring : Nat) (s : State) : Res :=
  .next (runCmd m 0x0309 [.ring type ring] false (ringBad type ring)
    (fun s =>
      if type = 3 then
        match cqOf s ring with
        | none => no s .refusedState
        | some c => if m.fid ≠ 0 && c.fid ≠ m.fid then no s .refusedPermission else okWith s (cqRegs c)
      else
        match ringOf s (type = 2) ring with
        | none => no s .refusedState
        | some r =>
          if m.fid ≠ 0 && r.fid ≠ m.fid then no s .refusedPermission else okWith s (ringRegs s (type = 2) ring r)) s)

end Sys2Proof.Machine
end

