-- ==== Sys2Proof/Machine/MacCmds.lean ====
section
/-! DEFINITION. The port commands of class 0x01 (R61, R185 to R189, R19, R196, R214, Table 14.7), and what a cage
sideband set reports. -/

namespace Sys2Proof.Machine

/-- A port number of the live layout, for a command that names one (check byte 0, R404). -/
def withPort (s : State) (n : Nat) (f : Block → CmdOut) : CmdOut :=
  match portBlock s n with
  | none => noItem s .badParam 0
  | some b => f b

/-! ## Layout and parameters (R61, R185 to R187) -/

/-- SET_PORT_LAYOUT: live at once while no bank is CURRENT or DRAINING, otherwise staged. -/
def execSetPortLayout (m : Meta) (types : List Nat) (s : State) : Res :=
  .next (runCmd m 0x0120 [] false (firstBad [(0, (parseLayout types).isSome)])
    (fun s =>
      if bankLive s then ok { s with mac := { s.mac with staged := some types } } else ok (applyLayout s types)) s)

/-- The declared path of a bank bounds a class of a port: a class that the declarations do not give as paced (R61); one that no
entry point's declaration names counts as bounded (DESIGN CHOICE, log entry 127). -/
def boundedClass (b : Bank) (n c : Nat) : Bool :=
  (b.st = .current || b.st = .draining) &&
    (match b.decl with
      | none => false
      | some d => !bitOf c (d.paced.getD n 0))

/-- A change of parameters raises W for some bounded class of the port (R61). -/
def raisesW (s : State) (n : Nat) (new : Port) : Bool :=
  (List.range 8).any (fun c =>
    (boundedClass s.seq.bankA n c || boundedClass s.seq.bankB n c) &&
      (match (portOf s n).waitBytes c, new.waitBytes c with
        | some a, some b => a < b
        | some _, none => true
        | none, _ => false))

/-- The parameters of 0x0121 that a packet alone shows to be out of range (R187, Table 14.19). -/
def badParams (q : PortParams) : Option Nat :=
  firstBad [(0, q.port < 8), (1, 64 ≤ q.maxFrame && q.maxFrame ≤ 9216), (2, q.fcMode ≤ 1), (3, q.defaultPrio ≤ 7),
    (4, q.xoff < 65536), (5, q.xon < 65536), (6, q.quanta < 65536), (7, q.prioToClass < 2 ^ 24),
    (8, q.burst.length = 8 && q.burst.all (fun v => v < 2 ^ 24)),
    (9, q.onchipKib.length = 8 && q.onchipKib.all (fun v => v < 65536)),
    (10, q.spillMib.length = 8 && q.spillMib.sum ≤ spillArea), (11, q.laneFix ≤ 3), (12, q.stage ≤ 1)]

/-- A port number lies in the layout that a parameter set is for: the staged one where there is one. -/
def inCfgLayout (s : State) (n stage : Nat) : Bool :=
  (portBlock s n).isSome || (stage = 1 && n < (cfgLayout s).length)

/-- SET_PORT_PARAMETERS: applied now, refused when it would raise W (R61), or staged (R186). -/
def execSetPortParameters (m : Meta) (prm : PortParams) (s : State) : Res :=
  .next (runCmd m 0x0121 [.port prm.port] false (badParams prm)
    (fun s =>
      let new := (portOf s prm.port).withParams prm
      if !inCfgLayout s prm.port prm.stage then noItem s .badParam 0
      else if prm.stage = 1 && bankLive s then
        ok { s with mac := { s.mac with
          stagedParams := s.mac.stagedParams.filter (fun q => q.port ≠ prm.port) ++ [prm] } }
      else if raisesW s prm.port new then no s .refusedState
      else ok (setPort s prm.port new)) s)

/-- WITHDRAW_STAGED_CONFIGURATION. -/
def execWithdrawStagedConfiguration (m : Meta) (s : State) : Res :=
  .next (runCmd m 0x0122 [] false none
    (fun s =>
      if s.mac.staged.isNone && s.mac.stagedParams.isEmpty then no s .refusedState
      else ok { s with mac := { s.mac with staged := none, stagedParams := [] } }) s)

/-! ## Link state -/

/-- A port's link comes up: a transition is counted. -/
def linkUpPort (s : State) (n : Nat) : State :=
  let x := portOf s n
  if x.link then s else setPort s n { x with link := true, linkChanges := x.linkChanges + 1 }

/-- A port's link goes down: the frame in transmission is cut, the queued frames are discarded (R204). -/
def linkDownPort (s : State) (n : Nat) : State :=
  let x := portOf s n
  if !x.link then s
  else flushPort (cutFrame (setPort s n { x.cutRx s.now (((portBlock s n).map Block.gbps).getD 0) with
    link := false, anComplete := false, linkChanges := x.linkChanges + 1 }) n) n (cTxLinkFlush n)

/-- The lanes of a block. -/
def blockLanes (b : Block) : List Nat := (List.range b.lanes).map (fun i => b.first + i)

/-- Lane `l` of the network lanes. -/
def macLane (s : State) (l : Nat) : Lane := tgetD s.mac.lanes l {}

/-- Write a lane. -/
def setLaneReg (s : State) (l : Nat) (x : Lane) : State :=
  { s with mac := { s.mac with lanes := tput {} s.mac.lanes l x } }

/-- Lane drivers that a short turned off come back when the port is enabled again (Table 6.6). -/
def restoreDrivers (s : State) (b : Block) : State :=
  (blockLanes b).foldl (fun s l =>
    let x := macLane s l
    if x.driverOff then setLaneReg s l { x with driverOff := false, fault := if x.fault = 3 then 0 else x.fault }
    else s) s

/-- A port is enabled and open. -/
def enablePort (s : State) (n : Nat) (b : Block) : State :=
  let s1 := if (portOf s n).enabled then s else restoreDrivers s b
  setPort s1 n { portOf s1 n with enabled := true, txClosed := false }

/-- A port is disabled: its link goes down. -/
def disablePort (s : State) (n : Nat) : State :=
  linkDownPort (setPort s n { portOf s n with enabled := false, txClosed := false }) n

/-! ## Enable and disable (R189) -/

/-- ENABLE_PORT: refused until a bank is CURRENT (R66). -/
def execEnablePort (m : Meta) (port : Nat) (s : State) : Res :=
  .next (runCmd m 0x0123 [.port port] false (firstBad [(0, port < 8)])
    (fun s => withPort s port (fun b =>
      if (currentBank s).isNone then no s .refusedState else ok (enablePort s port b))) s)

/-- DISABLE_PORT: refused with frames queued, unless they are drained or discarded. -/
def execDisablePort (m : Meta) (port option limitMs : Nat) (s : State) : Res :=
  .next (runCmd m 0x0124 [.port port] false
    (firstBad [(0, port < 8), (1, option ≤ 2), (2, option ≠ 1 || (1 ≤ limitMs && limitMs ≤ 100))])
    (fun s => withPort s port (fun _ =>
      let x := portOf s port
      if option = 0 then if x.queued.isEmpty then ok (disablePort s port) else no s .refusedBusy
      else if option = 2 then ok (disablePort (flushPort s port (cTxDisableFlush port)) port)
      else bgOpen (setPort s port { x with txClosed := true }) (s.now + 1000000 * limitMs))) s)

/-- The end of a drain: DONE once every frame has left, or at the limit REFUSED_BUSY with the frames and bytes that
remain; the port then stays enabled and closed. -/
def execPortDrainEnd (port : Nat) (s : State) : Res :=
  .next (match bgOf s [0x0124] (.port port) with
    | none => s
    | some b =>
      let x := portOf s port
      let n := x.queued.length
      let bytes := (x.queued.map (fun f => f.bytes.length)).sum
      if n = 0 && x.txEnd ≤ s.now then endBg (disablePort s port) b { status := .done } false
      else if b.deadline ≤ s.now then
        endBg s b { status := .refusedBusy, results := [.num 4 n, .num 4 bytes] } false
      else s)

/-! ## Filter and select table (R196, R19) -/

/-- WRITE_GROUP_FILTER. -/
def execWriteGroupFilter (m : Meta) (port : Nat) (words : List Nat) (grpAll : Nat) (s : State) : Res :=
  .next (runCmd m 0x0125 [.port port] false (firstBad [(0, port < 8), (1, words.length = 64), (2, grpAll ≤ 1)])
    (fun s => withPort s port (fun _ =>
      let t : Tbl W64 := ((List.range 64).zip words).foldl (fun t e => tput 0 t e.1 (BitVec.ofNat 64 e.2)) []
      ok (setPort s port { portOf s port with grpHash := t, grpAll := grpAll = 1 }))) s)

/-- Word `w` of a select table from its 128 entries: bits [2j+1:2j] are entry 32w + j (Table 6.12). -/
def selWord (entries : List Nat) (w : Nat) : Nat :=
  ((List.range 32).map (fun j => entries.getD (32 * w + j) 0 * 4 ^ j)).sum

/-- MAC_SEL_n_w at reset: entry i is i mod 4. -/
def selReset : Nat := 0xE4E4E4E4E4E4E4E4

/-- WRITE_SELECT_TABLE. -/
def execWriteSelectTable (m : Meta) (port fields : Nat) (entries : List Nat) (s : State) : Res :=
  .next (runCmd m 0x0126 [.port port] false
    (firstBad [(0, port < 8), (1, fields < 2 ^ 32 && bits 15 10 fields = 0 && bits 31 20 fields = 0),
      (2, entries.length = 128 && entries.all (fun v => v < 4))])
    (fun s => withPort s port (fun _ =>
      let t : Tbl Nat := (List.range 4).foldl (fun t w => tput selReset t w (selWord entries w)) []
      ok (setPort s port { portOf s port with
        sel := t, ipFields := bits 15 0 fields, nonIpFields := bits 31 16 fields }))) s)

/-! ## Cage sidebands (R214, Table 6.12) -/

/-- Cage `c`. -/
def cageOf (s : State) (c : Nat) : Cage := tgetD s.mac.cages c {}

/-- Write a cage. -/
def setCage (s : State) (c : Nat) (x : Cage) : State :=
  { s with mac := { s.mac with cages := tput {} s.mac.cages c x } }

/-- MAC_CAGE_c. -/
def Cage.word (x : Cage) : Nat :=
  b2n x.present + b2n x.intAsserted * 2 + b2n x.lpmode * 4 + b2n x.resetDriven * 8 + b2n x.sclStuck * 16 +
    b2n x.sdaStuck * 32 + b2n x.busShort * 64 + b2n x.noAck * 128 + b2n x.lpmodeShort * 256 +
    b2n x.resetShort * 512 + b2n x.intStuck * 1024 + b2n x.faultSeen * 4096 + x.intEvents.toNat * 2 ^ 32

/-- A cage fault is recorded and logged with the cage and the low word of its register. -/
def cageEvent (s : State) (c : Nat) (x : Cage) : State :=
  let y := { x with faultSeen := true }
  logEvent (setCage s c y) 0x0041 0xFFF [.num 1 c, .num 4 (y.word % 2 ^ 32)]

/-- The two-wire bus of a cage cannot be used. -/
def Cage.busDown (x : Cage) : Bool := x.sclStuck || x.sdaStuck || x.busShort

/-- MODULE_TRANSFER: the transfer goes out on the cage's sideband; `data` is what a read returns or a write sends and
`ack` whether the module acknowledged. -/
def execModuleTransfer (m : Meta) (cage dir dev off len : Nat) (data : List Nat) (ack : Bool) (s : State) : Res :=
  .next (runCmd m 0x0127 [.cage cage] false
    (firstBad [(0, cage < 2), (1, dir ≤ 1), (2, dev < 128), (3, off < 256), (4, 1 ≤ len && len ≤ 128)])
    (fun s =>
      let x := cageOf s cage
      if x.busDown then bgUntil s s.now { status := .failedTimeout }
      else
        let s1 := emit s (.sideband cage dir dev off len (if dir = 1 then data.take len else []))
        if !ack then bgUntil (cageEvent s1 cage { x with noAck := true }) s.now { status := .failedTimeout }
        else
          bgUntil (setCage s1 cage { x with noAck := false }) s.now
            { status := .done, results := if dir = 0 then [.bytes (data.take len)] else [] }) s)

end Sys2Proof.Machine
end

