-- ==== Sys2Proof/Machine/Parse.lean ====
section
/-! DEFINITION. The PARSE steps (R81). -/

namespace Sys2Proof.Machine

/-! ## The steps -/

/-- Run a parser of a PARSE step over the packet's bytes, with the poison rule of R67. -/
def parseStep (op p c : Nat) (s : State) (f : StepIn → List Nat → Nat → PRes) : State :=
  withStep 2 op p c s (fun x =>
    let bs := pktBytes s x.k
    let lim := min bs.length 512
    let r := f x (rawBytes bs) lim
    let m := x.a.p || anyPoison (slice bs r.lo (min r.hi lim - r.lo))
    poisonGate s x m (doneW s x r.cc r.w m))

/-- PARSE L2. -/
def execParseL2 (p c : Nat) (s : State) : Res :=
  .next (parseStep 0 p c s (fun x d lim => parseEth d (bits 8 0 x.imm) lim))

/-- PARSE L3. -/
def execParseL3 (p c : Nat) (s : State) : Res :=
  .next (parseStep 1 p c s (fun x d lim => parseIp d (bits 8 0 x.imm) lim))

/-- PARSE L4 on the L3 word in src_a. -/
def execParseL4 (p c : Nat) (s : State) : Res :=
  .next (parseStep 2 p c s (fun x d lim => parsePorts d x.av lim))

/-- PARSE TUNNEL of the format in imm[11:9]. -/
def execParseTunnel (p c : Nat) (s : State) : Res :=
  .next (parseStep 3 p c s (fun x d lim => parseTun d (bits 8 0 x.imm) lim (bits 11 9 x.imm)))

/-- PARSE STORAGE_PDU. -/
def execParseStoragePdu (p c : Nat) (s : State) : Res :=
  .next (parseStep 4 p c s (fun x d lim => parsePdu d (bits 8 0 x.imm) lim))

end Sys2Proof.Machine
end

