-- ==== Sys2Proof/Machine/MacRows.lean ====
section
/-! DEFINITION. What reaches and leaves the ports: received frames (R190 to R196, R16), priority flow control (R205,
R206), transmit (R198, R200, R201, R208), TIME (R207 to R211), and the cage sidebands (R214). -/

namespace Sys2Proof.Machine

/-! ## The select hash (R16, R412, Table 14.19) -/

/-- The outer IP header of a frame whose EtherType names it: its result word, and whether it is
IPv6. A header that fails the checks of PARSE L3 counts as none (DESIGN CHOICE, log entry 126). -/
def selectIp (d : List Nat) (l2 : PRes) (lim : Nat) : Option (PRes × Bool) :=
  let ip := parseIp d l2.hi lim
  let v6 := bitOf 36 ip.w
  if l2.cc = .done && ip.cc = .done && (bits 15 0 l2.w = 0x86DD && v6 || bits 15 0 l2.w = 0x0800 && !v6) then
    some (ip, v6)
  else none

/-- The bytes of select field `b` of a frame; none for a field it does not have. -/
def selectField (d : List Nat) (l2 : PRes) (ip : Option (PRes × Bool)) (b : Nat) : List Nat :=
  let o := l2.hi
  let isV6 := (ip.map (·.2)).getD false
  let w := (ip.map (·.1.w)).getD 0
  let ports := ip.isSome && (bits 15 0 w = 6 || bits 15 0 w = 17) && (l3Facts d o (min d.length 512) isV6).1 = 0 &&
    bits 35 26 w + 4 ≤ d.length
  match b with
  | 0 => slice d 0 6
  | 1 => slice d 6 6
  | 2 => if l2.cc = .done then beBytes 2 (bits 15 0 l2.w) else []
  | 3 => if l2.cc = .done && bits 37 36 l2.w ≠ 0 then beBytes 2 (bits 49 38 l2.w) else []
  | 4 => if ip.isNone then [] else if isV6 then slice d (o + 8) 16 else slice d (o + 12) 4
  | 5 => if ip.isNone then [] else if isV6 then slice d (o + 24) 16 else slice d (o + 16) 4
  | 6 => if ip.isNone then [] else [bits 7 0 w]
  | 7 => if ports then slice d (bits 35 26 w) 2 else []
  | 8 => if ports then slice d (bits 35 26 w + 2) 2 else []
  | 9 => if isV6 then beBytes 3 (beNat (slice d (o + 1) 3) % 2 ^ 20) else []
  | _ => []

/-- The bytes that the select hash of a port covers. -/
def selectKey (x : Port) (d : List Nat) : List Nat :=
  let lim := min d.length 512
  let l2 := parseEth d 0 lim
  let ip := selectIp d l2 lim
  let mask := if ip.isSome then x.ipFields else x.nonIpFields
  ((List.range 10).filter (fun b => bitOf b mask)).flatMap (selectField d l2 ip)

/-- The pipeline of a frame: its hash's entry of the port's select table. -/
def selectPipe (x : Port) (d : List Nat) : Nat :=
  let h := crc32c 0xFFFFFFFF (selectKey x d) % 128
  tgetD x.sel (h / 32) selReset / 4 ^ (h % 32) % 4

/-! ## Receive (R190 to R195, Table 6.3) -/

/-- The frame's destination is a group address that the port's filter rejects (R194, R195). -/
def groupRejected (x : Port) (d : List Nat) : Bool :=
  let dst := d.take 6
  let h := crc32 0xFFFFFFFF dst % 4096
  (d.getD 0 0) % 2 = 1 && dst ≠ List.replicate 6 0xFF && !x.grpAll &&
    !bitOf (h % 64) (tgetD x.grpHash (h / 64) 0).toNat

/-- The last four bytes of a frame are its FCS. -/
def fcsOk (bs : List Nat) : Bool :=
  let d := bs.take (bs.length - 4)
  leNat (bs.drop (bs.length - 4)) = crc32 0xFFFFFFFF d

/-- The priority of a received frame: the PCP of its outer tag, else the port's default (R206). -/
def framePrio (x : Port) (d : List Nat) : Nat :=
  if isTagType (beAt d 12 2) then byteAt d 14 / 32 else x.defaultPrio

/-- A received PFC frame pauses priorities for [t, t + time * 512 / rate) (R205); a time of 0 ends a pause that goes on, and
changes nothing of one that is over (R201). -/
def takePfc (s : State) (n gbps : Nat) (d : List Nat) : State :=
  let x := portOf s n
  let en := beAt d 16 2
  let p := (List.range 8).foldl (fun t i =>
    let time := beAt d (18 + 2 * i) 2
    if bitOf i en && (time ≠ 0 || s.now < tgetD x.pauseEnd i 0) then tset t i (s.now + (time * 512 + gbps - 1) / gbps)
    else t) x.pauseEnd
  count (setPort s n { x with pauseEnd := p }) 0xFFF (cRxPfcFrames n)

/-- A MAC Control frame at its end (R192). -/
def controlFrame (s : State) (n gbps : Nat) (bs : List Nat) : State :=
  if !fcsOk bs then count s 0xFFF (cRxFcsError n)
  else if bs.length ≤ 128 && beAt bs 14 2 = 0x0101 && (portOf s n).fcMode = 1 then takePfc s n gbps bs
  else count s 0xFFF (cRxMacControlDropped n)

/-- A frame that was cut short after it took cells: they are freed, and the end is counted. -/
def endFrame (s : State) (h counter : Nat) : State := count (releaseChain s h) 0xFFF counter

/-- TIME at the first bit after the start delimiter of a frame that ends now: nanoseconds and the 16-bit fraction (R207). -/
def rxStamp (s : State) (gbps len : Nat) : Nat × Nat :=
  let t := timeNow s * 65536 + timeFrac s - len * 8 * 65536 / gbps
  (t / 65536, t % 65536)

/-- A good frame enters its pipeline (R18, R43): a pipeline that is powered down drops it, one whose domain is not
running holds it (R37, Table 12.12). -/
def enterFrame (s : State) (n h cells gbps : Nat) (d : List Nat) : State :=
  let x := portOf s n
  let p := selectPipe x d
  if domainClosed s (12 + p) then endFrame s h cRxPipeDown
  else if 4096 < admitCells (pipeOf s p) + cells then endFrame s h (cRxAdmitOverflow n)
  else
    let t := rxStamp s gbps (d.length + 4)
    let w := mkWords (fun i =>
      if i = 24 then h + d.length * 2 ^ 40
      else if i = 25 then t.1
      else if i = 26 then t.2 + n * 2 ^ 16 + 0xFFF * 2 ^ 24
      else if i = 27 then 0xFFFF else 0)
    let k : Pkt := { ord := 0, words := w, entry := n, chains := [h], startNs := timeNow s, pathClass := some 2 }
    let s1 := setChain s h (pbytes d)
    let s2 : State := { s1 with mac := { s1.mac with
      cellPrio := (chainOf s1 h).foldl (fun t c => tset t c (n, framePrio x d)) s1.mac.cellPrio } }
    let s3 := if domainRuns s2 (12 + p) && !pathStarting s2 p n then s2 else countDev s2 cRxWakeHeld
    admitPkt s3 p k

/-- A frame that passed byte 64: its cells, its length, its end (orders 1 and 5 to 8 of Table 6.3). -/
def storeFrame (s : State) (n gbps : Nat) (bs : List Nat) (pcsError : Bool) : State :=
  let x := portOf s n
  let (r, s1) := allocCells s 0xFFF 0 (min bs.length (x.maxFrame + 1))
  match r with
  | .error _ => count s1 0xFFF (cRxNoCell n)
  | .ok h =>
    if x.maxFrame < bs.length then endFrame s1 h (cRxOversize n)
    else if pcsError then endFrame s1 h (cRxAborted n)
    else if !fcsOk bs then endFrame s1 h (cRxFcsError n)
    else enterFrame s1 n h ((bs.length + 255) / 256) gbps (bs.take (bs.length - 4))

/-- A frame received with a good FCS is counted, whatever becomes of it (R216). -/
def countRx (s : State) (n : Nat) (bs : List Nat) (pcsError : Bool) : State :=
  let x := portOf s n
  if pcsError || bs.length < 64 || !fcsOk bs then s
  else setPort s n { x with rxFrames := x.rxFrames + 1, rxOctets := x.rxOctets + BitVec.ofNat 64 bs.length }

/-- The FEC codewords decoded since the frame before, corrected and uncorrectable, are counted (R216). -/
def countFec (s : State) (n : Nat) (fec : Fec) : State :=
  let x := portOf s n
  setPort s n { x with
    fecCorr := x.fecCorr + BitVec.ofNat 64 fec.corrected, fecUncorr := x.fecUncorr + BitVec.ofNat 64 fec.lost }

/-- A frame that reached a port which was cut while it was in reception is counted; any other on a port that is down reaches
nothing (R186, R189, R190). -/
def cutEnd (s : State) (n len : Nat) : State :=
  let x := portOf s n
  match x.rxCut with
  | some (t, g) =>
    if s.now * g < t * g + (len + 8) * 8 then count (setPort s n { x with rxCut := none }) 0xFFF (cRxAborted n) else s
  | none => s

/-- FRAME_RECEIVED: `bytes` are the frame's bytes with its FCS, up to a PCS error where there is one, `fec` the codewords of
the lanes since the frame before. The outcome is the first row of Table 6.3 by the instant it is decided at. -/
def execFrameReceived (port : Nat) (bytes : List Nat) (pcsError : Bool) (fec : Fec) (s : State) : Res :=
  .next (match portBlock s port with
    | none => cutEnd s port bytes.length
    | some b =>
      let x := portOf s port
      if !x.enabled || !x.link then cutEnd s port bytes.length
      else
        let s1 := countRx (countFec s port fec) port bytes pcsError
        if bytes.length < 64 then
          count s1 0xFFF (if pcsError then cRxAborted port else cRxRunt port)
        else if groupRejected x bytes then count s1 0xFFF (cRxGroupFiltered port)
        else if beAt bytes 12 2 = 0x8808 then controlFrame s1 port b.gbps bytes
        else storeFrame s1 port b.gbps bytes pcsError)

/-! ## Priority flow control (R205, R206) -/

/-- The frames of a priority's class become eligible at the end of its pause (R201, R205). -/
def Port.unpause (x : Port) (prio e : Nat) : Port :=
  let c := bits (3 * prio + 2) (3 * prio) x.prioToClass
  { x.setCls c { x.cls c with since := max (x.cls c).since e } with pauseEnd := tdel x.pauseEnd prio }

/-- The window of a paused priority ends at its end instant. -/
def execPfcPauseEnd (port prio : Nat) (s : State) : Res :=
  .next (let x := portOf s port
    match tget x.pauseEnd prio with
    | some e => if e ≤ s.now then setPort s port (x.unpause prio e) else s
    | none => s)

/-- The pool 0 cells held by frames that a port received with a priority (R206). -/
def prioCells (s : State) (n prio : Nat) : Nat :=
  tcount s.mac.cellPrio (fun _ e => e.1 = n && e.2 = prio)

/-- The time of the PFC frame that is due for a priority: quanta at xoff, 0 below xon (R206). -/
def pfcDue (s : State) (n prio : Nat) : Option Nat :=
  let x := portOf s n
  let c := prioCells s n prio
  match tget x.pfcSent prio with
  | none => if x.xoff ≤ c then some x.quanta else none
  | some _ => if c < x.xon then some 0 else none

/-- A port sends PFC frames: it is in the layout, its link is up, fc_mode is 1, and it is at a frame boundary. -/
def pfcOpen (s : State) (n : Nat) : Option Block :=
  let x := portOf s n
  if x.enabled && x.link && x.fcMode = 1 && x.txEnd ≤ s.now then portBlock s n else none

/-- The nanoseconds that bytes and the gap behind them take on the wire. -/
def wireNs (gbps bytes : Nat) : Nat := ((bytes + 20) * 8 + gbps - 1) / gbps

/-- Send one PFC frame of 64 bytes for a priority. -/
def sendPfc (s : State) (n prio time : Nat) (b : Block) : State :=
  let x := portOf s n
  let y := { x with
    pfcSent := if time = 0 then tdel x.pfcSent prio else tset x.pfcSent prio s.now
    pfcTx := x.pfcTx + 1, txFrames := x.txFrames + 1, txOctets := x.txOctets + 64, txEnd := s.now + wireNs b.gbps 64
    flyWire := some 64, flyPfc := true }
  emit (setPort s n y) (.pfc n prio time)

/-- The frame is due again for a priority: its count is at or above xon, and half of quanta has elapsed since it last went
(R206). -/
def resendDue (s : State) (n prio : Nat) (b : Block) : Bool :=
  let x := portOf s n
  match tget x.pfcSent prio with
  | some t => x.xon ≤ prioCells s n prio && x.quanta * 256 ≤ (s.now - t) * b.gbps
  | none => false

/-- A PFC frame that is due starts at the next frame boundary, ahead of class 7. -/
def execPfcSend (port prio : Nat) (s : State) : Res :=
  .next (match pfcOpen s port, pfcDue s port prio with
    | some b, some t => if prio < 8 then sendPfc s port prio t b else s
    | _, _ => s)

/-- While the count stays at or above xon, the frame goes again each time half of quanta has elapsed. -/
def execPfcResend (port prio : Nat) (s : State) : Res :=
  .next (match pfcOpen s port with
    | some b => if resendDue s port prio b then sendPfc s port prio (portOf s port).quanta b else s
    | none => s)

/-! ## Transmit (R198, R200, R201) -/

/-- The instant at which the last pause of a class ends (R205). -/
def Port.pausedUntil (x : Port) (c : Nat) : Nat :=
  (((List.range 8).filter (fun p => bits (3 * p + 2) (3 * p) x.prioToClass = c)).map
    (fun p => tgetD x.pauseEnd p 0)).foldl max 0

/-- A class holds a frame and is not paused. -/
def Port.ready (x : Port) (c now : Nat) : Bool := !(x.cls c).q.isEmpty && x.pausedUntil c ≤ now

/-- The instant at which the oldest frame of any class below `c` became eligible, if one is (R201). -/
def Port.lowerSince (x : Port) (c now : Nat) : Option Nat :=
  (((List.range c).filter (fun d => x.ready d now)).map (fun d => max (x.cls d).since (x.pausedUntil d))).foldl
    (fun a v => some (match a with
      | none => v
      | some w => min v w)) none

/-- The burst guard lets a class start a frame (R201). -/
def Port.guardOpen (x : Port) (c now : Nat) : Bool :=
  let q := x.cls c
  match x.lowerSince c now with
  | none => true
  | some t => q.burst = 0 || ((q.log.filter (fun e => t ≤ e.1)).map (·.2)).sum < q.burst

/-- The class whose oldest frame starts next: the highest that may (R200). -/
def Port.nextClass (x : Port) (now : Nat) : Option Nat :=
  [7, 6, 5, 4, 3, 2, 1, 0].find? (fun c => x.ready c now && x.guardOpen c now)

/-- The classes after class `c` started a frame of `wire` bytes: its guard counts them, and the guards above it start
anew (R201). -/
def Port.startClass (x : Port) (c wire now : Nat) : Port :=
  let low := x.lowerSince c now
  let q := x.cls c
  let q1 := { q with
    q := q.q.drop 1, since := now, log := (if low.isNone then [] else q.log) ++ [(now, wire)] }
  let y := x.setCls c q1
  { y with classes := tmap y.classes (fun d z => if c < d then { z with log := [] } else z) }

/-- A frame as it leaves: padded to 60 bytes, with its FCS, which is inverted for a poisoned frame (R198). -/
def wireFrame (f : TxFrame) : List PByte × Bool :=
  let d := f.bytes ++ List.replicate (60 - f.bytes.length) PByte.zero
  let bad := anyPoison f.bytes || f.stomp
  let c := crc32 0xFFFFFFFF (rawBytes d)
  (d ++ pbytes (leBytes 4 (if bad then not32 c else c)), bad)

/-- The transmit stamp of a frame goes into the port's FIFO of 64, or is lost (R208). -/
def stampFrame (s : State) (n : Nat) (f : TxFrame) : State :=
  match f.stampTag with
  | none => s
  | some t =>
    let x := portOf s n
    if 64 ≤ x.txts.length then count s 0xFFF (cTxTsLost n)
    else setPort s n { x with txts := x.txts ++ [⟨t, timeNow s, timeFrac s⟩] }

/-- Start a frame of a class: it leaves whole, its cells are freed, and its first bit is the end point of its path (R29). -/
def startFrame (s : State) (n c : Nat) (b : Block) (f : TxFrame) : State :=
  let x := portOf s n
  let (bs, bad) := wireFrame f
  let y := { x.startClass c bs.length s.now with
    txEnd := s.now + wireNs b.gbps bs.length
    flyWire := some (if bad then 0 else bs.length), flyPfc := false
    txFrames := x.txFrames + (if bad then 0 else 1)
    txOctets := x.txOctets + BitVec.ofNat 64 (if bad then 0 else bs.length) }
  let s1 := releaseFrames (emit (setPort s n y) (.frame n bs bad)) [f]
  let s2 := if bad then count s1 0xFFF (cTxPoisonedStomped n) else s1
  measure (stampFrame s2 n f) f.meas

/-- TRANSMIT_FRAME_START: at a frame boundary with no PFC frame due, the oldest frame of the highest class that may
start one leaves. -/
def execTransmitFrameStart (port : Nat) (s : State) : Res :=
  .next (match portBlock s port with
    | none => s
    | some b =>
      let x := portOf s port
      if !x.enabled || !x.link || s.now < x.txEnd ||
          (x.fcMode = 1 && (List.range 8).any (fun p => (pfcDue s port p).isSome || resendDue s port p b)) then s
      else
        match x.nextClass s.now with
        | none => s
        | some c =>
          match (x.cls c).q with
          | [] => s
          | f :: _ => startFrame s port c b f)

/-- TXTS_TAG_READ: a read that covers bit 48 removes the oldest entry and latches its nanoseconds (R208). -/
def execTxtsTagRead (port off size : Nat) (s : State) : Res :=
  .next (memWrite s 0 (let x := portOf s port
    match x.txts with
    | [] => s
    | e :: t => if (portBlock s port).isSome && off ≤ 6 && 6 < off + size && size ≤ 8 then
        setPort s port { x with txts := t, txtsNs := e.ns } else s))

/-! ## TIME (R209, R211) -/

/-- MAC_TIME_STEP_WRITE adds a signed offset to TIME; the age tick does not move (R174, R209). -/
def execMacTimeStepWrite (v : Nat) (s : State) : Res :=
  .next (memWrite s 0 (if !s.mac.timeRunning then s
    else
      let s1 : State := { s with mac := { s.mac with
        timeNs := s.mac.timeNs + BitVec.ofNat 64 v, stepCount := (s.mac.stepCount + 1) % 65536 } }
      logEvent s1 0x0042 0xFFF [.num 8 (v % 2 ^ 64)]))

/-- A read of MAC_TIME_NS latches the fraction. -/
def execMacTimeNsRead (s : State) : Res :=
  .next (memWrite s 0 { s with mac := { s.mac with fracLatch := timeFrac s } })

/-- A rising edge on TIME_PPS_IN is captured (R211), unless it follows the previous captured edge by less than 100 ms
(R511). -/
def execPpsInputEdge (s : State) : Res :=
  .next (if s.mac.ppsAt.any (fun t => s.now - t < 100000000) then s
    else { s with mac := { s.mac with
      ppsNs := timeNow s, ppsFrac := timeFrac s, ppsSeen := true, ppsAt := some s.now } })

/-- TIME_PPS_OUT goes high for 100 ms from each instant at which TIME is a multiple of one second. -/
def execPpsOutput (s : State) : Res :=
  .next (if s.mac.timeRunning && timeNow s % 1000000000 = 0 then
      { s with mac := { s.mac with ppsOutUntil := s.now + 100000000 } }
    else s)

/-! ## Cages (R214, Table 6.7) -/

/-- CAGE_FAULT: 1 SCL stuck low, 2 SDA stuck low, 3 SCL and SDA shorted, 4 INT_N stuck low, 5 LPMODE shorted, 6 RESET_N
shorted, whose driver is turned off and drives no level; 7 is MODPRS_N going low, which is no fault the device can tell from a
module. -/
def execCageFault (cage kind : Nat) (s : State) : Res :=
  .next (let x := cageOf s cage
    if 2 ≤ cage then s
    else
      match kind with
      | 1 => cageEvent s cage { x with sclStuck := true }
      | 2 => cageEvent s cage { x with sdaStuck := true }
      | 3 => cageEvent s cage { x with busShort := true }
      | 4 => cageEvent s cage { x with intStuck := true }
      | 5 => cageEvent s cage { x with lpmodeShort := true, lpmode := false }
      | 6 => cageEvent s cage { x with resetShort := true, resetDriven := false }
      | 7 => setCage s cage { x with present := true }
      | _ => s)

/-- CAGE_FAULT_CLEAR: SCL or SDA high for 10 ms, INT_N high, or MODPRS_N high; a shorted output's driver stays off. -/
def execCageFaultClear (cage kind : Nat) (s : State) : Res :=
  .next (let x := cageOf s cage
    if 2 ≤ cage then s
    else
      match kind with
      | 1 => setCage s cage { x with sclStuck := false }
      | 2 => setCage s cage { x with sdaStuck := false }
      | 3 => setCage s cage { x with busShort := false }
      | 4 => setCage s cage { x with intStuck := false, intAsserted := false }
      | 7 => setCage s cage { x with present := false }
      | _ => s)

/-- CAGE_INTERRUPT: an INT_N assertion is counted; with INT_N stuck, at most one a second. -/
def execCageInterrupt (cage : Nat) (s : State) : Res :=
  .next (let x := cageOf s cage
    let early := match x.lastInt with
      | some t => x.intStuck && s.now < t + 1000000000
      | none => false
    if 2 ≤ cage || early then s
    else setCage s cage { x with intAsserted := true, intEvents := x.intEvents + 1, lastInt := some s.now })

end Sys2Proof.Machine
end

