-- ==== Sys2Proof/Machine/TblSteps.lean ====
section
/-! DEFINITION. The steps of LKP_HOT and LKP_RLD (R160 to R163) and of FWT_UPD (R164 to R168). -/

namespace Sys2Proof.Machine

/-! ## Operands (Tables 5.3, 5.4) -/

/-- The key words of a table that carry the poison mark: those that hold its key bytes (log entry 23). -/
def keyPoisoned (s : State) (x : StepIn) (t : Nat) : Bool :=
  let n := match tget s.fwt.tables t with
    | some y => y.keyLen
    | none => 32
  wordsPoisoned x.k x.w.srcA ((n + 7) / 8)

/-- The FID in src_b[43:32] and the table in imm[3:0]. -/
def tblFid (x : StepIn) : Nat := bits 43 32 x.bv
/-- The table in imm[3:0]. -/
def tblNo (x : StepIn) : Nat := bits 3 0 x.imm

/-! ## Lookups (R160 to R163) -/

/-- What a search finds: the entry, its slot, and whether it is an overflow entry. -/
structure Hit where
  e : FEntry
  slot : Nat
  ovf : Bool
  deriving DecidableEq, Repr

/-- The first match in the order slot 0 to 3, then the lowest overflow index (R160). -/
def findHit (fp : FPipe) (t b : Nat) (key : List Nat) (fid : Nat) : Option Hit :=
  match (bucketSlots fp t b).find? (fun e => e.2.matches t key fid) with
  | some e => some ⟨e.2, e.1, false⟩
  | none =>
    ((bucketOvf fp t b).find? (fun e => e.2.e.matches t key fid)).map (fun e => ⟨e.2.e, 0, true⟩)

/-- The four result words of a hit (Table 5.3). -/
def Hit.words (h : Hit) (expired : Bool) : List Nat :=
  [leNat (slice h.e.result 0 8), leNat (slice h.e.result 8 8), leNat (slice h.e.result 16 8),
    h.slot + b2n h.ovf * 4 + b2n expired * 8 + h.e.owner * 16 + h.e.lastHit.toNat * 2 ^ 32]

/-- Write words from dst on, with the poison mark of the outcome. -/
def putWords (x : StepIn) (k : Pkt) (vs : List Nat) (mark : Bool) : Pkt :=
  if isSel x.w.dst then
    ((List.range vs.length).zip vs).foldl
      (fun k e => k.setWord (x.w.dst + e.1) ⟨BitVec.ofNat 64 e.2, mark⟩) k
  else k

/-- The place of a step's write in its bucket cycle: its engine, then the packet's port (R169). -/
def StepIn.writeOrd (x : StepIn) : Nat := x.c / 8 * 256 + bits 23 16 (x.k.val 26)

/-- Refresh on hit: every copy of the entry at the end of the cycle, unless its bucket is locked (R168, R169; log entry 24). -/
def hitRefresh (s : State) (x : StepIn) (t b : Nat) (e : FEntry) : State :=
  if isLocked (fpOf s x.p) t b then count s e.owner cLearnDeferred
  else addCycle s x.p (.refresh x.writeOrd t b e.owner e.key)

/-- The read of a bucket by a lookup and its answer (R160, R163). -/
def lookupBucket (s : State) (x : StepIn) (t : Nat) (tb : FTable) (fid : Nat) (refresh mark : Bool) :
    State :=
  let fp := fpOf s x.p
  let b := bucketOfHash tb (bits 31 0 x.bv)
  let bad := bucketMarked fp t b
  let s0 := if tb.hot then s else touchRld s x.p
  let s1 := if bad then noteParity s0 x.p t b else s0
  poisonGate s1 x bad
    (match findHit fp t b (normKey tb (keyWords x.k x.w.srcA)) fid with
    | none => advance s1 x (putWords x x.k [0, 0, 0, 0] (mark || bad)) .miss
    | some h =>
      let k := putWords x x.k (h.words (h.e.expired tb s.fwt.tick)) (mark || bad || h.e.resMark)
      let s2 := advance s1 x k (if h.ovf then .alt else .done)
      if refresh then hitRefresh s2 x t b h.e else s2)

/-- A lookup on behalf of a FID (R161, R162, R335). LKP_HOT on an RLDRAM table and LKP_RLD on a hot one return
REFUSED_PERMISSION and count nothing: the spec names no outcome (DESIGN CHOICE, log entry 135). -/
def lookupStep (unit p c : Nat) (hot : Bool) (s : State) : State :=
  withStep unit 0 p c s (fun x =>
    let t := tblNo x
    let fid := tblFid x
    let m := x.b.p || keyPoisoned s x t
    unitGate s x fid m
      (match tget s.fwt.tables t with
      | none => done (countDev s cFwtNoTable) x .refusedPermission
      | some tb =>
        if !tb.ready || tb.hot ≠ hot || (fid ≠ 0xFFF && (grantOf s fid t p).isNone) ||
            hookMismatch x fid then done s x .refusedPermission
        else lookupBucket s x t tb fid (!hot && bitOf 4 x.imm) m))

/-- LKP_HOT LOOKUP. -/
def execLkpHotLookup (p c : Nat) (s : State) : Res := .next (lookupStep 4 p c true s)

/-- LKP_RLD LOOKUP, with refresh on hit when imm[4] is 1. -/
def execLkpRldLookup (p c : Nat) (s : State) : Res := .next (lookupStep 5 p c false s)

/-! ## FWT_UPD (R164 to R168) -/

/-- Row 1 of Table 5.4: the table a FWT_UPD step may act on, or the state with its refusal counted. -/
def updTable (s : State) (p t o : Nat) (kind : Option Nat) : Except State FTable :=
  match tget s.fwt.tables t with
  | none => .error (count s o cFwtNoTable)
  | some tb =>
    let kindOk := match kind with
      | some k => tb.kind = k
      | none => true
    if !tb.ready || tb.hot || !kindOk || (grantOf s o t p).isNone then .error s else .ok tb

/-- Rows 2 to 6 of Table 5.4 for a write of a key and result, of which `resMark` says that the result is poisoned; the marks go
into the entry (DESIGN CHOICE, log entry 135). -/
def learnWrite (s : State) (x : StepIn) (t o : Nat) (tb : FTable) (result : List Nat) (resMark : Bool) (fail : Nat) :
    State :=
  let key := normKey tb (keyWords x.k x.w.srcA)
  let b := bucketOf tb key
  let fp := fpOf s x.p
  let w : PendWrite :=
    { table := t, bucket := b, owner := o, key := key, result := result, mark := x.b.p || keyPoisoned s x t
      resMark := resMark }
  if ((grantOf s o t x.p).getD {}).maxEntries ≤ ownedIn fp t o + pendIn fp t o then
    done (count s o cFwtQuota) x .refusedEmpty
  else if !ovfAvail s x.p t o then done (count s o fail) x .refusedEmpty
  else if isLocked fp t b then
    if 64 ≤ fp.pend.length then done (count s o cLearnQueueFull) x .refusedEmpty
    else
      let s1 := setFp s x.p { fp with pend := fp.pend ++ [w] }
      done (count s1 o cLearnDeferred) x .deferred
  else done (addCycle (touchRld s x.p) x.p (.learn x.writeOrd w)) x .done

/-- FWT_UPD LEARN: result bytes 40 to 43 from imm[39:8], the rest zero (R164). -/
def execFwtLearn (p c : Nat) (s : State) : Res :=
  .next (withStep 6 0 p c s (fun x =>
    let t := tblNo x
    let o := tblFid x
    unitGate s x o (x.b.p || keyPoisoned s x t)
      (match updTable s p t o (some 1) with
      | .error s1 => done s1 x .refusedPermission
      | .ok tb =>
        learnWrite s x t o tb (leBytes 4 (bits 39 8 x.imm) ++ List.replicate 20 0) false cLearnFail)))

/-- FWT_UPD REFRESH: every copy takes the current tick at the end of the cycle (R168, R169). -/
def execFwtRefresh (p c : Nat) (s : State) : Res :=
  .next (withStep 6 1 p c s (fun x =>
    let t := tblNo x
    let o := tblFid x
    unitGate s x o (x.b.p || keyPoisoned s x t)
      (match updTable s p t o none with
      | .error s1 => done s1 x .refusedPermission
      | .ok tb =>
        let key := normKey tb (keyWords x.k x.w.srcA)
        let b := bucketOf tb key
        if isLocked (fpOf s p) t b then done (count s o cLearnDeferred) x .deferred
        else done (addCycle (touchRld s p) p (.refresh x.writeOrd t b o key)) x .done)))

/-- FWT_UPD WRITE_FLOW: result bytes 40 to 63 from the three words at dst (R164). -/
def execFwtWriteFlow (p c : Nat) (s : State) : Res :=
  .next (withStep 6 2 p c s (fun x =>
    let t := tblNo x
    let o := tblFid x
    unitGate s x o (x.b.p || keyPoisoned s x t || wordsPoisoned x.k x.w.dst 3)
      (match updTable s p t o (some 2) with
      | .error s1 => done s1 x .refusedPermission
      | .ok tb =>
        learnWrite s x t o tb ([0, 1, 2].flatMap (fun i => leBytes 8 (x.k.val (x.w.dst + i))))
          (wordsPoisoned x.k x.w.dst 3) cFlowWriteFail)))

end Sys2Proof.Machine
end

