-- ==== Sys2Proof/Machine/StgSteps.lean ====
section
/-! DEFINITION. The steps of STG (R300, R301) and the events of connections: the dispatch of a turn (R298),
the expiry of slots (R305) and of connection timers (R302). -/

namespace Sys2Proof.Machine

/-! ## Figures -/

/-- Work packets in the turn queues of a pipeline (R298). -/
def turnLoad (s : State) (p : Nat) : Nat :=
  tsum s.stg.conns (fun _ c => if c.pipeline = p then c.turn.length else 0)

/-- A work packet finds room in a connection's turn queue (R298). -/
def turnRoom (s : State) (c : Conn) : Bool := c.turn.length < 256 && turnLoad s c.pipeline < 8192

/-- The command identifier of a slot (R295). -/
def slotCid (c : Conn) (i : Nat) : Nat := (c.slot i).gen * 64 + i

/-- The lowest FREE slot of the 48. -/
def freeSlotOf (c : Conn) : Option Nat := (List.range 48).find? (fun i => (c.slot i).st = 0)

/-! ## Work packets (Table 10.8) -/

/-- The work header's fields. -/
structure WorkHdr where
  kind : Nat
  slot : Nat := 0xFF
  cid : Nat := 0
  conn : Nat
  data : Nat := 0
  origNs : Nat
  tag : Nat := 0
  queue : Nat := 0xFFFF
  fid : Nat
  deriving DecidableEq, Repr

/-- The 32 bytes of a work header. -/
def WorkHdr.bytes (h : WorkHdr) : List Nat :=
  [h.kind, h.slot] ++ leBytes 2 h.cid ++ leBytes 2 h.conn ++ [0, 0] ++ leBytes 8 h.data ++
    leBytes 8 h.origNs ++ leBytes 4 h.tag ++ leBytes 2 h.queue ++ leBytes 2 h.fid

/-- A work packet over bytes in the chain at a handle; the timestamp words are free values (R298, log entry
36). -/
def workPkt (s : State) (c : Conn) (h : Nat) (bs : List PByte) (chains : List Nat) : Pkt × State :=
  let (d, s1) := draw s
  let (e, s2) := draw s1
  let frac := (Sys2Proof.Config.freeWord e).toNat % 65536
  let w := mkWords (fun i =>
    if i = 24 then h + bs.length % 65536 * 2 ^ 40
    else if i = 25 then (Sys2Proof.Config.freeWord d).toNat
    else if i = 26 then frac + 0xFF * 2 ^ 16 + c.owner * 2 ^ 24
    else if i = 27 then 0xFFFF else 0)
  ({ ord := 0, words := w, entry := 16 + c.program, chains := chains }, setChain s2 h bs)

/-- Place a work packet at the end of a connection's turn queue. -/
def placeWork (s : State) (n : Nat) (k : Pkt) : State :=
  match connOf s n with
  | some c => setConn s n { c with turn := c.turn ++ [k] }
  | none => s

/-- Discard a connection's turn queue, counting each packet (R309, R314). -/
def dropTurn (s : State) (n : Nat) : State :=
  match connOf s n with
  | some c =>
    let s1 := c.turn.foldl (fun s k => k.chains.foldl releaseChain s) s
    countN (setConn s1 n { c with turn := [], timerCells := [] }) c.owner cStgClosedDrop c.turn.length
  | none => s

/-! ## Storage completions (R303) -/

/-- The completion entry of a storage command (Table 10.9). -/
def stgEntry (status : Nat) (ep : Bool) (tag nvme cid result : Nat) : List Nat :=
  cqEntry 0x05 status (b2n ep * 4) (leBytes 4 tag ++ leBytes 2 nvme ++ leBytes 2 cid ++ leBytes 4 result)

/-- Every slot in flight of a connection ends with ABORTED, in ascending slot order, and takes a new state
(R309, R314). -/
def abortSlots (s : State) (n st : Nat) : State :=
  (List.range 48).foldl (fun s i =>
    match connOf s n with
    | some c =>
      let x := c.slot i
      if x.st = 1 || x.st = 2 then
        let s1 := setConn s n (c.setSlot i { x with st := st })
        let it : BackItem := { bytes := stgEntry 0x33 x.ep x.tag 0 (slotCid c i) 0 }
        count (cqPost s1 x.cq [it] 1) c.owner cStgCmdAborted
      else s
    | none => s) s

/-! ## CONN_GET (R300) -/

/-- The refusals that come before every other (R313, R335): the acting FID or the owner in the stocks. -/
def stgFrozen (s : State) (fid : Nat) (c : Conn) : Bool := isFrozen s fid || isFrozen s c.owner

/-- The gate of STG steps: the acting FID in the stocks is refused with reason 0x0A, then poison (R67,
R335). -/
def stgGate (s : State) (x : StepIn) (fid : Nat) (mark : Bool) (f : State) : State :=
  if isFrozen s fid then doneW s x .refusedState 0x0A false else poisonGate s x mark f

/-- The acting FID may act on the connection. -/
def stgOwns (c : Conn) (fid : Nat) : Bool := fid = c.owner || fid = 0xFFF

/-- STG CONN_GET. -/
def execConnGet (p c : Nat) (s : State) : Res :=
  .next (withStep 15 0 p c s (fun x =>
    let fid := bits 11 0 x.bv
    let m := x.a.p || x.b.p
    stgGate s x fid m
      (match connOf s (bits 15 0 x.av) with
      | none => advance s x (putWords x x.k (List.replicate 8 0) m) .miss
      | some cn =>
        if stgFrozen s fid cn then doneW s x .refusedState 0x0A m
        else if stgTwinIdle s cn then doneW s x .refusedState 0x01 m
        else if !stgOwns cn fid then doneW s x .refusedState 0x02 m
        else if cn.pipeline ≠ p then doneW s x .refusedState 0x07 m
        else
          let l := cn.line (bits 4 0 x.imm)
          advance s x (putWords x x.k ((List.range 8).map (fun i => leNat (slice l (8 * i) 8))) m) .done)))

/-! ## CONN_PUT (R301, Table 10.7) -/

/-- The connection of a CONN_PUT step. -/
def putConn (x : StepIn) : Nat := bits 39 24 x.imm
/-- The acting FID of a CONN_PUT step. -/
def putFid (x : StepIn) : Nat := bits 23 12 x.imm
/-- The packet holds the turn of the step's connection. -/
def holdsTurn (x : StepIn) : Bool := x.k.conn = some (putConn x)

/-- A CONN_PUT step of one action: the stocks, poison, a FREE connection, and the reasons that apply to every
action come first. -/
def connPut (action p c : Nat) (s : State) (mark : StepIn → Bool) (f : StepIn → Conn → State) : State :=
  withStep 15 1 p c s (fun x =>
    if bits 2 0 x.imm ≠ action then s
    else
      stgGate s x (putFid x) (mark x)
        (match connOf s (putConn x) with
        | none => done s x .miss
        | some cn =>
          if stgFrozen s (putFid x) cn then doneW s x .refusedState 0x0A (mark x)
          else if cn.pipeline ≠ p then doneW s x .refusedState 0x07 (mark x)
          else if stgTwinIdle s cn then doneW s x .refusedState 0x01 (mark x)
          else f x cn))

/-- Action 0 WRITE: a program line, and the connection timer where imm[8] is 1. -/
def execConnPutWrite (p c : Nat) (s : State) : Res :=
  let m := fun (x : StepIn) => wordsPoisoned x.k x.w.srcA 8 || x.b.p
  .next (connPut 0 p c s m (fun x cn =>
    let line := bits 7 3 x.imm
    if !holdsTurn x then doneW s x .refusedState 0x06 (m x)
    else if line < 7 then doneW s x .refusedState 0x08 (m x)
    else
      let bs := (List.range 8).flatMap (fun i => leBytes 8 (x.k.val (x.w.srcA + i)))
      let timed := bitOf 8 x.imm
      let touched := if timed then [0, line] else [line]
      let cn1 := { cn with
        lines := tset cn.lines line bs
        timer := if timed then x.bv else cn.timer
        lib := match x.k.lib with
          | some r => r.draft
          | none => cn.lib
        dirty := (cn.dirty ++ touched).eraseDups }
      doneW (setConn s (putConn x) cn1) x .done 0 (m x)))

/-- Hand a packet over: the work header goes before its bytes, and its cells pass to the work packet. -/
def handOver (s : State) (x : StepIn) (n : Nat) (cn : Conn) (h : WorkHdr) (result : Nat) (mark : Bool) :
    State :=
  let bs := pbytes h.bytes ++ pktBytes s x.k
  let (w, s1) := workPkt s cn x.k.handle bs x.k.chains
  let s2 := placeWork s1 n w
  let y := { x with k := { x.k with chains := [] } }
  doneW s2 y .done result mark

/-- A HANDOFF of a turn holder to its own connection: R301 forbids it and states no reason code, which is a
free value. -/
def ownHandoff (s : State) (x : StepIn) (mark : Bool) : State :=
  let (d, s1) := draw s
  doneW s1 x .refusedState ((Sys2Proof.Config.freeWord d).toNat % 256) mark

/-- The completion ring of the queue in w27[15:0], while it has a credit to reserve. -/
def submitRing (s : State) (k : Pkt) : Option (Nat × CqRing) :=
  match ringOf s false (bits 15 0 (k.val 27)) with
  | some r =>
    match cqOf s r.cq with
    | some c => if 0 < c.credit then some (r.cq, c) else none
    | none => none
  | none => none

/-- Action 1 HANDOFF, submission. It waits for earlier packets that can still hand off (R299). -/
def execHandoffSubmission (p c : Nat) (s : State) : Res :=
  let m := fun (x : StepIn) => x.a.p
  .next (connPut 1 p c s m (fun x cn =>
    let n := putConn x
    if mustWait s p x.k (.turn n) then holdStep s x
    else if holdsTurn x then ownHandoff s x (m x)
    else if cn.st ≠ .active then doneW s x .refusedState 0x01 (m x)
    else if !stgOwns cn (putFid x) then doneW s x .refusedState 0x02 (m x)
    else if cn.cmdMax ≤ cn.outstanding then doneW s x .refusedState 0x03 (m x)
    else
      match freeSlotOf cn, submitRing s x.k with
      | none, _ => doneW s x .refusedState 0x03 (m x)
      | some _, none => doneW s x .refusedState 0x04 (m x)
      | some i, some (q, cq) =>
        if !turnRoom s cn then doneW s x .refusedState 0x05 (m x)
        else
          let tag := bits 47 16 (x.k.val 27)
          let gen := ((cn.slot i).gen + 1) % 1024
          let cn1 := cn.setSlot i { tag := tag, cq := q, st := 1, gen := gen, allocAt := s.now }
          let s1 := setConn (setCq s q { cq with reserved := cq.reserved + 1 }) n cn1
          let h : WorkHdr :=
            { kind := 1, slot := i, cid := slotCid cn1 i, conn := n, data := x.av, origNs := x.k.val 25
              tag := tag, queue := bits 15 0 (x.k.val 27), fid := x.k.fid }
          handOver s1 x n cn1 h (i + slotCid cn1 i * 2 ^ 16) (m x)))

/-- Action 2 HANDOFF, inbound. -/
def execHandoffInbound (p c : Nat) (s : State) : Res :=
  let m := fun (x : StepIn) => x.a.p
  .next (connPut 2 p c s m (fun x cn =>
    let n := putConn x
    if mustWait s p x.k (.turn n) then holdStep s x
    else if holdsTurn x then ownHandoff s x (m x)
    else if cn.st ≠ .active then doneW s x .refusedState 0x01 (m x)
    else if !turnRoom s cn then doneW s x .refusedState 0x05 (m x)
    else
      let h : WorkHdr := { kind := 2, conn := n, data := x.av, origNs := x.k.val 25, fid := cn.owner }
      handOver s x n cn h 0 (m x)))

/-- Action 3 COMPLETE: the storage completion, in the order of its completion ring (R18), and the slot FREE or QUARANTINED. -/
def execConnPutComplete (p c : Nat) (s : State) : Res :=
  let m := fun (x : StepIn) => x.a.p || x.b.p
  .next (connPut 3 p c s m (fun x cn =>
    let i := bits 8 3 x.imm
    let y := cn.slot i
    if !holdsTurn x then doneW s x .refusedState 0x06 (m x)
    else if y.st ≠ 1 && y.st ≠ 2 then doneW s x .refusedState 0x09 (m x)
    else if mustWait s p x.k (.ring y.cq) then holdStep s x
    else
      let s1 := setConn s (putConn x) (cn.setSlot i { y with st := if bitOf 9 x.imm then 3 else 0 })
      let b := stgEntry (bits 7 0 x.av) (x.k.ep || y.ep) y.tag (bits 23 8 x.av) (bits 39 24 x.av) (bits 31 0 x.bv)
      doneW (cqPost s1 y.cq [{ bytes := b }] 1) x .done 0 (m x)))

/-- Action 4 RELEASE: a QUARANTINED slot becomes FREE. -/
def execConnPutRelease (p c : Nat) (s : State) : Res :=
  .next (connPut 4 p c s (fun _ => false) (fun x cn =>
    let i := bits 8 3 x.imm
    let y := cn.slot i
    if !holdsTurn x then doneW s x .refusedState 0x06 false
    else if y.st ≠ 3 then doneW s x .refusedState 0x09 false
    else doneW (setConn s (putConn x) (cn.setSlot i { y with st := 0 })) x .done 0 false))

/-- The connection fails (R309): its state, its slots, its turn queue, the counters and the event. -/
def failConn (s : State) (n : Nat) (c : Conn) (cause : Nat) : State :=
  let s1 := setConn s n { c with st := .failed, dirty := (c.dirty ++ [0]).eraseDups }
  let s2 := dropTurn (abortSlots s1 n 3) n
  logEvent (count s2 c.owner cStgConnFailed) 0x0060 c.owner [.num 4 n, .num 1 cause]

/-- Action 5 FAIL. -/
def execConnPutFail (p c : Nat) (s : State) : Res :=
  .next (connPut 5 p c s (fun _ => false) (fun x cn =>
    if !holdsTurn x then doneW s x .refusedState 0x06 false
    else doneW (failConn s (putConn x) cn (bits 10 3 x.imm)) x .done 0 false))

/-! ## Turns and timers (R298, R302, R305) -/

/-- The oldest waiting work packet of a connection whose turn is free enters its pipeline's admission queue
and holds the turn (R298). -/
def execTurnDispatch (conn : Nat) (s : State) : Res :=
  .next (match connOf s conn with
    | some c =>
      match c.turn with
      | k :: t =>
        if c.turnHeld then s
        else
          admitPkt (setConn s conn { c with turn := t, turnHeld := true, turnAt := s.now }) c.pipeline
            { k with conn := some conn }
      | [] => s
    | none => s)

/-- Build a timer work packet in a pool 1 cell of the device and queue it; a refused cell is counted, and the request stays,
with the identifier of the command that expired (R302). A turn queue that is full keeps it waiting (log entry 41). -/
def timerWork (s : State) (n : Nat) (c : Conn) (kind slot cid ns : Nat) : State :=
  let keep := fun (s : State) => match connOf s n with
    | some y => setConn s n { y with timerCells := y.timerCells ++ [(kind, slot, cid, ns)] }
    | none => s
  if !turnRoom s c then keep s
  else
    match allocCells s 0xFFF 1 32 with
    | (.error _, s1) => keep (countDev s1 cStgTimerDelay)
    | (.ok h, s1) =>
      let hd : WorkHdr :=
        { kind := kind, slot := slot, cid := cid, conn := n
          origNs := ns, fid := c.owner }
      let (w, s2) := workPkt s1 c h (pbytes hd.bytes) [h]
      placeWork s2 n w

/-- At the end of its life an ACTIVE slot becomes EXPIRED, and a kind 3 work packet is queued (R305). -/
def execSlotExpiry (conn slot : Nat) (s : State) : Res :=
  .next (match connOf s conn with
    | some c =>
      let x := c.slot slot
      if x.st = 1 && x.allocAt + 1000000 * c.timeoutMs ≤ s.now && !stgTwinIdle s c then
        let c1 := c.setSlot slot { x with st := 2 }
        timerWork (setConn s conn c1) conn c1 3 slot (slotCid c1 slot) (timeNow s)
      else s
    | none => s)

/-- A connection timer deadline has come: the timer clears and a kind 4 work packet is queued (R302). -/
def execConnectionTimerExpiry (conn : Nat) (s : State) : Res :=
  .next (match connOf s conn with
    | some c =>
      if c.timer ≠ 0 && c.timer ≤ timeNow s && !stgTwinIdle s c then
        let c1 := { c with timer := 0, dirty := (c.dirty ++ [0]).eraseDups }
        timerWork (setConn s conn c1) conn c1 4 0xFF 0 c.timer
      else s
    | none => s)

/-- The oldest timer packet whose cell was refused is tried again (R302). -/
def execTimerCellRetry (conn : Nat) (s : State) : Res :=
  .next (match connOf s conn with
    | some c =>
      match c.timerCells with
      | (kind, slot, cid, ns) :: t =>
        let c1 := { c with timerCells := t }
        timerWork (setConn s conn c1) conn c1 kind slot cid ns
      | [] => s
    | none => s)

end Sys2Proof.Machine
end

