-- ==== Sys2Proof/Machine/TblCmds.lean ====
section
/-! DEFINITION. The table commands 0x0501 to 0x0508 (R154, R158, R178, R181, R182, Table 5.7), the visits of the ager
(R175, R176) and the moves of the homing unit (R171 to R173). -/

namespace Sys2Proof.Machine

/-- A FID of Table 11.1 that can own entries: a function or the device. -/
def ownerOk (f : Nat) : Bool := isFn f || f = 0xFFF

/-- The pipelines that a mask names. -/
def maskPipes (mask : Nat) : List Nat := pipes.filter (fun p => bitOf p mask)

/-! ## Create and destroy (R154, R181) -/

/-- The bytes of all RLDRAM bucket arrays of one pipeline (R26). -/
def rldTableBytes (s : State) : Nat := tsum s.fwt.tables (fun _ x => if x.hot then 0 else 256 * 2 ^ x.bucketsLog2)

/-- The buckets of all hot tables of one pipeline (R154). -/
def hotBuckets (s : State) : Nat := tsum s.fwt.tables (fun _ x => if x.hot then 2 ^ x.bucketsLog2 else 0)

/-- CREATE_TABLE: the table is not ready until the bucket arrays are zeroed, which ends the command (R154). -/
def execCreateTable (m : Meta) (table location kind bucketsLog2 keyLen ageLimit seed : Nat) (s : State) : Res :=
  .next (runCmd m 0x0501 [.table table] true
    (firstBad [(0, table < 16), (1, location ≤ 1), (2, kind ≤ 2 && (location = 0 || kind = 0)),
      (3, 4 ≤ bucketsLog2 && bucketsLog2 ≤ (if location = 1 then 13 else 23)), (4, 1 ≤ keyLen && keyLen ≤ 32),
      (5, ageLimit < 2 ^ 31 && (location = 0 || ageLimit = 0))])
    (fun s =>
      if (tget s.fwt.tables table).isSome then no s .refusedState
      else if location = 0 && 6 * 2 ^ 30 < rldTableBytes s + 256 * 2 ^ bucketsLog2 then no s .refusedLimit
      else if location = 1 && 8192 < hotBuckets s + 2 ^ bucketsLog2 then no s .refusedLimit
      else
        let x : FTable :=
          { hot := location = 1, kind := kind, bucketsLog2 := bucketsLog2, keyLen := keyLen, ageLimit := ageLimit
            seed := seed % 2 ^ 32, ready := false }
        bgUntil { s with fwt := { s.fwt with tables := tset s.fwt.tables table x } } s.now { status := .done }) s)

/-- A step of a bank names a table: a lookup or an update (R181). -/
def bankNames (b : Bank) (t : Nat) : Bool :=
  b.st ≠ .idle && tany b.steps (fun _ w =>
    let x := StepWord.ofNat w.toNat
    (x.unit = 4 || x.unit = 5 || x.unit = 6) && x.imm % 16 = t)

/-- Take every entry of a table out of one pipeline's instance. -/
def dropTableIn (fp : FPipe) (t : Nat) : FPipe :=
  { fp with
    slots := tfilter fp.slots (fun k _ => k / 2 ^ 25 ≠ t)
    ovf := tfilter fp.ovf (fun _ e => e.e.table ≠ t)
    pend := fp.pend.filter (fun w => w.table ≠ t)
    badSlots := fp.badSlots.filter (fun k => k / 2 ^ 25 ≠ t)
    cycle := fp.cycle.filter (fun w => match w with
      | .age u _ => u ≠ t
      | .home u _ => u ≠ t
      | .learn _ y => y.table ≠ t
      | .refresh _ u _ _ _ => u ≠ t)
    rawSlots := tfilter fp.rawSlots (fun k _ => k / 2 ^ 25 ≠ t)
    locks := tfilter fp.locks (fun k _ => k / 2 ^ 23 ≠ t)
    homing := fp.homing.filter (fun h => h.1 ≠ t)
    agerMarks := fp.agerMarks.filter (fun k => k / 2 ^ 23 ≠ t)
    aged := fp.aged.filter (fun a => a.1 ≠ t)
    gone := fp.gone.filter (fun a => a.1 ≠ t) }

/-- Take a table and its entries out of all instances. -/
def dropTable (s : State) (t : Nat) : State :=
  let s1 := pipes.foldl (fun s p => setFp s p (dropTableIn (fpOf s p) t)) s
  { s1 with fwt := { s1.fwt with tables := tdel s1.fwt.tables t } }

/-- Some bucket of a table is locked in one of the pipelines. -/
def tableLocked (s : State) (t : Nat) (ps : List Nat) : Bool :=
  ps.any (fun p => tany (fpOf s p).locks (fun k _ => k / 2 ^ 23 = t))

/-- DESTROY_TABLE (R181). -/
def execDestroyTable (m : Meta) (table : Nat) (s : State) : Res :=
  .next (runCmd m 0x0502 [.table table] true (firstBad [(0, table < 16)])
    (fun s =>
      if (tget s.fwt.tables table).isNone then no s .refusedState
      else if bankNames s.seq.bankA table || bankNames s.seq.bankB table || tableLocked s table pipes then
        no s .refusedBusy
      else ok (dropTable s table)) s)

/-! ## Entries (R182) -/

/-- A table command on a key: the table must be ready and the key's bytes from key_len on zero (R182). -/
def withKey (s : State) (table : Nat) (key : List Nat) (f : FTable → Nat → List Nat → CmdOut) : CmdOut :=
  match tableOf s table with
  | none => no s .refusedState
  | some x =>
    if (key.drop x.keyLen).any (fun v => v ≠ 0) then noItem s .badParam 2
    else f x (bucketOf x (normKey x key)) (normKey x key)

/-- The bucket is locked in some instance (R178). -/
def lockedAny (s : State) (t b : Nat) : Bool := pipes.any (fun p => isLocked (fpOf s p) t b)

/-- All four instances have room for a manager's entry: an overflow reservation, or for a hot table the key or a slot
(R173, R182). -/
def roomFor (s : State) (x : FTable) (t b owner : Nat) (key : List Nat) : Bool :=
  pipes.all (fun p =>
    if x.hot then hasCopy (fpOf s p) t b owner key || (freeSlot (fpOf s p) t b).isSome
    else ovfAvail s p t owner)

/-- A manager's write in one instance: every copy is replaced, or a new entry is placed. -/
def applyManager (fp : FPipe) (t b : Nat) (hot : Bool) (e : FEntry) : FPipe :=
  let fp := clearAged fp t e.owner e.key
  if hasCopy fp t b e.owner e.key then modCopies fp t b e.owner e.key (fun _ => e) else placeEntry fp t b hot e

/-- INSERT_OR_REPLACE_ENTRY. -/
def execInsertOrReplaceEntry (m : Meta) (table owner : Nat) (key result : List Nat) (noAge : Bool) (s : State) : Res :=
  .next (runCmd m 0x0503 [.table table, .fid owner] true
    (firstBad [(0, table < 16), (1, ownerOk owner), (2, key.length ≤ 32), (3, result.length ≤ 24)])
    (fun s => let s := endCycles s
      withKey s table key (fun x b k =>
      if !roomFor s x table b owner k then no s .refusedEmpty
      else if lockedAny s table b then no s .refusedBusy
      else
        let e : FEntry :=
          { origin := false, noAge := noAge, table := table, owner := owner, lastHit := s.fwt.tick, key := k
            result := result ++ List.replicate (24 - result.length) 0 }
        ok (pipes.foldl (fun s p => setFp s p (applyManager (fpOf s p) table b x.hot e)) s))) s)

/-- The mask of the pipelines that a test accepts. -/
def pipeMask (f : Nat → Bool) : Nat := (pipes.map (fun p => b2n (f p) * 2 ^ p)).sum

/-- DELETE_ENTRY: the reply holds the mask of the pipelines it was removed from. -/
def execDeleteEntry (m : Meta) (table owner : Nat) (key : List Nat) (s : State) : Res :=
  .next (runCmd m 0x0504 [.table table, .fid owner] true
    (firstBad [(0, table < 16), (1, ownerOk owner), (2, key.length ≤ 32)])
    (fun s => let s := endCycles s
      withKey s table key (fun _ b k =>
      if lockedAny s table b then no s .refusedBusy
      else okWith (pipes.foldl (fun s p => setFp s p (removeCopies (fpOf s p) table b owner k)) s)
        [.num 1 (pipeMask (fun p => hasCopy (fpOf s p) table b owner k))])) s)

/-- The 32-byte record of 0x0505 for one pipeline: the bucket copy first, else the overflow copy (R182). -/
def entryRecord (fp : FPipe) (t b owner : Nat) (key : List Nat) : List Fld :=
  let rec32 := fun (slot ovf : Nat) (e : FEntry) =>
    [Fld.num 1 slot, .num 1 ovf, .num 1 0, .num 1 0, .num 4 e.lastHit.toNat] ++ e.result.map (fun v => Fld.num 1 v)
  match (bucketSlots fp t b).find? (fun e => e.2.isFor t key owner) with
  | some e => rec32 e.1 0 e.2
  | none =>
    match (bucketOvf fp t b).find? (fun e => e.2.e.isFor t key owner) with
    | some e => rec32 0 1 e.2.e
    | none => Fld.num 1 0xFF :: List.replicate 31 (.num 1 0)

/-- READ_ENTRY. -/
def execReadEntry (m : Meta) (table owner : Nat) (key : List Nat) (pmask : Nat) (s : State) : Res :=
  .next (runCmd m 0x0505 [.table table, .fid owner] false
    (firstBad [(0, table < 16), (1, ownerOk owner), (2, key.length ≤ 32), (3, pmask < 16)])
    (fun s => withKey s table key (fun _ b k =>
      okWith s ((maskPipes pmask).flatMap (fun p => entryRecord (fpOf s p) table b owner k)))) s)

/-! ## Age limit, grants, flush -/

/-- SET_AGE_LIMIT: a hot table never ages (Table 5.1). -/
def execSetAgeLimit (m : Meta) (table ageLimit : Nat) (s : State) : Res :=
  .next (runCmd m 0x0506 [.table table] false (firstBad [(0, table < 16), (1, ageLimit < 2 ^ 31)])
    (fun s =>
      match tget s.fwt.tables table with
      | none => no s .refusedState
      | some x =>
        if x.hot && ageLimit ≠ 0 then noItem s .badParam 1
        else ok { s with fwt := { s.fwt with tables := tset s.fwt.tables table { x with ageLimit := ageLimit } } }) s)

/-- Write a table grant in the pipelines of a mask. -/
def putGrant (s : State) (fid table pmask : Nat) (g : FGrant) : State :=
  { s with fwt := { s.fwt with
      grants := (maskPipes pmask).foldl (fun t p => tset t (grantKey fid table p) g) s.fwt.grants } }

/-- The overflow entries of a pipeline in use beyond the reserves exceed its Commons. -/
def commonsOver (s : State) (p : Nat) : Bool :=
  16384 - reserveSum s p < (fpOf s p).ovf.length + (fpOf s p).writes.length - reserveUsed s p

/-- A grant fits (R158, Table 5.7): the reserves of each pipeline, then the free Commons; the status if not. -/
def grantRefusal (s : State) (fid table pmask : Nat) (g : FGrant) : Option Status :=
  let s1 := putGrant s fid table pmask g
  if (maskPipes pmask).any (fun p => 16384 < reserveSum s1 p) then some .refusedLimit
  else if (maskPipes pmask).any (fun p =>
      ((grantOf s fid table p).getD {}).ovfReserve < g.ovfReserve && commonsOver s1 p) then some .refusedEmpty
  else none

/-- SET_TABLE_GRANT (R158). -/
def execSetTableGrant (m : Meta) (fid table pmask maxEntries ovfReserve : Nat) (s : State) : Res :=
  .next (runCmd m 0x0507 [.fid fid, .table table] false
    (firstBad [(0, ownerOk fid), (1, table < 16), (2, pmask < 16), (3, maxEntries ≤ 2 ^ 25), (4, ovfReserve ≤ 16384)])
    (fun s =>
      match grantRefusal s fid table pmask ⟨maxEntries, ovfReserve⟩ with
      | some st => no s st
      | none => ok (putGrant s fid table pmask ⟨maxEntries, ovfReserve⟩)) s)

/-- The entries of an instance that a flush takes: bucket, owner and key of each, bucket and overflow copies once. -/
def flushKeys (fp : FPipe) (t owner : Nat) : List (Nat × Nat × List Nat) :=
  let pick := fun (e : FEntry) => e.table = t && (owner = 0xFFE || e.owner = owner)
  ((tfilter fp.slots (fun _ e => pick e)).map (fun (e : Nat × FEntry) => (e.1 / 4 % 2 ^ 23, e.2.owner, e.2.key)) ++
    (tfilter fp.ovf (fun _ e => pick e.e)).map (fun (e : Nat × OvfEntry) => (e.2.bucket, e.2.e.owner, e.2.e.key))).eraseDups

/-- Remove an owner's entries, or all entries, of a table from one instance. -/
def flushIn (fp : FPipe) (t owner : Nat) : FPipe :=
  let pick := fun (e : FEntry) => e.table = t && (owner = 0xFFE || e.owner = owner)
  noteGone fp { fp with slots := tfilter fp.slots (fun _ e => !pick e), ovf := tfilter fp.ovf (fun _ e => !pick e.e) }

/-- FLUSH: the entries go, and the reply counts them over the named instances. -/
def execFlush (m : Meta) (table owner pmask : Nat) (s : State) : Res :=
  .next (runCmd m 0x0508 (if owner = 0xFFE then [.table table] else [.table table, .fid owner]) true
    (firstBad [(0, table < 16), (1, ownerOk owner || owner = 0xFFE), (2, pmask < 16)])
    (fun s =>
      let s := endCycles s
      match tableOf s table with
      | none => no s .refusedState
      | some _ =>
        if tableLocked s table (maskPipes pmask) then no s .refusedBusy
        else
          let n := ((maskPipes pmask).map (fun p => (flushKeys (fpOf s p) table owner).length)).sum
          bgUntil ((maskPipes pmask).foldl (fun s p => setFp s p (flushIn (fpOf s p) table owner)) s) s.now
            { status := .done, results := [.num 8 n] }) s)

/-! ## The ager (R175, R176) -/

/-- A table that ages. -/
def FTable.ages (x : FTable) : Bool := x.ready && x.ageLimit ≠ 0

/-- The ageing tables with their numbers, ascending. -/
def ageingTables (s : State) : List (Nat × FTable) := s.fwt.tables.filter (fun e => e.2.ages)

/-- The bucket of an ageing table that comes next in the ager's order at or after a place. -/
def agerNext (s : State) (t b : Nat) : Option (Nat × Nat × FTable) :=
  let ts := ageingTables s
  match ts.find? (fun e => e.1 = t && b < 2 ^ e.2.bucketsLog2) with
  | some e => some (t, b, e.2)
  | none =>
    match ts.find? (fun e => t < e.1) with
    | some e => some (e.1, 0, e.2)
    | none => ts.head?.map (fun e => (e.1, 0, e.2))

/-- A marked bucket whose lock has been released, in the order of the marks. -/
def markReady (s : State) (p : Nat) : Option Nat :=
  (fpOf s p).agerMarks.find? (fun k => (tget (fpOf s p).locks k).isNone)

/-- The ager of a pipeline visits a bucket: a marked bucket whose lock is gone first, else the next in order; a
locked bucket is skipped and marked (R175, R176). In a stopped RLDRAM domain the visit demands the domain and waits (R35). -/
def execAgerVisit (p : Nat) (s : State) : Res :=
  .next (if 4 ≤ p || !s.fwt.agerEnable || !s.fwt.ready then s
    else if !domainRuns s (19 + p / 2) then (if (ageingTables s).isEmpty then s else touchRld s p)
    else
      let s := if (ageingTables s).isEmpty then s else touchRld s p
      match markReady s p with
      | some k =>
        let s1 := setFp s p { fpOf s p with agerMarks := (fpOf s p).agerMarks.erase k }
        match (ageingTables s).find? (fun e => e.1 = k / 2 ^ 23) with
        | some e => agerVisitBucket s1 p e.1 (k % 2 ^ 23)
        | none => s1
      | none =>
        match agerNext s (fpOf s p).agerTable (fpOf s p).agerBucket with
        | none => s
        | some (t, b, _) =>
          let fp : FPipe := { fpOf s p with agerTable := t, agerBucket := b + 1 }
          if isLocked fp t b then
            setFp s p { fp with
              agerMarks := if fp.agerMarks.contains (bktKey t b) then fp.agerMarks else fp.agerMarks ++ [bktKey t b] }
          else agerVisitBucket (setFp s p fp) p t b)

/-! ## Homing (R171 to R173) -/

/-- The homing unit writes the bucket copy of an overflow entry (cycle h1): one entry of a bucket at a time, and not
into a locked bucket. In a stopped RLDRAM domain the move demands the domain and waits (R35). -/
def execHomingMove (p t b : Nat) (s : State) : Res :=
  .next (match tableOf s t with
    | none => s
    | some x =>
      let fp := fpOf s p
      if 4 ≤ p || x.hot || isLocked fp t b || fp.homing.any (fun h => h.1 = t && h.2.1 = b) ||
          fp.cycle.contains (.home t b) || (freeSlot fp t b).isNone || (oldestOvf fp t b).isNone then s
      else if !domainRuns s (19 + p / 2) then touchRld s p
      else addCycle (touchRld s p) p (.home t b))

/-- The overflow copy of a key goes in cycle h1 + 2: the homing unit's move is complete and counted, or the copy was one that a
bucket image replaced (R179). -/
def execHomingOverflowRemove (p t b : Nat) (s : State) : Res :=
  .next (let fp := fpOf s p
    match fp.homing.find? (fun h => h.1 = t && h.2.1 = b) with
    | none => s
    | some h =>
      if 4 ≤ p then s
      else
        let fp1 := { fp with homing := fp.homing.erase h }
        match tget fp.ovf h.2.2 with
        | some e =>
          if e.homed && e.e.table = t && e.bucket = b then
            setFp s p { fp1 with
              ovf := tdel fp.ovf h.2.2, homeMoves := if e.byImage then fp.homeMoves else fp.homeMoves + 1 }
          else setFp s p fp1
        | none => setFp s p fp1)

end Sys2Proof.Machine
end

