-- ==== Sys2Proof/Machine/StgCmds.lean ====
section
/-! DEFINITION. The storage commands of class 0x07 (R292, R293, R312, R314, Table 10.12) and the end of a close. -/

namespace Sys2Proof.Machine

/-! ## The steering key (R314) -/

/-- The steering table of a transport. -/
def steerTable (s : State) (transport : Nat) : Nat := if transport = 1 then s.stg.tcpTable else s.stg.roceTable

/-- A steering key fits its table: a configured table that is ready, and zeros from its key_len on. -/
def steerOf (s : State) (transport : Nat) (key : List Nat) : Option (FTable × Nat × List Nat) :=
  match tableOf s (steerTable s transport) with
  | some x => if (key.drop x.keyLen).any (fun v => v ≠ 0) then none else some (x, bucketOf x (normKey x key), normKey x key)
  | none => none

/-- An IPv4 header over a protocol between two addresses, of a datagram of 40 bytes. -/
def keyHeader (proto : Nat) (src dst : List Nat) : List Nat :=
  let h := fun sum => [0x45, 0, 0, 40, 0, 0, 0, 0, 64, proto] ++ beBytes 2 sum ++ src ++ dst
  h (0xFFFF - fold16 (sum16 (h 0)))

/-- A frame with the addresses and ports of a TCP steering key: source address, destination address, source port,
destination port and protocol of the connection's inbound frames (log entry 86). -/
def keyFrame (key : List Nat) : List Nat :=
  List.replicate 12 0 ++ [0x08, 0x00] ++ keyHeader 6 (slice key 0 4) (slice key 4 4) ++ slice key 8 4 ++
    List.replicate 8 0 ++ [0x50] ++ List.replicate 7 0

/-- A frame of RoCEv2 between the addresses and from the source port that ten bytes give. -/
def roceFrame (ends : List Nat) : List Nat :=
  List.replicate 12 0 ++ [0x08, 0x00] ++ keyHeader 17 (slice ends 0 4) (slice ends 4 4) ++ slice ends 8 2 ++
    beBytes 2 4791 ++ beBytes 2 20 ++ List.replicate 14 0

/-- Write the steering entry of connection `n` in all four instances; result bytes 40 and 41 hold its number (log entry
78). -/
def insertSteer (s : State) (transport n : Nat) (key : List Nat) : State :=
  match steerOf s transport key with
  | some (x, b, k) =>
    let t := steerTable s transport
    let e : FEntry :=
      { origin := false, noAge := false, table := t, owner := 0xFFF, lastHit := s.fwt.tick, key := k
        result := leBytes 2 n ++ List.replicate 22 0 }
    pipes.foldl (fun s p => setFp s p (applyManager (fpOf s p) t b x.hot e)) s
  | none => s

/-- Delete a steering entry from all four instances. -/
def deleteSteer (s : State) (transport : Nat) (key : List Nat) : State :=
  match steerOf s transport key with
  | some (_, b, k) =>
    pipes.foldl (fun s p => setFp s p (removeCopies (fpOf s p) (steerTable s transport) b 0xFFF k)) s
  | none => s

/-! ## Create -/

/-- The connections of a FID that are not FREE. -/
def connsHeld (s : State) (fid : Nat) : Nat := tcount s.stg.conns (fun _ c => c.owner = fid)

/-- The connections that an owner may hold; the device has no limit. -/
def connOver (s : State) (fid : Nat) : Bool := fid ≠ 0xFFF && tgetD s.stg.connMax fid 0 ≤ connsHeld s fid

/-- The items of 0x0701 in the order of Table 10.12. -/
def badConn (q : ConnParams) : Option Nat :=
  firstBad [(0, q.conn < 65536), (1, isFn q.owner || q.owner = 0xFFF), (2, q.transport = 1 || q.transport = 2),
    (3, q.program < 8), (6, 1 ≤ q.cmdMax && q.cmdMax ≤ 48), (7, 1 ≤ q.timeoutMs && q.timeoutMs ≤ 65535),
    (8, q.retxLimit ≤ 15), (9, 10 ≤ q.rtoUs && q.rtoUs ≤ 1000000), (10, q.steer.length ≤ 32),
    (11, q.transportState.length ≤ 1600 && (q.transport = 1 || [1024, 2048, 4096].contains (beAt q.transportState 16 2)))]

/-- The transport state stands in the program's lines from line 7 on (log entry 78). -/
def transportLines (bs : List Nat) : Tbl (List Nat) :=
  (List.range ((bs.length + 63) / 64)).map (fun i =>
    let l := slice bs (64 * i) 64
    (7 + i, l ++ List.replicate (64 - l.length) 0))

/-- The record of a new connection; it is mirrored when the device is a paired PRIMARY, or when the
PRIMARY's own command comes over the twin link (R388). -/
def newConn (s : State) (m : Meta) (q : ConnParams) (p : Nat) : Conn :=
  { st := .active, transport := q.transport, hdgst := q.hdgst, ddgst := q.ddgst, retxLimit := q.retxLimit
    program := q.program, owner := q.owner, pipeline := p, cmdMax := q.cmdMax, timeoutMs := q.timeoutMs
    rtoUs := q.rtoUs, mirrored := m.path = .twin || (s.twn.role = rolePrimary && s.twn.paired)
    lines := transportLines q.transportState, steer := q.steer }

/-- The refusal of a create by its steering table: a key that does not fit, a table that is gone or full, a locked
bucket (log entry 78). -/
def steerRefusal (s : State) (q : ConnParams) : Option CmdOut :=
  match tableOf s (steerTable s q.transport) with
  | none => some (no s .refusedState)
  | some _ =>
    match steerOf s q.transport q.steer with
    | none => some (noItem s .badParam 10)
    | some (x, b, k) =>
      if !roomFor s x (steerTable s q.transport) b 0xFFF k then some (no s .refusedLimit)
      else if lockedAny s (steerTable s q.transport) b then some (no s .refusedBusy)
      else none

/-- A connection is created on a pipeline. -/
def createConn (m : Meta) (prm : ConnParams) (p : Nat) (s : State) : State :=
  runCmd m 0x0701 [.conn prm.conn, .fid prm.owner] true (badConn prm)
    (fun s =>
      if !s.stg.configured || (connOf s prm.conn).isSome then no s .refusedState
      else if connOver s prm.owner then no s .refusedLimit
      else
        match steerRefusal s prm with
        | some o => o
        | none => okWith (insertSteer (setConn s prm.conn (newConn s m prm p)) prm.transport prm.conn prm.steer) [.num 1 p]) s

/-- CREATE_CONNECTION: the connection runs on the pipeline that R16 selects for its inbound frames (R21, R293). -/
def execCreateConnection (m : Meta) (prm : ConnParams) (s : State) : Res :=
  .next (createConn m prm (selectPipe (portOf s prm.port) prm.frameFields) s)

/-! ## Close (R314, R309) -/

/-- Commands in flight: slots ACTIVE or EXPIRED. -/
def Conn.inFlight (c : Conn) : Nat := tcount c.slots (fun _ x => x.st = 1 || x.st = 2)

/-- What the library still does in a packet whose connection closes: it frees what it took and ends. A step that its unit has not
answered yet ends first. -/
def LibRun.orphan (r : LibRun) (waits : Bool) : LibRun :=
  let r1 := r.giveUp [.finish]
  if !waits then r1
  else match r.plan.headD .finish with
    | .alloc d n => { r1 with plan := .alloc d n :: .free d :: r1.plan }
    | op => { r1 with plan := op :: r1.plan }

/-- The packet that held the turn of a connection that is gone holds nothing; the shipped library writes no data of its
commands any more (R304). -/
def orphanPkt (k : Pkt) (parked : Bool) : Pkt :=
  match k.lib with
  | some r =>
    let waits := parked || k.st ≠ .ready
    let r1 := r.orphan waits
    { (if waits then k else (r1.plan.headD .finish).operands r1 k) with conn := none, lib := some r1 }
  | none => { k with conn := none }

/-- Packets that held the turn of a connection that is gone hold nothing. -/
def forgetTurn (s : State) (n : Nat) : State :=
  let mine := fun (k : Pkt) => k.conn = some n
  let f := fun (parked : Bool) (k : Pkt) => if mine k then orphanPkt k parked else k
  let g := fun (k : Pkt) => if mine k then
      { k with conn := none, lib := some { conn := n, fid := 0xFFF, turn := true, plan := [.finish] } } else k
  pipes.foldl (fun s p =>
    let y := pipeOf s p
    setPipe s p { y with
      ctxs := tmap y.ctxs (fun _ k => f false k), admission := y.admission.map g, parked := y.parked.map (f true) }) s

/-- The lists that packets in a connection's turn wait for end with ABORTED, so that no write of theirs follows the completion of
their command (R304). -/
def endTurnLists (s : State) (n : Nat) : State :=
  (List.range 16).foldl (fun s ch =>
    if (chanOf s ch).mode = 2 then
      endLists s ch (fun l => (pipeOf s l.p).parked.any (fun k => k.ord = l.ord && k.conn = some n)) .refusedBusy 0x33
    else s) s

/-- The end of every close: slots in flight complete with ABORTED and every slot is FREE, the steering entry is deleted,
the turn queue dropped, the record zeroed, and the chains of parts of data units freed. -/
def closeConn (s : State) (n : Nat) : State :=
  match connOf s n with
  | some c =>
    let s1 := dropTurn (abortSlots (endTurnLists s n) n 0) n
    let s2 := ((c.lib.map (·.frags)).getD []).foldl (fun s f => releaseChain s f.cell)
      (forgetTurn (deleteSteer s1 c.transport c.steer) n)
    { s2 with stg := { s2.stg with conns := tdel s2.stg.conns n } }
  | none => s

/-- The bucket of a connection's steering entry is locked in some instance (R178). -/
def steerLocked (s : State) (c : Conn) : Bool :=
  match steerOf s c.transport c.steer with
  | some (_, b, _) => lockedAny s (steerTable s c.transport) b
  | none => false

/-- The reply of a close: the commands it aborted. -/
def closeEnd (n : Nat) : CmdEnd := { status := .done, results := [.num 4 n] }

/-- CLOSE_CONNECTION: at once by force or from CLOSING or FAILED; else the connection is CLOSING until no command is in
flight, or until the drain limit. A locked bucket of its steering entry refuses the command
(R178). -/
def execCloseConnection (m : Meta) (conn drainMs : Nat) (force : Bool) (s : State) : Res :=
  .next (runCmd m 0x0702 [.conn conn] true (firstBad [(0, conn < 65536), (1, drainMs ≤ 10000)])
    (fun s =>
      match connOf s conn with
      | none => no s .refusedState
      | some c =>
        if steerLocked s c then no s .refusedBusy
        else if force || c.st ≠ .active then okWith (closeConn s conn) [.num 4 c.inFlight]
        else
          let t := s.now + 1000000 * drainMs
          bgOpen (setConn s conn { c with st := .closing, dirty := (c.dirty ++ [0]).eraseDups }) t)
      s)

/-- CLOSE_DRAIN_END: no command is in flight, or the drain limit has come. -/
def execCloseDrainEnd (conn : Nat) (s : State) : Res :=
  .next (match bgOf s [0x0702] (.conn conn) with
    | some b =>
      match connOf s conn with
      | some c =>
        if !(c.inFlight = 0 || b.deadline ≤ s.now) then s
        else if steerLocked s c then endBg s b { status := .refusedBusy } false
        else endBg (closeConn s conn) b (closeEnd c.inFlight) false
      | none => endBg s b (closeEnd 0) false
    | none => s)

/-! ## Read, configure and grants -/

/-- READ_CONNECTION: line 0 and the slot table. -/
def execReadConnection (m : Meta) (conn : Nat) (s : State) : Res :=
  .next (runCmd m 0x0703 [.conn conn] false (firstBad [(0, conn < 65536)])
    (fun s =>
      match connOf s conn with
      | none => no s .refusedState
      | some c => okWith s ((List.range 7).flatMap (fun l => (c.line l).map (fun v => .num 1 v)))) s)

/-- A step-mode channel that the device owns (R312). -/
def stgChannelOk (s : State) (ch : Nat) : Bool :=
  ch < 15 && (chanOf s ch).owner = 0xFFF && (chanOf s ch).mode = 2

/-- A configured table that is ready can be a steering table. -/
def steerTableOk (s : State) (t : Nat) : Bool :=
  t < 16 && (match tableOf s t with | some x => x.kind = 0 | none => false)

/-- CONFIGURE_STORAGE: one step-mode haul channel per pipeline, and the two steering tables. -/
def execConfigureStorage (m : Meta) (channels : List Nat) (tcpTable roceTable : Nat) (s : State) : Res :=
  .next (runCmd m 0x0704 (channels.map .channel ++ [.table tcpTable, .table roceTable]) true
    (firstBad ((pipes.map (fun p => (p, (decide (channels.length = 4) && decide (channels.getD p 16 < 15) : Bool)))) ++
      [(4, decide (tcpTable < 16)), (5, decide (roceTable < 16))]))
    (fun s =>
      match firstBad ((pipes.map (fun p => (p, stgChannelOk s (channels.getD p 16)))) ++
          [(4, steerTableOk s tcpTable), (5, steerTableOk s roceTable)]) with
      | some i => noItem s .badParam i
      | none =>
        if s.stg.conns ≠ [] then no s .refusedBusy
        else
          ok { s with stg := { s.stg with
            configured := true, tcpTable := tcpTable, roceTable := roceTable
            channels := pipes.map (fun p => (p, channels.getD p 0)) } }) s)

/-- Set a function's conn_max. -/
def putConnMax (s : State) (fid connMax : Nat) : State :=
  { s with stg := { s.stg with connMax := tset s.stg.connMax fid connMax } }

/-- SET_STORAGE_GRANT. -/
def execSetStorageGrant (m : Meta) (fid connMax : Nat) (s : State) : Res :=
  .next (runCmd m 0x0705 [.fid fid] false (firstBad [(0, isFn fid), (1, connMax ≤ 65536)])
    (fun s => if connMax < connsHeld s fid then no s .refusedLimit else ok (putConnMax s fid connMax)) s)

end Sys2Proof.Machine
end

