-- ==== Sys2Proof/Machine/FnBase.lean ====
section
/-! DEFINITION. What the function commands and function-level resets share: the quiesce report (R326), aborting by force
(R329), and the effects of a reset and a remove (Table 11.5). -/

namespace Sys2Proof.Machine

/-! ## The quiesce report (Table 11.4) -/

/-- A run acts for a function on a channel of its own: RUNNING or READY in host or watermark mode. -/
def Chan.runsFor (c : Chan) (fid : Nat) : Bool := c.mode ≠ 2 && c.acting = fid && (c.st = .running || c.st = .ready)

/-- The haul runs acting for a FID, queued or running. -/
def runsOf (s : State) (fid : Nat) : Nat :=
  ((List.range 16).map (fun n =>
    let c := chanOf s n
    b2n (c.runsFor fid) + (c.lists.filter (fun l => l.fid = fid)).length)).sum

/-- The parked packets of a FID. -/
def parkedOf (s : State) (fid : Nat) : Nat :=
  (pipes.map (fun p => ((pipeOf s p).parked.filter (fun k => k.fid = fid)).length)).sum

/-- The entries of a FID that were fetched and have not retired. -/
def fetchedOf (s : State) (fid : Nat) : Nat :=
  tsum s.qm.tx (fun _ r => if r.fid = fid then r.entries.length else 0) +
    tsum s.qm.rx (fun _ r => if r.fid = fid then r.entries.length else 0)

/-- The storage slots ACTIVE or EXPIRED on a FID's connections. -/
def slotsOf (s : State) (fid : Nat) : Nat := tsum s.stg.conns (fun _ c => if c.owner = fid then c.inFlight else 0)

/-- The Granary buffers that a FID holds. -/
def buffersOf (s : State) (fid : Nat) : Nat := tcount s.grn.bufs (fun _ b => b.st = 2 && b.owner = fid)

/-- The report as the state stands. -/
def reportOf (s : State) (fid : Nat) : QReport :=
  { fetched := fetchedOf s fid
    parked := parkedOf s fid
    haulRuns := runsOf s fid
    reads := (s.pci.reads.filter (fun r => r.fid = fid && r.fin.isNone && !r.abandoned)).length
    lanes := tcount s.cip.lanes (fun _ l => l.owner = fid)
    locks := locksOf s fid
    slots := slotsOf s fid
    backlog := tsum s.qm.cq (fun _ c => if c.fid = fid then c.backlog.length else 0)
    uncovered :=
      tsum s.qm.tx (fun _ r => if r.fid = fid then r.covered else 0) +
        tsum s.qm.rx (fun _ r => if r.fid = fid then r.covered else 0)
    granary := buffersOf s fid
    frozenDuring := (fnOf s fid).frozenDuring }

/-- The blocking items of a report. -/
def QReport.blocking (r : QReport) : Nat :=
  r.fetched + r.parked + r.haulRuns + r.reads + r.lanes + r.locks + r.slots + r.backlog

/-- The report as a reply carries it (R397). -/
def QReport.flds (r : QReport) : List Fld :=
  [.num 4 r.fetched, .num 4 r.parked, .num 4 r.haulRuns, .num 4 r.reads, .num 4 r.lanes, .num 4 r.locks, .num 4 r.slots,
    .num 4 r.backlog, .num 4 r.uncovered, .num 4 r.granary, .num 1 (b2n r.frozenDuring)]

/-- The rings of a FID pass from one state to another. -/
def moveRings (s : State) (fid : Nat) (g : RingState → RingState) : State :=
  { s with qm := { s.qm with
      tx := tmap s.qm.tx (fun _ r => if r.fid = fid then { r with st := g r.st } else r)
      rx := tmap s.qm.rx (fun _ r => if r.fid = fid then { r with st := g r.st } else r)
      cq := tmap s.qm.cq (fun _ c => if c.fid = fid then { c with st := g c.st } else c) } }

/-- The report that a quiesce ends with: an item that reached zero only at the limit counts as remaining, as it stood before
(R326). -/
def quietReport (s : State) (fid : Nat) : QReport :=
  let f := fnOf s fid
  let r := reportOf s fid
  match f.quiesceUntil with
  | some t => if t ≤ s.now && r.blocking = 0 && f.qSeen.blocking ≠ 0 then f.qSeen else r
  | none => r

/-- The report of every quiesce under way, as it stands before a nanosecond passes (R326). -/
def watchQuiesces (s : State) : State :=
  s.fns.foldl (fun s e => if e.2.st = .quiescing then modFn s e.1 (fun f => { f with qSeen := reportOf s e.1 }) else s) s

/-- A quiesce ends with its report: the instance is QUIESCED, its rings are STOPPED, and the command replies (R327). -/
def finishQuiesce (s : State) (fid : Nat) : State :=
  let r := quietReport s fid
  let st : Status := if r.blocking = 0 then .done else .refusedBusy
  let s1 := modFn s fid (fun f => { f with
    st := .quiesced, lastQ := r, lastQStatus := st.code, quiesceUntil := none
    releaseOk := f.releaseOk || (f.frozen && st = .done) })
  let s2 := moveRings s1 fid (fun x => if x = .quiescing then .stopped else x)
  match bgOf s2 [0x0202] (.fid fid) with
  | some b => endBg s2 b { status := st, results := r.flds } false
  | none => s2

/-! ## Aborting by force (R329, R371) -/

/-- A packet in a context or an admission queue that is the work of a FID: of one of its entries, or of a turn of its
connection. -/
def workOf (fid : Nat) (k : Pkt) : Bool := k.fid = fid && (k.ring.isSome || k.conn.isSome)

/-- The packet of a context is the work of a FID. -/
def workAt (s : State) (fid p c : Nat) : Bool :=
  match tget (pipeOf s p).ctxs c with
  | some k => workOf fid k
  | none => false

/-- Records of a FID, or of its packets, end: their steps get the code that force gives them (R374), since no unit answers a
step with ABORTED (Table 2.4; log entry 117). -/
def abortRecords (s : State) (fid : Nat) : State :=
  (s.cip.records.filter (fun r => r.fid = fid || workAt s fid r.p r.c)).foldl (fun s r => stopRecord s r .refusedState) s

/-- Waiting Granary requests of a FID, or of its packets, end unserved (log entry 117). -/
def abortRequests (s : State) (fid : Nat) : State :=
  let mine := fun (r : WaitReq) => r.owner = fid ||
    (match r.who with
    | .step p c => workAt s fid p c
    | _ => false)
  (s.grn.waiting.filter mine).foldl (fun s r =>
    let s1 := match r.scrub with
      | some j => undoScrub s j
      | none => s
    endRequest s1 r .refusedEmpty 0) s

/-- Runs acting for a FID end with ABORTED, with no status block, event count or signal; a step that waits for one gets
REFUSED_BUSY with that status (R286). -/
def abortRuns (s : State) (fid : Nat) : State :=
  (List.range 16).foldl (fun s n =>
    let c := chanOf s n
    if c.mode = 2 then dropLists s n fid .refusedBusy 0x33
    else if c.runsFor fid then
      let s1 := unitFreed s n
      setChan s1 n { chanOf s1 n with st := .idle, lastStatus := 0x33 }
    else s) s

/-- The reads of a FID, and of packets parked for it, are abandoned: a read that was issued keeps its tag until its
completion comes, which is discarded (R329, R371). PF0's FLR ends the device's own reads too, which carry PF0's requester ID
(R322). A packet of another function that waits for such a read resumes with
FAILED_TIMEOUT (R518). -/
def abandonReads (s : State) (fid : Nat) : State :=
  let gone := fun (r : Read) => r.fid = fid || (fid = 0 && r.fid = 0xFFF) ||
    (match r.use with
    | .dmar p ord _ _ => (pipeOf s p).parked.any (fun k => k.ord = ord && k.fid = fid)
    | _ => false)
  let s1 : State := { s with pci := { s.pci with reads := s.pci.reads.filterMap (fun r =>
      if !gone r then some r
      else if r.tag.isSome && r.fin.isNone then some { r with abandoned := true }
      else none) } }
  (s.pci.reads.filter gone).foldl (fun s r =>
    match r.use with
    | .dmar p ord _ _ => resumeParked s p ord .failedTimeout none
    | _ => s) s1

/-- The packets of a FID end where they are; buffers held by aborted work are freed (R329). -/
def abortPackets (s : State) (fid : Nat) : State :=
  pipes.foldl (fun s p =>
    let x := pipeOf s p
    let dead := (x.ctxs.map (·.2)).filter (workOf fid) ++ x.admission.filter (workOf fid) ++
      x.parked.filter (fun k => k.fid = fid)
    let s1 := setPipe s p { x with
      ctxs := tfilter x.ctxs (fun _ k => !workOf fid k), admission := x.admission.filter (fun k => !workOf fid k)
      parked := x.parked.filter (fun k => k.fid ≠ fid) }
    dead.foldl (fun s k => finishPkt s p { k with ring := none } 2 0 .aborted) s1) s

/-- The entries of a FID end: none of them remains on its rings. -/
def dropEntries (s : State) (fid : Nat) : State :=
  { s with qm := { s.qm with
      tx := tmap s.qm.tx (fun _ r => if r.fid = fid then { r with entries := [], fetching := false, failed := [] } else r)
      rx := tmap s.qm.rx (fun _ r => if r.fid = fid then { r with entries := [], fetching := false, failed := [] } else r) } }

/-- Lanes that a FID holds are wiped and released, and its locks are cleared. -/
def dropClaims (s : State) (fid : Nat) : State :=
  clearLocksOf { s with cip := { s.cip with
    lanes := tmap s.cip.lanes (fun _ l => if l.owner = fid then l.wipe.release else l) } } fid

/-- Storage slots in flight on a FID's connections end with ABORTED. -/
def abortConns (s : State) (fid : Nat) : State :=
  ((s.stg.conns.filter (fun e => e.2.owner = fid)).map (·.1)).foldl (fun s n => abortSlots s n 3) s

/-- The aborted items that are counted: entries, runs, records, parked packets and storage slots. -/
def abortCount (s : State) (fid : Nat) : Nat :=
  fetchedOf s fid + runsOf s fid + (s.cip.records.filter (fun r => r.fid = fid)).length + parkedOf s fid + slotsOf s fid

/-- Everything of a FID in flight ends with ABORTED, and nothing is written for it (R329, R371). -/
def endWork (s : State) (fid : Nat) : State :=
  let s2 := abortRequests (abortRecords s fid) fid
  let s3 := abandonReads (abortRuns s2 fid) fid
  let s4 := dropEntries (abortPackets s3 fid) fid
  dropClaims (abortConns s4 fid) fid

/-- By force, each item that ends is counted (R329). -/
def abortWork (s : State) (fid : Nat) : State := endWork (countN s fid cFnForceAborted (abortCount s fid)) fid

/-! ## The effects of a reset (Table 11.5, reset column) -/

/-- A transmit or receive ring after a reset: positions zeroed, staging discarded, STOPPED unless it is FROZEN or
NOT_READY (R120, R372). -/
def Ring.reset (r : Ring) : Ring :=
  { r with
    st := if r.st = .frozen || r.st = .notReady then r.st else .stopped
    p := 0, c := 0, f := 0, base0 := 0, covered := 0, entries := [], staged := [], marks := [], fetching := false
    fenced := false, failed := [], coverFrozen := false }

/-- A completion ring after a reset: its backlog is discarded. -/
def CqRing.reset (c : CqRing) : CqRing :=
  { c with
    st := if c.st = .frozen || c.st = .notReady then c.st else .stopped
    armed := false, pc := 0, c := 0, backlog := [], reserved := 0, zero := false, owed := false }

/-- The rings of a FID are reset. -/
def resetRings (s : State) (fid : Nat) : State :=
  { s with qm := { s.qm with
      tx := tmap s.qm.tx (fun _ r => if r.fid = fid then r.reset else r)
      rx := tmap s.qm.rx (fun _ r => if r.fid = fid then r.reset else r)
      cq := tmap s.qm.cq (fun _ c => if c.fid = fid then c.reset else c) } }

/-- Every connection of a FID is closed by force (R313). -/
def closeConnsOf (s : State) (fid : Nat) : State :=
  ((s.stg.conns.filter (fun e => e.2.owner = fid)).map (·.1)).foldl closeConn s

/-- A channel after its owner's reset: IDLE, lists and event counts cleared (R287). -/
def Chan.reset (c : Chan) : Chan :=
  { c with
    st := .idle, lists := [], unit := none, stopReq := false, waitHalf := false, waitFull := false
    fresh := false, halfPosted := 0, fullPosted := 0, halfAcked := 0, fullAcked := 0 }

/-- The channels of a FID, and those whose runs act for it, are reset (R272). -/
def resetChans (s : State) (fid : Nat) : State :=
  ((List.range 15).filter (fun n =>
    let c := chanOf s n
    (c.owner = fid || c.acting = fid) && c.st ≠ .ungranted)).foldl (fun s n => setChan s n (chanOf s n).reset) s

/-- The dedicated lanes of a FID are wiped (R253). -/
def wipeLanesOf (s : State) (fid : Nat) : State :=
  (lanesOf s fid).foldl (fun s n => setLane s n (laneOf s n).wipe) s

/-- The policers of a FID have full buckets. -/
def fillPolicers (s : State) (fid : Nat) : State :=
  { s with sw := { s.sw with policers := tmap s.sw.policers (fun _ x =>
      if x.fid = fid then { x with tokens := x.burst } else x) } }

/-- Remove the entries of a FID that a test picks from every instance (R332). -/
def dropEntriesOf (s : State) (fid : Nat) (pick : FEntry → Bool) : State :=
  let out := fun (e : FEntry) => e.owner = fid && pick e
  pipes.foldl (fun s p =>
    let fp := fpOf s p
    setFp s p (noteGone fp { fp with
      slots := tfilter fp.slots (fun _ e => !out e), ovf := tfilter fp.ovf (fun _ e => !out e.e)
      cycle := fp.cycle.filter (fun w => match w with
        | .learn _ y => y.owner ≠ fid
        | _ => true) })) s

/-- An instance reset removes learned entries of the tables in which the FID holds a grant (R332). -/
def learnedOf (s : State) (fid : Nat) (e : FEntry) : Bool :=
  e.origin && pipes.any (fun p => (grantOf s fid e.table p).isSome)

/-- A bucket that another FID has locked holds an entry of a FID that a test picks: what would remove it waits for the lock
(R178). -/
def lockedOut (s : State) (fid : Nat) (pick : FEntry → Bool) : Bool :=
  pipes.any (fun p =>
    let fp := fpOf s p
    tany fp.locks (fun k l => l.holder ≠ fid &&
      ((bucketSlots fp (k / 2 ^ 23) (k % 2 ^ 23)).map (·.2) ++ (bucketOvf fp (k / 2 ^ 23) (k % 2 ^ 23)).map (·.2.e)).any
        (fun e => e.owner = fid && pick e)))

/-- The effects that a reset and a function-level reset share (R330, R372). -/
def resetFn (s : State) (fid : Nat) : State :=
  let s1 := closeConnsOf (dropClaims s fid) fid
  let s2 := resetRings (freeAllOf s1 fid) fid
  fillPolicers (wipeLanesOf (resetChans s2 fid) fid) fid

/-- An instance reset ends: learned entries are gone and the instance is QUIESCED. -/
def endReset (s : State) (fid : Nat) : State :=
  let s1 := resetFn (dropEntriesOf s fid (learnedOf s fid)) fid
  modFn s1 fid (fun f => { f with st := .quiesced, resetKind := none, releaseOk := f.frozen })

/-! ## The effects of a remove (Table 11.5, remove column) -/

/-- The rings of a FID are destroyed. -/
def destroyRings (s : State) (fid : Nat) : State :=
  { s with qm := { s.qm with
      tx := tfilter s.qm.tx (fun _ r => r.fid ≠ fid)
      rx := tfilter s.qm.rx (fun _ r => r.fid ≠ fid)
      cq := tfilter s.qm.cq (fun _ c => c.fid ≠ fid) } }

/-- The channels of a FID are withdrawn. -/
def withdrawChans (s : State) (fid : Nat) : State := (ownedChans s fid).foldl (fun s n => setChan s n {}) s

/-- SAs, cipher grant, policers, conn_max, shares and table grants of a FID are gone. -/
def dropGrants (s : State) (fid : Nat) : State :=
  let s1 := putCGrant s fid {}
  { s1 with
    cip := { s1.cip with sas := tfilter s1.cip.sas (fun _ a => a.owner ≠ fid) }
    sw := { s1.sw with policers := tfilter s1.sw.policers (fun _ x => x.fid ≠ fid) }
    stg := { s1.stg with connMax := tdel s1.stg.connMax fid }
    grn := { s1.grn with shares := tfilter s1.grn.shares (fun k _ => k % 4096 ≠ fid) }
    fwt := { s1.fwt with grants := tfilter s1.fwt.grants (fun k _ => k / 64 ≠ fid) } }

/-- A remove ends: the instance is ABSENT and holds nothing (R330). -/
def endRemove (s : State) (fid : Nat) : State :=
  let s1 := resetFn (dropEntriesOf s fid (fun _ => true)) fid
  let s2 := dropGrants (withdrawChans (destroyRings s1 fid) fid) fid
  isoCheck (setFn s2 fid { mbx := (fnOf s2 fid).mbx }) 2

/-- The reply of the reset or remove of a FID, if a command asked for it. -/
def replyReset (s : State) (fid : Nat) : State :=
  match bgOf s [0x0204, 0x0205] (.fid fid) with
  | some b => endBg s b { status := .done } false
  | none => s

/-! ## Forced resets (R320) -/

/-- Enter RESETTING: a quiesce in progress ends with its report, and by force everything in flight is aborted. -/
def enterReset (s : State) (fid : Nat) (kind : ResetKind) (force : Bool) : State :=
  let s1 := if (fnOf s fid).st = .quiescing then finishQuiesce s fid else s
  let s2 := modFn s1 fid (fun f => { f with st := .resetting, resetKind := some kind })
  if force then abortWork s2 fid else s2

/-- A forced reset, from any state but ABSENT and RESETTING (R320, R373). -/
def forceReset (s : State) (fid : Nat) : State :=
  let st := (fnOf s fid).st
  if st = .absent || st = .resetting then s else enterReset s fid .forced true

/-- The instances whose virtual function existed in the state `old` and has ceased to exist are reset by force (R320). -/
def resetLostVfs (old s : State) : State :=
  ((s.fns.filter (fun e => isVf e.1 && vfExists old e.1 && !vfExists s e.1)).map (·.1)).foldl forceReset s

end Sys2Proof.Machine
end

