-- ==== Sys2Proof/Machine/PciRows.lean ====
section
/-! DEFINITION. The PCI Express endpoint: read completions and timeouts (R358, R362 to R365), INTA (R359, R360), MSI-X
(R361), Bus Master Enable (R366, R518), function-level reset (R371 to R373), SR-IOV (R320, R351), wake and link events
(R369, R370). -/

namespace Sys2Proof.Machine

/-! ## Completions (R362 to R365) -/

/-- The read that holds a tag of a link, with its place. -/
def readByTag (s : State) (link tag : Nat) : Option (Nat × Read) :=
  let rs := s.pci.reads
  (List.range rs.length).findSome? (fun i =>
    match rs[i]? with
    | some r => if r.link = link && r.tag = some tag && r.fin.isNone then some (i, r) else none
    | none => none)

/-- A late completion: counted for its requester and shown in PCI_LATE. -/
def lateCpl (s : State) (fid link tag : Nat) : State :=
  let s1 := count s fid cLateCpl
  { s1 with pci := { s1.pci with lateFid := fid % 4096, lateTag := tag, lateLink := link, lateSeen := true } }

/-- A read times out (R364): its tag is quarantined for twice the timeout value, and the read ends with FAILED_TIMEOUT. The
tag of an abandoned read is quarantined in the same way (R371). -/
def timeoutRead (s : State) (i : Nat) (r : Read) (tag : Nat) : State :=
  let q := r.at_ + 3 * r.tmo
  if r.abandoned then
    dropRead { s with pci := { s.pci with
      quarantine := tset s.pci.quarantine (r.link * 16384 + tag) (q, requester r.fid) } } i
  else endRead (readTimedOut s (requester r.fid) r.link tag q) i r .timeout []

/-- A completion with no tag busy: late for a quarantined tag, else unexpected (R364), which function 0 of the link records
(log entry 118). -/
def strayCpl (s : State) (link tag : Nat) : State :=
  match quarantined s link tag with
  | some fid => lateCpl s fid link tag
  | none => countDev (aerError s (if link = 1 then 1 else 0) 16) cPciUnexpectedCpl

/-- A completion in time: data, poisoned data, or an error status (R365). Data of a function whose Bus Master Enable was
cleared is discarded (R366). -/
def takeCpl (s : State) (i : Nat) (r : Read) (tag : Nat) (ok ep : Bool) (data : List Nat) : State :=
  let fid := requester r.fid
  if r.abandoned then issueWaiting (lateCpl (dropRead s i) fid r.link tag)
  else if !ok then endRead (count s fid cPciCplError) i r .timeout []
  else if r.discard then endRead s i r .timeout []
  else if ep then endRead (count s fid cPciRxPoisoned) i r .poisoned data
  else endRead s i r .ok data

/-- READ_COMPLETION: one that falls at the window's end or later is late (R364). -/
def execReadCompletion (link tag : Nat) (ok ep : Bool) (data : List Nat) (s : State) : Res :=
  .next (match readByTag s link tag with
    | some (i, r) =>
      if r.at_ + r.tmo ≤ s.now then strayCpl (timeoutRead s i r tag) link tag else takeCpl s i r tag ok ep data
    | none => strayCpl s link tag)

/-- COMPLETION_TIMEOUT. -/
def execCompletionTimeout (link tag : Nat) (s : State) : Res :=
  .next (match readByTag s link tag with
    | some (i, r) => if r.at_ + r.tmo ≤ s.now then timeoutRead s i r tag else s
    | none => s)

/-- TAG_QUARANTINE_END. -/
def execTagQuarantineEnd (link tag : Nat) (s : State) : Res :=
  .next (match tget s.pci.quarantine (link * 16384 + tag) with
    | some (t, _) =>
      if t ≤ s.now then
        issueWaiting { s with pci := { s.pci with quarantine := tdel s.pci.quarantine (link * 16384 + tag) } }
      else s
    | none => s)

/-- A function that the links show: PF0, PF1, or an existing virtual function. -/
def fnPresent (s : State) (fid : Nat) : Bool := fid ≤ 1 || vfExists s fid

/-- A configuration request reaches a function's registers: the device is ready for one, the function is there, and none of
its FLR goes on; every other completes with Request Retry Status or Unsupported Request (R354, R370, R371). -/
def cfgReach (s : State) (fid : Nat) : Bool :=
  s.pci.configReady && fnPresent s fid && (pciOf s fid).flrAt.isNone && !(pciOf s fid).flrDue

/-! ## INTA (R359, R360) -/

/-- The wire state W. -/
def intaWire (s : State) : Bool :=
  s.dev.logProd ≠ s.dev.logCons && !s.pci.intDisable && (pciOf s 0).dstate = 0 && (pciOf s 0).flrAt.isNone

/-- Compare W with the last message and send the one that is due; a link that is down sends none. -/
def intaSync (s : State) : State :=
  if !s.pci.linkUp || s.pci.l23 || intaWire s = s.pci.lastAssert then s
  else
    let w := intaWire s
    emit { s with pci := { s.pci with lastAssert := w, asserts := (s.pci.asserts + b2n w) % 65536 } } (.inta w)

/-- INTA_UPDATE: the end of a PCIE-TL cycle. -/
def execIntaUpdate (s : State) : Res := .next (intaSync s)

/-- INTERRUPT_DISABLE_WRITE. -/
def execInterruptDisableWrite (v : Bool) (s : State) : Res :=
  .next (if cfgReach s 0 then intaSync { s with pci := { s.pci with intDisable := v } } else s)

/-! ## MSI-X (R361) -/

/-- MSIX_UNMASK: a vector below 128 is unmasked, by a memory write; a higher number stands for the function, unmasked and
enabled by a configuration write (log entry 43). -/
def execMsixUnmask (fid vec : Nat) (s : State) : Res :=
  .next (if fid = 0 || !(if vec < 128 then memReach s fid else cfgReach s fid) then s
    else
      let f := pciOf s fid
      let g := if vec < 128 then { f with vecs := tput {} f.vecs vec { tgetD f.vecs vec {} with mask := false } }
        else { f with msixEnable := true, msixMask := false }
      sendHeld (setPci s fid g) fid)

/-! ## Bus Master Enable (R366, R518) -/

/-- Scrubs under way in pools of a function that may no longer issue end, and their requests go on (R148). -/
def stopScrubs (s : State) (fid : Nat) : State :=
  s.grn.waiting.foldl (fun s r =>
    match r.scrub with
    | some j =>
      if j.bufs.any (fun b => (poolOf s (hPool b.1)).spaceFid = fid && 4 ≤ hPool b.1) then
        resumeRequest s r j
      else s
    | none => s) s

/-- Reads of a function that has stopped issuing: those issued end at their completion with nothing delivered, those not
yet issued end now (R366, R518). -/
def haltReads (s : State) (fid : Nat) : State :=
  failWaiting { s with pci := { s.pci with reads := s.pci.reads.map (fun r =>
    if requester r.fid = fid && r.fin.isNone then { r with discard := true } else r) } } fid

/-- Every effect of a Bus Master Enable clear but the bit itself: rings RUNNING or HELD enter HALTED_HOST, runs end with
ABORTED and no status block, reads end without data. -/
def haltFn (s : State) (fid : Nat) : State :=
  let s1 := moveRings s fid (fun x => if x = .running || x = .held then .haltedHost else x)
  let s2 := abortRuns s1 fid
  let s3 := if fid = 0 then abortRuns s2 0xFFF else s2
  stopScrubs (haltReads s3 fid) fid

/-- BUS_MASTER_ENABLE_CLEAR. -/
def execBusMasterEnableClear (fid : Nat) (s : State) : Res :=
  .next (if cfgReach s fid && (pciOf s fid).bme then
      haltFn (setPci s fid { pciOf s fid with bme := false }) fid
    else s)

/-- BUS_MASTER_ENABLE_SET: held MSI-X messages go out; rings stay HALTED_HOST until the resume command. -/
def execBusMasterEnableSet (fid : Nat) (s : State) : Res :=
  .next (if cfgReach s fid then
      sendHeld (setPci s fid { pciOf s fid with bme := true }) fid
    else s)

/-! ## SR-IOV (R320, R351) -/

/-- Virtual functions that no longer exist lose their configuration space, and their instances are reset by force. -/
def loseVfs (old s : State) : State :=
  let s1 := resetLostVfs old s
  { s1 with pci := { s1.pci with fns := tfilter s1.pci.fns (fun fid _ => fid ≤ 1 || vfExists s1 fid) } }

/-- SRIOV_VF_ENABLE_SET. -/
def execSriovVfEnableSet (numVfs : Nat) (s : State) : Res :=
  .next (let s1 := { s with pci := { s.pci with numVfs := if numVfs ≤ 2048 then numVfs else s.pci.numVfs } }
    if !cfgReach s 0 then s
    else if !s.pci.ari then logEvent s1 0x0013 0 []
    else loseVfs s { s1 with pci := { s1.pci with vfEnable := true } })

/-- SRIOV_VF_DISABLE: VF Enable is cleared, or NumVFs written. -/
def execSriovVfDisable (clearEnable : Bool) (numVfs : Nat) (s : State) : Res :=
  .next (if !cfgReach s 0 then s
    else loseVfs s (if clearEnable then { s with pci := { s.pci with vfEnable := false } }
    else { s with pci := { s.pci with numVfs := if numVfs ≤ 2048 then numVfs else s.pci.numVfs } }))

/-! ## D3hot (R367, Table 12.9) -/

/-- Ports are disabled with force in D3hot, and those that were enabled are noted. -/
def parkPorts (s : State) : State :=
  (List.range 8).foldl (fun s n =>
    let x := portOf s n
    if x.enabled then
      disablePort (flushPort (setPort s n { x with wasEnabled := true }) n (cTxDisableFlush n)) n
    else s) s

/-- On the return to D0 the Steward enables the ports that were enabled. -/
def unparkPorts (s : State) : State :=
  (List.range 8).foldl (fun s n =>
    let x := portOf s n
    if x.wasEnabled then
      match portBlock s n with
      | some b => enablePort (setPort s n { x with wasEnabled := false }) n b
      | none => setPort s n { x with wasEnabled := false }
    else s) s

/-- The RLDRAM channels enter self-refresh, their domains stopped (log entry 121). -/
def stopRld (s : State) : State := [19, 20].foldl (fun s d => setDom s d { limitUs := (domOf s d).limitUs }) s

/-- PF0 enters D3hot: the ports are parked, and the RLDRAM channels enter self-refresh; during an Almanac restart that stop
waits for its end (R451). -/
def enterD3 (s : State) : State := if s.store.restarting then parkPorts s else stopRld (parkPorts s)

/-- PF0 has left D3hot: the channels leave self-refresh, their domains starting as after an idle stop, and the ports are
enabled. -/
def leaveD3 (s : State) : State := unparkPorts ([19, 20].foldl askStart s)

/-! ## Function-level reset (R371 to R373) -/

/-- FLR of a function begins: for PF0 Deassert_INTA goes first; its work ends with ABORTED. -/
def startFlr (s : State) (fid : Nat) : State :=
  let s1 := setPci s fid { pciOf s fid with flrAt := some s.now, flrDue := false }
  endWork (if fid = 0 then intaSync s1 else s1) fid

/-- A restart of the Steward or of the Almanac is in progress. -/
def restartGoes (s : State) : Bool := s.stw.restartAt.isSome || s.fw.activation = 4 || s.store.restarting

/-- FUNCTION_LEVEL_RESET: a restart in progress is completed first (R452). -/
def execFunctionLevelReset (fid : Nat) (s : State) : Res :=
  .next (if !cfgReach s fid then s
    else if restartGoes s then setPci s fid { pciOf s fid with flrDue := true }
    else startFlr s fid)

/-- The admin ring as a reset of PF0 leaves it: disabled, with its positions at zero (R372, R373). -/
def resetAdmin (s : State) : State :=
  { s with stw := { s.stw with
      admEnable := false, admSizeLog2 := 6, cmdBase := 0, rplBase := 0, ctrAddr := 0, cmdProd := 0, cmdCons := 0
      rplProd := 0, rplCons := 0, admHeld := false } }

/-- PF0's own part of its configuration space at reset; ARI, and PME_En and PME_Status, keep their values (R373, log entry
83). -/
def resetPf0Config (s : State) : State :=
  { s with pci := { s.pci with
      intDisable := false, ctoPf0 := 0, vfEnable := false, vfMse := false, numVfs := 0, sysPage := 1, vfBar := 0
      asserts := 0, lateFid := 0, lateTag := 0, lateLink := 0, lateSeen := false } }

/-- What an FLR keeps of a function's configuration space (R371): Max_Payload_Size, the fields of Link Control, and the AER
registers, which are sticky. -/
def PciFn.afterFlr (f : PciFn) : PciFn :=
  let g : PciFn := {}
  { g with
    devCtl := putBits 7 5 g.devCtl (bits 7 5 f.devCtl), linkCtl := f.linkCtl
    aerUnc := f.aerUnc, aerUncMask := f.aerUncMask, aerUncSev := f.aerUncSev, aerCor := f.aerCor
    aerCorMask := f.aerCorMask, aerCtl := f.aerCtl, aerLog := f.aerLog }

/-- A function's command buffer reads zero after its reset (R401). -/
def clearMbx (s : State) (fid : Nat) : State :=
  modFn s fid (fun f => { f with mbx := { f.mbx with cmd := [] } })

/-- The configuration space of a function at its reset values, the power state D0 among them, with what is kept. -/
def resetConfig (s : State) (fid : Nat) (kept : PciFn) : State :=
  let s1 := setPci s fid kept
  if fid = 0 then
    loseVfs s1 (resetAdmin (resetPf0Config (if (pciOf s 0).dstate = 3 then leaveD3 s1 else s1)))
  else if fid = 1 then { s1 with pci := { s1.pci with ctoPf1 := 0 } }
  else s1

/-- A reset of an instance that an FLR has absorbed is done with it: the instance is QUIESCED, and the command replies (R452). -/
def absorbReset (s : State) (fid : Nat) : State :=
  let f := fnOf s fid
  if f.st = .resetting && f.resetKind ≠ some .remove then
    replyReset (setFn s fid { f with st := .quiesced, resetKind := none }) fid
  else s

/-- An FLR ends: the reset column of Table 11.5 but for learned entries, and configuration space at reset values. -/
def endFlr (s : State) (fid : Nat) : State :=
  let s1 := clearMbx (resetFn s fid) fid
  let s2 := absorbReset (modFn s1 fid (fun f => { f with releaseOk := f.releaseOk || f.frozen })) fid
  intaSync (logEvent (resetConfig s2 fid (pciOf s2 fid).afterFlr) 0x0011 fid [])

/-- FLR_COMPLETE. -/
def execFlrComplete (fid : Nat) (s : State) : Res := .next (if (pciOf s fid).flrAt.isSome then endFlr s fid else s)

/-! ## Hot reset (R373, R449, R452) -/

/-- The link ends, with its virtual wire deasserted (R360) and its rate 0. -/
def hotLink (s : State) : State :=
  { s with pci := { s.pci with
      linkUp := false, l23 := false, lastAssert := false, rate := 0, flit := false, width := 0, rateB := 0, flitB := false
      widthB := 0 } }

/-- What a hot reset clears: the functions' work ends with ABORTED, configuration space is at its reset values, every VF instance
is reset by force, mailbox buffers read zero (R401), and FLRs of PF0 and PF1 begin; FLR_COMPLETE ends them. -/
def hotClear (s : State) : State :=
  let s2 := startFlr (startFlr { s with pci := { s.pci with hotDue := false } } 0) 1
  let s3 := resetConfig (resetConfig { s2 with
    pci := { s2.pci with ari := false }
    fns := tmap s2.fns (fun _ f => { f with mbx := { f.mbx with cmd := [] } }) } 1 {}) 0 {}
  [0, 1].foldl (fun s fid => setPci s fid { pciOf s fid with flrAt := some s.now }) s3

/-- A hot reset: a restart of the Steward or of the Almanac in progress is completed first (R452). -/
def hotReset (s : State) : State :=
  if restartGoes s then let t := hotLink s; { t with pci := { t.pci with hotDue := true } } else hotClear (hotLink s)

/-- The resets that waited for the end of a restart begin (R452). -/
def resumeResets (s : State) : State :=
  if restartGoes s then s
  else
    let s1 := if s.pci.hotDue then hotClear s else s
    s1.pci.fns.foldl (fun s e => if e.2.flrDue then startFlr s e.1 else s) s1

/-! ## Power management and links (R369, R370) -/

/-- PME_TURN_OFF: PME_TO_Ack, then L2/L3 Ready. -/
def execPmeTurnOff (s : State) : Res :=
  .next (if s.pci.linkUp && !s.pci.l23 then emit { s with pci := { s.pci with l23 := true } } .pmeToAck else s)

/-- The wake events that a power state has (Table 12.10): the state as 1 D1, 3 D3hot, 4 D3cold. -/
def wakeIn (row d : Nat) : Bool :=
  if row = 1 || row = 2 || row = 3 then d = 1 || d = 3 || d = 4
  else if row = 4 then d = 1 || d = 3
  else if row = 5 then d = 1
  else false

/-- The power state of PF0, 4 for D3cold. -/
def powerState (s : State) : Nat := if !s.store.mainPresent then 4 else (pciOf s 0).dstate

/-- A wake event (R369): PME_Status and PM_PME, or WAKE# in D3cold. PM_PME is not sent again while PME_Status is 1. -/
def wakeNow (s : State) (row : Nat) : State :=
  if !wakeIn row (powerState s) then s
  else
    let s1 := { s with pci := { s.pci with wakeCause := row, wakeSeen := true } }
    if !s.pci.pmeEn then s1
    else
      let s2 := { s1 with pci := { s1.pci with pmeStatus := true } }
      if powerState s = 4 then
        (if s.pci.wakePin then s2 else emit { s2 with pci := { s2.pci with
            wakePin := true, pmeDue := s.pci.pmeDue || !s.pci.pmeStatus } } .wakeLow)
      else if s.pci.pmeStatus then s2
      else emit s2 .pmPme

/-- WAKE_EVENT. -/
def execWakeEvent (row : Nat) (s : State) : Res := .next (wakeNow s row)

/-- DL_UP (R360, R369): the link's registers, the count of link A's events (R375), then PM_PME after a wake from D3cold and
Assert_INTA if W is 1. -/
def execDlUp (link rate : Nat) (flit : Bool) (widthLog2 : Nat) (s : State) : Res :=
  .next (if !s.store.mainPresent || s.store.perst || (link ≠ 0 && !s.pci.bifurcated) then s
    else
      let n := (s.pci.dlUpCount + 1) % 32768
      if link ≠ 0 then
        { s with pci := { s.pci with rateB := rate % 8, flitB := flit, widthB := widthLog2 % 16 } }
      else
        let s1 := { s with pci := { s.pci with
          rate := rate % 8, flit := flit, width := widthLog2 % 16, dlUpCount := n, linkUp := true, l23 := false
          pmeDue := false } }
        intaSync (if s.pci.pmeDue && s.pci.pmeStatus then emit s1 .pmPme else s1))

end Sys2Proof.Machine
end

