-- ==== Sys2Proof/Machine/GrnCmds.lean ====
section
/-! DEFINITION. The Granary commands of class 0x04 (R125, R129, R131, R136, Table 4.7). -/

namespace Sys2Proof.Machine

/-- The buffers of all registered host pools. -/
def hostBuffers (s : State) : Nat := tsum s.grn.pools (fun p x => if 4 ≤ p && x.kind ≠ 0 then x.count else 0)

/-- The bytes of all registered host pools. -/
def hostBufferBytes (s : State) : Nat :=
  tsum s.grn.pools (fun p x => if 4 ≤ p && x.kind ≠ 0 then x.count * 2 ^ x.sizeLog2 else 0)

/-- A set holds pools of the other kind (R129). -/
def otherKind (s : State) (set kind : Nat) : Bool := (poolsOfSet s set).any (fun p => (poolOf s p).kind ≠ kind)

/-- A sized set holds a pool of a size (R129). -/
def sameSize (s : State) (set sizeLog2 : Nat) : Bool :=
  (poolsOfSet s set).any (fun p => (poolOf s p).kind = 1 && (poolOf s p).sizeLog2 = sizeLog2)

/-- REGISTER_POOL (R129): every buffer starts FREE_DIRTY of none (R131). -/
def execRegisterPool (m : Meta) (pool set kind sizeLog2 count base spaceFid : Nat) (s : State) : Res :=
  .next (runCmd m 0x0401 [.fid spaceFid] true
    (firstBad [(0, 4 ≤ pool && pool ≤ 63), (1, 4 ≤ set && set ≤ 15), (2, kind = 1 || kind = 2),
      (3, 8 ≤ sizeLog2 && sizeLog2 ≤ 16 && (kind ≠ 2 || sizeLog2 = 8)), (4, 0 < count),
      (5, base % 4096 = 0 && base < 2 ^ 64), (6, isFn spaceFid)])
    (fun s =>
      if (poolOf s pool).kind ≠ 0 then no s .refusedState
      else if otherKind s set kind then noItem s .badParam 1
      else if kind = 1 && sameSize s set sizeLog2 then noItem s .badParam 3
      else if 8 ≤ (poolsOfSet s set).length || 2 ^ 28 < hostBuffers s + count ||
          2 ^ 42 < hostBufferBytes s + count * 2 ^ sizeLog2 then no s .refusedLimit
      else if !inWindows s spaceFid base (count * 2 ^ sizeLog2) true then no s .refusedPermission
      else ok (setPool s pool
        { kind := kind, set := set, sizeLog2 := sizeLog2, count := count, base := base, spaceFid := spaceFid })) s)

/-- A request waits on a pool: the pool is in its fallback chain, and no scrub serves it (R131, R132). -/
def poolAwaited (s : State) (pool : Nat) : Bool :=
  s.grn.waiting.any (fun r => r.scrub.isNone && (fallbackChain s r.set r.len).contains pool)

/-- Take a pool, its buffers' ledger entries and its share records out of the Granary (that the share records go with the pool
is a DESIGN CHOICE, log entry 133). -/
def dropPool (s : State) (pool : Nat) : State :=
  { s with grn := { s.grn with
      pools := tdel s.grn.pools pool
      bufs := tfilter s.grn.bufs (fun h _ => hPool h ≠ pool)
      shares := tfilter s.grn.shares (fun k _ => k / 4096 ≠ pool) } }

/-- UNREGISTER_POOL (R131). -/
def execUnregisterPool (m : Meta) (pool : Nat) (s : State) : Res :=
  .next (runCmd m 0x0402 [] true (firstBad [(0, pool ≤ 63)])
    (fun s =>
      if pool < 4 || (poolOf s pool).kind = 0 then no s .refusedState
      else if heldAll s pool ≠ 0 || poolAwaited s pool then no s .refusedBusy
      else ok (dropPool s pool)) s)

/-- Write a share record; a record of zeros is not listed. -/
def setShare (s : State) (pool fid : Nat) (x : Share) : State :=
  { s with grn := { s.grn with shares := tput {} s.grn.shares (pool * 4096 + fid) x } }

/-- SET_SHARE (R136); pool 0 has one owner, whose share follows the pool's size, and pool 2 has none (R126, R127). A host pool
that is not registered is BAD_PARAM for every share (DESIGN CHOICE, log entry 120). -/
def execSetShare (m : Meta) (pool fid mn mx weight : Nat) (s : State) : Res :=
  .next (runCmd m 0x0403 [.fid fid] false
    (firstBad [(0, pool ≤ 63), (1, isFn fid || fid = 0xFFF), (3, mn ≤ mx), (4, 1 ≤ weight && weight ≤ 255)])
    (fun s =>
      let s1 := setShare s pool fid ⟨mn, mx, weight⟩
      if pool = 0 || pool = 2 || (poolOf s pool).kind = 0 then noItem s .badParam 0
      else if (poolOf s pool).count < mx then noItem s .badParam 3
      else if (poolOf s pool).count < reserveOf s1 pool then no s .refusedLimit
      else if (shareOf s pool fid).mn < mn && freeOf s1 pool < reserveOut s1 pool then no s .refusedEmpty
      else ok s1) s)

/-- Some queue is enabled: a ring in a state other than NOT_READY and STOPPED. -/
def anyQueueEnabled (s : State) : Bool :=
  let on := fun (r : Ring) => r.st ≠ .notReady && r.st ≠ .stopped
  tany s.qm.tx (fun _ r => on r) || tany s.qm.rx (fun _ r => on r)

/-- A share record of a pool follows the pool's new count where it is a default record (R127). -/
def followCount (s : State) (pool new : Nat) (shares : Tbl Share) : Tbl Share :=
  tmap shares (fun k x =>
    if k / 4096 = pool && x = ⟨0, (poolOf s pool).count, 1⟩ then ⟨0, new, 1⟩ else x)

/-- Give the on-chip pools new sizes and number their cells anew (R125). -/
def sizePools (s : State) (c0 c1 c3 : Nat) : State :=
  let sh := followCount s 3 c3 (followCount s 1 c1 (followCount s 0 c0 s.grn.shares))
  let s1 := setPool s 0 { poolOf s 0 with count := c0, first := 0 }
  let s2 := setPool s1 1 { poolOf s1 1 with count := c1, first := c0 }
  let s3 := setPool s2 3 { poolOf s2 3 with count := c3, first := c0 + c1 }
  { s3 with grn := { s3.grn with shares := sh } }

/-- SIZE_ONCHIP_POOLS (R125). -/
def execSizeOnchipPools (m : Meta) (c0 c1 c3 : Nat) (s : State) : Res :=
  .next (runCmd m 0x0404 [] false
    (firstBad [(0, 4096 ≤ c0 && c0 + c1 + c3 = 90112), (1, 4096 ≤ c1), (2, 4096 ≤ c3)])
    (fun s =>
      if tany s.mac.ports (fun _ p => p.enabled) || anyQueueEnabled s || heldAll s 0 ≠ 0 || heldAll s 1 ≠ 0 ||
          heldAll s 3 ≠ 0 then no s .refusedBusy
      else ok (sizePools s c0 c1 c3)) s)

/-- SET_PRESSURE (R135); pool 2, which has no Commons, and an unregistered pool are BAD_PARAM (DESIGN CHOICE, log entry 120). -/
def execSetPressure (m : Meta) (pool eighths : Nat) (s : State) : Res :=
  .next (runCmd m 0x0405 [] false (firstBad [(0, pool ≤ 63), (1, eighths ≤ 8)])
    (fun s =>
      if pool = 2 || (poolOf s pool).kind = 0 then noItem s .badParam 0
      else ok (setPool s pool { poolOf s pool with pressure := eighths })) s)

/-- The ledger entry of a buffer as a number (Table 4.2). -/
def ledgerWord (s : State) (h : Nat) : Nat :=
  let (st, o, n) := queryFields s h
  o + st * 2 ^ 12 + n * 2 ^ 16

/-- QUERY_HANDLE: the ledger entry of a handle (Table 4.2). -/
def execQueryHandle (m : Meta) (handle : Nat) (s : State) : Res :=
  .next (runCmd m 0x0406 [] false (firstBad [(0, handle < 2 ^ 40)])
    (fun s => if handleValid s handle then okWith s [.num 4 (ledgerWord s handle)] else noItem s .badParam 0) s)

end Sys2Proof.Machine
end

