-- ==== Sys2Proof/Machine/FnCmds.lean ====
section
/-! DEFINITION. The function commands of class 0x02 (R317 to R345, Table 11.10) and the events that end a quiesce and a
reset. -/

namespace Sys2Proof.Machine

/-! ## Ranges of the grant record (Table 11.2) -/

/-- A window record is in range (R321). -/
def winChecks (i : Nat) (w : WinRec) : List (Nat × Bool) :=
  [(i, w.win ≤ 15), (i + 1, w.base % 4096 = 0 && w.base < 2 ^ 64),
    (i + 2, w.pages ≤ 2 ^ 52 && w.base + 4096 * w.pages ≤ 2 ^ 64)]

/-- The grant items of 0x0209 that come first in the record: rings, vectors, channels, policers. -/
def countChecks (fid i : Nat) (g : GrantItems) : List (Nat × Bool) :=
  let rings := if isVf fid then 64 else 256
  [(i, g.tx + g.rx + g.cq ≤ rings),
    (i + 3, if fid = 0 then g.msix = 0 else g.msix ≤ 128 && (fid = 1 || 1 ≤ g.msix)),
    (i + 4, g.haul ≤ 15), (i + 5, g.policers ≤ 16384)]

/-- The hook items and the mailbox limit; region 0xFF is none. -/
def hookChecks (i : Nat) (g : GrantItems) : List (Nat × Bool) :=
  [(i, g.hookRegion ≤ 63 || g.hookRegion = 0xFF), (i + 1, g.shares.steps < 256), (i + 2, g.shares.access < 16),
    (i + 3, g.shares.latency < 65536), (i + 4, 1 ≤ g.mbxPerMs && g.mbxPerMs ≤ 4096)]

/-- A Granary share record is in range; at most 16 records. -/
def shareChecks (i j : Nat) (r : ShareRec) : List (Nat × Bool) :=
  [(i, r.pool ≤ 63 && j < 16), (i + 2, r.mn ≤ r.mx && r.mx < 2 ^ 32), (i + 3, 1 ≤ r.weight && r.weight ≤ 255)]

/-- A table grant record is in range. -/
def tblChecks (i j : Nat) (r : TblGrantRec) : List (Nat × Bool) :=
  [(i, r.table < 16 && j < 16), (i + 1, decide (r.pmask < 16)), (i + 2, r.maxEntries ≤ 2 ^ 25),
    (i + 3, r.ovfReserve ≤ 16384)]

/-- Where the parts of the record begin in the flattened parameters, the FID being item 0 (R398). -/
def tblAt (r : GrantRec) : Nat := 7 + 4 * r.granary.length
/-- The cipher grant and conn_max. -/
def lanesAt (r : GrantRec) : Nat := tblAt r + 4 * r.tables.length
/-- The hook items. -/
def hookItemAt (r : GrantRec) : Nat := lanesAt r + 4
/-- The DMA windows. -/
def winAt (r : GrantRec) : Nat := hookItemAt r + 5

/-- The members of a list with their places. -/
def numbered {α : Type} (l : List α) : List (Nat × α) := (List.range l.length).zip l

/-- The first item of a create that is out of range. -/
def badGrant (fid : Nat) (r : GrantRec) : Option Nat :=
  firstBad ([(0, isVf fid)] ++ countChecks fid 1 r.items ++
    (numbered r.granary).flatMap (fun e => shareChecks (7 + 4 * e.1) e.1 e.2) ++
    (numbered r.tables).flatMap (fun e => tblChecks (tblAt r + 4 * e.1) e.1 e.2) ++
    [(lanesAt r, decide (r.lanes ≤ 24)), (lanesAt r + 1, decide (r.saMax ≤ 2 ^ 22)),
      (lanesAt r + 2, decide (r.activeMax ≤ keySlots)), (lanesAt r + 3, decide (r.connMax ≤ 65536))] ++
    hookChecks (hookItemAt r) r.items ++
    (numbered r.windows).flatMap (fun e => (winAt r + 5 * e.1, decide (e.1 < 16)) :: winChecks (winAt r + 5 * e.1) e.2))

/-! ## Device pools (R318) -/

/-- The sum of a reserved item over every instance but one. -/
def reservedBut (s : State) (fid : Nat) (item : Fn → Nat) : Nat := tsum s.fns (fun n f => if n = fid then 0 else item f)

/-- Another instance has a hook region. -/
def regionTaken (s : State) (fid region : Nat) : Bool :=
  region ≠ 0xFF && tany s.fns (fun n f => n ≠ fid && f.hookRegion = region)

/-- The items of 0x0209 that a device pool or the hook allowance must hold, by their places (R74, R318). -/
def poolChecks (s : State) (fid i h : Nat) (g : GrantItems) : List (Nat × Bool) :=
  [(i, reservedBut s fid (·.tx) + g.tx ≤ 16384), (i + 1, reservedBut s fid (·.rx) + g.rx ≤ 16384),
    (i + 2, reservedBut s fid (·.cq) + g.cq ≤ 16384), (i + 3, reservedBut s fid (·.msix) + g.msix ≤ 131072),
    (i + 4, reservedBut s fid (·.haul) + g.haul + chansBeside s 0xFFF 15 ≤ 15),
    (i + 5, reservedBut s fid (·.policers) + g.policers ≤ 16384),
    (h, !regionTaken s fid g.hookRegion), (h + 1, g.shares.steps ≤ (currentAllow s).steps),
    (h + 2, g.shares.access ≤ (currentAllow s).access), (h + 3, g.shares.latency ≤ (currentAllow s).latency)]

/-- Give a function its share records. -/
def putShares (s : State) (fid : Nat) (l : List ShareRec) : State :=
  l.foldl (fun s r => setShare s r.pool fid ⟨r.mn, r.mx, r.weight⟩) s

/-- Give a function its table grants. -/
def putTblGrants (s : State) (fid : Nat) (l : List TblGrantRec) : State :=
  l.foldl (fun s r => putGrant s fid r.table r.pmask ⟨r.maxEntries, r.ovfReserve⟩) s

/-- What the pools hold that a share record needs: a pool with shares, of at least max buffers (R136). -/
def shareState (s : State) (r : GrantRec) : List (Nat × Bool) :=
  (numbered r.granary).flatMap (fun e =>
    [(7 + 4 * e.1, e.2.pool ≠ 0 && e.2.pool ≠ 2 && (poolOf s e.2.pool).kind ≠ 0), (9 + 4 * e.1, e.2.mx ≤ (poolOf s e.2.pool).count)])

/-- The status that a share record gets after those before it. -/
def shareStatus (s : State) (fid : Nat) (r : ShareRec) : Option Status :=
  let s1 := putShares s fid [r]
  if (poolOf s r.pool).count < reserveOf s1 r.pool then some .refusedLimit
  else if (shareOf s r.pool fid).mn < r.mn && freeOf s1 r.pool < reserveOut s1 r.pool then some .refusedEmpty
  else none

/-- The records of the lists that are short (`st` REFUSED_LIMIT) or not free now (REFUSED_EMPTY), by their first
fields. -/
def listChecks (s : State) (fid : Nat) (r : GrantRec) (st : Status) : List (Nat × Bool) :=
  (numbered r.granary).map (fun e =>
      (7 + 4 * e.1, decide (shareStatus (putShares s fid (r.granary.take e.1)) fid e.2 ≠ some st))) ++
    (numbered r.tables).map (fun e =>
      (tblAt r + 4 * e.1, decide (grantRefusal (putTblGrants s fid (r.tables.take e.1)) fid e.2.table e.2.pmask
        ⟨e.2.maxEntries, e.2.ovfReserve⟩ ≠ some st)))

/-- The smaller of two item indices. -/
def minItem : Option Nat → Option Nat → Option Nat
  | some a, some b => some (min a b)
  | some a, none => some a
  | none, b => b

/-- The lowest item at fault among checks in any order. -/
def lowestBad (l : List (Nat × Bool)) : Option Nat := (l.filter (fun e => !e.2)).foldl (fun a e => minItem a (some e.1)) none

/-! ## Create (R317) -/

/-- A function record with the items of 0x0209. -/
def Fn.withItems (f : Fn) (g : GrantItems) : Fn :=
  { f with
    tx := g.tx, rx := g.rx, cq := g.cq, msix := g.msix, haul := g.haul, policers := g.policers
    hookRegion := if g.hookRegion = 0xFF then 0x7F else g.hookRegion
    shares := g.shares, mbxPerMs := g.mbxPerMs }

/-- The default share records of a new instance in pools 1 and 3 (R127). -/
def defaultShares (s : State) (fid : Nat) : State :=
  [1, 3].foldl (fun s p => setShare s p fid ⟨0, (poolOf s p).count, 1⟩) s

/-- A created instance: its reservations, its windows, its zeroed counter set, and ACTIVE. -/
def makeInstance (s : State) (fid : Nat) (r : GrantRec) : State :=
  let f : Fn := Fn.withItems { mbx := (fnOf s fid).mbx } r.items
  let wins : Tbl Win := r.windows.foldl (fun t w => tput {} t w.win ⟨w.base, w.pages, w.read, w.write⟩) []
  let s1 := setFn s fid { f with st := .active, windows := wins }
  let s2 := putTblGrants (putShares (defaultShares s1 fid) fid r.granary) fid r.tables
  let s3 := putConnMax (putCGrant s2 fid ⟨r.lanes, r.saMax, r.activeMax⟩) fid r.connMax
  isoCheck { s3 with cnt := { s3.cnt with words := zeroSet s3.cnt.words fid } } 2

/-- The objects of a create: the FID and the tables of its grants (R407). -/
def createObjs (fid : Nat) (r : GrantRec) : List Obj := .fid fid :: r.tables.map (fun t => Obj.table t.table)

/-- CREATE_INSTANCE. -/
def execCreateInstance (m : Meta) (fid : Nat) (rec : GrantRec) (s : State) : Res :=
  .next (runCmd m 0x0201 (createObjs fid rec) false (badGrant fid rec)
    (fun s =>
      let f := fnOf s fid
      match firstBad (shareState s rec) with
      | some i => noItem s .badParam i
      | none =>
        if f.st = .resetting || hookHeld s fid then no s .refusedBusy
        else if f.st ≠ .absent || !vfExists s fid then no s .refusedState
        else
          let lanes := (lanesAt rec, decide (lanesBeside s fid + rec.lanes ≤ 24))
          let s1 := defaultShares s fid
          match lowestBad (lanes :: poolChecks s fid 1 (hookItemAt rec) rec.items ++ listChecks s1 fid rec .refusedLimit) with
          | some i => noItem s .refusedLimit i
          | none =>
            match lowestBad (listChecks s1 fid rec .refusedEmpty) with
            | some i => noItem s .refusedEmpty i
            | none => ok (makeInstance s fid rec)) s)

/-! ## Quiesce, resume, reset, remove, release -/

/-- QUIESCE: fetch stops on every ring of the function, and the command goes on in the background (R325). -/
def execQuiesce (m : Meta) (fid limitMs : Nat) (s : State) : Res :=
  .next (runCmd m 0x0202 [.fid fid] false (firstBad [(0, isFn fid && fid ≠ 0), (1, 1 ≤ limitMs && limitMs ≤ 10000)])
    (fun s =>
      let st := (fnOf s fid).st
      if st ≠ .active && st ≠ .quiesced then no s .refusedState
      else
        let t := s.now + 1000000 * limitMs
        let s1 := modFn s fid (fun f => { f with
          st := .quiescing, quiesceUntil := some t, qSeen := reportOf s fid, frozenDuring := false })
        bgOpen (moveRings s1 fid (fun x => if x = .frozen || x = .notReady then x else .quiescing)) t) s)

/-- QUIESCE_END: every blocking item is zero, or the limit has come (R327). -/
def execQuiesceEnd (fid : Nat) (s : State) : Res :=
  .next (let f := fnOf s fid
    match f.quiesceUntil with
    | some t =>
      if f.st = .quiescing && ((reportOf s fid).blocking = 0 || t ≤ s.now) then finishQuiesce s fid else s
    | none => s)

/-- RESUME. -/
def execResume (m : Meta) (fid : Nat) (s : State) : Res :=
  .next (runCmd m 0x0203 [.fid fid] false (firstBad [(0, isFn fid && fid ≠ 0)])
    (fun s =>
      let f := fnOf s fid
      if f.st ≠ .quiesced || f.frozen then no s .refusedState else ok (setFn s fid { f with st := .active })) s)

/-- RESET_INSTANCE (R329): RESETTING until RESET_COMPLETE. -/
def execResetInstance (m : Meta) (fid : Nat) (force : Bool) (s : State) : Res :=
  .next (runCmd m 0x0204 [.fid fid] true (firstBad [(0, isFn fid && fid ≠ 0)])
    (fun s =>
      if (fnOf s fid).st ≠ .quiesced then no s .refusedState
      else if (!force && (reportOf s fid).blocking ≠ 0) || lockedOut s fid (learnedOf s fid) then no s .refusedBusy
      else bgOpen (enterReset s fid .reset force) s.now) s)

/-- A registered host pool or a mirror session names a FID (R331). -/
def removeBarred (s : State) (fid : Nat) : Bool :=
  tany s.grn.pools (fun p x => 4 ≤ p && x.kind ≠ 0 && x.spaceFid = fid) || tany s.sw.sessions (fun _ x => x.fid = fid)

/-- REMOVE_INSTANCE. -/
def execRemoveInstance (m : Meta) (fid : Nat) (force : Bool) (s : State) : Res :=
  .next (runCmd m 0x0205 [.fid fid] true (firstBad [(0, isVf fid)])
    (fun s =>
      if (fnOf s fid).st ≠ .quiesced then no s .refusedState
      else if removeBarred s fid || lockedOut s fid (fun _ => true) then no s .refusedBusy
      else if !force && (reportOf s fid).blocking ≠ 0 then no s .refusedBusy
      else bgOpen (enterReset s fid .remove force) s.now) s)

/-- RESET_COMPLETE (R332): a locked bucket holds the scan up (R178), and a function-level reset in progress absorbs a reset
(R452). -/
def execResetComplete (fid : Nat) (s : State) : Res :=
  .next (let f := fnOf s fid
    if f.st ≠ .resetting then s
    else if f.resetKind = some .remove then
      (if lockedOut s fid (fun _ => true) then s else replyReset (endRemove s fid) fid)
    else if (pciOf s fid).flrAt.isSome || lockedOut s fid (learnedOf s fid) then s
    else replyReset (endReset s fid) fid)

/-- A released function (R338): QUIESCED, its rings STOPPED, its frozen channels IDLE. -/
def releaseFn (s : State) (fid : Nat) : State :=
  let s1 := modFn s fid (fun f => { f with
    frozen := false, releaseOk := false, st := if f.st = .active then .quiesced else f.st })
  let s2 := moveRings s1 fid (fun x => if x = .frozen then .stopped else x)
  (List.range 16).foldl (fun s n =>
    let c := chanOf s n
    if c.acting = fid && c.st = .frozen then setChan s n { c with st := .idle } else s) s2

/-- The states that Table 11.3 lets a release leave or find. -/
def releasable (st : InstState) : Bool := st = .active || st = .quiesced

/-- A release would be accepted (R338). -/
def releaseOpen (f : Fn) : Bool := f.frozen && f.releaseOk && releasable f.st

/-- RELEASE. -/
def execRelease (m : Meta) (fid : Nat) (s : State) : Res :=
  .next (runCmd m 0x0206 [.fid fid] false (firstBad [(0, isFn fid && fid ≠ 0)])
    (fun s => if releaseOpen (fnOf s fid) then ok (releaseFn s fid) else no s .refusedState) s)

/-! ## Windows (R321, R324) -/

/-- The host ranges that a function's windows must cover, each with whether it is written: rings, counters, host pools,
haul head and status addresses. -/
def coveredRanges (s : State) (fid : Nat) : List (Nat × Nat × Bool) :=
  let ring := fun (e : Nat × Ring) => (e.2.base, 32 * 2 ^ e.2.sizeLog2, false)
  (s.qm.tx.filter (fun e => e.2.fid = fid)).map ring ++ (s.qm.rx.filter (fun e => e.2.fid = fid)).map ring ++
    (s.qm.cq.filter (fun e => e.2.fid = fid)).flatMap (fun e =>
      [(e.2.base, 16 * 2 ^ e.2.sizeLog2, true), (e.2.ctrAddr, 4, true)]) ++
    (s.grn.pools.filter (fun e => 4 ≤ e.1 && e.2.kind ≠ 0 && e.2.spaceFid = fid)).map (fun e =>
      (e.2.base, e.2.count * 2 ^ e.2.sizeLog2, true)) ++
    (s.haul.chans.filter (fun e => e.2.acting = fid && e.2.st ≠ .ungranted)).flatMap (fun e =>
      (if e.2.head = 0 then [] else [(e.2.head, 32, false)]) ++
        (if e.2.mode = 2 || e.2.statusAddr = 0 then [] else [(e.2.statusAddr, 16, true)]))

/-- A window list covers a range. -/
def winsCover (ws : Tbl Win) (r : Nat × Nat × Bool) : Bool := tany ws (fun _ w => w.covers r.1 r.2.1 r.2.2)

/-- SET_DMA_WINDOW: refused when a range that a window covers would lie in none (R324). -/
def execSetDmaWindow (m : Meta) (fid : Nat) (win : WinRec) (s : State) : Res :=
  .next (runCmd m 0x0207 [.fid fid] false (firstBad ((0, isFn fid) :: winChecks 1 win))
    (fun s =>
      let f := fnOf s fid
      let ws := tput {} f.windows win.win ⟨win.base, win.pages, win.read, win.write⟩
      if (coveredRanges s fid).any (fun r => winsCover f.windows r && !winsCover ws r) then no s .refusedBusy
      else ok (setFn s fid { f with windows := ws })) s)

/-! ## Expert and instance grants (R318, R340, R341) -/

/-- SET_EXPERT_GRANT. -/
def execSetExpertGrant (m : Meta) (fid : Nat) (rawTable rawHook : Bool) (s : State) : Res :=
  .next (runCmd m 0x0208 [.fid fid] false (firstBad [(0, isFn fid && fid ≠ 0)])
    (fun s =>
      if (fnOf s fid).rawTable && !rawTable && locksOf s fid ≠ 0 then no s .refusedBusy
      else ok (isoCheck (modFn s fid (fun f => { f with rawTable := rawTable, rawHook := rawHook })) 2)) s)

/-- One more than the highest MSI-X entry that a ring or channel of an instance names; at least 1 for a virtual
function (R318). -/
def msixUse (s : State) (fid : Nat) : Nat :=
  let rings := if fid = 0 then [] else (s.qm.cq.filter (fun e => e.2.fid = fid)).map (fun e => e.2.msix + 1)
  let chans := if fid = 0 then [] else (ownedChans s fid).map (fun n => (chanOf s n).msix + 1)
  (rings ++ chans).foldl max (b2n (isVf fid))

/-- The items of 0x0209 against their present use (R318). -/
def useChecks (s : State) (fid : Nat) (g : GrantItems) : List (Nat × Bool) :=
  [(1, tcount s.qm.tx (fun _ r => r.fid = fid) ≤ g.tx), (2, tcount s.qm.rx (fun _ r => r.fid = fid) ≤ g.rx),
    (3, tcount s.qm.cq (fun _ r => r.fid = fid) ≤ g.cq), (4, msixUse s fid ≤ g.msix),
    (5, (ownedChans s fid).length ≤ g.haul), (6, tcount s.sw.policers (fun _ x => x.fid = fid) ≤ g.policers)]

/-- SET_INSTANCE_GRANT. -/
def execSetInstanceGrant (m : Meta) (fid : Nat) (items : GrantItems) (s : State) : Res :=
  .next (runCmd m 0x0209 [.fid fid] false
    (firstBad ((0, isFn fid) :: countChecks fid 1 items ++ hookChecks 7 items))
    (fun s =>
      let f := fnOf s fid
      if f.st = .absent || f.st = .resetting then no s .refusedState
      else
        match lowestBad (useChecks s fid items ++ poolChecks s fid 1 7 items) with
        | some i => noItem s .refusedLimit i
        | none => ok (setFn s fid (f.withItems items))) s)

/-! ## Read and declare -/

/-- The code of an instance state (Table 11.3). -/
def InstState.code : InstState → Nat
  | .absent => 0 | .active => 1 | .quiescing => 2 | .quiesced => 3 | .resetting => 4

/-- FN_STATE (Table 11.13). -/
def fnState (f : Fn) (vf : Bool) : Nat :=
  f.st.code + b2n f.frozen * 2 ^ 3 + b2n (releaseOpen f) * 2 ^ 4 + b2n vf * 2 ^ 5 + b2n f.rawTable * 2 ^ 8 +
    b2n f.rawHook * 2 ^ 9 + f.hookRegion * 2 ^ 16 + f.mbxPerMs * 2 ^ 32

/-- The record at a place is a default share record of pool 1 or 3, which is not among those of the grant record (R127). -/
def defaultRecord (s : State) (k : Nat) (x : Share) : Bool :=
  (k / 4096 = 1 || k / 4096 = 3) && x = ⟨0, (poolOf s (k / 4096)).count, 1⟩

/-- The share records of a FID as a list of the grant record. -/
def shareFlds (s : State) (fid : Nat) : List (List Fld) :=
  (s.grn.shares.filter (fun e => e.1 % 4096 = fid && !defaultRecord s e.1 e.2)).map (fun e =>
    [.num 1 (e.1 / 4096), .num 4 e.2.mn, .num 4 e.2.mx, .num 1 e.2.weight])

/-- The table grants of a FID, one record per table and pipeline. -/
def tblFlds (s : State) (fid : Nat) : List (List Fld) :=
  (s.fwt.grants.filter (fun e => e.1 / 64 = fid)).map (fun e =>
    [.num 1 (e.1 / 4 % 16), .num 1 (2 ^ (e.1 % 4)), .num 4 e.2.maxEntries, .num 2 e.2.ovfReserve])

/-- The windows of a FID. -/
def winFlds (f : Fn) : List (List Fld) :=
  f.windows.map (fun e => [.num 1 e.1, .num 8 e.2.base, .num 8 e.2.pages, .num 1 (b2n e.2.read), .num 1 (b2n e.2.write)])

/-- A list of records as a byte string: each record padded to a multiple of its largest field (R397). -/
def listFld (width : Nat) (l : List (List Fld)) : Fld := .list width (l.flatMap (fun r => padTo width (encFrom 0 r)))

/-- READ_INSTANCE: FN_STATE, the grant record and the last quiesce report. -/
def execReadInstance (m : Meta) (fid : Nat) (s : State) : Res :=
  .next (runCmd m 0x020A [.fid fid] false (firstBad [(0, isFn fid)])
    (fun s =>
      let f := fnOf s fid
      let g := cgrantOf s fid
      if f.st = .absent then no s .refusedState
      else okWith s ([.num 8 (fnState f (vfExists s fid)), .num 2 f.tx, .num 2 f.rx, .num 2 f.cq, .num 1 f.msix,
          .num 1 f.haul, .num 2 f.policers, listFld 4 (shareFlds s fid), listFld 4 (tblFlds s fid),
          .num 1 g.lanes, .num 4 g.saMax, .num 2 g.activeMax, .num 4 (tgetD s.stg.connMax fid 0),
          .num 1 (if f.hookRegion = 0x7F then 0xFF else f.hookRegion), .num 1 f.shares.steps, .num 1 f.shares.access,
          .num 2 f.shares.latency, .num 2 f.mbxPerMs, listFld 8 (winFlds f)] ++ f.lastQ.flds)) s)

/-- DECLARE_CONFINEMENT (R343). -/
def execDeclareConfinement (m : Meta) (v : Nat) (s : State) : Res :=
  .next (runCmd m 0x020B [] false (firstBad [(0, v ≤ 2)])
    (fun s => ok (isoCheck { s with fmg := { s.fmg with confinement := v } } 3)) s)

end Sys2Proof.Machine
end

