-- ==== Sys2Proof/Machine/SwitchCmds.lean ====
section
/-! DEFINITION. The switching commands of Table 7.8: policers (R236), the loop share (R223) and mirror sessions
(R233 to R235). -/

namespace Sys2Proof.Machine

/-! ## Policers (R236) -/

/-- The policers of a FID beside one number. -/
def policersOf (s : State) (fid but : Nat) : Nat := tcount s.sw.policers (fun i x => x.fid = fid && i ≠ but)

/-- CREATE_OR_REPLACE_POLICER: the policer starts with its bucket full, in the current window. -/
def execCreateOrReplacePolicer (m : Meta) (policer fid rate ilog burst : Nat) (s : State) : Res :=
  .next (runCmd m 0x0510 [.fid fid] false
    (firstBad [(0, policer < 16384), (1, isFn fid || fid = 0xFFF), (2, rate < 2 ^ 24), (3, 8 ≤ ilog && ilog ≤ 20),
      (4, 64 ≤ burst && burst < 2 ^ 24)])
    (fun s =>
      if isFn fid && (fnOf s fid).policers ≤ policersOf s fid policer then no s .refusedLimit
      else
        let x : Policer :=
          { fid := fid, rate := rate, ilog := ilog, burst := burst, tokens := burst, lastK := timeNow s / 2 ^ ilog }
        ok { s with sw := { s.sw with policers := tset s.sw.policers policer x } }) s)

/-- DESTROY_POLICER. -/
def execDestroyPolicer (m : Meta) (policer : Nat) (s : State) : Res :=
  .next (runCmd m 0x0511 [] false (firstBad [(0, policer < 16384)])
    (fun s =>
      if (tget s.sw.policers policer).isNone then no s .refusedState
      else ok { s with sw := { s.sw with policers := tdel s.sw.policers policer } }) s)

/-- READ_POLICER: tokens, last_k and the parameters. -/
def execReadPolicer (m : Meta) (policer : Nat) (s : State) : Res :=
  .next (runCmd m 0x0512 [] false (firstBad [(0, policer < 16384)])
    (fun s =>
      match tget s.sw.policers policer with
      | none => no s .refusedState
      | some x =>
        okWith s [.num 4 x.tokens, .num 8 x.lastK, .num 2 x.fid, .num 4 x.rate, .num 1 x.ilog, .num 4 x.burst]) s)

/-- SET_LOOP_SHARE (R223). -/
def execSetLoopShare (m : Meta) (cells : Nat) (s : State) : Res :=
  .next (runCmd m 0x0513 [] false (firstBad [(0, cells ≤ 4096)])
    (fun s => ok { s with sw := { s.sw with loopMax := cells } }) s)

/-! ## Mirror sessions (R233, R235) -/

/-- CREATE_OR_REPLACE_MIRROR_SESSION: a target that is neither PF0 nor PF1 needs cross_tenant, and a create with it
is logged. -/
def execCreateOrReplaceMirrorSession (m : Meta) (session fid window snapLen sampleN : Nat) (crossTenant : Bool)
    (s : State) : Res :=
  .next (runCmd m 0x0B20 [.fid fid] false
    (firstBad [(0, session < 64), (1, isFn fid), (2, window < 256),
      (3, snapLen = 0 || (64 ≤ snapLen && snapLen ≤ 9216)), (4, 1 ≤ sampleN && sampleN ≤ 65535)])
    (fun s =>
      if isVf fid && !crossTenant then no s .refusedPermission
      else
        let x : Session :=
          { fid := fid, window := window, snapLen := snapLen, sampleN := sampleN, crossTenant := crossTenant }
        let s1 : State := { s with sw := { s.sw with
          sessions := tset s.sw.sessions session x, calls := tfilter s.sw.calls (fun k _ => k / 4 ≠ session) } }
        ok (if crossTenant then logEvent s1 0x0051 fid [.num 2 session, .num 2 fid] else s1)) s)

/-- A session is assigned to a port. -/
def sessionUsed (s : State) (session : Nat) : Bool :=
  tany s.mac.ports (fun _ p => p.rxSession = session || p.txSession = session)

/-- DESTROY_MIRROR_SESSION. -/
def execDestroyMirrorSession (m : Meta) (session : Nat) (s : State) : Res :=
  .next (runCmd m 0x0B21 [] false (firstBad [(0, session < 64)])
    (fun s =>
      if (tget s.sw.sessions session).isNone then no s .refusedState
      else if sessionUsed s session then no s .refusedBusy
      else ok { s with sw := { s.sw with sessions := tdel s.sw.sessions session } }) s)

/-- A session parameter of SET_PORT_MIRROR: 0xFF for none. -/
def sessionOk (v : Nat) : Bool := v < 64 || v = 0xFF

/-- The session exists, or the parameter is none. -/
def sessionThere (s : State) (v : Nat) : Bool := v = 0xFF || (tget s.sw.sessions v).isSome

/-- SET_PORT_MIRROR (R235). -/
def execSetPortMirror (m : Meta) (port rx tx : Nat) (s : State) : Res :=
  .next (runCmd m 0x0B22 [.port port] false (firstBad [(0, port < 8), (1, sessionOk rx), (2, sessionOk tx)])
    (fun s =>
      if (portBlock s port).isNone then noItem s .badParam 0
      else if !sessionThere s rx || !sessionThere s tx then no s .refusedState
      else ok (setPort s port { portOf s port with rxSession := rx, txSession := tx })) s)

end Sys2Proof.Machine
end

