-- ==== Sys2Proof/Machine/Native.lean ====
section
/-! DEFINITION. The parameter blocks of the native opcodes (R397, R408 to R412, Table 14.6): how each is encoded, and the
execution of a packet's command from its parameter bytes, as a mirrored command (R384) or a ZCH-0820 packet (R421) needs
it. -/

namespace Sys2Proof.Machine

/-! ## Parameters (R397) -/

/-- How one parameter is encoded: a scalar of a size, a flag of one byte, `n` bytes without a count, `n` scalars without a
count, a byte string, or a list of records with the sizes of their fields and the places of their flags. -/
inductive Par where
  | num (size : Nat)
  | flag
  | raw (n : Nat)
  | arr (n size : Nat)
  | bytes
  | recs (sizes flags : List Nat)
  deriving DecidableEq, Repr

/-- A decoded parameter. -/
inductive Val where
  | n (v : Nat)
  | b (bs : List Nat)
  | r (rows : List (List Nat))
  deriving DecidableEq, Repr

/-- The parameters of each opcode of Table 14.6, with the sizes of R397 (log entry 86); none for an opcode that the table
does not list. -/
def paramsOf : Nat → Option (List Par)
  | 0x0101 => some []
  | 0x0110 => some [.num 1, .num 8, .num 4]
  | 0x0111 => some []
  | 0x0112 => some [.num 1]
  | 0x0113 => some [.num 1, .num 2, .num 1, .num 1, .num 2, .flag, .num 8, .num 4]
  | 0x0120 => some [.raw 8]
  | 0x0121 => some [.num 1, .num 2, .num 1, .num 1, .num 2, .num 2, .num 2, .num 4, .arr 8 4, .arr 8 2, .arr 8 2, .num 1,
      .num 1]
  | 0x0122 => some []
  | 0x0123 => some [.num 1]
  | 0x0124 => some [.num 1, .num 1, .num 2]
  | 0x0125 => some [.num 1, .arr 64 8, .num 1]
  | 0x0126 => some [.num 1, .num 4, .raw 128]
  | 0x0127 => some [.num 1, .num 1, .num 1, .num 1, .num 1, .bytes]
  | 0x0201 => some [.num 2, .num 2, .num 2, .num 2, .num 1, .num 1, .num 2, .recs [1, 4, 4, 1] [], .recs [1, 1, 4, 2] [],
      .num 1, .num 4, .num 2, .num 4, .num 1, .num 1, .num 1, .num 2, .num 2, .recs [1, 8, 8, 1, 1] [3, 4]]
  | 0x0202 => some [.num 2, .num 2]
  | 0x0203 => some [.num 2]
  | 0x0204 => some [.num 2, .flag]
  | 0x0205 => some [.num 2, .flag]
  | 0x0206 => some [.num 2]
  | 0x0207 => some [.num 2, .num 1, .num 8, .num 8, .flag, .flag]
  | 0x0208 => some [.num 2, .flag, .flag]
  | 0x0209 => some [.num 2, .num 2, .num 2, .num 2, .num 1, .num 1, .num 2, .num 1, .num 1, .num 1, .num 2, .num 2]
  | 0x020A => some [.num 2]
  | 0x020B => some [.num 1]
  | 0x0301 => some [.num 2, .num 1, .num 8, .num 1, .num 2, .num 1, .num 1, .num 1, .num 1]
  | 0x0302 => some [.num 2, .num 1, .num 8, .num 1, .num 2, .flag]
  | 0x0303 => some [.num 2, .num 1, .num 8, .num 1, .num 8, .num 1]
  | 0x0304 => some [.num 1, .num 2]
  | 0x0305 => some [.num 1, .num 2]
  | 0x0306 => some [.num 1, .num 2]
  | 0x0307 => some [.num 2]
  | 0x0308 => some [.num 2, .num 1, .num 1]
  | 0x0309 => some [.num 1, .num 2]
  | 0x0401 => some [.num 1, .num 1, .num 1, .num 1, .num 4, .num 8, .num 2]
  | 0x0402 => some [.num 1]
  | 0x0403 => some [.num 1, .num 2, .num 4, .num 4, .num 1]
  | 0x0404 => some [.num 4, .num 4, .num 4]
  | 0x0405 => some [.num 1, .num 1]
  | 0x0406 => some [.num 8]
  | 0x0501 => some [.num 1, .num 1, .num 1, .num 1, .num 1, .num 4, .num 4]
  | 0x0502 => some [.num 1]
  | 0x0503 => some [.num 1, .num 2, .raw 32, .raw 24, .flag]
  | 0x0504 => some [.num 1, .num 2, .raw 32]
  | 0x0505 => some [.num 1, .num 2, .raw 32, .num 1]
  | 0x0506 => some [.num 1, .num 4]
  | 0x0507 => some [.num 2, .num 1, .num 1, .num 4, .num 2]
  | 0x0508 => some [.num 1, .num 2, .num 1]
  | 0x0510 => some [.num 2, .num 2, .num 4, .num 1, .num 4]
  | 0x0511 => some [.num 2]
  | 0x0512 => some [.num 2]
  | 0x0513 => some [.num 2]
  | 0x0601 => some [.num 4, .num 2, .num 1, .num 1, .flag, .flag, .num 4, .num 8, .num 1, .bytes, .flag]
  | 0x0602 => some [.num 4]
  | 0x0603 => some [.num 4]
  | 0x0604 => some [.num 4]
  | 0x0605 => some [.num 4, .bytes, .flag]
  | 0x0606 => some [.num 4]
  | 0x0607 => some [.num 2, .num 1, .num 4, .num 2]
  | 0x0608 => some []
  | 0x0701 => some [.num 2, .num 2, .num 1, .num 1, .flag, .flag, .num 1, .num 2, .num 1, .num 4, .raw 32, .bytes]
  | 0x0702 => some [.num 2, .num 2, .flag]
  | 0x0703 => some [.num 2]
  | 0x0704 => some [.raw 4, .num 1, .num 1]
  | 0x0705 => some [.num 2, .num 4]
  | 0x0801 => some [.num 8]
  | 0x0802 => some [.num 1, .num 1]
  | 0x0803 => some [.num 1, .num 8]
  | 0x0804 => some []
  | 0x0805 => some [.num 8, .num 8, .flag]
  | 0x0806 => some []
  | 0x0807 => some []
  | 0x0808 => some []
  | 0x0901 => some [.num 1, .num 1, .num 8, .num 4]
  | 0x0902 => some [.num 8, .num 4]
  | 0x0903 => some []
  | 0x0904 => some []
  | 0x0905 => some [.num 1]
  | 0x0906 => some []
  | 0x0910 => some [.num 1, .num 1, .num 8, .num 4]
  | 0x0A01 => some []
  | 0x0A02 => some [.num 8, .num 4]
  | 0x0A03 => some [.num 8]
  | 0x0A04 => some []
  | 0x0A05 => some [.num 1, .bytes]
  | 0x0A06 => some [.num 1, .num 4]
  | 0x0A07 => some []
  | 0x0A10 => some [.num 1, .num 1, .num 2]
  | 0x0A11 => some [.num 1]
  | 0x0B01 => some [.num 2]
  | 0x0B02 => some [.num 4, .num 8]
  | 0x0B03 => some [.num 4, .num 1, .raw 16, .num 2, .num 1, .num 1]
  | 0x0B04 => some [.num 1]
  | 0x0B20 => some [.num 1, .num 2, .num 1, .num 2, .num 2, .flag]
  | 0x0B21 => some [.num 1]
  | 0x0B22 => some [.num 1, .num 1, .num 1]
  | 0x0C01 => some [.num 1, .num 2, .num 1, .num 2]
  | 0x0C02 => some [.num 1, .num 1, .num 8, .num 1, .num 8, .num 1, .num 2, .num 4, .num 4]
  | 0x0C03 => some [.num 1]
  | 0x0C04 => some [.num 1]
  | _ => none

/-! ## Decoding -/

/-- `n` scalars of a size from an offset on. -/
def decNums (bs : List Nat) (size : Nat) : Nat → Nat → List Nat
  | 0, _ => []
  | n + 1, off => leNat (slice bs off size) :: decNums bs size n (off + size)

/-- The fields of one record that starts at an offset, each aligned to its own size within the record. -/
def decRecord (bs : List Nat) (start : Nat) : Nat → List Nat → List Nat
  | _, [] => []
  | off, sz :: t => let a := alignUp sz off; leNat (slice bs (start + a) sz) :: decRecord bs start (a + sz) t

/-- The largest of some sizes. -/
def widthOf (sizes : List Nat) : Nat := sizes.foldl max 1

/-- The bytes of a record: its fields, padded to a multiple of its largest field. -/
def recordLen (sizes : List Nat) : Nat := alignUp (widthOf sizes) (sizes.foldl (fun off sz => alignUp sz off + sz) 0)

/-- One parameter at an offset, and the offset behind it. -/
def decPar (bs : List Nat) (off : Nat) : Par → Val × Nat
  | .num sz => let a := alignUp sz off; (.n (leNat (slice bs a sz)), a + sz)
  | .flag => (.n (leNat (slice bs off 1)), off + 1)
  | .raw n => (.b (slice bs off n), off + n)
  | .arr n sz => let a := alignUp sz off; (.b (decNums bs sz n a), a + n * sz)
  | .bytes =>
    let a := alignUp 4 off
    let n := leNat (slice bs a 4)
    (.b (slice bs (a + 4) n), a + 4 + n)
  | .recs sizes _ =>
    let a := alignUp 4 off
    let n := leNat (slice bs a 4)
    let start := if n = 0 then a + 4 else alignUp (widthOf sizes) (a + 4)
    (.r ((List.range (n / recordLen sizes)).map (fun i => decRecord bs (start + i * recordLen sizes) 0 sizes)), start + n)

/-- The parameters of a block in order, and the offset behind the last. -/
def decPars (bs : List Nat) : Nat → List Par → List Val × Nat
  | off, [] => ([], off)
  | off, p :: t =>
    let (v, o) := decPar bs off p
    let (vs, e) := decPars bs o t
    (v :: vs, e)

/-- The encoding of a parameter value. -/
def encPar : Par → Val → List Fld
  | .num sz, .n v => [.num sz v]
  | .flag, .n v => [.num 1 v]
  | .raw _, .b bs => bs.map (fun v => .num 1 v)
  | .arr _ sz, .b vs => vs.map (fun v => .num sz v)
  | .bytes, .b bs => [.bytes bs]
  | .recs sizes _, .r rows =>
    [.list (widthOf sizes) (rows.flatMap (fun r => padTo (widthOf sizes)
      (encFrom 0 ((sizes.zip r).map (fun e => Fld.num e.1 e.2)))))]
  | _, _ => []

/-- The parameter block of an opcode from its values. -/
def encPars (ps : List Par) (vs : List Val) : List Nat := encBlock ((ps.zip vs).flatMap (fun e => encPar e.1 e.2))

/-- The block has the encoded size of its parameters (check 7). -/
def sizeFits (ps : List Par) (bs : List Nat) : Bool := alignUp 8 (decPars bs 0 ps).2 = bs.length

/-- The first flag of a block that is neither 0 nor 1, by its place. -/
def badFlag : Nat → List (Par × Val) → Option Nat
  | _, [] => none
  | i, (.flag, .n v) :: t => if v ≤ 1 then badFlag (i + 1) t else some i
  | i, (.recs sizes flags, .r rows) :: t =>
    match (List.range (sizes.length * rows.length)).find? (fun j =>
        flags.contains (j % sizes.length) && decide (1 < (rows.getD (j / sizes.length) []).getD (j % sizes.length) 0)) with
    | some j => some (i + j)
    | none => badFlag (i + sizes.length * rows.length) t
  | i, (.raw n, _) :: t => badFlag (i + if n = 32 || n = 24 || n = 16 then 1 else n) t
  | i, (.arr n _, _) :: t => badFlag (i + n) t
  | i, _ :: t => badFlag (i + 1) t

/-- What check 8 finds in every block alike: flags, padding that is not zero, a list that is no whole number of records
(log entry 86). -/
def blockFault (ps : List Par) (bs : List Nat) : Option Nat :=
  let vs := (decPars bs 0 ps).1
  match badFlag 0 (ps.zip vs) with
  | some i => some i
  | none => if encPars ps vs = bs then none else some 0xFFFF

/-! ## Running a command from its parameter bytes -/

/-- The state after a meaning. -/
def Res.after (r : Res) (s : State) : State :=
  match r with
  | .next t => t
  | _ => s

/-- A flag's value. -/
def isOne (v : Nat) : Bool := v = 1

/-- The share records of a decoded list. -/
def shareRows (rows : List (List Nat)) : List ShareRec :=
  rows.map (fun r => ⟨r.getD 0 0, r.getD 1 0, r.getD 2 0, r.getD 3 0⟩)
/-- The table grant records of a decoded list. -/
def tblRows (rows : List (List Nat)) : List TblGrantRec :=
  rows.map (fun r => ⟨r.getD 0 0, r.getD 1 0, r.getD 2 0, r.getD 3 0⟩)
/-- The windows of a decoded list. -/
def winRows (rows : List (List Nat)) : List WinRec :=
  rows.map (fun r => ⟨r.getD 0 0, r.getD 1 0, r.getD 2 0, isOne (r.getD 3 0), isOne (r.getD 4 0)⟩)

/-- The pipeline that R16 selects for a frame, on whichever port it comes in: where the select tables of the ports differ, which
port it is is a free value. -/
def anyPortPipe (s : State) (d : List Nat) : Nat × State :=
  let ps := (List.range (livePorts s).length).map (fun n => selectPipe (portOf s n) d)
  let first := ps.headD (selectPipe (portOf s 0) d)
  if ps.all (fun p => p = first) then (first, s)
  else
    let (i, s1) := draw s
    (ps.getD ((Sys2Proof.Config.freeWord i).toNat % ps.length) first, s1)

/-- A connection created from a packet alone runs on the pipeline that R16 selects for its inbound frames (R21). The steering key
of TCP holds their addresses and ports; that of RoCEv2 holds neither, and they are free values (log entry 86). -/
def packetConn (m : Meta) (q : ConnParams) (s : State) : State :=
  if q.transport = 1 then
    let (p, s1) := anyPortPipe s (keyFrame q.steer)
    createConn m q p s1
  else
    let (i, s1) := draw4 s
    let (p, s2) := anyPortPipe s1 (roceFrame (randomBytes i))
    createConn m q p s2

/-- Class 0x02 from decoded parameters. -/
def runClass2 (m : Meta) (op : Nat) (vs : List Val) (s : State) : State :=
  match op, vs with
  | 0x0201, [.n fid, .n tx, .n rx, .n cq, .n msix, .n haul, .n pol, .r gr, .r tb, .n lanes, .n saMax, .n actMax,
      .n connMax, .n region, .n st, .n ac, .n la, .n mbx, .r wins] =>
    (execCreateInstance m fid ⟨⟨tx, rx, cq, msix, haul, pol, region, ⟨st, ac, la⟩, mbx⟩, shareRows gr, tblRows tb, lanes,
      saMax, actMax, connMax, winRows wins⟩ s).after s
  | 0x0202, [.n fid, .n lim] => (execQuiesce m fid lim s).after s
  | 0x0203, [.n fid] => (execResume m fid s).after s
  | 0x0204, [.n fid, .n f] => (execResetInstance m fid (isOne f) s).after s
  | 0x0205, [.n fid, .n f] => (execRemoveInstance m fid (isOne f) s).after s
  | 0x0206, [.n fid] => (execRelease m fid s).after s
  | 0x0207, [.n fid, .n w, .n base, .n pages, .n r, .n wr] =>
    (execSetDmaWindow m fid ⟨w, base, pages, isOne r, isOne wr⟩ s).after s
  | 0x0208, [.n fid, .n t, .n h] => (execSetExpertGrant m fid (isOne t) (isOne h) s).after s
  | 0x0209, [.n fid, .n tx, .n rx, .n cq, .n msix, .n haul, .n pol, .n region, .n st, .n ac, .n la, .n mbx] =>
    (execSetInstanceGrant m fid ⟨tx, rx, cq, msix, haul, pol, region, ⟨st, ac, la⟩, mbx⟩ s).after s
  | 0x020B, [.n v] => (execDeclareConfinement m v s).after s
  | _, _ => s

/-- Classes 0x03 and 0x04. -/
def runClass34 (m : Meta) (op : Nat) (vs : List Val) (s : State) : State :=
  match op, vs with
  | 0x0301, [.n fid, .n w, .n base, .n sz, .n cq, .n pipe, .n prog, .n wt, .n burst] =>
    (execCreateTransmitRing m fid w base sz cq pipe prog wt burst s).after s
  | 0x0302, [.n fid, .n w, .n base, .n sz, .n cq, .n ts] => (execCreateReceiveRing m fid w base sz cq (isOne ts) s).after s
  | 0x0303, [.n fid, .n w, .n base, .n sz, .n ctr, .n msix] =>
    (execCreateCompletionRing m fid w base sz ctr msix s).after s
  | 0x0304, [.n t, .n r] => (execDestroyRing m t r s).after s
  | 0x0305, [.n t, .n r] => (execStartRing m t r s).after s
  | 0x0306, [.n t, .n r] => (execStopRing m t r s).after s
  | 0x0307, [.n fid] => (execResumeRings m fid s).after s
  | 0x0308, [.n r, .n w, .n b] => (execSetWeightAndBurst m r w b s).after s
  | 0x0401, [.n pool, .n set, .n kind, .n sz, .n count, .n base, .n fid] =>
    (execRegisterPool m pool set kind sz count base fid s).after s
  | 0x0402, [.n pool] => (execUnregisterPool m pool s).after s
  | 0x0403, [.n pool, .n fid, .n mn, .n mx, .n w] => (execSetShare m pool fid mn mx w s).after s
  | 0x0404, [.n a, .n b, .n c] => (execSizeOnchipPools m a b c s).after s
  | 0x0405, [.n pool, .n e] => (execSetPressure m pool e s).after s
  | _, _ => s

/-- Class 0x05 and the commands of Table 7.8. -/
def runClass5 (m : Meta) (op : Nat) (vs : List Val) (s : State) : State :=
  match op, vs with
  | 0x0501, [.n t, .n loc, .n kind, .n b, .n kl, .n age, .n seed] => (execCreateTable m t loc kind b kl age seed s).after s
  | 0x0502, [.n t] => (execDestroyTable m t s).after s
  | 0x0503, [.n t, .n o, .b key, .b res, .n na] => (execInsertOrReplaceEntry m t o key res (isOne na) s).after s
  | 0x0504, [.n t, .n o, .b key] => (execDeleteEntry m t o key s).after s
  | 0x0506, [.n t, .n age] => (execSetAgeLimit m t age s).after s
  | 0x0507, [.n fid, .n t, .n mask, .n mx, .n res] => (execSetTableGrant m fid t mask mx res s).after s
  | 0x0508, [.n t, .n o, .n mask] => (execFlush m t o mask s).after s
  | 0x0510, [.n p, .n fid, .n rate, .n il, .n burst] => (execCreateOrReplacePolicer m p fid rate il burst s).after s
  | 0x0511, [.n p] => (execDestroyPolicer m p s).after s
  | 0x0513, [.n cells] => (execSetLoopShare m cells s).after s
  | 0x0B20, [.n x, .n fid, .n w, .n snap, .n n, .n ct] =>
    (execCreateOrReplaceMirrorSession m x fid w snap n (isOne ct) s).after s
  | 0x0B21, [.n x] => (execDestroyMirrorSession m x s).after s
  | 0x0B22, [.n port, .n rx, .n tx] => (execSetPortMirror m port rx tx s).after s
  | _, _ => s

/-- Classes 0x06, 0x07 and 0x0C. -/
def runClass67 (m : Meta) (op : Nat) (vs : List Val) (s : State) : State :=
  match op, vs with
  | 0x0601, [.n sa, .n owner, .n dir, .n mode, .n esn, .n mir, .n rw, .n seq, .n ul, .b key, .n act] =>
    (execInstallSa m sa ⟨owner, dir, mode, isOne esn, isOne mir, rw, seq, ul, key, isOne act⟩ s).after s
  | 0x0602, [.n sa] => (execRemoveSa m sa s).after s
  | 0x0603, [.n sa] => (execActivateSa m sa s).after s
  | 0x0604, [.n sa] => (execDeactivateSa m sa s).after s
  | 0x0605, [.n sa, .b key, .n act] => (execRekeySa m sa key (isOne act) s).after s
  | 0x0607, [.n fid, .n lanes, .n sas, .n act] => (execSetCipherGrant m fid lanes sas act s).after s
  | 0x0608, [] => (execEraseVault m s).after s
  | 0x0701, [.n conn, .n owner, .n tr, .n prog, .n hd, .n dd, .n cm, .n tmo, .n rl, .n rto, .b key, .b ts] =>
    packetConn m ⟨conn, owner, tr, prog, isOne hd, isOne dd, cm, tmo, rl, rto, key, [], 0, ts⟩ s
  | 0x0702, [.n conn, .n lim, .n f] => (execCloseConnection m conn lim (isOne f) s).after s
  | 0x0704, [.b chans, .n t, .n r] => (execConfigureStorage m chans t r s).after s
  | 0x0705, [.n fid, .n n] => (execSetStorageGrant m fid n s).after s
  | 0x0C01, [.n ch, .n owner, .n prio, .n lim] => (execGrantChannel m ch owner prio lim s).after s
  | 0x0C02, [.n ch, .n mode, .n sa, .n msix, .n head, .n qt, .n q, .n hi, .n lo] =>
    (execConfigureChannel m ch ⟨mode, sa, msix, head, qt, q, hi, lo⟩ s).after s
  | 0x0C03, [.n ch] => (execStopChannel m ch s).after s
  | 0x0C04, [.n ch] => (execResetChannel m ch s).after s
  | _, _ => s

/-- The mirrored commands of class 0x01: the flip, the port layout and the port parameters. -/
def runClass1 (m : Meta) (op : Nat) (vs : List Val) (s : State) : State :=
  match op, vs with
  | 0x0111, [] => (execFlip m s).after s
  | 0x0120, [.b types] => (execSetPortLayout m types s).after s
  | 0x0121, [.n port, .n mf, .n fc, .n dp, .n xoff, .n xon, .n q, .n map, .b burst, .b onchip, .b spill, .n fix, .n stage] =>
    (execSetPortParameters m ⟨port, mf, fc, dp, xoff, xon, q, map, burst, onchip, spill, fix, stage⟩ s).after s
  | _, _ => s

/-- Run a command of a mirrored class from its parameter bytes. -/
def runMirrored (m : Meta) (op : Nat) (params : List Nat) (s : State) : State :=
  match paramsOf op with
  | none => s
  | some ps =>
    let vs := (decPars params 0 ps).1
    if op / 256 = 1 then runClass1 m op vs s
    else if op / 256 = 2 then runClass2 m op vs s
    else if op / 256 = 3 || op / 256 = 4 then runClass34 m op vs s
    else if op / 256 = 5 || op / 256 = 11 then runClass5 m op vs s
    else runClass67 m op vs s

end Sys2Proof.Machine
end

