-- ==== Sys2Proof/Machine/TwinCopy.lean ====
section
/-! DEFINITION. The full copy of every mirrored class that the pair command sends (R384, R385, Table 13.4): the
configuration as the command packets that make it, the banks, the leases, the replay snapshots and the connection
records. -/

namespace Sys2Proof.Machine

/-- A command of the copy: its opcode and parameters. -/
abbrev CopyCmd := Nat × List Val

/-- A command packet of the copy, on the link; its result is awaited. -/
def sendCopy (s : State) (c : CopyCmd) : State :=
  let s1 := twinSend s 2 (packetBytes c.1 0 0 false (encPars ((paramsOf c.1).getD []) c.2)) none
  { s1 with twn := { s1.twn with copies := s1.twn.copies ++ [s.twn.nextSeq] } }

/-- The port layout, the live ports' parameters, and their mirror sessions. -/
def copyPorts (s : State) : List CopyCmd :=
  let ports := (List.range 8).filter (fun n => (portBlock s n).isSome)
  let prm := fun (n : Nat) =>
    let x := portOf s n
    ((0x0121 : Nat), [Val.n n, .n x.maxFrame, .n x.fcMode, .n x.defaultPrio, .n x.xoff, .n x.xon, .n x.quanta,
      .n x.prioToClass, .b ((List.range 8).map (fun c => (x.cls c).burst)),
      .b ((List.range 8).map (fun c => (x.cls c).onchipKib)), .b ((List.range 8).map (fun c => (x.cls c).spillMib)),
      .n x.laneFix, .n 0])
  (0x0120, [Val.b s.mac.layout]) :: ports.map prm

/-- The items of 0x0209 of a function. -/
def itemVals (f : Fn) : List Val :=
  [Val.n f.tx, .n f.rx, .n f.cq, .n f.msix, .n f.haul, .n f.policers,
    .n (if f.hookRegion = 0x7F then 0xFF else f.hookRegion), .n f.shares.steps, .n f.shares.access, .n f.shares.latency,
    .n f.mbxPerMs]

/-- The sizes of the on-chip pools and the tables: what the functions' grants name. -/
def copyBase (s : State) : List CopyCmd :=
  (0x0404, [0, 1, 3].map (fun p => Val.n (poolOf s p).count)) ::
    s.fwt.tables.map (fun e =>
      (0x0501, [Val.n e.1, .n (b2n e.2.hot), .n e.2.kind, .n e.2.bucketsLog2, .n e.2.keyLen, .n e.2.ageLimit, .n e.2.seed]))

/-- The virtual functions that are not ABSENT, with their grants but for the shares of host pools. -/
def copyFns (s : State) : List CopyCmd :=
  (s.fns.filter (fun e => isVf e.1 && e.2.st ≠ .absent)).map (fun e =>
    let f := e.2
    let g := cgrantOf s e.1
    (0x0201, [Val.n e.1, .n f.tx, .n f.rx, .n f.cq, .n f.msix, .n f.haul, .n f.policers,
      .r ((s.grn.shares.filter (fun x => x.1 % 4096 = e.1 && x.1 / 4096 < 4)).map (fun x =>
        [x.1 / 4096, x.2.mn, x.2.mx, x.2.weight])),
      .r ((s.fwt.grants.filter (fun x => x.1 / 64 = e.1)).map (fun x =>
        [x.1 / 4 % 16, 2 ^ (x.1 % 4), x.2.maxEntries, x.2.ovfReserve])),
      .n g.lanes, .n g.saMax, .n g.activeMax, .n (tgetD s.stg.connMax e.1 0),
      .n (if f.hookRegion = 0x7F then 0xFF else f.hookRegion), .n f.shares.steps, .n f.shares.access,
      .n f.shares.latency, .n f.mbxPerMs,
      .r (f.windows.map (fun w => [w.1, w.2.base, w.2.pages, b2n w.2.read, b2n w.2.write]))]))

/-- The grants that no create carries: those of PF0 and PF1, with their windows, of the device, and the expert grants. -/
def copyGrants (s : State) : List CopyCmd :=
  let pfs := s.fns.filter (fun e => e.1 < 2)
  pfs.map (fun e => (0x0209, Val.n e.1 :: itemVals e.2)) ++
    pfs.flatMap (fun e => e.2.windows.map (fun w =>
      (0x0207, [Val.n e.1, .n w.1, .n w.2.base, .n w.2.pages, .n (b2n w.2.read), .n (b2n w.2.write)]))) ++
    (s.fwt.grants.filter (fun x => !isVf (x.1 / 64))).map (fun x =>
      (0x0507, [Val.n (x.1 / 64), .n (x.1 / 4 % 16), .n (2 ^ (x.1 % 4)), .n x.2.maxEntries, .n x.2.ovfReserve])) ++
    (s.cip.grants.filter (fun e => !isVf e.1)).map (fun e =>
      (0x0607, [Val.n e.1, .n e.2.lanes, .n e.2.saMax, .n e.2.activeMax])) ++
    (s.stg.connMax.filter (fun e => !isVf e.1)).map (fun e => (0x0705, [Val.n e.1, .n e.2])) ++
    (s.fns.filter (fun e => e.2.rawTable || e.2.rawHook)).map (fun e =>
      (0x0208, [Val.n e.1, .n (b2n e.2.rawTable), .n (b2n e.2.rawHook)])) ++
    [(0x020B, [Val.n s.fmg.confinement])]

/-- Host pools with the shares and the pressure of every pool, and the tables' configured entries. -/
def copyStores (s : State) : List CopyCmd :=
  (s.grn.pools.filter (fun e => 4 ≤ e.1 && e.2.kind ≠ 0)).map (fun e =>
      (0x0401, [Val.n e.1, .n e.2.set, .n e.2.kind, .n e.2.sizeLog2, .n e.2.count, .n e.2.base, .n e.2.spaceFid])) ++
    (s.grn.shares.filter (fun x => 4 ≤ x.1 / 4096 || !isVf (x.1 % 4096))).map (fun x =>
      (0x0403, [Val.n (x.1 / 4096), .n (x.1 % 4096), .n x.2.mn, .n x.2.mx, .n x.2.weight])) ++
    (s.grn.pools.filter (fun e => e.1 ≠ 2 && e.2.kind ≠ 0)).map (fun e => (0x0405, [Val.n e.1, .n e.2.pressure])) ++
    ((fpOf s 0).slots.filter (fun e => !e.2.origin)).map (fun e =>
      (0x0503, [Val.n e.2.table, .n e.2.owner, .b (e.2.key ++ List.replicate (32 - e.2.key.length) 0), .b e.2.result,
        .n (b2n e.2.noAge)]))

/-- A ring that has been started and not stopped. -/
def RingState.started (x : RingState) : Bool := x = .running || x = .held || x = .haltedHost

/-- Rings: completion rings first, since the others name them, and then the starts. -/
def copyRings (s : State) : List CopyCmd :=
  s.qm.cq.map (fun e =>
      (0x0303, [Val.n e.2.fid, .n e.2.window, .n e.2.base, .n e.2.sizeLog2, .n e.2.ctrAddr, .n e.2.msix])) ++
    s.qm.tx.map (fun e =>
      (0x0301, [Val.n e.2.fid, .n e.2.window, .n e.2.base, .n e.2.sizeLog2, .n e.2.cq, .n e.2.pipeline, .n e.2.program,
        .n (weightOf s e.1).1, .n (weightOf s e.1).2])) ++
    s.qm.rx.map (fun e =>
      (0x0302, [Val.n e.2.fid, .n e.2.window, .n e.2.base, .n e.2.sizeLog2, .n e.2.cq, .n (b2n e.2.ts)])) ++
    (s.qm.cq.filter (fun e => e.2.st.started)).map (fun e => (0x0305, [Val.n 3, .n e.1])) ++
    (s.qm.tx.filter (fun e => e.2.st.started)).map (fun e => (0x0305, [Val.n 1, .n e.1])) ++
    (s.qm.rx.filter (fun e => e.2.st.started)).map (fun e => (0x0305, [Val.n 2, .n e.1]))

/-- Policers, mirror sessions, the ports' mirrors and the loop share. -/
def copySwitch (s : State) : List CopyCmd :=
  (0x0513, [Val.n s.sw.loopMax]) ::
    (s.sw.policers.map (fun e => (0x0510, [Val.n e.1, .n e.2.fid, .n e.2.rate, .n e.2.ilog, .n e.2.burst])) ++
      s.sw.sessions.map (fun e =>
        (0x0B20, [Val.n e.1, .n e.2.fid, .n e.2.window, .n e.2.snapLen, .n e.2.sampleN, .n (b2n e.2.crossTenant)])) ++
      s.mac.ports.map (fun e => (0x0B22, [Val.n e.1, .n e.2.rxSession, .n e.2.txSession])))

/-- SAs with their key material. -/
def copySas (s : State) : List CopyCmd :=
  s.cip.sas.flatMap (fun e =>
    match unwrapKey s e.2 with
    | some (k, n) =>
      [(0x0601, [Val.n e.1, .n e.2.owner, .n e.2.dir, .n e.2.mode, .n (b2n e.2.esn), .n (b2n e.2.mirrored),
        .n e.2.replayWindow, .n e.2.seq, .n e.2.unitLog2, .b (k ++ n), .n (b2n (e.2.st = .active))])]
    | none => [])

/-- Haul channels, the storage configuration and mirrored connections. -/
def copyStorage (s : State) : List CopyCmd :=
  (s.haul.chans.filter (fun e => e.1 < 15 && e.2.owner ≠ 0xFFE)).flatMap (fun e =>
      let c := e.2
      [(0x0C01, [Val.n e.1, .n c.owner, .n c.prio, .n c.descLimit]),
        (0x0C02, [.n e.1, .n c.mode, .n c.statusAddr, .n c.msix, .n c.head, .n c.queueType, .n c.queue, .n c.high,
          .n c.low])]) ++
    (if s.stg.configured then
      [(0x0704, [Val.b (s.stg.channels.map (·.2)), .n s.stg.tcpTable, .n s.stg.roceTable])] else []) ++
    (s.stg.conns.filter (fun e => e.2.mirrored)).map (fun e =>
      let c := e.2
      (0x0701, [Val.n e.1, .n c.owner, .n c.transport, .n c.program, .n (b2n c.hdgst), .n (b2n c.ddgst), .n c.cmdMax,
        .n c.timeoutMs, .n c.retxLimit, .n c.rtoUs, .b (c.steer ++ List.replicate (32 - c.steer.length) 0),
        .b (c.lines.flatMap (·.2))]))

/-- Every command packet of the copy, each after those it depends on. -/
def copyCmds (s : State) : List CopyCmd :=
  copyBase s ++ copyPorts s ++ copyFns s ++ copyGrants s ++ copyStores s ++ copyRings s ++ copySwitch s ++ copySas s ++ copyStorage s

/-- The banks: the CURRENT one with its flip, then a SEALED one. -/
def copyBanks (s : State) : State :=
  match currentBank s with
  | some c =>
    let s1 := sendCopy (sendBank s c) (0x0111, [])
    if (bankOf s1 (1 - c)).st = .sealed then sendBank s1 (1 - c) else s1
  | none => s

/-- The leases and replay snapshots of mirrored SAs (R386, R387), and the lines of mirrored connections (R388). -/
def copyRecords (s : State) : State :=
  let s1 := s.cip.sas.foldl (fun s e =>
    if !e.2.mirrored then s
    else if e.2.dir = 0 then
      twinSend s 3 (leBytes 4 e.1 ++ leBytes 4 0 ++ leBytes 8 (e.2.lease / 2 ^ 20 - 1 + b2n e.2.leaseReady)) none
    else if isEsp e.2.mode || isMacsec e.2.mode then
      twinSend (setSa s e.1 { e.2 with snapSent := e.2.seq }) 4 (leBytes 4 e.1 ++ leBytes 4 0 ++ leBytes 8 e.2.seq) none
    else s) s
  s1.stg.conns.foldl (fun s e =>
    if e.2.mirrored then
      sendLines s e.1 { e.2 with dirty := List.range 7 ++ e.2.lines.map (·.1) }
    else s) s1

/-- The full copy of every mirrored class. -/
def fullCopy (s : State) : State := copyRecords (copyBanks ((copyCmds s).foldl sendCopy s))

end Sys2Proof.Machine
end

