-- ==== Sys2Proof/Machine/TwinCmds.lean ====
section
/-! DEFINITION. The twin commands of class 0x08 (R376 to R394, Table 13.8) and the TWN_ registers they return
(R395). -/

namespace Sys2Proof.Machine

/-! ## Registers (Tables 13.10, 13.11) -/

/-- TWN_STATUS. -/
def twnStatus (s : State) : Nat :=
  let t := s.twn
  t.link + t.role * 2 ^ 4 + b2n t.paired * 2 ^ 7 + b2n t.armed * 2 ^ 8 + b2n t.inSync * 2 ^ 9 +
    b2n t.peerLostSeen * 2 ^ 10 + b2n t.splitSeen * 2 ^ 11 + b2n t.divergedSeen * 2 ^ 12 + t.peerRole % 8 * 2 ^ 16 +
    t.linkChanges.toNat * 2 ^ 32

/-- TWN_LANE_l of a lane record. -/
def twinLaneWord (x : Lane) : Nat :=
  b2n x.signal + x.fault * 2 + b2n x.polaritySeen * 2 ^ 4 + b2n x.polarityFixed * 2 ^ 5 + b2n x.orderSeen * 2 ^ 6 +
    b2n x.orderFixed * 2 ^ 7 + b2n x.faultSeen * 2 ^ 16

/-- The TWN_ registers in the order of Table 13.9. -/
def twnRegs (s : State) : List Nat :=
  let t := s.twn
  [0x02 + 0x0A * 2 ^ 8 + 3 * 2 ^ 16 + 0x14 * 2 ^ 20, twnStatus s, t.epoch, t.armEpoch, t.armDeadline, t.peer,
    t.sent.toNat + t.acked.toNat * 2 ^ 32, t.missedRun + t.received.toNat * 2 ^ 16, t.takeoverNs + t.slotsAborted * 2 ^ 32,
    twinLaneWord (macLane s 8), twinLaneWord (macLane s 9)]

/-! ## Arms (R392) -/

/-- An arm ends, and its end is logged with a cause: 0 deadline, 1 takeover, 2 disarm, 3 sync lost. -/
def endArm (s : State) (cause : Nat) : State :=
  if s.twn.armed then logEvent { s with twn := { s.twn with armed := false } } 0x0078 0xFFF [.num 1 cause] else s

/-- The pair is out of sync (R385): an arm ends with it. -/
def loseSync (s : State) : State := endArm { s with twn := { s.twn with inSync := false } } 3

/-! ## Commands -/

/-- PIN_PEER. -/
def execPinPeer (m : Meta) (unit : Nat) (s : State) : Res :=
  .next (runCmd m 0x0801 [] false (firstBad [(0, unit < 2 ^ 64)])
    (fun s => if s.twn.link ≠ 0 then no s .refusedState else ok { s with twn := { s.twn with peer := unit } }) s)

/-- A twin lane driver that a short turned off comes back when the link is disabled and enabled again (Table 6.6, R376). -/
def restoreTwin (s : State) : State := restoreDrivers s ⟨8, 2, 0⟩

/-- SET_LINK: an enabled link starts training; a disabled one is DOWN. -/
def execSetLink (m : Meta) (enable policy : Nat) (s : State) : Res :=
  .next (runCmd m 0x0802 [] false (firstBad [(0, enable ≤ 1), (1, policy ≤ 3)])
    (fun s =>
      if s.twn.peer = 0 then no s .refusedState
      else
        let s0 := if isOne enable && !s.twn.enabled then restoreTwin s else s
        let s1 := { s0 with twn := { s0.twn with enabled := isOne enable, policy := policy } }
        if enable = 0 then ok (isoCheck (twinDown s1) 5)
        else ok (if s.twn.link = 0 then twinLink s1 1 else s1)) s)

/-- A role that the set-role command may take: never while TAKING_OVER, with a higher epoch only, and out of FENCED only to
STANDBY with an epoch at least the peer's (R380, R383). -/
def roleOk (s : State) (role epoch : Nat) : Bool :=
  s.twn.role ≠ roleTaking && s.twn.epoch < epoch &&
    (s.twn.role ≠ roleFenced || (role = roleStandby && s.twn.peerEpoch ≤ epoch))

/-- SET_ROLE. -/
def execSetRole (m : Meta) (role epoch : Nat) (s : State) : Res :=
  .next (runCmd m 0x0803 [] false (firstBad [(0, role ≤ 2), (1, epoch < 2 ^ 64)])
    (fun s =>
      if roleOk s role epoch then ok { s with twn := { s.twn with role := role, epoch := epoch } }
      else no s .refusedState) s)

/-- PAIR: the full copy goes out; the command ends when the standby has applied it. -/
def execPair (m : Meta) (s : State) : Res :=
  .next (runCmd m 0x0804 [] false none
    (fun s =>
      if s.twn.role ≠ rolePrimary || s.twn.link ≠ 3 || s.twn.peerRole ≠ roleStandby then no s .refusedState
      else
        let s1 := fullCopy { s with twn := { s.twn with paired := true } }
        bgOpen { s1 with twn := { s1.twn with pairing := some ((s1.twn.nextSeq + (2 ^ 64 - 1)) % 2 ^ 64) } } s.now) s)

/-- ARM_TAKEOVER (R392). -/
def execArmTakeover (m : Meta) (epoch deadline : Nat) (flip : Bool) (s : State) : Res :=
  .next (runCmd m 0x0805 [] false (firstBad [(0, epoch < 2 ^ 64), (1, deadline < 2 ^ 64)])
    (fun s =>
      if deadline ≤ timeNow s then noItem s .badParam 1
      else if s.twn.role = roleStandby && s.twn.paired && s.twn.link = 3 && s.twn.inSync && s.twn.epoch < epoch &&
          s.twn.peerEpoch < epoch && (!flip || (flipTarget s).isSome) then
        ok { s with twn := { s.twn with armed := true, armEpoch := epoch, armDeadline := deadline, armFlip := flip } }
      else no s .refusedState) s)

/-- DISARM. -/
def execDisarm (m : Meta) (s : State) : Res :=
  .next (runCmd m 0x0806 [] false none (fun s => if s.twn.armed then ok (endArm s 2) else no s .refusedState) s)

/-- Leases that were being asked of the twin are recorded at once (R381). -/
def freeLeases (s : State) : State :=
  s.cip.sas.foldl (fun s e => if e.2.mirrored then askLease s e.1 else s) s

/-- UNPAIR. -/
def execUnpair (m : Meta) (s : State) : Res :=
  .next (runCmd m 0x0807 [] false none
    (fun s =>
      if !s.twn.paired then no s .refusedState
      else ok (isoCheck (freeLeases { s with twn := { s.twn with paired := false } }) 5)) s)

/-- READ_TWIN. -/
def execReadTwin (m : Meta) (s : State) : Res :=
  .next (runCmd m 0x0808 [] false none (fun s => okWith s ((twnRegs s).map (fun v => .num 8 v))) s)

end Sys2Proof.Machine
end

