-- ==== Sys2Proof/Machine/TwinRows.lean ====
section
/-! DEFINITION. The twin link at work: its start and loss (R377, R379), the resolution of roles (R383), heartbeats and
peer loss (R390, R391), what a standby applies (R384 to R388), acknowledgements (R379, R385), and an armed takeover
(R389, R393). -/

namespace Sys2Proof.Machine

/-! ## The link (R377, R379) -/

/-- The twin lanes work: no fault holds them down, and the device is not in D3hot (R212, R367). -/
def twinLanesOk (s : State) : Bool :=
  (macLane s 8).fault = 0 && (macLane s 9).fault = 0 && (pciOf s 0).dstate ≠ 3

/-- TWIN_LINK_AUTHENTICATED: an AUTHENTICATING link, whose domain runs, enters LINKED with the pinned peer and one key for each
direction; any other peer is refused (R376, R377). A new link numbers its frames from 0. -/
def execTwinLinkAuthenticated (unit : Nat) (chainOk : Bool) (s : State) : Res :=
  .next (if !s.twn.enabled || s.twn.link ≠ 2 || !twinLanesOk s || !domainRuns s 9 then s
    else if !chainOk || unit ≠ s.twn.peer || s.twn.peer = 0 then logEvent (twinDown s) 0x0070 0xFFF [.num 8 unit]
    else
      let (d, s1) := draw4 s
      let (e, s2) := draw4 s1
      let s3 := twinLink s2 3
      isoCheck { s3 with twn := { s3.twn with
        linkKey := some (d, e), nextSeq := 0, rxSeq := 0, outq := [], noPrimarySeen := false, hbWatch := true
        hbInWindow := true, hbLast := none, hbWindow := timeNow s3 / 10000, hbSent := none, missedRun := 0
        waits := s3.twn.waits.map (fun w => { w with seq := 2 ^ 64 }), rxResult := none, peerPaired := none } } 5)

/-- TWIN_LINK_DOWN. -/
def execTwinLinkDown (s : State) : Res :=
  .next (if s.twn.link = 0 then s else isoCheck (twinDown s) 5)

/-- TWIN_RESEND: a frame unacknowledged after 4 us is sent again, and after the eighth resend the link goes DOWN. -/
def execTwinResend (seq : Nat) (s : State) : Res :=
  .next (match s.twn.outq.find? (fun f => f.seq = seq) with
    | some f =>
      if s.now < f.sentAt + 4000 || s.twn.link ≠ 3 then s
      else if 8 ≤ f.resends then isoCheck (twinDown s) 5
      else
        let g : TwinOut := { f with resends := f.resends + 1, sentAt := s.now }
        let s1 := { s with twn := { s.twn with outq := s.twn.outq.map (fun x => if x.seq = seq then g else x) } }
        countDev (emit s1 (.twin (twinDir s) (twinBytes f.type f.role f.flags f.epoch f.seq f.body))) cTwinLinkResend
    | none => s)

/-! ## Resolution (R383, Table 13.3) -/

/-- A PRIMARY that has met its better is FENCED. -/
def fence (s : State) (h : TwinHdr) : State :=
  { s with twn := { s.twn with role := roleFenced, splitSeen := true, peerEpoch := h.epoch } }

/-- What a frame that is accepted tells of the peer. A standby is paired by the pair command of its PRIMARY, which it sees as the
paired flag that rises on the link, and takes in_sync from the flag while it is paired (R380, log entry 85). -/
def learnPeer (s : State) (h : TwinHdr) : State :=
  let s1 := { s with twn := { s.twn with peerRole := h.role, peerEpoch := h.epoch } }
  if s.twn.role = roleStandby && h.role = rolePrimary then
    let s2 := { s1 with twn := { s1.twn with
      paired := s1.twn.paired || (s.twn.peerPaired = some false && h.paired), peerPaired := some h.paired } }
    if h.inSync && s2.twn.paired then { s2 with twn := { s2.twn with inSync := true } }
    else if s2.twn.inSync then loseSync s2 else s2
  else s1

/-- The first row of Table 13.3 that applies: whether the frame is accepted, and the state. -/
def resolve (s : State) (h : TwinHdr) : Bool × State :=
  let t := s.twn
  if h.epoch < t.epoch then (false, countDev s cTwinStaleEpoch)
  else if t.epoch < h.epoch && (t.role = rolePrimary || t.role = roleTaking) then
    (false, logEvent (fence s h) 0x0071 0xFFF [.num 8 h.epoch])
  else if h.epoch = t.epoch && t.role = rolePrimary && h.role = rolePrimary then
    (false, logEvent (fence s h) 0x0072 0xFFF [.num 8 h.epoch])
  else if h.epoch = t.epoch && t.role = roleStandby && h.role = roleStandby then
    let s1 := { s with twn := { t with noPrimarySeen := true } }
    (false, if t.noPrimarySeen then s1 else logEvent s1 0x0073 0xFFF [.num 8 h.epoch])
  else (true, learnPeer s h)

/-- A frame arrives: one whose tag fails is discarded and counted (R379); an authenticated one is resolved, and acts when it
is accepted. -/
def twinReceive (s : State) (h : TwinHdr) (f : State → State) : State :=
  if s.twn.link ≠ 3 then s
  else if !h.tagOk then countDev s cTwinFrameBad
  else
    match resolve s h with
    | (true, s1) => f s1
    | (false, s1) => s1

/-! ## Heartbeats and peer loss (R390, R391) -/

/-- HEARTBEAT_SEND: one heartbeat per window of TIME. -/
def execHeartbeatSend (s : State) : Res :=
  .next (let k := timeNow s / 10000
    if s.twn.link ≠ 3 || s.twn.hbSent = some k then s
    else
      let s1 := twinFrame s 1 []
      { s1 with twn := { s1.twn with hbSent := some k } })

/-- A heartbeat marks the window of TIME in which it arrives: the one that is watched, or a later one whose
predecessor's end is still to be taken (R390). -/
def markWindow (s : State) : State :=
  let k := timeNow s / 10000
  if k ≤ s.twn.hbWindow then { s with twn := { s.twn with hbInWindow := true, missedRun := 0 } }
  else { s with twn := { s.twn with hbLast := some k } }

/-- HEARTBEAT_RECEIVED: an authenticated heartbeat with an epoch at least the device's own marks its window; one that
Table 13.3 accepts is counted. -/
def execHeartbeatReceived (hdr : TwinHdr) (s : State) : Res :=
  .next (if s.twn.link ≠ 3 then s
    else if !hdr.tagOk then countDev s cTwinFrameBad
    else
      let (ok, s1) := resolve s hdr
      if hdr.epoch < s.twn.epoch then s1
      else
        let s2 := markWindow s1
        if ok then { s2 with twn := { s2.twn with received := s2.twn.received + 1 } } else s2)

/-- ARM_DEADLINE. -/
def execArmDeadline (s : State) : Res :=
  .next (if s.twn.armed && s.twn.armDeadline ≤ timeNow s then endArm s 0 else s)

/-! ## What a standby applies (R379, R384, R386 to R388) -/

/-- A frame number lies before the next one to be applied, in the 64-bit order of R6. -/
def frameBefore (seq next : Nat) : Bool := 2 ^ 63 ≤ (seq + 2 ^ 64 - next) % 2 ^ 64

/-- A slot from its 8-byte entry (Table 10.4). -/
def slotOfWord (now w : Nat) : CSlot :=
  { tag := bits 31 0 w, cq := bits 45 32 w, st := bits 47 46 w, gen := bits 57 48 w, allocAt := now }

/-- The control line replaces the fields that the connection keeps of it (Table 10.3); turns are the device's own. -/
def Conn.withControl (c : Conn) (bs : List Nat) : Conn :=
  let w := leNat (slice bs 0 8)
  let x := leNat (slice bs 8 8)
  { c with
    st := if bits 2 0 w = 2 then .closing else if bits 2 0 w = 3 then .failed else .active
    transport := bits 4 3 w, hdgst := bitOf 5 w, ddgst := bitOf 6 w, retxLimit := bits 11 8 w, program := bits 14 12 w
    owner := bits 27 16 w, pipeline := bits 29 28 w, cmdMax := bits 37 32 w, timeoutMs := bits 15 0 x
    rtoUs := bits 63 32 x, timer := leNat (slice bs 16 8) }

/-- One line of a connection record is replaced (R388). -/
def Conn.withLine (c : Conn) (now : Nat) (l : Nat × List Nat) : Conn :=
  if l.1 = 0 then c.withControl l.2
  else if l.1 ≤ 6 then
    { c with slots := (List.range 8).foldl (fun t j =>
        tput {} t ((l.1 - 1) * 8 + j) (slotOfWord now (leNat (slice l.2 (8 * j) 8)))) c.slots }
  else { c with lines := tset c.lines l.1 (l.2.take 64), lib := none }

/-- The bank that takes mirrored images: the one that is not CURRENT. -/
def imageBank (s : State) : Nat :=
  match currentBank s with
  | some c => 1 - c
  | none => 0

/-- A part of an image in the idle bank; the declaration, which comes last, seals it (Table 2.7). A SEALED image that was
never flipped gives way to the new one (log entry 87). -/
def loadPart (s : State) (steps : List (Nat × Nat)) (decl : Option TableDecl) : State :=
  let b := imageBank s
  let old := bankOf s b
  let x : Bank := if old.st = .loading then old else { sealStatus := old.sealStatus, failIndex := old.failIndex }
  if (bankOf s b).st = .verifying || (bankOf s b).st = .draining then s
  else
    let main : Tbl W128 := (steps.filter (fun e => e.1 < 49152)).foldl (fun t e => tset t e.1 (BitVec.ofNat 128 e.2)) x.steps
    match decl with
    | none => setBank s b { x with st := .loading, steps := main }
    | some d =>
      let hooks := carriedHooks s d.allow
      setBank s b { x with st := .verifying, steps := main ++ carriedSteps s hooks, hooks := hooks, decl := some d }

/-- The lines of a storage record replace those of the connection (R388). -/
def putLines (s : State) (conn : Nat) (lines : List (Nat × List Nat)) : State :=
  match connOf s conn with
  | some c => setConn s conn ((lines.filter (fun l => l.1 < 32)).foldl (fun c l => c.withLine s.now l) c)
  | none => s

/-- What a frame of types 3 to 6 does on the standby (R384, R386 to R388); a mirrored command is run by the Steward. -/
def applyWork (s : State) : TwinWork → State
  | .command _ => s
  | .lease sa k =>
    match saOf s sa with
    | some a => setSa s sa (a.leaseRecord k)
    | none => s
  | .snapshot sa top =>
    match saOf s sa with
    | some a => setSa s sa (a.jump top)
    | none => s
  | .storage conn lines => putLines s conn lines
  | .image steps decl => loadPart s steps decl

/-- The frames up to the next mirrored command are applied in their order. -/
def applyUpTo (s : State) : List TwinWork → State
  | [] => { s with twn := { s.twn with rxq := [] } }
  | w :: t => if w.isCommand then { s with twn := { s.twn with rxq := w :: t } } else applyUpTo (applyWork s w) t

/-- A mirrored command that the Steward has accepted has not replied, nor gone into the background. -/
def twinRuns (s : State) : Bool := s.stw.accepted.any (fun a => a.path = .twin)

/-- The frames that waited behind a mirrored command are applied, and acknowledged, once it has run. -/
def drainTwin (s : State) : State :=
  match s.twn.rxq with
  | w :: t => if w.isCommand || twinRuns s then s else twinAck (applyUpTo s (w :: t)) none
  | [] => s

/-- A frame of types 2 to 6: only a STANDBY takes it, only at its turn, and only once. A repeat is acknowledged again, with the
result that it had; after a gap nothing is taken until the missing frame comes (R379). -/
def takeFrame (s : State) (h : TwinHdr) (w : TwinWork) : State :=
  twinReceive s h (fun s =>
    if s.twn.role ≠ roleStandby then s
    else if frameBefore h.seq s.twn.rxSeq then twinAck s (s.twn.rxResult.filter (fun r => r.1 = h.seq))
    else if h.seq ≠ s.twn.rxSeq then s
    else
      let s1 := { s with twn := { s.twn with rxSeq := (h.seq + 1) % 2 ^ 64 } }
      if w.isCommand || !s.twn.rxq.isEmpty || twinRuns s then
        twinAck { s1 with twn := { s1.twn with rxq := s1.twn.rxq ++ [w] } } none
      else twinAck (applyWork s1 w) none)

/-- LEASE_RECORD. -/
def execLeaseRecord (hdr : TwinHdr) (sa k : Nat) (s : State) : Res := .next (takeFrame s hdr (.lease sa k))

/-- REPLAY_SNAPSHOT (R387): jump_base, replay_top and a clear bitmap. -/
def execReplaySnapshot (hdr : TwinHdr) (sa top : Nat) (s : State) : Res := .next (takeFrame s hdr (.snapshot sa top))

/-- STORAGE_RECORD. -/
def execStorageRecord (hdr : TwinHdr) (conn : Nat) (lines : List (Nat × List Nat)) (s : State) : Res :=
  .next (takeFrame s hdr (.storage conn lines))

/-- BANK_IMAGE_PART. -/
def execBankImagePart (hdr : TwinHdr) (steps : List (Nat × Nat)) (decl : Option TableDecl) (s : State) : Res :=
  .next (takeFrame s hdr (.image steps decl))

/-! ## Acknowledgements (R379, R385, R386) -/

/-- The pair diverged (R385). -/
def diverged (s : State) (op own peer : Nat) : State :=
  let s1 := loseSync { s with twn := { s.twn with divergedSeen := true } }
  logEvent (countDev s1 cTwinDiverged) 0x0075 0xFFF [.num 2 op, .num 1 own, .num 1 peer]

/-- A reply that waited goes out with the PRIMARY's own status. -/
def releaseWait (s : State) (w : MirrorWait) : State :=
  answer { s with twn := { s.twn with waits := s.twn.waits.erase w } } w.m w.opcode ⟨w.ns, [], w.compat⟩ 0 w.fin

/-- Frames up to a number are applied: leases among them are ready, for the installation of the SA that asked (R258), and a
full copy may be complete. -/
def takeAck (s : State) (acked : Nat) : State :=
  let mine := s.twn.outq.filter (fun f => !frameBefore acked f.seq)
  let s1 := { s with twn := { s.twn with
    outq := s.twn.outq.filter (fun f => frameBefore acked f.seq), acked := s.twn.acked + BitVec.ofNat 32 mine.length } }
  mine.foldl (fun s f =>
    match f.lease with
    | some (n, u) =>
      match saOf s n with
      | some a => if a.uid = u then setSa s n { a with leaseReady := true }.rollLease else s
      | none => s
    | none => s) s1

/-- A status by which a standby takes a command of a full copy: done, or refused because the object stands there already, where
it is left as it is (log entry 137). -/
def copyTaken (status : Nat) : Bool :=
  [Status.done, .doneFallback, .refusedState, .refusedBusy, .refusedLimit].any (fun st => st.code = status)

/-- A full copy whose last frame is applied, and whose commands have all ended, ends the pair command: in_sync is 1 when the
standby took every one (R385). -/
def endPair (s : State) (acked : Nat) : State :=
  match s.twn.pairing with
  | some n =>
    if !frameBefore acked n && s.twn.copies.isEmpty then
      let good := !s.twn.copyBad
      let s1 := { s with twn := { s.twn with pairing := none, copyBad := false, inSync := good } }
      match s1.stw.bg.find? (fun b => b.opcode = 0x0804) with
      | some b => endBg s1 b { status := if good then .done else .refusedState } false
      | none => s1
    else s
  | none => s

/-- The result of a mirrored command reaches the PRIMARY: the reply that waits for it goes out, and another status than its own
is a divergence; that of a command of a full copy is noted (R385). -/
def takeResult (s : State) (q status : Nat) : State :=
  match s.twn.waits.find? (fun w => w.seq = q) with
  | some w =>
    let s1 := releaseWait s w
    if status = w.fin.status.code then s1 else diverged s1 w.opcode w.fin.status.code status
  | none =>
    if s.twn.copies.contains q then
      { s with twn := { s.twn with copies := s.twn.copies.erase q, copyBad := s.twn.copyBad || !copyTaken status } }
    else s

/-- TWIN_ACKNOWLEDGEMENT: the highest frame number applied, and the number and status of a mirrored command that has ended. -/
def execTwinAcknowledgement (hdr : TwinHdr) (acked : Nat) (result : Option (Nat × Nat)) (s : State) : Res :=
  .next (twinReceive s hdr (fun s =>
    let s1 := takeAck s acked
    endPair (match result with
      | some (q, status) => takeResult s1 q status
      | none => s1) acked))

/-- MIRROR_REPLY_TIMEOUT: no result within 1 ms counts as a divergence, with FAILED_TIMEOUT as the peer's status (log entry
85). -/
def execMirrorReplyTimeout (s : State) : Res :=
  .next (match s.twn.waits.find? (fun w => w.until_ ≤ s.now) with
    | some w => diverged (releaseWait s w) w.opcode w.fin.status.code Status.failedTimeout.code
    | none => s)

/-! ## Takeover (R389, R393) -/

/-- The mirrored connections that are ACTIVE. -/
def mirroredConns (s : State) : List Nat :=
  (s.stg.conns.filter (fun e => e.2.mirrored && e.2.st = .active)).map (·.1)

/-- TAKEOVER_COMPLETE: slots in flight on mirrored connections end with ABORTED, the armed flip is made, and the device is
PRIMARY (Table 13.7). -/
def execTakeoverComplete (s : State) : Res :=
  .next (match s.twn.takeoverAt with
    | some t0 =>
      if s.twn.role ≠ roleTaking then s
      else
        let ns := mirroredConns s
        let cut := (ns.map (fun n => ((connOf s n).map Conn.inFlight).getD 0)).sum
        let s1 := ns.foldl (fun s n => abortSlots s n 3) s
        let s2 := if s1.twn.armFlip then (requestFlip s1).2 else s1
        let s3 := { s2 with twn := { s2.twn with
          role := rolePrimary, takeoverAt := none, takeoverNs := (s2.now - t0) % 2 ^ 32, slotsAborted := min cut 65535 } }
        logEvent s3 0x0077 0xFFF [.num 8 (s3.now - t0)]
    | none => s)

end Sys2Proof.Machine
end

