-- ==== Sys2Proof/Machine/LaneRows.lean ====
section
/-! DEFINITION. Lanes and links: the faults of Table 6.6 on L0 to L7 and T0 and T1 (R212, R376) and on the service lane
(R509), link start with polarity and order (R213), and link loss (R204). Lanes 8 and 9 are T0 and T1, lane 10 the service
lane (Table 14.20). -/

namespace Sys2Proof.Machine

/-- The port of the live layout that a lane belongs to. -/
def portOfLane (s : State) (l : Nat) : Option Nat :=
  (List.range (livePorts s).length).find? (fun n =>
    match portBlock s n with
    | some b => b.first ≤ l && l < b.first + b.lanes
    | none => false)

/-- The link of an enabled port changes state: a wake event in D1 (Table 12.10). -/
def linkChanged (s : State) (n : Nat) : State := if (portOf s n).enabled then wakeNow s 5 else s

/-- What a lane serves goes down: its port, or the twin link. -/
def laneDown (s : State) (l : Nat) : State :=
  if l = 8 || l = 9 then isoCheck (twinDown s) 5
  else
    match portOfLane s l with
    | some n => if (portOf s n).link then linkChanged (linkDownPort s n) n else s
    | none => s

/-- A lane of the part: L0 to L7, T0, T1 or the service lane. -/
def isLane (l : Nat) : Bool := l ≤ 10

/-- A lane that finds a fault of Table 6.6. -/
def Lane.withFault (x : Lane) (code : Nat) : Lane :=
  { x with fault := code, faultSeen := true, signal := x.signal && code ≠ 1, driverOff := x.driverOff || code = 3 }

/-- The receiver of a port reports local fault: the MAC sends remote fault to the partner, until it no longer does (R188). -/
def reportFault (s : State) (n : Nat) (on : Bool) : State :=
  let x := portOf s n
  if x.localFault = on then s else emit (setPort s n { x with localFault := on }) (.remoteFault n on)

/-- LANE_FAULT: the fault is recorded, what the lane serves goes down, and the Steward logs the event (R212). A lane that is
in no port is powered down and watched for nothing (R184). -/
def execLaneFault (lane code : Nat) (s : State) : Res :=
  .next (if !isLane lane || code = 0 || 3 < code || (lane < 8 && (portOfLane s lane).isNone) then s
    else
      let s1 := setLaneReg s lane ((macLane s lane).withFault code)
      let s2 := match portOfLane s1 lane with
        | some n => if code = 3 then s1 else reportFault s1 n true
        | none => s1
      logEvent (laneDown s2 lane) 0x0040 0xFFF [.num 1 lane, .num 1 code])

/-- LANE_FAULT_CLEAR: codes 1 and 2 clear when the signal or the leg recovers; a driver that is off stays off. -/
def execLaneFaultClear (lane code : Nat) (s : State) : Res :=
  .next (let x := macLane s lane
    if !isLane lane || x.fault ≠ code || (code ≠ 1 && code ≠ 2) then s
    else setLaneReg s lane { x with fault := if x.driverOff then 3 else 0, signal := x.signal || code = 1 })

/-! ## Link start (R213) -/

/-- What a link start finds of the lane at a place of its block is acceptable under a policy. -/
def laneFits (policy place : Nat) (t : LaneStart) : Bool :=
  (!t.inverted || bitOf 0 policy) && (t.position = place || bitOf 1 policy)

/-- A lane after a link start. -/
def Lane.start (x : Lane) (policy place : Nat) (t : LaneStart) : Lane :=
  { x with
    signal := true, polaritySeen := t.inverted, polarityFixed := t.inverted && bitOf 0 policy
    orderSeen := decide (t.position ≠ place), orderFixed := decide (t.position ≠ place) && bitOf 1 policy
    position := t.position % 8, faultSeen := x.faultSeen || t.inverted || t.position ≠ place }

/-- Every lane of a block records what its link start found; an inverted or misplaced lane is a fault of Table 6.6, logged
with code 0 (R212; log entry 88). The start succeeds when every lane is acceptable. -/
def startLanes (s : State) (policy : Nat) (ls : List Nat) (ts : List LaneStart) : Bool × State :=
  let pairs := (List.range ls.length).map (fun i => (i, ls.getD i 0, ts.getD i ⟨false, i⟩))
  (pairs.all (fun e => laneFits policy e.1 e.2.2),
    pairs.foldl (fun s e =>
      let s1 := setLaneReg s e.2.1 ((macLane s e.2.1).start policy e.1 e.2.2)
      if laneFits 0 e.1 e.2.2 then s1 else logEvent s1 0x0040 0xFFF [.num 1 e.2.1, .num 1 0]) s)

/-- A port trains: its link comes up when every lane is acceptable, and is held down with the fault recorded otherwise. -/
def startPort (s : State) (n : Nat) (b : Block) (ts : List LaneStart) : State :=
  let x := portOf s n
  let (good, s1) := startLanes s x.laneFix (blockLanes b) ts
  if good then
    let s2 := reportFault s1 n false
    linkChanged (linkUpPort (setPort s2 n { portOf s2 n with anComplete := decide (b.type % 16 ≤ 2) }) n) n
  else s1

/-- The twin link trains: it goes on to authentication when both lanes are acceptable (R376, R377). -/
def startTwin (s : State) (ts : List LaneStart) : State :=
  let (good, s1) := startLanes s s.twn.policy [8, 9] ts
  if good then twinLink (if s1.twn.link = 0 then twinLink s1 1 else s1) 2 else s1

/-- LINK_UP: `lanes` is what the receiver finds of each lane in ascending order; port 8 stands for the twin link. -/
def execLinkUp (port : Nat) (lanes : List LaneStart) (s : State) : Res :=
  .next (if port = 8 then
      (if s.twn.enabled && s.twn.link ≤ 1 && twinLanesOk s && domainRuns s 9 then startTwin s lanes else s)
    else
      match portBlock s port with
      | none => s
      | some b =>
        let x := portOf s port
        if !x.enabled || x.link || (blockLanes b).any (fun l => (macLane s l).fault ≠ 0) then s
        else startPort s port b lanes)

/-- LINK_DOWN: the link of a port is lost (R204). -/
def execLinkDown (port : Nat) (s : State) : Res :=
  .next (if (portBlock s port).isSome && (portOf s port).link then linkChanged (linkDownPort s port) port else s)

/-! ## Power states (R367, R368, Table 12.9) -/

/-- The functions on the link of a function, in rising order. -/
def fnsOnLink (s : State) (link : Nat) : List Nat :=
  (List.range 2050).filter (fun fid => fnPresent s fid && linkOf s fid = link)

/-- PF0 enters a D-state, and the device its mode. -/
def deviceMode (s : State) (d : Nat) : State :=
  let s1 := intaSync (setPci s 0 { pciOf s 0 with dstate := d })
  if d = 0 then
    let s2 := if (pciOf s 0).dstate = 3 then leaveD3 s1 else s1
    intaSync ((fnsOnLink s2 0).foldl sendHeld s2)
  else
    let s2 := (fnsOnLink s1 0).foldl haltFn (if (pciOf s 0).dstate = 3 then leaveD3 s1 else s1)
    if d = 3 then isoCheck (twinDown (enterD3 s2)) 5 else s2

/-- POWER_STATE_WRITE: virtual functions have no power state, and PF1's affects PF1 alone. -/
def execPowerStateWrite (fid dstate : Nat) (s : State) : Res :=
  .next (if 1 < fid || (dstate ≠ 0 && dstate ≠ 1 && dstate ≠ 3) || !cfgReach s fid ||
        (pciOf s fid).dstate = dstate then s
    else if fid = 0 then deviceMode s dstate
    else
      let s1 := setPci s 1 { pciOf s 1 with dstate := dstate }
      if dstate = 0 then sendHeld s1 1 else haltFn s1 1)

end Sys2Proof.Machine
end

