-- ==== Sys2Proof/Machine/Power.lean ====
section
/-! DEFINITION. Clock domains (R33 to R37, R443, Table 1.6) and the power-down and power-up of internal domains (R374,
Table 12.12). -/

namespace Sys2Proof.Machine

/-! ## Domains -/

/-- The domains with an idle limit (Table 16.2). -/
def idleDomains : List Nat := [11, 12, 13, 14, 15, 18, 19, 20, 23]

/-- The domains that the power-down command may name (Table 12.12). -/
def holdDomains : List Nat := [12, 13, 14, 15, 18, 23]

/-- Some queue is enabled: neither NOT_READY nor STOPPED. -/
def anyQueue (s : State) : Bool :=
  let on := fun (x : RingState) => x ≠ .notReady && x ≠ .stopped
  tany s.qm.tx (fun _ r => on r.st) || tany s.qm.rx (fun _ r => on r.st) || tany s.qm.cq (fun _ c => on c.st)

/-- A port on some of the lanes `lo` to `hi` is enabled. -/
def portOn (s : State) (lo hi : Nat) : Bool :=
  (List.range (livePorts s).length).any (fun n =>
    match portBlock s n with
    | some b => (portOf s n).enabled && b.first ≤ hi && lo < b.first + b.lanes
    | none => false)

/-- A haul channel has work: a run queued or running. -/
def haulBusy (s : State) : Nat :=
  ((List.range 16).map (fun n =>
    let c := chanOf s n
    if c.mode = 2 then c.lists.length else b2n (c.st = .running || c.st = .ready))).sum

/-- The work in flight of a pipeline: occupied contexts, parked packets and admission cells (Table 12.12). -/
def pipeBusy (s : State) (p : Nat) : Nat :=
  let x := pipeOf s p
  x.ctxs.length + x.parked.length + admitCells x

/-- The work in flight of a domain that may be held down. -/
def domBusy (s : State) (d : Nat) : Nat :=
  if d = 18 then s.cip.records.length else if d = 23 then haulBusy s else pipeBusy s (d - 12)

/-- A step that commands a unit of a domain waits for its clock (R35). -/
def unitAsked (s : State) (d : Nat) : Bool :=
  pipes.any (fun p => tany (pipeOf s p).ctxs (fun c k => k.st = .held && (unitDomains (stepIn s p c k).w.unit p).contains d))

/-- A table of a pipeline in an RLDRAM domain has a transfer in flight: a move to complete, a write of the cycle; or a part
of the shared region is in use: a completion in a backlog, a frame in the spill area, a storage turn. -/
def rldBusy (s : State) (d : Nat) : Bool :=
  s.dev.rldWiping || unitAsked s d ||
    [2 * (d - 19), 2 * (d - 19) + 1].any (fun p => !(fpOf s p).homing.isEmpty || !(fpOf s p).cycle.isEmpty) ||
    tany s.qm.cq (fun _ c => !c.backlog.isEmpty) || tany s.stg.conns (fun _ c => c.turnHeld) ||
    tany s.mac.ports (fun _ x => tany x.classes (fun _ c => c.q.any (·.spilled)))

/-- A unit of the domain has something to do, or something that depends on it runs: the domain is not idle (Table 1.6). -/
def domNeeded (s : State) (d : Nat) : Bool :=
  if 12 ≤ d && d ≤ 15 then 0 < pipeBusy s (d - 12)
  else if d = 18 then tany s.cip.lanes (fun _ l => l.owner ≠ 0xFFE) || !s.cip.records.isEmpty || unitAsked s d
  else if d = 23 then 0 < haulBusy s
  else if d = 7 then portOn s 0 3
  else if d = 8 then portOn s 4 7
  else if d = 9 then s.twn.enabled
  else if d = 11 then s.fw.chainSt = 2 || s.fw.chainSt = 3
  else if d = 17 then portOn s 0 7 || anyQueue s || !s.grn.waiting.isEmpty || unitAsked s d
  else if d = 19 || d = 20 then rldBusy s d
  else if d = 3 || d = 16 then (domUsers d).any (fun e => (domOf s e).running || (domOf s e).starting.isSome || (domOf s e).asked)
  else true

/-- The start condition of Table 1.6 that a domain's own unit gives; the activity that the chain-in detector sees, and the
instants of start-up, are the row's word. -/
def unitWants (s : State) (d : Nat) : Bool :=
  if d = 11 then true else if d = 10 then s.stw.ready else if d = 25 then s.alm.lcState = 0 || s.alm.lcState = 3
  else if d = 4 || d = 5 || d = 6 then !s.store.perst
  else domNeeded s d

/-- A domain is demanded: by its own unit, or for a source by what depends on it. -/
def demanded (s : State) (d : Nat) : Bool :=
  if d = 16 then (domUsers 16).any (unitWants s)
  else if d = 3 then (domUsers 3).any (fun e => e ≠ 16 && unitWants s e) || (domUsers 16).any (unitWants s)
  else unitWants s d

/-- DOMAIN_START: where the start condition of Table 1.6 holds. -/
def execDomainStart (dom : Nat) (s : State) : Res :=
  .next (if s.store.auxPresent && demanded s dom then askStart s dom else s)

/-- A power-up command that waits for a domain's first usable edge completes (R374). -/
def endPowerUp (s : State) (d : Nat) : State :=
  match s.stw.fore.find? (fun b => b.opcode = 0x0A11 && b.objs.contains (.domain d)) with
  | some b => endFore s b { status := .done }
  | none => s

/-- Domains that were asked to start begin to once everything they depend on runs (R34); during an Almanac restart they wait
for its end (R451). -/
def startAsked (s : State) (d : Nat) : State :=
  (domUsers d).foldl (fun s e => if (domOf s e).asked then askStart s e else s) s

/-- DOMAIN_READY: the first usable edge (R36). -/
def execDomainReady (dom : Nat) (s : State) : Res :=
  .next (let x := domOf s dom
    if x.starting.isSome then startAsked (endPowerUp (setDom s dom { x with starting := none, running := true, idleSince := none }) dom) dom
    else s)

/-- A domain has been idle for its limit: an idle period of exactly the limit ends in a stop (R33, R443); that of an RLDRAM
domain begins with the last access. -/
def idleOver (s : State) (d : Nat) : Bool :=
  match (domOf s d).idleSince with
  | some t =>
    let from_ := if d = 19 || d = 20 then max t (rldLast s d) else t
    from_ + 1000 * (domOf s d).limitUs ≤ s.now
  | none => false

/-- A domain may stop: it is running and not needed, what depends on it has stopped (R34), and its idle limit, where it has
one, has passed. AON-32K and AON-16M never stop. -/
def mayStop (s : State) (d : Nat) : Bool :=
  3 ≤ d && (domOf s d).running && !domNeeded s d && !s.store.restarting &&
    (domUsers d).all (fun e => !(domOf s e).running && (domOf s e).starting.isNone && !(domOf s e).asked) &&
    (!idleDomains.contains d || idleOver s d)

/-- DOMAIN_IDLE_STOP. -/
def execDomainIdleStop (dom : Nat) (s : State) : Res :=
  .next (if mayStop s dom then setDom s dom { domOf s dom with running := false, idleSince := none } else s)

/-- Note when each domain with an idle limit became idle; an access demands a stopped RLDRAM domain (R33, R35). -/
def watchIdle (s : State) : State :=
  idleDomains.foldl (fun s d =>
    let x := domOf s d
    if !x.running then (if (d = 19 || d = 20) && rldUsed s d && startable s d then askStart s d else s)
    else if domNeeded s d then (if x.idleSince.isNone then s else setDom s d { x with idleSince := none })
    else if x.idleSince.isNone then setDom s d { x with idleSince := some s.now }
    else s) s

/-- SET_IDLE_LIMIT: the limit applies to the idle period in progress. -/
def execSetIdleLimit (m : Meta) (domain limitUs : Nat) (s : State) : Res :=
  .next (runCmd m 0x0A06 [.domain domain] false
    (firstBad [(0, idleDomains.contains domain), (1, 10 ≤ limitUs && limitUs ≤ 1000000)])
    (fun s => ok (setDom s domain { domOf s domain with limitUs := limitUs })) s)

/-! ## Force (R374) -/

/-- The reads of packets parked on a pipeline are abandoned. -/
def abandonPipe (s : State) (p : Nat) : State :=
  { s with pci := { s.pci with reads := s.pci.reads.filterMap (fun r =>
      match r.use with
      | .dmar q _ _ _ =>
        if q ≠ p then some r
        else if r.tag.isSome && r.fin.isNone then some { r with abandoned := true } else none
      | _ => some r) } }

/-- What the packets of a pipeline have under way in other units ends. -/
def abortUnits (s : State) (p : Nat) : State :=
  let s1 := (s.cip.records.filter (fun r => r.p = p)).foldl (fun s r => stopRecord s r .refusedState) s
  let s2 := (s1.grn.waiting.filter (fun r =>
      match r.who with
      | .step q _ => q = p
      | _ => false)).foldl (fun s r =>
    endRequest (match r.scrub with
      | some j => undoScrub s j
      | none => s) r .refusedEmpty 0) s1
  let s3 := (List.range 16).foldl (fun s n =>
    if (chanOf s n).mode = 2 then endLists s n (fun l => l.p = p) .refusedBusy 0x33 else s) s2
  abandonPipe s3 p

/-- Every packet of a pipeline ends with ABORTED, and its entry with it. -/
def forcePipe (s : State) (p : Nat) : State :=
  let s1 := abortUnits s p
  let x := pipeOf s1 p
  let dead := x.ctxs.map (·.2) ++ x.parked ++ x.admission
  dead.foldl (fun s k => finishPkt s p k 2 0 .aborted) (setPipe s1 p { x with ctxs := [], parked := [], admission := [] })

/-- Every haul run, queued or running, ends with ABORTED. -/
def forceHaul (s : State) : State :=
  (List.range 16).foldl (fun s n =>
    let c := chanOf s n
    if c.mode = 2 then endLists s n (fun _ => true) .refusedBusy 0x33
    else if c.st = .running || c.st = .ready then endRun s n .aborted
    else s) s

/-- Every item in flight in a domain ends, and each is counted. -/
def forceDom (s : State) (d : Nat) : State :=
  let s1 := countN s 0xFFF cPwrForceAborted (domBusy s d)
  if d = 18 then s1.cip.records.foldl (fun s r => stopRecord s r .refusedState) s1
  else if d = 23 then forceHaul s1
  else forcePipe s1 (d - 12)

/-! ## The commands -/

/-- A domain is held down; its stop waits for the end of an Almanac restart (R451). -/
def holdDom (s : State) (d : Nat) : State :=
  setDom s d { domOf s d with
    held := true, running := s.store.restarting && (domOf s d).running, starting := none, asked := false, draining := none
    idleSince := none }

/-- POWER_DOWN. -/
def execPowerDown (m : Meta) (domain option limitMs : Nat) (s : State) : Res :=
  .next (runCmd m 0x0A10 [.domain domain] false
    (firstBad [(0, holdDomains.contains domain), (1, option ≤ 2),
      (2, option ≠ 1 || (1 ≤ limitMs && limitMs ≤ 1000))])
    (fun s =>
      if option = 2 then ok (holdDom (forceDom s domain) domain)
      else if option = 1 then
        let t := s.now + 1000000 * limitMs
        bgOpen (setDom s domain { domOf s domain with draining := some t, drainSeen := domBusy s domain }) t
      else if 0 < domBusy s domain then no s .refusedBusy
      else ok (holdDom s domain)) s)

/-- The work left of a domain that drains, before a nanosecond passes (R374). -/
def watchDrains (s : State) : State :=
  holdDomains.foldl (fun s d =>
    if (domOf s d).draining.isSome then setDom s d { domOf s d with drainSeen := domBusy s d } else s) s

/-- The work that a drain finds: an item that ended only at the limit counts as remaining (R374, the window rule). -/
def drainLeft (s : State) (d t : Nat) : Nat := if t ≤ s.now then max (domBusy s d) (domOf s d).drainSeen else domBusy s d

/-- POWER_DOWN_DRAIN_END: DONE when nothing is in flight; at the limit REFUSED_BUSY with the count, and the domain admits
work again. -/
def execPowerDownDrainEnd (domain : Nat) (s : State) : Res :=
  .next (match bgOf s [0x0A10] (.domain domain) with
    | none => s
    | some b =>
      let n := drainLeft s domain b.deadline
      if n = 0 then endBg (holdDom s domain) b { status := .done } false
      else if b.deadline ≤ s.now then
        endBg (setDom s domain { domOf s domain with draining := none }) b
          { status := .refusedBusy, results := [.num 4 n] } false
      else s)

/-- POWER_UP: the command completes at the domain's first usable edge, at once where the domain has not stopped. -/
def execPowerUp (m : Meta) (domain : Nat) (s : State) : Res :=
  .next (runCmd m 0x0A11 [.domain domain] false (firstBad [(0, holdDomains.contains domain)])
    (fun s =>
      if !(domOf s domain).held then no s .refusedState
      else if (domOf s domain).running then ok (setDom s domain { domOf s domain with held := false })
      else foreOpen (askStart (setDom s domain { domOf s domain with held := false }) domain)) s)

end Sys2Proof.Machine
end

