-- ==== Sys2Proof/Machine/Almanac.lean ====
section
/-! DEFINITION. The Almanac (chapter 16): its registers, calendar and wake timer, alarms and faults, lifetime counters,
restart, and auxiliary power. Temperatures of commands are in 1/16 degree, offset by 32,768. -/

namespace Sys2Proof.Machine

/-! ## Registers (Tables 16.13, 16.14) -/

/-- A temperature as registers, events and history entries show it: signed, in 16 bits. -/
def tjRaw (t : Nat) : Nat := (t + 32768) % 65536

/-- ALM_STATUS. -/
def almStatus (s : State) : Nat :=
  let a := s.alm
  a.lcState + b2n a.wipePending * 2 ^ 3 + b2n a.calValid * 2 ^ 4 + b2n a.calDegraded * 2 ^ 5 +
    b2n (a.lcState = 0 || a.lcState = 3) * 2 ^ 6 + b2n (a.causes ≠ 0) * 2 ^ 7 + b2n a.thermtrip * 2 ^ 8 +
    b2n s.store.restarting * 2 ^ 9 + b2n s.stw.restarting * 2 ^ 10

/-- ALM_DOMAINS. -/
def almDomains (s : State) : Nat := ((List.range 25).map (fun i => b2n (domOf s (i + 1)).running * 2 ^ i)).sum

/-- ALM_SENSE. -/
def almSense (s : State) : Nat :=
  s.alm.tj % 65536 + s.alm.coreMv % 65536 * 2 ^ 16 + s.alm.sramMv % 65536 * 2 ^ 32 + s.alm.auxMv % 65536 * 2 ^ 48

/-- ALM_ALARM. -/
def almAlarm (s : State) : Nat :=
  s.alm.causes + b2n s.alm.warning * 2 ^ 4 + b2n s.alm.thermtrip * 2 ^ 5 + b2n s.alm.alarmSeen * 2 ^ 8 +
    s.alm.raised % 65536 * 2 ^ 16

/-- ALM_FAULT. -/
def almFault (s : State) : Nat :=
  b2n s.alm.xtalFault + b2n s.alm.ref156Lost * 2 + b2n s.alm.ref100Lost * 4 + b2n s.alm.diodeFault * 8 +
    b2n s.alm.faultSeen * 2 ^ 8

/-- READ_ALMANAC: the registers of Tables 16.13 and 16.14 from ALM_ID to ALM_HIST_HEAD, in order of offset. -/
def execReadAlmanac (m : Meta) (s : State) : Res :=
  .next (runCmd m 0x0A01 [] false none
    (fun s => okWith s
      [.num 8 (0x19 + 0x40 * 2 ^ 8 + 0x40 * 2 ^ 16 + 0x20 * 2 ^ 24), .num 4 (almStatus s),
        .num 4 (b2n s.stw.restarting + b2n s.store.restarting * 2), .num 8 s.alm.calSec, .num 4 s.alm.calTicks,
        .num 4 s.alm.trim, .num 8 s.alm.wakeAt, .num 4 (almDomains s), .num 8 (almSense s), .num 8 (almAlarm s),
        .num 4 (almFault s), .num 8 s.store.nonce, .num 4 (s.store.histNext + s.store.histTotal * 2 ^ 16)]) s)

/-! ## Calendar (R465) and wake timer (R466) -/

/-- Units of `calSub` in a tick of 1/32,768 s: each nanosecond adds 10^8 units, more or less the trim in steps of 0.01
ppm. -/
def tickUnits : Nat := 3051757812500

/-- The units that a nanosecond adds under the trim, a signed 16-bit number. -/
def trimmedUnits (trim : Nat) : Nat := if trim < 32768 then 100000000 + trim else 100000000 + trim - 65536

/-- At a whole second the calendar returns to a crystal that is good again, with event 0x0104 (R462). -/
def crystalBack (s : State) : State :=
  if s.alm.xtalBack && s.alm.calTicks = 0 then
    almEvent { s with alm := { s.alm with xtalBack := false, calDegraded := false } } 0x0104 [.num 1 1]
  else s

/-- The next tick begins: it sets the calendar if a set is due, else counts on (R465). -/
def calTick (s : State) : State :=
  match s.alm.calSet with
  | some (sec, ticks) =>
    let s1 : State := { s with alm := { s.alm with
      calSec := sec, calTicks := ticks, calSet := none, calValid := true } }
    almEvent s1 0x0108 [.num 8 s.alm.calSec, .num 8 sec]
  | none =>
    let t := s.alm.calTicks + 1
    { s with alm := { s.alm with
      calTicks := if t = 32768 then 0 else t, calSec := s.alm.calSec + t / 32768 } }

/-- The units of a nanosecond while the calendar ticks from AON-16M: a free value within 2 % (R462, log entry 97). -/
def degradedUnits (now : Nat) : Nat := 98000000 + Sys2Proof.Config.degradedRate now % 4000001

/-- The calendar over one nanosecond. -/
def calRun (s : State) : State :=
  if !s.store.auxPresent then s
  else
    let u := s.alm.calSub + (if s.alm.calDegraded then degradedUnits s.now else trimmedUnits s.alm.trim)
    if u < tickUnits then { s with alm := { s.alm with calSub := u } }
    else crystalBack (calTick { s with alm := { s.alm with calSub := u - tickUnits } })

/-- SET_CALENDAR. -/
def execSetCalendar (m : Meta) (sec ns : Nat) (s : State) : Res :=
  .next (runCmd m 0x0A02 [] false (firstBad [(0, 1577836800 ≤ sec && sec < 2 ^ 64), (1, ns < 1000000000)])
    (fun s => ok { s with alm := { s.alm with calSet := some (sec, ns * 32768 / 1000000000) } }) s)

/-- TIME and the calendar of the cycle in which a command 0x0A03 was accepted (R466). -/
def wakeBase (s : State) (m : Meta) : Nat × Nat :=
  match acceptedOf s m 0x0A03 with
  | some a => (a.ns, a.cal)
  | none => (timeNow s, calNs s)

/-- SET_WAKE_TIMER: the instant is stored in calendar nanoseconds, by the values of the cycle of acceptance. -/
def execSetWakeTimer (m : Meta) (instant : Nat) (s : State) : Res :=
  .next (runCmd m 0x0A03 [] false (firstBad [(0, instant < 2 ^ 64)])
    (fun b =>
      let t := wakeBase s m
      if instant = 0 then ok { b with alm := { b.alm with wakeAt := 0 } }
      else if instant ≤ t.1 then noItem b .badParam 0
      else ok { b with alm := { b.alm with wakeAt := (instant - t.1 + t.2) % 2 ^ 64 } }) s)

/-- The present tick starts at or after the stored instant. -/
def wakeDue (s : State) : Bool :=
  s.alm.wakeAt ≠ 0 && s.alm.wakeAt * 32768 ≤ (s.alm.calSec * 32768 + s.alm.calTicks) * 1000000000

/-- The wake timer fires and clears: event 0x0109, and a wake event outside D0. -/
def fireWake (s : State) : State :=
  let s1 := almEvent { s with alm := { s.alm with wakeAt := 0 } } 0x0109 [.num 8 s.alm.wakeAt]
  wakeNow s1 1

/-- WAKE_TIMER_FIRE: an instant reached during an Almanac restart is acted on at the restart's end. -/
def execWakeTimerFire (s : State) : Res :=
  .next (if s.store.auxPresent && !s.store.restarting && wakeDue s then fireWake s else s)

/-- WAKE (R369). -/
def execWake (m : Meta) (s : State) : Res := .next (runCmd m 0x0A07 [] false none (fun s => ok (wakeNow s 4)) s)

/-- ALM_CAL_SEC_READ: the read latches the ticks within the second. -/
def execAlmCalSecRead (s : State) : Res :=
  .next (memWrite s 0 { s with alm := { s.alm with calLatch := s.alm.calTicks } })

/-! ## Alarms (R263, R264, R459, R461) -/

/-- A cause is present. -/
def causeOn (s : State) (c : Nat) : Bool := bitOf (c - 1) s.alm.causes

/-- A voltage alarm is armed only with main supplies present and PERST# released. -/
def alarmArmed (s : State) (c : Nat) : Bool :=
  s.store.auxPresent && 1 ≤ c && c ≤ 4 && (c ≠ 1 || (s.store.mainPresent && !s.store.perst))

/-- An alarm: the vault is erased, the history and a running Steward record it, and it is a wake event. -/
def raiseAlarm (s : State) (c value : Nat) : State :=
  if !alarmArmed s c || causeOn s c then s
  else
    let v := if c = 1 || c = 3 then value % 65536 else 0
    let s1 : State := { s with alm := { s.alm with
      causes := s.alm.causes + 2 ^ (c - 1), alarmSeen := true, raised := (s.alm.raised + 1) % 65536
      causeSince := tset s.alm.causeSince c s.now } }
    wakeNow (almEvent (eraseVault s1 c v) 0x0100 [.num 1 c, .num 4 v]) 2

/-- ALARM: `value` is in mV for cause 1, and the signed 16-bit temperature for cause 3. -/
def execAlarm (cause value : Nat) (s : State) : Res := .next (raiseAlarm s cause value)

/-- ALARM_CLEAR: the cause has been absent for 10 ms; with no cause left the vault draws a new KEK. -/
def execAlarmClear (cause : Nat) (s : State) : Res :=
  .next (if cause = 0 || 4 < cause || !causeOn s cause || !s.store.auxPresent ||
      s.now - tgetD s.alm.causeSince cause 0 < 10000000 then s
    else
      let ms := (s.now - tgetD s.alm.causeSince cause s.now) / 1000000
      let s1 : State := { s with alm := { s.alm with
        causes := s.alm.causes - 2 ^ (cause - 1), causeSince := tdel s.alm.causeSince cause } }
      let s2 := almEvent s1 0x0101 [.num 1 cause, .num 4 ms]
      if s2.alm.causes = 0 && !s2.alm.wipePending && s2.store.mainPresent && s2.cip.kek.isNone then drawKek s2 else s2)

/-! ## Temperature (R459, R460) -/

/-- A temperature of the hottest sensor: ALM_SENSE shows it, and tj_peak keeps the highest ever sensed (Table 16.10). -/
def sensed (s : State) (tj : Nat) : State :=
  let a := s.store.acc
  { s with
    alm := { s.alm with tj := tjRaw tj }
    store := { s.store with acc := { a with life := tput 0 a.life 3 (max (tgetD a.life 3 0) tj) } } }

/-- THERMAL_WARNING: at or above 110 C, once per rise. -/
def execThermalWarning (tj : Nat) (s : State) : Res :=
  .next (if !s.store.auxPresent || tj < 34528 then s
    else
      let s1 := sensed s tj
      if s.alm.warning then s1
      else almEvent { s1 with alm := { s1.alm with warning := true } } 0x0102 [.num 2 (tjRaw tj)])

/-- THERMAL_WARNING_CLEAR: below 105 C. -/
def execThermalWarningClear (tj : Nat) (s : State) : Res :=
  .next (if s.store.auxPresent && tj < 34448 then
      let s1 := sensed s tj
      { s1 with alm := { s1.alm with warning := false } } else s)

/-- At or above 125 C the output is driven low. -/
def tripAbove (s : State) (tj : Nat) : State :=
  if tj < 34768 then s else { s with alm := { s.alm with thermtrip := true, tripAt := s.now } }

/-- THERMTRIP. -/
def execThermtrip (tj : Nat) (s : State) : Res := .next (if s.store.auxPresent then tripAbove (sensed s tj) tj else s)

/-- THERMTRIP_RELEASE: Tj has been below 125 C for 1 s. -/
def execThermtripRelease (s : State) : Res :=
  .next (if 1000000000 ≤ s.now - s.alm.tripAt then { s with alm := { s.alm with thermtrip := false } } else s)

/-! ## Clock and diode faults (R462 to R464) -/

/-- CRYSTAL_FAULT: the calendar ticks from AON-16M. -/
def execCrystalFault (s : State) : Res :=
  .next (if !s.store.auxPresent || s.alm.xtalFault then s
    else
      let s1 : State := { s with alm := { s.alm with
        xtalFault := true, xtalBack := false, faultSeen := true, calDegraded := true } }
      almEvent (histAppend s1 6 0) 0x0104 [.num 1 0])

/-- CRYSTAL_RECOVERY: the crystal has run within limits for 1 s; the calendar returns to it at the next whole second. -/
def execCrystalRecovery (s : State) : Res :=
  .next (if !s.store.auxPresent || !s.alm.xtalFault then s
    else { s with alm := { s.alm with xtalFault := false, xtalBack := true } })

/-- The domains that REF-156 sources stop with it, and the data path stays undefined until a PERST# or cold reset (R463, log
entry 96): nothing in it runs. -/
def loseRef156 (s : State) : State :=
  let running := (domUsers 3).any (fun d => (domOf s d).running)
  if !running then s
  else
    let s1 := raiseAlarm s 2 0
    let s2 := (3 :: domUsers 3).foldl (fun s d => setDom s d { domOf s d with running := false, starting := none }) s1
    { s2 with alm := { s2.alm with dataDead := true }, stw := { s2.stw with ready := false } }

/-- REFERENCE_CLOCK_RECOVERY. -/
def execReferenceClockRecovery (which : Nat) (s : State) : Res :=
  .next (if !s.store.auxPresent then s
    else if which = 0 && s.alm.ref156Lost then
      almEvent { s with alm := { s.alm with ref156Lost := false } } 0x0105 [.num 1 0, .num 1 1]
    else if which = 1 && s.alm.ref100Lost then
      almEvent { s with alm := { s.alm with ref100Lost := false } } 0x0105 [.num 1 1, .num 1 1]
    else s)

/-- THERMAL_DIODE_FAULT: 0 short, 1 open. -/
def execThermalDiodeFault (kind : Nat) (s : State) : Res :=
  .next (if !s.store.auxPresent || s.alm.diodeFault || 1 < kind then s
    else
      let s1 : State := { s with alm := { s.alm with diodeFault := true, faultSeen := true } }
      almEvent (histAppend s1 9 0) 0x0106 [.num 1 kind])

/-- THERMAL_DIODE_FAULT_CLEAR. -/
def execThermalDiodeFaultClear (s : State) : Res :=
  .next (if !s.store.auxPresent || !s.alm.diodeFault then s
    else almEvent { s with alm := { s.alm with diodeFault := false } } 0x0106 [.num 1 2])

/-! ## Lifetime store (R467 to R470) -/

/-- Counter `k` of Table 16.10. -/
def lifeOf (s : State) (k : Nat) : Nat := tgetD s.store.acc.life k 0

/-- Change counter `k`. -/
def LifeAcc.setLife (a : LifeAcc) (k v : Nat) : LifeAcc := { a with life := tput 0 a.life k v }

/-- Add to counter `k`. -/
def bumpLife (s : State) (k n : Nat) : State :=
  { s with store := { s.store with acc := s.store.acc.setLife k (lifeOf s k + n) } }

/-- The counters as ALM_LIFE_k shows them: tj_peak is signed. -/
def lifeWord (s : State) (k : Nat) : Nat :=
  if k = 3 then (lifeOf s 3 + 2 ^ 64 - 32768) % 2 ^ 64 else lifeOf s k % 2 ^ 64

/-- READ_LIFETIME_COUNTERS. -/
def execReadLifetimeCounters (m : Meta) (s : State) : Res :=
  .next (runCmd m 0x0A04 [] false none
    (fun s => okWith s ((List.range 32).map (fun k => .num 8 (lifeWord s k)))) s)

/-- A unit of `sub` more at counter `k`: every `per` of them count one. -/
def LifeAcc.addSub (a : LifeAcc) (k n per : Nat) : LifeAcc :=
  let t := tgetD a.sub k 0 + n
  { (a.setLife k (tgetD a.life k 0 + t / per)) with sub := tput 0 a.sub k (t % per) }

/-- A thermal half cycle is 40 C between an extreme and the present temperature (R468). -/
def LifeAcc.thermal (a : LifeAcc) (tj : Nat) : LifeAcc :=
  if a.dirUp then
    if a.ext < tj then { a with ext := tj }
    else if tj + 640 ≤ a.ext then { a.addSub 2 1 1 with dirUp := false, ext := tj }
    else a
  else if tj < a.ext then { a with ext := tj }
  else if a.ext + 640 ≤ tj then { a.addSub 2 1 1 with dirUp := true, ext := tj }
  else a

/-- 2^(2^-j), j = 1 to 7, in units of 2^-48. -/
def rootsOfTwo : List Nat :=
  [398065729532860, 334732044999537, 306950638654743, 293936938588304, 287638476118103, 284540038248454, 283003357999923]

/-- 2^(k/128) for k below 128, in units of 2^-48. -/
def pow2Frac (k : Nat) : Nat :=
  ((List.range 7).zip rootsOfTwo).foldl (fun a e => if bitOf (6 - e.1) k then a * e.2 / 2 ^ 48 else a) (2 ^ 48)

/-- The ageing of one second, 2^((Tj - 95) / 8) * (I / I_nom)^2, in units of 2^-32 (R469). -/
def ageUnits (tj ma nom : Nat) : Nat :=
  let e := tj + 16
  pow2Frac (e % 128) * ma ^ 2 * 2 ^ (e / 128) / (nom ^ 2 * 2 ^ 284)

/-- The nominal rail currents in mA, rails 4 to 8 of Table 16.10. -/
def railNom : List Nat := [90000, 8000, 16000, 6000, 16000]

/-- One second of the lifetime counters. -/
def LifeAcc.second (a : LifeAcc) (main : Bool) (x : LifeSample) : LifeAcc :=
  let hour := fun (a : LifeAcc) (e : Nat × Bool) => if e.2 then a.addSub e.1 1 3600 else a
  let a1 := [(0, main), (1, true), (19, x.hostUp)].foldl hour (a.thermal x.tj)
  let a2 := ((List.range 10).map (fun l => (9 + l, x.lanesUp.getD l false))).foldl hour a1
  let a3 := (List.range 5).foldl (fun a r =>
    a.addSub (4 + r) (ageUnits x.tj (x.amps.getD r 0) (railNom.getD r 1)) (2 ^ 32)) a2
  a3.setLife 3 (max (tgetD a3.life 3 0) x.tj)

/-- LIFETIME_SAMPLE. -/
def execLifetimeSample (smp : LifeSample) (s : State) : Res :=
  .next (if !s.store.auxPresent || s.store.restarting then s
    else tripAbove { s with
      alm := { s.alm with tj := tjRaw smp.tj }
      store := { s.store with acc := s.store.acc.second s.store.mainPresent smp } } smp.tj)

/-- The newest record of the store (R470): slots are written in rotation, and no event damages one, so the CRC-32C of the
newest verifies (log entry 132). -/
def AlmStore.saved (x : AlmStore) : LifeAcc := ((tget x.records ((x.recSeq + 31) % 32)).map (·.2)).getD {}

/-- A commit writes the accumulation to the next record slot, and counts itself (R470). -/
def commitStore (s : State) : State :=
  let s1 := bumpLife s 24 1
  let x := s1.store
  { s1 with store := { x with records := tset x.records (x.recSeq % 32) (x.recSeq, x.acc), recSeq := x.recSeq + 1 } }

/-- STORE_COMMIT: an aux hour has begun since the last record. -/
def execStoreCommit (s : State) : Res :=
  .next (if s.store.auxPresent && tgetD s.store.saved.life 1 0 < lifeOf s 1 then commitStore s else s)

/-! ## Almanac restart (R451) -/

/-- The store is committed and the Almanac reboots; 0 is a request by ALM_CTL, 1 an activation. -/
def restartAlmanac (s : State) (cause : Nat) : State :=
  if s.store.restarting || !s.store.auxPresent then s
  else
    let s1 := commitStore s
    { s1 with store := { s1.store with restarting := true, restartCause := cause } }

/-- ALMANAC_RESTART. -/
def execAlmanacRestart (s : State) : Res := .next (memWrite s 0 (restartAlmanac s 0))

/-- The stops that waited for the end of a restart: those of the domains held down, and of RLDRAM where PF0 is in D3hot
(R451). -/
def stopHeld (s : State) : State :=
  let s1 := holdDomains.foldl (fun s d => if (domOf s d).held then setDom s d { domOf s d with running := false } else s) s
  if selfRefresh s 19 then stopRld s1 else s1

/-- ALMANAC_RESTART_COMPLETE: the waiting domain starts and stops and a wake instant reached are acted on. -/
def execAlmanacRestartComplete (s : State) : Res :=
  .next (if !s.store.restarting then s
    else
      let s1 : State := { s with store := { s.store with restarting := false, waitStarts := [] } }
      let s2 := s.store.waitStarts.foldl startDom (stopHeld s1)
      let s3 := if wakeDue s2 then fireWake s2 else s2
      resumeResets (almEvent s3 0x010B [.num 1 s.store.restartCause]))

/-! ## Auxiliary power (R442) -/

/-- AUX_POWER_LOSS: calendar, wake timer and what has accumulated since the last commit are lost. -/
def execAuxPowerLoss (s : State) : Res :=
  .next (if !s.store.auxPresent then s
    else
      let s1 := [1, 2].foldl (fun s d => setDom s d { domOf s d with running := false }) s
      { s1 with
        alm := { s1.alm with
          calSec := 0, calTicks := 0, calSub := 0, calSet := none, calValid := false, wakeAt := 0, auxMv := 0 }
        store := { s1.store with auxPresent := false, restarting := false, waitStarts := [], acc := s1.store.saved } })

/-- AUX_POWER_UP: the calendar starts at 0, not valid, and the newest record of the store is taken. -/
def execAuxPowerUp (s : State) : Res :=
  .next (if s.store.auxPresent then s
    else
      let s1 := [1, 2].foldl (fun s d => setDom s d { domOf s d with running := true }) s
      { s1 with
        alm := { s1.alm with calSec := 0, calTicks := 0, calSub := 0, calValid := false, wakeAt := 0, calLatch := 0 }
        store := { s1.store with auxPresent := true, acc := s1.store.saved } })

end Sys2Proof.Machine
end

