-- ==== Sys2Proof/Machine/Signature.lean ====
section
/-! DEFINITION. Signatures (R3): ECDSA (FIPS 186) on brainpoolP384r1 (RFC 5639) with SHA-384 digests of 48 bytes. A signature
is r and then s, each 48 bytes big-endian (R456, R475). -/

namespace Sys2Proof.Machine

/-! ## The curve -/

/-- The field prime. -/
def bpP : Nat := 0x8CB91E82A3386D280F5D6F7E50E641DF152F7109ED5456B412B1DA197FB71123ACD3A729901D1A71874700133107EC53
/-- The coefficient A. -/
def bpA : Nat := 0x7BC382C63D8C150C3C72080ACE05AFA0C2BEA28E4FB22787139165EFBA91F90F8AA5814A503AD4EB04A8C7DD22CE2826
/-- The coefficient B. -/
def bpB : Nat := 0x04A8C7DD22CE28268B39B55416F0447C2FB77DE107DCD2A62E880EA53EEB62D57CB4390295DBC9943AB78696FA504C11
/-- The first coordinate of the base point. -/
def bpX : Nat := 0x1D1C64F068CF45FFA2A63A81B7C13F6B8847A3E77EF14FE3DB7FCAFE0CBD10E8E826E03436D646AAEF87B2E247D4AF1E
/-- The second coordinate of the base point. -/
def bpY : Nat := 0x8ABE1D7520F9C2A45CB1EB8E95CFD55262B70B29FEEC5864E19C054FF99129280E4646217791811142820341263C5315
/-- The order of the base point. -/
def bpQ : Nat := 0x8CB91E82A3386D280F5D6F7E50E641DF152F7109ED5456B31F166E6CAC0425A7CF3AB6AF6B7FC3103B883202E9046565

/-- Subtraction modulo the field prime. -/
def bpSub (a b : Nat) : Nat := (a + (bpP - b % bpP)) % bpP

/-- A power modulo `m`, over the 384 bits of the exponent. -/
def powMod (m b e : Nat) : Nat :=
  (List.range 384).foldl (fun a i => if bitOf (383 - i) e then a * a % m * b % m else a * a % m) 1

/-- The inverse modulo a prime. -/
def invMod (m a : Nat) : Nat := powMod m a (m - 2)

/-- A point in Jacobian coordinates; the third is 0 for the point at infinity. -/
structure JPoint where
  x : Nat
  y : Nat
  z : Nat
  deriving DecidableEq, Repr

/-- The point at infinity. -/
def JPoint.zero : JPoint := ⟨1, 1, 0⟩

/-- Twice a point. -/
def JPoint.double (p : JPoint) : JPoint :=
  let yy := p.y * p.y % bpP
  let s := 4 * p.x * yy % bpP
  let m := (3 * p.x * p.x + bpA * powMod bpP p.z 4) % bpP
  let x := bpSub (m * m) (2 * s)
  ⟨x, bpSub (m * bpSub s x) (8 * yy * yy), 2 * p.y * p.z % bpP⟩

/-- The sum of two points. -/
def JPoint.add (p q : JPoint) : JPoint :=
  if p.z = 0 then q
  else if q.z = 0 then p
  else
    let pz := p.z * p.z % bpP
    let qz := q.z * q.z % bpP
    let u := p.x * qz % bpP
    let h := bpSub (q.x * pz) u
    let v := p.y * (qz * q.z % bpP) % bpP
    let r := bpSub (q.y * (pz * p.z % bpP)) v
    if h = 0 then (if r = 0 then p.double else JPoint.zero)
    else
      let hh := h * h % bpP
      let hhh := hh * h % bpP
      let x := bpSub (r * r) (hhh + 2 * u * hh)
      ⟨x, bpSub (r * bpSub (u * hh) x) (v * hhh), h * p.z % bpP * q.z % bpP⟩

/-- A multiple of a point. -/
def JPoint.mul (k : Nat) (p : JPoint) : JPoint :=
  (List.range 384).foldl (fun a i => if bitOf (383 - i) k then a.double.add p else a.double) JPoint.zero

/-- The first coordinate of a point that is not at infinity. -/
def JPoint.affineX (p : JPoint) : Nat := p.x * invMod bpP (p.z * p.z % bpP) % bpP

/-- The base point. -/
def bpBase : JPoint := ⟨bpX, bpY, 1⟩

/-- A point of the curve, by its coordinates. -/
def onCurve (x y : Nat) : Bool := x < bpP && y < bpP && y * y % bpP = (x * x % bpP * x + bpA * x + bpB) % bpP

/-! ## Signing and checking -/

/-- A public key as bytes: both coordinates, 48 bytes big-endian each (log entry 103). -/
def keyBytes (key : Nat × Nat) : List Nat := beBytes 48 key.1 ++ beBytes 48 key.2

/-- A signature of a digest verifies under a public key. -/
def ecdsaOk (key : Nat × Nat) (digest sig : List Nat) : Bool :=
  let r := beNat (sig.take 48)
  let t := beNat (sig.drop 48)
  sig.length = 96 && 1 ≤ r && r < bpQ && 1 ≤ t && t < bpQ && onCurve key.1 key.2 &&
    (let w := invMod bpQ t
     let p := (JPoint.mul (beNat digest * w % bpQ) bpBase).add (JPoint.mul (r * w % bpQ) ⟨key.1, key.2, 1⟩)
     p.z ≠ 0 && p.affineX % bpQ = r)

/-- The signature of a digest with a private key and a random number. -/
def ecdsaSign (priv k : Nat) (digest : List Nat) : List Nat :=
  let n := k % (bpQ - 1) + 1
  let r := (JPoint.mul n bpBase).affineX % bpQ
  beBytes 48 r ++ beBytes 48 (invMod bpQ n * (beNat digest + r * priv) % bpQ)

/-! ## The part's keys (R455, R474) -/

/-- The vendor key of an index has the hash that the ROM holds for it (check 4 of Table 17.4). -/
def vendorKeyOk (k : Nat) : Bool := sha384 (keyBytes (Sys2Proof.Config.vendorKey k)) = Sys2Proof.Config.vendorRomHash k

/-- A signature by a vendor key over a digest verifies (R475). -/
def vendorSigOk (k : Nat) (digest sig : List Nat) : Bool := ecdsaOk (Sys2Proof.Config.vendorKey k) digest sig

/-- The signature of a life-cycle authorisation verifies (R455, R456): the owner authority's key has the hash that the
fuses hold, the vendor authority's the hash in ROM. -/
def authoritySigOk (owner : Bool) (ownerHash digest sig : List Nat) : Bool :=
  let hash := if owner then ownerHash else Sys2Proof.Config.authorityRomHash
  let key := Sys2Proof.Config.authorityKey hash
  sha384 (keyBytes key) = hash && ecdsaOk key digest sig

end Sys2Proof.Machine
end

