-- ==== Sys2Proof/Machine/Steward.lean ====
section
/-! DEFINITION. The Steward's paths (R399 to R405): doorbells, arriving packets, the rotation, and the acceptance checks of
Table 14.5; the end of a background command (R407), the identity (R409) and the event log's consumer write (R414 to
R416). -/

namespace Sys2Proof.Machine

/-! ## Identity (R409, R422) -/

/-- DEV_ID (Table 14.16). -/
def devId : Nat := 0x1EA7 + 0x1640 * 2 ^ 16 + 0xB0 * 2 ^ 32

/-- READ_IDENTITY. -/
def execReadIdentity (m : Meta) (s : State) : Res :=
  .next (runCmd m 0x0101 [] false none (fun s => okWith s [.num 8 devId, .num 8 s.alm.unit]) s)

/-! ## Doorbells and consumer writes (R400, R414) -/

/-- A new producer position is legal (R96). -/
def admDoorbellOk (p c v : W32) (size : Nat) : Bool := (v - c).toNat ≤ size && (p - c).toNat ≤ (v - c).toNat

/-- A new consumer position is legal (R114). -/
def positionBack (p c v : W32) (size : Nat) : Bool := (p - v).toNat ≤ (p - c).toNat && (p - v).toNat ≤ size

/-- An illegal write of a Steward or log position: violation 0x05 of PF0, with the register as its target (Tables 11.6,
11.13). -/
def badPosition (s : State) (target v : Nat) : State := violate s 0 0x05 (v % 2 ^ 24 * 256) target

/-- ADMIN_DOORBELL. -/
def execAdminDoorbell (v : Nat) (s : State) : Res :=
  .next (memWrite s 0 (
    if admDoorbellOk s.stw.cmdProd s.stw.cmdCons (BitVec.ofNat 32 v) (2 ^ s.stw.admSizeLog2) then
      { s with stw := { s.stw with cmdProd := BitVec.ofNat 32 v } }
    else badPosition s 1 v))

/-- Admin packets accepted and not yet answered. -/
def admOpen (s : State) : Nat :=
  (s.stw.accepted.filter (fun a => a.path = .admin)).length +
    (s.stw.fore.filter (fun b => b.m.path = .admin)).length + (s.stw.bg.filter (fun b => b.m.path = .admin)).length +
    (s.twn.waits.filter (fun w => w.m.path = .admin)).length

/-- The reply ring has room for the reply of one more packet (R400). -/
def rplRoom (s : State) : Bool :=
  64 * (admOpen s + 1) + (s.stw.rplProd - s.stw.rplCons).toNat ≤ 2 ^ s.stw.admSizeLog2

/-- ADMIN_REPLY_CONSUMER_WRITE. -/
def execAdminReplyConsumerWrite (v : Nat) (s : State) : Res :=
  .next (memWrite s 0 (
    if positionBack s.stw.rplProd s.stw.rplCons (BitVec.ofNat 32 v) (2 ^ s.stw.admSizeLog2) then
      let s1 : State := { s with stw := { s.stw with rplCons := BitVec.ofNat 32 v } }
      { s1 with stw := { s1.stw with admHeld := s1.stw.admHeld && !rplRoom s1 } }
    else badPosition s 2 v))

/-- The consumer position advances, and the events lost before it are reported first (R416). -/
def logConsume (s : State) (v : W32) : State :=
  let s1 : State := { s with dev := { s.dev with logCons := v } }
  if v = s.dev.logCons || s.dev.lostPending = 0 then s1
  else appendEvent { s1 with dev := { s1.dev with lostPending := 0 } } 0x0080 0xFFF [.num 4 s.dev.lostPending]

/-- DEV_LOG_CONS_WRITE. -/
def execDevLogConsWrite (v : Nat) (s : State) : Res :=
  .next (memWrite s 0 (
    if positionBack s.dev.logProd s.dev.logCons (BitVec.ofNat 32 v) 4096 then logConsume s (BitVec.ofNat 32 v)
    else badPosition s 3 v))

/-! ## Mailboxes (R401, R339) -/

/-- A function has a mailbox that memory requests reach. -/
def mbxReach (s : State) (fid : Nat) : Bool := (fid = 1 || isVf fid) && memReach s fid

/-- Count a submission in its window of TIME (R339). -/
def mbxSubmit (s : State) (fid : Nat) : Nat × State :=
  let f := fnOf s fid
  let k := timeNow s / 1000000
  let n := (if f.mbx.window = k then f.mbx.count else 0) + 1
  (n, setFn s fid { f with mbx := { f.mbx with window := k, count := n } })

/-- A doorbell of a mailbox: ignored in the stocks, but for a flood in the cycle of the entry (R336), a violation beyond
mbx_per_ms, discarded in BUSY, else submitted with the command buffer as it stands (R401). -/
def mbxDoorbell (s : State) (fid : Nat) : State :=
  let (n, s1) := mbxSubmit s fid
  let f := fnOf s1 fid
  if isFrozen s fid then
    (if violNow s fid && f.mbxPerMs < n then violate s fid 0x08 n 0 else count s fid cFrozenRefused)
  else
    if f.mbxPerMs < n then violate s1 fid 0x08 n 0
    else if f.mbx.st = 1 then
      count (setFn s1 fid { f with mbx := { f.mbx with busyRefused := f.mbx.busyRefused + 1 } }) fid cMbxBusy
    else setFn s1 fid { f with mbx := { f.mbx with st := 1, taken := f.mbx.cmd } }

/-- MAILBOX_DOORBELL: `go` is what is written to STW_MBX_DB. -/
def execMailboxDoorbell (fid go : Nat) (s : State) : Res :=
  .next (if mbxReach s fid && go % 2 = 1 then mbxDoorbell s fid else s)

/-! ## Packets over MCTP and the service port (R402) -/

/-- A session of R482 is open on a path. -/
def sessionOpen (s : State) (path : Path) : Bool :=
  match path with
  | .svc => s.fw.sessions.contains .svc
  | .mctp => s.fw.sessions.contains .mctp
  | _ => false

/-- SECURED_PACKET_RECEIVED: a packet outside a session, or not in a secured message, is discarded and counted; what is no
vendor-defined message of the maker, or comes on another UDP port, is no command packet and changes nothing (R402; log entry
139). A service lane fault holds the service port down (Table 18.9). -/
def execSecuredPacketReceived (path : Path) (carrier : Carrier) (bytes : List Nat) (s : State) : Res :=
  .next (match path with
    | .svc =>
      if (macLane s 10).fault ≠ 0 || carrier.port ≠ s.stw.udpPort then s
      else if carrier.inSession && sessionOpen s .svc then
        { s with stw := { s.stw with svcQueue := s.stw.svcQueue ++ [bytes] } }
      else countDev s cSvcUnauth
    | .mctp =>
      if !carrier.inSession || carrier.outer ≠ 0x06 || !sessionOpen s .mctp then countDev s cSvcUnauth
      else if carrier.inner = 0x7E && carrier.vendor = 0x1EA7 then
        { s with stw := { s.stw with mctpQueue := s.stw.mctpQueue ++ [bytes] } }
      else s
    | _ => s)

/-! ## The rotation (R405) -/

/-- The submitted packet of a mailbox has not been accepted yet. -/
def mbxWaits (s : State) (fid : Nat) : Bool :=
  (fnOf s fid).mbx.st = 1 && !s.stw.accepted.any (fun a => a.path = .mailbox && a.fid = fid) &&
    !s.stw.fore.any (fun b => b.m.path = .mailbox && b.m.fid = fid) &&
    !s.stw.bg.any (fun b => b.m.path = .mailbox && b.m.fid = fid) &&
    !s.twn.waits.any (fun w => w.m.path = .mailbox && w.m.fid = fid)

/-- The virtual functions with a packet ready. -/
def vfsReady (s : State) : List Nat := (s.fns.map (·.1)).filter (fun fid => isVf fid && mbxWaits s fid)

/-- The VF mailbox served at the next visit: the first after the VF served last. -/
def nextVf (s : State) : Option Nat :=
  let l := vfsReady s
  match l.find? (fun fid => s.stw.vfPointer < fid) with
  | some f => some f
  | none => l.head?

/-- The admin ring holds a packet that the Steward may fetch. -/
def admPacket (s : State) : Bool :=
  s.stw.admEnable && s.stw.cmdProd ≠ s.stw.cmdCons && mayIssue s 0xFFF

/-- A position of the rotation has a packet ready: 0 admin ring, 1 service port, 2 MCTP, 3 twin, 4 PF1, 5 the VFs. -/
def posReady (s : State) (k : Nat) : Bool :=
  match k with
  | 0 => admPacket s && rplRoom s
  | 1 => !s.stw.svcQueue.isEmpty
  | 2 => !s.stw.mctpQueue.isEmpty
  | 3 => (s.twn.rxq.head?.map TwinWork.isCommand).getD false
  | 4 => mbxWaits s 1
  | 5 => !(vfsReady s).isEmpty
  | _ => false

/-- The position that the Steward visits next. -/
def nextPos (s : State) : Option Nat :=
  ((List.range 6).map (fun i => (s.stw.rotation + i) % 6)).find? (posReady s)

/-- The position of a path. -/
def posOf (path : Path) (fid : Nat) : Nat :=
  match path with
  | .admin => 0
  | .svc => 1
  | .mctp => 2
  | .twin => 3
  | .mailbox => if fid = 1 then 4 else 5

/-! ## Acceptance (R404, R421) -/

/-- The native opcode of an old one (Table 14.14). -/
def nativeOf : Nat → Option Nat
  | 0x01 => some 0x0101
  | 0x02 => some 0x0904
  | 0x10 => some 0x0301
  | 0x11 => some 0x0302
  | 0x12 => some 0x0303
  | 0x13 => some 0x0304
  | 0x14 => some 0x0305
  | 0x15 => some 0x0306
  | 0x20 => some 0x0201
  | 0x21 => some 0x0205
  | 0x30 => some 0x0B01
  | _ => none

/-- What a packet's header says (Table 14.1, R421); `clean` when its reserved bits are zero. -/
structure Packet where
  compat : Option Nat
  op : Nat
  tag : Nat
  fid : Nat
  notify : Bool
  version : Nat
  hlen : Nat
  len : Nat
  parity : Bool
  clean : Bool
  params : List Nat
  deriving DecidableEq, Repr

/-- The bytes of a range are zero. -/
def zeroBytes (bs : List Nat) (lo hi : Nat) : Bool := (slice bs lo (hi + 1 - lo)).all (fun b => b = 0)

/-- Read a packet's header. -/
def readPacket (s : State) (bs : List Nat) : Packet :=
  let old := s.dev.compatEnable && bs.getD 11 0 = 1
  let n := if old then 32 else 64
  let len := leNat (slice bs 2 2)
  let fid := leNat (slice bs 8 2)
  { compat := if old then some (bs.getD 0 0) else none
    op := if old then (nativeOf (bs.getD 0 0)).getD 0 else leNat (slice bs 0 2)
    tag := leNat (slice bs 4 4), fid := fid % 4096, notify := !old && bs.getD 10 0 % 2 = 1, version := bs.getD 11 0
    hlen := n, len := len, parity := xorBytes (slice bs 0 (n + len)) = 0
    clean := decide (fid < 4096) &&
      (if old then bs.getD 1 0 = 0 && bs.getD 10 0 = 0 && zeroBytes bs 12 30
        else decide (bs.getD 10 0 < 2) && zeroBytes bs 12 62)
    params := slice bs n len }

/-- The largest packet of a path (Table 14.3). -/
def pathLimit (m : Meta) : Nat := if m.path = .mailbox && m.fid ≠ 1 then 2048 else 4096

/-- A packet that a check refuses is answered in its own form. -/
def refusePacket (s : State) (m : Meta) (k : Packet) (check item : Nat) (st : Status) (counter : Nat) : State :=
  denyCheck s m k.op ⟨timeNow s, k.params, k.compat⟩ check item st counter

/-- An old opcode absent from Table 14.14. -/
def refuseOld (s : State) (m : Meta) (k : Packet) (old : Nat) : State :=
  sendReply (count s (pathSet m) cCompatUnsupported) m 0 .badOpcode (compatReply old k.tag .badOpcode 0x02 [])

/-- Check 8 as far as the parameter bytes alone show it. -/
def check8 (k : Packet) (ps : List Par) : Option Nat := if k.clean then blockFault ps k.params else some 0xFFFF

/-- A packet whose bytes the Steward holds goes through Table 14.5, and waits for its execution when it passes; what the
parameters' own ranges and the background limit decide, its command decides (log entry 90). `short` says that its
length runs past P or the ring's end (R400), `bad` that its bytes were poisoned (R420). -/
def acceptBytes (s : State) (path : Path) (fid : Nat) (bs : List Nat) (short bad : Bool) : State :=
  let k := readPacket s bs
  let m : Meta := ⟨path, fid, if path = .twin then twinSeq s else k.tag, k.notify && path = .admin⟩
  if short then refusePacket s m k 3 0xFFFF .badLength cStwBadPacket
  else if bad || !k.parity then refusePacket s m k 1 0xFFFF .failedParity cStwBadPacket
  else if k.version ≠ 2 && k.compat.isNone then refusePacket s m k 2 0xFFFF .badOpcode cStwBadPacket
  else if pathLimit m < k.hlen + k.len || bs.length < k.hlen + k.len then
    refusePacket s m k 3 0xFFFF .badLength cStwBadPacket
  else if k.fid ≠ fid then refusePacket s m k 4 0xFFFF .refusedPermission cStwDenied
  else
    match k.compat.filter (fun old => (nativeOf old).isNone), paramsOf k.op with
    | some old, _ => refuseOld s m k old
    | none, none => refusePacket s m k 5 0xFFFF .badOpcode cStwBadPacket
    | none, some ps =>
      if !opcodeOpen s m k.op then refusePacket s m k 6 0xFFFF .refusedPermission cStwDenied
      else if !sizeFits ps k.params then refusePacket s m k 7 0xFFFF .badLength cStwBadPacket
      else
        match check8 k ps with
        | some i => refusePacket s m k 8 i .badParam cStwBadPacket
        | none =>
          { s with stw := { s.stw with accepted := s.stw.accepted ++ [{
              path := path, fid := fid, opcode := k.op, tag := m.tag, notify := m.notify, params := k.params
              ns := timeNow s, cal := calNs s, compat := k.compat }] } }

/-! ## Visits -/

/-- The Steward goes on to the position after one that it served. -/
def rotate (s : State) (k : Nat) : State := { s with stw := { s.stw with rotation := (k + 1) % 6 } }

/-- Consume units of the command ring. -/
def takeUnits (s : State) (n : Nat) : State :=
  { s with stw := { s.stw with cmdCons := s.stw.cmdCons + BitVec.ofNat 32 n, admHeld := false } }

/-- Fetch one packet of the command ring: `bs` are the bytes that host memory holds from the ring's consumer position on
(R400). A PAD is consumed without a reply; a read that times out consumes nothing. -/
def visitAdmin (s : State) (bs : List Nat) (rd : ReadResult) : State :=
  let size := 2 ^ s.stw.admSizeLog2
  let idx := s.stw.cmdCons.toNat % size
  let room := min (s.stw.cmdProd - s.stw.cmdCons).toNat (size - idx)
  let k := readPacket s bs
  let units := (k.hlen + k.len + 63) / 64
  match imageRead s (s.stw.cmdBase + 64 * idx) (64 * min units room) rd with
  | (some .failedTimeout, s1) => rotate s1 0
  | (st, s1) =>
    let s2 := rotate (takeUnits s1 (min units room)) 0
    if leNat (slice bs 0 2) = 0 && k.compat.isNone then s2
    else acceptBytes s2 .admin 0 (bs.take (64 * min units room)) (decide (room < units)) st.isSome

/-- The packet at the head of a message path; `bad` says that the Steward's memory has lost it (R420). -/
def visitQueue (s : State) (path : Path) (bad : Bool) : State :=
  if path = .svc then
    let s1 := rotate { s with stw := { s.stw with svcQueue := s.stw.svcQueue.tail } } 1
    acceptBytes s1 .svc 0 (s.stw.svcQueue.headD []) false bad
  else
    let s1 := rotate { s with stw := { s.stw with mctpQueue := s.stw.mctpQueue.tail } } 2
    acceptBytes s1 .mctp 0 (s.stw.mctpQueue.headD []) false bad

/-- The packet at the head of the twin path, which is executed as from the standby's own manager (R384); what waited behind it
follows. -/
def visitTwin (s : State) (bad : Bool) : State :=
  match s.twn.rxq with
  | .command bs :: t =>
    let s1 := acceptBytes (rotate { s with twn := { s.twn with rxq := t } } 3) .twin 0 bs false bad
    drainTwin (match s1.stw.accepted with
      | [a] => runMirrored ⟨.twin, 0, a.tag, false⟩ a.opcode a.params s1
      | _ => s1)
  | _ => s

/-- The packet in a mailbox's command buffer as it stood at the doorbell (R401). -/
def visitMailbox (s : State) (fid : Nat) (bad : Bool) : State :=
  let f := fnOf s fid
  let n := if fid = 1 then 4096 else 2048
  let bs := (List.range n).map (fun i => tgetD f.mbx.taken i 0)
  let s1 := rotate s (posOf .mailbox fid)
  let s2 : State := if fid = 1 then s1 else { s1 with stw := { s1.stw with vfPointer := fid } }
  acceptBytes (setFn s2 fid { f with mbx := { f.mbx with lastOpcode := leNat (bs.take 2) } }) .mailbox fid bs false bad

/-- The admin ring has a packet and no reply space: the wait is counted once (R400). -/
def holdAdmin (s : State) : State :=
  if admPacket s && !rplRoom s && !s.stw.admHeld then
    count { s with stw := { s.stw with admHeld := true } } 0 cAdminReplyHold
  else s

/-- The Steward has a packet in hand: one accepted and not executed, or one that has acted and not replied (R405). -/
def stewardBusy (s : State) : Bool := !s.stw.accepted.isEmpty || !s.stw.fore.isEmpty

/-- ACCEPT_PACKET: a visit to a path, in the rotation's order and once the packet accepted before has been executed. `bytes`
are those of the admin command ring; the other paths hold theirs, in the Steward's own memory, where `rd` poisoned stands for an
uncorrectable error (R420). A twin packet is executed in the same visit. -/
def execAcceptPacket (path : Path) (fid : Nat) (bytes : List Nat) (rd : ReadResult) (s : State) : Res :=
  .next (
    let s0 := holdAdmin s
    let bad := decide (rd = .poisoned)
    if !s.stw.ready || stewardBusy s then s
    else if nextPos s ≠ some (posOf path fid) then s0
    else
      match path with
      | .admin => visitAdmin s bytes rd
      | .mailbox => if fid = 1 || nextVf s = some fid then visitMailbox s0 fid bad else s0
      | .twin => visitTwin s0 bad
      | p => visitQueue s0 p bad)

/-! ## Background commands (R407) -/

/-- What else the end of a background command does: a created table is ready (R154). -/
def finishBg (s : State) (b : BgCmd) : State :=
  match b.opcode, b.objs with
  | 0x0501, .table n :: _ =>
    { s with fwt := { s.fwt with tables := tmap s.fwt.tables (fun k t => if k = n then { t with ready := true } else t) } }
  | _, _ => s

/-- BACKGROUND_COMMAND_END: the command in a slot ends once its end is known. -/
def execBackgroundCommandEnd (slot : Nat) (s : State) : Res :=
  .next (match s.stw.bg[slot]? with
    | none => s
    | some b =>
      match b.fin with
      | some e => if b.deadline ≤ s.now then endBg (finishBg s b) b e false else s
      | none => s)

end Sys2Proof.Machine
end

