-- ==== Sys2Proof/Machine/Firmware.lean ====
section
/-! DEFINITION. Firmware (chapter 17): the checks of an image (R475, R477), staging (R479, R481, R483), re-wrapping (R476),
activation (R485, R486), and the update from a ZCH-0820 image (R487 to R489). -/

namespace Sys2Proof.Machine

/-! ## Images and their checks (Tables 17.1, 17.3, 17.4) -/

/-- The largest plaintext of a code (Table 17.1). -/
def plainLimit (c : Nat) : Nat :=
  match c with
  | 1 => 4194304 | 2 => 2097152 | 3 => 262144 | 4 => 1048576 | 5 => 131072 | 6 => 262144 | 7 => 524288
  | 8 => 4096 | 9 => 4096
  | _ => 0

/-- The size of a component's slot in a set area (R480). -/
def slotSize (c : Nat) : Nat := plainLimit c + 256

/-- The little-endian field of `n` bytes at a byte of an image. -/
def imgField (bs : List Nat) (lo n : Nat) : Nat := leNat (slice bs lo n)

/-- Check 3: the header, against the code and format expected and the length parameter; a binding above 1 has no meaning, and
a ZCH-0820 image has binding 0 (R487; log entry 99). -/
def headerOk (c fmt len : Nat) (bs : List Nat) : Bool :=
  let pl := imgField bs 16 4
  decide (bs.length = len) && imgField bs 0 4 = 0x16400017 && bs.getD 4 0 = fmt && bs.getD 5 0 = c && bs.getD 7 0 = 0 &&
    decide (1 ≤ pl) && decide (pl ≤ plainLimit c) && zeroBytes bs 20 31 && zeroBytes bs 33 39 && zeroBytes bs 116 127 &&
    decide (bs.getD 32 0 ≤ if fmt = 1 then 0 else 1) && len = 128 + pl + 96

/-- Check 4: the vendor key. -/
def keyOk (s : State) (k : Nat) : Bool := decide (k < 4) && vendorKeyOk k && !bitOf k s.fw.revoked

/-- The key that wraps an image's content key (R475). -/
def imgKey (binding : Nat) : List Nat := if binding = 1 then Sys2Proof.Config.unitKey else Sys2Proof.Config.hardwareKey

/-- The floor of a code (R477). -/
def floorOf (s : State) (c : Nat) : Nat := tgetD s.fw.floors c 0

/-- Raise a floor; it never falls (R477). -/
def raiseFloor (s : State) (c v : Nat) : State :=
  { s with fw := { s.fw with floors := tput 0 s.fw.floors c (max (floorOf s c) v) } }

/-- Checks 7 to 9, with the content key: the image and its plaintext, or the order of the check that fails. -/
def openImage (s : State) (c : Nat) (bs cek : List Nat) : Except Nat (Image × List Nat) :=
  let pl := imgField bs 16 4
  let ks := aesKeys cek
  let aad := bs.take 32
  let ct := slice bs 128 pl
  let plain := gcmCtr ks (slice bs 88 12) ct
  let sig := slice bs (128 + pl) 96
  if gcmTag ks (slice bs 88 12) aad ct ≠ slice bs 100 16 then .error 7
  else if !vendorSigOk (bs.getD 6 0) (sha384 (aad ++ plain)) sig then .error 8
  else if imgField bs 12 4 < floorOf s c then .error 9
  else .ok ({ version := imgField bs 8 4, secVersion := imgField bs 12 4, plainLen := pl, digest := sha384 plain
              binding := bs.getD 32 0, bytes := bs }, plain)

/-- Checks 3 to 9 of Table 17.4 in order. -/
def checkImage (s : State) (c fmt len : Nat) (bs : List Nat) : Except Nat (Image × List Nat) :=
  if !headerOk c fmt len bs then .error 3
  else if !keyOk s (bs.getD 6 0) then .error 4
  else if bs.getD 32 0 = 1 && imgField bs 40 8 ≠ s.alm.unit then .error 5
  else
    match kwUnwrap (imgKey (bs.getD 32 0)) (slice bs 48 40) with
    | none => .error 6
    | some cek => openImage s c bs cek

/-- The status of a check that fails (Table 17.4). -/
def checkStatus (order : Nat) : Status :=
  match order with
  | 1 => .failedParity | 2 => .failedTimeout | 3 => .badParam
  | _ => .failedAuth

/-- The check that a failed source read stands for (Table 17.4). -/
def readOrder (st : Status) : Nat := if st = .failedParity then 1 else 2

/-! ## The staging area (R480, R481, R483) -/

/-- Sectors of the flash are erased; no rule says how many (log entry 100). -/
def flashErase (s : State) : State :=
  let (d, s1) := draw4 s
  bumpLife (bumpLife s1 20 ((Sys2Proof.Config.freeWord d).toNat % 16385)) 21
    ((Sys2Proof.Config.freeWord (d + 1)).toNat % 16385)

/-- The bytes that a slot of the staging area holds. -/
def slotBytes (s : State) (c : Nat) : List Nat :=
  match tget s.fw.partials c with
  | some bs => bs
  | none => ((tget s.fw.staged c).map (·.bytes)).getD []

/-- The first `n` bytes of a slot; those that nothing has written are free values, drawn from `d` on. -/
def slotRead (s : State) (c n d : Nat) : List Nat :=
  let bs := slotBytes s c
  (bs ++ (List.range (n - bs.length)).map (fun i => (Sys2Proof.Config.freeWord (d + i)).toNat % 256)).take n

/-- The slot is marked empty. -/
def emptySlot (s : State) (c : Nat) : State :=
  { s with fw := { s.fw with partials := tdel s.fw.partials c, staged := tdel s.fw.staged c } }

/-- A slot holds a verified image. -/
def putStaged (s : State) (c : Nat) (i : Image) : State :=
  let s1 := emptySlot s c
  { s1 with fw := { s1.fw with staged := tset s1.fw.staged c i } }

/-- An image is refused: event 0x0201 with the check's order, and the slot is empty (R477, R481). -/
def refuseImage (s : State) (c order : Nat) : State :=
  logEvent (emptySlot s c) 0x0201 0xFFF [.num 2 c, .num 1 order]

/-- The image that a staging command reads: by channel 15 from host memory into the slot, or the slot as the service port left
it. -/
def sourceRead (s : State) (c source addr len : Nat) (img : List Nat) (rd : ReadResult) :
    Option Status × List Nat × State :=
  if source = 0 then
    let (st, s1) := imageRead (flashErase s) addr len rd
    (st, img.take len, stewardRun s1 ((stewardUnit s).getD 0) (st.getD .done))
  else
    let lack := len - (slotBytes s c).length
    let bs := slotRead s c len s.draws
    let s1 : State := { s with draws := s.draws + lack }
    (match rd with
      | .poisoned => (some .failedParity, bs, s1)
      | .timeout | .error => (some .failedTimeout, bs, s1)
      | .ok => (none, bs, s1))

/-- Read and verify an image: its staged record and plaintext, or the order of the check that fails; and the state after
the read. -/
def fetchImage (s : State) (c fmt source addr len : Nat) (img : List Nat) (rd : ReadResult) :
    Except Nat (Image × List Nat) × State :=
  match sourceRead s c source addr len img rd with
  | (some st, _, s1) => (.error (readOrder st), s1)
  | (none, bs, s1) => (checkImage s1 c fmt len bs, s1)

/-- An image is being staged, or an activation runs (R481, R483). -/
def stagingBusy (s : State) : Bool := s.stw.bg.any (fun b => [0x0901, 0x0903, 0x0910].contains b.opcode)

/-- Nothing that stands before its own rules holds a background command back or refuses it (R382, R404, R407, R450, R457). -/
def imageCmdRuns (s : State) (m : Meta) (op : Nat) : Bool :=
  !cmdWaits s m op && issuerOk m && opcodeOpen s m op && !s.stw.lcChange && decide (s.stw.bg.length < 16) &&
    !commonRefusal s m op false

/-- A command whose image channel 15 has to read from the host waits for a unit (R275). -/
def stageWaits (s : State) (m : Meta) (op source : Nat) (bad : Option Nat) : Bool :=
  source = 0 && bad.isNone && imageCmdRuns s m op && !stagingBusy s &&
    ((chanOf s 15).st = .idle || (chanOf s 15).st = .ready) && (stewardUnit s).isNone

/-- Channel 15 is in HALTED_ERROR, which only its reset command ends (Table 9.5). -/
def stewardHalted (s : State) (source : Nat) : Bool := source = 0 && (chanOf s 15).st = .haltedError

/-- What the parameters of STAGE_COMPONENT_IMAGE may be. -/
def stageBad (comp source addr len : Nat) : Option Nat :=
  firstBad [(0, 1 ≤ comp && comp ≤ 6), (1, source ≤ 1), (2, addr < 2 ^ 64), (3, 1 ≤ len && len < 2 ^ 32)]

/-- STAGE_COMPONENT_IMAGE (0x0901); one that comes while another or an activation runs is refused (R481). -/
def execStageComponentImage (m : Meta) (comp source addr len : Nat) (img : List Nat) (rd : ReadResult) (s : State) : Res :=
  .next (if stageWaits s m 0x0901 source (stageBad comp source addr len) then askSteward s
  else runCmd m 0x0901 [.component comp] false (stageBad comp source addr len)
    (fun s =>
      if stagingBusy s then no s .refusedBusy
      else if stewardHalted s source then no s .refusedState
      else
        match fetchImage s comp 2 source addr len img rd with
        | (.error k, s1) => no (refuseImage s1 comp k) (checkStatus k)
        | (.ok (i, _), s1) =>
          let s2 := logEvent (putStaged s1 comp i) 0x0200 0xFFF [.num 2 comp, .num 4 i.version]
          bgUntil s2 s2.now { status := .done }) s)

/-- The entries of a manifest's bytes (Table 17.5). -/
def manEntries (bs : List Nat) : List ManEntry :=
  (List.range 7).map (fun i =>
    let e := slice bs (64 + 64 * i) 64
    { comp := e.getD 0 0, version := imgField e 4 4, secVersion := imgField e 8 4, plainLen := imgField e 12 4
      digest := slice e 16 48 })

/-- Check 3 for a manifest (R478, R479). -/
def manifestOk (bs : List Nat) : Bool :=
  decide (bs.length = 608) && imgField bs 0 4 = 0x1640004D && bs.getD 4 0 = 2 && bs.getD 5 0 = 7 && bs.getD 7 0 = 0 &&
    imgField bs 12 2 = 0x1640 && decide (bs.getD 14 0 ≤ 0xB0) && zeroBytes bs 15 63 &&
    (List.range 7).all (fun i =>
      let o := 64 + 64 * i
      bs.getD o 0 = i + 1 && zeroBytes bs (o + 1) (o + 3) && decide (1 ≤ imgField bs (o + 12) 4) &&
        decide (imgField bs (o + 12) 4 ≤ plainLimit (i + 1)))

/-- STAGE_MANIFEST (0x0902). -/
def execStageManifest (m : Meta) (addr len : Nat) (man : List Nat) (rd : ReadResult) (s : State) : Res :=
  .next (runCmd m 0x0902 [.staging] false (firstBad [(0, addr < 2 ^ 64), (1, len = 608)])
    (fun s =>
      match imageRead s addr len rd with
      | (some st, s1) => no s1 st
      | (none, s1) =>
        let bs := man.take len
        let body := bs.take 512
        if !manifestOk bs then no s1 .badParam
        else if !keyOk s1 (bs.getD 6 0) then no s1 .failedAuth
        else if !vendorSigOk (bs.getD 6 0) (sha384 body) (slice bs 512 96) then no s1 .failedAuth
        else
          let x : Manifest := { setVersion := imgField bs 8 4, entries := manEntries bs, digest := sha384 bs }
          ok (logEvent { s1 with fw := { s1.fw with manifest := some x } } 0x0202 0xFFF [.num 4 x.setVersion])) s)

/-- A chunk of an image lands in its slot; a gap before it holds what the flash held (log entry 100). -/
def putSlot (s : State) (c off : Nat) (bytes : List Nat) : State :=
  let old := slotBytes s c
  let lack := off - old.length
  let before := slotRead s c off s.draws
  let new := before ++ bytes ++ old.drop (off + bytes.length)
  { s with
    draws := s.draws + lack
    fw := { s.fw with partials := tset s.fw.partials c new, staged := tdel s.fw.staged c } }

/-- The status of a PUT_IMAGE message (R483). -/
def putImageStatus (s : State) (c off : Nat) (bytes : List Nat) : Status :=
  if stagingBusy s then .refusedBusy
  else if c < 1 || 6 < c || bytes.length < 1 || 1024 < bytes.length || slotSize c < off + bytes.length then .badParam
  else .done

/-- PUT_IMAGE: within a session on the service port. -/
def execPutImage (path : SpdmPath) (comp off : Nat) (bytes : List Nat) (s : State) : Res :=
  .next (if path ≠ .svc || !s.stw.ready || !s.fw.sessions.contains .svc || (macLane s 10).fault ≠ 0 then s
    else
      let st := putImageStatus s comp off bytes
      emit (if st = .done then putSlot s comp off bytes else s) (.spdm .svc [st.code]))

/-- A staged copy with a new header: its content key wrapped under the unit key (R476). -/
def rewrapped (s : State) (i : Image) (cek : List Nat) : Image :=
  let b := i.bytes
  { i with
    binding := 1
    bytes := b.take 32 ++ [1] ++ slice b 33 7 ++ leBytes 8 s.alm.unit ++ kwWrap Sys2Proof.Config.unitKey cek ++
      b.drop 88 }

/-- REWRAP_TO_UNIT (0x0905). -/
def execRewrapToUnit (m : Meta) (comp : Nat) (s : State) : Res :=
  .next (runCmd m 0x0905 [.component comp] false (firstBad [(0, 1 ≤ comp && comp ≤ 9)])
    (fun s =>
      match tget s.fw.staged comp with
      | none => no s .refusedState
      | some i =>
        if i.binding = 1 then no s .refusedState
        else
          match kwUnwrap Sys2Proof.Config.hardwareKey (slice i.bytes 48 40) with
          | none => no s .failedAuth
          | some cek => ok { s with fw := { s.fw with staged := tset s.fw.staged comp (rewrapped s i cek) } }) s)

/-! ## What is running (Table 17.13) -/

/-- The running image of a component. -/
def runningOf (s : State) (c : Nat) : Image := tgetD s.fw.running c {}

/-- The staged version that STW_FW_VER_c shows: that of a staged image, of the Almanac image in the chain slot, or of a
component 4 or 6 that a reset is awaited for (R486, log entry 101); 0 for none. -/
def stagedVersion (s : State) (c : Nat) : Nat :=
  let of := fun (i : Option Image) => (i.map (·.version)).getD 0
  if c = 7 then of s.fw.chainSlot
  else
    match tget s.fw.staged c with
    | some i => i.version
    | none => of (tget s.fw.committed c)

/-- STW_FW_VER_c. -/
def fwVer (s : State) (c : Nat) : Nat := (runningOf s c).version + stagedVersion s c * 2 ^ 32

/-- STW_CHAIN. -/
def chainWord (s : State) : Nat :=
  let f := s.fw
  f.chainSt + b2n f.polarityFixed * 2 ^ 3 + b2n f.swapFixed * 2 ^ 4 + f.chainFault * 2 ^ 5 + f.chainPair * 2 ^ 8 +
    b2n f.chainSeen * 2 ^ 9 + f.chainConfirmed.toNat * 2 ^ 32

/-- READ_VERSIONS (0x0904). -/
def execReadVersions (m : Meta) (s : State) : Res :=
  .next (runCmd m 0x0904 [] false none
    (fun s => okWith s ((List.range 9).map (fun i => .num 8 (fwVer s (i + 1))))) s)

/-- READ_CHAIN_STATUS (0x0906). -/
def execReadChainStatus (m : Meta) (s : State) : Res :=
  .next (runCmd m 0x0906 [] false none (fun s => okWith s [.num 8 (chainWord s)]) s)

/-! ## Activation (R485, R486) -/

/-- The image that an entry of a manifest names, and whether it is running already: a staged image, for component 7 the one
in the chain slot, or the running one. -/
def entryImage (s : State) (e : ManEntry) : Option (Bool × Image) :=
  let held := if e.comp = 7 then s.fw.chainSlot else tget s.fw.staged e.comp
  if (runningOf s e.comp).digest = e.digest then some (true, runningOf s e.comp)
  else
    match held with
    | some i => if i.digest = e.digest then some (false, i) else none
    | none => none

/-- The bank that an activation fills. -/
def idleBank (s : State) : Nat :=
  match currentBank s with
  | some c => 1 - c
  | none => 0

/-- What every activation needs beside its images (R485). -/
def mayActivate (s : State) : Bool :=
  (bankOf s (idleBank s)).st = .idle && s.stw.bg.isEmpty && !s.stw.lcChange && s.fw.activation = 0

/-- The images that a manifest brings into service, where R485 admits it. -/
def freshImages (s : State) (x : Manifest) : Option (List (Nat × Image)) :=
  if !mayActivate s || x.entries.any (fun e => e.secVersion < floorOf s e.comp || (entryImage s e).isNone) then none
  else
    some (x.entries.filterMap (fun e =>
      match entryImage s e with
      | some (false, i) => some (e.comp, i)
      | _ => none))

/-- The plaintext of a component 2 among the new images. -/
def freshLibrary (s : State) (fmt : Nat) (fresh : List (Nat × Image)) : Option (Option TableSet) :=
  match tget fresh 2 with
  | none => none
  | some i =>
    match checkImage s 2 fmt i.bytes.length i.bytes with
    | .ok (_, plain) => some (Sys2Proof.Config.libraryOf plain)
    | .error _ => some none

/-- Phase 3: the new library, or a copy of the CURRENT bank, sealed in the idle bank. Where it does not seal, the bank is
discarded and shows the seal's failing index (R59, R76, Table 17.8). -/
def shadowBank (s : State) (lib : Option (Option TableSet)) : Bool × State :=
  let b := idleBank s
  let sealIt := fun (s : State) =>
    match sealBank s b with
    | (none, s1) => (true, s1)
    | (some _, s1) => (false, (discard s1 b).2)
  match lib, currentBank s with
  | some (some img), _ => if imageOk img then sealIt (putImage s b img .verifying) else (false, s)
  | some none, _ => (false, s)
  | none, some c =>
    sealIt (setBank s b { bankOf s c with
      st := .verifying, ecc := [], drainFrom := 0
      sealStatus := (bankOf s b).sealStatus, failIndex := (bankOf s b).failIndex })
  | none, none => (false, s)

/-- An activation fails in a phase: event 0x0205, with the idle bank and the shadow stores discarded. -/
def failActivation (s : State) (phase : Nat) (st : Status) : State :=
  logEvent { s with fw := { s.fw with activation := 0, actComp := 0, actFresh := [] } } 0x0205 0xFFF
    [.num 1 phase, .num 1 st.code]

/-- Steward working state is lost at a restart: open sessions, a package being received, and a chain driver that a short
has turned off is on again (R450, Table 17.11). -/
def loseWorking (s : State) : State :=
  { s with fw := { s.fw with
      sessions := [], rx := none, rxBytes := [], refusals := [], chainDown := tfilter s.fw.chainDown (fun _ c => c ≠ 3) } }

/-- Phase 1: the first new image that no longer verifies, with the order of the check (R477). -/
def staleImage (s : State) (fmt : Nat) : List (Nat × Image) → Option (Nat × Nat)
  | [] => none
  | (c, i) :: t =>
    match checkImage s c fmt i.bytes.length i.bytes with
    | .ok _ => staleImage s fmt t
    | .error k => some (c, k)

/-- A new image that fails phase 1 is refused, and nothing of it is kept. -/
def dropImage (s : State) (c order : Nat) : State :=
  refuseImage (if c = 7 then { s with fw := { s.fw with chainSlot := none } } else s) c order

/-- Phases 1 to 4 up to the trial Steward (R486): the command goes on in the background, or fails with its status. `label`
is what event 0x0203 names. -/
def beginActivation (s : State) (comp fmt label : Nat) (fresh : List (Nat × Image)) : CmdOut :=
  let s1 := logEvent s 0x0203 0xFFF [.num 4 label]
  match staleImage s fmt fresh with
  | some (c, k) => no (failActivation (dropImage s1 c k) 1 .failedAuth) .failedAuth
  | none =>
    match shadowBank s1 (freshLibrary s fmt fresh) with
    | (false, s2) => no (failActivation s2 3 .refusedState) .refusedState
    | (true, s2) =>
      let s3 : State := { s2 with
        stw := { s2.stw with ready := false }
        fw := { s2.fw with
          activation := 4, actComp := comp, actStart := s2.now, actDeadline := s2.now + 200000000
          actFresh := fresh.map (·.1) } }
      bgOpen (loseWorking s3) s3.fw.actDeadline

/-- The objects that an activation holds (R485): the staging area is that of every component. -/
def actObjs : List Obj := [.bank 0, .bank 1, .staging, .chainSlots] ++ (List.range 9).map (fun i => .component (i + 1))

/-- ACTIVATE (0x0903). -/
def execActivate (m : Meta) (s : State) : Res :=
  .next (runCmd m 0x0903 actObjs false none
    (fun s =>
      match s.fw.manifest with
      | none => no s .refusedState
      | some x =>
        match freshImages s x with
        | none => no s .refusedState
        | some fresh => beginActivation s 0 2 x.setVersion fresh) s)

/-- The image that an activation brings into service for a component. -/
def newImage (s : State) (c : Nat) : Image :=
  if c = 7 then s.fw.chainSlot.getD {} else tgetD s.fw.staged c {}

/-- The new images take their places (phase 6): components 4 and 6 wait for a reset. -/
def commitImages (s : State) : State :=
  s.fw.actFresh.foldl (fun s c =>
    let i := newImage s c
    if c = 4 || c = 6 then
      { s with fw := { s.fw with committed := tset s.fw.committed c i, pendingReset := true } }
    else { s with fw := { s.fw with running := tset s.fw.running c i } }) s

/-- The floors that phase 6 raises: the manifest's, or that of the one component changed. -/
def raiseFloors (s : State) : State :=
  match s.fw.manifest, s.fw.actComp with
  | some x, 0 => x.entries.foldl (fun s e => raiseFloor s e.comp e.secVersion) s
  | _, c => raiseFloor s c (newImage s c).secVersion

/-- A record of the set pointer that names the running set goes to the sector written longer ago (R480). -/
def addPointer (s : State) : State :=
  let f := s.fw
  let x : PtrRec :=
    { seq := f.ptrSeq, areaB := f.areaB
      comps := (List.range 7).map (fun i => let r := tgetD f.running (i + 1) {}; (r.version, r.digest))
      manifest := (f.runManifest.map (·.digest)).getD [] }
  { s with fw := { f with pointers := tset f.pointers (f.ptrSeq % 2) x, ptrSeq := f.ptrSeq + 1 } }

/-- Phase 6: the set pointer names the new area, and the area left becomes the staging area. -/
def writePointer (s : State) : State :=
  let compat := s.fw.actComp ≠ 0
  let plain := fun (i : Image) => { i with bytes := [] }
  let s1 := flashErase (commitImages (raiseFloors s))
  addPointer { s1 with fw := { s1.fw with
      areaB := !s1.fw.areaB, compatSet := compat
      running := tmap s1.fw.running (fun _ i => plain i), committed := tmap s1.fw.committed (fun _ i => plain i)
      runManifest := if compat then none else s.fw.manifest
      manifest := none, staged := [], partials := []
      chainSlot := if s.fw.actFresh.contains 7 then none else s1.fw.chainSlot } }

/-- The library that the flash now holds. -/
def takeLibrary (s : State) : State :=
  let lib := if s.fw.actFresh.contains 2 then
      (freshLibrary s (if s.fw.actComp = 0 then 2 else 1) [(2, newImage s 2)]).getD none
    else s.store.library
  { s with store := { s.store with library := lib } }

/-- The Steward reports ready again after an activation's restart, with event 0x010A (R450, Table 14.21); a restart that was
requested meanwhile comes next (R452). -/
def trialReady (s : State) : State :=
  logEvent { s with stw := { s.stw with ready := !s.stw.restarting } } 0x010A 0xFFF [.num 1 1, .num 8 (s.now - s.fw.actStart)]

/-- What event 0x0204 names: the set's version, or for a single component, which no rule gives, a free value. -/
def actLabel (s : State) : Nat × State :=
  match s.fw.manifest, s.fw.actComp with
  | some x, 0 => (x.setVersion, s)
  | _, _ => let (d, s1) := draw s; ((Sys2Proof.Config.freeWord d).toNat % 2 ^ 32, s1)

/-- Phases 6 and 7, after the flip. -/
def endActivation (s : State) (b : BgCmd) : State :=
  let (label, s0) := actLabel s
  let alm := s0.fw.actFresh.contains 7
  let s1 := writePointer (takeLibrary s0)
  let s2 := if alm then restartAlmanac s1 1 else s1
  let s3 := logEvent s2 0x0204 0xFFF [.num 4 label, .num 8 (s2.now - s2.fw.actStart)]
  endBg { s3 with fw := { s3.fw with activation := 0, actComp := 0, actFresh := [] } } b { status := .done } false

/-- The activation command that runs. -/
def actCmd (s : State) : Option BgCmd := s.stw.bg.find? (fun b => b.opcode = 0x0903 || b.opcode = 0x0910)

/-- An activation ends in phase 4 or 5 once a Steward runs again, the previous one from its code memory: the idle bank is
discarded (R486). -/
def rollBack (s : State) (b : BgCmd) (phase : Nat) : State :=
  let i := idleBank s
  let s1 := setBank s i { failIndex := (bankOf s i).failIndex }
  endBg (failActivation s1 phase .refusedState) b { status := .refusedState } false

/-- ACTIVATION_STEWARD_READY: the end of phase 4. -/
def execActivationStewardReady (ready : Bool) (s : State) : Res :=
  .next (match actCmd s with
    | none => s
    | some b =>
      if s.fw.activation ≠ 4 then s
      else if !ready || s.fw.actDeadline < s.now then resumeResets (rollBack (trialReady s) b 4)
      else
        match requestFlip (trialReady s) with
        | (true, s1) => resumeResets (endActivation s1 b)
        | (false, s1) => resumeResets (rollBack s1 b 5))

/-! ## Update from a ZCH-0820 image (R487 to R489) -/

/-- Every component's version once one component has a new image. -/
def versionsWith (s : State) (c v : Nat) : List Nat :=
  (List.range 7).map (fun i => if i + 1 = c then v else (runningOf s (i + 1)).version)

/-- The compatibility table of the Steward firmware that will then run admits the set (R488). -/
def setCompatible (s : State) (c : Nat) (i : Image) : Bool :=
  Sys2Proof.Config.compatOk (if c = 1 then i.digest else (runningOf s 1).digest) (versionsWith s c i.version)

/-- What the parameters of COMPATIBILITY_UPDATE may be. -/
def updateBad (comp source addr len : Nat) : Option Nat :=
  firstBad [(0, [1, 2, 3, 5].contains comp), (1, source ≤ 1), (2, addr < 2 ^ 64), (3, 1 ≤ len && len < 2 ^ 32)]

/-- COMPATIBILITY_UPDATE (0x0910). -/
def execCompatibilityUpdate (m : Meta) (comp source addr len : Nat) (img : List Nat) (rd : ReadResult) (s : State) : Res :=
  .next (if mayActivate s && stageWaits s m 0x0910 source (updateBad comp source addr len) then askSteward s
  else runCmd m 0x0910 actObjs false (updateBad comp source addr len)
    (fun s =>
      if !mayActivate s || stewardHalted s source then no s .refusedState
      else
        match fetchImage s comp 1 source addr len img rd with
        | (.error k, s1) => no (refuseImage s1 comp k) (if k = 3 then .refusedState else checkStatus k)
        | (.ok (i, _), s1) =>
          if !setCompatible s1 comp i then no s .refusedState
          else
            let s2 := logEvent (putStaged s1 comp i) 0x0200 0xFFF [.num 2 comp, .num 4 i.version]
            beginActivation s2 comp 1 comp [(comp, i)]) s)

end Sys2Proof.Machine
end

