-- ==== Sys2Proof/Machine/Chain.lean ====
section
/-! DEFINITION. The bucket chain (R490 to R493): offers, packages received, and faults of the two chain pairs. -/

namespace Sys2Proof.Machine

/-! ## Pairs (Table 17.11) -/

/-- The pair that acts as chain-in: 0 unless the roles have been exchanged. -/
def chainIn (s : State) : Nat := b2n s.fw.chainSwap
/-- The pair that acts as chain-out. -/
def chainOut (s : State) : Nat := 1 - b2n s.fw.chainSwap

/-- A fault holds the pair down: an open, a shorted leg, or a driver that is off. -/
def pairDown (s : State) (pair : Nat) : Bool := tgetD s.fw.chainDown pair 0 ≠ 0

/-- STW_CHAIN.state changes. -/
def chainState (s : State) (st : Nat) : State := { s with fw := { s.fw with chainSt := st } }

/-- Activity on chain-in is a wake event where the power state has it (R492). -/
def chainActivity (s : State) (pair : Nat) : State := if pair = chainIn s then wakeNow s 3 else s

/-- A frame that the unit reads: its CRC is right, its pair works in that direction, its kind is a chain package's, and the
Steward runs. -/
def frameRead (s : State) (frm : ChainFrame) (pair : Nat) : Bool :=
  frm.crcOk && frm.pair = pair && !pairDown s pair && s.stw.ready && decide (7 ≤ frm.kind) && decide (frm.kind ≤ 9) &&
    decide (frm.payload.length ≤ 1024)

/-- What a frame names. -/
def frameId (frm : ChainFrame) : PkgId := ⟨frm.kind, frm.version, frm.digestId⟩

/-- Send a frame of the chain about a package. -/
def chainSend (s : State) (pair type off : Nat) (id : PkgId) (payload : List Nat) : State :=
  emit s (.chain pair type id.kind off id.version id.digestId payload)

/-! ## Upstream (R491) -/

/-- The package held that a frame names. -/
def heldPackage (s : State) (id : PkgId) : Option Package := s.fw.packages.find? (fun p => p.id = id)

/-- The state to rest in: OFFERING while some package is not confirmed downstream. -/
def restState (s : State) : State :=
  chainState s (if s.fw.packages.any (fun p => !p.confirmed) then 4 else 1)

/-- CHAIN_OFFER_SEND: once in each second of the calendar, each package that the downstream unit has not confirmed. -/
def execChainOfferSend (s : State) : Res :=
  .next (if !s.stw.ready || s.fw.offeredAt = some s.alm.calSec || pairDown s (chainOut s) then s
    else
      let ps := s.fw.packages.filter (fun p => !p.confirmed)
      let s1 := ps.foldl (fun s p => chainSend s (chainOut s) 1 0 p.id []) s
      let s2 := if ps.isEmpty then s1 else chainState s1 4
      { s2 with fw := { s2.fw with offeredAt := some s.alm.calSec } })

/-- The DATA frames of a package from an offset to its end. -/
def sendData (s : State) (p : Package) (off : Nat) : State :=
  let n := (p.bytes.length - off + 1023) / 1024
  (List.range n).foldl (fun s i =>
    chainSend s (chainOut s) 3 (off + 1024 * i) p.id (slice p.bytes (off + 1024 * i) 1024)) s

/-- CHAIN_REQUEST_RECEIVED. -/
def execChainRequestReceived (frm : ChainFrame) (s : State) : Res :=
  .next (if !frameRead s frm (chainOut s) then s
    else
      match heldPackage s (frameId frm) with
      | some p => sendData s p frm.off
      | none => s)

/-- CHAIN_CONFIRM_RECEIVED: the package is offered no more. -/
def execChainConfirmReceived (frm : ChainFrame) (s : State) : Res :=
  .next (if !frameRead s frm (chainOut s) then s
    else
      match heldPackage s (frameId frm) with
      | none => s
      | some p =>
        if p.confirmed then s
        else
          let s1 : State := { s with fw := { s.fw with
            packages := s.fw.packages.map (fun q => if q.id = p.id then { q with confirmed := true } else q)
            chainConfirmed := s.fw.chainConfirmed + 1 } }
          logEvent (restState s1) 0x0208 0xFFF [.num 1 p.id.kind, .num 4 p.id.version])

/-- CHAIN_REFUSE_RECEIVED: the package stays offered, since only a CONFIRM ends that; a pair at END or DOWN has shown a
neighbour. -/
def execChainRefuseReceived (frm : ChainFrame) (s : State) : Res :=
  .next (if frameRead s frm (chainOut s) then restState s else s)

/-! ## Downstream (R491, R492) -/

/-- The unit holds what an OFFER names: a package it has applied or stored, or the Almanac image that runs. -/
def hasPackage (s : State) (id : PkgId) : Bool :=
  (heldPackage s id).isSome ||
    (id.kind = 7 && (runningOf s 7).version = id.version && imgField (runningOf s 7).digest 0 4 = id.digestId &&
      !(runningOf s 7).digest.isEmpty)

/-- The free Almanac slot is taken by an image that a staged manifest names. -/
def slotsInUse (s : State) : Bool :=
  match s.fw.manifest, s.fw.chainSlot with
  | some x, some i => x.entries.any (fun e => e.comp = 7 && e.digest = i.digest)
  | _, _ => false

/-- The order of the check by which a package was refused. -/
def refusalOf (s : State) (id : PkgId) : Option Nat := (s.fw.refusals.find? (fun e => e.1 = id)).map (·.2)

/-- Reception of a package begins, or goes on where it stopped; the REQUEST names the offset. -/
def askPackage (s : State) (id : PkgId) : State :=
  let s1 : State := if s.fw.rx = some id then s else { s with fw := { s.fw with rx := some id, rxBytes := [] } }
  chainSend (chainState s1 2) (chainIn s1) 2 s1.fw.rxBytes.length id []

/-- The answer to an OFFER. -/
def answerOffer (s : State) (id : PkgId) : State :=
  match refusalOf s id with
  | some k => chainSend s (chainIn s) 5 0 id [k]
  | none =>
    if hasPackage s id then chainSend s (chainIn s) 4 0 id []
    else if id.kind = 7 && slotsInUse s then
      logEvent (chainSend s (chainIn s) 5 0 id [0xFF]) 0x0207 0xFFF [.num 1 7, .num 1 0xFF]
    else askPackage s id

/-- CHAIN_OFFER_RECEIVED. -/
def execChainOfferReceived (frm : ChainFrame) (s : State) : Res :=
  .next (let s1 := chainActivity s frm.pair
    if frameRead s1 frm (chainIn s1) then answerOffer s1 (frameId frm) else s1)

/-- The package being received is discarded; the next OFFER starts it again. -/
def dropRx (s : State) : State :=
  restState { s with fw := { s.fw with rx := none, rxBytes := [] } }

/-- A package is refused for good: a refusal is never forwarded, and is repeated to later OFFERs. -/
def refusePackage (s : State) (id : PkgId) (order : Nat) : State :=
  logEvent (dropRx { s with fw := { s.fw with refusals := s.fw.refusals ++ [(id, order)] } }) 0x0207 0xFFF
    [.num 1 id.kind, .num 1 order]

/-- A package that has verified is held, in place of an older one of its kind, and offered downstream. -/
def holdPackage (s : State) (id : PkgId) (bytes : List Nat) : State :=
  let ps := s.fw.packages.filter (fun p => p.id.kind ≠ id.kind)
  dropRx (flashErase { s with fw := { s.fw with packages := ps ++ [{ id := id, bytes := bytes }] } })

/-- The version that a chain package leaves in STW_FW_VER_8 or STW_FW_VER_9, and its floor (R492). -/
def notePackage (s : State) (c : Nat) (i : Image) : State :=
  raiseFloor { s with fw := { s.fw with running := tset s.fw.running c { i with bytes := [] } } } c i.secVersion

/-- Code 8: the mask is ORed into the fuses. -/
def applyRevocation (s : State) (i : Image) (plain : List Nat) : State :=
  let mask := s.fw.revoked ||| Sys2Proof.Config.revocationMask plain % 2 ^ 32
  logEvent (notePackage { s with fw := { s.fw with revoked := mask } } 8 i) 0x020A 0xFFF [.num 4 mask]

/-- The owner key that the fuses hold once a fuse package is burned: none where it conflicts with the one burned. -/
def burnedKey (s : State) (plain : List Nat) : Option (List Nat) :=
  match Sys2Proof.Config.fuseOwnerKey plain with
  | none => some s.fw.ownerKey
  | some k => if s.fw.ownerKey.isEmpty || s.fw.ownerKey = k then some k else none

/-- Code 9: the fields are burned into the fuses. -/
def applyFuses (s : State) (i : Image) (key : List Nat) : State :=
  logEvent (notePackage { s with fw := { s.fw with ownerKey := key } } 9 i) 0x020B 0xFFF [.num 4 i.version]

/-- A whole package that verified takes effect by its kind. -/
def takePackage (s : State) (id : PkgId) (bytes : List Nat) (i : Image) (plain : List Nat) : State :=
  let got := fun (s : State) => logEvent s 0x0206 0xFFF [.num 1 id.kind, .num 4 i.version]
  match id.kind with
  | 7 => holdPackage (got { s with fw := { s.fw with chainSlot := some i } }) id bytes
  | 8 => holdPackage (applyRevocation (got s) i plain) id bytes
  | _ =>
    match burnedKey s plain with
    | some k => holdPackage (applyFuses (got s) i k) id bytes
    | none => refusePackage s id 3

/-- The bytes received so far make a whole package, or can make none. -/
def rxWhole (kind : Nat) (bs : List Nat) : Bool :=
  decide (128 ≤ bs.length) && (decide (plainLimit kind < imgField bs 16 4) || decide (imgField bs 16 4 + 224 ≤ bs.length))

/-- Verify the package received (Table 17.4) and act on it. An Almanac image waits for no slot here: an OFFER is refused
while the slots are in use. -/
def verifyRx (s : State) (id : PkgId) : State :=
  match checkImage s id.kind 2 s.fw.rxBytes.length s.fw.rxBytes with
  | .error k => refusePackage s id k
  | .ok (i, plain) => takePackage s id s.fw.rxBytes i plain

/-- CHAIN_DATA_RECEIVED: a gap or a failed CRC discards the package (R491). -/
def execChainDataReceived (frm : ChainFrame) (s : State) : Res :=
  .next (let s1 := chainActivity s frm.pair
    match s1.fw.rx with
    | none => s1
    | some id =>
      if frm.pair ≠ chainIn s1 || pairDown s1 frm.pair || !s1.stw.ready then s1
      else if !frm.crcOk || frameId frm ≠ id || frm.off ≠ s1.fw.rxBytes.length then dropRx s1
      else
        let s2 : State := { s1 with fw := { s1.fw with rxBytes := s1.fw.rxBytes ++ frm.payload } }
        if rxWhole id.kind s2.fw.rxBytes then verifyRx s2 id else s2)

/-! ## Faults (R493) -/

/-- Every fault sets the fault fields and logs event 0x0209. -/
def chainFaulted (s : State) (pair code : Nat) : State :=
  logEvent { s with fw := { s.fw with chainFault := code, chainPair := pair, chainSeen := true } } 0x0209 0xFFF
    [.num 1 pair, .num 1 code]

/-- A pair goes down for a code; the state shows it, and a package being received on it is lost. -/
def holdPair (s : State) (pair code st : Nat) : State :=
  let s1 : State := { s with fw := { s.fw with chainDown := tset s.fw.chainDown pair code } }
  if pair = chainIn s then chainState { s1 with fw := { s1.fw with rx := none, rxBytes := [] } } st
  else chainState s1 st

/-- CHAIN_FAULT: codes 1 to 3 hold the pair down, 4 and 5 are corrected. A pair without transitions goes on being offered to,
so that a neighbour can be found (log entry 105). -/
def execChainFault (pair code : Nat) (s : State) : Res :=
  .next (if 1 < pair || code = 0 || 5 < code then s
    else
      let s1 := chainFaulted s pair code
      if code = 1 then chainState s1 (if pair = chainOut s then 5 else 0)
      else if code = 2 || code = 3 then holdPair s1 pair code 0
      else if code = 4 then { s1 with fw := { s1.fw with polarityFixed := true } }
      else { s1 with fw := { s1.fw with swapFixed := true, chainSwap := !s1.fw.chainSwap } })

/-- CHAIN_FAULT_CLEAR: the leg recovers, or transitions return; a driver that is off stays off (Table 17.11). -/
def execChainFaultClear (pair code : Nat) (s : State) : Res :=
  .next (let active := s.fw.chainFault = code && s.fw.chainPair = pair
    let cleared : State := if active then { s with fw := { s.fw with chainFault := 0 } } else s
    let s1 := if pair = chainIn s then wakeNow cleared 3 else cleared
    if 1 < pair then s
    else if code = 1 then (if active && (s.fw.chainSt = 0 || s.fw.chainSt = 5) then restState s1 else s)
    else if code = 2 && tgetD s.fw.chainDown pair 0 = 2 then
      restState { s1 with fw := { s1.fw with chainDown := tdel s1.fw.chainDown pair } }
    else s)

end Sys2Proof.Machine
end

