-- ==== Sys2Proof/Machine/Resets.lean ====
section
/-! DEFINITION. Resets and start-up (R446 to R453, Tables 16.4 and 16.5), the life-cycle change (R455 to R458), loss of the
main supplies (R503) and of a reference clock (R463), and the Steward's restart (R450). -/

namespace Sys2Proof.Machine

/-! ## What a reset clears (R449) -/

/-- What a cold reset leaves of the PCI Express block: PME_En, PME_Status and the wake record, which auxiliary power holds
(R369, log entry 83). -/
def Pci.sticky (p : Pci) : Pci :=
  { wakeCause := p.wakeCause, wakeSeen := p.wakeSeen, pmeEn := p.pmeEn, pmeStatus := p.pmeStatus, wakePin := p.wakePin
    pmeDue := p.pmeDue }

/-- What the flash and the fuses keep of the firmware block (R442, R480): the set that runs after the reset, floors, keys, the
chain packages held, and the bytes in the staging area's slots. -/
def Fw.kept (f : Fw) : Fw :=
  { running := f.committed.foldl (fun t e => tset t e.1 e.2) f.running
    compatSet := f.compatSet, areaB := f.areaB, runManifest := f.runManifest, floors := f.floors, revoked := f.revoked
    ownerKey := f.ownerKey, packages := f.packages, chainSlot := f.chainSlot, flash := f.flash
    pointers := f.pointers, ptrSeq := f.ptrSeq
    partials := f.staged.foldl (fun t e => tset t e.1 e.2.bytes) f.partials }

/-- Every block but the Almanac at its reset values; flash and fuses keep what they hold, and the subsystem IDs come from the
identity record. The model's own fields go on. -/
def resetBlocks (s : State) : State :=
  { State.reset with
    alm := s.alm, store := s.store, pci := s.pci.sticky, fw := s.fw.kept
    dev := { subsysVendor := s.dev.subsysVendor, subsysId := s.dev.subsysId }
    cip := { clearSince := some s.now }
    out := s.out, now := s.now, draws := s.draws, pending := s.pending }

/-- The domains of a list run, and every other domain stops; their idle limits stay (R443). -/
def runDomains (s : State) (on : List Nat) : State :=
  (List.range 26).foldl (fun s d =>
    if d = 0 then s else setDom s d { limitUs := (domOf s d).limitUs, running := on.contains d }) s

/-- Test access by life-cycle state (Table 16.6). -/
def tckDomains (s : State) : List Nat := if s.alm.lcState = 0 || s.alm.lcState = 3 then [25] else []

/-! ## Start-up (Table 16.4) -/

/-- The identity record is present (R520): its magic, its reserved bytes and its CRC are right. -/
def idPresent (bs : List Nat) : Bool :=
  leNat (bs.take 4) = 0x16400049 && leNat (slice bs 8 4) = 0 && leNat (slice bs 12 4) = crc32c 0xFFFFFFFF (bs.take 12)

/-- The header of the identity record is read: a present record supplies its two IDs, and the fixed values stand for an
absent one. -/
def readIdentity (s : State) : State :=
  let bs := (List.range 16).map (fun a => (idByte s a).toNat)
  { s with dev := { s.dev with
      subsysVendor := if idPresent bs then leNat (slice bs 4 2) else 0x1EA7
      subsysId := if idPresent bs then leNat (slice bs 6 2) else 0 } }

/-- The domains that start-up leaves running. -/
def startDomains : List Nat := [1, 2, 3, 4, 5, 6, 10, 16, 17, 19, 20, 21, 22, 24]

/-- The step library is loaded into bank A, sealed and flipped; a library that does not seal leaves the bank LOADING with its
status (R59). -/
def startLibrary (s : State) (lib : TableSet) : State :=
  let s1 : State := { s with store := { s.store with library := some lib } }
  let s2 := putImage s1 0 lib .verifying
  match sealBank s2 0 with
  | (none, s3) => (requestFlip s3).2
  | (some _, s3) => s3

/-- TIME starts at the calendar's value, or at 0 (R444), and the age tick at its bits [41:10] (R174). -/
def startTime (s : State) : State :=
  let t := if s.alm.calValid then calNs s else 0
  { s with
    mac := { s.mac with timeRunning := true, timeNs := BitVec.ofNat 64 t, timeSub := 0 }
    fwt := { s.fwt with tick := BitVec.ofNat 32 (t / 1024), tickSub := t % 1024 } }

/-- The Steward's part of start-up: a KEK unless an alarm cause is present (R264), the firmware's authenticity, the function
manager, the library. -/
def startSteward (s : State) (lib : TableSet) : State :=
  let s0 := startTime (runDomains s (startDomains ++ tckDomains s))
  let s1 := if s0.alm.causes = 0 then drawKek s0 else s0
  let s2 : State := { s1 with
    stw := { s1.stw with ready := true }
    fmg := { s1.fmg with ready := true, fwAuthentic := true }
    pci := { s1.pci with configReady := true } }
  startLibrary (isoCheck s2 0) lib

/-- Row 1 of Table 16.4: the SRAM is being wiped. -/
def beginSramWipe (s : State) : State :=
  { s with
    dev := { s.dev with sramWiping := true, wipeDone := false }
    grn := { s.grn with ready := false }, cnt := { s.cnt with ready := false } }

/-- Both memories are being wiped, and no ring is ready until the RLDRAM wipe has ended (R453, Table 3.8). -/
def beginWipes (s : State) : State :=
  let s1 := beginSramWipe s
  { s1 with
    dev := { s1.dev with rldWiping := true }
    fwt := { s1.fwt with ready := false }, stg := { s1.stg with ready := false }
    qm := { s1.qm with
      ready := false
      tx := tmap s1.qm.tx (fun _ r => { r with st := .notReady })
      rx := tmap s1.qm.rx (fun _ r => { r with st := .notReady })
      cq := tmap s1.qm.cq (fun _ c => { c with st := .notReady }) } }

/-- ALM_LC_NONCE takes a fresh random value (R456). -/
def freshNonce (s : State) : State :=
  let (d, s1) := draw s
  { s1 with store := { s1.store with nonce := (Sys2Proof.Config.freeWord d).toNat } }

/-- The domains that run while a start-up completes a life-cycle change. -/
def wipeDomains : List Nat := [1, 2, 3, 4, 5, 6, 16, 19, 20, 21]

/-- Rows 3 to 9 of Table 16.4: the Steward starts, at once, or after the wipes where the start-up finds wipe_pending, which it
completes first (R458). -/
def startUp (s : State) (lib : TableSet) : State :=
  if s.alm.wipePending then
    runDomains { s with
      store := { s.store with library := some lib }
      fw := { s.fw with staged := [], partials := [], manifest := none } } wipeDomains
  else startSteward s lib

/-- The wipes of a start-up that found wipe_pending have ended: the new state takes effect, and the Steward starts (R458). -/
def lcAtStart (s : State) : State :=
  let s1 := commitStore (bumpLife { s with alm := { s.alm with lcState := s.alm.lcTarget, wipePending := false } } 23 1)
  let s2 := freshNonce (flashErase s1)
  match s2.store.library with
  | some lib => startSteward s2 lib
  | none => s2

/-- PERST# is released: the straps are sampled (R507), the identity record is read (R520), and WAKE# is released (R369). -/
def releasePerst (s0 : State) (straps : Straps) : State :=
  let s := readIdentity s0
  let s1 : State := { s with
    store := { s.store with perst := false }
    stw := { s.stw with mgmtI3c := straps.i3c }
    pci := { s.pci with bifurcated := straps.bifurcate, wakePin := false } }
  if s.pci.wakePin then emit s1 .wakeHigh else s1

/-- COLD_RESET; it absorbs an Almanac restart, as PERST# does (R452). A refused Steward image stops start-up after row 2, with
cause 10 in the alarm history (R446). -/
def execColdReset (imageOk : Bool) (straps : Straps) (lib : TableSet) (s : State) : Res :=
  .next (if !s.store.auxPresent || s.store.mainPresent || s.alm.ref156Lost then s
    else
      let s0 := resetBlocks s
      let s1 := releasePerst (beginSramWipe { s0 with
        alm := { s0.alm with dataDead := false }
        store := { s0.store with
          mainPresent := true, codeDigestKept := imageOk, library := some lib, restarting := false, waitStarts := [] } }) straps
      if !imageOk then histAppend (runDomains s1 [1, 2, 3, 16, 21]) 10 0
      else startUp (beginWipes s1) lib)

/-- PERST_ASSERT: as a cold reset, with the Steward's code kept; every domain but 1, 2 and SRAM stops (Table 16.3). -/
def execPerstAssert (s : State) : Res :=
  .next (if !s.store.mainPresent || s.store.perst then s
    else
      let s0 := resetBlocks s
      runDomains { s0 with
        alm := { s0.alm with dataDead := false }
        store := { s0.store with perst := true, restarting := false, waitStarts := [] } } [1, 2, 21])

/-- PERST_RELEASE: the rows of Table 16.4 counted from the release. A recheck that fails reloads the image from flash and logs
event 0x010C (R448); without code from a cold start the device stays silent (R446). -/
def execPerstRelease (recheckOk : Bool) (straps : Straps) (lib : TableSet) (s : State) : Res :=
  .next (if !s.store.mainPresent || !s.store.perst || s.alm.ref156Lost then s
    else
      let s1 := releasePerst (beginSramWipe s) straps
      if !s.store.codeDigestKept then runDomains s1 [1, 2, 3, 16, 21]
      else
        let s2 := startUp (beginWipes s1) lib
        if recheckOk then s2 else almEvent s2 0x010C [])

/-- SRAM_WIPE_END: metadata and counter sets are zero. -/
def execSramWipeEnd (s : State) : Res :=
  .next (if !s.dev.sramWiping then s
    else
      { s with
        dev := { s.dev with sramWiping := false }
        grn := { s.grn with ready := true }
        cnt := { s.cnt with ready := true } })

/-! ## Hot reset (R373, R449) -/

/-- HOT_RESET. A PERST# or cold reset in progress absorbs it (R452). -/
def execHotReset (s : State) : Res :=
  .next (if !s.store.mainPresent || s.store.perst then s else hotReset s)

/-! ## Loss of the main supplies (R503) -/

/-- MAIN_SUPPLY_LOSS: the loss is counted, recorded and committed; memories and the vault are lost, and only the Almanac goes
on. No rule gives the cause code of its history entry (log entry 108). -/
def execMainSupplyLoss (s : State) : Res :=
  .next (if !s.store.mainPresent then s
    else
      let (d, s1) := draw s
      let s2 := commitStore (bumpLife (histAppend s1 ((Sys2Proof.Config.freeWord d).toNat % 256) 0) 22 1)
      let s3 := resetBlocks s2
      runDomains { s3 with
        alm := { s3.alm with coreMv := 0, sramMv := 0, dataDead := false }
        store := { s3.store with mainPresent := false, perst := true, codeDigestKept := false } } [1, 2])

/-! ## Reference clocks (R463) -/

/-- REFERENCE_CLOCK_FAULT: 0 for REF-156, 1 for REF-100. The loss of REF-100 takes the host link down, which is a hot reset
(R370). -/
def execReferenceClockFault (which : Nat) (s : State) : Res :=
  .next (if which = 0 && !s.alm.ref156Lost then
      let s1 : State := { s with alm := { s.alm with ref156Lost := true, faultSeen := true } }
      loseRef156 (almEvent (histAppend s1 7 0) 0x0105 [.num 1 0, .num 1 0])
    else if which = 1 && !s.alm.ref100Lost then
      let s1 : State := { s with alm := { s.alm with ref100Lost := true, faultSeen := true } }
      let s2 := almEvent (histAppend s1 8 0) 0x0105 [.num 1 1, .num 1 0]
      if s2.store.mainPresent && !s2.store.perst then hotReset s2 else s2
    else s)

/-! ## The Steward's restart (R450) -/

/-- No command is executing, in the foreground or in the background. -/
def stewardIdle (s : State) : Bool :=
  s.stw.accepted.isEmpty && s.stw.fore.isEmpty && s.stw.bg.isEmpty && s.twn.waits.isEmpty

/-- A requested restart begins once no command is executing. -/
def beginRestart (s : State) : State :=
  if s.stw.restarting && s.stw.restartAt.isNone && stewardIdle s then
    loseWorking { s with stw := { s.stw with restartAt := some s.now } }
  else s

/-- STEWARD_RESTART: a write of ALM_CTL.steward_restart. -/
def execStewardRestart (s : State) : Res :=
  .next (memWrite s 0 (
    if s.stw.restarting || (!s.stw.ready && s.fw.activation = 0) then s
    else beginRestart { s with stw := { s.stw with restarting := true, ready := false } }))

/-- The recheck of a reload against the kept digest (R448): the command does not say how it ended, so a free value does (log
entry 108). Where it failed, the image came from flash, with event 0x010C. -/
def recheckEnd (s : State) : State :=
  let (d, s1) := draw s
  if (Sys2Proof.Config.freeWord d).toNat % 2 = 1 then almEvent s1 0x010C [] else s1

/-- STEWARD_RESTART_COMPLETE: the Steward has reloaded from its code memory. -/
def execStewardRestartComplete (s : State) : Res :=
  .next (let s1 := beginRestart s
    match s1.stw.restartAt with
    | none => s
    | some t =>
      let s2 : State := { s1 with stw := { s1.stw with ready := true, restarting := false, restartAt := none } }
      resumeResets (almEvent (recheckEnd s2) 0x010A [.num 1 0, .num 8 (s.now - t)]))

/-! ## Life-cycle states (R455 to R458) -/

/-- The authority of a transition: true for the owner (Table 16.7). -/
def lcAuthority (old new : Nat) : Option Bool :=
  match old, new with
  | 0, 1 => some false
  | 1, 2 => some true
  | 1, 4 => some true
  | 2, 3 => some true
  | 2, 4 => some true
  | 3, 1 => some false
  | 3, 4 => some true
  | _, _ => none

/-- What R457 needs beside the transition: every port and the twin link disabled, no VF instance, role NONE, nothing in the
background. -/
def lcQuiet (s : State) : Bool :=
  (List.range (livePorts s).length).all (fun n => !(portOf s n).enabled) && !s.twn.enabled &&
    !tany s.fns (fun fid f => isVf fid && f.st ≠ .absent) && s.twn.role = 0 && s.stw.bg.isEmpty

/-- The digest that an authorisation signs (R456). -/
def lcDigest (s : State) (target : Nat) : List Nat :=
  sha384 (leBytes 8 s.alm.unit ++ leBytes 8 s.store.nonce ++ [s.alm.lcState, target])

/-- Steps 1 to 3 of R458 begin: the record names the target, the vault is erased, the memories are being wiped and the
staging area is erased. -/
def beginLcChange (s : State) (target : Nat) : State :=
  let s1 := eraseVault { s with alm := { s.alm with wipePending := true, lcTarget := target } } 0 0
  flashErase (beginWipes { s1 with
    stw := { s1.stw with lcChange := true }
    fw := { s1.fw with staged := [], partials := [], manifest := none } })

/-- CHANGE_LIFE_CYCLE_STATE (0x0A05). The nonce is renewed after the command, whatever its outcome: at once where it is refused,
after its reply where it goes on (R456). -/
def execChangeLifeCycleState (m : Meta) (target : Nat) (sig : List Nat) (s : State) : Res :=
  .next (
    let t := runCmd m 0x0A05 [] false (firstBad [(0, target ≤ 4), (1, sig.length = 96)])
      (fun s =>
        match lcAuthority s.alm.lcState target with
        | none => no s .refusedState
        | some owner =>
          if !lcQuiet s then no s .refusedState
          else if !authoritySigOk owner s.fw.ownerKey (lcDigest s target) sig then no s .failedAuth
          else bgOpen (beginLcChange s target) (s.now + 60000000000)) s
    if t.stw.lcChange && !s.stw.lcChange then t
    else if cmdWaits s m 0x0A05 then t else freshNonce t)

/-- Step 4 of R458: every block but the Almanac, the PCI Express endpoint, the admin ring registers and the event log at its
cold-reset values, the vault among them without a key until R264 draws one. The Steward runs on, and the change's own command is
still to be answered. -/
def lcReset (s : State) : State :=
  let r := resetBlocks s
  { r with
    pci := s.pci
    dev := { r.dev with
      logProd := s.dev.logProd, logCons := s.dev.logCons, lostPending := s.dev.lostPending, lostTotal := s.dev.lostTotal
      log := s.dev.log, eventSeq := s.dev.eventSeq }
    cip := { clearSince := s.cip.clearSince }
    stw := { r.stw with
      ready := true, admEnable := s.stw.admEnable, admSizeLog2 := s.stw.admSizeLog2, cmdBase := s.stw.cmdBase
      rplBase := s.stw.rplBase, ctrAddr := s.stw.ctrAddr, cmdProd := s.stw.cmdProd, cmdCons := s.stw.cmdCons
      rplProd := s.stw.rplProd, rplCons := s.stw.rplCons, admHeld := s.stw.admHeld, bg := s.stw.bg, fore := s.stw.fore } }

/-- Steps 4 to 6 of R458, when both wipes have ended. -/
def endLcChange (s : State) (b : BgCmd) : State :=
  let old := s.alm.lcState
  let new := s.alm.lcTarget
  let s1 := lcReset s
  let s2 : State := { s1 with
    alm := { s1.alm with lcState := new, wipePending := false }
    dev := { s1.dev with wipeDone := true }
    fmg := { s1.fmg with ready := true, fwAuthentic := s.fmg.fwAuthentic, isoHolds := s.fmg.isoHolds }
    grn := { s1.grn with ready := true }, cnt := { s1.cnt with ready := true }
    fwt := { s1.fwt with ready := true }, stg := { s1.stg with ready := true } }
  let s3 := isoCheck (startTime (commitStore (bumpLife s2 23 1))) 1
  let s4 := setDom s3 25 { domOf s3 25 with running := !(tckDomains s3).isEmpty }
  let s5 := freshNonce (endBg (logEvent s4 0x0107 0xFFF [.num 1 old, .num 1 new]) b { status := .done } false)
  match s5.store.library with
  | some lib => startLibrary s5 lib
  | none => s5

/-- The life-cycle command that runs. -/
def lcCmd (s : State) : Option BgCmd := if s.stw.lcChange then s.stw.bg.find? (fun b => b.opcode = 0x0A05) else none

/-- RLDRAM_WIPE_END: it follows the end of the SRAM wipe, which began with it and is shorter (R453). A life-cycle change goes on
from here. -/
def execRldramWipeEnd (s : State) : Res :=
  .next (if !s.dev.rldWiping || s.dev.sramWiping then s
    else
      let s1 : State := { s with
        dev := { s.dev with rldWiping := false, wipeDone := true }
        fwt := { s.fwt with ready := true }, stg := { s.stg with ready := true } }
      match lcCmd s1 with
      | some b => endLcChange s1 b
      | none => settleQueues (if s1.alm.wipePending then lcAtStart s1 else s1))

/-- SMBUS_CLOCK_LOW_TIMEOUT: while STRAP_MGMT reads 0 the device releases the bus (R509); its registers and the packets it
holds stay as they are. -/
def execSmbusClockLowTimeout (s : State) : Res := .next (if s.stw.mgmtI3c then s else emit s .smbusRelease)

end Sys2Proof.Machine
end

