-- ==== Sys2Proof/Machine/Clock.lean ====
section
/-! DEFINITION. One nanosecond of the part's clocks, which passes when no command is waiting (log entry 3): TIME with its rate
correction (R209), the writes of the bucket cycle (R169), the reports of quiesces (R326) and drains (R374), the age tick
(R174), the calendar (R465), the idle periods of clock domains (R443), the vault's new key after an erasure (R264), the exports
that fall due (R436), the service queue (R438), the replies that wait for records (R266), the frames behind a mirrored command
(R379) and a Steward restart that may begin (R450). -/

namespace Sys2Proof.Machine

/-- The parts of 2^-32 ns that TIME gains in a nanosecond under MAC_TIME_ADJ, a signed number. -/
def timeGain (adj : W32) : Nat := (2 ^ 32 + adj.toInt).toNat

/-- TIME and the age tick over one nanosecond. -/
def runTime (s : State) : State :=
  if !s.mac.timeRunning || !(domOf s 24).running then s
  else
    let u := s.mac.timeSub + timeGain s.mac.freqAdj
    let n := u / 2 ^ 32
    let k := s.fwt.tickSub + n
    { s with
      mac := { s.mac with timeNs := s.mac.timeNs + BitVec.ofNat 64 n, timeSub := u % 2 ^ 32 }
      fwt := { s.fwt with tick := s.fwt.tick + BitVec.ofNat 32 (k / 1024), tickSub := k % 1024 } }

/-- A new KEK is due: 10 ms without an alarm cause after an erasure, while the Steward's clock runs and
no life-cycle change is under way (R264, R458). -/
def kekDue (s : State) : Bool :=
  match s.cip.clearSince with
  | some t =>
    s.cip.kek.isNone && s.alm.causes = 0 && s.alm.lcState ≠ 4 && !s.alm.wipePending && (domOf s 22).running &&
      decide (t + 10000000 ≤ s.now)
  | none => false

/-- The vault draws a new KEK when one is due. -/
def renewKek (s : State) : State := if kekDue s then drawKek s else s

/-- One nanosecond passes. -/
def tickNs (s : State) : State :=
  let s1 := logStocks (watchDrains (watchQuiesces (endCycles (endSaWaits s))))
  beginRestart (drainTwin (renewKek (drainSvc (noteExport s (calRun (runTime { watchIdle s1 with now := s1.now + 1 }))))))

end Sys2Proof.Machine
end

