-- ==== Sys2Proof/Machine/CntCmds.lean ====
section
/-! DEFINITION. Counter snapshots (R430 to R432), trace sampling (R433), and the Crier's set-up and exports (R435 to
R437). -/

namespace Sys2Proof.Machine

/-! ## Snapshots -/

/-- The packet of a snapshot is accepted in the cycle of its copy (R430). -/
def stampSnapshot (s : State) (m : Meta) : State :=
  { s with stw := { s.stw with accepted := s.stw.accepted.map (fun a =>
      if a.path = m.path && a.fid = m.fid && a.tag = m.tag && a.opcode = 0x0B01 then { a with ns := timeNow s } else a) } }

/-- SNAPSHOT_COUNTERS: the counters of a set as a fixed array; a virtual function names its own set only. -/
def execSnapshotCounters (m : Meta) (fid : Nat) (s : State) : Res :=
  .next (runCmd m 0x0B01 [.fid fid] false (firstBad [(0, hasSet fid)])
    (fun s =>
      if m.path = .mailbox && m.fid ≠ 1 && m.fid ≠ fid then no s .refusedPermission
      else okWith s ((readSet s fid (if fid = 0xFFF then 256 else 248)).map (fun v => .num 8 v)))
    (stampSnapshot s m))

/-- CNT_SNAP_WRITE: a write while a copy runs, of a slot above 239 or of a FID without a set is discarded and counted. -/
def execCntSnapWrite (v : Nat) (s : State) : Res :=
  .next (memWrite s 0 (
    let slot := bits 7 0 v
    let fid := bits 19 8 v
    if s.cnt.snapGo || 239 < slot || !hasSet fid then count s 0 cRegWriteDenied
    else
      let s1 : State := { s with cnt := { s.cnt with snapSlot := slot, snapFid := fid } }
      if !bitOf 31 v then s1
      else
        let x := tgetD s.cnt.slots slot {}
        { s1 with cnt := { s1.cnt with
          snapGo := true, snapWords := readSet s fid 256, snapTime := timeNow s
          slots := tput {} s.cnt.slots slot { x with done := false } } }))

/-- SNAPSHOT_COPY_COMPLETE. -/
def execSnapshotCopyComplete (s : State) : Res :=
  .next (if !s.cnt.snapGo then s
    else
      let x := tgetD s.cnt.slots s.cnt.snapSlot {}
      let y : Slot :=
        { fid := s.cnt.snapFid, done := true, gen := (x.gen + 1) % 65536, time := s.cnt.snapTime, words := s.cnt.snapWords }
      { s with cnt := { s.cnt with snapGo := false, snapWords := [], slots := tset s.cnt.slots s.cnt.snapSlot y } })

/-! ## Traces -/

/-- SET_TRACE_SAMPLING: each pipeline counts from 0 again. -/
def execSetTraceSampling (m : Meta) (n mask : Nat) (s : State) : Res :=
  .next (runCmd m 0x0B02 [] false (firstBad [(0, n < 2 ^ 24), (1, mask < 2 ^ 64)])
    (fun s => ok (modPipes { s with cnt := { s.cnt with traceN := n, traceMask := mask } }
      (fun _ x => { x with traceCount := 0 }))) s)

/-! ## The Crier -/

/-- The observer's channel belongs to the device and is in watermark mode (R439). -/
def observerOk (s : State) (ch : Nat) : Bool := (chanOf s ch).owner = 0xFFF && (chanOf s ch).mode = 1

/-- CONFIGURE_CRIER. -/
def execConfigureCrier (m : Meta) (interval dest addr port channel templates : Nat) (s : State) : Res :=
  .next (runCmd m 0x0B03 [] false
    (firstBad [(0, 10 ≤ interval && interval ≤ 3600000), (1, dest ≤ 2), (2, addr < 2 ^ 128), (3, port < 65536),
      (4, channel < 16), (5, templates < 16)])
    (fun s =>
      if s.cnt.exporting then no s .refusedState
      else if dest = 2 && !observerOk s channel then noItem s .badParam 4
      else ok { s with cnt := { s.cnt with
        interval := interval, dest := dest, collector := addr, collectorPort := port, channel := channel
        templates := templates } }) s)

/-- START_OR_STOP_EXPORT: a start begins with the next boundary, the templates and every counter. -/
def execStartOrStopExport (m : Meta) (start : Nat) (s : State) : Res :=
  .next (runCmd m 0x0B04 [] false (firstBad [(0, start ≤ 1)])
    (fun s =>
      if start = 0 then ok { s with cnt := { s.cnt with exporting := false } }
      else if s.cnt.dest = 0 then no s .refusedState
      else if s.cnt.exporting then ok s
      else ok { s with cnt := { s.cnt with
        exporting := true, lastExport := some (boundaryNow s), firstExport := true, tmplDue := true, lastValues := [] } }) s)

/-- CRIER_EXPORT: the messages of the export whose boundary TIME has reached, with the counters taken there (R436, R437). -/
def execCrierExport (s : State) : Res :=
  .next (match s.cnt.dueExports with
    | [] => s
    | recs :: t => runExport { s with cnt := { s.cnt with dueExports := t } } recs)

end Sys2Proof.Machine
end

