-- ==== Sys2Proof/Machine/Compat.lean ====
section
/-! DEFINITION. ZCH-0820 command packets (R421): the check, the translation and the execution as the native command. -/

namespace Sys2Proof.Machine

/-- A packet of a path that has just been accepted runs as its native command. -/
def runNative (a : Accepted) (s : State) : State :=
  let m : Meta := ⟨a.path, a.fid, a.tag, a.notify⟩
  match a.opcode with
  | 0x0101 => (execReadIdentity m s).after s
  | 0x0904 => (execReadVersions m s).after s
  | 0x0B01 => (execSnapshotCounters m (leNat (a.params.take 2)) s).after s
  | op => runMirrored m op a.params s

/-- The packet arrives: over the service port and MCTP into the path's queue; on the other paths it stands where the path holds
its packets. -/
def compatArrives (s : State) (path : Path) (bytes : List Nat) : State :=
  if path = .svc || path = .mctp then
    (execSecuredPacketReceived path { port := s.stw.udpPort } bytes s).after s
  else s

/-- The packet stands at the head of its path. -/
def compatHead (s : State) (path : Path) (fid : Nat) (bytes : List Nat) : Bool :=
  match path with
  | .admin => fid = 0 && admPacket s && rplRoom s
  | .mailbox => mbxWaits s fid &&
      (List.range (if fid = 1 then 4096 else 2048)).all (fun i => tgetD (fnOf s fid).mbx.taken i 0 = bytes.getD i 0)
  | .svc => fid = 0 && s.stw.svcQueue.head? = some bytes
  | .mctp => fid = 0 && s.stw.mctpQueue.head? = some bytes
  | .twin => fid = 0 && s.twn.rxq.head? = some (.command bytes)

/-- COMPATIBILITY_PACKET: a ZCH-0820 packet arrives on its path, and where the rotation stands there it is accepted and executed
as its native command (R405, R421). Bytes that are no such packet, and a Steward that is not ready or has a packet in hand,
leave it where it is. While compat_enable is 0 the packet fails check 2 as any packet of that version does. -/
def execCompatibilityPacket (path : Path) (fid : Nat) (bytes : List Nat) (s : State) : Res :=
  .next (if bytes.getD 11 0 ≠ 1 then s
    else
      let s1 := compatArrives s path bytes
      if !compatHead s1 path fid bytes then s1
      else
        let s2 := (execAcceptPacket path fid bytes .ok s1).after s1
        match s2.stw.accepted with
        | [a] => if a.compat.isSome && s1.stw.accepted.isEmpty then runNative a s2 else s2
        | _ => s2)

end Sys2Proof.Machine
end

