-- ==== Sys2Proof/Machine/Deliver.lean ====
section
/-! DEFINITION. The steps that deliver: DMAW DELIVER (R83), DMAR READ (R84), and XMIT CLASS, LOOP and MIRROR
(R197, R208, R221 to R223, R226, R227, R230, R234). -/

namespace Sys2Proof.Machine

/-! ## DMAW DELIVER (Tables 2.24, 2.25) -/

/-- The handles of a chain handle list (Table 4.5), if its count is one a list can have. -/
def listHandles (bs : List Nat) : Option (List Nat) :=
  let n := leNat (bs.take 2)
  if 2 ≤ n && n ≤ 48 then some ((List.range n).map (fun i => leNat (slice bs (16 + 5 * i) 5))) else none

/-- A host buffer HELD by a FID. -/
def hostHeld (s : State) (h fid : Nat) : Bool := 4 ≤ hPool h && handleValid s h && heldByOwner s h fid

/-- The buffers that src_a names; none when a handle is invalid or not HELD by the FID. -/
def deliverBufs (s : State) (a fid : Nat) : Option (List Nat) :=
  let h := bits 39 0 a
  if bits 63 41 a ≠ 0 then none
  else if bitOf 40 a then
    if !heldByOwner s h fid then none
    else
      match listHandles (rawBytes (readChain s h 0 256)) with
      | some hs => if hs.all (fun x => hostHeld s x fid) then some hs else none
      | none => none
  else if hostHeld s h fid then some [h] else none

/-- The size of a host buffer. -/
def bufSize (s : State) (h : Nat) : Nat := 2 ^ (poolOf s (hPool h)).sizeLog2

/-- Bytes laid into buffers in order: each buffer that receives bytes, with its bytes. A buffer that a list names beyond those that
the bytes fill has no entry and takes no credit (DESIGN CHOICE, log entry 129). -/
def fillBufs (s : State) : List Nat → List PByte → List (Nat × List PByte)
  | [], _ => []
  | h :: t, bs => if bs.isEmpty then [] else (h, bs.take (bufSize s h)) :: fillBufs s t (bs.drop (bufSize s h))

/-- The buffer comes from a larger pool of a sized set than its bytes need (Table 3.6). -/
def fromLarger (s : State) (h n : Nat) : Bool :=
  let x := poolOf s (hPool h)
  x.kind = 1 && tany s.grn.pools (fun _ y =>
    y.kind = 1 && y.set = x.set && n ≤ 2 ^ y.sizeLog2 && y.sizeLog2 < x.sizeLog2)

/-- A kind 0x02 entry (R111): `i` the buffer's number and `last` whether it is the last. -/
def rxEntry (s : State) (k : Pkt) (window i : Nat) (last : Bool) (h : Nat) (bs : List PByte) : BackItem :=
  let flags := b2n (!last) * 2 + b2n (anyPoison bs) * 4 + b2n (fromLarger s h bs.length) * 8
  let body := leBytes 5 h ++ leBytes 2 bs.length ++ leBytes 2 window ++ [k.port, i % 256, 0]
  { bytes := cqEntry 0x02 0 flags body }

/-- The entries of a delivery: one per buffer, then the timestamp where the queue asks for it (R111); the last one measures
the path (R29). -/
def rxEntries (s : State) (k : Pkt) (r : Ring) (fills : List (Nat × List PByte)) : List BackItem :=
  let stamp := leBytes 8 (k.val 25) ++ leBytes 2 (bits 15 0 (k.val 26)) ++ leBytes 2 r.window
  let data := ((List.range fills.length).zip fills).map (fun e =>
    rxEntry s k r.window e.1 (e.1 + 1 = fills.length) e.2.1 e.2.2)
  let all := data ++ (if r.ts then [{ bytes := cqEntry 0x04 0 0 stamp }] else [])
  let n := all.length
  ((List.range n).zip all).map (fun e => if e.1 + 1 = n then { e.2 with meas := k.measHost s } else e.2)

/-- Post the data of a delivery (R83, R130). The data of a buffer whose space FID may not issue requests, or is in the stocks, goes
nowhere, and the delivery goes on (DESIGN CHOICE, log entry 129). -/
def postFills (s : State) (fills : List (Nat × List PByte)) : State :=
  fills.foldl (fun s e =>
    let x := poolOf s (hPool e.1)
    (hostWrite s x.spaceFid (x.base + hIdx e.1 * 2 ^ x.sizeLog2) e.2).2) s

/-- Row 4 of Table 2.25: the destination takes deliveries, with credit for `need` entries. Its Bus Master Enable is 0 in
effect in a D-state other than D0 and from the start of an FLR (R368, R371). -/
def destOpen (s : State) (fid : Nat) (r : Ring) (need : Nat) : Bool :=
  (fnOf s fid).st = .active && mayIssue s fid && r.st = .running &&
    (match cqOf s r.cq with
    | some c => need ≤ c.credit
    | none => false)

/-- The delivery itself: data, completion entries, counter and signal, in that order (R112). The list cell that it read is
freed with it; a delivery that is refused keeps it (DESIGN CHOICE, log entry 129). -/
def deliver (s : State) (x : StepIn) (fid : Nat) (r : Ring) (fills : List (Nat × List PByte)) : State :=
  let items := rxEntries s x.k r fills
  let s1 := cqPost (postFills s fills) r.cq items 0
  if bitOf 40 x.av then (freeHandle s1 (bits 39 0 x.av) fid false).2.2 else s1

/-- A delivery waits for earlier packets bound for its queue or for its queue's completion ring (R18). -/
def deliverWaits (s : State) (x : StepIn) : Bool :=
  let fid := bits 11 0 x.bv
  mustWait s x.p x.k (.host fid (bits 19 12 x.bv)) ||
    (match rxAtWindow s fid (bits 19 12 x.bv) with
    | some (_, r) => mustWait s x.p x.k (.ring r.cq)
    | none => false)

/-- DMAW DELIVER. It waits while an earlier packet can still deliver to its queue or its completion ring (R18). An offset equal to
the packet's length leaves nothing to deliver and is BAD_OPERAND as one beyond it (DESIGN CHOICE, log entry 129). -/
def execDmawDeliver (p c : Nat) (s : State) : Res :=
  .next (withStep 10 0 p c s (fun x =>
    let fid := bits 11 0 x.bv
    let off := bits 15 0 x.imm
    let raw := pktBytes s x.k
    unitGate s x fid (x.a.p || x.b.p || anyPoison (raw.drop off))
      (if deliverWaits s x then holdStep s x
      else
        match rxAtWindow s fid (bits 19 12 x.bv), deliverBufs s x.av fid, fixUp x.k.fix raw with
        | some (_, r), some hs, some fixed =>
          let bs := fixed.drop off
          if bits 63 20 x.bv ≠ 0 || bits 39 16 x.imm ≠ 0 || bs.isEmpty ||
              (hs.map (bufSize s)).sum < bs.length then done s x .badOperand
          else
            let fills := fillBufs s hs bs
            if destOpen s fid r (fills.length + b2n r.ts) then
              done (deliver (writeChain s x.k.handle 0 fixed) x fid r fills) x .done
            else done s x .refusedState
        | _, _, _ => done s x .badOperand)))

/-! ## DMAR READ (Table 2.26) -/

/-- Item 3 of R84: the chain, the range in it, and reserved operand bits. -/
def dmarBad (s : State) (x : StepIn) : Bool :=
  let h := bits 39 0 x.bv
  let fid := bits 51 40 x.bv
  let len := bits 13 0 x.imm
  let set := (poolOf s (hPool h)).set
  bits 63 52 x.bv ≠ 0 || bits 39 30 x.imm ≠ 0 || len = 0 || 12288 < len ||
    !(heldByOwner s h fid || heldByOwner s h 0xFFF) || 4 ≤ hPool h || (set ≠ 1 && set ≠ 3) ||
    256 * (chainOf s h).length < bits 29 14 x.imm + len

/-- Park a packet and issue the pieces of its read (R52, R280, R358). The chain read into becomes one of those that END or DROP
frees; a chain that GRN ALLOC granted alone does not (DESIGN CHOICE, log entry 129). -/
def parkRead (s : State) (x : StepIn) (fid : Nat) : State :=
  let (cell, s0) := takeParkCell s x.p
  let h := bits 39 0 x.bv
  let off := bits 29 14 x.imm
  let k := { x.k with
    chains := if x.k.chains.contains h then x.k.chains else x.k.chains ++ [h]
    trace := x.k.trace.map (fun t => { t with parked := true }), readCc := none, parkCell := cell }
  let s1 := modPipe (issued s0 x.p x.c) x.p (fun y => { y with
    ctxs := tdel y.ctxs x.c, parked := y.parked ++ [k] })
  let s2 := (piecesFrom (readMax s fid) 140 x.av (bits 13 0 x.imm)).foldl (fun s e =>
    issueRead s fid e.1 e.2 (fnStream (requester fid) x.p) (.dmar x.p k.ord h (off + (e.1 - x.av)))) s1
  if mayIssue s fid then s2 else failWaiting s2 (requester fid)

/-- DMAR READ. -/
def execDmarRead (p c : Nat) (s : State) : Res :=
  .next (withStep 11 0 p c s (fun x =>
    let fid := bits 51 40 x.bv
    unitGate s x fid (x.a.p || x.b.p)
      (if dmarBad s x then done s x .badOperand
      else if !inWindows s fid x.av (bits 13 0 x.imm) false then
        done (dmaViolation s fid x.av) x (if neverFrozen fid then .badOperand else .frozen)
      else if 2048 ≤ (pipeOf s p).parked.length then done s x .refusedBusy
      else parkRead s x fid)))

/-! ## XMIT CLASS (R197, R208, R230) -/

/-- The chain of the packet that w24 names, while the packet holds it. -/
def ownChain (k : Pkt) : Option Nat := if k.chains.contains k.handle then some k.handle else none

/-- The packet without the chain that w24 names: its cells are passed on. -/
def passChain (k : Pkt) : Pkt := { k with chains := k.chains.filter (fun h => h ≠ k.handle) }

/-- The gate of XMIT steps: the packet's function in the stocks, then poison, the frame's bytes included. -/
def xmitStep (op p c : Nat) (s : State) (f : StepIn → List PByte → State) : State :=
  withStep 12 op p c s (fun x =>
    let bs := pktBytes s x.k
    unitGate s x x.k.fid (x.a.p || x.b.p || (x.k.word 26).p || anyPoison bs) (f x bs))

/-- XMIT CLASS queues the frame in a class of a port, by Table 6.4; it waits for its turn (R18). -/
def execXmitClass (p c : Nat) (s : State) : Res :=
  .next (xmitStep 0 p c s (fun x bs =>
    let port := bits 7 0 x.imm
    let cls := bits 2 0 x.av
    if mustWait s p x.k (.port port cls) then holdStep s x
    else if (portBlock s port).isNone || !bitOf (8 + cls) x.imm then done s x .badOperand
    else
      match fixUp x.k.fix bs with
      | none => done s x .badOperand
      | some b =>
        let f : TxFrame :=
          { bytes := b, chain := ownChain x.k, spilled := false
            stampTag := if bitOf 16 x.imm then some (bits 47 16 (x.k.val 27)) else none
            stomp := x.a.p || (x.k.word 26).p, meas := x.k.measPort s }
        let (cc, s1) := queueFrame s port cls f
        if cc = .done then advance s1 x (passChain x.k) .done else done s1 x cc))

/-! ## XMIT LOOP (R221 to R224) -/

/-- The loop header of Table 7.3 from its first 16 bytes, the generation, and the maker's words; its bytes keep the marks of the
words they come from (R67). -/
def loopHeader (k : Pkt) (head : List PByte) (gen : Nat) : List PByte :=
  (head.set 1 (PByte.ofNat gen)) ++ markBytes (leBytes 8 (k.val 25)) (k.word 25).p ++
    markBytes (leBytes 2 (bits 15 0 (k.val 26))) (k.word 26).p ++ pbytes (List.replicate 6 0)

/-- Looped frames have room for one of `len` bytes in a pipeline's admission queue (R223). -/
def loopRoom (s : State) (p len : Nat) : Bool :=
  let x := pipeOf s p
  loopCells x + cellsOf len ≤ s.sw.loopMax && admitCells x + cellsOf len ≤ 4096

/-- Place a frame behind a loop header in the admission queue of the pipeline (R221, R224); its bytes lie in
the chain at `h`, which it takes over where `own` says. -/
def placeLoop (s : State) (p : Nat) (k : Pkt) (head : List PByte) (bs : List PByte) (h : Nat) (own : Bool) :
    Cc × State :=
  let gen := k.gen + 1
  let all := loopHeader k head gen ++ bs
  if 3 < gen then (.badOperand, s)
  else if !loopRoom s p all.length then (.refusedLimit, s)
  else
    let w := mkWords (fun i =>
      if i = 24 then h + all.length % 65536 * 2 ^ 40
      else if i = 25 then timeNow s
      else if i = 26 then timeFrac s + 0xFF * 2 ^ 16 + 0xFFF * 2 ^ 24
      else if i = 27 then 0xFFFF else 0)
    let n : Pkt :=
      { ord := 0, words := w, entry := 62, chains := if own then [h] else [], gen := gen, looped := true
        startNs := timeNow s, pathClass := some 0 }
    (.done, admitPkt (setChain s h all) p n)

/-- The cells of the frame that w24 names pass to the looped packet (R221): those of a chain that the packet holds, or of an
on-chip chain that its program had from GRN ALLOC, held by its function or by the device. -/
def loopChain (s : State) (k : Pkt) : Bool :=
  (ownChain k).isSome || (hPool k.handle < 4 && (heldByOwner s k.handle k.fid || heldByOwner s k.handle 0xFFF))

/-- XMIT LOOP. -/
def execXmitLoop (p c : Nat) (s : State) : Res :=
  .next (xmitStep 1 p c s (fun x bs =>
    if x.imm ≠ 0 then done s x .badOperand
    else
      match fixUp x.k.fix bs with
      | none => done s x .badOperand
      | some b =>
        let (cc, s1) := placeLoop s p x.k (markBytes (leBytes 8 x.av) x.a.p ++ markBytes (leBytes 8 x.bv) x.b.p) b x.k.handle
          (loopChain s x.k)
        if cc = .done then advance s1 x (passChain x.k) .done else done s1 x cc))

/-! ## XMIT MIRROR (R226, R227, R234) -/

/-- A member word is valid (R218): kind 0 is the zero word, and reserved fields are zero. -/
def memberValid (m : Nat) : Bool :=
  match m / 2 ^ 30 with
  | 0 => m = 0
  | 1 => bits 29 11 m = 0
  | 2 => bits 29 20 m = 0
  | _ => false

/-- Two members are equal under the comparison of R219: the port, or the FID. -/
def sameMember (a b : Nat) : Bool :=
  a / 2 ^ 30 = b / 2 ^ 30 &&
    (if a / 2 ^ 30 = 1 then a % 256 = b % 256 else a % 4096 = b % 4096)

/-- The five member words of list mode. -/
def members (x : StepIn) : List Nat :=
  let raw := [0, 1, 2].flatMap (fun i => leBytes 8 (x.k.val (x.w.srcA + i)))
  [0, 1, 2, 3, 4].map (fun i => leNat (slice raw (4 * i) 4))

/-- The members that get a copy. -/
def targets (x : StepIn) : List Nat :=
  let ex := bits 31 0 x.bv
  (members x).filter (fun m => m ≠ 0 && !(ex ≠ 0 && sameMember m ex))

/-- The first 16 bytes of the loop header of a copy (Table 7.3), marked where an operand of its step is (R67). -/
def copyHead (k : Pkt) (mark : Bool) (kind fid window session flags len : Nat) : List PByte :=
  markBytes ([kind, 0] ++ leBytes 2 k.fid ++ leBytes 2 fid ++ [window, k.port, 0, 0, 0, session, flags, 0] ++
    leBytes 2 len) mark

/-- An operand of a MIRROR step carries a mark: the member words or src_a, src_b, and w26. -/
def StepIn.copyMark (x : StepIn) : Bool :=
  x.a.p || x.b.p || (x.k.word 26).p || (!bitOf 0 x.imm && wordsPoisoned x.k x.w.srcA 3)

/-- Release the chain at a handle that a refused copy was granted. -/
def dropCopy (s : State) (h : Nat) (cc : Cc) : Cc × State :=
  if cc = .done then (cc, s) else (cc, releaseChain s h)

/-- One looped copy of bytes with a header, in cells of pool 1 of the device (R227). -/
def loopCopy (s : State) (p : Nat) (k : Pkt) (head : List PByte) (bs : List PByte) : Cc × State :=
  match fixUp k.fix bs with
  | none => (.badOperand, s)
  | some b =>
    match allocCells s 0xFFF 1 (b.length + 32) with
    | (.error st, s1) => (st.cc, s1)
    | (.ok h, s1) =>
      let (cc, s2) := placeLoop s1 p k head b h true
      dropCopy s2 h cc

/-- One copy to a port class, as XMIT CLASS would queue it; `mark` where an operand of the step is poisoned (R67). -/
def classCopy (s : State) (k : Pkt) (mark : Bool) (m : Nat) (bs : List PByte) : Cc × State :=
  match fixUp k.fix bs with
  | none => (.badOperand, s)
  | some b =>
    match allocCells s 0xFFF 1 b.length with
    | (.error st, s1) => (st.cc, s1)
    | (.ok h, s1) =>
      if (portBlock s1 (m % 256)).isNone then dropCopy s1 h .badOperand
      else
        let s2 := setChain s1 h b
        let (cc, s3) := queueFrame s2 (m % 256) (bits 10 8 m)
          { bytes := b, chain := some h, spilled := false, stampTag := none, stomp := mark }
        dropCopy s3 h cc

/-- The copies of list mode in member order: whether all were placed (R226, R227). -/
def copyAll (s : State) (p : Nat) (k : Pkt) (mark : Bool) (bs : List PByte) : List Nat → Bool × State
  | [] => (true, s)
  | m :: t =>
    let (cc, s1) := if m / 2 ^ 30 = 1 then classCopy s k mark m bs
      else loopCopy s p k (copyHead k mark 2 (m % 4096) (bits 19 12 m) 0xFF 0 bs.length) bs
    let s2 := if cc = .done then s1 else countDev s1 cCopyRefused
    let (ok, s3) := copyAll s2 p k mark bs t
    (cc = .done && ok, s3)

/-- A class of a port that an earlier packet may still deliver to. -/
def targetWaits (s : State) (p : Nat) (k : Pkt) (m : Nat) : Bool :=
  m / 2 ^ 30 = 1 && mustWait s p k (.port (m % 256) (bits 10 8 m))

/-- A session copy is taken at a transmit point (R235): the session is a port's tx_session, and the step is not the first
step of the packet's entry point, where an rx_session's copy is taken (log entry 119). -/
def atTransmit (s : State) (x : StepIn) (n : Nat) : Bool :=
  x.idx ≠ x.k.entry && (List.range (livePorts s).length).any (fun q => (portOf s q).txSession = n)

/-- A copy of session mode (R234): made on call 0 and every sample_n-th call, truncated to snap_len. -/
def sessionCopy (s : State) (x : StepIn) (n : Nat) (z : Session) (bs : List PByte) : State :=
  let key := n * 4 + x.p
  let call := tgetD s.sw.calls key 0
  let s1 := { s with sw := { s.sw with calls := tset s.sw.calls key (call + 1) } }
  if call % z.sampleN ≠ 0 then done s1 x .done
  else
    let cut := z.snapLen ≠ 0 && z.snapLen < bs.length
    let b := if cut then bs.take z.snapLen else bs
    let (cc, s2) := loopCopy s1 x.p x.k (copyHead x.k x.copyMark 3 z.fid z.window n (b2n cut + 2 * b2n (atTransmit s x n)) bs.length) b
    let put := fun (s : State) (y : Session) =>
      { s with sw := { s.sw with sessions := tset s.sw.sessions n y } }
    if cc = .done then done (put s2 { z with copies := z.copies + 1 }) x .done
    else done (countDev (put s2 { z with dropped := z.dropped + 1 }) cCopyRefused) x .refusedLimit

/-- XMIT MIRROR. A frame that cannot be fixed up is BAD_OPERAND, and no copy is placed (R230). -/
def execXmitMirror (p c : Nat) (s : State) : Res :=
  .next (xmitStep 2 p c s (fun x bs =>
    if (fixUp x.k.fix bs).isNone then done s x .badOperand
    else if bitOf 0 x.imm then
      let n := bits 6 1 x.imm
      match tget s.sw.sessions n with
      | none => done s x .badOperand
      | some z => sessionCopy s x n z bs
    else if !x.w.poisonOk && wordsPoisoned x.k x.w.srcA 3 then done s x .failedParity
    else if !(members x).all memberValid then done s x .badOperand
    else if (targets x).any (targetWaits s p x.k) then holdStep s x
    else
      let (ok, s1) := copyAll s p x.k x.copyMark bs (targets x)
      done s1 x (if ok then .done else .refusedLimit)))

end Sys2Proof.Machine
end

