-- ==== Sys2Proof/Machine/Selectors.lean ====
section
/-! DEFINITION. The selector registers (R183, R267, R315, R346): a write takes a snapshot of everything that the selection
shows, in one cycle. -/

namespace Sys2Proof.Machine

/-- The virtual function of a FID exists on the link (FN_STATE.vf_enabled, R320). -/
def vfShown (s : State) (fid : Nat) : Bool := isVf fid && vfExists s fid

/-- FN_SEL_WRITE. -/
def execFnSelWrite (v : Nat) (s : State) : Res :=
  .next (memWrite s 0 (
    let fid := bits 11 0 v
    { s with fmg := { s.fmg with sel := { fid := fid, fn := fnOf s fid, vfEnabled := vfShown s fid } } }))

/-- The figures of FWT_GRANT and FWT_GRANT_HELD for an owner, a table and a pipeline. -/
def tableGrantFigures (s : State) (fid t p : Nat) : List Nat :=
  let g := (grantOf s fid t p).getD {}
  [g.maxEntries, g.ovfReserve, ownedIn (fpOf s p) t fid, ovfHeld (fpOf s p) t fid]

/-- FWT_GRANT_SEL_WRITE. -/
def execFwtGrantSelWrite (v : Nat) (s : State) : Res :=
  .next (memWrite s 0 { s with fwt := { s.fwt with
    grantSel := bits 17 0 v, grantSnap := tableGrantFigures s (bits 11 0 v) (bits 15 12 v) (bits 17 16 v) } })

/-- FWT_OVF_SEL_WRITE. Which free entry a pending write has reserved is a free value (log entry 110). -/
def execFwtOvfSelWrite (v : Nat) (s : State) : Res :=
  .next (memWrite s 0 (
    let fp := fpOf s (bits 15 14 v)
    let e := tget fp.ovf (bits 13 0 v)
    let (d, s1) := draw s
    let res := e.isNone && !fp.writes.isEmpty && (Sys2Proof.Config.freeWord d).toNat % 2 = 1
    { s1 with fwt := { s1.fwt with ovfSel := bits 15 0 v, ovfSnap := e, ovfSnapRes := res } }))

/-- An SA as it stands: one of an earlier KEK's generation is ERASED (R264). -/
def saNow (s : State) (a : Sa) : Sa := if saErased s a then { a with st := .erased } else a

/-- CIP_SA_SEL_WRITE. -/
def execCipSaSelWrite (v : Nat) (s : State) : Res :=
  .next (memWrite s 0 { s with cip := { s.cip with
    saSel := bits 21 0 v, saSnap := (tget s.cip.sas (bits 21 0 v)).map (saNow s) } })

/-- The figures of CIP_GRANT and CIP_GRANT_HELD for a FID. -/
def cipherGrantFigures (s : State) (fid : Nat) : List Nat :=
  let g := cgrantOf s fid
  [g.lanes, g.saMax, g.activeMax, tcount s.cip.sas (fun _ a => a.owner = fid), activeSas s fid]

/-- CIP_GRANT_SEL_WRITE. -/
def execCipGrantSelWrite (v : Nat) (s : State) : Res :=
  .next (memWrite s 0 { s with cip := { s.cip with
    grantSel := bits 11 0 v, grantSnap := cipherGrantFigures s (bits 11 0 v) } })

/-- STG_CONN_SEL_WRITE. -/
def execStgConnSelWrite (v : Nat) (s : State) : Res :=
  .next (memWrite s 0 { s with stg := { s.stg with connSel := bits 15 0 v, connSnap := tget s.stg.conns (bits 15 0 v) } })

/-- STG_GRANT_SEL_WRITE. -/
def execStgGrantSelWrite (v : Nat) (s : State) : Res :=
  .next (memWrite s 0 { s with stg := { s.stg with
    grantSel := bits 11 0 v
    grantSnap := [tgetD s.stg.connMax (bits 11 0 v) 0, connsHeld s (bits 11 0 v)] } })

end Sys2Proof.Machine
end

