-- ==== Sys2Proof/Machine/Regs.lean ====
section
/-! DEFINITION. Register writes through the BARs (R7 to R13, R38, R355, R356) and writes of configuration space. Only the
registers with a writable field are listed: a write to any other offset is discarded and counted. Offsets from 2^32 up stand
for configuration space (log entry 109). -/

namespace Sys2Proof.Machine

/-- The registers with a writable field, and the windows with rules of their own. -/
inductive Reg where
  | devCtl | logCons
  | admCfg | admCmdBase | admRplBase | admCtr | admDb | rplPos | pathMask | svcPort | mbxSel | chain | pin (i : Nat)
  | seqFlip | seqWindow | seqBank (b : Nat) | seqEcc | stepLo (i : Nat) | stepHi (i : Nat)
  | weight (q : Nat) | doorbells (k o : Nat)
  | scrub | shareSel | query
  | ager | lockLimit | lockViol | parity | grantSel | ovfSel
  | timeStatus | timeAdj | timeStep | portCfg (n : Nat) | grpHash (n w : Nat) | lane (l : Nat) | cage (c : Nat)
  | claimLimit | cipAlarm | laneViol | saSel | cipGrantSel
  | haulStart (j : Nat) | haulAck (j : Nat) | haulStop (j : Nat)
  | connSel | stgGrantSel | fnSel | twnStatus | cntSnap
  | almCtl | calTrim | almAlarm | almFault
  | mbxWord (i : Nat) | mbxDb | msix (v w : Nat) | pba
  deriving DecidableEq, Repr

/-! ## Where the registers lie (Tables 1.7, 12.5, 12.6 and the offset table of each block) -/

/-- STW_ registers (Tables 14.17, 17.13): width in bytes, register. -/
def stwReg (o : Nat) : Option (Nat × Reg) :=
  match o with
  | 0x0C => some (4, .admCfg)
  | 0x10 => some (8, .admCmdBase)
  | 0x18 => some (8, .admRplBase)
  | 0x20 => some (8, .admCtr)
  | 0x28 => some (4, .admDb)
  | 0x38 => some (8, .rplPos)
  | 0x40 => some (4, .pathMask)
  | 0x44 => some (4, .svcPort)
  | 0x48 => some (4, .mbxSel)
  | 0x1300 => some (8, .chain)
  | _ => if 0x1400 ≤ o && o < 0x14C0 && o % 8 = 0 then some (8, .pin ((o - 0x1400) / 8)) else none

/-- SEQ_ registers (Table 2.10), in a block of 2 MiB. -/
def seqReg (o : Nat) : Option (Nat × Reg) :=
  match o with
  | 0x04 => some (4, .seqFlip)
  | 0x0C => some (4, .seqWindow)
  | 0x10 => some (8, .seqBank 0)
  | 0x18 => some (8, .seqBank 1)
  | 0x30 => some (8, .seqEcc)
  | _ =>
    if 0x100000 ≤ o && o % 16 = 0 then some (8, .stepLo ((o - 0x100000) / 16))
    else if 0x100000 ≤ o && o % 16 = 8 then some (8, .stepHi ((o - 0x100000) / 16))
    else none

/-- QM_ registers (Table 3.10), in a block of 2 MiB. -/
def qmReg (o : Nat) : Option (Nat × Reg) :=
  if 0x10000 ≤ o && o < 0x30000 then some (0, .doorbells ((o - 0x10000) / 0x200) (o % 0x200))
  else if 0x80000 ≤ o && o < 0x100000 && o % 0x20 = 0x18 then some (4, .weight ((o - 0x80000) / 0x20))
  else none

/-- GRN_ registers (Table 4.10). -/
def grnReg (o : Nat) : Option (Nat × Reg) :=
  match o with
  | 0x0C => some (4, .scrub)
  | 0x28 => some (4, .shareSel)
  | 0x40 => some (8, .query)
  | _ => none

/-- FWT_ registers (Table 5.9). -/
def fwtReg (o : Nat) : Option (Nat × Reg) :=
  match o with
  | 0x0C => some (4, .ager)
  | 0x10 => some (4, .lockLimit)
  | 0x18 => some (8, .lockViol)
  | 0x20 => some (8, .parity)
  | 0x40 => some (4, .grantSel)
  | 0x58 => some (4, .ovfSel)
  | _ => none

/-- MAC_ registers (Table 6.9). -/
def macReg (o : Nat) : Option (Nat × Reg) :=
  match o with
  | 0x2C => some (4, .timeStatus)
  | 0x30 => some (4, .timeAdj)
  | 0x38 => some (8, .timeStep)
  | 0x100 => some (8, .cage 0)
  | 0x140 => some (8, .cage 1)
  | _ =>
    if 0x200 ≤ o && o < 0x240 && o % 8 = 0 then some (8, .lane ((o - 0x200) / 8))
    else if 0x10000 ≤ o && o < 0x18000 then
      let n := (o - 0x10000) / 0x1000
      let r := o % 0x1000
      if r = 0 then some (8, .portCfg n)
      else if 0x200 ≤ r && r < 0x400 && r % 8 = 0 then some (8, .grpHash n ((r - 0x200) / 8))
      else none
    else none

/-- CIP_ registers (Table 8.10). -/
def cipReg (o : Nat) : Option (Nat × Reg) :=
  match o with
  | 0x0C => some (4, .claimLimit)
  | 0x18 => some (8, .cipAlarm)
  | 0x20 => some (8, .laneViol)
  | 0x28 => some (4, .saSel)
  | 0x48 => some (4, .cipGrantSel)
  | _ => none

/-- HAUL_ registers (Table 9.10). -/
def haulReg (o : Nat) : Option (Nat × Reg) :=
  if 0x1000 ≤ o && o < 0x1400 && o % 0x40 = 0x28 then some (8, .haulStart ((o - 0x1000) / 0x40))
  else if 0x1000 ≤ o && o < 0x1400 && o % 0x40 = 0x30 then some (4, .haulAck ((o - 0x1000) / 0x40))
  else none

/-- STG_ registers (Table 10.14). -/
def stgReg (o : Nat) : Option (Nat × Reg) :=
  match o with
  | 0x10 => some (4, .connSel)
  | 0x30 => some (4, .stgGrantSel)
  | _ => none

/-- TWN_ registers (Table 13.9). -/
def twnReg (o : Nat) : Option (Nat × Reg) :=
  match o with
  | 0x08 => some (8, .twnStatus)
  | 0x100 => some (8, .lane 8)
  | 0x108 => some (8, .lane 9)
  | _ => none

/-- ALM_ registers (Table 16.12). -/
def almReg (o : Nat) : Option (Nat × Reg) :=
  match o with
  | 0x0C => some (4, .almCtl)
  | 0x1C => some (4, .calTrim)
  | 0x38 => some (8, .almAlarm)
  | 0x40 => some (4, .almFault)
  | _ => none

/-- PF0's BAR0 (Table 1.7). -/
def pf0Reg (off : Nat) : Option (Nat × Reg) :=
  let o := off % 0x100000
  match off / 0x100000 with
  | 0 => if o = 0x14 then some (4, .devCtl) else if o = 0x1C then some (4, .logCons) else none
  | 1 => stwReg o
  | 2 => seqReg o
  | 3 => seqReg (0x100000 + o)
  | 4 => qmReg o
  | 5 => qmReg (0x100000 + o)
  | 6 => grnReg o
  | 7 => fwtReg o
  | 8 => macReg o
  | 9 => cipReg o
  | 10 => haulReg o
  | 11 => stgReg o
  | 12 => if o = 0x40 then some (4, .fnSel) else none
  | 13 => twnReg o
  | 14 => almReg o
  | 15 => if o = 0x0C then some (4, .cntSnap) else none
  | _ => none

/-- HAUL_VF registers at an offset within their area (Table 9.12). -/
def haulVfReg (o : Nat) : Option (Nat × Reg) :=
  let j := o / 0x20
  match o % 0x20 with
  | 0x00 => some (8, .haulStart j)
  | 0x08 => some (8, .haulAck j)
  | 0x18 => some (8, .haulStop j)
  | _ => none

/-- A place in an MSI-X table: vector and 4-byte word. -/
def msixReg (o : Nat) : Option (Nat × Reg) := if o % 4 = 0 then some (0, .msix (o / 16) (o / 4 % 4)) else none

/-- PF1's BAR0 (Table 12.5). -/
def pf1Reg (off : Nat) : Option (Nat × Reg) :=
  if off < 0x20000 then some (0, .doorbells (off / 0x200) (off % 0x200))
  else if off < 0x21000 then (if off % 8 = 0 then some (8, .mbxWord ((off - 0x20000) / 8)) else none)
  else if off = 0x22000 then some (8, .mbxDb)
  else if 0x2C000 ≤ off && off < 0x30000 then haulVfReg (off - 0x2C000)
  else if 0x30000 ≤ off && off < 0x30800 then msixReg (off - 0x30000)
  else if 0x38000 ≤ off && off < 0x38010 then some (0, .pba)
  else none

/-- A virtual function's BAR0 (Table 12.6). -/
def vfReg (off : Nat) : Option (Nat × Reg) :=
  if off < 0x8000 then some (0, .doorbells (off / 0x200) (off % 0x200))
  else if off < 0x8800 then (if off % 8 = 0 then some (8, .mbxWord ((off - 0x8000) / 8)) else none)
  else if off = 0x9000 then some (8, .mbxDb)
  else if 0xB800 ≤ off && off < 0xC000 then haulVfReg (off - 0xB800)
  else if 0xC000 ≤ off && off < 0xC800 then msixReg (off - 0xC000)
  else if 0xD000 ≤ off && off < 0xD010 then some (0, .pba)
  else none

/-- The register at an offset of a function's BAR. -/
def regAt (fid off : Nat) : Option (Nat × Reg) :=
  if fid = 0 then pf0Reg off else if fid = 1 then pf1Reg off else vfReg off

/-! ## What a full-width write does (R13) -/

/-- A write that is discarded: counted for the function through whose BAR it arrived. -/
def denyWrite (s : State) (fid : Nat) : State := count s fid cRegWriteDenied

/-- STW_ADMIN_CFG: size_log2 is stored only while the ring is disabled, and only from 6 to 12; enable acts in either case
(R423). -/
def writeAdmCfg (s : State) (v : Nat) : State :=
  let sz := bits 7 4 v
  let bad := s.stw.admEnable || sz < 6 || 12 < sz
  let s1 : State := { s with stw := { s.stw with
    admEnable := bitOf 0 v, admSizeLog2 := if bad then s.stw.admSizeLog2 else sz } }
  if bad then denyWrite s1 0 else s1

/-- A base of the admin ring, aligned as R86 requires of a ring of at least 4 KiB. -/
def admBaseOk (s : State) (v : Nat) : Bool := !s.stw.admEnable && v % 4096 = 0

/-- The Steward's registers. -/
def writeStw (s : State) (r : Reg) (v : Nat) : State :=
  match r with
  | .admCfg => writeAdmCfg s v
  | .admCmdBase => if admBaseOk s v then { s with stw := { s.stw with cmdBase := v } } else denyWrite s 0
  | .admRplBase => if admBaseOk s v then { s with stw := { s.stw with rplBase := v } } else denyWrite s 0
  | .admCtr => if s.stw.admEnable || v % 4 ≠ 0 then denyWrite s 0 else { s with stw := { s.stw with ctrAddr := v } }
  | .pathMask => { s with stw := { s.stw with svcMask := bits 12 0 v, mctpMask := bits 28 16 v } }
  | .svcPort => { s with stw := { s.stw with udpPort := bits 15 0 v } }
  | .mbxSel => { s with stw := { s.stw with mbxSel := bits 11 0 v } }
  | .chain => if bitOf 9 v then { s with fw := { s.fw with chainSeen := false } } else s
  | .pin i =>
    if s.fw.sessions.isEmpty then { s with fw := { s.fw with pins := tput 0 s.fw.pins i (BitVec.ofNat 64 v) } }
    else denyWrite s 0
  | _ => s

/-- SEQ_BANK_x: seal and discard are actions; a write of both asks for them in turn. -/
def writeBank (s : State) (b v : Nat) : State :=
  let s1 := if bitOf 8 v then (execSealRequest b s).after s else s
  if bitOf 9 v then (execDiscardRequest b s1).after s1 else s1

/-- The step engines' and the queue manager's registers. -/
def writeSeq (s : State) (fid : Nat) (r : Reg) (v : Nat) : State :=
  match r with
  | .seqFlip => (execSeqFlipGo v s).after s
  | .seqWindow => { s with seq := { s.seq with winBank := bits 0 0 v, readCluster := bits 2 1 v } }
  | .seqBank b => writeBank s b v
  | .seqEcc => if bitOf 35 v then { s with seq := { s.seq with eccSeen := false } } else s
  | .stepLo i => (execStepLoWrite i v s).after s
  | .stepHi i => (execStepHiWrite i v s).after s
  | .weight q =>
    let w := bits 7 0 v
    let b := bits 14 8 v
    if w = 0 || b = 0 || 64 < b then denyWrite s fid else setWeight s q w b
  | _ => s

/-- The Granary's and the forwarding tables' registers. -/
def writeStore (s : State) (r : Reg) (v : Nat) : State :=
  match r with
  | .scrub =>
    if 400 < bits 15 0 v then denyWrite s 0 else { s with grn := { s.grn with scrubRate := bits 15 0 v } }
  | .shareSel => { s with grn := { s.grn with shareSelPool := bits 5 0 v, shareSelFid := bits 19 8 v } }
  | .query => (execGrnQueryWrite v s).after s
  | .ager =>
    let rate := bits 14 8 v
    let s1 : State := { s with fwt := { s.fwt with agerEnable := bitOf 0 v } }
    if rate < 1 || 64 < rate then denyWrite s1 0 else { s1 with fwt := { s1.fwt with agerRate := rate } }
  | .lockLimit =>
    let l := bits 9 0 v
    if l < 10 || 1000 < l then denyWrite s 0 else { s with fwt := { s.fwt with lockLimitUs := l } }
  | .lockViol => if bitOf 41 v then { s with fwt := { s.fwt with violSeen := false } } else s
  | .parity => if bitOf 30 v then { s with fwt := { s.fwt with parSeen := false } } else s
  | .grantSel => (execFwtGrantSelWrite v s).after s
  | .ovfSel => (execFwtOvfSelWrite v s).after s
  | _ => s

/-- A signed 32-bit freq_adj lies within its range (R217). -/
def freqOk (v : Nat) : Bool := v ≤ 2147483 || (2 ^ 32 - 2147483 ≤ v && v < 2 ^ 32)

/-- The MACs' registers; those of a port that the live layout lacks take no write (R217). -/
def writeMac (s : State) (r : Reg) (v : Nat) : State :=
  match r with
  | .timeStatus => if bitOf 1 v then { s with mac := { s.mac with ppsSeen := false } } else s
  | .timeAdj => if freqOk v then { s with mac := { s.mac with freqAdj := BitVec.ofNat 32 v } } else denyWrite s 0
  | .timeStep => (execMacTimeStepWrite v s).after s
  | .portCfg n =>
    if n < (livePorts s).length then setPort s n { portOf s n with laneFix := bits 5 4 v } else denyWrite s 0
  | .grpHash n w =>
    if n < (livePorts s).length then
      setPort s n { portOf s n with grpHash := tput 0 (portOf s n).grpHash w (BitVec.ofNat 64 v) }
    else denyWrite s 0
  | .lane l =>
    let x := macLane s l
    setLaneReg s l { x with
      txInvert := if l < 8 then bitOf 12 v else x.txInvert
      faultSeen := x.faultSeen && !bitOf 16 v }
  | .cage c => if bitOf 12 v then setCage s c { cageOf s c with faultSeen := false } else s
  | _ => s

/-- The cipher lanes', the storage initiator's, the function manager's, the twin link's and the counters' registers. -/
def writeUnits (s : State) (r : Reg) (v : Nat) : State :=
  match r with
  | .claimLimit =>
    let l := bits 9 0 v
    if l < 10 || 1000 < l then denyWrite s 0 else { s with cip := { s.cip with claimLimitUs := l } }
  | .cipAlarm => if bitOf 8 v then { s with cip := { s.cip with seen := false } } else s
  | .laneViol => if bitOf 17 v then { s with cip := { s.cip with violSeen := false } } else s
  | .saSel => (execCipSaSelWrite v s).after s
  | .cipGrantSel => (execCipGrantSelWrite v s).after s
  | .connSel => (execStgConnSelWrite v s).after s
  | .stgGrantSel => (execStgGrantSelWrite v s).after s
  | .fnSel => (execFnSelWrite v s).after s
  | .twnStatus => { s with twn := { s.twn with
      peerLostSeen := s.twn.peerLostSeen && !bitOf 10 v
      splitSeen := s.twn.splitSeen && !bitOf 11 v
      divergedSeen := s.twn.divergedSeen && !bitOf 12 v } }
  | .cntSnap => (execCntSnapWrite v s).after s
  | _ => s

/-- A trim outside ±20,000 is discarded (R472). -/
def trimOk (v : Nat) : Bool := v ≤ 20000 || (65536 - 20000 ≤ v && v < 65536)

/-- The Almanac's registers. -/
def writeAlm (s : State) (r : Reg) (v : Nat) : State :=
  match r with
  | .almCtl =>
    let s1 := if bitOf 0 v then (execStewardRestart s).after s else s
    if bitOf 1 v then (execAlmanacRestart s1).after s1 else s1
  | .calTrim =>
    if trimOk (bits 15 0 v) then { s with alm := { s.alm with trim := bits 15 0 v } } else denyWrite s 0
  | .almAlarm => if bitOf 8 v then { s with alm := { s.alm with alarmSeen := false } } else s
  | .almFault => if bitOf 8 v then { s with alm := { s.alm with faultSeen := false } } else s
  | _ => s

/-! ## Mailbox buffers and MSI-X tables -/

/-- Eight bytes of a mailbox's command buffer (R401). -/
def writeMbx (s : State) (fid i v : Nat) : State :=
  modFn s fid (fun f => { f with mbx := { f.mbx with
    cmd := (List.range 8).foldl (fun t k => tput 0 t (8 * i + k) (v / 256 ^ k % 256)) f.mbx.cmd } })

/-- One 4-byte word of an MSI-X table entry: address, upper address, data, vector control. -/
def MsixVec.write (x : MsixVec) (w v : Nat) : MsixVec :=
  match w with
  | 0 => { x with addr := x.addr / 2 ^ 32 * 2 ^ 32 + v % 2 ^ 32 }
  | 1 => { x with addr := x.addr % 2 ^ 32 + v % 2 ^ 32 * 2 ^ 32 }
  | 2 => { x with data := v % 2 ^ 32 }
  | _ => { x with mask := bitOf 0 v }

/-- Four or eight bytes of an MSI-X table (R356, R361): messages held by a mask that is now clear go out. -/
def writeMsix (s : State) (fid vec w size v : Nat) : State :=
  if size ≠ 4 && (size ≠ 8 || w % 2 ≠ 0) then s
  else
    let f := pciOf s fid
    let x := (tgetD f.vecs vec {}).write w v
    let y := if size = 8 then x.write (w + 1) (v / 2 ^ 32) else x
    sendHeld (setPci s fid { f with vecs := tput {} f.vecs vec y }) fid

/-- The functions' own registers. -/
def writeFn (s : State) (fid : Nat) (r : Reg) (v : Nat) : State :=
  match r with
  | .haulStart j => (execHaulStartWrite fid j v s).after s
  | .haulAck j => (execHaulAckWrite fid j (bits 15 0 v) (bits 31 16 v) s).after s
  | .haulStop j =>
    if (regChan s fid j).isNone then denyWrite s fid
    else if bitOf 0 v then (execHaulStopWrite fid j s).after s else s
  | .mbxWord i => writeMbx s fid i v
  | .mbxDb => (execMailboxDoorbell fid v s).after s
  | _ => s

/-- A full-width write acts on its register. -/
def writeReg (s : State) (fid : Nat) (r : Reg) (v : Nat) : State :=
  match r with
  | .devCtl => { s with dev := { s.dev with compatEnable := bitOf 0 v } }
  | .logCons => (execDevLogConsWrite v s).after s
  | .admDb => (execAdminDoorbell v s).after s
  | .rplPos => (execAdminReplyConsumerWrite (bits 63 32 v) s).after s
  | .admCfg | .admCmdBase | .admRplBase | .admCtr | .pathMask | .svcPort | .mbxSel | .chain | .pin _ => writeStw s r v
  | .seqFlip | .seqWindow | .seqBank _ | .seqEcc | .stepLo _ | .stepHi _ | .weight _ => writeSeq s fid r v
  | .scrub | .shareSel | .query | .ager | .lockLimit | .lockViol | .parity | .grantSel | .ovfSel => writeStore s r v
  | .timeStatus | .timeAdj | .timeStep | .portCfg _ | .grpHash _ _ | .lane _ | .cage _ => writeMac s r v
  | .claimLimit | .cipAlarm | .laneViol | .saSel | .cipGrantSel | .connSel | .stgGrantSel | .fnSel | .twnStatus
  | .cntSnap => writeUnits s r v
  | .almCtl | .calTrim | .almAlarm | .almFault => writeAlm s r v
  | .haulStart _ | .haulAck _ | .haulStop _ | .mbxWord _ | .mbxDb => writeFn s fid r v
  | .doorbells _ _ | .msix _ _ | .pba => s

/-! ## Configuration space -/

/-- The bit `k` of a configuration dword after a write of `size` bytes at byte `b` of it; none where it is not written. -/
def cfgBit (b size v k : Nat) : Option Bool :=
  if 8 * b ≤ k && k < 8 * (b + size) then some (bitOf (k - 8 * b) v) else none

/-- The bits `lo` to `hi` of a configuration dword, where the write covers them all. -/
def cfgField (b size v hi lo : Nat) : Option Nat :=
  if 8 * b ≤ lo && hi < 8 * (b + size) then some (bits (hi - 8 * b) (lo - 8 * b) v) else none

/-- A dword from its bits. -/
def cfgBits (f : Nat → Bool) : Nat := ((List.range 32).map (fun k => b2n (f k) * 2 ^ k)).sum

/-- A configuration dword after a write: the bits of a mask that the written bytes cover take the new value. -/
def cfgMerge (old b size v mask : Nat) : Nat :=
  cfgBits (fun k => ((if bitOf k mask then cfgBit b size v k else none)).getD (bitOf k old))

/-- A configuration dword after a write of W1C bits: those of a mask written as 1 are cleared. -/
def cfgClear (old b size v mask : Nat) : Nat :=
  cfgBits (fun k => bitOf k old && !(bitOf k mask && cfgBit b size v k = some true))

/-- The Command register: Memory Space Enable of a physical function, Bus Master Enable, PF0's Interrupt Disable. -/
def cfgCommand (s : State) (fid : Nat) (bit : Nat → Option Bool) : State :=
  let s1 := match bit 1 with
    | some x => if fid ≤ 1 then setPci s fid { pciOf s fid with mse := x } else s
    | none => s
  let s2 := match bit 2 with
    | some true => if (pciOf s1 fid).bme then s1 else (execBusMasterEnableSet fid s1).after s1
    | some false => (execBusMasterEnableClear fid s1).after s1
    | none => s1
  match bit 10 with
  | some x => if fid = 0 then (execInterruptDisableWrite x s2).after s2 else s2
  | none => s2

/-- The power management control and status register: PowerState, and in PF0 PME_En and the W1C PME_Status. -/
def cfgPower (s : State) (fid : Nat) (bit : Nat → Option Bool) (state : Option Nat) : State :=
  let s1 : State := if fid ≠ 0 then s
    else { s with pci := { s.pci with
      pmeEn := (bit 8).getD s.pci.pmeEn, pmeStatus := s.pci.pmeStatus && bit 15 ≠ some true } }
  match state with
  | some d => (execPowerStateWrite fid d s1).after s1
  | none => s1

/-- MSI-X Message Control: Enable and Function Mask. -/
def cfgMsix (s : State) (fid : Nat) (bit : Nat → Option Bool) : State :=
  let f := pciOf s fid
  sendHeld (setPci s fid { f with
    msixEnable := (bit 31).getD f.msixEnable, msixMask := (bit 30).getD f.msixMask }) fid

/-- SR-IOV Control: VF Enable, VF MSE and ARI Capable Hierarchy. -/
def cfgSriov (s : State) (bit : Nat → Option Bool) : State :=
  let s1 : State := { s with pci := { s.pci with
    vfMse := (bit 3).getD s.pci.vfMse, ari := (bit 4).getD s.pci.ari } }
  match bit 0 with
  | some true => if s1.pci.vfEnable then s1 else (execSriovVfEnableSet s1.pci.numVfs s1).after s1
  | some false => (execSriovVfDisable true 0 s1).after s1
  | none => s1

/-- The AER capability of a function (R349, R353): the status registers are W1C; a virtual function has no mask, severity or
control bits of its own. -/
def cfgAer (f : PciFn) (pf : Bool) (o b size v : Nat) : PciFn :=
  match o with
  | 0x104 => { f with aerUnc := cfgClear f.aerUnc b size v 0x07FFF030 }
  | 0x108 => if pf then { f with aerUncMask := cfgMerge f.aerUncMask b size v 0x07FFF030 } else f
  | 0x10C => if pf then { f with aerUncSev := cfgMerge f.aerUncSev b size v 0x07FFF030 } else f
  | 0x110 => { f with aerCor := cfgClear f.aerCor b size v 0xF1C1 }
  | 0x114 => if pf then { f with aerCorMask := cfgMerge f.aerCorMask b size v 0xF1C1 } else f
  | 0x118 => if pf then { f with aerCtl := cfgMerge f.aerCtl b size v 0x140 } else f
  | _ => f

/-- The fields of a physical function's header and PCI Express capability that only software gives a meaning (R349): BAR0,
Interrupt Line, Device Control, Device Control 2 and Link Control. A Max_Payload_Size above 512 bytes, or a
Max_Read_Request_Size above 4,096, is not taken. -/
def cfgHold (f : PciFn) (fid o b size v : Nat) : PciFn :=
  let mask := if fid = 0 then 2 ^ 26 else 2 ^ 20
  match o with
  | 0x10 => { f with bar := (f.bar / 2 ^ 32 * 2 ^ 32 + cfgMerge (f.bar % 2 ^ 32) b size v 0xFFFFFFFF) / mask * mask }
  | 0x14 => { f with bar := cfgMerge (f.bar / 2 ^ 32) b size v 0xFFFFFFFF * 2 ^ 32 + f.bar % 2 ^ 32 }
  | 0x3C => if fid = 0 then { f with intLine := cfgMerge f.intLine b size v 0xFF } else f
  | 0x58 =>
    let n := cfgMerge f.devCtl b size v 0x79FF
    { f with devCtl := if 2 < bits 7 5 n || 5 < bits 14 12 n then f.devCtl else n }
  | 0x60 => { f with linkCtl := cfgMerge f.linkCtl b size v 0xC2 }
  | 0x78 => { f with devCtl2 := cfgMerge f.devCtl2 b size v 0x1300 }
  | _ => f

/-- Device Control 2: the completion timeout value. An encoding absent from Table 12.7 leaves the field as it is (R363). -/
def cfgTimeout (s : State) (fid : Nat) (x : Option Nat) : State :=
  match x.filter (fun c => (ctoNs c).isSome) with
  | none => s
  | some c =>
    if fid = 0 then { s with pci := { s.pci with ctoPf0 := c } }
    else if fid = 1 then { s with pci := { s.pci with ctoPf1 := c } }
    else s

/-- System Page Size and VF BAR0 of the SR-IOV capability. -/
def cfgVfBar (s : State) (o b size v : Nat) : State :=
  let x := s.pci.vfBar
  let lo := (x / 2 ^ 32 * 2 ^ 32 + cfgMerge (x % 2 ^ 32) b size v 0xFFFFFFFF) / 65536 * 65536
  { s with pci := { s.pci with
    sysPage := if o = 0x2E0 then cfgMerge s.pci.sysPage b size v 0x553 else s.pci.sysPage
    vfBar := if o = 0x2E4 then lo
      else if o = 0x2E8 then cfgMerge (x / 2 ^ 32) b size v 0xFFFFFFFF * 2 ^ 32 + x % 2 ^ 32
      else x } }

/-- PCI_PWR.wake_seen and PCI_LATE.seen. -/
def cfgSeen (s : State) (pwr : Bool) (bit : Nat → Option Bool) : State :=
  if pwr then { s with pci := { s.pci with wakeSeen := s.pci.wakeSeen && bit 19 ≠ some true } }
  else { s with pci := { s.pci with lateSeen := s.pci.lateSeen && bit 27 ≠ some true } }

/-- The effects of a write of configuration space on a field that acts (Tables 12.4 and 12.13). A write of PCI_PWR or PCI_LATE
that is not 32 bits wide is discarded (R9). -/
def cfgAct (s : State) (fid off size v : Nat) : State :=
  let b := off % 4
  let bit := cfgBit b size v
  match off / 4 * 4 with
  | 0x04 => cfgCommand s fid bit
  | 0x44 => if fid ≤ 1 then cfgPower s fid bit (cfgField b size v 1 0) else s
  | 0x58 => if bit 15 = some true then (execFunctionLevelReset fid s).after s else s
  | 0x78 => cfgTimeout s fid (cfgField b size v 3 0)
  | 0x90 => if fid = 0 then s else cfgMsix s fid bit
  | 0x2C8 => if fid = 0 then cfgSriov s bit else s
  | 0x2D0 =>
    if fid ≠ 0 then s
    else
      match cfgField b size v 15 0 with
      | some n => (execSriovVfDisable false n s).after s
      | none => s
  | 0x2E0 | 0x2E4 | 0x2E8 => if fid = 0 then cfgVfBar s (off / 4 * 4) b size v else s
  | 0x418 => if fid = 0 && size = 4 then cfgSeen s true bit else s
  | 0x41C => if fid = 0 && size = 4 then cfgSeen s false bit else s
  | _ => s

/-- A write of configuration space: the fields that are only held take it first; nothing is counted. -/
def writeConfig (s : State) (fid off size v : Nat) : State :=
  let o := off / 4 * 4
  let b := off % 4
  let f := pciOf s fid
  let g := cfgAer (if fid ≤ 1 then cfgHold f fid o b size v else f) (fid ≤ 1) o b size v
  cfgAct (setPci s fid g) fid off size v

/-! ## REGISTER_WRITE -/

/-- A memory write of at most 8 bytes that reached a BAR. -/
def barWrite (s : State) (fid off size v : Nat) : State :=
  match regAt fid off with
  | some (_, .doorbells k o) => (execDoorbell fid k o size v s).after s
  | some (_, .msix vec w) => writeMsix s fid vec w size v
  | some (_, .pba) => s
  | some (n, r) => if size = n then writeReg s fid r (v % 2 ^ (8 * n)) else denyWrite s fid
  | none => denyWrite s fid

/-- REGISTER_WRITE: a write to a register with a row of its own acts as that row does. One of more than 8 bytes is discarded and
counted (R356), into a doorbell window too, where R97 calls it a violation: the DOORBELL and INLINE_PUSH rows take R97
(DESIGN CHOICE, log entry 134). -/
def execRegisterWrite (fid off size v : Nat) (s : State) : Res :=
  .next (if 2 ^ 32 ≤ off then
      (if cfgReach s fid && 1 ≤ size && off % 4 + size ≤ 4 then writeConfig s fid (off - 2 ^ 32) size v else s)
    else if !memReach s fid then s
    else if size = 0 || 8 < size then denyWrite s fid
    else barWrite s fid off size v)

end Sys2Proof.Machine
end

