-- ==== Sys2Proof/Machine/Spdm.lean ====
section
/-! DEFINITION. The SPDM responder (R482, R484): certificate chain, challenge, measurements and key exchange. The message
layouts are those of DMTF DSP0274 version 1.2 (PRESUMED, log entry 106). -/

namespace Sys2Proof.Machine

/-- The code of a transport in event 0x020C (Table 14.21). -/
def spdmCode (p : SpdmPath) : Nat :=
  match p with
  | .doe => 0 | .mctp => 1 | .svc => 2 | .twin => 3

/-- A response: version 1.2, its code, its two parameters and its body. -/
def spdmSend (s : State) (path : SpdmPath) (code p1 p2 : Nat) (body : List Nat) : State :=
  emit s (.spdm path ([0x12, code, p1, p2] ++ body))

/-- A random number of 48 bytes: six draws. -/
def drawScalar (s : State) : Nat × State :=
  (leNat ((List.range 6).flatMap (fun i => leBytes 8 (Sys2Proof.Config.freeWord (s.draws + i)).toNat)),
    { s with draws := s.draws + 6 })

/-- A response that the DeviceID key signs: the signature covers the response and the requester's nonce. -/
def spdmSigned (s : State) (path : SpdmPath) (code p1 p2 nonce : Nat) (body : List Nat) : State :=
  let (k, s1) := drawScalar s
  let digest := sha384 ([0x12, code, p1, p2] ++ body ++ leBytes 32 nonce)
  spdmSend s1 path code p1 p2 (body ++ ecdsaSign Sys2Proof.Config.deviceKey k digest)

/-- An ERROR response. -/
def spdmError (s : State) (path : SpdmPath) (e : Nat) : State := spdmSend s path 0x7F e 0 []

/-- The Steward answers SPDM while it runs. -/
def spdmUp (s : State) (path : SpdmPath) : Bool := s.stw.ready && (path ≠ .svc || (macLane s 10).fault = 0)

/-- The certificate chain of slot 0. -/
def certBytes : List Nat := Sys2Proof.Config.certChain.map (· % 256)

/-- SPDM_GET_CERTIFICATE: a portion of the chain from an offset, and how much is left. -/
def execSpdmGetCertificate (path : SpdmPath) (off len : Nat) (s : State) : Res :=
  .next (if !spdmUp s path then s
    else if certBytes.length < off then spdmError s path 1
    else
      let part := slice certBytes off len
      spdmSend s path 0x02 0 0
        (leBytes 2 part.length ++ leBytes 2 (certBytes.length - off - part.length) ++ part))

/-- 32 random bytes, and the state after drawing them. -/
def spdmNonce (s : State) : List Nat × State :=
  let (d, s1) := draw4 s
  (randomBytes d, s1)

/-- SPDM_CHALLENGE. -/
def execSpdmChallenge (path : SpdmPath) (nonce : Nat) (s : State) : Res :=
  .next (if !spdmUp s path then s
    else
      let (r, s1) := spdmNonce s
      spdmSigned s1 path 0x03 0 1 nonce (sha384 certBytes ++ r ++ leBytes 2 0))

/-- A digest as 48 bytes. -/
def digest48 (d : List Nat) : List Nat := (d ++ List.replicate 48 0).take 48

/-- Measurement 17: the life-cycle state and the nine floors (Table 17.7). -/
def lifeMeasure (s : State) : List Nat :=
  sha384 (s.alm.lcState :: (List.range 9).flatMap (fun i => leBytes 4 (floorOf s (i + 1))))

/-- Measurement 18: the step words of the CURRENT bank, index 0 first. -/
def bankMeasure (s : State) : List Nat :=
  match currentBank s with
  | some c => sha384 ((List.range 65536).flatMap (fun i => leBytes 16 (tgetD (bankOf s c).steps i 0).toNat))
  | none => List.replicate 48 0

/-- The value of a measurement block, if there is one of that index (Table 17.7). -/
def measureOf (s : State) (i : Nat) : Option (List Nat) :=
  if 1 ≤ i && i ≤ 7 then some (digest48 (runningOf s i).digest)
  else if i = 16 then
    some (if s.fw.compatSet then List.replicate 48 0 else digest48 ((s.fw.runManifest.map (·.digest)).getD []))
  else if i = 17 then some (lifeMeasure s)
  else if i = 18 then some (bankMeasure s)
  else none

/-- The indices of Table 17.7. -/
def measureIndices : List Nat := [1, 2, 3, 4, 5, 6, 7, 16, 17, 18]

/-- One measurement block. -/
def measureBlock (i : Nat) (v : List Nat) : List Nat := [i, 1] ++ leBytes 2 51 ++ [1] ++ leBytes 2 48 ++ v

/-- The blocks that a request names: all of them for index 255, else the one. -/
def measureBlocks (s : State) (index : Nat) : List (List Nat) :=
  (if index = 255 then measureIndices else [index]).filterMap (fun i => (measureOf s i).map (measureBlock i))

/-- GET_MEASUREMENTS: index 0 asks how many blocks there are. -/
def execGetMeasurements (path : SpdmPath) (index nonce : Nat) (s : State) : Res :=
  .next (if !spdmUp s path then s
    else
      let bs := if index = 0 then [] else measureBlocks s index
      if index ≠ 0 && bs.isEmpty then spdmError s path 1
      else
        let body := bs.flatten
        let (r, s1) := spdmNonce s
        spdmSigned s1 path 0x60 (if index = 0 then measureIndices.length else 0) 0 nonce
          ([bs.length] ++ leBytes 3 body.length ++ body ++ r ++ leBytes 2 0))

/-- The pinned hash of a key slot (STW_PIN_k). -/
def pinOf (s : State) (k : Nat) : List Nat :=
  (List.range 6).flatMap (fun w => leBytes 8 (tgetD s.fw.pins (6 * k + w) 0).toNat)

/-- A leaf key hash equals a pin that is not empty (R482, R495). -/
def pinned (s : State) (h : List Nat) : Bool :=
  (List.range 4).any (fun k => pinOf s k = h && h.any (fun b => b ≠ 0))

/-- KEY_EXCHANGE: the session opens, or is refused with event 0x020C. -/
def execKeyExchange (path : SpdmPath) (leafHash : List Nat) (mutualAuth : Bool) (s : State) : Res :=
  .next (if !spdmUp s path then s
    else if mutualAuth && pinned s leafHash then
      let (r, s1) := spdmNonce s
      let s2 : State := if s1.fw.sessions.contains path then s1
        else { s1 with fw := { s1.fw with sessions := s1.fw.sessions ++ [path] } }
      spdmSigned s2 path 0x64 0 0 0 r
    else
      spdmError (logEvent s 0x020C 0xFFF [.num 1 (spdmCode path), .num 8 (imgField leafHash 0 8)]) path 5)

end Sys2Proof.Machine
end

