-- ==== Sys2Proof/Machine/TwinPath.lean ====
section
/-! DEFINITION. Mirrored commands on a standby (R384, R385, R405), and peer loss with the takeover that it may begin (R390 to
R393). -/

namespace Sys2Proof.Machine

/-- MIRRORED_COMMAND: executed as if from the standby's own manager; its reply is the acknowledgement. Its packet waits at the
twin path and is served at once where the rotation stands there; while the Steward restarts, or has another packet in hand, it
waits (R405, R450). -/
def execMirroredCommand (hdr : TwinHdr) (bytes : List Nat) (s : State) : Res :=
  .next (
    let s1 := takeFrame s hdr (.command bytes)
    if s1.twn.rxSeq ≠ s.twn.rxSeq && s1.stw.ready && !stewardBusy s1 && nextPos s1 = some 3 then visitTwin s1 false else s1)

/-- Up to `n` waiting frames are applied, commands among them (R393). -/
def applyWaiting : Nat → State → State
  | 0, s => s
  | n + 1, s =>
    if s.stw.ready && !stewardBusy s && !s.twn.rxq.isEmpty then applyWaiting n (visitTwin (drainTwin s) false) else drainTwin s

/-- The armed takeover begins (Table 13.7, t0), with the frames that arrived before it applied (R393); it never lowers the epoch
(R380). -/
def startTakeover (s : State) : State :=
  let s1 := endArm (applyWaiting s.twn.rxq.length s) 1
  let s2 := { s1 with twn := { s1.twn with
    role := roleTaking, epoch := max s1.twn.epoch s1.twn.armEpoch, paired := false, takeoverAt := some s1.now } }
  isoCheck (logEvent (freeLeases s2) 0x0076 0xFFF [.num 8 s2.twn.epoch]) 5

/-- Peer loss is declared at the end of the third missed window (R390); a standby armed on [t_arm, deadline) takes over. -/
def declareLoss (s : State) (at_ : Nat) : State :=
  let s1 := countDev { s with twn := { s.twn with
    peerLostSeen := true, hbWatch := decide (s.twn.link = 3) } } cTwinPeerLoss
  let s2 := logEvent s1 0x0074 0xFFF [.num 4 3]
  if s2.twn.role = roleStandby && s2.twn.armed && at_ < s2.twn.armDeadline then startTakeover s2 else s2

/-- HEARTBEAT_WINDOW_END: the window [k * 10 us, (k + 1) * 10 us) of TIME has ended. -/
def execHeartbeatWindowEnd (s : State) : Res :=
  .next (let k := s.twn.hbWindow
    if !s.twn.hbWatch || timeNow s < (k + 1) * 10000 then s
    else
      let s1 := { s with twn := { s.twn with hbWindow := k + 1, hbInWindow := decide (s.twn.hbLast = some (k + 1)) } }
      if s.twn.hbInWindow then { s1 with twn := { s1.twn with missedRun := 0 } }
      else
        let s2 := countDev { s1 with twn := { s1.twn with missedRun := min 3 (s.twn.missedRun + 1) } } cTwinHbMissed
        if s.twn.missedRun = 2 then declareLoss s2 ((k + 1) * 10000) else s2)

end Sys2Proof.Machine
end

