-- ==== Sys2Proof/Machine/Dispatch.lean ====
section
/-! DEFINITION. The dispatch of commands: one arm per constructor, each a direct call of that command's
meaning. -/

namespace Sys2Proof.Machine

def exec (i : Instr) (s : State) : Host.Outcome State Fault Refusal :=
  match i with
  | .readIdentity m => Sys2Proof.Machine.execReadIdentity m s
  | .loadTableSet m bank addr len img rd => Sys2Proof.Machine.execLoadTableSet m bank addr len img rd s
  | .flip m => Sys2Proof.Machine.execFlip m s
  | .discardBank m bank => Sys2Proof.Machine.execDiscardBank m bank s
  | .loadHook m region fid shares raw addr len steps rd => Sys2Proof.Machine.execLoadHook m region fid shares raw addr len steps rd s
  | .setPortLayout m types => Sys2Proof.Machine.execSetPortLayout m types s
  | .setPortParameters m prm => Sys2Proof.Machine.execSetPortParameters m prm s
  | .withdrawStagedConfiguration m => Sys2Proof.Machine.execWithdrawStagedConfiguration m s
  | .enablePort m port => Sys2Proof.Machine.execEnablePort m port s
  | .disablePort m port option limitMs => Sys2Proof.Machine.execDisablePort m port option limitMs s
  | .portDrainEnd port => Sys2Proof.Machine.execPortDrainEnd port s
  | .writeGroupFilter m port words grpAll => Sys2Proof.Machine.execWriteGroupFilter m port words grpAll s
  | .writeSelectTable m port fields entries => Sys2Proof.Machine.execWriteSelectTable m port fields entries s
  | .moduleTransfer m cage dir dev off len data ack => Sys2Proof.Machine.execModuleTransfer m cage dir dev off len data ack s
  | .createInstance m fid rec => Sys2Proof.Machine.execCreateInstance m fid rec s
  | .quiesce m fid limitMs => Sys2Proof.Machine.execQuiesce m fid limitMs s
  | .quiesceEnd fid => Sys2Proof.Machine.execQuiesceEnd fid s
  | .resume m fid => Sys2Proof.Machine.execResume m fid s
  | .resetInstance m fid force => Sys2Proof.Machine.execResetInstance m fid force s
  | .removeInstance m fid force => Sys2Proof.Machine.execRemoveInstance m fid force s
  | .resetComplete fid => Sys2Proof.Machine.execResetComplete fid s
  | .release m fid => Sys2Proof.Machine.execRelease m fid s
  | .setDmaWindow m fid win => Sys2Proof.Machine.execSetDmaWindow m fid win s
  | .setExpertGrant m fid rawTable rawHook => Sys2Proof.Machine.execSetExpertGrant m fid rawTable rawHook s
  | .setInstanceGrant m fid items => Sys2Proof.Machine.execSetInstanceGrant m fid items s
  | .readInstance m fid => Sys2Proof.Machine.execReadInstance m fid s
  | .declareConfinement m v => Sys2Proof.Machine.execDeclareConfinement m v s
  | .createTransmitRing m fid window base sizeLog2 cq pipeline program weight burst => Sys2Proof.Machine.execCreateTransmitRing m fid window base sizeLog2 cq pipeline program weight burst s
  | .createReceiveRing m fid window base sizeLog2 cq ts => Sys2Proof.Machine.execCreateReceiveRing m fid window base sizeLog2 cq ts s
  | .createCompletionRing m fid window base sizeLog2 ctrAddr msix => Sys2Proof.Machine.execCreateCompletionRing m fid window base sizeLog2 ctrAddr msix s
  | .destroyRing m type ring => Sys2Proof.Machine.execDestroyRing m type ring s
  | .startRing m type ring => Sys2Proof.Machine.execStartRing m type ring s
  | .stopRing m type ring => Sys2Proof.Machine.execStopRing m type ring s
  | .resumeRings m fid => Sys2Proof.Machine.execResumeRings m fid s
  | .setWeightAndBurst m ring weight burst => Sys2Proof.Machine.execSetWeightAndBurst m ring weight burst s
  | .readRing m type ring => Sys2Proof.Machine.execReadRing m type ring s
  | .registerPool m pool set kind sizeLog2 count base spaceFid => Sys2Proof.Machine.execRegisterPool m pool set kind sizeLog2 count base spaceFid s
  | .unregisterPool m pool => Sys2Proof.Machine.execUnregisterPool m pool s
  | .setShare m pool fid mn mx weight => Sys2Proof.Machine.execSetShare m pool fid mn mx weight s
  | .sizeOnchipPools m c0 c1 c3 => Sys2Proof.Machine.execSizeOnchipPools m c0 c1 c3 s
  | .setPressure m pool eighths => Sys2Proof.Machine.execSetPressure m pool eighths s
  | .queryHandle m handle => Sys2Proof.Machine.execQueryHandle m handle s
  | .createTable m table location kind bucketsLog2 keyLen ageLimit seed => Sys2Proof.Machine.execCreateTable m table location kind bucketsLog2 keyLen ageLimit seed s
  | .destroyTable m table => Sys2Proof.Machine.execDestroyTable m table s
  | .insertOrReplaceEntry m table owner key result noAge => Sys2Proof.Machine.execInsertOrReplaceEntry m table owner key result noAge s
  | .deleteEntry m table owner key => Sys2Proof.Machine.execDeleteEntry m table owner key s
  | .readEntry m table owner key pmask => Sys2Proof.Machine.execReadEntry m table owner key pmask s
  | .setAgeLimit m table ageLimit => Sys2Proof.Machine.execSetAgeLimit m table ageLimit s
  | .setTableGrant m fid table pmask maxEntries ovfReserve => Sys2Proof.Machine.execSetTableGrant m fid table pmask maxEntries ovfReserve s
  | .flush m table owner pmask => Sys2Proof.Machine.execFlush m table owner pmask s
  | .createOrReplacePolicer m policer fid rate ilog burst => Sys2Proof.Machine.execCreateOrReplacePolicer m policer fid rate ilog burst s
  | .destroyPolicer m policer => Sys2Proof.Machine.execDestroyPolicer m policer s
  | .readPolicer m policer => Sys2Proof.Machine.execReadPolicer m policer s
  | .setLoopShare m cells => Sys2Proof.Machine.execSetLoopShare m cells s
  | .installSa m sa prm => Sys2Proof.Machine.execInstallSa m sa prm s
  | .removeSa m sa => Sys2Proof.Machine.execRemoveSa m sa s
  | .activateSa m sa => Sys2Proof.Machine.execActivateSa m sa s
  | .deactivateSa m sa => Sys2Proof.Machine.execDeactivateSa m sa s
  | .rekeySa m sa key activate => Sys2Proof.Machine.execRekeySa m sa key activate s
  | .readSa m sa => Sys2Proof.Machine.execReadSa m sa s
  | .setCipherGrant m fid lanes saMax activeMax => Sys2Proof.Machine.execSetCipherGrant m fid lanes saMax activeMax s
  | .eraseVault m => Sys2Proof.Machine.execEraseVault m s
  | .createConnection m prm => Sys2Proof.Machine.execCreateConnection m prm s
  | .closeConnection m conn drainMs force => Sys2Proof.Machine.execCloseConnection m conn drainMs force s
  | .closeDrainEnd conn => Sys2Proof.Machine.execCloseDrainEnd conn s
  | .readConnection m conn => Sys2Proof.Machine.execReadConnection m conn s
  | .configureStorage m channels tcpTable roceTable => Sys2Proof.Machine.execConfigureStorage m channels tcpTable roceTable s
  | .setStorageGrant m fid connMax => Sys2Proof.Machine.execSetStorageGrant m fid connMax s
  | .pinPeer m unit => Sys2Proof.Machine.execPinPeer m unit s
  | .setLink m enable policy => Sys2Proof.Machine.execSetLink m enable policy s
  | .setRole m role epoch => Sys2Proof.Machine.execSetRole m role epoch s
  | .pair m => Sys2Proof.Machine.execPair m s
  | .armTakeover m epoch deadline flip => Sys2Proof.Machine.execArmTakeover m epoch deadline flip s
  | .disarm m => Sys2Proof.Machine.execDisarm m s
  | .unpair m => Sys2Proof.Machine.execUnpair m s
  | .readTwin m => Sys2Proof.Machine.execReadTwin m s
  | .stageComponentImage m comp source addr len img rd => Sys2Proof.Machine.execStageComponentImage m comp source addr len img rd s
  | .stageManifest m addr len man rd => Sys2Proof.Machine.execStageManifest m addr len man rd s
  | .activate m => Sys2Proof.Machine.execActivate m s
  | .activationStewardReady ready => Sys2Proof.Machine.execActivationStewardReady ready s
  | .readVersions m => Sys2Proof.Machine.execReadVersions m s
  | .rewrapToUnit m comp => Sys2Proof.Machine.execRewrapToUnit m comp s
  | .readChainStatus m => Sys2Proof.Machine.execReadChainStatus m s
  | .compatibilityUpdate m comp source addr len img rd => Sys2Proof.Machine.execCompatibilityUpdate m comp source addr len img rd s
  | .readAlmanac m => Sys2Proof.Machine.execReadAlmanac m s
  | .setCalendar m sec ns => Sys2Proof.Machine.execSetCalendar m sec ns s
  | .setWakeTimer m instant => Sys2Proof.Machine.execSetWakeTimer m instant s
  | .readLifetimeCounters m => Sys2Proof.Machine.execReadLifetimeCounters m s
  | .changeLifeCycleState m target sig => Sys2Proof.Machine.execChangeLifeCycleState m target sig s
  | .setIdleLimit m domain limitUs => Sys2Proof.Machine.execSetIdleLimit m domain limitUs s
  | .wake m => Sys2Proof.Machine.execWake m s
  | .powerDown m domain option limitMs => Sys2Proof.Machine.execPowerDown m domain option limitMs s
  | .powerDownDrainEnd domain => Sys2Proof.Machine.execPowerDownDrainEnd domain s
  | .powerUp m domain => Sys2Proof.Machine.execPowerUp m domain s
  | .snapshotCounters m fid => Sys2Proof.Machine.execSnapshotCounters m fid s
  | .setTraceSampling m n mask => Sys2Proof.Machine.execSetTraceSampling m n mask s
  | .configureCrier m interval dest addr port channel templates => Sys2Proof.Machine.execConfigureCrier m interval dest addr port channel templates s
  | .startOrStopExport m start => Sys2Proof.Machine.execStartOrStopExport m start s
  | .createOrReplaceMirrorSession m session fid window snapLen sampleN crossTenant => Sys2Proof.Machine.execCreateOrReplaceMirrorSession m session fid window snapLen sampleN crossTenant s
  | .destroyMirrorSession m session => Sys2Proof.Machine.execDestroyMirrorSession m session s
  | .setPortMirror m port rx tx => Sys2Proof.Machine.execSetPortMirror m port rx tx s
  | .grantChannel m ch owner prio descLimit => Sys2Proof.Machine.execGrantChannel m ch owner prio descLimit s
  | .configureChannel m ch cfg => Sys2Proof.Machine.execConfigureChannel m ch cfg s
  | .stopChannel m ch => Sys2Proof.Machine.execStopChannel m ch s
  | .resetChannel m ch => Sys2Proof.Machine.execResetChannel m ch s
  | .compatibilityPacket path fid bytes => Sys2Proof.Machine.execCompatibilityPacket path fid bytes s
  | .adminDoorbell v => Sys2Proof.Machine.execAdminDoorbell v s
  | .adminReplyConsumerWrite v => Sys2Proof.Machine.execAdminReplyConsumerWrite v s
  | .mailboxDoorbell fid go => Sys2Proof.Machine.execMailboxDoorbell fid go s
  | .securedPacketReceived path carrier bytes => Sys2Proof.Machine.execSecuredPacketReceived path carrier bytes s
  | .acceptPacket path fid bytes rd => Sys2Proof.Machine.execAcceptPacket path fid bytes rd s
  | .backgroundCommandEnd slot => Sys2Proof.Machine.execBackgroundCommandEnd slot s
  | .devLogConsWrite v => Sys2Proof.Machine.execDevLogConsWrite v s
  | .intaUpdate => Sys2Proof.Machine.execIntaUpdate s
  | .registerWrite fid off size v => Sys2Proof.Machine.execRegisterWrite fid off size v s
  | .seqFlipGo v => Sys2Proof.Machine.execSeqFlipGo v s
  | .sealRequest bank => Sys2Proof.Machine.execSealRequest bank s
  | .sealComplete bank => Sys2Proof.Machine.execSealComplete bank s
  | .discardRequest bank => Sys2Proof.Machine.execDiscardRequest bank s
  | .stepLoWrite idx v => Sys2Proof.Machine.execStepLoWrite idx v s
  | .stepHiWrite idx v => Sys2Proof.Machine.execStepHiWrite idx v s
  | .residencyPeakRead p off size => Sys2Proof.Machine.execResidencyPeakRead p off size s
  | .stepScrub => Sys2Proof.Machine.execStepScrub s
  | .dispatch p => Sys2Proof.Machine.execDispatch p s
  | .parkedResume p ord => Sys2Proof.Machine.execParkedResume p ord s
  | .ctlJump p c => Sys2Proof.Machine.execCtlJump p c s
  | .ctlEnd p c => Sys2Proof.Machine.execCtlEnd p c s
  | .ctlDrop p c => Sys2Proof.Machine.execCtlDrop p c s
  | .ctlHook p c => Sys2Proof.Machine.execCtlHook p c s
  | .ctlReturn p c => Sys2Proof.Machine.execCtlReturn p c s
  | .ctlMark p c => Sys2Proof.Machine.execCtlMark p c s
  | .aluMove p c => Sys2Proof.Machine.execAluMove p c s
  | .aluAdd p c => Sys2Proof.Machine.execAluAdd p c s
  | .aluSub p c => Sys2Proof.Machine.execAluSub p c s
  | .aluAnd p c => Sys2Proof.Machine.execAluAnd p c s
  | .aluOr p c => Sys2Proof.Machine.execAluOr p c s
  | .aluXor p c => Sys2Proof.Machine.execAluXor p c s
  | .aluShift p c => Sys2Proof.Machine.execAluShift p c s
  | .aluCmpEq p c => Sys2Proof.Machine.execAluCmpEq p c s
  | .aluCmpLt p c => Sys2Proof.Machine.execAluCmpLt p c s
  | .loadHdr p c => Sys2Proof.Machine.execLoadHdr p c s
  | .storeHdr p c => Sys2Proof.Machine.execStoreHdr p c s
  | .strip p c => Sys2Proof.Machine.execStrip p c s
  | .prepend p c => Sys2Proof.Machine.execPrepend p c s
  | .readTime p c => Sys2Proof.Machine.execReadTime p c s
  | .parseL2 p c => Sys2Proof.Machine.execParseL2 p c s
  | .parseL3 p c => Sys2Proof.Machine.execParseL3 p c s
  | .parseL4 p c => Sys2Proof.Machine.execParseL4 p c s
  | .parseTunnel p c => Sys2Proof.Machine.execParseTunnel p c s
  | .parseStoragePdu p c => Sys2Proof.Machine.execParseStoragePdu p c s
  | .hashCrc32c p c => Sys2Proof.Machine.execHashCrc32c p c s
  | .hashCrc32 p c => Sys2Proof.Machine.execHashCrc32 p c s
  | .hashToeplitz p c => Sys2Proof.Machine.execHashToeplitz p c s
  | .lkpHotLookup p c => Sys2Proof.Machine.execLkpHotLookup p c s
  | .lkpRldLookup p c => Sys2Proof.Machine.execLkpRldLookup p c s
  | .fwtLearn p c => Sys2Proof.Machine.execFwtLearn p c s
  | .fwtRefresh p c => Sys2Proof.Machine.execFwtRefresh p c s
  | .fwtWriteFlow p c => Sys2Proof.Machine.execFwtWriteFlow p c s
  | .policeMeter p c => Sys2Proof.Machine.execPoliceMeter p c s
  | .grnAlloc p c => Sys2Proof.Machine.execGrnAlloc p c s
  | .grnFree p c => Sys2Proof.Machine.execGrnFree p c s
  | .grnWaitRetry id => Sys2Proof.Machine.execGrnWaitRetry id s
  | .grnWaitExpiry id => Sys2Proof.Machine.execGrnWaitExpiry id s
  | .inlineScrubComplete id => Sys2Proof.Machine.execInlineScrubComplete id s
  | .backgroundScrub => Sys2Proof.Machine.execBackgroundScrub s
  | .grnQueryWrite v => Sys2Proof.Machine.execGrnQueryWrite v s
  | .grnQueryComplete => Sys2Proof.Machine.execGrnQueryComplete s
  | .cipRecord p c => Sys2Proof.Machine.execCipRecord p c s
  | .recordFinish id => Sys2Proof.Machine.execRecordFinish id s
  | .claimExpiry lane => Sys2Proof.Machine.execClaimExpiry lane s
  | .dmawDeliver p c => Sys2Proof.Machine.execDmawDeliver p c s
  | .dmarRead p c => Sys2Proof.Machine.execDmarRead p c s
  | .xmitClass p c => Sys2Proof.Machine.execXmitClass p c s
  | .xmitLoop p c => Sys2Proof.Machine.execXmitLoop p c s
  | .xmitMirror p c => Sys2Proof.Machine.execXmitMirror p c s
  | .haulStart p c => Sys2Proof.Machine.execHaulStart p c s
  | .cntInc p c => Sys2Proof.Machine.execCntInc p c s
  | .cntAdd p c => Sys2Proof.Machine.execCntAdd p c s
  | .connGet p c => Sys2Proof.Machine.execConnGet p c s
  | .connPutWrite p c => Sys2Proof.Machine.execConnPutWrite p c s
  | .handoffSubmission p c => Sys2Proof.Machine.execHandoffSubmission p c s
  | .handoffInbound p c => Sys2Proof.Machine.execHandoffInbound p c s
  | .connPutComplete p c => Sys2Proof.Machine.execConnPutComplete p c s
  | .connPutRelease p c => Sys2Proof.Machine.execConnPutRelease p c s
  | .connPutFail p c => Sys2Proof.Machine.execConnPutFail p c s
  | .turnDispatch conn => Sys2Proof.Machine.execTurnDispatch conn s
  | .slotExpiry conn slot => Sys2Proof.Machine.execSlotExpiry conn slot s
  | .connectionTimerExpiry conn => Sys2Proof.Machine.execConnectionTimerExpiry conn s
  | .timerCellRetry conn => Sys2Proof.Machine.execTimerCellRetry conn s
  | .doorbell fid window off size v => Sys2Proof.Machine.execDoorbell fid window off size v s
  | .inlinePush fid window bytes => Sys2Proof.Machine.execInlinePush fid window bytes s
  | .completionConsumerWrite fid window v => Sys2Proof.Machine.execCompletionConsumerWrite fid window v s
  | .completionArm fid window v => Sys2Proof.Machine.execCompletionArm fid window v s
  | .queueFetch rx n => Sys2Proof.Machine.execQueueFetch rx n s
  | .entryFetchComplete rx q => Sys2Proof.Machine.execEntryFetchComplete rx q s
  | .frameReceived port bytes pcsError fec => Sys2Proof.Machine.execFrameReceived port bytes pcsError fec s
  | .pfcPauseEnd port prio => Sys2Proof.Machine.execPfcPauseEnd port prio s
  | .pfcSend port prio => Sys2Proof.Machine.execPfcSend port prio s
  | .pfcResend port prio => Sys2Proof.Machine.execPfcResend port prio s
  | .transmitFrameStart port => Sys2Proof.Machine.execTransmitFrameStart port s
  | .txtsTagRead port off size => Sys2Proof.Machine.execTxtsTagRead port off size s
  | .macTimeStepWrite v => Sys2Proof.Machine.execMacTimeStepWrite v s
  | .macTimeNsRead => Sys2Proof.Machine.execMacTimeNsRead s
  | .ppsInputEdge => Sys2Proof.Machine.execPpsInputEdge s
  | .ppsOutput => Sys2Proof.Machine.execPpsOutput s
  | .linkDown port => Sys2Proof.Machine.execLinkDown port s
  | .laneFault lane code => Sys2Proof.Machine.execLaneFault lane code s
  | .cageFault cage kind => Sys2Proof.Machine.execCageFault cage kind s
  | .agerVisit p => Sys2Proof.Machine.execAgerVisit p s
  | .homingMove p t b => Sys2Proof.Machine.execHomingMove p t b s
  | .homingOverflowRemove p t b => Sys2Proof.Machine.execHomingOverflowRemove p t b s
  | .lockExpiry p t b => Sys2Proof.Machine.execLockExpiry p t b s
  | .haulStartWrite fid j head => Sys2Proof.Machine.execHaulStartWrite fid j head s
  | .haulAckWrite fid j half full => Sys2Proof.Machine.execHaulAckWrite fid j half full s
  | .haulStopWrite fid j => Sys2Proof.Machine.execHaulStopWrite fid j s
  | .watermarkHigh ch => Sys2Proof.Machine.execWatermarkHigh ch s
  | .runStart unit => Sys2Proof.Machine.execRunStart unit s
  | .haulNop ch inp => Sys2Proof.Machine.execHaulNop ch inp s
  | .haulCopy ch inp => Sys2Proof.Machine.execHaulCopy ch inp s
  | .haulZero ch inp => Sys2Proof.Machine.execHaulZero ch inp s
  | .tblRead ch inp => Sys2Proof.Machine.execTblRead ch inp s
  | .tblLockRead ch inp => Sys2Proof.Machine.execTblLockRead ch inp s
  | .tblWriteUnlock ch inp => Sys2Proof.Machine.execTblWriteUnlock ch inp s
  | .tblUnlock ch inp => Sys2Proof.Machine.execTblUnlock ch inp s
  | .readCompletion link tag ok ep data => Sys2Proof.Machine.execReadCompletion link tag ok ep data s
  | .completionTimeout link tag => Sys2Proof.Machine.execCompletionTimeout link tag s
  | .tagQuarantineEnd link tag => Sys2Proof.Machine.execTagQuarantineEnd link tag s
  | .busMasterEnableClear fid => Sys2Proof.Machine.execBusMasterEnableClear fid s
  | .interruptDisableWrite v => Sys2Proof.Machine.execInterruptDisableWrite v s
  | .msixUnmask fid vec => Sys2Proof.Machine.execMsixUnmask fid vec s
  | .functionLevelReset fid => Sys2Proof.Machine.execFunctionLevelReset fid s
  | .flrComplete fid => Sys2Proof.Machine.execFlrComplete fid s
  | .sriovVfEnableSet numVfs => Sys2Proof.Machine.execSriovVfEnableSet numVfs s
  | .sriovVfDisable clearEnable numVfs => Sys2Proof.Machine.execSriovVfDisable clearEnable numVfs s
  | .powerStateWrite fid dstate => Sys2Proof.Machine.execPowerStateWrite fid dstate s
  | .pmeTurnOff => Sys2Proof.Machine.execPmeTurnOff s
  | .wakeEvent row => Sys2Proof.Machine.execWakeEvent row s
  | .dlUp link rate flit widthLog2 => Sys2Proof.Machine.execDlUp link rate flit widthLog2 s
  | .hotReset => Sys2Proof.Machine.execHotReset s
  | .perstAssert => Sys2Proof.Machine.execPerstAssert s
  | .perstRelease recheckOk straps lib => Sys2Proof.Machine.execPerstRelease recheckOk straps lib s
  | .coldReset imageOk straps lib => Sys2Proof.Machine.execColdReset imageOk straps lib s
  | .sramWipeEnd => Sys2Proof.Machine.execSramWipeEnd s
  | .rldramWipeEnd => Sys2Proof.Machine.execRldramWipeEnd s
  | .mainSupplyLoss => Sys2Proof.Machine.execMainSupplyLoss s
  | .auxPowerUp => Sys2Proof.Machine.execAuxPowerUp s
  | .domainStart dom => Sys2Proof.Machine.execDomainStart dom s
  | .domainReady dom => Sys2Proof.Machine.execDomainReady dom s
  | .domainIdleStop dom => Sys2Proof.Machine.execDomainIdleStop dom s
  | .stewardRestart => Sys2Proof.Machine.execStewardRestart s
  | .almanacRestart => Sys2Proof.Machine.execAlmanacRestart s
  | .alarm cause value => Sys2Proof.Machine.execAlarm cause value s
  | .alarmClear cause => Sys2Proof.Machine.execAlarmClear cause s
  | .thermalWarning tj => Sys2Proof.Machine.execThermalWarning tj s
  | .thermtrip tj => Sys2Proof.Machine.execThermtrip tj s
  | .crystalFault => Sys2Proof.Machine.execCrystalFault s
  | .crystalRecovery => Sys2Proof.Machine.execCrystalRecovery s
  | .referenceClockFault which => Sys2Proof.Machine.execReferenceClockFault which s
  | .thermalDiodeFault kind => Sys2Proof.Machine.execThermalDiodeFault kind s
  | .wakeTimerFire => Sys2Proof.Machine.execWakeTimerFire s
  | .lifetimeSample smp => Sys2Proof.Machine.execLifetimeSample smp s
  | .storeCommit => Sys2Proof.Machine.execStoreCommit s
  | .cntSnapWrite v => Sys2Proof.Machine.execCntSnapWrite v s
  | .snapshotCopyComplete => Sys2Proof.Machine.execSnapshotCopyComplete s
  | .crierExport => Sys2Proof.Machine.execCrierExport s
  | .fnSelWrite v => Sys2Proof.Machine.execFnSelWrite v s
  | .fwtGrantSelWrite v => Sys2Proof.Machine.execFwtGrantSelWrite v s
  | .fwtOvfSelWrite v => Sys2Proof.Machine.execFwtOvfSelWrite v s
  | .cipSaSelWrite v => Sys2Proof.Machine.execCipSaSelWrite v s
  | .cipGrantSelWrite v => Sys2Proof.Machine.execCipGrantSelWrite v s
  | .stgConnSelWrite v => Sys2Proof.Machine.execStgConnSelWrite v s
  | .stgGrantSelWrite v => Sys2Proof.Machine.execStgGrantSelWrite v s
  | .twinLinkAuthenticated unit chainOk => Sys2Proof.Machine.execTwinLinkAuthenticated unit chainOk s
  | .heartbeatSend => Sys2Proof.Machine.execHeartbeatSend s
  | .heartbeatReceived hdr => Sys2Proof.Machine.execHeartbeatReceived hdr s
  | .heartbeatWindowEnd => Sys2Proof.Machine.execHeartbeatWindowEnd s
  | .armDeadline => Sys2Proof.Machine.execArmDeadline s
  | .mirroredCommand hdr bytes => Sys2Proof.Machine.execMirroredCommand hdr bytes s
  | .leaseRecord hdr sa k => Sys2Proof.Machine.execLeaseRecord hdr sa k s
  | .replaySnapshot hdr sa top => Sys2Proof.Machine.execReplaySnapshot hdr sa top s
  | .storageRecord hdr conn lines => Sys2Proof.Machine.execStorageRecord hdr conn lines s
  | .bankImagePart hdr steps decl => Sys2Proof.Machine.execBankImagePart hdr steps decl s
  | .twinAcknowledgement hdr acked result => Sys2Proof.Machine.execTwinAcknowledgement hdr acked result s
  | .twinResend seq => Sys2Proof.Machine.execTwinResend seq s
  | .mirrorReplyTimeout => Sys2Proof.Machine.execMirrorReplyTimeout s
  | .chainOfferSend => Sys2Proof.Machine.execChainOfferSend s
  | .chainOfferReceived frm => Sys2Proof.Machine.execChainOfferReceived frm s
  | .chainRequestReceived frm => Sys2Proof.Machine.execChainRequestReceived frm s
  | .chainDataReceived frm => Sys2Proof.Machine.execChainDataReceived frm s
  | .chainConfirmReceived frm => Sys2Proof.Machine.execChainConfirmReceived frm s
  | .chainRefuseReceived frm => Sys2Proof.Machine.execChainRefuseReceived frm s
  | .chainFault pair code => Sys2Proof.Machine.execChainFault pair code s
  | .spdmGetCertificate path off len => Sys2Proof.Machine.execSpdmGetCertificate path off len s
  | .spdmChallenge path nonce => Sys2Proof.Machine.execSpdmChallenge path nonce s
  | .getMeasurements path index nonce => Sys2Proof.Machine.execGetMeasurements path index nonce s
  | .keyExchange path leafHash mutualAuth => Sys2Proof.Machine.execKeyExchange path leafHash mutualAuth s
  | .putImage path comp off bytes => Sys2Proof.Machine.execPutImage path comp off bytes s
  | .linkUp port lanes => Sys2Proof.Machine.execLinkUp port lanes s
  | .laneFaultClear lane code => Sys2Proof.Machine.execLaneFaultClear lane code s
  | .cageFaultClear cage kind => Sys2Proof.Machine.execCageFaultClear cage kind s
  | .cageInterrupt cage => Sys2Proof.Machine.execCageInterrupt cage s
  | .twinLinkDown => Sys2Proof.Machine.execTwinLinkDown s
  | .takeoverComplete => Sys2Proof.Machine.execTakeoverComplete s
  | .referenceClockRecovery which => Sys2Proof.Machine.execReferenceClockRecovery which s
  | .thermalWarningClear tj => Sys2Proof.Machine.execThermalWarningClear tj s
  | .thermtripRelease => Sys2Proof.Machine.execThermtripRelease s
  | .thermalDiodeFaultClear => Sys2Proof.Machine.execThermalDiodeFaultClear s
  | .chainFaultClear pair code => Sys2Proof.Machine.execChainFaultClear pair code s
  | .auxPowerLoss => Sys2Proof.Machine.execAuxPowerLoss s
  | .busMasterEnableSet fid => Sys2Proof.Machine.execBusMasterEnableSet fid s
  | .smbusClockLowTimeout => Sys2Proof.Machine.execSmbusClockLowTimeout s
  | .stewardRestartComplete => Sys2Proof.Machine.execStewardRestartComplete s
  | .almanacRestartComplete => Sys2Proof.Machine.execAlmanacRestartComplete s
  | .almCalSecRead => Sys2Proof.Machine.execAlmCalSecRead s

end Sys2Proof.Machine
end

