-- ==== Sys2Proof/Machine/RegWordsData.lean ====
section
/-! DEFINITION. What the registers of the step engines, queues, Granary, forwarding tables and ports read as (Tables 2.10 to
2.19, 3.10 to 3.14, 4.10 to 4.13, 5.9 to 5.12, 6.9 to 6.12, 7.9 and 7.10). A map gives, for the offset at which a register
starts, its width in bytes and its value; write-only and reserved fields read zero (R10, R12). -/

namespace Sys2Proof.Machine

/-- A register word from its fields: lowest bit, width in bits, value. -/
def word (fs : List (Nat × Nat × Nat)) : Nat := (fs.map (fun f => f.2.2 % 2 ^ f.2.1 * 2 ^ f.1)).sum

/-- One word in which bit `i` of `n` stands for a test of `i`. -/
def flags (n : Nat) (f : Nat → Bool) : Nat := word ((List.range n).map (fun i => (i, 1, b2n (f i))))

/-! ## Step engines (R76, R78) -/

/-- The code of a bank state (Table 2.8). -/
def BankState.code : BankState → Nat
  | .idle => 0 | .loading => 1 | .verifying => 2 | .sealed => 3 | .current => 4 | .draining => 5

/-- SEQ_EPOCH: a flip is served in the step that requests it, so flip_busy reads 0. -/
def seqEpoch (s : State) : Nat :=
  word [(0, 4, if s.seq.epochB then 15 else 0), (4, 1, b2n (currentBank s).isSome), (8, 8, s.seq.flipStatus)]

/-- SEQ_WINDOW. -/
def seqWindow (s : State) : Nat :=
  word [(0, 1, s.seq.winBank), (1, 2, s.seq.readCluster), (3, 1, b2n s.seq.loLatched.isSome)]

/-- SEQ_BANK_A or SEQ_BANK_B: seal reads 1 until the verification ends, discard is done at once. -/
def seqBank (x : Bank) : Nat :=
  word [(0, 3, x.st.code), (8, 1, b2n (x.st = .verifying)), (16, 8, x.sealStatus), (32, 16, x.failIndex)]

/-- What the CURRENT bank's image declares, with its B_max. -/
def currentDecl (s : State) : Option (TableDecl × Nat) :=
  match currentBank s with
  | some c => (bankOf s c).decl.map (fun d => (d, (bankOf s c).bMax))
  | none => none

/-- B_max under R30: the larger of both banks while one is DRAINING. -/
def bMaxEff (s : State) : Nat :=
  let live := [s.seq.bankA, s.seq.bankB].filter (fun b => b.st = .current || b.st = .draining)
  (live.map (·.bMax)).foldl max 0

/-- SEQ_BUDGET. -/
def seqBudget (s : State) : Nat :=
  let d := currentDecl s
  word [(0, 8, (d.map (·.1.stepBudget)).getD 0), (8, 8, (d.map (·.1.accessBudget)).getD 0), (16, 16, 430),
    (32, 16, (d.map (·.2)).getD 0), (48, 16, bMaxEff s)]

/-- SEQ_CLASS_BUDGET. -/
def seqClassBudget (s : State) : Nat :=
  match currentDecl s with
  | some (d, _) => word [(0, 16, d.rxBudget), (16, 16, d.pushBudget), (32, 16, d.w2wBudget)]
  | none => 0

/-- SEQ_ECC_STATUS. -/
def seqEcc (s : State) : Nat :=
  word [(0, 16, s.seq.eccCorrected), (16, 16, s.seq.eccUncorrectable), (32, 2, s.seq.eccCluster), (34, 1, s.seq.eccBank),
    (35, 1, b2n s.seq.eccSeen)]

/-- SEQ_PIPE_p. -/
def seqPipe (x : Pipe) : Nat :=
  word [(0, 9, x.ctxs.length), (12, 13, admitCells x), (32, 12, x.parked.length), (48, 16, min x.residencyPeak 0xFFFF)]

/-- SEQ_HOOK_n: a region assigned in the CURRENT bank. -/
def seqHook (s : State) (n : Nat) : Nat :=
  match (currentBank s).bind (fun c => tget (bankOf s c).hooks n) with
  | some h => word [(0, 1, 1), (4, 12, h.fid), (16, 8, h.shares.steps), (24, 4, h.shares.access), (32, 16, h.shares.latency)]
  | none => 0

/-- SEQ_HOOK_ALLOW. -/
def seqHookAllow (s : State) : Nat :=
  let a := currentAllow s
  word [(0, 8, a.steps), (8, 4, a.access), (16, 16, a.latency)]

/-- Half `h` of step `i` in the copy of cluster SEQ_WINDOW.read_cluster (R78). What a copy with an uncorrectable error reads
as is not stated: a free value of its place. -/
def seqStep (s : State) (i h : Nat) : Nat :=
  let b := bankOf s s.seq.winBank
  let k := s.seq.readCluster * 65536 + i
  if tget b.ecc k = some 2 then (Sys2Proof.Config.damagedStep (s.seq.winBank * 262144 + k) h).toNat
  else (tgetD b.steps i 0).toNat / 2 ^ (64 * h) % 2 ^ 64

/-- SEQ_ registers (Table 2.10). -/
def seqRead (s : State) (o : Nat) : Option (Nat × Nat) :=
  match o with
  | 0x00 => some (4, 0x182004)
  | 0x04 => some (4, 0)
  | 0x08 => some (4, seqEpoch s)
  | 0x0C => some (4, seqWindow s)
  | 0x10 => some (8, seqBank s.seq.bankA)
  | 0x18 => some (8, seqBank s.seq.bankB)
  | 0x20 => some (8, seqBudget s)
  | 0x28 => some (8, seqClassBudget s)
  | 0x30 => some (8, seqEcc s)
  | 0x38 => some (8, seqHookAllow s)
  | _ =>
    if 0x100 ≤ o && o < 0x140 && o % 16 = 0 then some (8, seqPipe (pipeOf s ((o - 0x100) / 16)))
    else if 0x1000 ≤ o && o < 0x1200 && o % 8 = 0 then some (8, seqHook s ((o - 0x1000) / 8))
    else if 0x100000 ≤ o && o < 0x200000 && o % 8 = 0 then
      some (8, seqStep s ((o - 0x100000) / 16) (o / 8 % 2))
    else none

/-! ## Queue manager (R122, R123) -/

/-- QM_PIPE_p. -/
def qmPipe (s : State) (p : Nat) : Nat :=
  let d := tgetD s.qm.sched p {}
  word [(0, 16, tcount s.qm.tx (fun _ r => eligibleTx s p r)), (16, 8, d.pass), (32, 32, d.rounds.toNat)]

/-- The registers of ring `q` from its area of 32 bytes; a ring that does not exist reads zero, but for QM_WEIGHT. -/
def ringRead (s : State) (rx : Bool) (q : Nat) (x : Option Ring) (r : Nat) : Option (Nat × Nat) :=
  let of := fun (f : Ring → Nat) => (x.map f).getD 0
  match r with
  | 0x00 => some (8, of (ringCfg rx))
  | 0x08 => some (8, of ringPos)
  | 0x10 => some (8, of (·.base))
  | 0x18 => if rx then none else some (4, ringWeight s q)
  | 0x1C => some (4, of (·.f.toNat))
  | _ => none

/-- The registers of completion ring `n` from its area. -/
def cqRead (x : Option CqRing) (r : Nat) : Option (Nat × Nat) :=
  let of := fun (f : CqRing → Nat) => (x.map f).getD 0
  match r with
  | 0x00 => some (8, of cqCfg)
  | 0x08 => some (8, of cqPos)
  | 0x10 => some (8, of (·.base))
  | 0x18 => some (8, of (·.ctrAddr))
  | _ => none

/-- QM_ registers (Table 3.10). -/
def qmRead (s : State) (o : Nat) : Option (Nat × Nat) :=
  match o with
  | 0x00 => some (8, word [(0, 16, 0x4000), (16, 16, 0x4000), (32, 16, 0x4000), (48, 8, 0x40)])
  | 0x08 => some (4, word [(0, 1, b2n (queuesReady s)), (4, 13, stagedAll s)])
  | _ =>
    if 0x100 ≤ o && o < 0x140 && o % 16 = 0 then some (8, qmPipe s ((o - 0x100) / 16))
    else if 0x80000 ≤ o && o < 0x100000 then ringRead s false ((o - 0x80000) / 32) (tget s.qm.tx ((o - 0x80000) / 32)) (o % 32)
    else if 0x100000 ≤ o && o < 0x180000 then ringRead s true ((o - 0x100000) / 32) (tget s.qm.rx ((o - 0x100000) / 32)) (o % 32)
    else if 0x180000 ≤ o && o < 0x200000 then cqRead (tget s.qm.cq ((o - 0x180000) / 32)) (o % 32)
    else none

/-- QM_VF_RING_k and QM_VF_FETCH_k of a function (Table 3.14). -/
def vfRingWords (s : State) (fid k : Nat) : Nat × Nat :=
  match atWindow s fid k with
  | none => (0, 0)
  | some (.ring rx _ r) =>
    (word [(0, 4, r.st.code), (4, 2, if rx then 2 else 1), (8, 5, r.sizeLog2), (32, 32, r.c.toNat)],
      word [(0, 32, r.f.toNat), (32, 32, r.p.toNat)])
  | some (.cq _ c) =>
    (word [(0, 4, c.st.code), (4, 2, 3), (8, 5, c.sizeLog2), (32, 32, c.c.toNat)],
      word [(0, 32, c.pc.toNat), (32, 32, c.pc.toNat)])

/-! ## Granary (R152) -/

/-- The FREE_CLEAN buffers of a pool: of an on-chip pool all free cells, of a host pool those that the ledger lists as
clean (R126, R131). -/
def cleanOf (s : State) (p : Nat) : Nat :=
  if p < 4 then freeOf s p else tcount s.grn.bufs (fun h b => hPool h = p && b.st = 0)

/-- GRN_POOL_WAIT_p: a request waits on every pool of its fallback chain while no scrub of its own is under way. -/
def poolWait (s : State) (p : Nat) : Nat :=
  let x := poolOf s p
  let n := (s.grn.waiting.filter (fun r => r.scrub.isNone && (fallbackChain s r.set r.len).contains p)).length
  word [(0, 4, x.pressure), (4, 12, n), (32, 28, x.cursor)]

/-- The registers of pool `p` from its area of 64 bytes. -/
def poolRead (s : State) (p r : Nat) : Option (Nat × Nat) :=
  let x := poolOf s p
  match r with
  | 0x00 => some (8, word [(0, 2, x.kind), (2, 4, x.set), (8, 5, x.sizeLog2), (16, 12, x.spaceFid), (32, 28, x.count)])
  | 0x08 => some (8, x.base)
  | 0x10 => some (8, word [(0, 28, freeOf s p), (28, 28, reserveOut s p), (56, 4, x.pointer)])
  | 0x18 => some (8, poolWait s p)
  | 0x20 => some (8, word [(0, 28, cleanOf s p)])
  | _ => none

/-- GRN_ registers (Table 4.10). -/
def grnRead (s : State) (o : Nat) : Option (Nat × Nat) :=
  let g := s.grn
  let sh := shareOf s g.shareSelPool g.shareSelFid
  match o with
  | 0x00 => some (8, word [(0, 8, 0x40), (8, 8, 4), (16, 8, 0x10), (32, 32, 0x10000000)])
  | 0x08 => some (4, word [(0, 1, b2n g.ready), (1, 12, (g.waiting.filter (fun r => r.scrub.isNone)).length)])
  | 0x0C => some (4, word [(0, 16, g.scrubRate)])
  | 0x10 => some (8, word [(0, 17, (poolOf s 0).count), (17, 17, (poolOf s 1).count), (34, 17, (poolOf s 3).count)])
  | 0x18 => some (4, word [(0, 8, g.violCode), (8, 12, g.violFid), (20, 12, g.violHolder)])
  | 0x20 => some (8, word [(0, 40, g.violHandle)])
  | 0x28 => some (4, word [(0, 6, g.shareSelPool), (8, 12, g.shareSelFid)])
  | 0x30 => some (8, word [(0, 28, sh.mn), (28, 28, sh.mx), (56, 8, if sh.mx = 0 then 0 else sh.weight)])
  | 0x38 => some (8, word [(0, 28, heldBy s g.shareSelPool g.shareSelFid), (28, 28, weightedShare s g.shareSelPool g.shareSelFid)])
  | 0x40 => some (8, word [(0, 40, g.query)])
  | 0x48 => some (8, word [(0, 1, b2n g.queryDone), (1, 2, g.queryState), (4, 12, g.queryOwner), (16, 16, g.queryIssues)])
  | _ => if 0x1000 ≤ o && o < 0x2000 then poolRead s ((o - 0x1000) / 64) (o % 64) else none

/-! ## Forwarding tables (R183) -/

/-- The buckets of all ageing tables in one pipeline. -/
def ageingBuckets (s : State) : Nat := ((ageingTables s).map (fun e => 2 ^ e.2.bucketsLog2)).sum

/-- FWT_TBL_AGE_t: the scan period is the ageing buckets over the rate, rounded up to a millisecond (R175). -/
def tableAge (s : State) (x : FTable) : Nat :=
  let r := s.fwt.agerRate * 1000
  word [(0, 32, x.ageLimit), (32, 16, if x.ages then (ageingBuckets s + r - 1) / r else 0)]

/-- FWT_TBL_CFG_t. -/
def tableCfg (x : FTable) : Nat :=
  word [(0, 1, 1), (1, 1, b2n x.hot), (2, 2, x.kind), (4, 1, b2n x.ready), (8, 5, x.bucketsLog2), (16, 6, x.keyLen),
    (32, 32, x.seed)]

/-- FWT_TBL_USED_t_p. -/
def tableUsed (fp : FPipe) (t : Nat) : Nat :=
  word [(0, 26, tcount fp.slots (fun _ e => e.table = t)), (32, 15, tcount fp.ovf (fun _ e => e.e.table = t))]

/-- The registers of table `t` from its area of 64 bytes. -/
def tableRead (s : State) (t r : Nat) : Option (Nat × Nat) :=
  match r with
  | 0x00 => some (8, ((tget s.fwt.tables t).map tableCfg).getD 0)
  | 0x08 => some (8, ((tget s.fwt.tables t).map (tableAge s)).getD 0)
  | _ => if 0x10 ≤ r && r < 0x30 && r % 8 = 0 then some (8, tableUsed (fpOf s ((r - 0x10) / 8)) t) else none

/-- FWT_PIPE_OVF_p. -/
def pipeOvf (s : State) (p : Nat) : Nat :=
  let fp := fpOf s p
  word [(0, 15, fp.ovf.length + fp.writes.length), (15, 15, reserveSum s p), (32, 7, fp.pend.length), (40, 9, fp.locks.length)]

/-- The buckets of a pipeline with an overflow entry still to move. -/
def homingBuckets (fp : FPipe) : List (Nat × Nat) :=
  ((fp.ovf.filter (fun e => !e.2.homed)).map (fun e => (e.2.e.table, e.2.bucket))).eraseDups

/-- FWT_PIPE_HOME_p: a free slot waits where its bucket has an overflow entry that has no copy yet. -/
def pipeHome (s : State) (p : Nat) : Nat :=
  let fp := fpOf s p
  let free := fun (k : Nat × Nat) => min (4 - (bucketSlots fp k.1 k.2).length)
    ((bucketOvf fp k.1 k.2).filter (fun e => !e.2.homed)).length
  word [(0, 32, fp.homeMoves.toNat), (32, 16, ((homingBuckets fp).map free).sum)]

/-- The locked buckets of all pipelines. -/
def locksAll (s : State) : Nat := ([0, 1, 2, 3].map (fun p => (fpOf s p).locks.length)).sum

/-- FWT_OVF_META. -/
def ovfMeta (s : State) : Nat :=
  match s.fwt.ovfSnap with
  | some e => word [(0, 1, 1), (1, 4, e.e.table), (5, 23, e.bucket), (28, 1, b2n e.homed)]
  | none => word [(29, 1, b2n s.fwt.ovfSnapRes)]

/-- FWT_OVF_DATA_j. -/
def ovfData (s : State) (j : Nat) : Nat :=
  match s.fwt.ovfSnap with
  | some e => leNat ((e.e.bytes.drop (8 * j)).take 8)
  | none => 0

/-- FWT_ registers (Table 5.9). -/
def fwtRead (s : State) (o : Nat) : Option (Nat × Nat) :=
  let f := s.fwt
  let g := fun i => f.grantSnap.getD i 0
  match o with
  | 0x00 => some (8, word [(0, 8, 0x10), (8, 4, 4), (16, 16, 0x4000), (32, 9, 0x100), (48, 8, 0x0A)])
  | 0x08 => some (4, word [(0, 1, b2n f.ready), (1, 11, locksAll s)])
  | 0x0C => some (4, word [(0, 1, b2n f.agerEnable), (8, 7, f.agerRate)])
  | 0x10 => some (4, word [(0, 10, f.lockLimitUs)])
  | 0x18 => some (8, word [(0, 12, f.violFid), (12, 2, f.violPipe), (14, 4, f.violTable), (18, 23, f.violBucket),
      (41, 1, b2n f.violSeen)])
  | 0x20 => some (8, word [(0, 2, f.parPipe), (2, 4, f.parTable), (6, 23, f.parBucket), (29, 1, b2n f.parOverflow),
      (30, 1, b2n f.parSeen)])
  | 0x28 => some (8, f.tick.toNat)
  | 0x40 => some (4, word [(0, 18, f.grantSel)])
  | 0x48 => some (8, word [(0, 26, g 0), (26, 15, g 1)])
  | 0x50 => some (8, word [(0, 26, g 2), (26, 15, g 3)])
  | 0x58 => some (4, word [(0, 16, f.ovfSel)])
  | 0x60 => some (8, ovfMeta s)
  | _ =>
    if 0x80 ≤ o && o < 0xC0 && o % 8 = 0 then some (8, ovfData s ((o - 0x80) / 8))
    else if 0x1000 ≤ o && o < 0x1400 then tableRead s ((o - 0x1000) / 64) (o % 64)
    else if 0x2000 ≤ o && o < 0x2080 && o % 32 = 0 then some (8, pipeOvf s ((o - 0x2000) / 32))
    else if 0x2000 ≤ o && o < 0x2080 && o % 32 = 8 then some (8, pipeHome s ((o - 0x2000) / 32))
    else none

/-! ## Ports and switching (R217, R239) -/

/-- MAC_LAYOUT of a layout: lanes without a port read 0xF. -/
def layoutWord (l : List Nat) : Nat :=
  let bs := (parseLayout l).getD []
  let port := fun i => (bs.findIdx? (fun b => b.first ≤ i && i < b.first + b.lanes)).getD 15
  word (((List.range 8).map (fun i => (4 * i, 4, port i))) ++ [(32, 4, bs.length)])

/-- MAC_LAYOUT_STAGED; it reads its reset value while nothing is staged. -/
def stagedWord (s : State) : Nat :=
  match s.mac.staged with
  | some l => layoutWord l + 2 ^ 63
  | none => 0xFFFFFFFFF

/-- MAC_STATUS. -/
def macStatus (s : State) : Nat :=
  word [(0, 1, b2n (currentBank s).isSome), (8, 8, flags 8 (fun n => (portBlock s n).isSome && (portOf s n).link)),
    (16, 8, flags 8 (fun n => (portBlock s n).isSome && (portOf s n).enabled)), (24, 1, b2n (s.mac.staged.isSome || !s.mac.stagedParams.isEmpty))]

/-- MAC_PORT_CFG_n. -/
def portCfg (x : Port) : Nat :=
  word [(0, 1, b2n x.enabled), (1, 1, b2n x.txClosed), (2, 2, x.fcMode), (4, 2, x.laneFix), (16, 14, x.maxFrame),
    (32, 3, x.defaultPrio), (35, 1, b2n x.grpAll)]

/-- MAC_PORT_STATUS_n of a port of the live layout. -/
def portStatus (s : State) (n : Nat) (b : Block) : Nat :=
  let x := portOf s n
  word [(0, 1, b2n x.link), (1, 1, b2n x.localFault), (2, 1, b2n x.remoteFault), (3, 1, b2n x.anComplete), (8, 4, b.lanes),
    (12, 4, b.lanes.log2 + 1), (16, 8, flags 8 (fun c => decide (s.now < x.pausedUntil c))),
    (24, 8, flags 8 (fun p => decide (x.xoff ≤ prioCells s n p))), (32, 32, x.linkChanges.toNat)]

/-- MAC_TXTS_TAG_n; its tag and fraction read zero while the FIFO is empty. -/
def txtsTag (x : Port) : Nat :=
  match x.txts with
  | e :: _ => word [(0, 32, e.tag), (32, 16, e.frac), (48, 1, 1)]
  | [] => 0

/-- MAC_CLASS_n_c. -/
def classCfg (q : TxClass) : Nat := word [(0, 24, q.burst), (32, 16, q.onchipKib), (48, 16, q.spillMib)]

/-- MAC_CLASS_OCC_n_c: a part of a KiB counts as one. -/
def classOcc (q : TxClass) : Nat := word [(0, 32, q.held false), (32, 32, (q.held true + 1023) / 1024)]

/-- The registers of port `n` of the live layout from its area of 4 KiB. -/
def portRead (s : State) (n : Nat) (b : Block) (r : Nat) : Option (Nat × Nat) :=
  let x := portOf s n
  match r with
  | 0x00 => some (8, portCfg x)
  | 0x08 => some (8, portStatus s n b)
  | 0x10 => some (8, word [(0, 16, x.xoff), (16, 16, x.xon), (32, 16, x.quanta)])
  | 0x18 => some (8, word [(0, 24, x.prioToClass)])
  | 0x20 => some (8, x.txtsNs)
  | 0x28 => some (8, txtsTag x)
  | 0x30 => some (8, word [(0, 8, x.rxSession), (8, 8, x.txSession)])
  | 0x40 => some (8, x.rxFrames.toNat)
  | 0x48 => some (8, x.rxOctets.toNat)
  | 0x50 => some (8, x.txFrames.toNat)
  | 0x58 => some (8, x.txOctets.toNat)
  | 0x60 => some (8, x.fecCorr.toNat)
  | 0x68 => some (8, x.fecUncorr.toNat)
  | 0x70 => some (8, x.pfcTx.toNat)
  | _ =>
    if 0x100 ≤ r && r < 0x180 && r % 16 = 0 then some (8, classCfg (x.cls ((r - 0x100) / 16)))
    else if 0x100 ≤ r && r < 0x180 && r % 16 = 8 then some (8, classOcc (x.cls ((r - 0x100) / 16)))
    else if 0x200 ≤ r && r < 0x400 && r % 8 = 0 then some (8, (tgetD x.grpHash ((r - 0x200) / 8) 0).toNat)
    else if 0x400 ≤ r && r < 0x420 && r % 8 = 0 then some (8, tgetD x.sel ((r - 0x400) / 8) selReset)
    else none

/-- MAC_LANE_l. -/
def laneWord (x : Lane) : Nat :=
  word [(0, 1, b2n x.signal), (1, 3, x.fault), (4, 1, b2n x.polaritySeen), (5, 1, b2n x.polarityFixed), (6, 1, b2n x.orderSeen),
    (7, 1, b2n x.orderFixed), (8, 3, x.position), (12, 1, b2n x.txInvert), (16, 1, b2n x.faultSeen)]

/-- MAC_MIRROR_s; a session that does not exist reads the reset value. -/
def mirrorWord (x : Option Session) : Nat :=
  match x with
  | some m => word [(0, 1, 1), (1, 1, b2n m.crossTenant), (8, 12, m.fid), (20, 8, m.window), (32, 14, m.snapLen),
      (48, 16, m.sampleN)]
  | none => word [(48, 16, 1)]

/-- MAC_ registers (Tables 6.9 and 7.9); those of a port that the live layout lacks read zero (R217). -/
def macRead (s : State) (o : Nat) : Option (Nat × Nat) :=
  let m := s.mac
  match o with
  | 0x00 => some (8, 0x24002888)
  | 0x08 => some (4, macStatus s)
  | 0x10 => some (8, layoutWord m.layout)
  | 0x18 => some (8, stagedWord s)
  | 0x20 => some (8, timeNow s)
  | 0x28 => some (4, word [(0, 16, m.fracLatch)])
  | 0x2C => some (4, word [(0, 1, b2n m.timeRunning), (1, 1, b2n m.ppsSeen), (16, 16, m.stepCount)])
  | 0x30 => some (4, m.freqAdj.toNat)
  | 0x38 => some (8, 0)
  | 0x40 => some (8, m.ppsNs)
  | 0x48 => some (4, word [(0, 16, m.ppsFrac)])
  | 0x50 => some (8, word [(0, 13, s.sw.loopMax)])
  | 0x58 => some (8, word ((List.range 4).map (fun p => (16 * p, 13, loopCells (pipeOf s p)))))
  | 0x100 => some (8, (cageOf s 0).word)
  | 0x140 => some (8, (cageOf s 1).word)
  | _ =>
    if 0x200 ≤ o && o < 0x240 && o % 8 = 0 then some (8, laneWord (macLane s ((o - 0x200) / 8)))
    else if 0x1000 ≤ o && o < 0x1800 && o % 32 = 0 then some (8, mirrorWord (tget s.sw.sessions ((o - 0x1000) / 32)))
    else if 0x1000 ≤ o && o < 0x1800 && o % 32 = 8 then
      some (8, ((tget s.sw.sessions ((o - 0x1000) / 32)).map
        (fun x => word [(0, 32, x.copies.toNat), (32, 32, x.dropped.toNat)])).getD 0)
    else if 0x10000 ≤ o && o < 0x18000 then
      (portBlock s ((o - 0x10000) / 0x1000)).bind (fun b => portRead s ((o - 0x10000) / 0x1000) b (o % 0x1000))
    else none

end Sys2Proof.Machine
end

