-- ==== Sys2Proof/Machine/RegWordsCtl.lean ====
section
/-! DEFINITION. What the registers of the cipher lanes, haul engine, storage initiator, function manager, endpoint, twin link,
Steward, counters and Almanac read as (Tables 8.10 to 8.12, 9.10 to 9.12, 10.14 and 10.15, 11.11 to 11.14, 12.13 and 12.14,
13.9 to 13.11, 14.16 to 14.18, 15.5 and 15.6, 16.12 to 16.14, 17.13). -/

namespace Sys2Proof.Machine

/-! ## Cipher lanes (R267) -/

/-- CIP_SA_STATE of a snapshot, whose state was judged when it was taken. -/
def saSnapCtl (a : Sa) : Nat :=
  let st := match a.st with
    | .dormant => 0
    | .active => 1
    | .erased => 2
  word [(0, 1, 1), (1, 2, st), (3, 1, a.dir), (4, 4, a.mode), (8, 1, b2n a.esn), (9, 1, b2n a.mirrored),
    (10, 1, b2n a.leaseReady), (16, 12, a.owner), (32, 16, a.slot), (48, 16, a.kekGen)]

/-- CIP_LANE_n. -/
def cipLane (s : State) (n : Nat) : Nat :=
  let l := laneOf s n
  word [(0, 1, b2n (s.cip.records.any (fun r => r.lane = n))), (1, 1, b2n l.held.isSome),
    (2, 1, b2n (l.dedicated ≠ 0xFFE)), (8, 12, l.owner), (20, 12, l.lastOwner), (32, 12, l.dedicated)]

/-- The lanes that are not dedicated. -/
def commonLanes (s : State) : Nat := ((List.range 32).filter (fun n => (laneOf s n).dedicated = 0xFFE)).length

/-- CIP_ registers (Table 8.10). -/
def cipRead (s : State) (o : Nat) : Option (Nat × Nat) :=
  let c := s.cip
  let g := fun i => c.grantSnap.getD i 0
  let a := fun (f : Sa → Nat) => (c.saSnap.map f).getD 0
  match o with
  | 0x00 => some (8, word [(0, 8, 0x20), (8, 8, 0x0B), (16, 16, 0xE000), (32, 23, 0x400000)])
  | 0x08 => some (4, word [(0, 1, b2n c.kek.isSome), (1, 1, b2n (s.alm.causes ≠ 0)), (8, 6, commonLanes s)])
  | 0x0C => some (4, word [(0, 10, c.claimLimitUs)])
  | 0x10 => some (8, word [(0, 32, c.kekGen.toNat)])
  | 0x18 => some (8, word [(0, 4, s.alm.causes), (4, 4, c.lastCause), (8, 1, b2n c.seen), (32, 32, c.erasures.toNat)])
  | 0x20 => some (8, word [(0, 12, c.violFid), (12, 5, c.violLane), (17, 1, b2n c.violSeen)])
  | 0x28 => some (4, word [(0, 22, c.saSel)])
  | 0x30 => some (8, a saSnapCtl)
  | 0x38 => some (8, a (·.seq))
  | 0x40 => some (8, a (·.lease))
  | 0x48 => some (4, word [(0, 12, c.grantSel)])
  | 0x50 => some (8, word [(0, 5, g 0), (8, 23, g 1), (32, 16, g 2)])
  | 0x58 => some (8, word [(0, 23, g 3), (32, 16, g 4)])
  | _ =>
    if 0x1000 ≤ o && o < 0x1200 && o % 16 = 0 then some (8, cipLane s ((o - 0x1000) / 16))
    else if 0x1000 ≤ o && o < 0x1200 && o % 16 = 8 then
      let l := laneOf s ((o - 0x1000) / 16)
      some (8, word [(0, 32, l.records.toNat), (32, 32, l.wipes.toNat)])
    else none

/-! ## Haul engine (R289, R290) -/

/-- The code of a channel state (Table 9.5). -/
def ChanState.code : ChanState → Nat
  | .ungranted => 0 | .idle => 1 | .armed => 2 | .ready => 3 | .running => 4 | .waitAck => 5 | .haltedError => 6
  | .frozen => 7

/-- HAUL_CH_STATE_c. -/
def chanState (c : Chan) : Nat :=
  word [(0, 3, c.st.code), (8, 8, c.lastStatus), (16, 16, c.index), (32, 16, c.halfPosted), (48, 16, c.fullPosted)]

/-- HAUL_CH_ACK_c. -/
def chanAck (c : Chan) : Nat := word [(0, 16, c.halfAcked), (16, 16, c.fullAcked)]

/-- The channel that a haul unit runs. -/
def unitChan (s : State) (u : Nat) : Option Nat := (List.range 16).find? (fun n => (chanOf s n).unit = some u)

/-- HAUL_UNIT_u. -/
def haulUnit (s : State) (u : Nat) : Nat :=
  word [(0, 4, (unitChan s u).getD 0), (4, 1, b2n (unitChan s u).isSome), (32, 32, (tgetD s.haul.unitRuns u 0).toNat)]

/-- The registers of a channel from its area of 64 bytes. -/
def chanRead (c : Chan) (r : Nat) : Option (Nat × Nat) :=
  match r with
  | 0x00 => some (8, word [(0, 12, c.owner), (12, 2, c.prio), (14, 2, c.mode), (16, 13, c.descLimit), (32, 12, c.msix),
      (48, 2, c.queueType), (50, 14, c.queue)])
  | 0x08 => some (8, chanState c)
  | 0x10 => some (8, c.head)
  | 0x18 => some (8, c.statusAddr)
  | 0x20 => some (8, word [(0, 17, c.high), (17, 17, c.low), (34, 17, c.fill)])
  | 0x28 => some (8, 0)
  | 0x30 => some (4, chanAck c)
  | 0x38 => some (8, word [(0, 32, c.runs.toNat), (32, 7, c.lists.length)])
  | _ => none

/-- HAUL_ registers (Table 9.10). -/
def haulRead (s : State) (o : Nat) : Option (Nat × Nat) :=
  match o with
  | 0x00 => some (8, word [(0, 4, 4), (4, 8, 0x10), (16, 16, 0x40)])
  | 0x08 => some (4, word [(0, 4, flags 4 (fun u => (unitChan s u).isSome)), (4, 1, b2n (domainRuns s 23))])
  | _ =>
    if 0x100 ≤ o && o < 0x120 && o % 8 = 0 then some (8, haulUnit s ((o - 0x100) / 8))
    else if 0x1000 ≤ o && o < 0x1400 then chanRead (chanOf s ((o - 0x1000) / 64)) (o % 64)
    else none

/-- The HAUL_VF registers of a function from an offset in their area (Table 9.12). -/
def haulVfRead (s : State) (fid o : Nat) : Option (Nat × Nat) :=
  match regChan s fid (o / 32) with
  | none => none
  | some n =>
    let c := chanOf s n
    match o % 32 with
    | 0x00 => some (8, 0)
    | 0x08 => some (8, chanAck c)
    | 0x10 => some (8, chanState c)
    | 0x18 => some (8, b2n c.stopReq)
    | _ => none

/-! ## Storage initiator (R315) -/

/-- STG_PIPE_p. -/
def stgPipe (s : State) (p : Nat) : Nat :=
  word [(0, 17, tcount s.stg.conns (fun _ c => c.pipeline = p)),
    (32, 14, tsum s.stg.conns (fun _ c => if c.pipeline = p then c.turn.length else 0))]

/-- STG_ registers (Table 10.14). -/
def stgRead (s : State) (o : Nat) : Option (Nat × Nat) :=
  let g := s.stg
  let c := fun (f : Conn → Nat) => (g.connSnap.map f).getD 0
  match o with
  | 0x00 => some (8, word [(0, 17, 0x10000), (17, 6, 0x30)])
  | 0x08 => some (4, word [(0, 1, b2n g.ready), (1, 1, b2n g.configured), (8, 4, g.tcpTable), (12, 4, g.roceTable)])
  | 0x10 => some (4, word [(0, 16, g.connSel)])
  | 0x18 => some (8, c (·.ctl))
  | 0x20 => some (8, c (·.aux))
  | 0x28 => some (8, c (·.timer))
  | 0x30 => some (4, word [(0, 12, g.grantSel)])
  | 0x38 => some (8, word [(0, 17, g.grantSnap.getD 0 0), (32, 17, g.grantSnap.getD 1 0)])
  | _ =>
    if 0x100 ≤ o && o < 0x140 && o % 16 = 0 then some (8, stgPipe s ((o - 0x100) / 16))
    else if 0x100 ≤ o && o < 0x140 && o % 16 = 8 then
      let ch := tget g.channels ((o - 0x100) / 16)
      some (8, word [(0, 4, ch.getD 0), (4, 1, b2n ch.isSome)])
    else if 0x800 ≤ o && o < 0x980 && o % 8 = 0 then some (8, c (fun x => (x.slot ((o - 0x800) / 8)).word))
    else none

/-! ## Functions (R346, R347) -/

/-- A count in a field of `w` bits, which saturates (R346). -/
def satField (w v : Nat) : Nat := min v (2 ^ w - 1)

/-- FN_STATUS. -/
def fnStatus (s : State) : Nat :=
  word [(0, 12, tcount s.fns (fun fid f => isVf fid && f.st ≠ .absent)), (12, 1, b2n s.fmg.ready),
    (13, 12, tcount s.fns (fun _ f => f.frozen)),
    (25, 12, tcount s.fns (fun fid f => fid ≠ 0 && (f.rawTable || f.rawHook)))]

/-- FN_POOL. -/
def fnPool (s : State) : Nat :=
  let free := fun (n : Nat) (f : Fn → Nat) => n - tsum s.fns (fun _ x => f x)
  word [(0, 15, free 0x4000 (·.tx)), (15, 15, free 0x4000 (·.rx)), (30, 15, free 0x4000 (·.cq)),
    (45, 18, free 0x20000 (·.msix))]

/-- FN_POOL_AUX: the device's channels come out of the grantable fifteen. -/
def fnPoolAux (s : State) : Nat :=
  word [(0, 4, 15 - (haulReserved s + chansBeside s 0xFFF 15)), (4, 15, 0x4000 - tsum s.fns (fun _ x => x.policers))]

/-- FN_VIOL. -/
def fnViol (f : Fn) : Nat := word [(0, 8, f.violCode), (8, 9, f.violMask), (17, 3, f.violTarget), (32, 32, f.violDetail)]

/-- FN_QUIESCE. -/
def fnQuiesce (q : QReport) : Nat :=
  word [(0, 16, satField 16 q.uncovered), (16, 12, satField 12 q.parked), (28, 5, satField 5 q.haulRuns),
    (33, 6, satField 6 q.lanes), (39, 9, satField 9 q.locks), (48, 16, satField 16 q.reads)]

/-- FN_QUIESCE_AUX. -/
def fnQuiesceAux (f : Fn) : Nat :=
  word [(0, 16, satField 16 f.lastQ.backlog), (16, 16, satField 16 f.lastQ.slots), (32, 8, f.lastQStatus),
    (40, 1, b2n f.lastQ.frozenDuring)]

/-- FN_WIN_BASE_j. -/
def winBase (w : Win) : Nat := word [(0, 1, b2n w.read), (1, 1, b2n w.write), (12, 52, w.base / 4096)]

/-- FN_ registers (Table 11.11). -/
def fnRead (s : State) (o : Nat) : Option (Nat × Nat) :=
  let x := s.fmg.sel
  let f := x.fn
  match o with
  | 0x00 => some (8, word [(0, 12, 0x800), (12, 12, 0x801), (24, 5, 0x10)])
  | 0x08 => some (8, fnStatus s)
  | 0x10 => some (4, isoWord s)
  | 0x18 => some (8, fnPool s)
  | 0x20 => some (8, fnPoolAux s)
  | 0x40 => some (4, word [(0, 12, x.fid)])
  | 0x48 => some (8, fnState f x.vfEnabled)
  | 0x50 => some (8, fnViol f)
  | 0x58 => some (8, f.violTime)
  | 0x60 => some (8, word [(0, 9, f.tx), (9, 9, f.rx), (18, 9, f.cq), (27, 9, f.msix)])
  | 0x68 => some (8, word [(0, 4, f.haul), (4, 15, f.policers)])
  | 0x70 => some (8, word [(0, 16, f.shares.latency), (16, 8, f.shares.steps), (24, 4, f.shares.access)])
  | 0x78 => some (8, fnQuiesce f.lastQ)
  | 0x80 => some (8, fnQuiesceAux f)
  | _ =>
    if 0x100 ≤ o && o < 0x200 && o % 16 = 0 then some (8, winBase (tgetD f.windows ((o - 0x100) / 16) {}))
    else if 0x100 ≤ o && o < 0x200 && o % 16 = 8 then
      some (8, word [(0, 53, (tgetD f.windows ((o - 0x100) / 16) {}).pages)])
    else none

/-- FN_VF_STATUS or FN_VF_VIOL_TIME of a function (Table 11.14). -/
def fnVfRead (s : State) (fid o : Nat) : Option (Nat × Nat) :=
  let f := fnOf s fid
  match o with
  | 0 => some (8, word [(0, 3, f.st.code), (3, 1, b2n f.frozen), (8, 8, f.violCode)])
  | 8 => some (8, f.violTime)
  | _ => none

/-! ## PCI Express endpoint (R352, R353, R361, R375) -/

/-- The tags that are busy on both links (R362). -/
def busyTags (s : State) : Nat := (s.pci.reads.filter (fun r => r.tag.isSome && r.fin.isNone)).length

/-- PCI_LINK. -/
def pciLink (s : State) : Nat :=
  let p := s.pci
  word [(0, 3, p.rate), (3, 1, b2n p.flit), (4, 4, p.width), (8, 3, p.rateB), (11, 1, b2n p.flitB), (12, 4, p.widthB),
    (16, 1, b2n p.bifurcated), (17, 15, p.dlUpCount)]

/-- PCI_PWR. -/
def pciPwr (s : State) : Nat :=
  word [(0, 4, flags 4 (fun p => (domOf s (12 + p)).held)), (4, 1, b2n (domOf s 18).held), (5, 1, b2n (domOf s 23).held),
    (6, 1, b2n (tany s.alm.domains (fun _ d => d.draining.isSome))), (16, 3, s.pci.wakeCause), (19, 1, b2n s.pci.wakeSeen)]

/-- PCI_ registers (Table 12.13), in PF0's configuration space. -/
def pciRead (s : State) (o : Nat) : Option Nat :=
  match o with
  | 0x400 => some 0x0001000B
  | 0x404 => some 0x02010001
  | 0x408 => some (pciLink s)
  | 0x40C => some (word [(0, 26, ctoOf s 0 / 1000)])
  | 0x410 => some (word [(0, 14, busyTags s), (14, 14, tcount s.pci.quarantine (fun _ e => decide (s.now < e.1)))])
  | 0x414 => some (word [(0, 1, b2n (intaWire s)), (1, 1, b2n s.pci.lastAssert), (16, 16, s.pci.asserts)])
  | 0x418 => some (pciPwr s)
  | 0x41C => some (word [(0, 12, s.pci.lateFid), (12, 14, s.pci.lateTag), (26, 1, s.pci.lateLink), (27, 1, b2n s.pci.lateSeen)])
  | _ => none

/-- One 4-byte word of an MSI-X table entry. -/
def MsixVec.word (x : MsixVec) (w : Nat) : Nat :=
  match w with
  | 0 => x.addr % 2 ^ 32
  | 1 => x.addr / 2 ^ 32 % 2 ^ 32
  | 2 => x.data % 2 ^ 32
  | _ => b2n x.mask

/-- The MSI-X table of a function by offset. -/
def msixRead (s : State) (fid o : Nat) : Option (Nat × Nat) :=
  if o % 4 = 0 then some (4, (tgetD (pciOf s fid).vecs (o / 16) {}).word (o / 4 % 4)) else none

/-- The pending bits of a function by offset. -/
def pbaRead (s : State) (fid o : Nat) : Option (Nat × Nat) :=
  if o % 8 = 0 then some (8, flags 64 (fun i => (tgetD (pciOf s fid).vecs (8 * o + i) {}).pending)) else none

/-! ## Twin link (R395) -/

/-- TWN_ registers (Table 13.9). -/
def twnRead (s : State) (o : Nat) : Option (Nat × Nat) :=
  if o % 8 = 0 && o < 0x48 then some (8, (twnRegs s).getD (o / 8) 0)
  else if o = 0x100 then some (8, twinLaneWord (macLane s 8))
  else if o = 0x108 then some (8, twinLaneWord (macLane s 9))
  else none

/-! ## Device block and Steward (R422, R423, R495) -/

/-- The 32 bytes of an event entry (Table 14.11). -/
def EventEntry.bytes (e : EventEntry) : List Nat :=
  leBytes 4 e.seq ++ leBytes 2 e.code ++ leBytes 2 e.fid ++ leBytes 8 e.time ++ e.detail ++
    List.replicate (16 - e.detail.length) 0

/-- DEV_ registers (Table 14.16). -/
def devRead (s : State) (o : Nat) : Option (Nat × Nat) :=
  let d := s.dev
  match o with
  | 0x00 => some (8, devId)
  | 0x08 => some (8, s.alm.unit)
  | 0x10 => some (4, flags 4 (fun i => [s.stw.ready, d.wipeDone, (currentBank s).isSome, queuesReady s].getD i false))
  | 0x14 => some (4, b2n d.compatEnable)
  | 0x18 => some (4, d.logProd.toNat)
  | 0x1C => some (4, d.logCons.toNat)
  | 0x20 => some (8, word [(0, 32, d.lostPending), (32, 32, d.lostTotal.toNat)])
  | _ =>
    if 0x10000 ≤ o && o < 0x30000 && o % 8 = 0 then
      some (8, leNat (((tgetD d.log ((o - 0x10000) / 32) {}).bytes.drop (o % 32)).take 8))
    else none

/-- STW_MBX_STAT of the mailbox that STW_MBX_SEL names. -/
def mbxStat (x : Mbx) : Nat :=
  word [(0, 2, x.st), (8, 8, x.lastStatus), (16, 16, x.lastOpcode), (32, 32, x.busyRefused.toNat)]

/-- The firmware, chain and pin registers (Table 17.13). -/
def fwRead (s : State) (o : Nat) : Option (Nat × Nat) :=
  let f := s.fw
  if o = 0x1000 then some (4, word [(0, 3, f.activation), (3, 1, b2n f.manifest.isSome), (4, 1, b2n f.compatSet),
    (5, 1, b2n f.areaB), (6, 1, b2n f.pendingReset)])
  else if 0x1100 ≤ o && o < 0x1148 && o % 8 = 0 then some (8, fwVer s ((o - 0x1100) / 8 + 1))
  else if 0x1200 ≤ o && o < 0x1224 && o % 4 = 0 then some (4, floorOf s ((o - 0x1200) / 4 + 1))
  else if o = 0x1300 then some (8, chainWord s)
  else if 0x1400 ≤ o && o < 0x14C0 && o % 8 = 0 then some (8, (tgetD f.pins ((o - 0x1400) / 8) 0).toNat)
  else none

/-- STW_ registers (Tables 14.17 and 17.13). -/
def stwRead (s : State) (o : Nat) : Option (Nat × Nat) :=
  let w := s.stw
  match o with
  | 0x00 => some (8, word [(0, 8, 0x10), (8, 8, 6), (16, 16, 0x1000), (32, 16, 0x800)])
  | 0x08 => some (4, word [(0, 1, b2n w.ready), (1, 5, w.bg.length), (6, 1, b2n w.admHeld)])
  | 0x0C => some (4, word [(0, 1, b2n w.admEnable), (4, 4, w.admSizeLog2)])
  | 0x10 => some (8, w.cmdBase)
  | 0x18 => some (8, w.rplBase)
  | 0x20 => some (8, w.ctrAddr)
  | 0x28 => some (4, 0)
  | 0x30 => some (8, word [(0, 32, w.cmdProd.toNat), (32, 32, w.cmdCons.toNat)])
  | 0x38 => some (8, word [(0, 32, w.rplProd.toNat), (32, 32, w.rplCons.toNat)])
  | 0x40 => some (4, word [(0, 13, w.svcMask), (16, 13, w.mctpMask)])
  | 0x44 => some (4, word [(0, 16, w.udpPort)])
  | 0x48 => some (4, word [(0, 12, w.mbxSel)])
  | 0x50 => some (8, mbxStat (fnOf s w.mbxSel).mbx)
  | _ => fwRead s o

/-- The mailbox of a function (Tables 14.4, 14.18), whose buffers hold `n` bytes each. -/
def mbxRead (s : State) (fid n o : Nat) : Option (Nat × Nat) :=
  let x := (fnOf s fid).mbx
  let eight := fun (f : Nat → Nat) => some (8, leNat ((List.range 8).map f))
  if o % 8 ≠ 0 then none
  else if o < n then eight (fun k => tgetD x.cmd (o + k) 0)
  else if o < 2 * n then eight (fun k => x.reply.getD (o - n + k) 0)
  else if o = 2 * n then some (8, 0)
  else if o = 2 * n + 8 then some (8, word [(0, 2, x.st), (2, 1, b2n (isFrozen s fid)), (8, 8, x.lastStatus)])
  else none

/-! ## Counters, traces and the Crier (R440) -/

/-- The CNT window: slots, their instants and headers. -/
def cntWindow (s : State) (o : Nat) : Option (Nat × Nat) :=
  if o % 8 ≠ 0 then none
  else if 0x80000 ≤ o && o < 0xF8000 then
    some (8, (tgetD s.cnt.slots ((o - 0x80000) / 0x800) {}).words.getD (o / 8 % 256) 0)
  else if 0xF8000 ≤ o && o < 0xF8F00 then
    let x := tgetD s.cnt.slots ((o - 0xF8000) / 16) {}
    some (8, if o % 16 = 0 then x.time else word [(0, 12, x.fid), (12, 1, b2n x.done), (32, 16, x.gen)])
  else none

/-- CNT_TRACE_PIPE_p: a part of a KiB counts as one. -/
def tracePipe (x : Pipe) : Nat := word [(0, 32, x.traced.toNat), (32, 25, ((x.area.map List.length).sum + 1023) / 1024)]

/-- CNT_ registers (Table 15.5). -/
def cntRead (s : State) (o : Nat) : Option (Nat × Nat) :=
  let c := s.cnt
  match o with
  | 0x00 => some (8, word [(0, 12, 0x803), (12, 9, 0x100), (21, 8, 0xF0), (32, 8, 0x68), (40, 8, 0xF7)])
  | 0x08 => some (4, word [(0, 1, b2n c.ready), (1, 1, b2n c.exporting), (2, 1, b2n (c.traceN ≠ 0))])
  | 0x0C => some (4, word [(0, 8, c.snapSlot), (8, 12, c.snapFid), (31, 1, b2n c.snapGo)])
  | 0x10 => some (8, word [(0, 24, c.traceN)])
  | 0x18 => some (8, c.traceMask)
  | 0x20 => some (8, word [(0, 32, c.interval), (32, 2, c.dest), (36, 4, c.templates), (40, 4, c.channel)])
  | 0x28 => some (8, word [(0, 32, c.exports.toNat), (32, 16, 64 * c.obsQueue.length), (48, 16, c.svcQueue.length)])
  | _ =>
    if 0x100 ≤ o && o < 0x120 && o % 8 = 0 then some (8, tracePipe (pipeOf s ((o - 0x100) / 8)))
    else cntWindow s o

/-! ## Almanac (R472) -/

/-- The 16 bytes of an alarm history entry (Table 16.9). -/
def Hist.bytes (h : Hist) : List Nat :=
  leBytes 8 h.sec ++ [h.cause, h.flags] ++ leBytes 2 h.value ++ leBytes 4 h.poh

/-- ALM_ registers (Table 16.12). -/
def almRead (s : State) (o : Nat) : Option (Nat × Nat) :=
  let a := s.alm
  match o with
  | 0x00 => some (8, word [(0, 8, 0x19), (8, 8, 0x40), (16, 8, 0x40), (24, 8, 0x20)])
  | 0x08 => some (4, almStatus s)
  | 0x0C => some (4, b2n s.stw.restarting + b2n s.store.restarting * 2)
  | 0x10 => some (8, a.calSec)
  | 0x18 => some (4, word [(0, 15, a.calLatch)])
  | 0x1C => some (4, word [(0, 16, a.trim)])
  | 0x20 => some (8, a.wakeAt)
  | 0x28 => some (4, almDomains s)
  | 0x30 => some (8, almSense s)
  | 0x38 => some (8, almAlarm s)
  | 0x40 => some (4, almFault s)
  | 0x48 => some (8, s.store.nonce)
  | 0x50 => some (4, word [(0, 6, s.store.histNext), (16, 16, s.store.histTotal)])
  | _ =>
    if 0x100 ≤ o && o < 0x164 && o % 4 = 0 then some (4, word [(0, 20, (domOf s ((o - 0x100) / 4 + 1)).limitUs)])
    else if 0x1000 ≤ o && o < 0x1100 && o % 8 = 0 then some (8, lifeWord s ((o - 0x1000) / 8))
    else if 0x2000 ≤ o && o < 0x2400 && o % 8 = 0 then
      some (8, leNat (((tgetD s.store.hist ((o - 0x2000) / 16) {}).bytes.drop (o % 16)).take 8))
    else none

end Sys2Proof.Machine
end

