-- ==== Sys2Proof/Machine/PciConfig.lean ====
section
/-! DEFINITION. Configuration space as software reads it (R349, R350, R352 to R354, R359, R375): the header, the capabilities
of Table 12.4 at their offsets and the PCI_ registers. The layout inside a capability is the PCI Express specification's
(log entry 118). -/

namespace Sys2Proof.Machine

/-- The routing ID of a FID on link A under ARI, from the bus number of its function 0 (R350). -/
def routingId (bus fid : Nat) : Nat := (bus * 256 + fid) % 65536

/-- A capability header: identifier, version and the offset of the next one. -/
def extHdr (id ver next : Nat) : Nat := word [(0, 16, id), (16, 4, ver), (20, 12, next)]

/-- The function is function 0 of its link (Table 12.2). -/
def linkHead (s : State) (fid : Nat) : Bool := fid = 0 || (fid = 1 && s.pci.bifurcated)

/-- A time as the Readiness Time Reporting capability encodes it: a value of 9 bits in units of 32,768 ns, or of 1,048,576 ns where
that is too short, rounded up. -/
def readyTime (us : Nat) : Nat :=
  let n := (us * 1000 + 32767) / 32768
  if n < 512 then 3 * 512 + n else 4 * 512 + (us * 1000 + 1048575) / 1048576

/-- Command and Status. Interrupt Status reads W (R359). -/
def cfgCommandRead (s : State) (fid : Nat) : Nat :=
  let f := pciOf s fid
  word [(1, 1, if fid ≤ 1 then b2n f.mse else 0), (2, 1, b2n f.bme), (10, 1, if fid = 0 then b2n s.pci.intDisable else 0),
    (19, 1, if fid = 0 then b2n (intaWire s) else 0), (20, 1, 1)]

/-- The header of a function (Table 12.3). -/
def headerRead (s : State) (fid o : Nat) : Option Nat :=
  let f := pciOf s fid
  match o with
  | 0x00 => some (if isVf fid then 0xFFFFFFFF else 0x16401EA7)
  | 0x04 => some (cfgCommandRead s fid)
  | 0x08 => some (if fid = 1 then 0x028000B0 else 0x020000B0)
  | 0x0C => some (if fid = 0 && !s.pci.bifurcated then 0x800000 else 0)
  | 0x10 => some (if fid ≤ 1 then f.bar % 2 ^ 32 + 4 else 0)
  | 0x14 => some (if fid ≤ 1 then f.bar / 2 ^ 32 else 0)
  | 0x18 | 0x1C | 0x20 | 0x24 | 0x28 | 0x30 | 0x38 => some 0
  | 0x2C => some (word [(0, 16, s.dev.subsysVendor), (16, 16, s.dev.subsysId)])
  | 0x34 => some (if isVf fid then 0x50 else 0x40)
  | 0x3C => some (if fid = 0 then 0x100 + f.intLine else 0)
  | _ => none

/-- Power Management of PF0 and PF1 (R353, R367, R369): D1 supported; PF0 reports PME_Support for D1, D3hot and D3cold. -/
def pmRead (s : State) (fid o : Nat) : Option Nat :=
  match o with
  | 0x40 => some (if fid = 0 then 0xD2035001 else 0x02035001)
  | 0x44 =>
    some (word [(0, 2, (pciOf s fid).dstate), (3, 1, 1), (8, 1, if fid = 0 then b2n s.pci.pmeEn else 0),
      (15, 1, if fid = 0 then b2n s.pci.pmeStatus else 0)])
  | _ => none

/-- The PCI Express capability (R349, R353). -/
def pcieRead (s : State) (fid o : Nat) : Option Nat :=
  let f := pciOf s fid
  let busy := s.pci.reads.any (fun r => requester r.fid = fid && r.tag.isSome && r.fin.isNone)
  match o with
  | 0x50 => some (if fid = 0 then 0x00020010 else 0x00029010)
  | 0x54 => some 0x10008022
  | 0x58 => some (word [(0, 15, if fid ≤ 1 then f.devCtl else 0), (21, 1, b2n busy)])
  | 0x5C => some (word [(0, 4, 7), (4, 6, if s.pci.bifurcated then 8 else 16), (10, 2, 2)])
  | 0x60 =>
    let b := linkOf s fid = 1
    let width := if b then s.pci.widthB else s.pci.width
    some (if fid ≤ 1 then
      word [(0, 12, f.linkCtl), (16, 4, if b then s.pci.rateB else s.pci.rate), (20, 6, 2 ^ width)] else 0)
  | 0x74 => some 0x0003000F
  | 0x78 =>
    some (if fid ≤ 1 then word [(0, 4, if fid = 0 then s.pci.ctoPf0 else s.pci.ctoPf1), (4, 12, f.devCtl2 / 16)] else 0)
  | _ => none

/-- The MSI-X capability of PF1 and the virtual functions: 128 entries, in BAR0 (Tables 12.5, 12.6). -/
def msixCapRead (s : State) (fid o : Nat) : Option Nat :=
  let f := pciOf s fid
  match o with
  | 0x90 => some (word [(0, 8, 0x11), (16, 11, 127), (30, 1, b2n f.msixMask), (31, 1, b2n f.msixEnable)])
  | 0x94 => some (if fid = 1 then 0x30000 else 0xC000)
  | 0x98 => some (if fid = 1 then 0x38000 else 0xD000)
  | _ => none

/-- A dword of the header of a logged memory read: format and length, the requester's part, which is a free value, and the address
(log entry 118). -/
def logDword (f : PciFn) (base i : Nat) : Nat :=
  match f.aerLog with
  | none => 0
  | some (off, size, d) =>
    let a := base + off
    let long := 2 ^ 32 ≤ a
    match i with
    | 0 => (if long then 0x20000000 else 0) + (a % 4 + size + 3) / 4 % 1024
    | 1 => (Sys2Proof.Config.freeWord d).toNat % 2 ^ 32
    | 2 => if long then a / 2 ^ 32 % 2 ^ 32 else a / 4 * 4
    | _ => if long then a % 2 ^ 32 / 4 * 4 else 0

/-- AER of a function, whose BAR0 begins at `base`, with the header log (R349, R356). -/
def aerRead (f : PciFn) (base o : Nat) : Option Nat :=
  match o with
  | 0x11C => some (logDword f base 0)
  | 0x120 => some (logDword f base 1)
  | 0x124 => some (logDword f base 2)
  | 0x128 => some (logDword f base 3)
  | 0x100 => some (extHdr 0x0001 2 0x148)
  | 0x104 => some f.aerUnc
  | 0x108 => some f.aerUncMask
  | 0x10C => some f.aerUncSev
  | 0x110 => some f.aerCor
  | 0x114 => some f.aerCorMask
  | 0x118 => some (f.aerCtl + 0xA0)
  | _ => none

/-- The capabilities of function 0 of a link from 0x158 on (R349, R353): Secondary PCI Express, Data Link Feature, Physical Layer
16.0, 32.0, 64.0 and 128.0 GT/s, and Lane Margining, in that order, each as long as it is for 16 lanes. Beside their headers they
read as a link does for which no software has set anything (PRESUMED, log entry 118). -/
def linkCapRead (fid o : Nat) : Nat :=
  match o with
  | 0x158 => extHdr 0x0019 1 0x184
  | 0x184 => extHdr 0x0025 1 0x190
  | 0x190 => extHdr 0x0026 1 0x1C0
  | 0x1C0 => extHdr 0x002A 1 0x1F0
  | 0x1F0 => extHdr 0x0031 1 0x210
  | 0x210 => extHdr 0x0038 1 0x230
  | 0x230 => extHdr 0x0027 1 (if fid = 0 then 0x2C0 else 0x300)
  | _ => 0

/-- ARI, ACS, the serial number, DOE and Readiness Time Reporting (R349, R353, R354): the headers of Table 12.4 linked in
its order. DOE's capabilities, control, status and mailboxes read as those of an idle mailbox without interrupts: its data objects
come by the rows of the management paths (DESIGN CHOICE, log entry 118). -/
def extRead (s : State) (fid o : Nat) : Option Nat :=
  let pf := fid ≤ 1
  match o with
  | 0x148 => some (extHdr 0x000E 1 (if linkHead s fid then 0x158 else 0x300))
  | 0x14C => some (if fid = 0 && !s.pci.bifurcated then 0x100 else 0)
  | 0x300 => some (extHdr 0x000D 1 (if pf then 0x310 else 0))
  | 0x304 => some 0
  | 0x310 => if pf then some (extHdr 0x0003 1 (if fid = 0 then 0x320 else 0x340)) else none
  | 0x314 => if pf then some (s.alm.unit % 2 ^ 32) else none
  | 0x318 => if pf then some (s.alm.unit / 2 ^ 32 % 2 ^ 32) else none
  | 0x320 => if fid = 0 then some (extHdr 0x002E 2 0x340) else none
  | 0x324 | 0x328 | 0x32C | 0x330 | 0x334 => if fid = 0 then some 0 else none
  | 0x340 => if pf then some (extHdr 0x0022 1 (if fid = 0 then 0x400 else 0)) else none
  | 0x344 => if pf then some (word [(0, 12, readyTime 20000), (12, 12, readyTime 20000), (31, 1, 1)]) else none
  | 0x348 => if pf then some (word [(0, 12, readyTime 8000), (12, 12, readyTime 10000)]) else none
  | _ => none

/-- SR-IOV of PF0 (R350, R352, R373): TotalVFs 2,048, First VF Offset 2, VF Stride 1, VF Device ID 0x1641, VF BAR0 64-bit,
ARI Capable Hierarchy preserved over an FLR. -/
def sriovRead (s : State) (o : Nat) : Option Nat :=
  let p := s.pci
  match o with
  | 0x2C0 => some (extHdr 0x0010 1 0x300)
  | 0x2C4 => some 2
  | 0x2C8 => some (word [(0, 1, b2n p.vfEnable), (3, 1, b2n p.vfMse), (4, 1, b2n p.ari)])
  | 0x2CC => some (word [(0, 16, 2048), (16, 16, 2048)])
  | 0x2D0 => some (word [(0, 16, p.numVfs)])
  | 0x2D4 => some (word [(0, 16, 2), (16, 16, 1)])
  | 0x2D8 => some 0x16410000
  | 0x2DC => some 0x553
  | 0x2E0 => some p.sysPage
  | 0x2E4 => some (p.vfBar % 2 ^ 32 + 4)
  | 0x2E8 => some (p.vfBar / 2 ^ 32)
  | 0x2EC | 0x2F0 | 0x2F4 | 0x2F8 | 0x2FC => some 0
  | _ => none

/-- Where BAR0 of a function lies on the bus: for a virtual function, in the SR-IOV capability's VF BAR0. -/
def barOf (s : State) (fid : Nat) : Nat := if fid ≤ 1 then (pciOf s fid).bar else s.pci.vfBar + 65536 * (fid - 2)

/-- A configuration dword of a function; none where no register lies, and where the request completes with Request Retry Status or
Unsupported Request: before the device is ready, during an FLR, and for a function that is not there (R354, R370, R371). -/
def configRead (s : State) (fid o : Nat) : Option Nat :=
  if !cfgReach s fid then none
  else
    match headerRead s fid o with
    | some v => some v
    | none => capRead s fid o
where
  /-- A dword of a capability. -/
  capRead (s : State) (fid o : Nat) : Option Nat :=
    if 0x40 ≤ o && o < 0x48 then (if fid ≤ 1 then pmRead s fid o else none)
    else if 0x50 ≤ o && o < 0x90 then pcieRead s fid o
    else if 0x90 ≤ o && o < 0xA0 then (if fid = 0 then none else msixCapRead s fid o)
    else if 0x100 ≤ o && o < 0x148 then aerRead (pciOf s fid) (barOf s fid) o
    else if 0x158 ≤ o && o < 0x278 then (if linkHead s fid then some (linkCapRead fid o) else none)
    else if 0x2C0 ≤ o && o < 0x300 then (if fid = 0 then sriovRead s o else none)
    else if o < 0x400 then extRead s fid o
    else if fid = 0 then pciRead s o
    else none

end Sys2Proof.Machine
end

