-- ==== Sys2Proof/Machine/RegRead.lean ====
section
/-! DEFINITION. Register reads through the BARs and of configuration space (R8 to R11, R38, R355, R356). They are what software
sees of a state: the table's rows name only the reads that change something (RESIDENCY_PEAK_READ, TXTS_TAG_READ,
MAC_TIME_NS_READ, ALM_CAL_SEC_READ), and those rows hold the change. -/

namespace Sys2Proof.Machine

/-- The register that starts at an offset of PF0's BAR0 (Table 1.7): its width in bytes and its value. -/
def pf0Read (s : State) (off : Nat) : Option (Nat × Nat) :=
  let o := off % 0x100000
  match off / 0x100000 with
  | 0 => devRead s o
  | 1 => stwRead s o
  | 2 => seqRead s o
  | 3 => seqRead s (0x100000 + o)
  | 4 => qmRead s o
  | 5 => qmRead s (0x100000 + o)
  | 6 => grnRead s o
  | 7 => fwtRead s o
  | 8 => macRead s o
  | 9 => cipRead s o
  | 10 => haulRead s o
  | 11 => stgRead s o
  | 12 => fnRead s o
  | 13 => twnRead s o
  | 14 => almRead s o
  | 15 => cntRead s o
  | _ => none

/-- QM_VF_RING_k or QM_VF_FETCH_k from an offset in their area. -/
def vfRingRead (s : State) (fid o : Nat) : Option (Nat × Nat) :=
  if o % 16 = 0 then some (8, (vfRingWords s fid (o / 16)).1)
  else if o % 16 = 8 then some (8, (vfRingWords s fid (o / 16)).2)
  else none

/-- The register that starts at an offset of PF1's BAR0 (Table 12.5). -/
def pf1Read (s : State) (off : Nat) : Option (Nat × Nat) :=
  if 0x20000 ≤ off && off < 0x24000 then mbxRead s 1 0x1000 (off - 0x20000)
  else if 0x24000 ≤ off && off < 0x24010 then fnVfRead s 1 (off - 0x24000)
  else if 0x28000 ≤ off && off < 0x29000 then vfRingRead s 1 (off - 0x28000)
  else if 0x2C000 ≤ off && off < 0x30000 then haulVfRead s 1 (off - 0x2C000)
  else if 0x30000 ≤ off && off < 0x30800 then msixRead s 1 (off - 0x30000)
  else if 0x38000 ≤ off && off < 0x38010 then pbaRead s 1 (off - 0x38000)
  else if 0x80000 ≤ off && off < 0x100000 then cntWindow s off
  else none

/-- The register that starts at an offset of a virtual function's BAR0 (Table 12.6). -/
def vfRead (s : State) (fid off : Nat) : Option (Nat × Nat) :=
  if 0x8000 ≤ off && off < 0xA000 then mbxRead s fid 0x800 (off - 0x8000)
  else if 0xA000 ≤ off && off < 0xA010 then fnVfRead s fid (off - 0xA000)
  else if 0xB000 ≤ off && off < 0xB400 then vfRingRead s fid (off - 0xB000)
  else if 0xB800 ≤ off && off < 0xC000 then haulVfRead s fid (off - 0xB800)
  else if 0xC000 ≤ off && off < 0xC800 then msixRead s fid (off - 0xC000)
  else if 0xD000 ≤ off && off < 0xD010 then pbaRead s fid (off - 0xD000)
  else none

/-- The register that starts at an offset of a function's BAR. -/
def regRead (s : State) (fid off : Nat) : Option (Nat × Nat) :=
  if fid = 0 then pf0Read s off else if fid = 1 then pf1Read s off else vfRead s fid off

/-- One byte of a function's BAR: of the 8-byte or the 4-byte register that covers it, else zero (R9, R11). -/
def barByte (s : State) (fid a : Nat) : Nat :=
  match regRead s fid (a / 8 * 8), regRead s fid (a / 4 * 4) with
  | some (8, v), _ => v / 256 ^ (a % 8) % 256
  | _, some (4, v) => v / 256 ^ (a % 4) % 256
  | _, _ => 0

/-- How a memory read of a BAR is completed (R356): with data, with Completer Abort, or as an Unsupported Request. -/
inductive ReadAnswer where
  | data (bytes : List Nat) | completerAbort | unsupported
  deriving DecidableEq, Repr

/-- What a memory read of a function's BAR returns, byte by byte; none where it is not completed with data: the function is not
reached, or the read is longer than 8 bytes (R356). Reading a narrower or a wider piece acts as R9 says. -/
def barRead (s : State) (fid off size : Nat) : Option (List Nat) :=
  if memReach s fid && 1 ≤ size && size ≤ 8 then some ((List.range size).map (fun i => barByte s fid (off + i))) else none

/-- The completion of a memory read of a function's BAR (R356). -/
def barAnswer (s : State) (fid off size : Nat) : ReadAnswer :=
  if !memReach s fid then .unsupported
  else if 8 < size then .completerAbort
  else .data ((List.range size).map (fun i => barByte s fid (off + i)))

/-- A BAR read that ends with Completer Abort is recorded in the function's AER capability, with the header log (R356). -/
def barReadEnd (s : State) (fid off size : Nat) : State :=
  match barAnswer s fid off size with
  | .completerAbort =>
    let (d, t) := draw (aerError s fid 15)
    setPci t fid { pciOf t fid with aerLog := some (off, size, d) }
  | _ => s

/-- An AtomicOp request to a BAR completes with Unsupported Request (R349). -/
def atomicAnswer : ReadAnswer := .unsupported

end Sys2Proof.Machine
end

