-- ==== Sys2Proof/WellFormed.lean ====
section
/-! DEFINITION. Well-formed commands: every operand fits the field or the wire that carries it. A parameter that fits its field
and lies outside a rule's range is well formed: the command refuses it (R404). -/

namespace Sys2Proof

/-- A number of at most 64 bits. -/
def fits (n : Nat) : Bool := decide (n < 2 ^ 64)
/-- Bytes. -/
def bytesOk (bs : List Nat) : Bool := bs.all (fun b => decide (b < 256))
/-- Array elements of at most 32 bits. -/
def bytesOk2 (bs : List Nat) : Bool := bs.all (fun b => decide (b < 2 ^ 32))
/-- A packet's origin: a 12-bit FID and a 32-bit tag (Table 14.1). -/
def metaOk (m : Meta) : Bool := decide (m.fid < 4096) && decide (m.tag < 2 ^ 32)
/-- A DMA window record. -/
def winOk (w : WinRec) : Bool := fits w.base && fits w.pages
/-- A chain frame: a byte-wide kind, 32-bit fields and at most 1,024 payload bytes (Table 17.10). -/
def frameOk (f : ChainFrame) : Bool :=
  decide (f.kind < 256) && decide (f.off < 2 ^ 32) && decide (f.version < 2 ^ 32) && decide (f.digestId < 2 ^ 32) &&
    bytesOk f.payload && decide (f.payload.length ≤ 1024)
/-- A table set: step indices of 16 bits and step words of 128 (R40, R47). -/
def setOk (t : TableSet) : Bool := t.steps.all (fun e => decide (e.1 < 65536) && decide (e.2 < 2 ^ 128))

/-- The command's operands fit. -/
def wellFormed (i : Instr) : Bool :=
  match i with
  | .readIdentity m => metaOk m
  | .loadTableSet m bank addr len img _ => metaOk m && fits bank && fits addr && fits len && setOk img
  | .flip m => metaOk m
  | .discardBank m bank => metaOk m && fits bank
  | .loadHook m region fid _ _ addr len steps _ =>
    metaOk m && fits region && decide (fid < 4096) && fits addr && fits len && bytesOk steps
  | .setPortLayout m types => metaOk m && bytesOk types
  | .setPortParameters m prm => metaOk m && bytesOk2 prm.burst && bytesOk2 prm.onchipKib && bytesOk2 prm.spillMib
  | .withdrawStagedConfiguration m => metaOk m
  | .enablePort m port => metaOk m && decide (port < 16)
  | .disablePort m port option limitMs => metaOk m && decide (port < 16) && fits option && fits limitMs
  | .portDrainEnd port => decide (port < 16)
  | .writeGroupFilter m port words grpAll => metaOk m && decide (port < 16) && words.all fits && fits grpAll
  | .writeSelectTable m port fields entries => metaOk m && decide (port < 16) && fits fields && bytesOk entries
  | .moduleTransfer m cage dir dev off len data _ =>
    metaOk m && fits cage && fits dir && fits dev && fits off && fits len && bytesOk data
  | .createInstance m fid rec => metaOk m && decide (fid < 4096) && rec.windows.all winOk
  | .quiesce m fid limitMs => metaOk m && decide (fid < 4096) && fits limitMs
  | .quiesceEnd fid => decide (fid < 4096)
  | .resume m fid => metaOk m && decide (fid < 4096)
  | .resetInstance m fid _ => metaOk m && decide (fid < 4096)
  | .removeInstance m fid _ => metaOk m && decide (fid < 4096)
  | .resetComplete fid => decide (fid < 4096)
  | .release m fid => metaOk m && decide (fid < 4096)
  | .setDmaWindow m fid win => metaOk m && decide (fid < 4096) && winOk win
  | .setExpertGrant m fid _ _ => metaOk m && decide (fid < 4096)
  | .setInstanceGrant m fid _ => metaOk m && decide (fid < 4096)
  | .readInstance m fid => metaOk m && decide (fid < 4096)
  | .declareConfinement m v => metaOk m && fits v
  | .createTransmitRing m fid window base sizeLog2 cq pipeline program weight burst =>
    metaOk m && decide (fid < 4096) && fits window && fits base && fits sizeLog2 && fits cq && fits pipeline &&
      fits program && fits weight && fits burst
  | .createReceiveRing m fid window base sizeLog2 cq _ =>
    metaOk m && decide (fid < 4096) && fits window && fits base && fits sizeLog2 && fits cq
  | .createCompletionRing m fid window base sizeLog2 ctrAddr msix =>
    metaOk m && decide (fid < 4096) && fits window && fits base && fits sizeLog2 && fits ctrAddr && fits msix
  | .destroyRing m type ring => metaOk m && fits type && fits ring
  | .startRing m type ring => metaOk m && fits type && fits ring
  | .stopRing m type ring => metaOk m && fits type && fits ring
  | .resumeRings m fid => metaOk m && decide (fid < 4096)
  | .setWeightAndBurst m ring weight burst => metaOk m && fits ring && fits weight && fits burst
  | .readRing m type ring => metaOk m && fits type && fits ring
  | .registerPool m pool set kind sizeLog2 count base spaceFid =>
    metaOk m && fits pool && fits set && fits kind && fits sizeLog2 && fits count && fits base &&
      decide (spaceFid < 4096)
  | .unregisterPool m pool => metaOk m && fits pool
  | .setShare m pool fid mn mx weight =>
    metaOk m && fits pool && decide (fid < 4096) && fits mn && fits mx && fits weight
  | .sizeOnchipPools m c0 c1 c3 => metaOk m && fits c0 && fits c1 && fits c3
  | .setPressure m pool eighths => metaOk m && fits pool && fits eighths
  | .queryHandle m handle => metaOk m && fits handle
  | .createTable m table location kind bucketsLog2 keyLen ageLimit seed =>
    metaOk m && fits table && fits location && fits kind && fits bucketsLog2 && fits keyLen && fits ageLimit &&
      fits seed
  | .destroyTable m table => metaOk m && fits table
  | .insertOrReplaceEntry m table owner key result _ =>
    metaOk m && fits table && decide (owner < 4096) && bytesOk key && bytesOk result
  | .deleteEntry m table owner key => metaOk m && fits table && decide (owner < 4096) && bytesOk key
  | .readEntry m table owner key pmask => metaOk m && fits table && decide (owner < 4096) && bytesOk key && fits pmask
  | .setAgeLimit m table ageLimit => metaOk m && fits table && fits ageLimit
  | .setTableGrant m fid table pmask maxEntries ovfReserve =>
    metaOk m && decide (fid < 4096) && fits table && fits pmask && fits maxEntries && fits ovfReserve
  | .flush m table owner pmask => metaOk m && fits table && decide (owner < 4096) && fits pmask
  | .createOrReplacePolicer m policer fid rate ilog burst =>
    metaOk m && fits policer && decide (fid < 4096) && fits rate && fits ilog && fits burst
  | .destroyPolicer m policer => metaOk m && fits policer
  | .readPolicer m policer => metaOk m && fits policer
  | .setLoopShare m cells => metaOk m && fits cells
  | .installSa m sa prm => metaOk m && fits sa && decide (prm.owner < 4096) && bytesOk prm.key
  | .removeSa m sa => metaOk m && fits sa
  | .activateSa m sa => metaOk m && fits sa
  | .deactivateSa m sa => metaOk m && fits sa
  | .rekeySa m sa key _ => metaOk m && fits sa && bytesOk key
  | .readSa m sa => metaOk m && fits sa
  | .setCipherGrant m fid lanes saMax activeMax =>
    metaOk m && decide (fid < 4096) && fits lanes && fits saMax && fits activeMax
  | .eraseVault m => metaOk m
  | .createConnection m prm =>
    metaOk m &&
      decide (prm.owner < 4096) && bytesOk prm.steer && bytesOk prm.frameFields && bytesOk prm.transportState
  | .closeConnection m conn drainMs _ => metaOk m && fits conn && fits drainMs
  | .closeDrainEnd conn => fits conn
  | .readConnection m conn => metaOk m && fits conn
  | .configureStorage m channels tcpTable roceTable => metaOk m && bytesOk channels && fits tcpTable && fits roceTable
  | .setStorageGrant m fid connMax => metaOk m && decide (fid < 4096) && fits connMax
  | .pinPeer m unit => metaOk m && fits unit
  | .setLink m enable policy => metaOk m && fits enable && fits policy
  | .setRole m role epoch => metaOk m && fits role && fits epoch
  | .pair m => metaOk m
  | .armTakeover m epoch deadline _ => metaOk m && fits epoch && fits deadline
  | .disarm m => metaOk m
  | .unpair m => metaOk m
  | .readTwin m => metaOk m
  | .stageComponentImage m comp source addr len img _ =>
    metaOk m && fits comp && fits source && fits addr && fits len && bytesOk img
  | .stageManifest m addr len man _ => metaOk m && fits addr && fits len && bytesOk man
  | .activate m => metaOk m
  | .activationStewardReady _ => true
  | .readVersions m => metaOk m
  | .rewrapToUnit m comp => metaOk m && fits comp
  | .readChainStatus m => metaOk m
  | .compatibilityUpdate m comp source addr len img _ =>
    metaOk m && fits comp && fits source && fits addr && fits len && bytesOk img
  | .readAlmanac m => metaOk m
  | .setCalendar m sec ns => metaOk m && fits sec && fits ns
  | .setWakeTimer m instant => metaOk m && fits instant
  | .readLifetimeCounters m => metaOk m
  | .changeLifeCycleState m target sig => metaOk m && fits target && bytesOk sig
  | .setIdleLimit m domain limitUs => metaOk m && fits domain && fits limitUs
  | .wake m => metaOk m
  | .powerDown m domain option limitMs => metaOk m && fits domain && fits option && fits limitMs
  | .powerDownDrainEnd domain => fits domain
  | .powerUp m domain => metaOk m && fits domain
  | .snapshotCounters m fid => metaOk m && decide (fid < 4096)
  | .setTraceSampling m n mask => metaOk m && fits n && fits mask
  | .configureCrier m interval dest addr port channel templates =>
    metaOk m && fits interval && fits dest && fits addr && decide (port < 16) && fits channel && fits templates
  | .startOrStopExport m start => metaOk m && fits start
  | .createOrReplaceMirrorSession m session fid window snapLen sampleN _ =>
    metaOk m && fits session && decide (fid < 4096) && fits window && fits snapLen && fits sampleN
  | .destroyMirrorSession m session => metaOk m && fits session
  | .setPortMirror m port rx tx => metaOk m && decide (port < 16) && fits rx && fits tx
  | .grantChannel m ch owner prio descLimit =>
    metaOk m && decide (ch < 16) && decide (owner < 4096) && fits prio && fits descLimit
  | .configureChannel m ch _ => metaOk m && decide (ch < 16)
  | .stopChannel m ch => metaOk m && decide (ch < 16)
  | .resetChannel m ch => metaOk m && decide (ch < 16)
  | .compatibilityPacket _ fid bytes => decide (fid < 4096) && bytesOk bytes
  | .adminDoorbell v => fits v
  | .adminReplyConsumerWrite v => fits v
  | .mailboxDoorbell fid go => decide (fid < 4096) && fits go
  | .securedPacketReceived _ _ bytes => bytesOk bytes
  | .acceptPacket _ fid bytes _ => decide (fid < 4096) && bytesOk bytes
  | .backgroundCommandEnd slot => fits slot
  | .devLogConsWrite v => fits v
  | .intaUpdate => true
  | .registerWrite fid off size v => decide (fid < 4096) && fits off && fits size && fits v
  | .seqFlipGo v => fits v
  | .sealRequest bank => fits bank
  | .sealComplete bank => fits bank
  | .discardRequest bank => fits bank
  | .stepLoWrite idx v => fits idx && fits v
  | .stepHiWrite idx v => fits idx && fits v
  | .residencyPeakRead p off size => decide (p < 4) && fits off && fits size
  | .stepScrub => true
  | .dispatch p => decide (p < 4)
  | .parkedResume p ord => decide (p < 4) && fits ord
  | .ctlJump p c => decide (p < 4) && decide (c < 256)
  | .ctlEnd p c => decide (p < 4) && decide (c < 256)
  | .ctlDrop p c => decide (p < 4) && decide (c < 256)
  | .ctlHook p c => decide (p < 4) && decide (c < 256)
  | .ctlReturn p c => decide (p < 4) && decide (c < 256)
  | .ctlMark p c => decide (p < 4) && decide (c < 256)
  | .aluMove p c => decide (p < 4) && decide (c < 256)
  | .aluAdd p c => decide (p < 4) && decide (c < 256)
  | .aluSub p c => decide (p < 4) && decide (c < 256)
  | .aluAnd p c => decide (p < 4) && decide (c < 256)
  | .aluOr p c => decide (p < 4) && decide (c < 256)
  | .aluXor p c => decide (p < 4) && decide (c < 256)
  | .aluShift p c => decide (p < 4) && decide (c < 256)
  | .aluCmpEq p c => decide (p < 4) && decide (c < 256)
  | .aluCmpLt p c => decide (p < 4) && decide (c < 256)
  | .loadHdr p c => decide (p < 4) && decide (c < 256)
  | .storeHdr p c => decide (p < 4) && decide (c < 256)
  | .strip p c => decide (p < 4) && decide (c < 256)
  | .prepend p c => decide (p < 4) && decide (c < 256)
  | .readTime p c => decide (p < 4) && decide (c < 256)
  | .parseL2 p c => decide (p < 4) && decide (c < 256)
  | .parseL3 p c => decide (p < 4) && decide (c < 256)
  | .parseL4 p c => decide (p < 4) && decide (c < 256)
  | .parseTunnel p c => decide (p < 4) && decide (c < 256)
  | .parseStoragePdu p c => decide (p < 4) && decide (c < 256)
  | .hashCrc32c p c => decide (p < 4) && decide (c < 256)
  | .hashCrc32 p c => decide (p < 4) && decide (c < 256)
  | .hashToeplitz p c => decide (p < 4) && decide (c < 256)
  | .lkpHotLookup p c => decide (p < 4) && decide (c < 256)
  | .lkpRldLookup p c => decide (p < 4) && decide (c < 256)
  | .fwtLearn p c => decide (p < 4) && decide (c < 256)
  | .fwtRefresh p c => decide (p < 4) && decide (c < 256)
  | .fwtWriteFlow p c => decide (p < 4) && decide (c < 256)
  | .policeMeter p c => decide (p < 4) && decide (c < 256)
  | .grnAlloc p c => decide (p < 4) && decide (c < 256)
  | .grnFree p c => decide (p < 4) && decide (c < 256)
  | .grnWaitRetry id => fits id
  | .grnWaitExpiry id => fits id
  | .inlineScrubComplete id => fits id
  | .backgroundScrub => true
  | .grnQueryWrite v => fits v
  | .grnQueryComplete => true
  | .cipRecord p c => decide (p < 4) && decide (c < 256)
  | .recordFinish id => fits id
  | .claimExpiry lane => fits lane
  | .dmawDeliver p c => decide (p < 4) && decide (c < 256)
  | .dmarRead p c => decide (p < 4) && decide (c < 256)
  | .xmitClass p c => decide (p < 4) && decide (c < 256)
  | .xmitLoop p c => decide (p < 4) && decide (c < 256)
  | .xmitMirror p c => decide (p < 4) && decide (c < 256)
  | .haulStart p c => decide (p < 4) && decide (c < 256)
  | .cntInc p c => decide (p < 4) && decide (c < 256)
  | .cntAdd p c => decide (p < 4) && decide (c < 256)
  | .connGet p c => decide (p < 4) && decide (c < 256)
  | .connPutWrite p c => decide (p < 4) && decide (c < 256)
  | .handoffSubmission p c => decide (p < 4) && decide (c < 256)
  | .handoffInbound p c => decide (p < 4) && decide (c < 256)
  | .connPutComplete p c => decide (p < 4) && decide (c < 256)
  | .connPutRelease p c => decide (p < 4) && decide (c < 256)
  | .connPutFail p c => decide (p < 4) && decide (c < 256)
  | .turnDispatch conn => fits conn
  | .slotExpiry conn slot => fits conn && fits slot
  | .connectionTimerExpiry conn => fits conn
  | .timerCellRetry conn => fits conn
  | .doorbell fid window off size v => decide (fid < 4096) && fits window && fits off && fits size && fits v
  | .inlinePush fid window bytes => decide (fid < 4096) && fits window && bytesOk bytes
  | .completionConsumerWrite fid window v => decide (fid < 4096) && fits window && fits v
  | .completionArm fid window v => decide (fid < 4096) && fits window && fits v
  | .queueFetch _ n => fits n
  | .entryFetchComplete _ q => fits q
  | .frameReceived port bytes _ _ => decide (port < 16) && bytesOk bytes
  | .pfcPauseEnd port prio => decide (port < 16) && fits prio
  | .pfcSend port prio => decide (port < 16) && fits prio
  | .pfcResend port prio => decide (port < 16) && fits prio
  | .transmitFrameStart port => decide (port < 16)
  | .txtsTagRead port off size => decide (port < 16) && fits off && fits size
  | .macTimeStepWrite v => fits v
  | .macTimeNsRead => true
  | .ppsInputEdge => true
  | .ppsOutput => true
  | .linkDown port => decide (port < 16)
  | .laneFault lane code => fits lane && fits code
  | .cageFault cage kind => fits cage && fits kind
  | .agerVisit p => decide (p < 4)
  | .homingMove p t b => decide (p < 4) && fits t && fits b
  | .homingOverflowRemove p t b => decide (p < 4) && fits t && fits b
  | .lockExpiry p t b => decide (p < 4) && fits t && fits b
  | .haulStartWrite fid j head => decide (fid < 4096) && fits j && fits head
  | .haulAckWrite fid j half full => decide (fid < 4096) && fits j && fits half && fits full
  | .haulStopWrite fid j => decide (fid < 4096) && fits j
  | .watermarkHigh ch => decide (ch < 16)
  | .runStart unit => fits unit
  | .haulNop ch inp => decide (ch < 16) && bytesOk inp.desc && bytesOk inp.data
  | .haulCopy ch inp => decide (ch < 16) && bytesOk inp.desc && bytesOk inp.data
  | .haulZero ch inp => decide (ch < 16) && bytesOk inp.desc && bytesOk inp.data
  | .tblRead ch inp => decide (ch < 16) && bytesOk inp.desc && bytesOk inp.data
  | .tblLockRead ch inp => decide (ch < 16) && bytesOk inp.desc && bytesOk inp.data
  | .tblWriteUnlock ch inp => decide (ch < 16) && bytesOk inp.desc && bytesOk inp.data
  | .tblUnlock ch inp => decide (ch < 16) && bytesOk inp.desc && bytesOk inp.data
  | .readCompletion link tag _ _ data => fits link && fits tag && bytesOk data
  | .completionTimeout link tag => fits link && fits tag
  | .tagQuarantineEnd link tag => fits link && fits tag
  | .busMasterEnableClear fid => decide (fid < 4096)
  | .interruptDisableWrite _ => true
  | .msixUnmask fid vec => decide (fid < 4096) && fits vec
  | .functionLevelReset fid => decide (fid < 4096)
  | .flrComplete fid => decide (fid < 4096)
  | .sriovVfEnableSet numVfs => fits numVfs
  | .sriovVfDisable _ numVfs => fits numVfs
  | .powerStateWrite fid dstate => decide (fid < 4096) && fits dstate
  | .pmeTurnOff => true
  | .wakeEvent row => fits row
  | .dlUp link rate _ widthLog2 => fits link && fits rate && fits widthLog2
  | .hotReset => true
  | .perstAssert => true
  | .perstRelease _ _ lib => setOk lib
  | .coldReset _ _ lib => setOk lib
  | .sramWipeEnd => true
  | .rldramWipeEnd => true
  | .mainSupplyLoss => true
  | .auxPowerUp => true
  | .domainStart dom => fits dom
  | .domainReady dom => fits dom
  | .domainIdleStop dom => fits dom
  | .stewardRestart => true
  | .almanacRestart => true
  | .alarm cause value => fits cause && fits value
  | .alarmClear cause => fits cause
  | .thermalWarning tj => fits tj
  | .thermtrip tj => fits tj
  | .crystalFault => true
  | .crystalRecovery => true
  | .referenceClockFault which => fits which
  | .thermalDiodeFault kind => fits kind
  | .wakeTimerFire => true
  | .lifetimeSample smp => decide (smp.tj < 65536)
  | .storeCommit => true
  | .cntSnapWrite v => fits v
  | .snapshotCopyComplete => true
  | .crierExport => true
  | .fnSelWrite v => fits v
  | .fwtGrantSelWrite v => fits v
  | .fwtOvfSelWrite v => fits v
  | .cipSaSelWrite v => fits v
  | .cipGrantSelWrite v => fits v
  | .stgConnSelWrite v => fits v
  | .stgGrantSelWrite v => fits v
  | .twinLinkAuthenticated unit _ => fits unit
  | .heartbeatSend => true
  | .heartbeatReceived hdr => fits hdr.epoch && fits hdr.seq
  | .heartbeatWindowEnd => true
  | .armDeadline => true
  | .mirroredCommand hdr bytes => fits hdr.epoch && fits hdr.seq && bytesOk bytes
  | .leaseRecord hdr sa k => fits hdr.epoch && fits hdr.seq && fits sa && fits k
  | .replaySnapshot hdr sa top => fits hdr.epoch && fits hdr.seq && fits sa && fits top
  | .storageRecord hdr conn _ => fits hdr.epoch && fits hdr.seq && fits conn
  | .bankImagePart hdr _ _ => fits hdr.epoch && fits hdr.seq
  | .twinAcknowledgement hdr acked result =>
    fits hdr.epoch && fits hdr.seq && fits acked && fits (result.getD (0, 0)).1 && fits (result.getD (0, 0)).2
  | .twinResend seq => fits seq
  | .mirrorReplyTimeout => true
  | .chainOfferSend => true
  | .chainOfferReceived frm => frameOk frm
  | .chainRequestReceived frm => frameOk frm
  | .chainDataReceived frm => frameOk frm
  | .chainConfirmReceived frm => frameOk frm
  | .chainRefuseReceived frm => frameOk frm
  | .chainFault pair code => fits pair && fits code
  | .spdmGetCertificate _ off len => fits off && fits len
  | .spdmChallenge _ nonce => fits nonce
  | .getMeasurements _ index nonce => fits index && fits nonce
  | .keyExchange _ leafHash _ => bytesOk leafHash
  | .putImage _ comp off bytes => fits comp && fits off && bytesOk bytes
  | .linkUp port _ => decide (port < 16)
  | .laneFaultClear lane code => fits lane && fits code
  | .cageFaultClear cage kind => fits cage && fits kind
  | .cageInterrupt cage => fits cage
  | .twinLinkDown => true
  | .takeoverComplete => true
  | .referenceClockRecovery which => fits which
  | .thermalWarningClear tj => fits tj
  | .thermtripRelease => true
  | .thermalDiodeFaultClear => true
  | .chainFaultClear pair code => fits pair && fits code
  | .auxPowerLoss => true
  | .busMasterEnableSet fid => decide (fid < 4096)
  | .smbusClockLowTimeout => true
  | .stewardRestartComplete => true
  | .almanacRestartComplete => true
  | .almCalSecRead => true

end Sys2Proof
end

