-- ==== Sys2Proof/Safety.lean ====
section
/-! DEFINITION. The words the statements use: what a safe run is, when a Steward command is accepted and what its end
leaves, and which blocks of the state a command leaves alone. -/

namespace Sys2Proof

open Sys2Proof.Machine

/-- A step that goes on. -/
def goesOn (s : State) : Prop := ∃ t : State, Sys2Proof.Machine.step s = .next t

/-- Every command waiting is well formed. -/
def queueWf (s : State) : Bool := s.pending.all wellFormed

end Sys2Proof

namespace Sys2Proof.Machine

/-! ## Steward commands -/

/-- The state as a command finds it: its packet is no longer among those the Steward has accepted (R405). -/
def began (s : State) (m : Meta) (op : Nat) : State := (takeAccepted s m op).2

/-- What a command knows of its packet. -/
def packetOf (s : State) (m : Meta) (op : Nat) : PktInfo := (takeAccepted s m op).1

/-- A command passes what stands before its own rules: the Steward has accepted its packet, or is ready, has no command in the
foreground and does not mirror the command (R384, R405, R450), no life-cycle change is under way (R457), the issuer and the path
may send it (R403, R404, R408), the background has room (R407), the state of the part admits it (R382, R453, R454), and no
command in the background holds an object of it (R407). -/
def accepts (s : State) (m : Meta) (op : Nat) (objs : List Obj) (rld : Bool) : Bool :=
  !cmdWaits s m op && !s.stw.lcChange && issuerOk m && opcodeOpen s m op &&
    (!backgroundOpcodes.contains op || decide (s.stw.bg.length < 16)) && !commonRefusal s m op rld && !heldObj s objs

/-- A command is accepted in a state `s` and finds the state `b`. -/
abbrev Starts (s b : State) (m : Meta) (op : Nat) (objs : List Obj) (rld : Bool) : Prop :=
  accepts s m op objs rld = true ∧ b = began s m op

/-- A command ends in a state `t` with an end `e`: its reply is written on its path, or waits for the standby (R385,
R398, R405). -/
def endsIn (s : State) (m : Meta) (op : Nat) (t : State) (e : CmdEnd) : Res :=
  .next (endCommand t m op (packetOf s m op) e false)

/-- A command is DONE in a state `t` with results `r`. -/
def doneIn (s : State) (m : Meta) (op : Nat) (t : State) (r : List Fld) : Res :=
  endsIn s m op t { status := .done, results := r }

/-- A command has acted and stays in the foreground until what it waits for has ended (R405). -/
def foreIn (s : State) (m : Meta) (op : Nat) (objs : List Obj) (t : State) : Res :=
  .next { t with stw := { t.stw with fore := t.stw.fore ++ [{
    opcode := op, m := m, ns := (packetOf s m op).ns, params := (packetOf s m op).params
    compat := (packetOf s m op).compat, objs := objs, fin := none }] } }

/-- A command goes on in the background from a state `t` (R407): it holds its objects, its end is `e` where that is known
already, and a wait in it ends at `d`. -/
def bgIn (s : State) (m : Meta) (op : Nat) (objs : List Obj) (t : State) (e : Option CmdEnd) (d : Nat) : Res :=
  .next { t with stw := { t.stw with bg := t.stw.bg ++ [{
    opcode := op, m := m, ns := (packetOf s m op).ns, params := (packetOf s m op).params
    compat := (packetOf s m op).compat, objs := objs, fin := e, deadline := d }] } }

/-- The opcode of a Steward command, and where its packet came from; none for a row that is no Steward command. -/
def stewardOf (i : Instr) : Option (Meta × Nat) :=
  match i with
  | .readIdentity m => some (m, 0x0101)
  | .loadTableSet m .. => some (m, 0x0110)
  | .flip m => some (m, 0x0111)
  | .discardBank m .. => some (m, 0x0112)
  | .loadHook m .. => some (m, 0x0113)
  | .setPortLayout m .. => some (m, 0x0120)
  | .setPortParameters m .. => some (m, 0x0121)
  | .withdrawStagedConfiguration m => some (m, 0x0122)
  | .enablePort m .. => some (m, 0x0123)
  | .disablePort m .. => some (m, 0x0124)
  | .writeGroupFilter m .. => some (m, 0x0125)
  | .writeSelectTable m .. => some (m, 0x0126)
  | .moduleTransfer m .. => some (m, 0x0127)
  | .createInstance m .. => some (m, 0x0201)
  | .quiesce m .. => some (m, 0x0202)
  | .resume m .. => some (m, 0x0203)
  | .resetInstance m .. => some (m, 0x0204)
  | .removeInstance m .. => some (m, 0x0205)
  | .release m .. => some (m, 0x0206)
  | .setDmaWindow m .. => some (m, 0x0207)
  | .setExpertGrant m .. => some (m, 0x0208)
  | .setInstanceGrant m .. => some (m, 0x0209)
  | .readInstance m .. => some (m, 0x020A)
  | .declareConfinement m .. => some (m, 0x020B)
  | .createTransmitRing m .. => some (m, 0x0301)
  | .createReceiveRing m .. => some (m, 0x0302)
  | .createCompletionRing m .. => some (m, 0x0303)
  | .destroyRing m .. => some (m, 0x0304)
  | .startRing m .. => some (m, 0x0305)
  | .stopRing m .. => some (m, 0x0306)
  | .resumeRings m .. => some (m, 0x0307)
  | .setWeightAndBurst m .. => some (m, 0x0308)
  | .readRing m .. => some (m, 0x0309)
  | .registerPool m .. => some (m, 0x0401)
  | .unregisterPool m .. => some (m, 0x0402)
  | .setShare m .. => some (m, 0x0403)
  | .sizeOnchipPools m .. => some (m, 0x0404)
  | .setPressure m .. => some (m, 0x0405)
  | .queryHandle m .. => some (m, 0x0406)
  | .createTable m .. => some (m, 0x0501)
  | .destroyTable m .. => some (m, 0x0502)
  | .insertOrReplaceEntry m .. => some (m, 0x0503)
  | .deleteEntry m .. => some (m, 0x0504)
  | .readEntry m .. => some (m, 0x0505)
  | .setAgeLimit m .. => some (m, 0x0506)
  | .setTableGrant m .. => some (m, 0x0507)
  | .flush m .. => some (m, 0x0508)
  | .createOrReplacePolicer m .. => some (m, 0x0510)
  | .destroyPolicer m .. => some (m, 0x0511)
  | .readPolicer m .. => some (m, 0x0512)
  | .setLoopShare m .. => some (m, 0x0513)
  | .installSa m .. => some (m, 0x0601)
  | .removeSa m .. => some (m, 0x0602)
  | .activateSa m .. => some (m, 0x0603)
  | .deactivateSa m .. => some (m, 0x0604)
  | .rekeySa m .. => some (m, 0x0605)
  | .readSa m .. => some (m, 0x0606)
  | .setCipherGrant m .. => some (m, 0x0607)
  | .eraseVault m => some (m, 0x0608)
  | .createConnection m .. => some (m, 0x0701)
  | .closeConnection m .. => some (m, 0x0702)
  | .readConnection m .. => some (m, 0x0703)
  | .configureStorage m .. => some (m, 0x0704)
  | .setStorageGrant m .. => some (m, 0x0705)
  | .pinPeer m .. => some (m, 0x0801)
  | .setLink m .. => some (m, 0x0802)
  | .setRole m .. => some (m, 0x0803)
  | .pair m => some (m, 0x0804)
  | .armTakeover m .. => some (m, 0x0805)
  | .disarm m => some (m, 0x0806)
  | .unpair m => some (m, 0x0807)
  | .readTwin m => some (m, 0x0808)
  | .stageComponentImage m .. => some (m, 0x0901)
  | .stageManifest m .. => some (m, 0x0902)
  | .activate m => some (m, 0x0903)
  | .readVersions m => some (m, 0x0904)
  | .rewrapToUnit m .. => some (m, 0x0905)
  | .readChainStatus m => some (m, 0x0906)
  | .compatibilityUpdate m .. => some (m, 0x0910)
  | .readAlmanac m => some (m, 0x0A01)
  | .setCalendar m .. => some (m, 0x0A02)
  | .setWakeTimer m .. => some (m, 0x0A03)
  | .readLifetimeCounters m => some (m, 0x0A04)
  | .changeLifeCycleState m .. => some (m, 0x0A05)
  | .setIdleLimit m .. => some (m, 0x0A06)
  | .wake m => some (m, 0x0A07)
  | .powerDown m .. => some (m, 0x0A10)
  | .powerUp m .. => some (m, 0x0A11)
  | .snapshotCounters m .. => some (m, 0x0B01)
  | .setTraceSampling m .. => some (m, 0x0B02)
  | .configureCrier m .. => some (m, 0x0B03)
  | .startOrStopExport m .. => some (m, 0x0B04)
  | .createOrReplaceMirrorSession m .. => some (m, 0x0B20)
  | .destroyMirrorSession m .. => some (m, 0x0B21)
  | .setPortMirror m .. => some (m, 0x0B22)
  | .grantChannel m .. => some (m, 0x0C01)
  | .configureChannel m .. => some (m, 0x0C02)
  | .stopChannel m .. => some (m, 0x0C03)
  | .resetChannel m .. => some (m, 0x0C04)
  | _ => none

/-! ## Steps of a pipeline -/

/-- A pipeline issues a step of a unit and operation in a context, and `x` is what the step is given: the context holds a
READY packet whose turn it is (R50), the step's word can be read (R70), and the unit has its clock (R35). -/
def Issues (s : State) (p c unit op : Nat) (x : StepIn) : Prop :=
  ∃ k, readyCtx s p c = some k ∧ (k.st = .ready → k.lib = none → stepCorrupt s p k k.pc = false) ∧ x = stepIn s p c k ∧
    x.w.unit = unit ∧ x.w.op = op ∧ unitRuns s x = true

/-- No operand carries the poison mark, or the step allows it (R67). -/
abbrev Clean (x : StepIn) (mark : Bool) : Prop := mark = false ∨ x.w.poisonOk = true

/-! ## Descriptors of a run -/

/-- A channel has reached a descriptor that passes rows 3 to 7 of Table 9.4 and waits for no event (R283). -/
def descFit (s : State) (n fid : Nat) (d : HDesc) : Bool :=
  let c := chanOf s n
  d.wellFormed && (rangeViol s fid d).isNone && placeOk s n fid d.src && placeOk s n fid d.dst &&
    (!isTblOp d.op || fid = 0xFFF || (fnOf s fid).rawTable) && rangeOk s d.src d.len && rangeOk s d.dst d.len &&
    decide (c.done < c.descLimit) && (!d.half || c.halfPosted = c.halfAcked) && (!d.full || c.fullPosted = c.fullAcked) &&
    ((d.src.1 ≠ 1 && d.dst.1 ≠ 1) || mayIssue s fid)

/-- A running channel executes a descriptor of an operation for a FID: its unit holds it, no stop is asked for, its bytes
have been read, which leaves the state `b`, and it passes its checks there. -/
def Hauls (s b : State) (n op : Nat) (inp : HaulIn) (fid : Nat) (d : HDesc) : Prop :=
  (chanOf s n).st = .running ∧ (chanOf s n).unit.isSome = true ∧ (chanOf s n).stopReq = false ∧ fid = runFid (chanOf s n) ∧
    (∃ bs, fetchDesc s n fid inp = .ok (bs, b) ∧ d = HDesc.ofBytes bs (decide ((chanOf s n).mode = 2))
      (((chanOf s n).lists.head?.map (fun l => decide (l.count ≤ (chanOf s n).index + 1))).getD false)) ∧
    d.op = op ∧ descFit b n fid d = true

/-- A bucket's table operation acts from this state: in a hot table at once; in an RLDRAM table on an access of its pipeline's
running domain (R33, R35). -/
def Reaches (s c : State) (p t : Nat) : Prop :=
  ∃ x, tableOf s t = some x ∧
    ((x.hot = true ∧ c = s) ∨ (x.hot = false ∧ domainRuns s (19 + p / 2) = true ∧ c = touchRld s p))

/-! ## What a command leaves alone -/

/-- The parts of the state that a frame names: the blocks, the commands waiting, and three groups of fields that rules of their
own protect. -/
inductive Blk where
  | dev | stw | fns | fmg | cnt | seq | qm | grn | fwt | mac | sw | cip | haul | stg | pci | twn | alm | store | fw | out
  | now | draws | pending | fuses | life | limits
  deriving DecidableEq, Repr

/-- What is burned into the fuses: revoked key slots, the owner key and the security floors (R476, R492). -/
structure Fuses where
  revoked : Nat
  ownerKey : List Nat
  floors : Tbl Nat
  deriving DecidableEq, Repr

/-- The fuses of a state. -/
def State.fuses (s : State) : Fuses := ⟨s.fw.revoked, s.fw.ownerKey, s.fw.floors⟩

/-- The life-cycle state, and a change of it that is under way (R455 to R458). -/
structure Life where
  change : Bool
  state : Nat
  target : Nat
  wiping : Bool
  deriving DecidableEq, Repr

/-- The life cycle of a state. -/
def State.life (s : State) : Life := ⟨s.stw.lcChange, s.alm.lcState, s.alm.lcTarget, s.alm.wipePending⟩

/-- The configured limits whose writes are checked for their range. -/
structure Limits where
  trim : Nat
  loopMax : Nat
  scrubRate : Nat
  agerRate : Nat
  lockLimitUs : Nat
  claimLimitUs : Nat
  deriving DecidableEq, Repr

/-- The target of a life-cycle change that is under way, or that the record names, is one that Table 16.7 allows from the state
of the part, or that state itself (R455, R458). -/
def lifeSound (s : State) : Bool :=
  !(s.stw.lcChange || s.alm.wipePending) || s.alm.lcTarget = s.alm.lcState ||
    (lcAuthority s.alm.lcState s.alm.lcTarget).isSome

/-- The limits of a state. -/
def State.limits (s : State) : Limits :=
  ⟨s.alm.trim, s.sw.loopMax, s.grn.scrubRate, s.fwt.agerRate, s.fwt.lockLimitUs, s.cip.claimLimitUs⟩

/-- Every limit is in its range: the calendar's trim (R472), the looped frames' share of the admission cells
(R223), the scrub rate (R152), the ager rate and the lock limit (R183), and the claim limit (R267). -/
def limitsSound (s : State) : Bool :=
  trimOk s.alm.trim && decide (s.sw.loopMax ≤ 4096) && decide (s.grn.scrubRate ≤ 400) && decide (1 ≤ s.fwt.agerRate) &&
    decide (s.fwt.agerRate ≤ 64) && decide (10 ≤ s.fwt.lockLimitUs) && decide (s.fwt.lockLimitUs ≤ 1000) &&
    decide (10 ≤ s.cip.claimLimitUs) && decide (s.cip.claimLimitUs ≤ 1000)

/-- A part is the same in two states. -/
def Blk.same (b : Blk) (s t : State) : Prop :=
  match b with
  | .dev => t.dev = s.dev | .stw => t.stw = s.stw | .fns => t.fns = s.fns | .fmg => t.fmg = s.fmg
  | .cnt => t.cnt = s.cnt | .seq => t.seq = s.seq | .qm => t.qm = s.qm | .grn => t.grn = s.grn
  | .fwt => t.fwt = s.fwt | .mac => t.mac = s.mac | .sw => t.sw = s.sw | .cip => t.cip = s.cip
  | .haul => t.haul = s.haul | .stg => t.stg = s.stg | .pci => t.pci = s.pci | .twn => t.twn = s.twn
  | .alm => t.alm = s.alm | .store => t.store = s.store | .fw => t.fw = s.fw | .out => t.out = s.out
  | .now => t.now = s.now | .draws => t.draws = s.draws | .pending => t.pending = s.pending
  | .fuses => t.fuses = s.fuses | .life => t.life = s.life | .limits => t.limits = s.limits

/-- Nothing but the listed parts changed. -/
def ChangesOnly (l : List Blk) (s t : State) : Prop := ∀ b : Blk, b ∉ l → b.same s t

/-- What a violation and the stocks may touch (R335, R337). -/
def stocksParts : List Blk := [.dev, .fns, .fmg, .cnt, .seq, .qm, .grn, .fwt, .mac, .cip, .haul]

/-- What a step may touch: a corrupt step word ends its packet, which frees, completes and mirrors (R70). -/
def stepParts : List Blk := stocksParts ++ [.stg, .pci, .twn, .out]

/-- What a Steward command may touch that is answered on its path (R398 to R405). -/
def replyParts : List Blk := stocksParts ++ [.stw, .pci, .twn, .out]

/-- The parts that a command may touch. -/
def touches (i : Instr) : List Blk :=
  match i with
  | .readIdentity .. | .flip .. | .discardBank .. | .setPortLayout .. | .setPortParameters ..
  | .withdrawStagedConfiguration .. | .enablePort .. | .disablePort .. | .portDrainEnd ..
  | .writeGroupFilter .. | .writeSelectTable .. | .moduleTransfer .. | .quiesce .. | .quiesceEnd ..
  | .resume .. | .release .. | .setDmaWindow .. | .setExpertGrant .. | .setInstanceGrant ..
  | .readInstance .. | .declareConfinement .. | .destroyRing .. | .startRing .. | .stopRing ..
  | .resumeRings .. | .setWeightAndBurst .. | .readRing .. | .registerPool .. | .unregisterPool ..
  | .setShare .. | .sizeOnchipPools .. | .setPressure .. | .queryHandle .. | .createTable ..
  | .destroyTable .. | .insertOrReplaceEntry .. | .deleteEntry .. | .readEntry .. | .setAgeLimit ..
  | .setTableGrant .. | .flush .. | .readPolicer .. | .removeSa .. | .deactivateSa .. | .readSa ..
  | .setCipherGrant .. | .readConnection .. | .pinPeer .. | .setLink .. | .setRole .. | .pair ..
  | .armTakeover .. | .disarm .. | .unpair .. | .readTwin .. | .readVersions .. | .readChainStatus ..
  | .readAlmanac .. | .readLifetimeCounters .. | .wake .. | .snapshotCounters .. | .setTraceSampling ..
  | .configureCrier .. | .startOrStopExport .. | .setPortMirror .. | .grantChannel .. | .configureChannel ..
  | .stopChannel .. | .resetChannel .. | .backgroundCommandEnd .. | .sealComplete ..
  | .twinAcknowledgement .. | .mirrorReplyTimeout => replyParts
  | .loadTableSet .. | .loadHook .. | .createTransmitRing .. | .createReceiveRing ..
  | .createCompletionRing .. | .installSa .. | .activateSa .. | .rekeySa .. => replyParts ++ [.draws]
  | .createInstance .. | .resetInstance .. | .removeInstance .. | .createConnection .. | .closeConnection ..
  | .closeDrainEnd .. | .configureStorage .. | .setStorageGrant .. | .sriovVfEnableSet ..
  | .sriovVfDisable .. => replyParts ++ [.stg]
  | .resetComplete .. => replyParts ++ [.sw, .stg]
  | .createOrReplacePolicer .. | .destroyPolicer .. | .createOrReplaceMirrorSession ..
  | .destroyMirrorSession .. => replyParts ++ [.sw]
  | .setLoopShare .. => replyParts ++ [.sw, .limits]
  | .eraseVault .. => replyParts ++ [.store]
  | .stageComponentImage .. | .compatibilityUpdate .. => replyParts ++ [.store, .fw, .draws]
  | .stageManifest .. => replyParts ++ [.fw, .draws]
  | .activate .. | .rewrapToUnit .. => replyParts ++ [.fw]
  | .activationStewardReady .. => replyParts ++ [.stg, .alm, .store, .fw, .draws, .fuses]
  | .setCalendar .. | .setWakeTimer .. | .setIdleLimit .. | .powerDownDrainEnd .. => replyParts ++ [.alm]
  | .changeLifeCycleState .. => replyParts ++ [.stg, .alm, .store, .fw, .draws, .life]
  | .powerDown .. => replyParts ++ [.stg, .alm]
  | .powerUp .. | .domainReady .. => replyParts ++ [.alm, .store]
  | .compatibilityPacket .. | .acceptPacket .. | .heartbeatWindowEnd | .mirroredCommand .. =>
    replyParts ++ [.sw, .stg, .store, .draws, .limits]
  | .adminDoorbell .. | .adminReplyConsumerWrite .. => stocksParts ++ [.stw]
  | .mailboxDoorbell .. | .devLogConsWrite .. | .claimExpiry .. | .inlinePush .. | .lockExpiry .. => stocksParts
  | .securedPacketReceived .. => [.stw, .cnt]
  | .intaUpdate | .interruptDisableWrite .. | .msixUnmask .. | .pmeTurnOff | .wakeEvent .. | .dlUp ..
  | .busMasterEnableSet .. => [.pci, .out]
  | .registerWrite .. => replyParts ++ [.stg, .alm, .store, .fw, .draws, .limits]
  | .seqFlipGo .. => [.dev, .cnt, .seq, .qm, .grn, .mac, .haul, .twn, .out]
  | .sealRequest .. | .discardRequest .. | .residencyPeakRead .. | .dispatch .. => [.seq]
  | .stepLoWrite .. | .stepHiWrite .. | .stepScrub => [.cnt, .seq]
  | .parkedResume .. | .grnWaitExpiry .. => [.dev, .cnt, .seq, .grn]
  | .ctlJump .. | .ctlEnd .. | .ctlDrop .. | .ctlHook .. | .ctlReturn .. | .ctlMark .. | .aluMove ..
  | .aluAdd .. | .aluSub .. | .aluAnd .. | .aluOr .. | .aluXor .. | .aluShift .. | .aluCmpEq ..
  | .aluCmpLt .. | .loadHdr .. | .storeHdr .. | .strip .. | .prepend .. | .readTime .. | .parseL2 ..
  | .parseL3 .. | .parseL4 .. | .parseTunnel .. | .parseStoragePdu .. | .hashCrc32c .. | .hashCrc32 ..
  | .hashToeplitz .. | .lkpHotLookup .. | .lkpRldLookup .. | .fwtLearn .. | .fwtRefresh .. | .fwtWriteFlow ..
  | .grnFree .. | .cipRecord .. | .dmawDeliver .. | .xmitClass .. | .xmitLoop .. | .cntInc .. | .cntAdd ..
  | .connGet .. | .connPutWrite .. | .connPutComplete .. | .connPutRelease .. | .connPutFail ..
  | .functionLevelReset .. | .takeoverComplete => stepParts
  | .policeMeter .. => stepParts ++ [.sw]
  | .grnAlloc .. | .dmarRead .. | .haulStart .. | .handoffSubmission .. | .handoffInbound .. => stepParts ++ [.draws]
  | .grnWaitRetry .. => [.dev, .cnt, .seq, .grn, .draws]
  | .inlineScrubComplete .. => [.dev, .cnt, .seq, .grn, .mac, .out, .draws]
  | .backgroundScrub => [.cnt, .grn, .out]
  | .grnQueryWrite .. | .grnQueryComplete => [.grn]
  | .recordFinish .. => [.dev, .cnt, .seq, .grn, .cip, .twn, .out]
  | .xmitMirror .. => stepParts ++ [.sw, .draws]
  | .turnDispatch .. => [.seq, .stg]
  | .slotExpiry .. | .connectionTimerExpiry .. | .timerCellRetry .. => [.dev, .cnt, .seq, .grn, .stg, .draws]
  | .doorbell .. | .completionConsumerWrite .. | .completionArm .. => stocksParts ++ [.pci, .out]
  | .queueFetch .. => [.cnt, .qm, .pci, .out, .draws]
  | .entryFetchComplete .. | .haulNop .. | .tblWriteUnlock .. | .tblUnlock .. => stocksParts ++ [.pci, .out, .draws]
  | .frameReceived .. => [.dev, .cnt, .seq, .grn, .mac, .draws]
  | .pfcPauseEnd .. | .txtsTagRead .. | .macTimeNsRead | .ppsInputEdge | .ppsOutput | .laneFaultClear ..
  | .cageFaultClear .. | .cageInterrupt .. => [.mac]
  | .pfcSend .. | .pfcResend .. => [.mac, .out]
  | .transmitFrameStart .. => [.cnt, .grn, .mac, .out]
  | .macTimeStepWrite .. | .cageFault .. => [.dev, .cnt, .mac]
  | .linkDown .. => [.cnt, .grn, .mac, .pci, .out]
  | .laneFault .. => [.dev, .stw, .fmg, .cnt, .grn, .mac, .pci, .twn, .out]
  | .agerVisit .. => [.cnt, .fwt]
  | .homingMove .. | .homingOverflowRemove .. | .fwtGrantSelWrite .. => [.fwt]
  | .haulStartWrite .. | .haulAckWrite .. => [.cnt, .haul]
  | .haulStopWrite .. | .crierExport => [.cnt, .seq, .haul]
  | .watermarkHigh .. | .runStart .. => [.haul]
  | .haulCopy .. | .haulZero .. | .tblRead .. | .tblLockRead .. => stocksParts ++ [.stg, .pci, .fw, .out, .draws]
  | .readCompletion .. | .completionTimeout .. => [.dev, .cnt, .seq, .grn, .pci, .out, .draws]
  | .tagQuarantineEnd .. => [.pci, .out, .draws]
  | .busMasterEnableClear .. => [.dev, .cnt, .seq, .qm, .grn, .mac, .haul, .pci, .draws]
  | .flrComplete .. => replyParts ++ [.sw, .stg, .alm, .store]
  | .powerStateWrite .. =>
    [.dev, .stw, .fmg, .cnt, .seq, .qm, .grn, .mac, .haul, .pci, .twn, .alm, .store, .out, .draws]
  | .hotReset | .referenceClockFault .. | .almanacRestartComplete => replyParts ++ [.stg, .alm, .store]
  | .perstAssert => stocksParts ++ [.stw, .sw, .stg, .pci, .twn, .alm, .store, .fw, .life, .limits]
  | .perstRelease .. =>
    [.dev, .stw, .fmg, .cnt, .seq, .qm, .grn, .fwt, .mac, .cip, .haul, .stg, .pci, .alm, .store, .fw, .out, .draws]
  | .coldReset .. | .rldramWipeEnd => replyParts ++ [.sw, .stg, .alm, .store, .fw, .draws, .life, .limits]
  | .sramWipeEnd => [.dev, .cnt, .grn]
  | .mainSupplyLoss => stocksParts ++ [.stw, .sw, .stg, .pci, .twn, .alm, .store, .fw, .draws, .life, .limits]
  | .auxPowerUp | .domainStart .. | .thermtrip .. | .lifetimeSample .. | .thermalWarningClear ..
  | .auxPowerLoss => [.alm, .store]
  | .domainIdleStop .. | .crystalRecovery | .thermtripRelease | .almCalSecRead => [.alm]
  | .stewardRestart => [.stw, .fw]
  | .almanacRestart | .storeCommit => [.store]
  | .alarm .. => [.dev, .stw, .fmg, .cnt, .seq, .grn, .cip, .pci, .twn, .alm, .store, .out]
  | .alarmClear .. => [.dev, .cnt, .cip, .alm, .draws]
  | .thermalWarning .. | .crystalFault | .thermalDiodeFault .. => [.dev, .cnt, .alm, .store]
  | .wakeTimerFire => [.dev, .cnt, .pci, .alm, .out]
  | .cntSnapWrite .. | .snapshotCopyComplete => [.cnt]
  | .fnSelWrite .. => [.fmg]
  | .fwtOvfSelWrite .. => [.fwt, .draws]
  | .cipSaSelWrite .. | .cipGrantSelWrite .. => [.cip]
  | .stgConnSelWrite .. | .stgGrantSelWrite .. => [.stg]
  | .twinLinkAuthenticated .. => [.dev, .stw, .fmg, .cnt, .twn, .draws]
  | .heartbeatSend => [.twn, .out]
  | .heartbeatReceived .. | .armDeadline => [.dev, .cnt, .twn]
  | .leaseRecord .. | .replaySnapshot .. | .storageRecord .. | .bankImagePart .. =>
    [.dev, .cnt, .seq, .cip, .stg, .twn, .out]
  | .twinResend .. => [.dev, .stw, .fmg, .cnt, .twn, .out]
  | .chainOfferSend => [.fw, .out]
  | .chainOfferReceived .. => [.dev, .cnt, .pci, .fw, .out]
  | .chainRequestReceived .. | .spdmGetCertificate .. | .smbusClockLowTimeout => [.out]
  | .chainDataReceived .. => [.dev, .cnt, .pci, .store, .fw, .out, .draws, .fuses]
  | .chainConfirmReceived .. | .chainFault .. => [.dev, .cnt, .fw]
  | .chainRefuseReceived .. => [.fw]
  | .spdmChallenge .. | .getMeasurements .. => [.out, .draws]
  | .keyExchange .. => [.dev, .cnt, .fw, .out, .draws]
  | .putImage .. => [.fw, .out, .draws]
  | .linkUp .. => [.dev, .cnt, .mac, .pci, .twn, .out]
  | .twinLinkDown => [.dev, .stw, .fmg, .cnt, .twn]
  | .referenceClockRecovery .. | .thermalDiodeFaultClear => [.dev, .cnt, .alm]
  | .chainFaultClear .. => [.pci, .fw, .out]
  | .stewardRestartComplete => replyParts ++ [.stg, .alm, .store, .fw, .draws]

/-- What a step refused for a FID in the stocks leaves: the state as it was, but that an offence in the very instant in which the
FID entered them is counted and joins the record of its violation (R336). -/
def Joins (s : State) (fid : Nat) (u : State) : Prop :=
  ChangesOnly [.fns, .cnt] s u ∧ (violNow s fid = false → u = s)

/-! ## Frames of the twin link -/

/-- A standby accepts a frame of types 2 to 6 and finds the state `u`: the link is up, the frame is authentic and accepted by
Table 13.3 (R379, R383). -/
def Accepts (s : State) (h : TwinHdr) (u : State) : Prop :=
  s.twn.link = 3 ∧ h.tagOk = true ∧ resolve s h = (true, u) ∧ u.twn.role = roleStandby

/-- A frame that a standby accepts is the next in its order, and its number is taken (R379). -/
def Applies (s : State) (h : TwinHdr) (t : State) : Prop :=
  ∃ u, Accepts s h u ∧ h.seq = u.twn.rxSeq ∧ t = { u with twn := { u.twn with rxSeq := (h.seq + 1) % 2 ^ 64 } }

/-! ## Registers -/

/-- A write of `v` to the register of `n` bytes at an offset of PF0's BAR completes, and the register then reads `x`. -/
def WriteReads (s : State) (off n v x : Nat) : Prop :=
  ∃ t : State, exec (.registerWrite 0 off n v) s = .next t ∧ regRead t 0 off = some (n, x)

end Sys2Proof.Machine
end

