-- ==== Sys2Proof/Certificates/Slice0/Obligations.lean ====
section
/-! DEFINITION. The statements of this row for the provers: that every command completes and with what effect, what a command
leaves alone, the invariants that every step keeps, and what the device refuses. -/

open Sys2Proof Sys2Proof.Machine

/-- Each queue command of Table 14.8 that is accepted, whose parameters are in range and whose own rules allow it, does
its effect and is DONE: a create lists a ring at a number that no ring of its type had, with the parameters of Table 3.1
and P, C and F zero (R85 to R88); a destroy unlists a STOPPED ring (R121); stop takes a ring to STOPPED (R119); resume
is R120; weight and burst are stored in QM_WEIGHT of the queue, for its next round (R103); a read returns the QM_ registers. -/
def Obligations.QueueCommandsComplete : Prop :=
  (∀ (s b : State) (m : Meta) (fid window base sizeLog2 cq pipeline program weight burst : Nat) (c : CqRing),
    Starts s b m 0x0301 [.fid fid, .ring 3 cq] false →
    isFn fid = true → window < 256 → sizeOk sizeLog2 = true → baseOk base sizeLog2 32 = true → base < 2 ^ 64 →
    cq < 16384 → (pipeline ≤ 3 ∨ pipeline = 0xFF) → program ≤ 7 → 1 ≤ weight → weight ≤ 255 → 1 ≤ burst → burst ≤ 64 →
    cqOf b cq = some c → c.fid = fid → inWindows b fid base (32 * 2 ^ sizeLog2) false = true →
    windowFree b fid window = true → tcount b.qm.tx (fun _ r => r.fid = fid) < (fnOf b fid).tx →
    (∃ k, k < 16384 ∧ tget b.qm.tx k = none) →
    ∃ n, n < 16384 ∧ tget b.qm.tx n = none ∧
      exec (.createTransmitRing m fid window base sizeLog2 cq pipeline program weight burst) s
        = doneIn s m 0x0301 (setRing (setWeight { b with draws := b.draws + 1 } n weight burst) false n
            { fid := fid, window := window, base := base, sizeLog2 := sizeLog2, cq := cq
              pipeline := if pipeline = 0xFF then n % 4 else pipeline, program := program
              effWeight := weight, effBurst := burst
              st := if queuesReady b then .stopped else .notReady }) [.num 2 n]) ∧
  (∀ (s b : State) (m : Meta) (fid window base sizeLog2 cq : Nat) (ts : Bool) (c : CqRing),
    Starts s b m 0x0302 [.fid fid, .ring 3 cq] false →
    isFn fid = true → window < 256 → sizeOk sizeLog2 = true → baseOk base sizeLog2 32 = true → base < 2 ^ 64 →
    cq < 16384 → cqOf b cq = some c → c.fid = fid → inWindows b fid base (32 * 2 ^ sizeLog2) false = true →
    windowFree b fid window = true → tcount b.qm.rx (fun _ r => r.fid = fid) < (fnOf b fid).rx →
    (∃ k, k < 16384 ∧ tget b.qm.rx k = none) →
    ∃ n, n < 16384 ∧ tget b.qm.rx n = none ∧
      exec (.createReceiveRing m fid window base sizeLog2 cq ts) s
        = doneIn s m 0x0302 (setRing { b with draws := b.draws + 1 } true n
            { fid := fid, window := window, base := base, sizeLog2 := sizeLog2, cq := cq, ts := ts
              st := if queuesReady b then .stopped else .notReady }) [.num 2 n]) ∧
  (∀ (s b : State) (m : Meta) (fid window base sizeLog2 ctrAddr msix : Nat),
    Starts s b m 0x0303 [.fid fid] false →
    isFn fid = true → window < 256 → sizeOk sizeLog2 = true → baseOk base sizeLog2 16 = true → base < 2 ^ 64 →
    ctrAddr % 4 = 0 → ctrAddr < 2 ^ 64 → msix < 128 → (fid = 0 ∨ msix < (fnOf b fid).msix) →
    inWindows b fid base (16 * 2 ^ sizeLog2) true = true → inWindows b fid ctrAddr 4 true = true →
    windowFree b fid window = true → tcount b.qm.cq (fun _ r => r.fid = fid) < (fnOf b fid).cq →
    (∃ k, k < 16384 ∧ tget b.qm.cq k = none) →
    ∃ n, n < 16384 ∧ tget b.qm.cq n = none ∧
      exec (.createCompletionRing m fid window base sizeLog2 ctrAddr msix) s
        = doneIn s m 0x0303 (setCq { b with draws := b.draws + 1 } n
            { fid := fid, window := window, base := base, sizeLog2 := sizeLog2, ctrAddr := ctrAddr, msix := msix
              st := if queuesReady b then .stopped else .notReady }) [.num 2 n]) ∧
  (∀ (s b : State) (m : Meta) (ring : Nat), Starts s b m 0x0304 [.ring 1 ring] false → ring < 16384 →
    (∀ r, ringOf b false ring = some r → r.st = .stopped →
      exec (.destroyRing m 1 ring) s = doneIn s m 0x0304 { b with
        qm := { b.qm with tx := tdel b.qm.tx ring } } [])) ∧
  (∀ (s b : State) (m : Meta) (ring : Nat), Starts s b m 0x0304 [.ring 2 ring] false → ring < 16384 →
    (∀ r, ringOf b true ring = some r → r.st = .stopped →
      exec (.destroyRing m 2 ring) s = doneIn s m 0x0304 { b with
        qm := { b.qm with rx := tdel b.qm.rx ring } } [])) ∧
  (∀ (s b : State) (m : Meta) (ring : Nat), Starts s b m 0x0304 [.ring 3 ring] false → ring < 16384 →
    (∀ r, cqOf b ring = some r → r.st = .stopped → cqBound b ring = false →
      exec (.destroyRing m 3 ring) s = doneIn s m 0x0304 { b with
        qm := { b.qm with cq := tdel b.qm.cq ring } } [])) ∧
  (∀ (s b : State) (m : Meta) (rx : Bool) (ring : Nat) (r r1 : Ring),
    Starts s b m 0x0305 [.ring (if rx then 2 else 1) ring] false → ring < 16384 →
    ringOf b rx ring = some r → (r.st = .stopped ∨ r.st = .haltedError) → (pciOf b r.fid).bme = true →
    ringOf (coverStocks b rx ring r) rx ring = some r1 →
      (r.coverFrozen = false → coverStocks b rx ring r = b) ∧
      exec (.startRing m (if rx then 2 else 1) ring) s = doneIn s m 0x0305
        (holdUpdate (setRing (coverStocks b rx ring r) rx ring { r1 with st := .running }) r1.cq) []) ∧
  (∀ (s b : State) (m : Meta) (ring : Nat) (c : CqRing),
    Starts s b m 0x0305 [.ring 3 ring] false → ring < 16384 → cqOf b ring = some c →
    (c.st = .stopped ∨ c.st = .haltedError) → (pciOf b c.fid).bme = true →
      exec (.startRing m 3 ring) s
        = doneIn s m 0x0305
            (holdUpdate (cqDrain (setCq b ring { c with st := .running }) ring) ring) []) ∧
  (∀ (s b : State) (m : Meta) (rx : Bool) (ring : Nat) (r : Ring),
    Starts s b m 0x0306 [.ring (if rx then 2 else 1) ring] false → ring < 16384 →
    ringOf b rx ring = some r →
    (r.st = .running ∨ r.st = .held ∨ r.st = .haltedHost ∨ r.st = .haltedError) →
      exec (.stopRing m (if rx then 2 else 1) ring) s
        = doneIn s m 0x0306 (setRing b rx ring { r with st := .stopped }) []) ∧
  (∀ (s b : State) (m : Meta) (ring : Nat) (c : CqRing),
    Starts s b m 0x0306 [.ring 3 ring] false → ring < 16384 → cqOf b ring = some c →
    (c.st = .running ∨ c.st = .held ∨ c.st = .haltedHost ∨ c.st = .haltedError) →
      exec (.stopRing m 3 ring) s
        = doneIn s m 0x0306 (setCq b ring { c with st := .stopped }) []) ∧
  (∀ (s b : State) (m : Meta) (fid : Nat),
    Starts s b m 0x0307 [.fid fid] false → isFn fid = true → (pciOf b fid).bme = true →
    anyHalted b fid = true →
      exec (.resumeRings m fid) s = doneIn s m 0x0307 (resumeRings b fid) []) ∧
  (∀ (s b : State) (m : Meta) (ring weight burst : Nat) (r : Ring),
    Starts s b m 0x0308 [.ring 1 ring] false → ring < 16384 → 1 ≤ weight → weight ≤ 255 → 1 ≤ burst → burst ≤ 64 →
    ringOf b false ring = some r →
      exec (.setWeightAndBurst m ring weight burst) s
        = doneIn s m 0x0308 (setWeight b ring weight burst) []) ∧
  (∀ (s b : State) (m : Meta) (rx : Bool) (ring : Nat) (r : Ring),
    Starts s b m 0x0309 [.ring (if rx then 2 else 1) ring] false → ring < 16384 →
    ringOf b rx ring = some r → (m.fid = 0 ∨ r.fid = m.fid) →
      exec (.readRing m (if rx then 2 else 1) ring) s
        = doneIn s m 0x0309 b (ringRegs b rx ring r)) ∧
  (∀ (s b : State) (m : Meta) (ring : Nat) (c : CqRing),
    Starts s b m 0x0309 [.ring 3 ring] false → ring < 16384 → cqOf b ring = some c →
    (m.fid = 0 ∨ c.fid = m.fid) →
      exec (.readRing m 3 ring) s = doneIn s m 0x0309 b (cqRegs c))

/-- Each function command of Table 11.10 that is accepted, whose parameters are in range and whose own rules allow it,
does its effect and is DONE, or goes on in the background (quiesce, reset, remove); and the events that end a quiesce and
a reset do what R327 and R332 say. -/
def Obligations.FunctionCommandsComplete : Prop :=
  (∀ (s b : State) (m : Meta) (fid : Nat) (rec : GrantRec), Starts s b m 0x0201 (createObjs fid rec) false →
    badGrant fid rec = none → firstBad (shareState b rec) = none → (fnOf b fid).st = .absent → hookHeld b fid = false →
    vfExists b fid = true →
    lowestBad ((lanesAt rec, decide (lanesBeside b fid + rec.lanes ≤ 24)) :: poolChecks b fid 1 (hookItemAt rec) rec.items ++
      listChecks (defaultShares b fid) fid rec .refusedLimit) = none →
    lowestBad (listChecks (defaultShares b fid) fid rec .refusedEmpty) = none →
      exec (.createInstance m fid rec) s = doneIn s m 0x0201 (makeInstance b fid rec) []) ∧
  (∀ (s b : State) (m : Meta) (fid limitMs : Nat), Starts s b m 0x0202 [.fid fid] false → isFn fid = true → fid ≠ 0 →
    1 ≤ limitMs → limitMs ≤ 10000 → ((fnOf b fid).st = .active ∨ (fnOf b fid).st = .quiesced) →
      exec (.quiesce m fid limitMs) s = bgIn s m 0x0202 [.fid fid]
        (moveRings (setFn b fid { fnOf b fid with
            st := .quiescing, quiesceUntil := some (b.now + 1000000 * limitMs), qSeen := reportOf b fid
            frozenDuring := false }) fid
          (fun x => if x = .frozen ∨ x = .notReady then x else .quiescing)) none (b.now + 1000000 * limitMs)) ∧
  (∀ (s : State) (fid t : Nat), (fnOf s fid).quiesceUntil = some t → (fnOf s fid).st = .quiescing →
    ((reportOf s fid).blocking = 0 ∨ t ≤ s.now) → exec (.quiesceEnd fid) s = .next (finishQuiesce s fid)) ∧
  (∀ (s b : State) (m : Meta) (fid : Nat), Starts s b m 0x0203 [.fid fid] false → isFn fid = true → fid ≠ 0 →
    (fnOf b fid).st = .quiesced → (fnOf b fid).frozen = false →
      exec (.resume m fid) s = doneIn s m 0x0203 (setFn b fid { fnOf b fid with st := .active }) []) ∧
  (∀ (s b : State) (m : Meta) (fid : Nat) (force : Bool), Starts s b m 0x0204 [.fid fid] true → isFn fid = true →
    fid ≠ 0 → (fnOf b fid).st = .quiesced → lockedOut b fid (learnedOf b fid) = false →
    (force = true ∨ (reportOf b fid).blocking = 0) →
      exec (.resetInstance m fid force) s = bgIn s m 0x0204 [.fid fid]
        (if force then abortWork (setFn b fid { fnOf b fid with st := .resetting, resetKind := some .reset }) fid
          else setFn b fid { fnOf b fid with st := .resetting, resetKind := some .reset }) none b.now) ∧
  (∀ (s b : State) (m : Meta) (fid : Nat) (force : Bool), Starts s b m 0x0205 [.fid fid] true → isVf fid = true →
    (fnOf b fid).st = .quiesced → removeBarred b fid = false → lockedOut b fid (fun _ => true) = false →
    (force = true ∨ (reportOf b fid).blocking = 0) →
      exec (.removeInstance m fid force) s = bgIn s m 0x0205 [.fid fid]
        (if force then abortWork (setFn b fid { fnOf b fid with st := .resetting, resetKind := some .remove }) fid
          else setFn b fid { fnOf b fid with st := .resetting, resetKind := some .remove }) none b.now) ∧
  (∀ (s : State) (fid : Nat), (fnOf s fid).st = .resetting → (fnOf s fid).resetKind = some .remove →
    lockedOut s fid (fun _ => true) = false →
      exec (.resetComplete fid) s = .next (replyReset (endRemove s fid) fid)) ∧
  (∀ (s : State) (fid : Nat), (fnOf s fid).st = .resetting → (fnOf s fid).resetKind ≠ some .remove →
    (pciOf s fid).flrAt = none → lockedOut s fid (learnedOf s fid) = false →
      exec (.resetComplete fid) s = .next (replyReset (endReset s fid) fid)) ∧
  (∀ (s b : State) (m : Meta) (fid : Nat), Starts s b m 0x0206 [.fid fid] false → isFn fid = true → fid ≠ 0 →
    (fnOf b fid).frozen = true → (fnOf b fid).releaseOk = true → ((fnOf b fid).st = .active ∨ (fnOf b fid).st = .quiesced) →
      exec (.release m fid) s = doneIn s m 0x0206 (releaseFn b fid) []) ∧
  (∀ (s b : State) (m : Meta) (fid : Nat), Starts s b m 0x0206 [.fid fid] false → isFn fid = true → fid ≠ 0 →
    (fnOf b fid).st ≠ .active → (fnOf b fid).st ≠ .quiesced →
      exec (.release m fid) s = endsIn s m 0x0206 b { status := .refusedState }) ∧
  (∀ (s b : State) (m : Meta) (fid : Nat) (w : WinRec), Starts s b m 0x0207 [.fid fid] false → isFn fid = true →
    w.win ≤ 15 → w.base % 4096 = 0 → w.base < 2 ^ 64 → w.pages ≤ 2 ^ 52 → w.base + 4096 * w.pages ≤ 2 ^ 64 →
    (∀ r ∈ coveredRanges b fid, winsCover (fnOf b fid).windows r = true →
      winsCover (tput {} (fnOf b fid).windows w.win ⟨w.base, w.pages, w.read, w.write⟩) r = true) →
      exec (.setDmaWindow m fid w) s = doneIn s m 0x0207 (setFn b fid { fnOf b fid with
        windows := tput {} (fnOf b fid).windows w.win ⟨w.base, w.pages, w.read, w.write⟩ }) []) ∧
  (∀ (s b : State) (m : Meta) (fid : Nat) (w : WinRec) (r : Nat × Nat × Bool), Starts s b m 0x0207 [.fid fid] false →
    isFn fid = true → w.win ≤ 15 → w.base % 4096 = 0 → w.base < 2 ^ 64 → w.pages ≤ 2 ^ 52 →
    w.base + 4096 * w.pages ≤ 2 ^ 64 → r ∈ coveredRanges b fid → winsCover (fnOf b fid).windows r = true →
    winsCover (tput {} (fnOf b fid).windows w.win ⟨w.base, w.pages, w.read, w.write⟩) r = false →
      exec (.setDmaWindow m fid w) s = endsIn s m 0x0207 b { status := .refusedBusy }) ∧
  (∀ (s b : State) (m : Meta) (fid : Nat) (rawTable rawHook : Bool), Starts s b m 0x0208 [.fid fid] false →
    isFn fid = true → fid ≠ 0 → (rawTable = true ∨ (fnOf b fid).rawTable = false ∨ locksOf b fid = 0) →
      exec (.setExpertGrant m fid rawTable rawHook) s = doneIn s m 0x0208
        (isoCheck (setFn b fid { fnOf b fid with rawTable := rawTable, rawHook := rawHook }) 2) []) ∧
  (∀ (s b : State) (m : Meta) (fid : Nat) (items : GrantItems), Starts s b m 0x0209 [.fid fid] false →
    firstBad ((0, isFn fid) :: countChecks fid 1 items ++ hookChecks 7 items) = none →
    (fnOf b fid).st ≠ .absent → (fnOf b fid).st ≠ .resetting →
    lowestBad (useChecks b fid items ++ poolChecks b fid 1 7 items) = none →
      exec (.setInstanceGrant m fid items) s = doneIn s m 0x0209 (setFn b fid ((fnOf b fid).withItems items)) []) ∧
  (∀ (s b : State) (m : Meta) (fid : Nat), Starts s b m 0x020A [.fid fid] false → isFn fid = true →
    (fnOf b fid).st ≠ .absent → ∃ r, exec (.readInstance m fid) s = doneIn s m 0x020A b r ∧
      r.head? = some (.num 8 (fnState (fnOf b fid) (vfExists b fid))) ∧
      (∃ p, r = p ++ (fnOf b fid).lastQ.flds)) ∧
  (∀ (s b : State) (m : Meta) (v : Nat), Starts s b m 0x020B [] false → v ≤ 2 →
      exec (.declareConfinement m v) s
        = doneIn s m 0x020B (isoCheck { b with fmg := { b.fmg with confinement := v } } 3) [])

/-- Each Granary command of Table 4.7 that is accepted, whose parameters are in range and whose own rules allow it, does its
effect and is DONE: a registered pool has the parameters given and no ledger entry of its own (R129, R131), an unregistered one
leaves no pool, ledger entry or share record; a share is stored (R136), but for pools 0 and 2 (the model's choice, log entry
120); the on-chip pools are numbered anew (R125); pressure_eighths is stored (R135); a query returns the ledger entry (R151).
-/
def Obligations.GranaryCommandsComplete : Prop :=
  (∀ (s b : State) (m : Meta) (pool set kind sizeLog2 count base spaceFid : Nat),
    Starts s b m 0x0401 [.fid spaceFid] true → 4 ≤ pool → pool ≤ 63 → 4 ≤ set → set ≤ 15 →
    (kind = 1 ∨ (kind = 2 ∧ sizeLog2 = 8)) → 8 ≤ sizeLog2 → sizeLog2 ≤ 16 → 0 < count → base % 4096 = 0 → base < 2 ^ 64 →
    isFn spaceFid = true → (poolOf b pool).kind = 0 → otherKind b set kind = false →
    (kind = 1 → sameSize b set sizeLog2 = false) → (poolsOfSet b set).length < 8 → hostBuffers b + count ≤ 2 ^ 28 →
    hostBufferBytes b + count * 2 ^ sizeLog2 ≤ 2 ^ 42 →
    inWindows b spaceFid base (count * 2 ^ sizeLog2) true = true →
      exec (.registerPool m pool set kind sizeLog2 count base spaceFid) s = doneIn s m 0x0401 (setPool b pool
        { kind := kind, set := set, sizeLog2 := sizeLog2, count := count, base := base, spaceFid := spaceFid }) []) ∧
  (∀ (s b : State) (m : Meta) (pool : Nat), Starts s b m 0x0402 [] true → 4 ≤ pool → pool ≤ 63 →
    (poolOf b pool).kind ≠ 0 → heldAll b pool = 0 → poolAwaited b pool = false →
      exec (.unregisterPool m pool) s = doneIn s m 0x0402 { b with grn := { b.grn with
        pools := tdel b.grn.pools pool
        bufs := tfilter b.grn.bufs (fun h _ => hPool h ≠ pool)
        shares := tfilter b.grn.shares (fun k _ => k / 4096 ≠ pool) } } []) ∧
  (∀ (s b : State) (m : Meta) (pool fid mn mx weight : Nat), Starts s b m 0x0403 [.fid fid] false → pool ≤ 63 →
    (isFn fid = true ∨ fid = 0xFFF) → mn ≤ mx → 1 ≤ weight → weight ≤ 255 → pool ≠ 0 → pool ≠ 2 →
    (poolOf b pool).kind ≠ 0 →
    mx ≤ (poolOf b pool).count → reserveOf (setShare b pool fid ⟨mn, mx, weight⟩) pool ≤ (poolOf b pool).count →
    (mn ≤ (shareOf b pool fid).mn ∨ reserveOut (setShare b pool fid ⟨mn, mx, weight⟩) pool
      ≤ freeOf (setShare b pool fid ⟨mn, mx, weight⟩) pool) →
      exec (.setShare m pool fid mn mx weight) s
        = doneIn s m 0x0403 (setShare b pool fid ⟨mn, mx, weight⟩) []) ∧
  (∀ (s b : State) (m : Meta) (pool fid mn mx weight : Nat), Starts s b m 0x0403 [.fid fid] false → (pool = 0 ∨ pool = 2) →
    (isFn fid = true ∨ fid = 0xFFF) → mn ≤ mx → 1 ≤ weight → weight ≤ 255 →
      exec (.setShare m pool fid mn mx weight) s = endsIn s m 0x0403 b { status := .badParam, item := 0 }) ∧
  (∀ (s b : State) (m : Meta) (c0 c1 c3 : Nat), Starts s b m 0x0404 [] false → 4096 ≤ c0 → 4096 ≤ c1 → 4096 ≤ c3 →
    c0 + c1 + c3 = 90112 → tany b.mac.ports (fun _ p => p.enabled) = false → anyQueueEnabled b = false →
    heldAll b 0 = 0 → heldAll b 1 = 0 → heldAll b 3 = 0 →
      exec (.sizeOnchipPools m c0 c1 c3) s = doneIn s m 0x0404 (sizePools b c0 c1 c3) [] ∧
      (poolOf (sizePools b c0 c1 c3) 0).count = c0 ∧ (poolOf (sizePools b c0 c1 c3) 1).count = c1 ∧
      (poolOf (sizePools b c0 c1 c3) 3).count = c3) ∧
  (∀ (s b : State) (m : Meta) (pool eighths : Nat), Starts s b m 0x0405 [] false → pool ≤ 63 → eighths ≤ 8 → pool ≠ 2 →
    (poolOf b pool).kind ≠ 0 →
      exec (.setPressure m pool eighths) s
        = doneIn s m 0x0405 (setPool b pool { poolOf b pool with pressure := eighths }) []) ∧
  (∀ (s b : State) (m : Meta) (handle : Nat), Starts s b m 0x0406 [] false → handle < 2 ^ 40 →
    handleValid b handle = true →
      exec (.queryHandle m handle) s = doneIn s m 0x0406 b [.num 4 (ledgerWord b handle)])

/-- Each table command of Table 5.7 that is accepted, whose parameters are in range and whose own rules allow it, does its
effect and is DONE, or goes on in the background (create, flush): a created table is not ready until its bucket arrays are
zeroed (R154); an entry is written to all four instances (R182), after the open bucket cycles have ended (R169, log entry 122);
a delete answers the mask of the instances that held the entry; a read answers one record per named pipeline; limits, grants
and flushes are R158 and R182. -/
def Obligations.TableCommandsComplete : Prop :=
  (∀ (s b : State) (m : Meta) (table location kind bucketsLog2 keyLen ageLimit seed : Nat),
    Starts s b m 0x0501 [.table table] true → table < 16 → 4 ≤ bucketsLog2 → 1 ≤ keyLen → keyLen ≤ 32 →
    ((location = 0 ∧ kind ≤ 2 ∧ bucketsLog2 ≤ 23 ∧ ageLimit < 2 ^ 31 ∧ rldTableBytes b + 256 * 2 ^ bucketsLog2 ≤ 6 * 2 ^ 30) ∨
      (location = 1 ∧ kind = 0 ∧ bucketsLog2 ≤ 13 ∧ ageLimit = 0 ∧ hotBuckets b + 2 ^ bucketsLog2 ≤ 8192)) →
    tget b.fwt.tables table = none →
      exec (.createTable m table location kind bucketsLog2 keyLen ageLimit seed) s
        = bgIn s m 0x0501 [.table table] { b with fwt := { b.fwt with tables := (tset b.fwt.tables table
            { hot := location = 1, kind := kind, bucketsLog2 := bucketsLog2, keyLen := keyLen, ageLimit := ageLimit
              seed := seed % 2 ^ 32, ready := false }) } } (some { status := .done }) b.now) ∧
  (∀ (s b : State) (m : Meta) (table : Nat) (x : FTable), Starts s b m 0x0502 [.table table] true → table < 16 →
    tget b.fwt.tables table = some x → bankNames b.seq.bankA table = false → bankNames b.seq.bankB table = false →
    tableLocked b table pipes = false →
      exec (.destroyTable m table) s = doneIn s m 0x0502 (dropTable b table) []) ∧
  (∀ (s b c : State) (m : Meta) (table owner : Nat) (key result : List Nat) (noAge : Bool) (x : FTable),
    Starts s b m 0x0503 [.table table, .fid owner] true → c = endCycles b → table < 16 → ownerOk owner = true →
    key.length ≤ 32 → result.length ≤ 24 → tableOf c table = some x → (key.drop x.keyLen).all (fun v => v = 0) = true →
    roomFor c x table (bucketOf x (normKey x key)) owner (normKey x key) = true →
    lockedAny c table (bucketOf x (normKey x key)) = false →
      exec (.insertOrReplaceEntry m table owner key result noAge) s = doneIn s m 0x0503
        (pipes.foldl (fun t p => setFp t p (applyManager (fpOf t p) table (bucketOf x (normKey x key)) x.hot
          { origin := false, noAge := noAge, table := table, owner := owner, lastHit := c.fwt.tick, key := normKey x key
            result := result ++ List.replicate (24 - result.length) 0 })) c) []) ∧
  (∀ (s b c : State) (m : Meta) (table owner : Nat) (key : List Nat) (x : FTable),
    Starts s b m 0x0504 [.table table, .fid owner] true → c = endCycles b → table < 16 → ownerOk owner = true →
    key.length ≤ 32 → tableOf c table = some x → (key.drop x.keyLen).all (fun v => v = 0) = true →
    lockedAny c table (bucketOf x (normKey x key)) = false →
      exec (.deleteEntry m table owner key) s = doneIn s m 0x0504
        (pipes.foldl (fun t p =>
          setFp t p (removeCopies (fpOf t p) table (bucketOf x (normKey x key)) owner (normKey x key))) c)
        [.num 1 (pipeMask (fun p => hasCopy (fpOf c p) table (bucketOf x (normKey x key)) owner (normKey x key)))]) ∧
  (∀ (s b : State) (m : Meta) (table owner : Nat) (key : List Nat) (pmask : Nat) (x : FTable),
    Starts s b m 0x0505 [.table table, .fid owner] false → table < 16 → ownerOk owner = true → key.length ≤ 32 →
    pmask < 16 → tableOf b table = some x → (key.drop x.keyLen).all (fun v => v = 0) = true →
      exec (.readEntry m table owner key pmask) s = doneIn s m 0x0505 b
        ((maskPipes pmask).flatMap (fun p =>
          entryRecord (fpOf b p) table (bucketOf x (normKey x key)) owner (normKey x key)))) ∧
  (∀ (s b : State) (m : Meta) (table ageLimit : Nat) (x : FTable), Starts s b m 0x0506 [.table table] false → table < 16 →
    ageLimit < 2 ^ 31 → tget b.fwt.tables table = some x → (x.hot = false ∨ ageLimit = 0) →
      exec (.setAgeLimit m table ageLimit) s = doneIn s m 0x0506
        { b with fwt := { b.fwt with tables := tset b.fwt.tables table { x with ageLimit := ageLimit } } } []) ∧
  (∀ (s b : State) (m : Meta) (fid table pmask maxEntries ovfReserve : Nat),
    Starts s b m 0x0507 [.fid fid, .table table] false → ownerOk fid = true → table < 16 → pmask < 16 →
    maxEntries ≤ 2 ^ 25 → ovfReserve ≤ 16384 → grantRefusal b fid table pmask ⟨maxEntries, ovfReserve⟩ = none →
      exec (.setTableGrant m fid table pmask maxEntries ovfReserve) s
        = doneIn s m 0x0507 (putGrant b fid table pmask ⟨maxEntries, ovfReserve⟩) []) ∧
  (∀ (s b c : State) (m : Meta) (table owner pmask : Nat) (x : FTable),
    Starts s b m 0x0508 (if owner = 0xFFE then [.table table] else [.table table, .fid owner]) true → c = endCycles b →
    table < 16 → (ownerOk owner = true ∨ owner = 0xFFE) → pmask < 16 → tableOf c table = some x →
    tableLocked c table (maskPipes pmask) = false →
      exec (.flush m table owner pmask) s
        = bgIn s m 0x0508 (if owner = 0xFFE then [.table table] else [.table table, .fid owner])
            ((maskPipes pmask).foldl (fun t p => setFp t p (flushIn (fpOf t p) table owner)) c)
            (some { status := .done, results :=
              [.num 8 ((maskPipes pmask).map (fun p => (flushKeys (fpOf c p) table owner).length)).sum] }) c.now)

/-- The ager and the homing unit act: a visit of an enabled ager takes a marked bucket whose lock has gone first, and otherwise
the next bucket in order, whose expired entries go at the end of the bucket cycle, or marks it where it is locked (R175, R176);
a homing move of a bucket with a free slot that is not locked joins the bucket cycle, at whose end, alone in it, it writes the
bucket copy of the oldest overflow entry (R171, R173), and its removal deletes the overflow copy and counts the move, unless a
bucket image made the copy (R171, R179). The bucket's RLDRAM domain runs. Within one bucket cycle a removal by the ager comes
before a refresh, whichever of the two came first (Table 5.5): of an entry whose copies have all expired no copy stays, and the
refresh finds none and is counted in hit_on_expiry (R169, R170). A step with no command waiting ends every bucket cycle (the
model's choice, log entry 122). -/
def Obligations.AgerAndHomingAct : Prop :=
  (∀ (s : State) (p k : Nat), p < 4 → s.fwt.agerEnable = true → s.fwt.ready = true → domainRuns s (19 + p / 2) = true →
    markReady s p = some k →
      exec (.agerVisit p) s = .next
        (match (ageingTables s).find? (fun e => e.1 = k / 2 ^ 23) with
        | some e => agerVisitBucket (setFp (touchRld s p) p { fpOf s p with agerMarks := (fpOf s p).agerMarks.erase k }) p e.1
            (k % 2 ^ 23)
        | none => setFp (if (ageingTables s).isEmpty then s else touchRld s p) p
            { fpOf s p with agerMarks := (fpOf s p).agerMarks.erase k })) ∧
  (∀ (s : State) (p t b : Nat) (x : FTable), p < 4 → s.fwt.agerEnable = true → s.fwt.ready = true →
    domainRuns s (19 + p / 2) = true →
    markReady s p = none → agerNext s (fpOf s p).agerTable (fpOf s p).agerBucket = some (t, b, x) →
    isLocked (fpOf s p) t b = false →
      exec (.agerVisit p) s = .next
        (agerVisitBucket (setFp (touchRld s p) p { fpOf s p with agerTable := t, agerBucket := b + 1 }) p t b)) ∧
  (∀ (s : State) (p t b : Nat) (x : FTable), p < 4 → s.fwt.agerEnable = true → s.fwt.ready = true →
    domainRuns s (19 + p / 2) = true →
    markReady s p = none → agerNext s (fpOf s p).agerTable (fpOf s p).agerBucket = some (t, b, x) →
    isLocked (fpOf s p) t b = true → bktKey t b ∉ (fpOf s p).agerMarks →
      exec (.agerVisit p) s = .next (setFp (touchRld s p) p { fpOf s p with
        agerTable := t, agerBucket := b + 1, agerMarks := (fpOf s p).agerMarks ++ [bktKey t b] })) ∧
  (∀ (s : State) (p t b i j : Nat) (x : FTable) (e : OvfEntry), p < 4 → tableOf s t = some x → x.hot = false →
    domainRuns s (19 + p / 2) = true →
    isLocked (fpOf s p) t b = false → (∀ h ∈ (fpOf s p).homing, ¬ (h.1 = t ∧ h.2.1 = b)) →
    .home t b ∉ (fpOf s p).cycle →
    freeSlot (fpOf s p) t b = some i → oldestOvf (fpOf s p) t b = some (j, e) →
      exec (.homingMove p t b) s = .next (addCycle (touchRld s p) p (.home t b)) ∧
      ((fpOf s p).cycle = [] → endCycle (addCycle (touchRld s p) p (.home t b)) p = setFp (touchRld s p) p { fpOf s p with
          slots := tset (fpOf s p).slots (slotKey t b i) e.e
          rawSlots := tdel (fpOf s p).rawSlots (slotKey t b i)
          ovf := tset (fpOf s p).ovf j { e with homed := true }
          homing := (fpOf s p).homing ++ [(t, b, j)] })) ∧
  (∀ (s : State) (p t b : Nat) (h : Nat × Nat × Nat) (e : OvfEntry), p < 4 →
    (fpOf s p).homing.find? (fun h => h.1 = t && h.2.1 = b) = some h → tget (fpOf s p).ovf h.2.2 = some e →
    e.homed = true → e.e.table = t → e.bucket = b →
      exec (.homingOverflowRemove p t b) s = .next (setFp s p { fpOf s p with
        homing := (fpOf s p).homing.erase h, ovf := tdel (fpOf s p).ovf h.2.2
        homeMoves := if e.byImage then (fpOf s p).homeMoves else (fpOf s p).homeMoves + 1 })) ∧
  (∀ (s : State) (p t b o n : Nat) (key : List Nat) (x : FTable), p < 4 → tableOf s t = some x →
    ((fpOf s p).cycle = [.refresh n t b o key, .age t b] ∨ (fpOf s p).cycle = [.age t b, .refresh n t b o key]) →
    hasCopy (fpOf s p) t b o key = true →
    (∀ e ∈ (fpOf s p).slots, e.1 / 4 = bktKey t b → e.2.isFor t key o = true → e.2.expired x s.fwt.tick = true) →
    (∀ e ∈ (fpOf s p).ovf, e.2.bucket = b → e.2.e.isFor t key o = true → e.2.e.expired x s.fwt.tick = true) →
    hasCopy (fpOf (endCycle s p) p) t b o key = false ∧
      ∃ u : State, endCycle s p = count u o cHitOnExpiry ∧ fpOf u p = fpOf (endCycle s p) p) ∧
  (∀ s t : State, s.pending = [] → Machine.step s = .next t → ∀ p : Nat, p < 4 → (fpOf t p).cycle = [])

/-- Each cipher command of Table 8.9 that is accepted, whose parameters are in range and whose own rules allow it, does its
effect: an install makes a DORMANT SA whose key material is held only as a blob wrapped under the KEK (R244), on a lane claimed
for the device (which lane, and for how long, is the model's reading, log entry 115), and makes it ACTIVE where that is asked;
an activation takes free key-cache slots (R241); a remove or deactivate ends at once, or once the records accepted before it
have ended (R266): of a removed SA these records keep the replay state (R259); a rekey keeps the sequence state (R264); a grant
dedicates lanes (R249); an erasure acts as an alarm with cause 0 (R263). -/
def Obligations.CipherCommandsComplete : Prop :=
  (∀ (s b : State) (m : Meta) (sa : Nat) (q : SaParams), Starts s b m 0x0601 [.fid q.owner] true →
    (recordsOn s sa = false ∨ (tget s.cip.sas sa).isSome = true) → badSa sa q = none → tget b.cip.sas sa = none →
    b.cip.kek.isSome = true → (q.owner = 0xFFF ∨ sasOf b q.owner < (cgrantOf b q.owner).saMax) → q.activate = false →
      exec (.installSa m sa q) s = doneIn s m 0x0601 (wrapLane (setSa { b with cip := { b.cip with nextId := b.cip.nextId + 1 } }
        sa { installedSa b m q with uid := b.cip.nextId })) []) ∧
  (∀ (s b : State) (m : Meta) (sa : Nat) (q : SaParams), Starts s b m 0x0601 [.fid q.owner] true →
    (recordsOn s sa = false ∨ (tget s.cip.sas sa).isSome = true) → badSa sa q = none → tget b.cip.sas sa = none →
    b.cip.kek.isSome = true → (q.owner = 0xFFF ∨ sasOf b q.owner < (cgrantOf b q.owner).saMax) → q.activate = true →
    activeOver b q.owner = false →
    (∃ k, k + modeSlots q.mode ≤ keySlots ∧ ∀ j, j < modeSlots q.mode → slotFree b (k + j) = true) →
      ∃ n, n + modeSlots q.mode ≤ keySlots ∧ (∀ j, j < modeSlots q.mode → slotFree b (n + j) = true) ∧
        exec (.installSa m sa q) s = doneIn s m 0x0601 (wrapLane (setSa
          { b with cip := { b.cip with nextId := b.cip.nextId + 1 }, draws := b.draws + 1 } sa
          { installedSa b m q with uid := b.cip.nextId, st := .active, slot := n })) []) ∧
  (∀ (s b : State) (m : Meta) (sa : Nat) (a : Sa), Starts s b m 0x0602 [.sa sa] true → sa < 2 ^ 22 → saOf b sa = some a →
      exec (.removeSa m sa) s =
        if recordsOn b sa then
          foreIn s m 0x0602 [.sa sa] (dropSa b sa a)
        else doneIn s m 0x0602 (dropSa b sa a) []) ∧
  (∀ (s b : State) (m : Meta) (sa : Nat) (a : Sa), Starts s b m 0x0603 [] false → sa < 2 ^ 22 → saOf b sa = some a →
    a.st = .dormant → saErased b a = false → activeOver b a.owner = false →
    (∃ k, k + modeSlots a.mode ≤ keySlots ∧ ∀ j, j < modeSlots a.mode → slotFree b (k + j) = true) →
      ∃ n, n + modeSlots a.mode ≤ keySlots ∧ (∀ j, j < modeSlots a.mode → slotFree b (n + j) = true) ∧
        exec (.activateSa m sa) s = doneIn s m 0x0603 (setSa { b with draws := b.draws + 1 } sa
          { a with st := .active, slot := n }) []) ∧
  (∀ (s b : State) (m : Meta) (sa : Nat) (a : Sa), Starts s b m 0x0604 [.sa sa] true → sa < 2 ^ 22 → saOf b sa = some a →
    a.st = .active →
      exec (.deactivateSa m sa) s =
        if recordsOn b sa then foreIn s m 0x0604 [.sa sa] (setSa b sa { a with st := .dormant, slot := 0 })
        else doneIn s m 0x0604 (setSa b sa { a with st := .dormant, slot := 0 }) []) ∧
  (∀ (s b : State) (m : Meta) (sa : Nat) (key : List Nat) (a : Sa), Starts s b m 0x0605 [] true → sa < 2 ^ 22 →
    saOf b sa = some a → b.cip.kek.isSome = true → key.length = materialLen a.mode →
      exec (.rekeySa m sa key false) s = doneIn s m 0x0605 (wrapLane (setSa b sa { a with
        st := .dormant, slot := 0, kekGen := b.cip.kekGen.toNat % 65536
        blob := wrapKey ((kekBytes b).getD []) key, blobMark := false })) []) ∧
  (∀ (s b : State) (m : Meta) (sa : Nat) (key : List Nat) (a : Sa), Starts s b m 0x0605 [] true → sa < 2 ^ 22 →
    saOf b sa = some a → b.cip.kek.isSome = true → key.length = materialLen a.mode → a.st = .active →
      exec (.rekeySa m sa key true) s = doneIn s m 0x0605 (wrapLane (setSa b sa { a with
        kekGen := b.cip.kekGen.toNat % 65536, blob := wrapKey ((kekBytes b).getD []) key, blobMark := false })) []) ∧
  (∀ (s b : State) (m : Meta) (sa : Nat) (key : List Nat) (a : Sa), Starts s b m 0x0605 [] true → sa < 2 ^ 22 →
    saOf b sa = some a → b.cip.kek.isSome = true → key.length = materialLen a.mode → a.st ≠ .active →
    activeOver b a.owner = false →
    (∃ k, k + modeSlots a.mode ≤ keySlots ∧ ∀ j, j < modeSlots a.mode → slotFree b (k + j) = true) →
      ∃ n, n + modeSlots a.mode ≤ keySlots ∧ (∀ j, j < modeSlots a.mode → slotFree b (n + j) = true) ∧
        exec (.rekeySa m sa key true) s = doneIn s m 0x0605 (wrapLane (setSa { b with draws := b.draws + 1 } sa { a with
          st := .active, slot := n, kekGen := b.cip.kekGen.toNat % 65536
          blob := wrapKey ((kekBytes b).getD []) key, blobMark := false })) []) ∧
  (∀ (s b : State) (m : Meta) (sa : Nat) (a : Sa), Starts s b m 0x0606 [] false → sa < 2 ^ 22 → saOf b sa = some a →
      exec (.readSa m sa) s = doneIn s m 0x0606 b [.num 8 (saCtl b a), .num 8 a.seq, .num 8 a.lease,
        .num 4 a.replayWindow, .num 4 a.unitLog2, .num 8 (a.bitmap % 2 ^ 64), .num 8 (a.bitmap / 2 ^ 64), .num 8 0]) ∧
  (∀ (s b : State) (m : Meta) (fid lanes saMax activeMax : Nat), Starts s b m 0x0607 [.fid fid] false → isFn fid = true →
    lanes ≤ 24 → saMax ≤ 2 ^ 22 → activeMax ≤ keySlots → lanesBeside b fid + lanes ≤ 24 → sasOf b fid ≤ saMax →
    activeSas b fid ≤ activeMax →
      exec (.setCipherGrant m fid lanes saMax activeMax) s
        = doneIn s m 0x0607 (putCGrant b fid ⟨lanes, saMax, activeMax⟩) []) ∧
  (∀ (s b : State) (m : Meta), Starts s b m 0x0608 [] false →
      exec (.eraseVault m) s = doneIn s m 0x0608 (eraseVault b 0 0) [])

/-- Each haul command of Table 9.9 that is accepted, whose parameters are in range and whose own rules allow it, does its
effect and is DONE: a grant gives a channel to an owner, IDLE, keeping its configuration only for the same owner, or takes it
away (R268); a configuration makes a watermark channel ARMED and any other IDLE (R269, R278); stop and reset are R274 and
Table 9.5. -/
def Obligations.HaulCommandsComplete : Prop :=
  (∀ (s b : State) (m : Meta) (ch owner prio descLimit : Nat), Starts s b m 0x0C01 [.channel ch, .fid owner] false →
    ch < 15 → (isFn owner = true ∨ owner = 0xFFF) → prio ≤ 3 → 1 ≤ descLimit → descLimit ≤ 4096 →
    ((chanOf b ch).st = .ungranted ∨ (chanOf b ch).st = .idle) → chanOver b owner ch = false →
      exec (.grantChannel m ch owner prio descLimit) s = doneIn s m 0x0C01 (setChan b ch
        { (if (chanOf b ch).owner = owner then chanOf b ch else {}) with
          owner := owner, prio := prio, descLimit := descLimit, st := .idle }) []) ∧
  (∀ (s b : State) (m : Meta) (ch prio descLimit : Nat), Starts s b m 0x0C01 [.channel ch, .fid 0xFFE] false →
    ch < 15 → prio ≤ 3 → 1 ≤ descLimit → descLimit ≤ 4096 →
    ((chanOf b ch).st = .ungranted ∨ (chanOf b ch).st = .idle) →
      exec (.grantChannel m ch 0xFFE prio descLimit) s = doneIn s m 0x0C01 (setChan b ch {}) []) ∧
  (∀ (s b : State) (m : Meta) (ch : Nat) (g : ChanCfg), Starts s b m 0x0C02 [.channel ch] false → ch < 15 →
    g.mode ≤ 2 → g.statusAddr % 16 = 0 → g.statusAddr < 2 ^ 64 → g.msix < 128 → g.head % 32 = 0 → g.head < 2 ^ 64 →
    g.queueType ≤ 2 → g.queue < 16384 → g.high < 2 ^ 17 → (g.mode ≠ 1 ∨ g.low < g.high) → (chanOf b ch).st = .idle →
    chanVectorOk b (chanOf b ch) g = true → statusAddrOk b (chanOf b ch) g = true →
    headAddrOk b (chanOf b ch) g = true →
    (g.mode = 1 → ∃ cap, g.high ≤ cap ∧ watermarkQueue b { chanOf b ch with mode := g.mode } g
      = .ok (Chan.acting { chanOf b ch with mode := g.mode }, cap)) →
      exec (.configureChannel m ch g) s = doneIn s m 0x0C02 (setChan b ch { chanOf b ch with
        mode := g.mode, statusAddr := g.statusAddr, msix := g.msix, head := g.head, queueType := g.queueType
        queue := g.queue, high := g.high, low := g.low, fill := 0, st := if g.mode = 1 then .armed else .idle }) []) ∧
  (∀ (s b : State) (m : Meta) (ch : Nat), Starts s b m 0x0C03 [.channel ch] false → ch < 16 →
    ((chanOf b ch).st = .running ∨ (chanOf b ch).st = .ready ∨ (chanOf b ch).st = .armed) →
      exec (.stopChannel m ch) s = doneIn s m 0x0C03 (stopChan b ch) []) ∧
  (∀ (s b : State) (m : Meta) (ch : Nat), Starts s b m 0x0C04 [.channel ch] false → ch < 16 →
    (chanOf b ch).st = .haltedError →
      exec (.resetChannel m ch) s = doneIn s m 0x0C04 (setChan b ch { chanOf b ch with st := .idle }) [])

/-- Each switching command of Table 7.8 that is accepted, whose parameters are in range and whose own rules allow it, does
its effect and is DONE: a created or replaced policer has a full bucket in the current window (R236); the loop share is
stored (R223); a mirror session starts with its counts at zero, and one with cross_tenant is logged (R233, R235). -/
def Obligations.SwitchCommandsComplete : Prop :=
  (∀ (s b : State) (m : Meta) (policer fid rate ilog burst : Nat), Starts s b m 0x0510 [.fid fid] false → policer < 16384 →
    (isFn fid = true ∨ fid = 0xFFF) → rate < 2 ^ 24 → 8 ≤ ilog → ilog ≤ 20 → 64 ≤ burst → burst < 2 ^ 24 →
    (fid = 0xFFF ∨ policersOf b fid policer < (fnOf b fid).policers) →
      exec (.createOrReplacePolicer m policer fid rate ilog burst) s = doneIn s m 0x0510
        { b with sw := { b.sw with policers := (tset b.sw.policers policer
          { fid := fid, rate := rate, ilog := ilog, burst := burst, tokens := burst, lastK := timeNow b / 2 ^ ilog }) } } []) ∧
  (∀ (s b : State) (m : Meta) (policer : Nat) (x : Policer), Starts s b m 0x0511 [] false → policer < 16384 →
    tget b.sw.policers policer = some x →
      exec (.destroyPolicer m policer) s
        = doneIn s m 0x0511 { b with sw := { b.sw with policers := tdel b.sw.policers policer } } []) ∧
  (∀ (s b : State) (m : Meta) (policer : Nat) (x : Policer), Starts s b m 0x0512 [] false → policer < 16384 →
    tget b.sw.policers policer = some x →
      exec (.readPolicer m policer) s = doneIn s m 0x0512 b
        [.num 4 x.tokens, .num 8 x.lastK, .num 2 x.fid, .num 4 x.rate, .num 1 x.ilog, .num 4 x.burst]) ∧
  (∀ (s b : State) (m : Meta) (cells : Nat), Starts s b m 0x0513 [] false → cells ≤ 4096 →
      exec (.setLoopShare m cells) s = doneIn s m 0x0513 { b with sw := { b.sw with loopMax := cells } } []) ∧
  (∀ (s b : State) (m : Meta) (session fid window snapLen sampleN : Nat) (crossTenant : Bool),
    Starts s b m 0x0B20 [.fid fid] false → session < 64 → isFn fid = true → window < 256 →
    (snapLen = 0 ∨ (64 ≤ snapLen ∧ snapLen ≤ 9216)) → 1 ≤ sampleN → sampleN ≤ 65535 →
    (isVf fid = false ∨ crossTenant = true) →
      ∃ t, t = { b with sw := { b.sw with
          sessions := (tset b.sw.sessions session
            { fid := fid, window := window, snapLen := snapLen, sampleN := sampleN, crossTenant := crossTenant })
          calls := tfilter b.sw.calls (fun k _ => k / 4 ≠ session) } } ∧
        exec (.createOrReplaceMirrorSession m session fid window snapLen sampleN crossTenant) s = doneIn s m 0x0B20
          (if crossTenant then logEvent t 0x0051 fid [.num 2 session, .num 2 fid] else t) []) ∧
  (∀ (s b : State) (m : Meta) (session : Nat) (x : Session), Starts s b m 0x0B21 [] false → session < 64 →
    tget b.sw.sessions session = some x → sessionUsed b session = false →
      exec (.destroyMirrorSession m session) s
        = doneIn s m 0x0B21 { b with sw := { b.sw with sessions := tdel b.sw.sessions session } } []) ∧
  (∀ (s b : State) (m : Meta) (port rx tx : Nat), Starts s b m 0x0B22 [.port port] false → port < 8 →
    sessionOk rx = true → sessionOk tx = true → (portBlock b port).isSome = true → sessionThere b rx = true →
    sessionThere b tx = true →
      exec (.setPortMirror m port rx tx) s
        = doneIn s m 0x0B22 (setPort b port { portOf b port with rxSession := rx, txSession := tx }) [])

/-- Each port command of Table 14.7 that is accepted, whose parameters are in range and whose own rules allow it, does its
effect: a layout or a parameter set is applied, or staged while a bank is CURRENT or DRAINING (R185 to R187); a withdrawal
discards what is staged (R186); enable and disable are R189, a drain ends the disable command; the filter words, grp_all, the
select fields and the select table are stored (R196, R19); a module transfer ends with the module's bytes, or with
FAILED_TIMEOUT (R214). -/
def Obligations.PortCommandsComplete : Prop :=
  (∀ (s b : State) (m : Meta) (types : List Nat), Starts s b m 0x0120 [] false → (parseLayout types).isSome = true →
      exec (.setPortLayout m types) s = doneIn s m 0x0120
        (if bankLive b then { b with mac := { b.mac with staged := some types } } else applyLayout b types) []) ∧
  (∀ (s b : State) (m : Meta) (q : PortParams), Starts s b m 0x0121 [.port q.port] false → badParams q = none →
    inCfgLayout b q.port q.stage = true → q.stage = 1 → bankLive b = true →
      exec (.setPortParameters m q) s = doneIn s m 0x0121 { b with mac := { b.mac with
        stagedParams := b.mac.stagedParams.filter (fun r => r.port ≠ q.port) ++ [q] } } []) ∧
  (∀ (s b : State) (m : Meta) (q : PortParams), Starts s b m 0x0121 [.port q.port] false → badParams q = none →
    inCfgLayout b q.port q.stage = true → (q.stage ≠ 1 ∨ bankLive b = false) →
    raisesW b q.port ((portOf b q.port).withParams q) = false →
      exec (.setPortParameters m q) s
        = doneIn s m 0x0121 (setPort b q.port ((portOf b q.port).withParams q)) []) ∧
  (∀ (s b : State) (m : Meta), Starts s b m 0x0122 [] false →
    (b.mac.staged.isSome = true ∨ b.mac.stagedParams ≠ []) →
      exec (.withdrawStagedConfiguration m) s
        = doneIn s m 0x0122 { b with mac := { b.mac with staged := none, stagedParams := [] } } []) ∧
  (∀ (s b : State) (m : Meta) (port : Nat) (x : Block), Starts s b m 0x0123 [.port port] false → port < 8 →
    portBlock b port = some x → (currentBank b).isSome = true →
      exec (.enablePort m port) s = doneIn s m 0x0123 (enablePort b port x) [] ∧
        (portOf (enablePort b port x) port).enabled = true) ∧
  (∀ (s b : State) (m : Meta) (port : Nat) (x : Block), Starts s b m 0x0123 [.port port] false → port < 8 →
    portBlock b port = some x → currentBank b = none →
      exec (.enablePort m port) s = endsIn s m 0x0123 b { status := .refusedState }) ∧
  (∀ (s b : State) (m : Meta) (port limitMs : Nat) (x : Block), Starts s b m 0x0124 [.port port] false → port < 8 →
    portBlock b port = some x → (portOf b port).queued = [] →
      exec (.disablePort m port 0 limitMs) s = doneIn s m 0x0124 (disablePort b port) []) ∧
  (∀ (s b : State) (m : Meta) (port limitMs : Nat) (x : Block), Starts s b m 0x0124 [.port port] false → port < 8 →
    portBlock b port = some x →
      exec (.disablePort m port 2 limitMs) s
        = doneIn s m 0x0124 (disablePort (flushPort b port (cTxDisableFlush port)) port) []) ∧
  (∀ (s b : State) (m : Meta) (port limitMs : Nat) (x : Block), Starts s b m 0x0124 [.port port] false → port < 8 →
    1 ≤ limitMs → limitMs ≤ 100 → portBlock b port = some x →
      exec (.disablePort m port 1 limitMs) s = bgIn s m 0x0124 [.port port]
        (setPort b port { portOf b port with txClosed := true }) none (b.now + 1000000 * limitMs)) ∧
  (∀ (s : State) (port : Nat) (c : BgCmd), bgOf s [0x0124] (.port port) = some c → (portOf s port).queued = [] →
    (portOf s port).txEnd ≤ s.now →
      exec (.portDrainEnd port) s = .next (endBg (disablePort s port) c { status := .done } false)) ∧
  (∀ (s : State) (port : Nat) (c : BgCmd), bgOf s [0x0124] (.port port) = some c → c.deadline ≤ s.now →
    ((portOf s port).queued ≠ [] ∨ s.now < (portOf s port).txEnd) →
      exec (.portDrainEnd port) s = .next (endBg s c { status := .refusedBusy, results :=
        [.num 4 (portOf s port).queued.length,
          .num 4 ((portOf s port).queued.map (fun f => f.bytes.length)).sum] } false)) ∧
  (∀ (s b : State) (m : Meta) (port : Nat) (words : List Nat) (grpAll : Nat) (x : Block),
    Starts s b m 0x0125 [.port port] false → port < 8 → words.length = 64 → grpAll ≤ 1 → portBlock b port = some x →
      ∃ t, exec (.writeGroupFilter m port words grpAll) s
          = doneIn s m 0x0125 (setPort b port { portOf b port with grpHash := t, grpAll := grpAll = 1 }) [] ∧
        ∀ w, w < 64 → tgetD t w 0 = BitVec.ofNat 64 (words.getD w 0)) ∧
  (∀ (s b : State) (m : Meta) (port fields : Nat) (entries : List Nat) (x : Block),
    Starts s b m 0x0126 [.port port] false → port < 8 → fields < 2 ^ 32 → bits 15 10 fields = 0 → bits 31 20 fields = 0 →
    entries.length = 128 → entries.all (fun v => v < 4) = true → portBlock b port = some x →
      ∃ t, exec (.writeSelectTable m port fields entries) s = doneIn s m 0x0126 (setPort b port { portOf b port with
          sel := t, ipFields := bits 15 0 fields, nonIpFields := bits 31 16 fields }) [] ∧
        ∀ w, w < 4 → tgetD t w selReset = selWord entries w) ∧
  (∀ (s b : State) (m : Meta) (cage dir dev off len : Nat) (data : List Nat) (ack : Bool),
    Starts s b m 0x0127 [.cage cage] false → cage < 2 → dir ≤ 1 → dev < 128 → off < 256 → 1 ≤ len → len ≤ 128 →
      exec (.moduleTransfer m cage dir dev off len data ack) s =
        if (cageOf b cage).busDown then bgIn s m 0x0127 [.cage cage] b (some { status := .failedTimeout }) b.now
        else if ack then
          bgIn s m 0x0127 [.cage cage]
            (setCage (emit b (.sideband cage dir dev off len (if dir = 1 then data.take len else []))) cage
              { cageOf b cage with noAck := false })
            (some { status := .done, results := if dir = 0 then [.bytes (data.take len)] else [] }) b.now
        else
          bgIn s m 0x0127 [.cage cage]
            (cageEvent (emit b (.sideband cage dir dev off len (if dir = 1 then data.take len else []))) cage
              { cageOf b cage with noAck := true })
            (some { status := .failedTimeout }) b.now)

/-- Each storage command of Table 10.12 that is accepted, whose parameters are in range and whose own rules allow it, does
its effect: a created connection is ACTIVE on the pipeline that R16 selects, which the reply names, and has its steering entry
(R293, R314); a close ends at once by force or when nothing else may (R314), or drains, but is refused while the bucket of the
connection's steering entry is locked (R178); a read returns line 0 and the slot
table; the configuration and conn_max are stored (R312). -/
def Obligations.StorageCommandsComplete : Prop :=
  (∀ (s b : State) (m : Meta) (q : ConnParams), Starts s b m 0x0701 [.conn q.conn, .fid q.owner] true → badConn q = none →
    b.stg.configured = true → connOf b q.conn = none → connOver b q.owner = false → steerRefusal b q = none →
      exec (.createConnection m q) s = doneIn s m 0x0701
        (insertSteer (setConn b q.conn (newConn b m q (selectPipe (portOf s q.port) q.frameFields))) q.transport q.conn
          q.steer) [.num 1 (selectPipe (portOf s q.port) q.frameFields)]) ∧
  (∀ (s b : State) (m : Meta) (conn drainMs : Nat) (force : Bool) (c : Conn), Starts s b m 0x0702 [.conn conn] true →
    conn < 65536 → drainMs ≤ 10000 → connOf b conn = some c →
      exec (.closeConnection m conn drainMs force) s =
        if steerLocked b c then endsIn s m 0x0702 b { status := .refusedBusy }
        else if force || c.st ≠ .active then doneIn s m 0x0702 (closeConn b conn) [.num 4 c.inFlight]
        else bgIn s m 0x0702 [.conn conn] (setConn b conn { c with
          st := .closing, dirty := (c.dirty ++ [0]).eraseDups })
          none (b.now + 1000000 * drainMs)) ∧
  (∀ (s : State) (conn : Nat) (g : BgCmd) (c : Conn), bgOf s [0x0702] (.conn conn) = some g → connOf s conn = some c →
    (c.inFlight = 0 ∨ g.deadline ≤ s.now) →
      exec (.closeDrainEnd conn) s
        = .next (if steerLocked s c then endBg s g { status := .refusedBusy } false
          else endBg (closeConn s conn) g { status := .done, results := [.num 4 c.inFlight] } false)) ∧
  (∀ (s b : State) (m : Meta) (conn : Nat) (c : Conn), Starts s b m 0x0703 [.conn conn] false → conn < 65536 →
    connOf b conn = some c →
      exec (.readConnection m conn) s
        = doneIn s m 0x0703 b ((List.range 7).flatMap (fun l => (c.line l).map (fun v => .num 1 v)))) ∧
  (∀ (s b : State) (m : Meta) (c0 c1 c2 c3 tcp roce : Nat),
    Starts s b m 0x0704 [.channel c0, .channel c1, .channel c2, .channel c3, .table tcp, .table roce] true → c0 < 15 → c1 < 15 → c2 < 15 →
    c3 < 15 → tcp < 16 → roce < 16 → stgChannelOk b c0 = true → stgChannelOk b c1 = true → stgChannelOk b c2 = true →
    stgChannelOk b c3 = true → steerTableOk b tcp = true → steerTableOk b roce = true → b.stg.conns = [] →
      exec (.configureStorage m [c0, c1, c2, c3] tcp roce) s = doneIn s m 0x0704 { b with stg := { b.stg with
        configured := true, tcpTable := tcp, roceTable := roce
        channels := [(0, c0), (1, c1), (2, c2), (3, c3)] } } []) ∧
  (∀ (s b : State) (m : Meta) (fid connMax : Nat), Starts s b m 0x0705 [.fid fid] false → isFn fid = true →
    connMax ≤ 65536 → connsHeld b fid ≤ connMax →
      exec (.setStorageGrant m fid connMax) s = doneIn s m 0x0705
        { b with stg := { b.stg with connMax := tset b.stg.connMax fid connMax } } [])

/-- Each twin command of Table 13.8 that is accepted, whose parameters are in range and whose own rules allow it, does its
effect: the peer is pinned while the link is DOWN; an enabled link trains, a disabled one is DOWN (R376, R377); a role and its
epoch are taken under R380; a pair sends the full copy and goes on until the standby has applied it (R385); arm and disarm are
R392; an unpair ends mirroring (R381); a read returns the TWN_ registers. -/
def Obligations.TwinCommandsComplete : Prop :=
  (∀ (s b : State) (m : Meta) (unit : Nat), Starts s b m 0x0801 [] false → unit < 2 ^ 64 → b.twn.link = 0 →
      exec (.pinPeer m unit) s = doneIn s m 0x0801 { b with twn := { b.twn with peer := unit } } []) ∧
  (∀ (s b : State) (m : Meta) (policy : Nat), Starts s b m 0x0802 [] false → policy ≤ 3 → b.twn.peer ≠ 0 →
      exec (.setLink m 0 policy) s = doneIn s m 0x0802
        (isoCheck (twinDown { b with twn := { b.twn with enabled := false, policy := policy } }) 5) [] ∧
      (twinDown { b with twn := { b.twn with enabled := false, policy := policy } }).twn.link = 0) ∧
  (∀ (s b : State) (m : Meta) (policy : Nat), Starts s b m 0x0802 [] false → policy ≤ 3 → b.twn.peer ≠ 0 →
    b.twn.link = 0 → b.twn.enabled = true →
      exec (.setLink m 1 policy) s = doneIn s m 0x0802 { b with twn := { b.twn with
        enabled := true, policy := policy, link := 1, linkChanges := b.twn.linkChanges + 1 } } []) ∧
  (∀ (s b : State) (m : Meta) (policy : Nat), Starts s b m 0x0802 [] false → policy ≤ 3 → b.twn.peer ≠ 0 →
    b.twn.link = 0 → b.twn.enabled = false →
      exec (.setLink m 1 policy) s = doneIn s m 0x0802 { restoreTwin b with twn := { (restoreTwin b).twn with
        enabled := true, policy := policy, link := 1, linkChanges := (restoreTwin b).twn.linkChanges + 1 } } []) ∧
  (∀ (s b : State) (m : Meta) (policy : Nat), Starts s b m 0x0802 [] false → policy ≤ 3 → b.twn.peer ≠ 0 →
    b.twn.link ≠ 0 → b.twn.enabled = true →
      exec (.setLink m 1 policy) s
        = doneIn s m 0x0802 { b with twn := { b.twn with enabled := true, policy := policy } } []) ∧
  (∀ (s b : State) (m : Meta) (role epoch : Nat), Starts s b m 0x0803 [] false → role ≤ 2 → epoch < 2 ^ 64 →
    b.twn.role ≠ roleTaking → b.twn.epoch < epoch →
    (b.twn.role = roleFenced → role = roleStandby ∧ b.twn.peerEpoch ≤ epoch) →
      exec (.setRole m role epoch) s
        = doneIn s m 0x0803 { b with twn := { b.twn with role := role, epoch := epoch } } []) ∧
  (∀ (s b : State) (m : Meta), Starts s b m 0x0804 [] false → b.twn.role = rolePrimary → b.twn.link = 3 →
    b.twn.peerRole = roleStandby →
      ∃ t, t = fullCopy { b with twn := { b.twn with paired := true } } ∧
        exec (.pair m) s
          = bgIn s m 0x0804 [] { t with twn := { t.twn with pairing := some ((t.twn.nextSeq + (2 ^ 64 - 1)) % 2 ^ 64) } } none b.now) ∧
  (∀ (s b : State) (m : Meta) (epoch deadline : Nat) (flip : Bool), Starts s b m 0x0805 [] false → epoch < 2 ^ 64 →
    deadline < 2 ^ 64 → timeNow b < deadline → b.twn.role = roleStandby → b.twn.paired = true → b.twn.link = 3 →
    b.twn.inSync = true → b.twn.epoch < epoch → b.twn.peerEpoch < epoch →
    (flip = true → (flipTarget b).isSome = true) →
      exec (.armTakeover m epoch deadline flip) s = doneIn s m 0x0805 { b with twn := { b.twn with
        armed := true, armEpoch := epoch, armDeadline := deadline, armFlip := flip } } []) ∧
  (∀ (s b : State) (m : Meta), Starts s b m 0x0806 [] false → b.twn.armed = true →
      exec (.disarm m) s = doneIn s m 0x0806
        (logEvent { b with twn := { b.twn with armed := false } } 0x0078 0xFFF [.num 1 2]) []) ∧
  (∀ (s b : State) (m : Meta), Starts s b m 0x0807 [] false → b.twn.paired = true →
      exec (.unpair m) s
        = doneIn s m 0x0807 (isoCheck (freeLeases { b with twn := { b.twn with paired := false } }) 5) []) ∧
  (∀ (s b : State) (m : Meta), Starts s b m 0x0808 [] false →
      exec (.readTwin m) s = doneIn s m 0x0808 b ((twnRegs b).map (fun v => .num 8 v)))

/-- Each command and register write of the step-table banks, and each event of them, does its effect where its own rules allow
it: an image that LOAD_TABLE_SET reads, with a tag of the device's stream (R362), stands in its bank, which is verified (R517);
a flip makes the SEALED bank CURRENT (R63); a discard returns a LOADING or SEALED bank to IDLE (R62); a hook load fills the
other bank with a copy and the hook (R75); verification ends SEALED or LOADING with the status of the check (R59); the step
window latches and commits (R77). -/
def Obligations.BankRowsComplete : Prop :=
  (∀ (s b : State) (m : Meta) (bank addr len : Nat) (img : TableSet), Starts s b m 0x0110 [.bank bank] false → bank ≤ 1 →
    addr < 2 ^ 64 → 1 ≤ len → len < 2 ^ 32 → (bankOf b bank).st.writable = true → inWindows b 0xFFF addr len false = true →
    mayIssue b 0xFFF = true → imageOk img = true →
      exec (.loadTableSet m bank addr len img .ok) s
        = bgIn s m 0x0110 [.bank bank] (putImage (rowRead b 0xFFF addr len .ok) bank img .verifying) none b.now) ∧
  (∀ (s b : State) (m : Meta) (t : Nat) (d : TableDecl), Starts s b m 0x0111 [] false → flipTarget b = some t →
    (bankOf b t).decl = some d → portsMatch b d = true →
      exec (.flip m) s = doneIn s m 0x0111 (flipTo b t) []) ∧
  (∀ (s : State) (v t : Nat) (d : TableDecl), memReach s 0 = true → v % 2 = 1 → flipTarget s = some t →
    (bankOf s t).decl = some d → portsMatch s d = true →
      exec (.seqFlipGo v) s = .next (if mirroring s
        then twinSend (flipTo s t) 2 (packetBytes 0x0111 0 0 false []) none else flipTo s t)) ∧
  (∀ (s b : State) (m : Meta) (bank : Nat), Starts s b m 0x0112 [.bank bank] false → bank ≤ 1 →
    ((bankOf b bank).st = .loading ∨ (bankOf b bank).st = .sealed) →
      exec (.discardBank m bank) s = doneIn s m 0x0112 (Machine.discard b bank).2 [] ∧
      bankOf (Machine.discard b bank).2 bank = { failIndex := (bankOf b bank).failIndex }) ∧
  (∀ (s : State) (bank : Nat), memReach s 0 = true → bank ≤ 1 →
    ((bankOf s bank).st = .loading ∨ (bankOf s bank).st = .sealed) →
      exec (.discardRequest bank) s = .next (Machine.discard s bank).2 ∧
      bankOf (Machine.discard s bank).2 bank = { failIndex := (bankOf s bank).failIndex }) ∧
  (∀ (s : State) (bank : Nat), memReach s 0 = true → bank ≤ 1 → (bankOf s bank).st = .loading →
      exec (.sealRequest bank) s = .next (setBank s bank { bankOf s bank with st := .verifying })) ∧
  (∀ (s : State) (bank : Nat), bank ≤ 1 → (bankOf s bank).st = .verifying →
    sealChecks s (bankOf s bank) = none → (∀ g ∈ s.stw.bg, g.objs.contains (.bank bank) = false) →
      exec (.sealComplete bank) s = .next (sendBank (setBank s bank { bankOf s bank with
        st := .sealed, sealStatus := 0, bMax := sealedBMax (bankOf s bank) }) bank)) ∧
  (∀ (s : State) (bank i : Nat) (st : Status), bank ≤ 1 → (bankOf s bank).st = .verifying →
    sealChecks s (bankOf s bank) = some (st, i) → (∀ g ∈ s.stw.bg, g.objs.contains (.bank bank) = false) →
      exec (.sealComplete bank) s = .next (setBank s bank { bankOf s bank with
        st := .loading, sealStatus := st.code, failIndex := i })) ∧
  (∀ (s b : State) (m : Meta) (region fid addr len cur : Nat) (shares : Shares) (steps : List Nat),
    Starts s b m 0x0113 ([.fid fid] ++ (if s.seq.bankA.st = .current then [.bank 1] else [.bank 0])) false → region ≤ 63 →
    isFn fid = true → shares.steps ≤ 255 → shares.access ≤ 6 → shares.latency ≤ 430 → addr < 2 ^ 64 → 16 ≤ len →
    len ≤ 4096 → len % 16 = 0 → (fnOf b fid).hookRegion = region → currentBank b = some cur →
    sharesWithin shares (currentAllow b) = true → sharesWithin (fnOf b fid).shares (currentAllow b) = true →
    sharesWithin shares (fnOf b fid).shares = true → (bankOf b (1 - cur)).st = .idle →
    inWindows b 0xFFF addr len false = true → mayIssue b 0xFFF = true →
      exec (.loadHook m region fid shares false addr len steps .ok) s
        = bgIn s m 0x0113 ([.fid fid] ++ (if s.seq.bankA.st = .current then [.bank 1] else [.bank 0]))
            (putHook (rowRead b 0xFFF addr len .ok) cur region fid shares (steps.take (len / 16))) none b.now) ∧
  (∀ (s : State) (i v : Nat), memReach s 0 = true → i < 65536 → (bankOf s s.seq.winBank).st.writable = true →
    ∃ t, exec (.stepLoWrite i v) s = .next t ∧ t.seq.loLatched = some (i, v % 2 ^ 64) ∧
      bankOf t s.seq.winBank = { bankOf s s.seq.winBank with st := .loading }) ∧
  (∀ (s : State) (i v lo : Nat), memReach s 0 = true → i < 65536 → (bankOf s s.seq.winBank).st.writable = true →
    s.seq.loLatched = some (i, lo) →
    ∃ t, exec (.stepHiWrite i v) s = .next t ∧ t.seq.loLatched = none ∧
      tget (bankOf t s.seq.winBank).steps i = some (BitVec.ofNat 128 (lo + v % 2 ^ 64 * 2 ^ 64)) ∧
      tget (bankOf t s.seq.winBank).ecc i = none) ∧
  (∀ (s : State) (p off size : Nat), p < 4 → memReach s 0 = true → off ≤ 6 → 8 ≤ off + size → size ≤ 8 →
      exec (.residencyPeakRead p off size) s = .next (modPipe s p (fun x => { x with residencyPeak := 0 }))) ∧
  (∀ (s : State) (p off size : Nat), 6 < off ∨ off + size < 8 → exec (.residencyPeakRead p off size) s = .next s) ∧
  (∀ s : State, s.seq.lastScrub + 10000000 ≤ s.now →
    ∃ t, exec .stepScrub s = .next t ∧ t.seq.lastScrub = s.now ∧
      (∀ b i : Nat, tget (bankOf t b).ecc i ≠ some 1)) ∧
  (∀ (s : State) (p c b : Nat) (k : Pkt) (rest : List Pkt), p < 4 → domainRuns s (12 + p) = true →
    (pipeOf s p).admission = k :: rest → freeCtx (pipeOf s p) = some c → currentBank s = some b →
    pathStarting s p k.entry = false →
      exec (.dispatch p) s = .next (setPipe s p { pipeOf s p with
        admission := rest
        ctxs := tset (pipeOf s p).ctxs c (takeUp s (startPkt s k b (traceSample s (pipeOf s p) k.entry).1))
        traceCount := (traceSample s (pipeOf s p) k.entry).2 })) ∧
  (∀ (s : State) (p ord c : Nat) (k : Pkt) (cc : Cc), p < 4 → domainRuns s (12 + p) = true →
    (pipeOf s p).parked.find? (fun y => y.ord = ord) = some k → freeCtx (pipeOf s p) = some c → k.result = some cc →
    resumeTurn s p k = true →
      exec (.parkedResume p ord) s = .next (resumeIn (setPipe s p { pipeOf s p with
        parked := (pipeOf s p).parked.filter (fun y => y.ord ≠ ord) }) p c k cc))

/-- Each command of the identity, counter and Almanac families (classes 0x01, 0x0A, 0x0B) that is accepted, whose parameters
are in range and whose own rules allow it, does its effect (R409, R430, R433, R437, R443, R457, R465, R466, R369, R374). The end
of a life-cycle command turns on the signature that its authority gives; a refusal draws a new nonce at once, and a change that
goes on does so at its end (R456). A wake instant is stored by the TIME and the calendar of the cycle of acceptance (R466). -/
def Obligations.StewardCommandsComplete : Prop :=
  (∀ (s b : State) (m : Meta), Starts s b m 0x0101 [] false →
      exec (.readIdentity m) s = doneIn s m 0x0101 b [.num 8 0xB016401EA7, .num 8 b.alm.unit]) ∧
  (∀ (s b : State) (m : Meta) (fid : Nat), Starts (stampSnapshot s m) b m 0x0B01 [.fid fid] false →
    hasSet fid = true → (m.path = .mailbox → m.fid = 1 ∨ m.fid = fid) →
      exec (.snapshotCounters m fid) s = doneIn (stampSnapshot s m) m 0x0B01 b
        ((readSet b fid (if fid = 0xFFF then 256 else 248)).map (fun v => .num 8 v))) ∧
  (∀ (s b : State) (m : Meta) (n mask : Nat), Starts s b m 0x0B02 [] false → n < 2 ^ 24 → mask < 2 ^ 64 →
      exec (.setTraceSampling m n mask) s = doneIn s m 0x0B02
        (modPipes { b with cnt := { b.cnt with traceN := n, traceMask := mask } } (fun _ x => { x with traceCount := 0 })) []) ∧
  (∀ (s b : State) (m : Meta) (interval dest addr port channel templates : Nat), Starts s b m 0x0B03 [] false →
    10 ≤ interval → interval ≤ 3600000 → dest ≤ 2 → addr < 2 ^ 128 → port < 65536 → channel < 16 → templates < 16 →
    b.cnt.exporting = false → (dest = 2 → (chanOf b channel).owner = 0xFFF ∧ (chanOf b channel).mode = 1) →
      exec (.configureCrier m interval dest addr port channel templates) s = doneIn s m 0x0B03
        { b with cnt := { b.cnt with interval := interval, dest := dest, collector := addr, collectorPort := port
                                     channel := channel, templates := templates } } []) ∧
  (∀ (s b : State) (m : Meta), Starts s b m 0x0B04 [] false →
      exec (.startOrStopExport m 0) s = doneIn s m 0x0B04 { b with cnt := { b.cnt with exporting := false } } []) ∧
  (∀ (s b : State) (m : Meta), Starts s b m 0x0B04 [] false → b.cnt.dest ≠ 0 → b.cnt.exporting = false →
      exec (.startOrStopExport m 1) s = doneIn s m 0x0B04
        { b with cnt := { b.cnt with exporting := true, lastExport := some (timeNow b / (b.cnt.interval * 1000000))
                                     firstExport := true, tmplDue := true, lastValues := [] } } []) ∧
  (∀ (s b : State) (m : Meta), Starts s b m 0x0A01 [] false →
      exec (.readAlmanac m) s = doneIn s m 0x0A01 b
        [.num 8 0x20404019, .num 4 (almStatus b), .num 4 (b2n b.stw.restarting + b2n b.store.restarting * 2),
          .num 8 b.alm.calSec, .num 4 b.alm.calTicks, .num 4 b.alm.trim, .num 8 b.alm.wakeAt, .num 4 (almDomains b),
          .num 8 (almSense b), .num 8 (almAlarm b), .num 4 (almFault b), .num 8 b.store.nonce,
          .num 4 (b.store.histNext + b.store.histTotal * 2 ^ 16)]) ∧
  (∀ (s b : State) (m : Meta) (sec ns : Nat), Starts s b m 0x0A02 [] false → 1577836800 ≤ sec → sec < 2 ^ 64 →
    ns < 1000000000 →
      exec (.setCalendar m sec ns) s
        = doneIn s m 0x0A02 { b with alm := { b.alm with calSet := some (sec, ns * 32768 / 1000000000) } } []) ∧
  (∀ (s b : State) (m : Meta), Starts s b m 0x0A03 [] false →
      exec (.setWakeTimer m 0) s = doneIn s m 0x0A03 { b with alm := { b.alm with wakeAt := 0 } } []) ∧
  (∀ (s b : State) (m : Meta) (instant : Nat), Starts s b m 0x0A03 [] false → acceptedOf s m 0x0A03 = none →
    timeNow s < instant → instant < 2 ^ 64 →
      exec (.setWakeTimer m instant) s = doneIn s m 0x0A03
        { b with alm := { b.alm with wakeAt := (instant - timeNow s + calNs s) % 2 ^ 64 } } []) ∧
  (∀ (s b : State) (m : Meta) (instant : Nat) (a : Accepted), Starts s b m 0x0A03 [] false →
    acceptedOf s m 0x0A03 = some a → a.ns < instant → instant < 2 ^ 64 →
      exec (.setWakeTimer m instant) s = doneIn s m 0x0A03
        { b with alm := { b.alm with wakeAt := (instant - a.ns + a.cal) % 2 ^ 64 } } []) ∧
  (∀ (s b : State) (m : Meta), Starts s b m 0x0A04 [] false →
      exec (.readLifetimeCounters m) s
        = doneIn s m 0x0A04 b ((List.range 32).map (fun k => .num 8 (lifeWord b k)))) ∧
  (∀ (s b : State) (m : Meta) (target : Nat) (sig : List Nat) (owner : Bool), Starts s b m 0x0A05 [] false → target ≤ 4 →
    sig.length = 96 → lcAuthority b.alm.lcState target = some owner → lcQuiet b = true →
      if authoritySigOk owner b.fw.ownerKey (lcDigest b target) sig = true
      then (beginLcChange b target).stw.lcChange = true ∧ exec (.changeLifeCycleState m target sig) s
        = bgIn s m 0x0A05 [] (beginLcChange b target) none (b.now + 60000000000)
      else ∃ t, endsIn s m 0x0A05 b { status := .failedAuth } = .next t ∧
        exec (.changeLifeCycleState m target sig) s = .next (freshNonce t)) ∧
  (∀ (s b : State) (m : Meta) (domain limitUs : Nat), Starts s b m 0x0A06 [.domain domain] false →
    domain ∈ [11, 12, 13, 14, 15, 18, 19, 20, 23] → 10 ≤ limitUs → limitUs ≤ 1000000 →
      exec (.setIdleLimit m domain limitUs) s
        = doneIn s m 0x0A06 (setDom b domain { domOf b domain with limitUs := limitUs }) []) ∧
  (∀ (s b : State) (m : Meta), Starts s b m 0x0A07 [] false →
      exec (.wake m) s = doneIn s m 0x0A07 (wakeNow b 4) []) ∧
  (∀ (s b : State) (m : Meta) (domain limitMs : Nat), Starts s b m 0x0A10 [.domain domain] false →
    domain ∈ [12, 13, 14, 15, 18, 23] →
      (domBusy b domain = 0 → exec (.powerDown m domain 0 limitMs) s = doneIn s m 0x0A10 (holdDom b domain) []) ∧
      (1 ≤ limitMs → limitMs ≤ 1000 → exec (.powerDown m domain 1 limitMs) s
        = bgIn s m 0x0A10 [.domain domain] (setDom b domain
            { domOf b domain with draining := some (b.now + 1000000 * limitMs), drainSeen := domBusy b domain })
            none (b.now + 1000000 * limitMs)) ∧
      exec (.powerDown m domain 2 limitMs) s = doneIn s m 0x0A10 (holdDom (forceDom b domain) domain) []) ∧
  (∀ (s b : State) (m : Meta) (domain : Nat), Starts s b m 0x0A11 [.domain domain] false →
    domain ∈ [12, 13, 14, 15, 18, 23] → (domOf b domain).held = true →
      ((domOf b domain).running = false → exec (.powerUp m domain) s = foreIn s m 0x0A11 [.domain domain]
        (askStart (setDom b domain { domOf b domain with held := false }) domain)) ∧
      ((domOf b domain).running = true →
        exec (.powerUp m domain) s = doneIn s m 0x0A11 (setDom b domain { domOf b domain with held := false }) []))

/-- The registers and events of the counters and the Crier do their effect: a snapshot copies a set into its slot (R430), and
at each boundary of TIME that a nanosecond brings the Crier, while exporting, takes the counters of its sets, which the export
of that boundary sends (R436, R437). -/
def Obligations.CounterRowsComplete : Prop :=
  (∀ (s : State) (v : Nat), memReach s 0 = true → s.cnt.snapGo = false → bits 7 0 v ≤ 239 → hasSet (bits 19 8 v) = true →
      exec (.cntSnapWrite v) s = .next (if bitOf 31 v = true
        then { s with cnt := { s.cnt with
          snapSlot := bits 7 0 v, snapFid := bits 19 8 v, snapGo := true, snapWords := readSet s (bits 19 8 v) 256
          snapTime := timeNow s
          slots := tput {} s.cnt.slots (bits 7 0 v) { tgetD s.cnt.slots (bits 7 0 v) {} with done := false } } }
        else { s with cnt := { s.cnt with snapSlot := bits 7 0 v, snapFid := bits 19 8 v } })) ∧
  (∀ (s : State) (x : Slot), s.cnt.snapGo = true → tgetD s.cnt.slots s.cnt.snapSlot {} = x →
      exec .snapshotCopyComplete s = .next { s with cnt := { s.cnt with
        snapGo := false, snapWords := []
        slots := (tset s.cnt.slots s.cnt.snapSlot { fid := s.cnt.snapFid, done := true, gen := (x.gen + 1) % 65536
                                                    time := s.cnt.snapTime, words := s.cnt.snapWords }) } }) ∧
  (∀ (s : State) (recs : List IpfixRec) (t : List (List IpfixRec)), s.cnt.dueExports = recs :: t →
      exec .crierExport s = .next (runExport { s with cnt := { s.cnt with dueExports := t } } recs)) ∧
  (∀ (old s : State) (l k : Nat), s.cnt.exporting = true → s.mac.timeRunning = true → s.cnt.lastExport = some l →
    k = timeNow s / (s.cnt.interval * 1000000) → l < k → timeNow old / (s.cnt.interval * 1000000) < k →
    s.cnt.interval = old.cnt.interval →
      (noteExport old s).cnt.lastExport = some k ∧ (noteExport old s).cnt.dueExports = s.cnt.dueExports ++
        [(exportSets s).flatMap (fun e => setRecs s e.1 e.2)])

/-- Each firmware command (Table 17.13) that is accepted, whose parameters are in range and whose own rules allow it, does its
effect. What an image or a manifest must pass turns on keys and signatures that are no part of the state, so the statement
gives the end for each outcome of those checks (R477, R479, R483, R485, R486, R488). -/
def Obligations.FirmwareCommandsComplete : Prop :=
  (∀ (s b : State) (m : Meta) (comp source addr len : Nat) (img : List Nat) (rd : ReadResult),
    Starts s b m 0x0901 [.component comp] false → 1 ≤ comp → comp ≤ 6 → source ≤ 1 → addr < 2 ^ 64 → 1 ≤ len → len < 2 ^ 32 →
    stageWaits s m 0x0901 source none = false → stagingBusy b = false → stewardHalted b source = false →
      exec (.stageComponentImage m comp source addr len img rd) s =
        match fetchImage b comp 2 source addr len img rd with
        | (.error k, t) => endsIn s m 0x0901 (refuseImage t comp k) { status := checkStatus k }
        | (.ok (i, _), t) =>
          bgIn s m 0x0901 [.component comp] (logEvent (putStaged t comp i) 0x0200 0xFFF [.num 2 comp, .num 4 i.version])
            (some { status := .done }) (logEvent (putStaged t comp i) 0x0200 0xFFF [.num 2 comp, .num 4 i.version]).now) ∧
  (∀ (s b : State) (m : Meta) (comp source addr len : Nat) (img : List Nat) (rd : ReadResult),
    Starts s b m 0x0901 [.component comp] false → 1 ≤ comp → comp ≤ 6 → source ≤ 1 → addr < 2 ^ 64 → 1 ≤ len → len < 2 ^ 32 →
    stageWaits s m 0x0901 source none = false → stagingBusy b = true →
      exec (.stageComponentImage m comp source addr len img rd) s = endsIn s m 0x0901 b { status := .refusedBusy }) ∧
  (∀ (s b c : State) (m : Meta) (addr : Nat) (man : List Nat), Starts s b m 0x0902 [.staging] false →
    c = rowRead b 0xFFF addr 608 .ok → addr < 2 ^ 64 →
    inWindows b 0xFFF addr 608 false = true → mayIssue b 0xFFF = true → manifestOk (man.take 608) = true →
      exec (.stageManifest m addr 608 man .ok) s =
        if keyOk c ((man.take 608).getD 6 0) = true ∧ vendorSigOk ((man.take 608).getD 6 0)
            (sha384 ((man.take 608).take 512)) (slice (man.take 608) 512 96) = true
        then doneIn s m 0x0902 (logEvent { c with fw := { c.fw with manifest := (some
            { setVersion := imgField (man.take 608) 8 4, entries := manEntries (man.take 608)
              digest := sha384 (man.take 608) }) } } 0x0202 0xFFF [.num 4 (imgField (man.take 608) 8 4)]) []
        else endsIn s m 0x0902 c { status := .failedAuth }) ∧
  (∀ (s : State) (comp off : Nat) (bytes : List Nat), s.stw.ready = true → s.fw.sessions.contains .svc = true →
    (macLane s 10).fault = 0 → stagingBusy s = false → 1 ≤ comp → comp ≤ 6 → 1 ≤ bytes.length →
    bytes.length ≤ 1024 → off + bytes.length ≤ plainLimit comp + 256 →
      exec (.putImage .svc comp off bytes) s = .next (emit (putSlot s comp off bytes) (.spdm .svc [0]))) ∧
  (∀ (s b : State) (m : Meta) (comp : Nat) (i : Image), Starts s b m 0x0905 [.component comp] false → 1 ≤ comp → comp ≤ 9 →
    tget b.fw.staged comp = some i → i.binding ≠ 1 →
      exec (.rewrapToUnit m comp) s =
        match kwUnwrap Sys2Proof.Config.hardwareKey (slice i.bytes 48 40) with
        | none => endsIn s m 0x0905 b { status := .failedAuth }
        | some cek => doneIn s m 0x0905
          { b with fw := { b.fw with staged := tset b.fw.staged comp (rewrapped b i cek) } } []) ∧
  (∀ (s b : State) (m : Meta), Starts s b m 0x0904 [] false →
      exec (.readVersions m) s
        = doneIn s m 0x0904 b ((List.range 9).map (fun i => .num 8 (fwVer b (i + 1))))) ∧
  (∀ (s b : State) (m : Meta), Starts s b m 0x0906 [] false →
      exec (.readChainStatus m) s = doneIn s m 0x0906 b [.num 8 (chainWord b)]) ∧
  (∀ (s b t : State) (m : Meta) (x : Manifest) (fresh : List (Nat × Image)), Starts s b m 0x0903 actObjs false →
    b.fw.manifest = some x → freshImages b x = some fresh →
    (∀ e ∈ fresh, ∃ i, checkImage b e.1 2 e.2.bytes.length e.2.bytes = .ok i) →
    shadowBank (logEvent b 0x0203 0xFFF [.num 4 x.setVersion]) (freshLibrary b 2 fresh) = (true, t) →
      exec (.activate m) s = bgIn s m 0x0903 actObjs
        (loseWorking { t with
          stw := { t.stw with ready := false }
          fw := { t.fw with activation := 4, actComp := 0, actStart := t.now, actDeadline := t.now + 200000000
                            actFresh := fresh.map (·.1) } }) none (t.now + 200000000)) ∧
  (∀ (s : State) (g : BgCmd) (t : Nat) (d : TableDecl), actCmd s = some g → s.fw.activation = 4 →
    s.now ≤ s.fw.actDeadline → flipTarget (trialReady s) = some t → (bankOf (trialReady s) t).decl = some d →
    portsMatch (trialReady s) d = true →
      exec (.activationStewardReady true) s = .next (resumeResets (endActivation (flipTo (trialReady s) t) g))) ∧
  (∀ (s : State) (g : BgCmd) (ready : Bool), actCmd s = some g → s.fw.activation = 4 →
    (ready = false ∨ s.fw.actDeadline < s.now) →
      exec (.activationStewardReady ready) s = .next (resumeResets (rollBack (trialReady s) g 4))) ∧
  (∀ (s b : State) (m : Meta) (comp source addr len : Nat) (img : List Nat) (rd : ReadResult),
    Starts s b m 0x0910 actObjs false → comp ∈ [1, 2, 3, 5] → source ≤ 1 → addr < 2 ^ 64 → 1 ≤ len → len < 2 ^ 32 →
    mayActivate b = true → stageWaits s m 0x0910 source none = false → stewardHalted b source = false →
      exec (.compatibilityUpdate m comp source addr len img rd) s =
        match fetchImage b comp 1 source addr len img rd with
        | (.error k, t) => endsIn s m 0x0910 (refuseImage t comp k)
            { status := if k = 3 then .refusedState else checkStatus k }
        | (.ok (i, _), t) =>
          if setCompatible t comp i = true then
            match beginActivation (logEvent (putStaged t comp i) 0x0200 0xFFF [.num 2 comp, .num 4 i.version]) comp 1 comp
                [(comp, i)] with
            | o => if o.bg = true then bgIn s m 0x0910 actObjs o.s none o.deadline else endsIn s m 0x0910 o.s o.fin
          else endsIn s m 0x0910 b { status := .refusedState }) ∧
  (∀ (s b t : State) (path : Path) (fid : Nat) (bytes : List Nat) (a : Accepted), bytes.getD 11 0 = 1 →
    b = compatArrives s path bytes → compatHead b path fid bytes = true → b.stw.accepted = [] →
    exec (.acceptPacket path fid bytes .ok) b = .next t → t.stw.accepted = [a] → a.compat.isSome = true →
      exec (.compatibilityPacket path fid bytes) s = .next (runNative a t))

/-- Each CTL, HASH, CNT and POLICE step that issues with clean operands does its effect: JUMP, END, DROP, HOOK, RETURN and MARK
(R45, R71, R79), the hashes of R82, the counters of R428 and R429, and the meter of R237. -/
def Obligations.ControlStepsComplete : Prop :=
  (∀ (s : State) (p c : Nat) (x : StepIn), Issues s p c 0 0 x → exec (.ctlJump p c) s = .next (done s x .done)) ∧
  (∀ (s : State) (p c : Nat) (x : StepIn), Issues s p c 0 1 x →
      exec (.ctlEnd p c) s = .next (endPacket s p c (x.k.traceStep x.idx .done) 0 0 .done)) ∧
  (∀ (s : State) (p c : Nat) (x : StepIn), Issues s p c 0 2 x →
      exec (.ctlDrop p c) s = .next (endPacket (dropCount s ((x.hook.map (·.fid)).getD x.k.fid) (bits 7 0 x.imm)) p c
        (x.k.traceStep x.idx .done) 1 (bits 7 0 x.imm) (dropOutcome x.k))) ∧
  (∀ (s : State) (p c : Nat) (x : StepIn), Issues s p c 0 3 x → Clean x (x.k.word 26).p →
      exec (.ctlHook p c) s = .next (match regionFor (bankOf s x.k.bank) x.k.fid with
        | some r => issued (setCtx s p c { x.k with pc := 49152 + 256 * r, hookRet := some x.idx }) p c
        | none => done s x .miss)) ∧
  (∀ (s : State) (p c h : Nat) (x : StepIn), Issues s p c 0 4 x → x.k.hookRet = some h →
      exec (.ctlReturn p c) s = .next (advance s { x with idx := h, w := (bankOf s x.k.bank).step h }
        { x.k.traceStep x.idx .done with hookRet := none } (Cc.ofNum (bits 3 0 x.imm)))) ∧
  (∀ (s : State) (p c : Nat) (x : StepIn), Issues s p c 0 5 x →
      exec (.ctlMark p c) s = .next (advance s x
        { x.k with trace := x.k.trace.map (fun t => t.add (bits 15 0 x.imm + 2 ^ 31)) } .done)) ∧
  (∀ (s : State) (p c : Nat) (x : StepIn) (bs : List Nat) (m : Bool), Issues s p c 3 0 x →
    bs = (keyWords x.k x.w.srcA).take (bits 5 0 x.imm) → m = wordsPoisoned x.k x.w.srcA ((bits 5 0 x.imm + 7) / 8) →
    Clean x m →
      exec (.hashCrc32c p c) s = .next (doneW s x .done (crc32c (bits 37 6 x.imm) bs) m)) ∧
  (∀ (s : State) (p c : Nat) (x : StepIn) (bs : List Nat) (m : Bool), Issues s p c 3 1 x →
    bs = (keyWords x.k x.w.srcA).take (bits 5 0 x.imm) → m = wordsPoisoned x.k x.w.srcA ((bits 5 0 x.imm + 7) / 8) →
    Clean x m →
      exec (.hashCrc32 p c) s = .next (doneW s x .done (crc32 (bits 37 6 x.imm) bs) m)) ∧
  (∀ (s : State) (p c : Nat) (x : StepIn) (bs : List Nat) (m : Bool), Issues s p c 3 2 x →
    bs = (keyWords x.k x.w.srcA).take (bits 5 0 x.imm) →
    m = (wordsPoisoned x.k x.w.srcA ((bits 5 0 x.imm + 7) / 8) || wordsPoisoned x.k x.w.srcB 5) → Clean x m →
      exec (.hashToeplitz p c) s = .next (doneW s x .done
        (toeplitz ([0, 1, 2, 3, 4].flatMap (fun i => leBytes 8 (x.k.val (x.w.srcB + i)))) bs) m)) ∧
  (∀ (s : State) (p c : Nat) (x : StepIn), Issues s p c 14 0 x → Clean x x.a.p →
      exec (.cntInc p c) s = .next (done (cntAdd s ((x.hook.map (·.fid)).getD (bits 11 0 x.av)) (bits 7 0 x.imm) 1) x .done)) ∧
  (∀ (s : State) (p c : Nat) (x : StepIn), Issues s p c 14 1 x → Clean x (x.a.p || x.b.p) →
      exec (.cntAdd p c) s
        = .next (done (cntAdd s ((x.hook.map (·.fid)).getD (bits 11 0 x.av)) (bits 7 0 x.imm) x.bv) x .done)) ∧
  (∀ (s : State) (p c : Nat) (x : StepIn) (z : Policer), Issues s p c 7 0 x → isFrozen s (bits 43 32 x.av) = false →
    Clean x (x.a.p || x.b.p) → tget s.sw.policers (bits 13 0 x.av) = some z → z.fid = bits 43 32 x.av →
    hookMismatch x (bits 43 32 x.av) = false →
      exec (.policeMeter p c) s = .next (
        if bits 16 0 x.bv ≤ (z.refresh (timeNow s)).tokens then
          done (setPolicer s (bits 13 0 x.av) { z.refresh (timeNow s) with
            tokens := (z.refresh (timeNow s)).tokens - bits 16 0 x.bv }) x .done
        else done (setPolicer s (bits 13 0 x.av) (z.refresh (timeNow s))) x .refusedLimit))

/-- Each ALU step that issues with clean operands does its effect (R80, Table 2.21), the moves of header bytes and the strip and
prepend of R229 among them. -/
def Obligations.AluStepsComplete : Prop :=
  (∀ (s : State) (p c : Nat) (x : StepIn), Issues s p c 1 0 x → Clean x x.a.p →
      exec (.aluMove p c) s = .next (doneW s x .done (if x.w.srcA = 0xFF then x.imm else x.av) x.a.p)) ∧
  (∀ (s : State) (p c : Nat) (x : StepIn) (m : Bool), m = (x.a.p || x.bOrImm.p) → Clean x m →
      (Issues s p c 1 1 x → exec (.aluAdd p c) s = .next (doneW s x .done ((x.av + x.bOrImm.v.toNat) % 2 ^ 64) m)) ∧
      (Issues s p c 1 2 x →
        exec (.aluSub p c) s = .next (doneW s x .done ((x.av + (2 ^ 64 - x.bOrImm.v.toNat)) % 2 ^ 64) m)) ∧
      (Issues s p c 1 3 x → exec (.aluAnd p c) s = .next (doneW s x .done (x.av &&& x.bOrImm.v.toNat) m)) ∧
      (Issues s p c 1 4 x → exec (.aluOr p c) s = .next (doneW s x .done (x.av ||| x.bOrImm.v.toNat) m)) ∧
      (Issues s p c 1 5 x → exec (.aluXor p c) s = .next (doneW s x .done (x.av ^^^ x.bOrImm.v.toNat) m)) ∧
      (Issues s p c 1 7 x →
        exec (.aluCmpEq p c) s = .next (done s x (if x.av = x.bOrImm.v.toNat then .done else .miss))) ∧
      (Issues s p c 1 8 x →
        exec (.aluCmpLt p c) s = .next (done s x (if x.av < x.bOrImm.v.toNat then .done else .miss)))) ∧
  (∀ (s : State) (p c : Nat) (x : StepIn), Issues s p c 1 6 x → Clean x x.a.p →
      exec (.aluShift p c) s = .next (doneW s x .done
        (if bitOf 6 x.imm = true then x.av / 2 ^ bits 5 0 x.imm else x.av * 2 ^ bits 5 0 x.imm % 2 ^ 64) x.a.p)) ∧
  (∀ (s : State) (p c : Nat) (x : StepIn) (bs : List PByte), Issues s p c 1 0x10 x →
    bits 8 0 x.imm + (bits 11 9 x.imm + 1) ≤ x.k.len →
    bits 8 0 x.imm + (bits 11 9 x.imm + 1) ≤ 512 →
    bs = slice (window s x.k) (bits 8 0 x.imm) (bits 11 9 x.imm + 1) → Clean x (anyPoison bs) →
      exec (.loadHdr p c) s = .next (doneW s x .done
        (if bitOf 12 x.imm = true then leNat (rawBytes bs) else beNat (rawBytes bs)) (anyPoison bs))) ∧
  (∀ (s : State) (p c : Nat) (x : StepIn), Issues s p c 1 0x11 x →
    bits 8 0 x.imm + (bits 11 9 x.imm + 1) ≤ x.k.len →
    bits 8 0 x.imm + (bits 11 9 x.imm + 1) ≤ 512 → Clean x x.a.p →
    Clean x (anyPoison (slice (window s x.k) (bits 8 0 x.imm) (bits 11 9 x.imm + 1))) →
      exec (.storeHdr p c) s = .next (done (writeChain s x.k.handle (bits 8 0 x.imm)
        ((if bitOf 12 x.imm = true then leBytes (bits 11 9 x.imm + 1) x.av else beBytes (bits 11 9 x.imm + 1) x.av).map
          (fun b => ⟨BitVec.ofNat 8 b, x.a.p⟩))) x .done)) ∧
  (∀ (s : State) (p c n : Nat) (x : StepIn), Issues s p c 1 0x12 x → n = bits 8 0 x.imm → 1 ≤ n → n ≤ 384 →
    n + 14 ≤ x.k.len →
      exec (.strip p c) s = .next (advance (setChain s x.k.handle ((chainBytes s x.k.handle).drop n)) x
        { x.k.setLen (x.k.len - n) with fix := none } .done)) ∧
  (∀ (s : State) (p c n : Nat) (x : StepIn), Issues s p c 1 0x13 x → n = bits 8 0 x.imm → 1 ≤ n → n ≤ 384 →
    x.k.len + n ≤ 65535 →
      exec (.prepend p c) s
        = .next (advance (setChain s x.k.handle (List.replicate n PByte.zero ++ pktBytes s x.k)) x
          { x.k.setLen (x.k.len + n) with fix := some ⟨bits 17 9 x.imm, bits 26 18 x.imm⟩ } .done)) ∧
  (∀ (s : State) (p c : Nat) (x : StepIn), Issues s p c 1 0x14 x →
      exec (.readTime p c) s = .next (doneW s x .done (if bitOf 0 x.imm = true then timeFrac s else timeNow s) false))

/-- Each PARSE step that issues with a clean result word and clean header bytes ends with the code and the result word that its
parser reads from the packet (R81). -/
def Obligations.ParseStepsComplete : Prop :=
  ∀ (s : State) (p c lim : Nat) (x : StepIn) (d : List Nat), d = rawBytes (pktBytes s x.k) →
    lim = min (pktBytes s x.k).length 512 →
      let clean := fun r : PRes => x.a.p = false ∧ anyPoison (slice (pktBytes s x.k) r.lo (min r.hi lim - r.lo)) = false
      (∀ r, Issues s p c 2 0 x → r = parseEth d (bits 8 0 x.imm) lim → clean r →
        exec (.parseL2 p c) s = .next (doneW s x r.cc r.w false)) ∧
      (∀ r, Issues s p c 2 1 x → r = parseIp d (bits 8 0 x.imm) lim → clean r →
        exec (.parseL3 p c) s = .next (doneW s x r.cc r.w false)) ∧
      (∀ r, Issues s p c 2 2 x → r = parsePorts d x.av lim → clean r →
        exec (.parseL4 p c) s = .next (doneW s x r.cc r.w false)) ∧
      (∀ r, Issues s p c 2 3 x → r = parseTun d (bits 8 0 x.imm) lim (bits 11 9 x.imm) → clean r →
        exec (.parseTunnel p c) s = .next (doneW s x r.cc r.w false)) ∧
      (∀ r, Issues s p c 2 4 x → r = parsePdu d (bits 8 0 x.imm) lim → clean r →
        exec (.parseStoragePdu p c) s = .next (doneW s x r.cc r.w false))

/-- Each step of LKP_HOT, LKP_RLD and FWT_UPD that issues with clean operands, for a function outside the stocks with a grant
on the table, does its effect: a lookup answers the first match with its words, or MISS with zeros (R160 to R163); LEARN and
WRITE_FLOW write the entry, or append it to the pending writes of a locked bucket (R164 to R167); REFRESH writes the tick
(R168); what a step writes, or refreshes on a hit, joins the bucket cycle and is applied as the cycle ends, of two writes of
one rank first that of the lower engine number, then of the lower port (R169). A lock at its limit is cleared and its holder
goes into the stocks (R180). -/
def Obligations.TableStepsComplete : Prop :=
  (∀ (s : State) (p c u : Nat) (x : StepIn) (tb : FTable) (i : Instr),
    ((i = .lkpHotLookup p c ∧ u = 4 ∧ tb.hot = true) ∨ (i = .lkpRldLookup p c ∧ u = 5 ∧ tb.hot = false)) →
    Issues s p c u 0 x → isFrozen s (tblFid x) = false → x.b.p = false → keyPoisoned s x (tblNo x) = false →
    tget s.fwt.tables (tblNo x) = some tb → tb.ready = true →
    (tblFid x = 0xFFF ∨ (grantOf s (tblFid x) (tblNo x) p).isSome = true) → hookMismatch x (tblFid x) = false →
    bucketMarked (fpOf s p) (tblNo x) (bucketOfHash tb (bits 31 0 x.bv)) = false →
    ∀ a : State, a = (if tb.hot then s else touchRld s p) →
      exec i s = .next (match findHit (fpOf s p) (tblNo x) (bucketOfHash tb (bits 31 0 x.bv))
          (normKey tb (keyWords x.k x.w.srcA)) (tblFid x) with
        | none => advance a x (putWords x x.k [0, 0, 0, 0] false) .miss
        | some h =>
          let t := advance a x (putWords x x.k (h.words (h.e.expired tb s.fwt.tick)) h.e.resMark)
            (if h.ovf then .alt else .done)
          if u = 5 ∧ bitOf 4 x.imm = true
          then hitRefresh t x (tblNo x) (bucketOfHash tb (bits 31 0 x.bv)) h.e else t)) ∧
  (∀ (s : State) (p c kind op : Nat) (x : StepIn) (tb : FTable) (g : FGrant) (result : List Nat) (i : Instr) (w : PendWrite),
    ((i = .fwtLearn p c ∧ kind = 1 ∧ op = 0 ∧ result = leBytes 4 (bits 39 8 x.imm) ++ List.replicate 20 0) ∨
      (i = .fwtWriteFlow p c ∧ kind = 2 ∧ op = 2 ∧ wordsPoisoned x.k x.w.dst 3 = false ∧
        result = [0, 1, 2].flatMap (fun j => leBytes 8 (x.k.val (x.w.dst + j))))) →
    Issues s p c 6 op x → isFrozen s (tblFid x) = false → x.b.p = false → keyPoisoned s x (tblNo x) = false →
    tget s.fwt.tables (tblNo x) = some tb → tb.ready = true → tb.hot = false → tb.kind = kind →
    grantOf s (tblFid x) (tblNo x) p = some g →
    ownedIn (fpOf s p) (tblNo x) (tblFid x) + pendIn (fpOf s p) (tblNo x) (tblFid x) < g.maxEntries →
    ovfAvail s p (tblNo x) (tblFid x) = true → (fpOf s p).pend.length < 64 →
    w = { table := tblNo x, bucket := bucketOf tb (normKey tb (keyWords x.k x.w.srcA)), owner := tblFid x
          key := normKey tb (keyWords x.k x.w.srcA), result := result } →
      exec i s = .next (
        if isLocked (fpOf s p) (tblNo x) w.bucket = true
        then done (count (setFp s p { fpOf s p with pend := (fpOf s p).pend ++ [w] }) (tblFid x) cLearnDeferred) x .deferred
        else done (addCycle (touchRld s p) p (.learn x.writeOrd w)) x .done)) ∧
  (∀ (s : State) (p c : Nat) (x : StepIn) (tb : FTable), Issues s p c 6 1 x → isFrozen s (tblFid x) = false →
    x.b.p = false → keyPoisoned s x (tblNo x) = false → tget s.fwt.tables (tblNo x) = some tb → tb.ready = true →
    tb.hot = false → (grantOf s (tblFid x) (tblNo x) p).isSome = true →
    isLocked (fpOf s p) (tblNo x) (bucketOf tb (normKey tb (keyWords x.k x.w.srcA))) = false →
      exec (.fwtRefresh p c) s = .next (done (addCycle (touchRld s p) p (.refresh x.writeOrd (tblNo x)
        (bucketOf tb (normKey tb (keyWords x.k x.w.srcA))) (tblFid x) (normKey tb (keyWords x.k x.w.srcA)))) x .done)) ∧
  (∀ (s : State) (p n : Nat) (y : PendWrite), p < 4 → (fpOf s p).cycle = [] → endCycle (addCycle s p (.learn n y)) p =
      setFp s p (applyLearn (fpOf s p) y s.fwt.tick)) ∧
  (∀ (s : State) (p t b o n : Nat) (key : List Nat), p < 4 → (fpOf s p).cycle = [] →
      endCycle (addCycle s p (.refresh n t b o key)) p = applyRefresh s p t b o key) ∧
  (∀ (s : State) (p m n : Nat) (y z : PendWrite), p < 4 → (fpOf s p).cycle = [.learn m y, .learn n z] → n < m →
      endCycle s p = endCycle (setFp s p { fpOf s p with cycle := [.learn n z, .learn m y] }) p) ∧
  (∀ (s : State) (p t b : Nat) (l : Lock), p < 4 → tget (fpOf s p).locks (bktKey t b) = some l → lockOver s l = true →
      exec (.lockExpiry p t b) s = .next (lockOverstay s p t b l))

/-- Each step and event of the Granary does its effect: an ALLOC is granted, scrubbed, refused or waits (R138 to R145, R148);
a FREE returns its buffers (R146); waiting requests are tried again, expire, or end when their scrub is posted (R141, R148);
the background scrubber zeroes the next dirty buffer (R149); a query ends with the handle's fields (R152). -/
def Obligations.GranaryStepsComplete : Prop :=
  (∀ (s t : State) (p c : Nat) (x : StepIn) (used : List Nat) (g : Grant), Issues s p c 8 0 x →
    isFrozen s (bits 11 0 x.bv) = false → x.a.p = false → x.b.p = false → bits 16 0 x.av ≠ 0 →
    bits 3 0 x.imm ≠ 0 → bits 3 0 x.imm ≠ 2 → hookMismatch x (bits 11 0 x.bv) = false →
    refusedEarly s (bits 11 0 x.bv) (bits 3 0 x.imm) (bits 16 0 x.av) = none →
    retryWaiting s s.grn.waiting = (t, used) →
    attempt t (bits 11 0 x.bv) (bits 3 0 x.imm) (bits 16 0 x.av) (fun q => used.count q) = .ok g → g.scrub = false →
      exec (.grnAlloc p c) s = .next (doneW
        (countGrn g.s (bits 11 0 x.bv) (if g.fallback then .doneFallback else .done)) x
        (if g.fallback then Status.doneFallback else Status.done).cc
        (allocWord g.handle false false g.fallback g.list.isSome g.bufs.length) false)) ∧
  (∀ (s t : State) (p c h a : Nat) (x : StepIn), Issues s p c 8 1 x → isFrozen s (bits 11 0 x.bv) = false →
    Clean x (x.a.p || x.b.p) → hookMismatch x (bits 11 0 x.bv) = false → h = bits 39 0 x.av → freeHandle s h (bits 11 0 x.bv) (bitOf 0 x.imm) = (none, a, t) →
      exec (.grnFree p c) s
        = .next (advance t x { x.k with chains := x.k.chains.filter (fun g => g ≠ h) } .done)) ∧
  (∀ (s : State) (id : Nat), (waitOf s id).isSome = true →
      exec (.grnWaitRetry id) s = .next (retryWaiting s (s.grn.waiting.filter (fun r => r.id ≤ id))).1) ∧
  (∀ (s : State) (id : Nat) (r : WaitReq), waitOf s id = some r → r.scrub = none → r.deadline ≤ s.now →
      exec (.grnWaitExpiry id) s
        = .next (endRequest s r (if r.allLimit then .refusedLimit else .refusedEmpty) 0)) ∧
  (∀ (s : State) (id : Nat) (r : WaitReq) (j : ScrubJob), waitOf s id = some r → r.scrub = some j →
    scrubPosts s r.owner j = true →
      exec (.inlineScrubComplete id) s = .next (endRequest (scrubWrites s r.owner j.bufs) r .deferred
        (allocWord (j.list.getD ((j.bufs.map (·.1)).headD 0)) r.waited true j.fallback j.list.isSome j.bufs.length))) ∧
  (∀ (s : State) (h : Nat), s.grn.scrubRate ≠ 0 → domainRuns s 17 = true → nextDirty s s.grn.scrubAt = some h →
    ∀ x n u, x = poolOf s (hPool h) → n = 2 ^ x.sizeLog2 →
      u = countN (emit s (.hostWrite x.spaceFid (x.base + hIdx h * n) (List.replicate n PByte.zero))) 0xFFF cGrnScrubBytes n →
      exec .backgroundScrub s = .next { setBuf u h { ledger u h with st := 0, owner := 0xFFE } with
        grn := { (setBuf u h { ledger u h with st := 0, owner := 0xFFE }).grn with scrubAt := h + 1 } }) ∧
  (∀ (s : State) (v : Nat), memReach s 0 = true →
      exec (.grnQueryWrite v) s = .next { s with grn := { s.grn with query := v % 2 ^ 40, queryDone := false } }) ∧
  (∀ (s : State), s.grn.queryDone = false →
      exec .grnQueryComplete s = .next { s with grn := { s.grn with
        queryDone := true, queryState := (queryFields s s.grn.query).1, queryOwner := (queryFields s s.grn.query).2.1
        queryIssues := (queryFields s s.grn.query).2.2 } })

/-- Each cipher record, delivery, read and transmission does its effect where its operands allow it: a record is accepted on a
lane and, the first on it, ends with its bytes transformed (R246 to R262), its key being readable or not; a delivery posts its
buffers and completions (R83, R112); a read parks its packet (R84); the XMIT steps queue, loop and copy (R197, R221, R226,
R234); HAUL START queues a list and parks (R285). A claim held to its limit is cleared (R254). -/
def Obligations.DeliveryStepsComplete : Prop :=
  (∀ (s t : State) (p c n lane : Nat) (x : StepIn) (o : RecOp) (a : Sa), Issues s p c 9 0 x → o = recOp x →
    isFrozen s o.fid = false → x.a.p = false → x.b.p = false → saOf s o.sa = some a → a.st ≠ .dormant →
    a.owner = o.fid → saErased s a = false → (o.decrypt = true ↔ a.dir = 1) → o.reserved = false →
    recLengthBad x.k a o = false → anyPoison (recordBytes s x.k a o) = false → (x.k.opnd x.w.dst).p = false →
    recSeq s a (wireSeq a (rawBytes ((recordBytes s x.k a o).take o.aad))) = .ok n → domainClosed s 18 = false →
    laneFor s x o.fid = (some lane, t) →
      exec (.cipRecord p c) s = .next (if (unwrapKey s a).isSome = true then acceptRecord t x o a n lane false
        else refuseRecord s x o.fid false ⟨.failedParity, 0, some cCipKeyParity⟩)) ∧
  (∀ (s t : State) (id : Nat) (r : Rec) (k : Pkt) (x : StepIn), s.cip.records.find? (fun y => y.id = id) = some r →
    firstOnLane s r = true → recPkt s r = some k → t = takeRecord s r →
    x = stepIn t r.p r.c k →
      exec (.recordFinish id) s = .next (match unwrapKey t r.saSnap with
        | none => refuseRecord (zeroOutput t r) x r.fid r.poison ⟨.failedParity, 0, some cCipKeyParity⟩
        | some key => if r.decrypt then finishDecrypt t r x key.1 key.2 else finishEncrypt t r x key.1 key.2)) ∧
  (∀ (s t : State) (lane : Nat) (l : CLane), laneOf s lane = l → l.owner ≠ 0xFFE → l.held.isSome = true →
    l.claimAt + 1000 * s.cip.claimLimitUs ≤ s.now → t = setLane s lane l.wipe.release →
      exec (.claimExpiry lane) s = .next (violate { t with cip := { t.cip with
        violFid := l.owner, violLane := lane, violSeen := true } } l.owner 0x06 lane 0)) ∧
  (∀ (s : State) (p c q : Nat) (x : StepIn) (r : Ring) (hs : List Nat) (fixed : List PByte), Issues s p c 10 0 x →
    isFrozen s (bits 11 0 x.bv) = false →
    Clean x (x.a.p || x.b.p || anyPoison ((pktBytes s x.k).drop (bits 15 0 x.imm))) → deliverWaits s x = false →
    rxAtWindow s (bits 11 0 x.bv) (bits 19 12 x.bv) = some (q, r) → deliverBufs s x.av (bits 11 0 x.bv) = some hs →
    fixUp x.k.fix (pktBytes s x.k) = some fixed → bits 63 20 x.bv = 0 → bits 39 16 x.imm = 0 →
    fixed.drop (bits 15 0 x.imm) ≠ [] → (fixed.drop (bits 15 0 x.imm)).length ≤ (hs.map (bufSize s)).sum →
    destOpen s (bits 11 0 x.bv) r ((fillBufs s hs (fixed.drop (bits 15 0 x.imm))).length + b2n r.ts) = true →
      exec (.dmawDeliver p c) s = .next (done (deliver (writeChain s x.k.handle 0 fixed) x (bits 11 0 x.bv) r
        (fillBufs s hs (fixed.drop (bits 15 0 x.imm)))) x .done)) ∧
  (∀ (s : State) (p c : Nat) (x : StepIn), Issues s p c 11 0 x → isFrozen s (bits 51 40 x.bv) = false →
    Clean x (x.a.p || x.b.p) → dmarBad s x = false → inWindows s (bits 51 40 x.bv) x.av (bits 13 0 x.imm) false = true →
    (pipeOf s p).parked.length < 2048 →
      exec (.dmarRead p c) s = .next (parkRead s x (bits 51 40 x.bv))) ∧
  (∀ (s t : State) (p c port cls : Nat) (x : StepIn) (b : List PByte), Issues s p c 12 0 x → isFrozen s x.k.fid = false →
    Clean x (x.a.p || x.b.p || (x.k.word 26).p || anyPoison (pktBytes s x.k)) → port = bits 7 0 x.imm →
    cls = bits 2 0 x.av → mustWait s p x.k (.port port cls) = false → (portBlock s port).isSome = true →
    bitOf (8 + cls) x.imm = true → fixUp x.k.fix (pktBytes s x.k) = some b →
    queueFrame s port cls (({ bytes := b, chain := ownChain x.k, spilled := false
                              stampTag := if bitOf 16 x.imm then some (bits 47 16 (x.k.val 27)) else none
                              stomp := x.a.p || (x.k.word 26).p, meas := x.k.measPort s } : TxFrame)) = (.done, t) →
      exec (.xmitClass p c) s = .next (advance t x (passChain x.k) .done)) ∧
  (∀ (s t : State) (p c : Nat) (x : StepIn) (b : List PByte), Issues s p c 12 1 x → isFrozen s x.k.fid = false →
    Clean x (x.a.p || x.b.p || (x.k.word 26).p || anyPoison (pktBytes s x.k)) →
    x.imm = 0 → fixUp x.k.fix (pktBytes s x.k) = some b →
    placeLoop s p x.k (markBytes (leBytes 8 x.av) x.a.p ++ markBytes (leBytes 8 x.bv) x.b.p) b x.k.handle (loopChain s x.k)
      = (.done, t) →
      exec (.xmitLoop p c) s = .next (advance t x (passChain x.k) .done)) ∧
  (∀ (s : State) (p c : Nat) (x : StepIn) (z : Session), Issues s p c 12 2 x → isFrozen s x.k.fid = false →
    Clean x (x.a.p || x.b.p || (x.k.word 26).p || anyPoison (pktBytes s x.k)) →
      ((fixUp x.k.fix (pktBytes s x.k)).isNone = true → exec (.xmitMirror p c) s = .next (done s x .badOperand)) ∧
      ((fixUp x.k.fix (pktBytes s x.k)).isSome = true → bitOf 0 x.imm = true →
        tget s.sw.sessions (bits 6 1 x.imm) = some z →
        exec (.xmitMirror p c) s = .next (sessionCopy s x (bits 6 1 x.imm) z (pktBytes s x.k))) ∧
      ((fixUp x.k.fix (pktBytes s x.k)).isSome = true → bitOf 0 x.imm = false → wordsPoisoned x.k x.w.srcA 3 = false → (members x).all memberValid = true →
        (targets x).any (targetWaits s p x.k) = false →
        exec (.xmitMirror p c) s = .next (done (copyAll s p x.k x.copyMark (pktBytes s x.k) (targets x)).2 x
          (if (copyAll s p x.k x.copyMark (pktBytes s x.k) (targets x)).1 then .done else .refusedLimit)))) ∧
  (∀ (s s0 t : State) (p c n : Nat) (cell : Option Nat) (x : StepIn) (ch : Chan), Issues s p c 13 0 x → isFrozen s (bits 11 0 x.bv) = false →
    Clean x (x.a.p || x.b.p) → startsRefused s (bits 11 0 x.bv) = false → n = bits 3 0 x.imm → ch = chanOf s n →
    ch.mode = 2 → ch.st ≠ .ungranted → (ch.owner = bits 11 0 x.bv ∨ ch.owner = 0xFFF) → ch.lists.length < 64 →
    bits 63 43 x.av = 0 → bits 39 4 x.imm = 0 → domainClosed s 23 = false → (pipeOf s p).parked.length < 2048 →
    takeParkCell s p = (cell, s0) →
    t = modPipe (issued s0 p c) p (fun y => { y with
      ctxs := tdel y.ctxs c
      parked := y.parked ++ [{ x.k with trace := x.k.trace.map (fun u => { u with parked := true }), parkCell := cell }] }) →
      ∀ c1 : Chan, c1 = { ch with lists := ch.lists ++ [
        { p := p, ord := x.k.ord, fid := bits 11 0 x.bv, cell := bits 39 0 x.av, count := bits 42 40 x.av + 1 }] } →
      exec (.haulStart p c) s = .next (if ch.st = .idle then makeReady t n c1 true else setChan t n c1))

/-- Each STG step that issues with clean operands does its effect where Tables 10.6 and 10.7 allow it (R300, R301); a turn is
dispatched (R298); slots and connection timers end at their instants (R302, R305). -/
def Obligations.StorageStepsComplete : Prop :=
  (∀ (s : State) (p c : Nat) (x : StepIn) (cn : Conn), Issues s p c 15 0 x → isFrozen s (bits 11 0 x.bv) = false →
    x.a.p = false → x.b.p = false → connOf s (bits 15 0 x.av) = some cn → stgFrozen s (bits 11 0 x.bv) cn = false →
    stgTwinIdle s cn = false → stgOwns cn (bits 11 0 x.bv) = true → cn.pipeline = p →
      exec (.connGet p c) s = .next (advance s x (putWords x x.k ((List.range 8).map (fun i =>
        leNat (slice (cn.line (bits 4 0 x.imm)) (8 * i) 8))) false) .done)) ∧
  (∀ (s : State) (p c : Nat) (x : StepIn) (cn : Conn), Issues s p c 15 1 x → isFrozen s (putFid x) = false →
    connOf s (putConn x) = some cn → stgFrozen s (putFid x) cn = false → cn.pipeline = p → stgTwinIdle s cn = false →
    (bits 2 0 x.imm = 0 → wordsPoisoned x.k x.w.srcA 8 = false → x.b.p = false → holdsTurn x = true →
      7 ≤ bits 7 3 x.imm →
      exec (.connPutWrite p c) s = .next (doneW (setConn s (putConn x) { cn with
        lines := tset cn.lines (bits 7 3 x.imm) ((List.range 8).flatMap (fun i => leBytes 8 (x.k.val (x.w.srcA + i))))
        timer := if bitOf 8 x.imm then x.bv else cn.timer
        lib := (match x.k.lib with
          | some r => r.draft
          | none => cn.lib)
        dirty := (cn.dirty ++ (if bitOf 8 x.imm then [0, bits 7 3 x.imm] else [bits 7 3 x.imm])).eraseDups })
        x .done 0 false)) ∧
    (∀ i q cq cn1, bits 2 0 x.imm = 1 → x.a.p = false → mustWait s p x.k (.turn (putConn x)) = false →
      holdsTurn x = false → cn.st = .active → stgOwns cn (putFid x) = true → cn.outstanding < cn.cmdMax →
      freeSlotOf cn = some i → submitRing s x.k = some (q, cq) → turnRoom s cn = true →
      cn1 = cn.setSlot i { tag := bits 47 16 (x.k.val 27), cq := q, st := 1, gen := ((cn.slot i).gen + 1) % 1024
                           allocAt := s.now } →
      exec (.handoffSubmission p c) s = .next (handOver
        (setConn (setCq s q { cq with reserved := cq.reserved + 1 }) (putConn x) cn1) x (putConn x) cn1
        { kind := 1, slot := i, cid := slotCid cn1 i, conn := putConn x, data := x.av, origNs := x.k.val 25
          tag := bits 47 16 (x.k.val 27), queue := bits 15 0 (x.k.val 27), fid := x.k.fid }
        (i + slotCid cn1 i * 2 ^ 16) false)) ∧
    (bits 2 0 x.imm = 2 → x.a.p = false → mustWait s p x.k (.turn (putConn x)) = false → holdsTurn x = false →
      cn.st = .active → turnRoom s cn = true →
      exec (.handoffInbound p c) s = .next (handOver s x (putConn x) cn
        { kind := 2, conn := putConn x, data := x.av, origNs := x.k.val 25, fid := cn.owner } 0 false)) ∧
    (∀ i y, bits 2 0 x.imm = 3 → x.a.p = false → x.b.p = false → holdsTurn x = true → i = bits 8 3 x.imm →
      y = cn.slot i → (y.st = 1 ∨ y.st = 2) → mustWait s p x.k (.ring y.cq) = false →
      exec (.connPutComplete p c) s = .next (doneW (cqPost
        (setConn s (putConn x) (cn.setSlot i { y with st := if bitOf 9 x.imm then 3 else 0 })) y.cq
        [{ bytes := stgEntry (bits 7 0 x.av) (x.k.ep || y.ep) y.tag (bits 23 8 x.av) (bits 39 24 x.av) (bits 31 0 x.bv) }] 1)
        x .done 0 false)) ∧
    (∀ i y, bits 2 0 x.imm = 4 → holdsTurn x = true → i = bits 8 3 x.imm → y = cn.slot i → y.st = 3 →
      exec (.connPutRelease p c) s
        = .next (doneW (setConn s (putConn x) (cn.setSlot i { y with st := 0 })) x .done 0 false)) ∧
    (bits 2 0 x.imm = 5 → holdsTurn x = true →
      exec (.connPutFail p c) s = .next (doneW (failConn s (putConn x) cn (bits 10 3 x.imm)) x .done 0 false))) ∧
  (∀ (s : State) (conn : Nat) (c : Conn) (k : Pkt) (rest : List Pkt), connOf s conn = some c → c.turn = k :: rest →
    c.turnHeld = false →
      exec (.turnDispatch conn) s = .next (admitPkt (setConn s conn { c with turn := rest, turnHeld := true, turnAt := s.now }) c.pipeline
        { k with conn := some conn })) ∧
  (∀ (s : State) (conn slot : Nat) (c : Conn), connOf s conn = some c → (c.slot slot).st = 1 →
    (c.slot slot).allocAt + 1000000 * c.timeoutMs ≤ s.now → stgTwinIdle s c = false →
    ∀ c1, c1 = c.setSlot slot { c.slot slot with st := 2 } →
      exec (.slotExpiry conn slot) s = .next (timerWork (setConn s conn c1) conn c1 3 slot (slotCid c1 slot) (timeNow s))) ∧
  (∀ (s : State) (conn : Nat) (c c1 : Conn), connOf s conn = some c → c.timer ≠ 0 → c.timer ≤ timeNow s →
    stgTwinIdle s c = false → c1 = { c with timer := 0, dirty := (c.dirty ++ [0]).eraseDups } →
      exec (.connectionTimerExpiry conn) s = .next (timerWork (setConn s conn c1) conn c1 4 0xFF 0 c.timer)) ∧
  (∀ (s : State) (conn kind slot cid ns : Nat) (c c1 : Conn) (rest : List (Nat × Nat × Nat × Nat)), connOf s conn = some c →
    c.timerCells = (kind, slot, cid, ns) :: rest → c1 = { c with timerCells := rest } →
      exec (.timerCellRetry conn) s = .next (timerWork (setConn s conn c1) conn c1 kind slot cid ns))

/-- Each register write and event of the haul engine does its effect: a start makes an IDLE host-mode channel READY (R273); an
acknowledgement is taken and releases a waiting channel (R283); a stop acts as R274 says; a watermark makes an ARMED channel
READY (R278); a free unit takes the next READY channel (R275). -/
def Obligations.HaulRowsComplete : Prop :=
  (∀ (s : State) (fid j head n : Nat), memReach s fid = true → regChan s fid j = some n → (chanOf s n).st = .idle →
    (chanOf s n).mode = 0 → head % 32 = 0 → startsRefused s fid = false → domainClosed s 23 = false →
      exec (.haulStartWrite fid j head) s = .next (makeReady s n { chanOf s n with head := head } true)) ∧
  (∀ (s : State) (fid j half full n : Nat), memReach s fid = true → regChan s fid j = some n → half < 65536 →
    full < 65536 → ackOk (chanOf s n).halfPosted (chanOf s n).halfAcked half = true →
    ackOk (chanOf s n).fullPosted (chanOf s n).fullAcked full = true →
      exec (.haulAckWrite fid j half full) s
        = .next (ackRelease (setChan s n { chanOf s n with halfAcked := half, fullAcked := full }) n)) ∧
  (∀ (s : State) (fid j n : Nat), memReach s fid = true → fid ≠ 0 → regChan s fid j = some n →
      exec (.haulStopWrite fid j) s = .next (stopChan s n)) ∧
  (∀ (s : State) (n : Nat), (chanOf s n).st = .armed → (chanOf s n).high ≤ chanFill s (chanOf s n) →
    startsRefused s (chanOf s n).acting = false → domainClosed s 23 = false →
      exec (.watermarkHigh n) s
        = .next (makeReady s n { chanOf s n with fill := chanFill s (chanOf s n) } true)) ∧
  (∀ (s : State) (unit n : Nat), unit < 4 → tany s.haul.chans (fun _ c => c.unit = some unit) = false →
    domainRuns s 23 = true → nextChan s = some n →
      exec (.runStart unit) s
        = .next (setChan s n ((chanOf s n).take unit)))

/-- Each descriptor that a running channel executes and that passes its checks does its operation (Table 9.2): NOP, COPY and
ZERO (R280, R281), and the table operations of R177 to R180, with the refusals that those rules give; an unlock at or past the
lock's limit is an overstay (R180). The operation acts on the state after the descriptor's own read. A table operation acts
through an access of the table's memory (R33), and waits while that memory's domain is stopped (R35). -/
def Obligations.HaulDescriptorsComplete : Prop :=
  ∀ (s b : State) (n fid : Nat) (inp : HaulIn) (d : HDesc),
    (Hauls s b n 0x00 inp fid d → exec (.haulNop n inp) s = .next (afterOp b n fid d .ok)) ∧
    (Hauls s b n 0x01 inp fid d → (copySource b d inp).2 ≠ .timeout → (copySource b d inp).2 ≠ .error →
      exec (.haulCopy n inp) s = .next (afterOp
        (readObserver (haulWrite (readSource b fid d inp) n fid d.dst (copySource b d inp).1) d.src d.len) n fid d
        (if anyPoison (copySource b d inp).1 then .poisoned else .ok))) ∧
    (Hauls s b n 0x02 inp fid d →
      exec (.haulZero n inp) s
        = .next (afterOp (haulWrite b n fid d.dst (List.replicate d.len PByte.zero)) n fid d .ok)) ∧
    (∀ p t k tb c, Hauls s b n 0x10 inp fid d → tblAddr d.src.2 = (p, t, k) → tblReach b fid p t k = some tb →
      Reaches b c p t → anyPoison (bucketImage c p t k) = false →
      exec (.tblRead n inp) s = .next (afterOp (haulWrite c n fid d.dst (bucketImage c p t k)) n fid d .ok)) ∧
    (∀ p t k tb x, Hauls s b n 0x10 inp fid d → tblAddr d.src.2 = (p, t, k) → tblReach b fid p t k = some tb →
      tableOf b t = some x → x.hot = false → domainRuns b (19 + p / 2) = false →
      exec (.tblRead n inp) s = .next (touchRld s p)) ∧
    (∀ p t k tb c, Hauls s b n 0x11 inp fid d → tblAddr d.src.2 = (p, t, k) → tblReach b fid p t k = some tb →
      Reaches b c p t → isLocked (fpOf c p) t k = false → (fpOf c p).locks.length < 256 →
      exec (.tblLockRead n inp) s = .next (afterOp (haulWrite (setFp c p { fpOf c p with
          locks := tset (fpOf c p).locks (bktKey t k) { holder := fid, at_ := c.now } }) n fid d.dst (bucketImage c p t k))
        n fid d (if anyPoison (bucketImage c p t k) then .poisoned else .ok))) ∧
    (∀ p t k tb l fp c, Hauls s b n 0x12 inp fid d → tblAddr d.dst.2 = (p, t, k) → tblReach b fid p t k = some tb →
      lockHeld b fid p t k = some l → lockOver b l = false → Reaches (endCycles b) c p t →
      (copySource c d inp).2 ≠ .timeout → (copySource c d inp).2 ≠ .error → anyPoison (copySource c d inp).1 = false →
      writeImage (readSource c fid d inp) fid p t k tb (rawBytes (copySource c d inp).1) = .ok fp →
      exec (.tblWriteUnlock n inp) s
        = .next (afterOp (unlockBucket (setFp (readSource c fid d inp) p fp) p t k) n fid d .ok)) ∧
    (∀ p t k l c, Hauls s b n 0x13 inp fid d → tblAddr d.dst.2 = (p, t, k) → lockHeld b fid p t k = some l →
      (lockOver b l = false → Reaches (endCycles b) c p t →
        exec (.tblUnlock n inp) s = .next (afterOp (unlockBucket c p t k) n fid d .ok)) ∧
      (lockOver b l = true → exec (.tblUnlock n inp) s = .next (afterOp (lockOverstay b p t k l) n fid d
        (.fail .refusedState cHaulTblRefused))))

/-- Each doorbell, push, consumer write and fetch does its effect: a position that R96 allows moves P; a push goes into staging
or falls back (R99, R101); a consumer position that R114 allows is taken, and arms where asked (R113, R116); a visit starts a
fetch (R103); a fetched entry arrives, or its fetch fails (R92, R108). -/
def Obligations.QueueRowsComplete : Prop :=
  (∀ (s : State) (fid w v q : Nat) (rx : Bool) (r : Ring), memReach s fid = true → isFrozen s fid = false →
    w < windowsOf fid → atWindow s fid w = some (.ring rx q r) → doorbellOk r (BitVec.ofNat 32 v) = true →
      exec (.doorbell fid w 0 4 v) s = .next (holdUpdate (setRing s rx q { r with p := BitVec.ofNat 32 v }) r.cq)) ∧
  (∀ (s : State) (fid w q : Nat) (bytes : List Nat) (rx : Bool) (r : Ring), memReach s fid = true →
    isFrozen s fid = false → w < windowsOf fid → atWindow s fid w = some (.ring rx q r) → bytes ≠ [] →
    bytes.length = 32 * bytes.getD 2 0 → bytes.length ≤ 512 → bitOf 2 (bytes.getD 1 0) = true →
    doorbellOk r (r.p + BitVec.ofNat 32 (bytes.getD 2 0)) = true →
      exec (.inlinePush fid w bytes) s = .next (if stagedAll s < 4096
        then holdUpdate (setRing s rx q { r with p := r.p + BitVec.ofNat 32 (bytes.getD 2 0)
                                                 staged := r.staged ++ [(r.p, timeNow s, bytes)] }) r.cq
        else holdUpdate (count (setRing s rx q { r with p := r.p + BitVec.ofNat 32 (bytes.getD 2 0)
                                                        marks := r.marks ++ [r.p] }) r.fid cPushFallback) r.cq)) ∧
  (∀ (s : State) (fid w v n : Nat) (c : CqRing), memReach s fid = true → isFrozen s fid = false → w < windowsOf fid →
    atWindow s fid w = some (.cq n c) → consumerOk c (BitVec.ofNat 32 v) = true →
      exec (.completionConsumerWrite fid w v) s = .next (cqConsume s fid n c (BitVec.ofNat 32 v) false) ∧
      exec (.completionArm fid w v) s = .next (cqConsume s fid n c (BitVec.ofNat 32 v) true)) ∧
  (∀ (s : State) (n : Nat) (r : Ring), ringOf s true n = some r → eligible s r = true →
      exec (.queueFetch true n) s = .next (startFetch s true n r)) ∧
  (∀ (s t : State) (n : Nat) (r x : Ring), ringOf s false n = some r → nextVisit s r.pipeline = (some n, t) →
    ringOf t false n = some x →
      exec (.queueFetch false n) s = .next (startFetch t false n x)) ∧
  (∀ (s : State) (rx : Bool) (q ns : Nat) (r : Ring) (pos : W32) (bs : List Nat), ringOf s rx q = some r →
    r.fetching = true → r.staged.find? (fun e => e.1 = r.f) = some (pos, ns, bs) →
      exec (.entryFetchComplete rx q) s = .next (arriveEntry s rx q r bs (some ns))) ∧
  (∀ (s t : State) (rx : Bool) (q i : Nat) (r : Ring) (rd : Read), ringOf s rx q = some r → r.fetching = true →
    r.staged.find? (fun e => e.1 = r.f) = none → fetchReady s rx q = some (i, rd) → rd.fin = some .ok →
    t = releaseReads ((dropRead s i).pci.reads.length + 1) (dropRead s i) →
      exec (.entryFetchComplete rx q) s = .next (arriveEntry t rx q r rd.data none))

/-- Each event of the ports, of TIME and of the cages does its effect: a received frame goes the first way of Table 6.3 (R190
to R195); a pause ends, and the frames of its class become eligible (R201, R205); PFC frames are sent and resent (R206); a
frame leaves (R198, R200, R201); a stamp is read (R208); TIME steps, latches and captures (R209, R211); cage faults and
interrupts are recorded (R214). -/
def Obligations.PortRowsComplete : Prop :=
  (∀ (s t : State) (port : Nat) (bytes : List Nat) (pcsError : Bool) (fec : Fec) (b : Block), portBlock s port = some b →
    (portOf s port).enabled = true → (portOf s port).link = true → t = countRx (countFec s port fec) port bytes pcsError →
      exec (.frameReceived port bytes pcsError fec) s = .next (
        if bytes.length < 64 then count t 0xFFF (if pcsError then cRxAborted port else cRxRunt port)
        else if groupRejected (portOf s port) bytes = true then count t 0xFFF (cRxGroupFiltered port)
        else if beAt bytes 12 2 = 0x8808 then controlFrame t port b.gbps bytes
        else storeFrame t port b.gbps bytes pcsError)) ∧
  (∀ (s : State) (port prio e : Nat), tget (portOf s port).pauseEnd prio = some e → e ≤ s.now →
      exec (.pfcPauseEnd port prio) s
        = .next (setPort s port ((portOf s port).unpause prio e))) ∧
  (∀ (s : State) (port prio t : Nat) (b : Block), prio < 8 → pfcOpen s port = some b → pfcDue s port prio = some t →
      exec (.pfcSend port prio) s = .next (sendPfc s port prio t b)) ∧
  (∀ (s : State) (port prio t : Nat) (b : Block), pfcOpen s port = some b → tget (portOf s port).pfcSent prio = some t →
    (portOf s port).xon ≤ prioCells s port prio → (portOf s port).quanta * 256 ≤ (s.now - t) * b.gbps →
      exec (.pfcResend port prio) s = .next (sendPfc s port prio (portOf s port).quanta b)) ∧
  (∀ (s : State) (port c : Nat) (b : Block) (f : TxFrame) (rest : List TxFrame), portBlock s port = some b →
    (portOf s port).enabled = true → (portOf s port).link = true → (portOf s port).txEnd ≤ s.now →
    ((portOf s port).fcMode ≠ 1 ∨ ∀ p < 8, pfcDue s port p = none ∧ resendDue s port p b = false) → (portOf s port).nextClass s.now = some c →
    ((portOf s port).cls c).q = f :: rest →
      exec (.transmitFrameStart port) s = .next (startFrame s port c b f)) ∧
  (∀ (s : State) (port off size : Nat) (e : TxStamp) (rest : List TxStamp), memReach s 0 = true →
    (portOf s port).txts = e :: rest → (portBlock s port).isSome = true → off ≤ 6 → 6 < off + size → size ≤ 8 →
      exec (.txtsTagRead port off size) s
        = .next (setPort s port { portOf s port with txts := rest, txtsNs := e.ns })) ∧
  (∀ (s : State) (v : Nat), memReach s 0 = true → s.mac.timeRunning = true →
      exec (.macTimeStepWrite v) s = .next (logEvent { s with mac := { s.mac with
        timeNs := s.mac.timeNs + BitVec.ofNat 64 v, stepCount := (s.mac.stepCount + 1) % 65536 } }
        0x0042 0xFFF [.num 8 (v % 2 ^ 64)])) ∧
  (∀ s : State, memReach s 0 = true →
      exec .macTimeNsRead s = .next { s with mac := { s.mac with fracLatch := timeFrac s } }) ∧
  (∀ s : State, (∀ t, s.mac.ppsAt = some t → 100000000 ≤ s.now - t) →
      exec .ppsInputEdge s = .next { s with mac := { s.mac with
        ppsNs := timeNow s, ppsFrac := timeFrac s, ppsSeen := true, ppsAt := some s.now } }) ∧
  (∀ (s : State) (t : Nat), s.mac.ppsAt = some t → s.now - t < 100000000 → exec .ppsInputEdge s = .next s) ∧
  (∀ s : State, s.mac.timeRunning = true → timeNow s % 1000000000 = 0 →
      exec .ppsOutput s = .next { s with mac := { s.mac with
        ppsOutUntil := s.now + 100000000 } }) ∧
  (∀ (s : State) (cage : Nat), cage < 2 →
      exec (.cageFault cage 1) s = .next (cageEvent s cage { cageOf s cage with sclStuck := true }) ∧
      exec (.cageFault cage 2) s = .next (cageEvent s cage { cageOf s cage with sdaStuck := true }) ∧
      exec (.cageFault cage 3) s = .next (cageEvent s cage { cageOf s cage with busShort := true }) ∧
      exec (.cageFault cage 4) s = .next (cageEvent s cage { cageOf s cage with intStuck := true }) ∧
      exec (.cageFault cage 5) s = .next (cageEvent s cage { cageOf s cage with lpmodeShort := true, lpmode := false }) ∧
      exec (.cageFault cage 6) s = .next (cageEvent s cage { cageOf s cage with resetShort := true, resetDriven := false }) ∧
      exec (.cageFault cage 7) s = .next (setCage s cage { cageOf s cage with present := true })) ∧
  (∀ (s : State) (cage : Nat), cage < 2 →
      exec (.cageFaultClear cage 1) s = .next (setCage s cage { cageOf s cage with sclStuck := false }) ∧
      exec (.cageFaultClear cage 2) s = .next (setCage s cage { cageOf s cage with sdaStuck := false }) ∧
      exec (.cageFaultClear cage 3) s = .next (setCage s cage { cageOf s cage with busShort := false }) ∧
      exec (.cageFaultClear cage 4) s
        = .next (setCage s cage { cageOf s cage with intStuck := false, intAsserted := false }) ∧
      exec (.cageFaultClear cage 7) s = .next (setCage s cage { cageOf s cage with present := false })) ∧
  (∀ (s : State) (cage : Nat), cage < 2 →
    ((cageOf s cage).intStuck = false ∨ (cageOf s cage).lastInt = none) →
      exec (.cageInterrupt cage) s = .next (setCage s cage { cageOf s cage with
        intAsserted := true, intEvents := (cageOf s cage).intEvents + 1, lastInt := some s.now }))

/-- Each event of the lanes and links does its effect: a fault of Table 6.6 is recorded, takes down what the lane serves and is
logged (R212), and a lane in no port, which is powered down, finds none; a fault clears; a link starts with the lanes it finds
(R213), and is lost (R204). -/
def Obligations.LaneRowsComplete : Prop :=
  (∀ (s t u : State) (lane code : Nat), lane ≤ 10 → 1 ≤ code → code ≤ 3 → (8 ≤ lane ∨ (portOfLane s lane).isSome = true) →
    t = setLaneReg s lane ((macLane s lane).withFault code) →
    (∀ n, portOfLane t lane = some n → code ≠ 3 → u = reportFault t n true) →
    (portOfLane t lane = none ∨ code = 3 → u = t) →
      exec (.laneFault lane code) s = .next (logEvent (laneDown u lane) 0x0040 0xFFF [.num 1 lane, .num 1 code])) ∧
  (∀ (s : State) (lane code : Nat), lane < 8 → portOfLane s lane = none → exec (.laneFault lane code) s = .next s) ∧
  (∀ (s : State) (lane code : Nat), lane ≤ 10 → (code = 1 ∨ code = 2) → (macLane s lane).fault = code →
      exec (.laneFaultClear lane code) s = .next (setLaneReg s lane { macLane s lane with
        fault := if (macLane s lane).driverOff then 3 else 0, signal := (macLane s lane).signal || code = 1 })) ∧
  (∀ (s : State) (port : Nat) (b : Block) (lanes : List LaneStart), port < 8 → portBlock s port = some b →
    (portOf s port).enabled = true → (portOf s port).link = false →
    (∀ l ∈ blockLanes b, (macLane s l).fault = 0) →
      exec (.linkUp port lanes) s = .next (startPort s port b lanes)) ∧
  (∀ (s : State) (lanes : List LaneStart), s.twn.enabled = true → s.twn.link ≤ 1 →
    domainRuns s 9 = true → twinLanesOk s = true →
      exec (.linkUp 8 lanes) s = .next (startTwin s lanes)) ∧
  (∀ (s : State) (port : Nat), (portBlock s port).isSome = true → (portOf s port).link = true →
      exec (.linkDown port) s = .next (linkChanged (linkDownPort s port) port))

/-- Each event of the PCI Express endpoint does its effect: completions, timeouts and tags (R362 to R365); INTA (R359, R360);
MSI-X (R361); Bus Master Enable (R366); function-level reset (R371 to R373); SR-IOV (R320, R351); power states (R367, R368);
wake and link events (R369, R370). -/
def Obligations.PciRowsComplete : Prop :=
  (∀ (s : State) (link tag i : Nat) (ok ep : Bool) (data : List Nat) (r : Read), readByTag s link tag = some (i, r) →
    s.now < r.at_ + r.tmo → exec (.readCompletion link tag ok ep data) s = .next (takeCpl s i r tag ok ep data)) ∧
  (∀ (s : State) (link tag i : Nat) (r : Read), readByTag s link tag = some (i, r) → r.at_ + r.tmo ≤ s.now →
      exec (.completionTimeout link tag) s = .next (timeoutRead s i r tag)) ∧
  (∀ (s : State) (link tag t fid : Nat), tget s.pci.quarantine (link * 16384 + tag) = some (t, fid) → t ≤ s.now →
      exec (.tagQuarantineEnd link tag) s = .next (issueWaiting { s with pci := { s.pci with
        quarantine := tdel s.pci.quarantine (link * 16384 + tag) } })) ∧
  (∀ s : State, s.pci.linkUp = true → s.pci.l23 = false → intaWire s ≠ s.pci.lastAssert →
      exec .intaUpdate s = .next (emit { s with pci := { s.pci with
        lastAssert := intaWire s, asserts := (s.pci.asserts + b2n (intaWire s)) % 65536 } } (.inta (intaWire s)))) ∧
  (∀ (s : State) (v : Bool), cfgReach s 0 = true →
      exec (.interruptDisableWrite v) s = .next (intaSync { s with pci := { s.pci with intDisable := v } })) ∧
  (∀ (s : State) (fid vec : Nat), fid ≠ 0 →
    (if vec < 128 then memReach s fid else cfgReach s fid) = true →
      exec (.msixUnmask fid vec) s = .next (sendHeld (setPci s fid (if vec < 128
        then { pciOf s fid with vecs := tput {} (pciOf s fid).vecs vec { tgetD (pciOf s fid).vecs vec {} with mask := false } }
        else { pciOf s fid with msixEnable := true, msixMask := false })) fid)) ∧
  (∀ (s : State) (fid : Nat), cfgReach s fid = true → (pciOf s fid).bme = true →
      exec (.busMasterEnableClear fid) s = .next (haltFn (setPci s fid { pciOf s fid with bme := false }) fid)) ∧
  (∀ (s : State) (fid : Nat), cfgReach s fid = true →
      exec (.busMasterEnableSet fid) s = .next (sendHeld (setPci s fid { pciOf s fid with bme := true }) fid)) ∧
  (∀ (s : State) (fid : Nat), cfgReach s fid = true →
      exec (.functionLevelReset fid) s = .next (if restartGoes s = true
        then setPci s fid { pciOf s fid with flrDue := true } else startFlr s fid)) ∧
  (∀ (s : State) (fid t : Nat), (pciOf s fid).flrAt = some t →
      exec (.flrComplete fid) s = .next (endFlr s fid)) ∧
  (∀ (s : State) (numVfs : Nat), numVfs ≤ 2048 → cfgReach s 0 = true →
      exec (.sriovVfEnableSet numVfs) s = .next (if s.pci.ari = true
        then loseVfs s { s with pci := { s.pci with numVfs := numVfs, vfEnable := true } }
        else logEvent { s with pci := { s.pci with numVfs := numVfs } } 0x0013 0 []) ∧
      exec (.sriovVfDisable false numVfs) s = .next (loseVfs s { s with pci := { s.pci with numVfs := numVfs } }) ∧
      exec (.sriovVfDisable true numVfs) s = .next (loseVfs s { s with pci := { s.pci with vfEnable := false } })) ∧
  (∀ (s : State) (d : Nat), d ∈ [0, 1, 3] → cfgReach s 0 = true → (pciOf s 0).dstate ≠ d →
      exec (.powerStateWrite 0 d) s = .next (deviceMode s d)) ∧
  (∀ (s t : State) (d : Nat), d ∈ [0, 1, 3] → cfgReach s 1 = true → (pciOf s 1).dstate ≠ d →
    t = setPci s 1 { pciOf s 1 with dstate := d } →
      exec (.powerStateWrite 1 d) s = .next (if d = 0 then sendHeld t 1 else haltFn t 1)) ∧
  (∀ s : State, s.pci.linkUp = true → s.pci.l23 = false →
      exec .pmeTurnOff s = .next (emit { s with pci := { s.pci with l23 := true } } .pmeToAck)) ∧
  (∀ (s : State) (row : Nat), exec (.wakeEvent row) s = .next (wakeNow s row)) ∧
  (∀ (s t : State) (rate width : Nat) (flit : Bool), s.store.mainPresent = true → s.store.perst = false → rate < 8 →
    width < 16 → t = { s with pci := { s.pci with
      rate := rate, flit := flit, width := width, dlUpCount := (s.pci.dlUpCount + 1) % 32768, linkUp := true
      l23 := false, pmeDue := false } } →
      exec (.dlUp 0 rate flit width) s
        = .next (intaSync (if s.pci.pmeDue && s.pci.pmeStatus then emit t .pmPme else t))) ∧
  (∀ (s : State) (rate width : Nat) (flit : Bool), s.store.mainPresent = true → s.store.perst = false → rate < 8 →
    width < 16 → s.pci.bifurcated = true →
      exec (.dlUp 1 rate flit width) s = .next { s with pci := { s.pci with
        rateB := rate, flitB := flit, widthB := width } })

/-- Each event of the Almanac does its effect: domains start where their start condition holds, are ready and stop (R33 to R36,
R443), a power-down drains (R374); restarts (R450, R451); alarms, temperature, clock and diode faults (R459 to R464); the wake
timer (R466); lifetime samples and commits (R468, R470); a read of the calendar (R465); auxiliary power (R442); the SMBus
(R509). -/
def Obligations.AlmanacRowsComplete : Prop :=
  (∀ (s : State) (d : Nat), demanded s d = false → exec (.domainStart d) s = .next s) ∧
  (∀ (s : State) (d : Nat), s.store.auxPresent = true → demanded s d = true →
      exec (.domainStart d) s = .next (if s.store.restarting = true then
        (if s.store.waitStarts.contains d = true then s
          else { s with store := { s.store with waitStarts := s.store.waitStarts ++ [d] } })
        else startDom s d)) ∧
  (∀ (s : State) (d t : Nat), (domOf s d).starting = some t →
      exec (.domainReady d) s = .next (startAsked (endPowerUp (setDom s d { domOf s d with
        starting := none, running := true, idleSince := none }) d) d)) ∧
  (∀ (s : State) (d : Nat), mayStop s d = true →
      exec (.domainIdleStop d) s = .next (setDom s d { domOf s d with running := false, idleSince := none })) ∧
  (∀ (s : State) (d : Nat) (g : BgCmd), bgOf s [0x0A10] (.domain d) = some g →
      (drainLeft s d g.deadline = 0 →
        exec (.powerDownDrainEnd d) s = .next (endBg (holdDom s d) g { status := .done } false)) ∧
      (drainLeft s d g.deadline ≠ 0 → g.deadline ≤ s.now →
        exec (.powerDownDrainEnd d) s = .next (endBg (setDom s d { domOf s d with draining := none }) g
          { status := .refusedBusy, results := [.num 4 (drainLeft s d g.deadline)] } false))) ∧
  (∀ s : State, memReach s 0 = true → s.stw.restarting = false → (s.stw.ready = true ∨ s.fw.activation ≠ 0) →
      exec .stewardRestart s
        = .next (beginRestart { s with stw := { s.stw with restarting := true, ready := false } })) ∧
  (∀ (s u : State) (t : Nat), (beginRestart s).stw.restartAt = some t → u = { beginRestart s with
    stw := { (beginRestart s).stw with ready := true, restarting := false, restartAt := none } } →
      ∃ v : State, exec .stewardRestartComplete s = .next (resumeResets (almEvent v 0x010A [.num 1 0, .num 8 (s.now - t)])) ∧
        (v = { u with draws := u.draws + 1 } ∨ v = almEvent { u with draws := u.draws + 1 } 0x010C [])) ∧
  (∀ s : State, memReach s 0 = true → s.store.restarting = false → s.store.auxPresent = true →
    ∃ t, exec .almanacRestart s = .next t ∧ t.store.restarting = true ∧ t.store.restartCause = 0 ∧
      t.store.saved = t.store.acc) ∧
  (∀ (s t : State), s.store.restarting = true →
    t = s.store.waitStarts.foldl startDom
      (stopHeld { s with store := { s.store with restarting := false, waitStarts := [] } }) →
      exec .almanacRestartComplete s
        = .next (resumeResets
          (almEvent (if wakeDue t = true then fireWake t else t) 0x010B [.num 1 s.store.restartCause]))) ∧
  (∀ s : State, memReach s 0 = true →
      exec .almCalSecRead s = .next { s with alm := { s.alm with calLatch := s.alm.calTicks } }) ∧
  (∀ (s : State) (cause value : Nat), alarmArmed s cause = true → causeOn s cause = false →
      exec (.alarm cause value) s = .next (wakeNow (almEvent (eraseVault { s with alm := { s.alm with
        causes := s.alm.causes + 2 ^ (cause - 1), alarmSeen := true, raised := (s.alm.raised + 1) % 65536
        causeSince := tset s.alm.causeSince cause s.now } } cause (if cause = 1 ∨ cause = 3 then value % 65536 else 0))
        0x0100 [.num 1 cause, .num 4 (if cause = 1 ∨ cause = 3 then value % 65536 else 0)]) 2)) ∧
  (∀ (s t : State) (cause : Nat), 1 ≤ cause → cause ≤ 4 → causeOn s cause = true → s.store.auxPresent = true →
    10000000 ≤ s.now - tgetD s.alm.causeSince cause 0 →
    t = almEvent { s with alm := { s.alm with
      causes := s.alm.causes - 2 ^ (cause - 1), causeSince := tdel s.alm.causeSince cause } } 0x0101
      [.num 1 cause, .num 4 ((s.now - tgetD s.alm.causeSince cause s.now) / 1000000)] →
      exec (.alarmClear cause) s
        = .next (if t.alm.causes = 0 ∧ t.alm.wipePending = false ∧ t.store.mainPresent = true ∧ t.cip.kek = none
          then drawKek t else t)) ∧
  (∀ (s : State) (tj : Nat), s.store.auxPresent = true →
      (34528 ≤ tj → s.alm.warning = false → exec (.thermalWarning tj) s
        = .next (almEvent { sensed s tj with alm := { (sensed s tj).alm with warning := true } } 0x0102
          [.num 2 (tjRaw tj)])) ∧
      (tj < 34448 → exec (.thermalWarningClear tj) s
        = .next { sensed s tj with alm := { (sensed s tj).alm with warning := false } }) ∧
      (34768 ≤ tj → exec (.thermtrip tj) s
        = .next { sensed s tj with alm := { (sensed s tj).alm with thermtrip := true, tripAt := s.now } })) ∧
  (∀ s : State, s.alm.tripAt + 1000000000 ≤ s.now → exec .thermtripRelease s = .next { s with alm := { s.alm with thermtrip := false } }) ∧
  (∀ s : State, s.store.auxPresent = true →
      (s.alm.xtalFault = false → exec .crystalFault s = .next (almEvent (histAppend { s with alm := { s.alm with
        xtalFault := true, xtalBack := false, faultSeen := true, calDegraded := true } } 6 0) 0x0104 [.num 1 0])) ∧
      (s.alm.xtalFault = true → exec .crystalRecovery s = .next { s with alm := { s.alm with
        xtalFault := false, xtalBack := true } }) ∧
      (s.alm.ref156Lost = true → exec (.referenceClockRecovery 0) s = .next (almEvent { s with alm := { s.alm with
        ref156Lost := false } } 0x0105 [.num 1 0, .num 1 1])) ∧
      (s.alm.ref100Lost = true → exec (.referenceClockRecovery 1) s = .next (almEvent { s with alm := { s.alm with
        ref100Lost := false } } 0x0105 [.num 1 1, .num 1 1])) ∧
      (∀ kind, kind ≤ 1 → s.alm.diodeFault = false →
        exec (.thermalDiodeFault kind) s = .next (almEvent (histAppend { s with alm := { s.alm with
          diodeFault := true, faultSeen := true } } 9 0) 0x0106 [.num 1 kind])) ∧
      (s.alm.diodeFault = true → exec .thermalDiodeFaultClear s = .next (almEvent { s with alm := { s.alm with
        diodeFault := false } } 0x0106 [.num 1 2]))) ∧
  (∀ s : State, s.alm.ref156Lost = false →
      exec (.referenceClockFault 0) s = .next (loseRef156 (almEvent (histAppend { s with alm := { s.alm with
        ref156Lost := true, faultSeen := true } } 7 0) 0x0105 [.num 1 0, .num 1 0]))) ∧
  (∀ (s t : State), s.alm.ref100Lost = false → t = almEvent (histAppend { s with alm := { s.alm with
    ref100Lost := true, faultSeen := true } } 8 0) 0x0105 [.num 1 1, .num 1 0] →
      exec (.referenceClockFault 1) s
        = .next (if t.store.mainPresent = true ∧ t.store.perst = false then hotReset t else t)) ∧
  (∀ s : State, s.store.auxPresent = true → s.store.restarting = false → wakeDue s = true →
      exec .wakeTimerFire s = .next (wakeNow (almEvent { s with alm := { s.alm with wakeAt := 0 } } 0x0109
        [.num 8 s.alm.wakeAt]) 1)) ∧
  (∀ (s : State) (x : LifeSample), s.store.auxPresent = true → s.store.restarting = false →
      exec (.lifetimeSample x) s = .next (tripAbove { s with
        alm := { s.alm with tj := tjRaw x.tj }
        store := { s.store with acc := s.store.acc.second s.store.mainPresent x } } x.tj)) ∧
  (∀ s : State, s.store.auxPresent = true → tgetD s.store.saved.life 1 0 < lifeOf s 1 →
    ∃ t, exec .storeCommit s = .next t ∧ t.store.saved = t.store.acc ∧
      t.store.acc = s.store.acc.setLife 24 (lifeOf s 24 + 1)) ∧
  (∀ s : State, s.store.auxPresent = true →
    ∃ t, exec .auxPowerLoss s = .next t ∧ t.store.auxPresent = false ∧ t.store.acc = s.store.saved ∧
      t.alm.calSec = 0 ∧ t.alm.calTicks = 0 ∧ t.alm.calValid = false ∧ t.alm.wakeAt = 0) ∧
  (∀ s : State, s.store.auxPresent = false →
    ∃ t, exec .auxPowerUp s = .next t ∧ t.store.auxPresent = true ∧ t.store.acc = s.store.saved ∧
      t.alm.calSec = 0 ∧ t.alm.calTicks = 0 ∧ t.alm.calValid = false) ∧
  (∀ s : State, s.stw.mgmtI3c = false → exec .smbusClockLowTimeout s = .next (emit s .smbusRelease)) ∧
  (∀ s : State, s.stw.mgmtI3c = true → exec .smbusClockLowTimeout s = .next s)

/-- Each reset and start-up event does its effect: a cold reset and a release of PERST# start the Steward with its library
(R446, R448, Table 16.4), after a life-cycle change that was cut off where there was one (R458); an assertion, a hot reset and
a loss of the main supplies clear what R449, R373 and R503 say; the wipes end (R453), and with them a life-cycle change (R458).
-/
def Obligations.ResetRowsComplete : Prop :=
  (∀ (s t : State) (straps : Straps) (lib : TableSet), s.store.auxPresent = true → s.store.mainPresent = false →
    s.alm.ref156Lost = false → t = beginSramWipe { resetBlocks s with
      alm := { (resetBlocks s).alm with dataDead := false }
      store := { (resetBlocks s).store with
        mainPresent := true, codeDigestKept := true, library := some lib, restarting := false, waitStarts := [] } } →
      exec (.coldReset true straps lib) s = .next (startUp (beginWipes (releasePerst t straps)) lib)) ∧
  (∀ (s : State), s.store.mainPresent = true → s.store.perst = false →
      exec .perstAssert s = .next (runDomains { resetBlocks s with
        alm := { (resetBlocks s).alm with dataDead := false }
        store := { (resetBlocks s).store with perst := true, restarting := false, waitStarts := [] } } [1, 2, 21])) ∧
  (∀ (s : State) (straps : Straps) (lib : TableSet), s.store.mainPresent = true → s.store.perst = true →
    s.alm.ref156Lost = false → s.store.codeDigestKept = true →
      exec (.perstRelease true straps lib) s
        = .next (startUp (beginWipes (releasePerst (beginSramWipe s) straps)) lib)) ∧
  (∀ (s : State) (straps : Straps) (lib : TableSet), s.store.mainPresent = true → s.store.perst = true →
    s.alm.ref156Lost = false → s.store.codeDigestKept = true →
      exec (.perstRelease false straps lib) s
        = .next (almEvent (startUp (beginWipes (releasePerst (beginSramWipe s) straps)) lib) 0x010C [])) ∧
  (∀ s : State, s.store.mainPresent = true → s.store.perst = false → exec .hotReset s = .next (hotReset s)) ∧
  (∀ s : State, s.dev.sramWiping = true → exec .sramWipeEnd s = .next { s with
      dev := { s.dev with sramWiping := false }, grn := { s.grn with ready := true }
      cnt := { s.cnt with ready := true } }) ∧
  (∀ (s t : State), s.dev.rldWiping = true → s.dev.sramWiping = false → t = { s with
      dev := { s.dev with rldWiping := false, wipeDone := true }, fwt := { s.fwt with ready := true }
      stg := { s.stg with ready := true } } →
      exec .rldramWipeEnd s = .next (match lcCmd t with
        | some g => endLcChange t g
        | none => settleQueues (if t.alm.wipePending = true then lcAtStart t else t))) ∧
  (∀ (s t : State), s.store.mainPresent = true →
    t = resetBlocks (commitStore (bumpLife (histAppend (draw s).2
      ((Sys2Proof.Config.freeWord (draw s).1).toNat % 256) 0) 22 1)) →
      exec .mainSupplyLoss s = .next (runDomains { t with
        alm := { t.alm with coreMv := 0, sramMv := 0, dataDead := false }
        store := { t.store with mainPresent := false, perst := true, codeDigestKept := false } } [1, 2]))

/-- Each event on the Steward's paths does its effect: a legal doorbell or consumer position is taken (R400, R414, R416), a
mailbox doorbell submits its packet, which is what its buffer holds then (R401), a packet in a session waits in its queue, one
outside it is counted (R402), a visit in the rotation's order
takes the packet of its position (R405), and a background command whose work has ended ends (R407). -/
def Obligations.StewardRowsComplete : Prop :=
  (∀ (s : State) (v : Nat), memReach s 0 = true →
    admDoorbellOk s.stw.cmdProd s.stw.cmdCons (BitVec.ofNat 32 v) (2 ^ s.stw.admSizeLog2) = true →
      exec (.adminDoorbell v) s = .next { s with stw := { s.stw with cmdProd := BitVec.ofNat 32 v } }) ∧
  (∀ (s t : State) (v : Nat), memReach s 0 = true →
    positionBack s.stw.rplProd s.stw.rplCons (BitVec.ofNat 32 v) (2 ^ s.stw.admSizeLog2) = true →
    t = { s with stw := { s.stw with rplCons := BitVec.ofNat 32 v } } →
      exec (.adminReplyConsumerWrite v) s
        = .next { t with stw := { t.stw with admHeld := s.stw.admHeld && !rplRoom t } }) ∧
  (∀ (s : State) (v : Nat), memReach s 0 = true →
    positionBack s.dev.logProd s.dev.logCons (BitVec.ofNat 32 v) 4096 = true →
    (s.dev.lostPending = 0 ∨ BitVec.ofNat 32 v = s.dev.logCons) →
      exec (.devLogConsWrite v) s = .next { s with dev := { s.dev with logCons := BitVec.ofNat 32 v } }) ∧
  (∀ (s : State) (v : Nat), memReach s 0 = true →
    positionBack s.dev.logProd s.dev.logCons (BitVec.ofNat 32 v) 4096 = true →
    s.dev.lostPending ≠ 0 → BitVec.ofNat 32 v ≠ s.dev.logCons →
      exec (.devLogConsWrite v) s
        = .next (appendEvent { s with dev := { s.dev with logCons := BitVec.ofNat 32 v, lostPending := 0 } } 0x0080 0xFFF
            [.num 4 s.dev.lostPending])) ∧
  (∀ (s t : State) (fid go n : Nat), fid = 1 ∨ isVf fid = true → memReach s fid = true → go % 2 = 1 →
    isFrozen s fid = false → mbxSubmit s fid = (n, t) → n ≤ (fnOf t fid).mbxPerMs → (fnOf t fid).mbx.st ≠ 1 →
      exec (.mailboxDoorbell fid go) s
        = .next (setFn t fid { fnOf t fid with mbx := { (fnOf t fid).mbx with
          st := 1, taken := (fnOf t fid).mbx.cmd } })) ∧
  (∀ (s : State) (c : Carrier) (bytes : List Nat), (macLane s 10).fault = 0 → c.port = s.stw.udpPort →
      exec (.securedPacketReceived .svc c bytes) s = .next (if c.inSession = true ∧ sessionOpen s .svc = true
        then { s with stw := { s.stw with svcQueue := s.stw.svcQueue ++ [bytes] } } else countDev s cSvcUnauth)) ∧
  (∀ (s : State) (c : Carrier) (bytes : List Nat), sessionOpen s .mctp = true → c.inSession = true → c.outer = 0x06 → c.inner = 0x7E →
    c.vendor = 0x1EA7 →
      exec (.securedPacketReceived .mctp c bytes) s
        = .next { s with stw := { s.stw with mctpQueue := s.stw.mctpQueue ++ [bytes] } }) ∧
  (∀ (s : State) (c : Carrier) (bytes : List Nat), (c.inSession = false ∨ c.outer ≠ 0x06 ∨ sessionOpen s .mctp = false) →
      exec (.securedPacketReceived .mctp c bytes) s = .next (countDev s cSvcUnauth)) ∧
  (∀ (s : State) (bytes : List Nat) (rd : ReadResult), s.stw.ready = true → stewardBusy s = false →
    nextPos s = some 0 →
      exec (.acceptPacket .admin 0 bytes rd) s = .next (visitAdmin s bytes rd)) ∧
  (∀ (s : State) (bytes : List Nat) (rd : ReadResult), s.stw.ready = true → stewardBusy s = false →
    (nextPos s = some 1 → exec (.acceptPacket .svc 0 bytes rd) s
      = .next (visitQueue (holdAdmin s) .svc (decide (rd = .poisoned)))) ∧
    (nextPos s = some 2 → exec (.acceptPacket .mctp 0 bytes rd) s
      = .next (visitQueue (holdAdmin s) .mctp (decide (rd = .poisoned)))) ∧
    (nextPos s = some 3 → exec (.acceptPacket .twin 0 bytes rd) s
      = .next (visitTwin (holdAdmin s) (decide (rd = .poisoned)))) ∧
    (nextPos s = some 4 → exec (.acceptPacket .mailbox 1 bytes rd) s
      = .next (visitMailbox (holdAdmin s) 1 (decide (rd = .poisoned))))) ∧
  (∀ (s : State) (fid : Nat) (bytes : List Nat) (rd : ReadResult), s.stw.ready = true → stewardBusy s = false → fid ≠ 1 →
    nextPos s = some 5 → nextVf s = some fid →
      exec (.acceptPacket .mailbox fid bytes rd) s
        = .next (visitMailbox (holdAdmin s) fid (decide (rd = .poisoned)))) ∧
  (∀ (s : State) (slot : Nat) (b : BgCmd) (e : CmdEnd), s.stw.bg[slot]? = some b → b.fin = some e → b.deadline ≤ s.now →
      exec (.backgroundCommandEnd slot) s = .next (endBg (finishBg s b) b e false))

/-- A write of a selector takes a snapshot of what it selects, and only that (R183, R267, R315, R346). -/
def Obligations.SelectorsComplete : Prop :=
  ∀ (s : State) (v : Nat), memReach s 0 = true →
    exec (.fnSelWrite v) s = .next { s with fmg := { s.fmg with
      sel := { fid := bits 11 0 v, fn := fnOf s (bits 11 0 v), vfEnabled := vfShown s (bits 11 0 v) } } } ∧
    exec (.fwtGrantSelWrite v) s = .next { s with fwt := { s.fwt with
      grantSel := bits 17 0 v, grantSnap := tableGrantFigures s (bits 11 0 v) (bits 15 12 v) (bits 17 16 v) } } ∧
    (∃ res : Bool, exec (.fwtOvfSelWrite v) s = .next { s with
      draws := s.draws + 1
      fwt := { s.fwt with
        ovfSel := bits 15 0 v, ovfSnap := tget (fpOf s (bits 15 14 v)).ovf (bits 13 0 v), ovfSnapRes := res } }) ∧
    exec (.cipSaSelWrite v) s
      = .next { s with cip := { s.cip with
          saSel := bits 21 0 v, saSnap := (tget s.cip.sas (bits 21 0 v)).map (saNow s) } } ∧
    exec (.cipGrantSelWrite v) s
      = .next { s with cip := { s.cip with grantSel := bits 11 0 v, grantSnap := cipherGrantFigures s (bits 11 0 v) } } ∧
    exec (.stgConnSelWrite v) s
      = .next { s with stg := { s.stg with connSel := bits 15 0 v, connSnap := tget s.stg.conns (bits 15 0 v) } } ∧
    exec (.stgGrantSelWrite v) s
      = .next { s with stg := { s.stg with
          grantSel := bits 11 0 v, grantSnap := [tgetD s.stg.connMax (bits 11 0 v) 0, connsHeld s (bits 11 0 v)] } }

/-- A write through a BAR of a function that memory requests reach acts on the register there when its size is the register's,
and is otherwise discarded and counted (R12, R38); a write of configuration space acts where configuration requests are
served. -/
def Obligations.RegisterWriteCompletes : Prop :=
  (∀ (s : State) (fid off size v n : Nat) (r : Reg), off < 2 ^ 32 → memReach s fid = true → 0 < size → size ≤ 8 →
    regAt fid off = some (n, r) → (∀ k o, r ≠ .doorbells k o) → (∀ k o, r ≠ .msix k o) → r ≠ .pba →
      exec (.registerWrite fid off size v) s
        = .next (if size = n then writeReg s fid r (v % 2 ^ (8 * n)) else denyWrite s fid)) ∧
  (∀ (s : State) (fid off size v n k o : Nat), off < 2 ^ 32 → memReach s fid = true → 0 < size → size ≤ 8 →
    regAt fid off = some (n, .doorbells k o) →
      exec (.registerWrite fid off size v) s = exec (.doorbell fid k o size v) s) ∧
  (∀ (s : State) (fid off size v n vec w : Nat), off < 2 ^ 32 → memReach s fid = true → 0 < size → size ≤ 8 →
    regAt fid off = some (n, .msix vec w) →
      exec (.registerWrite fid off size v) s = .next (writeMsix s fid vec w size v)) ∧
  (∀ (s : State) (fid off size v : Nat), off < 2 ^ 32 → memReach s fid = true → regAt fid off = none →
      exec (.registerWrite fid off size v) s = .next (denyWrite s fid)) ∧
  (∀ (s : State) (fid off size v : Nat), 2 ^ 32 ≤ off → cfgReach s fid = true → 1 ≤ size → off % 4 + size ≤ 4 →
      exec (.registerWrite fid off size v) s = .next (writeConfig s fid (off - 2 ^ 32) size v)) ∧
  (∀ (s : State) (fid off size v : Nat), off < 2 ^ 32 → memReach s fid = false →
      exec (.registerWrite fid off size v) s = .next s)

/-- The SPDM responder answers while the Steward runs (R482, R484): a portion of the chain, a signed challenge, the
measurements of Table 17.7, and a session for a pinned leaf key over mutual authentication; any other key exchange is refused
with event 0x020C. -/
def Obligations.SpdmComplete : Prop :=
  ∀ (s : State) (path : SpdmPath), spdmUp s path = true →
    (∀ off len, exec (.spdmGetCertificate path off len) s
      = .next (if certBytes.length < off then spdmError s path 1
        else spdmSend s path 0x02 0 0 (leBytes 2 (slice certBytes off len).length ++
          leBytes 2 (certBytes.length - off - (slice certBytes off len).length) ++ slice certBytes off len))) ∧
    (∀ nonce, exec (.spdmChallenge path nonce) s
      = .next (spdmSigned (spdmNonce s).2 path 0x03 0 1 nonce (sha384 certBytes ++ (spdmNonce s).1 ++ leBytes 2 0))) ∧
    (∀ nonce, exec (.getMeasurements path 0 nonce) s
      = .next (spdmSigned (spdmNonce s).2 path 0x60 10 0 nonce ([0, 0, 0, 0] ++ (spdmNonce s).1 ++ leBytes 2 0))) ∧
    (∀ index nonce, index ∈ measureIndices ∨ index = 255 →
      exec (.getMeasurements path index nonce) s
        = .next (spdmSigned (spdmNonce s).2 path 0x60 0 0 nonce
            ([(measureBlocks s index).length] ++ leBytes 3 (measureBlocks s index).flatten.length ++
              (measureBlocks s index).flatten ++ (spdmNonce s).1 ++ leBytes 2 0))) ∧
    (∀ leaf, pinned s leaf = true → s.fw.sessions.contains path = false →
      exec (.keyExchange path leaf true) s = .next (spdmSigned { (spdmNonce s).2 with
        fw := { (spdmNonce s).2.fw with sessions := (spdmNonce s).2.fw.sessions ++ [path] } }
        path 0x64 0 0 0 (spdmNonce s).1)) ∧
    (∀ leaf auth, auth = false ∨ pinned s leaf = false →
      exec (.keyExchange path leaf auth) s = .next (spdmError
        (logEvent s 0x020C 0xFFF [.num 1 (spdmCode path), .num 8 (imgField leaf 0 8)]) path 5))

/-- Each event of the bucket chain does its effect (R490 to R493): offers once a second, the answer to an offer, the bytes a
request asks for, data that follows on, a confirmation, a refusal, and faults of a pair. -/
def Obligations.ChainComplete : Prop :=
  (∀ (s t : State), s.stw.ready = true → s.fw.offeredAt ≠ some s.alm.calSec → pairDown s (chainOut s) = false →
    s.fw.packages.filter (fun p => !p.confirmed) ≠ [] →
    t = chainState ((s.fw.packages.filter (fun p => !p.confirmed)).foldl
      (fun s p => chainSend s (chainOut s) 1 0 p.id []) s) 4 →
      exec .chainOfferSend s = .next { t with fw := { t.fw with offeredAt := some s.alm.calSec } }) ∧
  (∀ (s t : State) (frm : ChainFrame), t = chainActivity s frm.pair → frameRead t frm (chainIn t) = true →
      exec (.chainOfferReceived frm) s = .next (answerOffer t (frameId frm))) ∧
  (∀ (s : State) (frm : ChainFrame) (p : Package), frameRead s frm (chainOut s) = true →
    heldPackage s (frameId frm) = some p →
      exec (.chainRequestReceived frm) s = .next (sendData s p frm.off)) ∧
  (∀ (s t : State) (frm : ChainFrame) (id : PkgId), t = chainActivity s frm.pair → t.fw.rx = some id →
    frm.pair = chainIn t → pairDown t frm.pair = false → t.stw.ready = true → frm.crcOk = true → frameId frm = id →
    frm.off = t.fw.rxBytes.length →
      (rxWhole id.kind (t.fw.rxBytes ++ frm.payload) = false →
        exec (.chainDataReceived frm) s
          = .next { t with fw := { t.fw with rxBytes := t.fw.rxBytes ++ frm.payload } }) ∧
      (rxWhole id.kind (t.fw.rxBytes ++ frm.payload) = true →
        exec (.chainDataReceived frm) s
          = .next (verifyRx { t with fw := { t.fw with rxBytes := t.fw.rxBytes ++ frm.payload } } id))) ∧
  (∀ (s t : State) (frm : ChainFrame) (p : Package), frameRead s frm (chainOut s) = true →
    heldPackage s (frameId frm) = some p → p.confirmed = false →
    t = { s with fw := { s.fw with
      packages := s.fw.packages.map (fun q => if q.id = p.id then { q with confirmed := true } else q)
      chainConfirmed := s.fw.chainConfirmed + 1 } } →
      exec (.chainConfirmReceived frm) s
        = .next (logEvent (restState t) 0x0208 0xFFF [.num 1 p.id.kind, .num 4 p.id.version])) ∧
  (∀ (s : State) (frm : ChainFrame), frameRead s frm (chainOut s) = true →
      exec (.chainRefuseReceived frm) s = .next (restState s)) ∧
  (∀ (s : State) (pair : Nat), pair ≤ 1 →
      exec (.chainFault pair 1) s = .next (chainState (chainFaulted s pair 1) (if pair = chainOut s then 5 else 0)) ∧
      exec (.chainFault pair 2) s = .next (holdPair (chainFaulted s pair 2) pair 2 0) ∧
      exec (.chainFault pair 3) s = .next (holdPair (chainFaulted s pair 3) pair 3 0) ∧
      exec (.chainFault pair 4) s
        = .next { chainFaulted s pair 4 with fw := { (chainFaulted s pair 4).fw with polarityFixed := true } } ∧
      exec (.chainFault pair 5) s
        = .next { chainFaulted s pair 5 with fw := { (chainFaulted s pair 5).fw with
            swapFixed := true, chainSwap := !(chainFaulted s pair 5).fw.chainSwap } }) ∧
  (∀ (s t : State) (pair : Nat), pair ≤ 1 → tgetD s.fw.chainDown pair 0 = 2 → s.fw.chainFault = 2 →
    s.fw.chainPair = pair →
    t = (if pair = chainIn s then wakeNow { s with fw := { s.fw with chainFault := 0 } } 3
      else { s with fw := { s.fw with chainFault := 0 } }) →
      exec (.chainFaultClear pair 2) s
        = .next (restState { t with fw := { t.fw with chainDown := tdel t.fw.chainDown pair } }))

/-- Each event of the twin link does its effect (R377, R379, R385 to R391, R393): the link comes up with the pinned peer and
goes down, heartbeats are sent, received and missed, an arm ends, a standby takes frames in their order, applies records and
acknowledges them, the primary takes acknowledgements, an unacknowledged frame is sent again, and an armed takeover completes. -/
def Obligations.TwinRowsComplete : Prop :=
  (∀ (s t : State) (unit : Nat), s.twn.enabled = true → s.twn.link = 2 → twinLanesOk s = true → domainRuns s 9 = true →
    s.twn.peer ≠ 0 → unit = s.twn.peer → t = twinLink (draw4 (draw4 s).2).2 3 →
      exec (.twinLinkAuthenticated unit true) s = .next (isoCheck { t with twn := { t.twn with
        linkKey := some ((draw4 s).1, (draw4 (draw4 s).2).1), nextSeq := 0, rxSeq := 0, outq := [], noPrimarySeen := false
        hbWatch := true, hbInWindow := true, hbLast := none, hbWindow := timeNow t / 10000, hbSent := none, missedRun := 0
        waits := t.twn.waits.map (fun w => { w with seq := 2 ^ 64 }), rxResult := none, peerPaired := none } } 5)) ∧
  (∀ (s : State) (unit : Nat) (ok : Bool), s.twn.enabled = true → s.twn.link = 2 → twinLanesOk s = true →
    domainRuns s 9 = true → ok = false ∨ unit ≠ s.twn.peer ∨ s.twn.peer = 0 →
      exec (.twinLinkAuthenticated unit ok) s = .next (logEvent (twinDown s) 0x0070 0xFFF [.num 8 unit])) ∧
  (∀ s : State, s.twn.link ≠ 0 → exec .twinLinkDown s = .next (isoCheck (twinDown s) 5)) ∧
  (∀ s : State, s.twn.link = 3 → s.twn.hbSent ≠ some (timeNow s / 10000) →
      exec .heartbeatSend s = .next { twinFrame s 1 [] with
        twn := { (twinFrame s 1 []).twn with hbSent := some (timeNow s / 10000) } }) ∧
  (∀ (s t : State) (h : TwinHdr) (ok : Bool), s.twn.link = 3 → h.tagOk = true → s.twn.epoch ≤ h.epoch →
    resolve s h = (ok, t) →
      exec (.heartbeatReceived h) s = .next (if ok then { markWindow t with twn := { (markWindow t).twn with
        received := (markWindow t).twn.received + 1 } } else markWindow t)) ∧
  (∀ s : State, s.twn.hbWatch = true → (s.twn.hbWindow + 1) * 10000 ≤ timeNow s → s.twn.hbInWindow = true →
      exec .heartbeatWindowEnd s
        = .next { s with twn := { s.twn with hbWindow := s.twn.hbWindow + 1
                                             hbInWindow := decide (s.twn.hbLast = some (s.twn.hbWindow + 1))
                                             missedRun := 0 } }) ∧
  (∀ s t : State, s.twn.hbWatch = true → (s.twn.hbWindow + 1) * 10000 ≤ timeNow s → s.twn.hbInWindow = false →
    t = countDev { s with twn := { s.twn with
      hbWindow := s.twn.hbWindow + 1, hbInWindow := decide (s.twn.hbLast = some (s.twn.hbWindow + 1))
      missedRun := min 3 (s.twn.missedRun + 1) } } cTwinHbMissed →
      exec .heartbeatWindowEnd s
        = .next (if s.twn.missedRun = 2 then declareLoss t ((s.twn.hbWindow + 1) * 10000) else t)) ∧
  (∀ s : State, s.twn.armed = true → s.twn.armDeadline ≤ timeNow s → exec .armDeadline s = .next (endArm s 0)) ∧
  (∀ (s t u : State) (h : TwinHdr) (bytes : List Nat), Applies s h t →
    u = twinAck { t with twn := { t.twn with rxq := t.twn.rxq ++ [.command bytes] } } none →
      exec (.mirroredCommand h bytes) s
        = .next (if u.stw.ready && !stewardBusy u && nextPos u = some 3 then visitTwin u false else u)) ∧
  (∀ (s t : State) (h : TwinHdr) (sa k : Nat) (a : Sa), Applies s h t → t.twn.rxq = [] → twinRuns t = false →
    saOf t sa = some a →
      exec (.leaseRecord h sa k) s = .next (twinAck (setSa t sa (a.leaseRecord k)) none)) ∧
  (∀ (s t : State) (h : TwinHdr) (sa top : Nat) (a : Sa), Applies s h t → t.twn.rxq = [] → twinRuns t = false →
    saOf t sa = some a →
      exec (.replaySnapshot h sa top) s
        = .next (twinAck (setSa t sa { a with lease := top, seq := top + 2 ^ 20, bitmap := 0, jumped := true }) none)) ∧
  (∀ (s t : State) (h : TwinHdr) (n : Nat) (lines : List (Nat × List Nat)) (c : Conn), Applies s h t →
    t.twn.rxq = [] → twinRuns t = false → connOf t n = some c →
      exec (.storageRecord h n lines) s
        = .next (twinAck (setConn t n ((lines.filter (fun l => l.1 < 32)).foldl
            (fun c l => c.withLine t.now l) c)) none)) ∧
  (∀ (s t : State) (h : TwinHdr) (steps : List (Nat × Nat)) (decl : Option TableDecl), Applies s h t →
    t.twn.rxq = [] → twinRuns t = false →
      exec (.bankImagePart h steps decl) s = .next (twinAck (loadPart t steps decl) none)) ∧
  (∀ (s t : State) (h : TwinHdr) (sa k n : Nat) (lines : List (Nat × List Nat)) (steps : List (Nat × Nat))
    (decl : Option TableDecl), Applies s h t → t.twn.rxq ≠ [] ∨ twinRuns t = true →
      exec (.leaseRecord h sa k) s
        = .next (twinAck { t with twn := { t.twn with rxq := t.twn.rxq ++ [.lease sa k] } } none) ∧
      exec (.replaySnapshot h sa k) s
        = .next (twinAck { t with twn := { t.twn with rxq := t.twn.rxq ++ [.snapshot sa k] } } none) ∧
      exec (.storageRecord h n lines) s
        = .next (twinAck { t with twn := { t.twn with rxq := t.twn.rxq ++ [.storage n lines] } } none) ∧
      exec (.bankImagePart h steps decl) s
        = .next (twinAck { t with twn := { t.twn with rxq := t.twn.rxq ++ [.image steps decl] } } none)) ∧
  (∀ (s u : State) (h : TwinHdr) (sa k n : Nat) (lines : List (Nat × List Nat)) (steps : List (Nat × Nat))
    (decl : Option TableDecl), Accepts s h u → frameBefore h.seq u.twn.rxSeq = true →
      exec (.leaseRecord h sa k) s = .next (twinAck u (u.twn.rxResult.filter (fun r => r.1 = h.seq))) ∧
      exec (.replaySnapshot h sa k) s = .next (twinAck u (u.twn.rxResult.filter (fun r => r.1 = h.seq))) ∧
      exec (.storageRecord h n lines) s = .next (twinAck u (u.twn.rxResult.filter (fun r => r.1 = h.seq))) ∧
      exec (.bankImagePart h steps decl) s = .next (twinAck u (u.twn.rxResult.filter (fun r => r.1 = h.seq)))) ∧
  (∀ (s u : State) (h : TwinHdr) (sa k n : Nat) (lines : List (Nat × List Nat)) (steps : List (Nat × Nat))
    (decl : Option TableDecl), Accepts s h u → frameBefore h.seq u.twn.rxSeq = false → h.seq ≠ u.twn.rxSeq →
      exec (.leaseRecord h sa k) s = .next u ∧ exec (.replaySnapshot h sa k) s = .next u ∧
      exec (.storageRecord h n lines) s = .next u ∧ exec (.bankImagePart h steps decl) s = .next u) ∧
  (∀ (s t : State) (h : TwinHdr) (acked : Nat), s.twn.link = 3 → h.tagOk = true → resolve s h = (true, t) →
      exec (.twinAcknowledgement h acked none) s = .next (endPair (takeAck t acked) acked) ∧
      (∀ q status, (takeAck t acked).twn.waits.find? (fun w => w.seq = q) = none →
        exec (.twinAcknowledgement h acked (some (q, status))) s
          = .next (endPair (if (takeAck t acked).twn.copies.contains q
              then { takeAck t acked with twn := { (takeAck t acked).twn with
                copies := (takeAck t acked).twn.copies.erase q
                copyBad := (takeAck t acked).twn.copyBad || !copyTaken status } }
              else takeAck t acked) acked)) ∧
      (∀ q status w, (takeAck t acked).twn.waits.find? (fun w => w.seq = q) = some w → w.fin.status.code = status →
        exec (.twinAcknowledgement h acked (some (q, status))) s = .next (endPair (releaseWait (takeAck t acked) w) acked)) ∧
      (∀ q status w, (takeAck t acked).twn.waits.find? (fun w => w.seq = q) = some w → w.fin.status.code ≠ status →
        exec (.twinAcknowledgement h acked (some (q, status))) s
          = .next (endPair (diverged (releaseWait (takeAck t acked) w) w.opcode w.fin.status.code status) acked))) ∧
  (∀ (s t : State) (seq : Nat) (f g : TwinOut), s.twn.outq.find? (fun f => f.seq = seq) = some f →
    f.sentAt + 4000 ≤ s.now → s.twn.link = 3 → f.resends < 8 → g = { f with resends := f.resends + 1, sentAt := s.now } →
    t = { s with twn := { s.twn with outq := s.twn.outq.map (fun x => if x.seq = seq then g else x) } } →
      exec (.twinResend seq) s
        = .next (countDev (emit t (.twin (twinDir s) (twinBytes f.type f.role f.flags f.epoch f.seq f.body))) cTwinLinkResend)) ∧
  (∀ (s : State) (seq : Nat) (f : TwinOut), s.twn.outq.find? (fun f => f.seq = seq) = some f →
    f.sentAt + 4000 ≤ s.now → s.twn.link = 3 → 8 ≤ f.resends →
      exec (.twinResend seq) s = .next (isoCheck (twinDown s) 5)) ∧
  (∀ (s : State) (w : MirrorWait), s.twn.waits.find? (fun w => w.until_ ≤ s.now) = some w →
      exec .mirrorReplyTimeout s
        = .next (diverged (releaseWait s w) w.opcode w.fin.status.code Status.failedTimeout.code)) ∧
  (∀ (s t u : State) (t0 : Nat), s.twn.takeoverAt = some t0 → s.twn.role = roleTaking →
    t = (mirroredConns s).foldl (fun s n => abortSlots s n 3) s →
    u = (if t.twn.armFlip then (requestFlip t).2 else t) →
      exec .takeoverComplete s = .next (logEvent { u with twn := { u.twn with
        role := rolePrimary, takeoverAt := none, takeoverNs := (u.now - t0) % 2 ^ 32
        slotsAborted := min ((mirroredConns s).map (fun n => ((connOf s n).map Conn.inFlight).getD 0)).sum 65535 } }
          0x0077 0xFFF [.num 8 (u.now - t0)]))

/-- The shipped storage library answers as the tables say, and runs in no other table set. A submission whose opcode is not
0x40, or that breaks checks 2 or 3 of Table 10.6, is dropped with its status and counted, and any other reads its connection
and is handed off (R296, R297); a connection that is FREE, and each reason of a refused hand-off, drop it with the status and
the counter of Table 10.6. A completion queue entry whose identifier names no command of its generation is discarded and counted
(R295); one for an ACTIVE command completes it with its status and result, one for an EXPIRED command completes it with
FAILED_TIMEOUT, and one for a QUARANTINED slot releases the slot (R305, R306). The plan of steps is the model's (log entry
125). -/
def Obligations.StorageLibraryAnswers : Prop :=
  (∀ (s : State) (k : Pkt), (bankOf s k.bank).shipped = false → libStart s k = none) ∧
  (∀ (s : State) (k : Pkt) (bs : List Nat) (e : StgCmd), (bankOf s k.bank).shipped = true → 16 ≤ k.entry → k.entry ≤ 23 →
    k.lib = none → k.conn = none → bs = rawBytes (pktBytes s k) → e = StgCmd.ofBytes bs →
      (bs.getD 0 0 ≠ 0x40 →
        libStart s k = some { conn := e.conn, fid := k.fid, turn := false, plan := [.drop cStgBadEntry 0x20] }) ∧
      (bs.getD 0 0 = 0x40 → (e.bad (bs.length / 32) = true ∨ xtsBad s k.fid e = true) →
        libStart s k = some { conn := e.conn, fid := k.fid, turn := false, plan := [.drop cStgBadEntry 0x21] }) ∧
      (bs.getD 0 0 = 0x40 → e.bad (bs.length / 32) = false → xtsBad s k.fid e = false →
        libStart s k = some { conn := e.conn, fid := k.fid, turn := false, plan := [.get, .handoff false, .finish] })) ∧
  (∀ (s : State) (p : Nat) (k : Pkt) (r : LibRun) (rest : List LibOp) (reason : Nat), r.turn = false →
      (r.plan = .get :: rest → libAfter s p k r .miss reason = { r with plan := [.drop cStgConnAbsent 0x13] }) ∧
      (r.plan = .handoff false :: rest → libAfter s p k r .done reason = { r with plan := rest } ∧
        ∀ e ∈ [(0x01, cStgConnNotActive, 0x13), (0x02, cStgConnForeign, 0x14), (0x03, cStgCmdLimit, 0x10),
          (0x04, cStgCmdLimit, 0x10), (0x05, cStgTurnFull, 0x12)],
          libAfter s p k r .refusedState e.1 = { r with plan := [.drop e.2.1 e.2.2] })) ∧
  (∀ (a : LibAcc) (dw0 cid sf i : Nat), i = cid % 64 →
      (a.slotSt cid = 0 → a.cqe dw0 cid sf = { a with ops := a.ops ++ [.count a.c.owner cStgBadCid] }) ∧
      (a.slotSt cid = 1 → ((tget a.rc.cmds i).map (·.bad)).getD false = false →
        (a.cqe dw0 cid sf).c = { a.c with slots := tset a.c.slots i { tgetD a.c.slots i {} with st := 0 } } ∧
        (a.cqe dw0 cid sf).ops = a.ops ++ .complete i false 0x00 (sf % 32768 + 32768) cid dw0 ::
          (if sf % 32768 = 0 then [] else [.count a.c.owner cStgNvmeError])) ∧
      (a.slotSt cid = 2 →
        (a.cqe dw0 cid sf).c = { a.c with slots := tset a.c.slots i { tgetD a.c.slots i {} with st := 0 } } ∧
        (a.cqe dw0 cid sf).ops = a.ops ++ [.complete i false 0x31 0 cid 0, .count a.c.owner cStgCmdTimeout]) ∧
      (a.slotSt cid = 3 →
        (a.cqe dw0 cid sf).c = { a.c with slots := tset a.c.slots i { tgetD a.c.slots i {} with st := 0 } } ∧
        (a.cqe dw0 cid sf).ops = a.ops ++ [.release i, .count a.c.owner cStgLateResponse]))

/-- What a command leaves alone: a command changes only the parts of the state that `touches` lists for it. No command
changes the commands that wait or the time, and only the commands listed with `fuses`, `life` or `limits` change a fuse, the
life-cycle state or one of the limits. -/
def Obligations.CommandsKeepToTheirParts : Prop :=
  ∀ (i : Instr) (s t : State), exec i s = .next t → ChangesOnly (touches i) s t

/-- A step takes the command at the front of the queue and is that command's execution with the rest of the queue left
waiting. -/
def Obligations.StepRunsFrontCommand : Prop :=
  ∀ (c : Instr) (rest : List Instr) (s : State), Machine.step { s with pending := c :: rest } = exec c { s with pending := rest }

/-- The queue is first in, first out: a step that goes on leaves the commands that waited behind the front one, in their
order, and nothing else waits. -/
def Obligations.StepTakesOneCommand : Prop :=
  ∀ s t : State, Machine.step s = .next t → t.pending = s.pending.tail

/-- With no command waiting, a step goes on and one nanosecond passes (the model's choice, log entry 3): the instant `now`
advances by one; no command appears; the fuses are as before. After the replies that no longer wait for records have gone out
(the state `u`, which is `s` where no command waits for its reply), TIME advances by 2^32 plus the signed rate correction, in
units of 2^-32 ns (R209), while it runs and its clock domain runs, and else stands still; the rings are as they were; and the
cipher SAs too, where no frame waits behind a mirrored command. -/
def Obligations.IdleStepPassesTime : Prop :=
  ∀ s : State, s.pending = [] → ∃ t u : State, Machine.step s = .next t ∧ t.now = s.now + 1 ∧ t.pending = [] ∧
    t.fuses = s.fuses ∧ u = endSaWaits s ∧ (s.stw.fore = [] → u = s) ∧
    (u.mac.timeRunning = true → (domOf u 24).running = true →
      t.mac.timeNs = u.mac.timeNs + BitVec.ofNat 64 ((u.mac.timeSub + (2 ^ 32 + u.mac.freqAdj.toInt).toNat) / 2 ^ 32) ∧
      t.mac.timeSub = (u.mac.timeSub + (2 ^ 32 + u.mac.freqAdj.toInt).toNat) % 2 ^ 32) ∧
    ((u.mac.timeRunning = false ∨ (domOf u 24).running = false) → t.mac = u.mac) ∧
    t.qm = u.qm ∧ (u.twn.rxq = [] → t.cip.sas = u.cip.sas)

/-- What is burned stays burned, whatever step is taken and from whatever state: no floor falls (R477), no key slot that the
revocation mask names is cleared (R492: the mask of a package is ORed into the fuses), and an owner key that is burned is never
changed (R492: a conflicting field refuses the package). -/
def Obligations.FusesOnlyGrow : Prop :=
  ∀ s t : State, Machine.step s = .next t →
    (∀ c : Nat, floorOf s c ≤ floorOf t c) ∧ (∀ k : Nat, s.fw.revoked.testBit k = true → t.fw.revoked.testBit k = true) ∧
      (s.fw.ownerKey ≠ [] → t.fw.ownerKey = s.fw.ownerKey)

/-- The life cycle follows Table 16.7 in every state and whatever step is taken (R455, R458): the state of the part changes
only along a transition of the table, DECOMMISSIONED has no exit, and the target of a change that is under way or recorded stays
one that the table allows from the state of the part, or is that state. -/
def Obligations.LifeCycleFollowsTable : Prop :=
  ∀ s t : State, lifeSound s = true → Machine.step s = .next t → lifeSound t = true ∧
    (t.alm.lcState = s.alm.lcState ∨ (lcAuthority s.alm.lcState t.alm.lcState).isSome = true) ∧
    (s.alm.lcState = 4 → t.alm.lcState = 4)

/-- A limit that is in its range stays in it, whatever step is taken: a write outside the range is discarded, wherever it comes
from (R152, R183, R223, R267, R472). -/
def Obligations.LimitsStayInRange : Prop :=
  ∀ s t : State, limitsSound s = true → Machine.step s = .next t → limitsSound t = true

/-- What stands before every Steward command's own rules, in the order of Table 14.5: a packet that waits on its path changes
nothing: its Steward is not ready or has a command in the foreground, or the command is a mirrored one that runs as a packet
alone (R384, R405, R450). A packet whose issuer does not fit its path fails check 4, and an opcode that is not open to its path
or issuer fails check 6, both with REFUSED_PERMISSION, counted in `stw_denied` of the path's set (R403, R404, R408); during a
life-cycle change every other packet is refused, by check 8 where a parameter is out of its range, and else by check 9 with
REFUSED_BUSY (R404, R457). Nothing else of the command happens, but for two: CHANGE_LIFE_CYCLE_STATE draws a new nonce whatever
its outcome (R456), and SNAPSHOT_COUNTERS notes the instant of its execution (R430). An INSTALL_SA of a number that is free and
has unfinished records waits for them and changes nothing. -/
def Obligations.StewardCommandsRefused : Prop :=
  (∀ (s : State) (m : Meta) (sa : Nat) (prm : SaParams), recordsOn s sa = true → tget s.cip.sas sa = none →
      exec (.installSa m sa prm) s = .next s) ∧
  (∀ (i : Instr) (s : State) (m : Meta) (op : Nat), stewardOf i = some (m, op) → cmdWaits s m op = true →
      exec i s = .next s) ∧
  (∀ (i : Instr) (s u : State) (m : Meta) (op : Nat), stewardOf i = some (m, op) → cmdWaits s m op = false →
    (∀ (sa : Nat) (prm : SaParams), i = .installSa m sa prm → recordsOn s sa = false ∨ (tget s.cip.sas sa).isSome = true) →
    u = (if op = 0x0B01 then stampSnapshot s m else s) →
    (issuerOk m = false → ∃ t : State,
      t = denyCheck (began u m op) m op (packetOf u m op) 4 0xFFFF .refusedPermission cStwDenied ∧
      exec i s = .next (if op = 0x0A05 then freshNonce t else t)) ∧
    (issuerOk m = true → opcodeOpen s m op = false → ∃ t : State,
      t = denyCheck (began u m op) m op (packetOf u m op) 6 0xFFFF .refusedPermission cStwDenied ∧
      exec i s = .next (if op = 0x0A05 then freshNonce t else t)) ∧
    (issuerOk m = true → opcodeOpen s m op = true → s.stw.lcChange = true → ∃ t : State,
      (t = denyCheck (began u m op) m op (packetOf u m op) 9 0xFFFF .refusedBusy cStwBusy ∨
        ∃ k, t = denyCheck (began u m op) m op (packetOf u m op) 8 k .badParam cStwBadPacket) ∧
      exec i s = .next (if op = 0x0A05 then freshNonce t else t)))

/-- The commands of the Granary, of switching, of the cipher lanes, of the storage initiator, of the twin link and of the haul
engine that a mailbox sends, and every other command but those open to every function, complete with REFUSED_PERMISSION: a
mailbox is a virtual function's or PF1's, and never the manager's. The refusal is counted in `stw_denied` of the function that
sent it, its answer says check 6, and nothing but the packet, the counters, the mailbox and its signal has changed; a
CHANGE_LIFE_CYCLE_STATE draws a new nonce as well (R456). -/
def Obligations.OnlyTheManagerCommands : Prop :=
  ∀ (i : Instr) (s : State) (m : Meta) (op : Nat), stewardOf i = some (m, op) → m.path = .mailbox → issuerOk m = true →
    cmdWaits s m op = false → op ∉ [0x0101, 0x0309, 0x0904, 0x0B01] →
    (∀ (sa : Nat) (prm : SaParams), i = .installSa m sa prm → recordsOn s sa = false ∨ (tget s.cip.sas sa).isSome = true) →
    ∃ t : State, t = answer (count (began s m op) m.fid cStwDenied) m op (packetOf s m op) 6
        { status := .refusedPermission, item := 0xFFFF } ∧
      exec i s = .next (if op = 0x0A05 then freshNonce t else t) ∧ ChangesOnly [.stw, .fns, .cnt, .pci, .out] s t

/-- R121: a destroy command for a ring that is not STOPPED completes with REFUSED_BUSY, whatever the ring's type; and the state
it leaves is the one it found. -/
def Obligations.DestroyNeedsStopped : Prop :=
  ∀ (s b : State) (m : Meta) (type ring : Nat), Starts s b m 0x0304 [.ring type ring] false → ring < 16384 →
    (∀ r, type = 1 → ringOf b false ring = some r → r.st ≠ .stopped →
      exec (.destroyRing m type ring) s = endsIn s m 0x0304 b { status := .refusedBusy }) ∧
    (∀ r, type = 2 → ringOf b true ring = some r → r.st ≠ .stopped →
      exec (.destroyRing m type ring) s = endsIn s m 0x0304 b { status := .refusedBusy }) ∧
    (∀ c, type = 3 → cqOf b ring = some c → c.st ≠ .stopped →
      exec (.destroyRing m type ring) s = endsIn s m 0x0304 b { status := .refusedBusy })

/-- R86: a create command whose ring is not of a power of two from 64 to 65,536 units, whose base address is not aligned to the
ring's size in bytes or to 4 KiB, whichever is smaller, or whose completion counter address is not 4-byte aligned, completes
with BAD_PARAM and creates nothing. A unit is 32 bytes of a transmit or receive ring, and 16 bytes of a completion ring. The
packet has passed the checks that come before its parameters (Table 14.5). -/
def Obligations.MisshapenRingRefused : Prop :=
  (∀ (s : State) (m : Meta) (fid window base sizeLog2 cq pipeline program weight burst : Nat),
    cmdWaits s m 0x0301 = false → issuerOk m = true →
    opcodeOpen s m 0x0301 = true →
    (sizeLog2 < 6 ∨ 16 < sizeLog2 ∨ base % min (2 ^ sizeLog2 * 32) 4096 ≠ 0) →
    ∃ (k : Nat) (t : State), exec (.createTransmitRing m fid window base sizeLog2 cq pipeline program weight burst) s = .next t ∧
      t = denyCheck (began s m 0x0301) m 0x0301 (packetOf s m 0x0301) 8 k .badParam cStwBadPacket ∧ t.qm = s.qm) ∧
  (∀ (s : State) (m : Meta) (fid window base sizeLog2 cq : Nat) (ts : Bool),
    cmdWaits s m 0x0302 = false → issuerOk m = true →
    opcodeOpen s m 0x0302 = true →
    (sizeLog2 < 6 ∨ 16 < sizeLog2 ∨ base % min (2 ^ sizeLog2 * 32) 4096 ≠ 0) →
    ∃ (k : Nat) (t : State), exec (.createReceiveRing m fid window base sizeLog2 cq ts) s = .next t ∧
      t = denyCheck (began s m 0x0302) m 0x0302 (packetOf s m 0x0302) 8 k .badParam cStwBadPacket ∧ t.qm = s.qm) ∧
  (∀ (s : State) (m : Meta) (fid window base sizeLog2 ctrAddr msix : Nat),
    cmdWaits s m 0x0303 = false → issuerOk m = true →
    opcodeOpen s m 0x0303 = true →
    (sizeLog2 < 6 ∨ 16 < sizeLog2 ∨ base % min (2 ^ sizeLog2 * 16) 4096 ≠ 0 ∨ ctrAddr % 4 ≠ 0) →
    ∃ (k : Nat) (t : State), exec (.createCompletionRing m fid window base sizeLog2 ctrAddr msix) s = .next t ∧
      t = denyCheck (began s m 0x0303) m 0x0303 (packetOf s m 0x0303) 8 k .badParam cStwBadPacket ∧ t.qm = s.qm)

/-- R181: a destroy command for a table that a step names in a bank that is not IDLE completes with REFUSED_BUSY, and so does
one for a table with a locked bucket; the state it leaves is the one it found. -/
def Obligations.NamedTableIsKept : Prop :=
  ∀ (s b : State) (m : Meta) (table : Nat), Starts s b m 0x0502 [.table table] true → table < 16 →
    (tget b.fwt.tables table).isSome = true →
    (bankNames b.seq.bankA table = true ∨ bankNames b.seq.bankB table = true ∨
      ∃ p ∈ [0, 1, 2, 3], ∃ e ∈ (fpOf b p).locks, e.1 / 2 ^ 23 = table) →
    exec (.destroyTable m table) s = endsIn s m 0x0502 b { status := .refusedBusy }

/-- R114: a consumer write of `v` to a completion ring at a window is legal when Pc - v is at most Pc - C and at most the ring's
size; a legal write sets C to `v`, and any other is violation 0x05, with the window and the value in its detail. The write
reaches its function, and the function is not in the stocks. -/
def Obligations.ConsumerWriteMovesC : Prop :=
  ∀ (s : State) (fid w n : Nat) (v : W32) (c : CqRing), memReach s fid = true → isFrozen s fid = false → w < windowsOf fid →
    atWindow s fid w = some (.cq n c) →
    ((c.pc - v).toNat ≤ (c.pc - c.c).toNat ∧ (c.pc - v).toNat ≤ 2 ^ c.sizeLog2 →
      ∃ (t : State) (d : CqRing), exec (.completionConsumerWrite fid w v.toNat) s = .next t ∧ cqOf t n = some d ∧ d.c = v) ∧
    (¬ ((c.pc - v).toNat ≤ (c.pc - c.c).toNat ∧ (c.pc - v).toNat ≤ 2 ^ c.sizeLog2) →
      exec (.completionConsumerWrite fid w v.toNat) s =
        .next (violate s fid 0x05 (c.window % 256 + v.toNat % 2 ^ 24 * 256) 0))

/-- R339: in each window [k ms, (k + 1) ms) of TIME a function may submit `mbx_per_ms` mailbox commands. The first submission
beyond them is violation 0x08, and it is not executed: its mailbox is as it was. A submission within them is counted, and makes
a mailbox that is not BUSY BUSY. -/
def Obligations.MailboxRateHolds : Prop :=
  ∀ (s : State) (fid used : Nat), mbxReach s fid = true → isFrozen s fid = false →
    used = (if (fnOf s fid).mbx.window = timeNow s / 1000000 then (fnOf s fid).mbx.count else 0) →
    ((fnOf s fid).mbxPerMs ≤ used → ∃ u : State,
      u = setFn s fid { fnOf s fid with mbx := { (fnOf s fid).mbx with window := timeNow s / 1000000, count := used + 1 } } ∧
      exec (.mailboxDoorbell fid 1) s = .next (violate u fid 0x08 (used + 1) 0) ∧
      (fnOf (violate u fid 0x08 (used + 1) 0) fid).mbx.st = (fnOf s fid).mbx.st) ∧
    (used < (fnOf s fid).mbxPerMs → (fnOf s fid).mbx.st ≠ 1 → ∃ t : State, exec (.mailboxDoorbell fid 1) s = .next t ∧
      (fnOf t fid).mbx.st = 1 ∧ (fnOf t fid).mbx.window = timeNow s / 1000000 ∧ (fnOf t fid).mbx.count = used + 1)

/-- A function in the stocks gets nothing from the units that act for it (R335, before any other check of the unit): a step of
GRN, CIP, DMAW, DMAR, HAUL, LKP_HOT, LKP_RLD, FWT_UPD, POLICE or XMIT that names a frozen FID ends with FROZEN, and an STG
CONN_GET step with REFUSED_STATE and reason 0x0A, and does nothing else. The FID is the acting FID that the
operation names, and for XMIT w26[35:24] of the packet. An offence in the very instant in which the FID entered the stocks is
counted and joins the record of its violation (R336), in every such step but those of GRN ALLOC, CIP and STG, which commit
none. -/
def Obligations.FrozenFunctionGetsNothing : Prop :=
  (∀ (s : State) (p c : Nat) (x : StepIn) (i : Instr), isFrozen s (bits 11 0 x.bv) = true →
    ((Issues s p c 8 1 x ∧ i = .grnFree p c) ∨ (Issues s p c 10 0 x ∧ i = .dmawDeliver p c) ∨
      (Issues s p c 13 0 x ∧ i = .haulStart p c)) →
    ∃ u, Joins s (bits 11 0 x.bv) u ∧ exec i s = .next (done u x .frozen)) ∧
  (∀ (s : State) (p c : Nat) (x : StepIn) (i : Instr), isFrozen s (bits 43 32 x.bv) = true →
    ((Issues s p c 4 0 x ∧ i = .lkpHotLookup p c) ∨ (Issues s p c 5 0 x ∧ i = .lkpRldLookup p c) ∨
      (Issues s p c 6 0 x ∧ i = .fwtLearn p c) ∨ (Issues s p c 6 1 x ∧ i = .fwtRefresh p c) ∨
      (Issues s p c 6 2 x ∧ i = .fwtWriteFlow p c)) →
    ∃ u, Joins s (bits 43 32 x.bv) u ∧ exec i s = .next (done u x .frozen)) ∧
  (∀ (s : State) (p c : Nat) (x : StepIn), isFrozen s (bits 43 32 x.av) = true → Issues s p c 7 0 x →
    ∃ u, Joins s (bits 43 32 x.av) u ∧ exec (.policeMeter p c) s = .next (done u x .frozen)) ∧
  (∀ (s : State) (p c : Nat) (x : StepIn), isFrozen s (bits 51 40 x.bv) = true → Issues s p c 11 0 x →
    ∃ u, Joins s (bits 51 40 x.bv) u ∧ exec (.dmarRead p c) s = .next (done u x .frozen)) ∧
  (∀ (s : State) (p c : Nat) (x : StepIn) (i : Instr), isFrozen s (bits 35 24 (x.k.val 26)) = true →
    ((Issues s p c 12 0 x ∧ i = .xmitClass p c) ∨ (Issues s p c 12 1 x ∧ i = .xmitLoop p c) ∨
      (Issues s p c 12 2 x ∧ i = .xmitMirror p c)) →
    ∃ u, Joins s (bits 35 24 (x.k.val 26)) u ∧ exec i s = .next (done u x .frozen)) ∧
  (∀ (s : State) (p c : Nat) (x : StepIn), isFrozen s (bits 11 0 x.bv) = true → Issues s p c 8 0 x →
    exec (.grnAlloc p c) s = .next (doneW s x .frozen 0 false)) ∧
  (∀ (s : State) (p c : Nat) (x : StepIn), isFrozen s (recOp x).fid = true → Issues s p c 9 0 x →
    exec (.cipRecord p c) s = .next (doneW s x .frozen 0 false)) ∧
  (∀ (s : State) (p c : Nat) (x : StepIn), isFrozen s (bits 11 0 x.bv) = true → Issues s p c 15 0 x →
    exec (.connGet p c) s = .next (doneW s x .refusedState 0x0A false))

/-- A step with poison_ok = 0 whose operand, or whose addressed header bytes, carry the poison mark does not execute: its unit
returns FAILED_PARITY, and the step does nothing else (R67). Said of the steps of ALU, CNT, HASH, GRN FREE,
DMAR, HAUL and POLICE, whose function is not in the stocks. -/
def Obligations.PoisonedOperandIsRefused : Prop :=
  (∀ (s : State) (p c : Nat) (x : StepIn) (i : Instr), x.w.poisonOk = false → (x.a.p || x.bOrImm.p) = true →
    ((Issues s p c 1 1 x ∧ i = .aluAdd p c) ∨ (Issues s p c 1 2 x ∧ i = .aluSub p c) ∨ (Issues s p c 1 3 x ∧ i = .aluAnd p c) ∨
      (Issues s p c 1 4 x ∧ i = .aluOr p c) ∨ (Issues s p c 1 5 x ∧ i = .aluXor p c) ∨ (Issues s p c 1 7 x ∧ i = .aluCmpEq p c) ∨
      (Issues s p c 1 8 x ∧ i = .aluCmpLt p c)) → exec i s = .next (done s x .failedParity)) ∧
  (∀ (s : State) (p c : Nat) (x : StepIn) (i : Instr), x.w.poisonOk = false → x.a.p = true →
    ((Issues s p c 1 0 x ∧ i = .aluMove p c) ∨ (Issues s p c 1 6 x ∧ i = .aluShift p c) ∨
      (Issues s p c 14 0 x ∧ i = .cntInc p c) ∨ (Issues s p c 14 1 x ∧ i = .cntAdd p c)) →
    exec i s = .next (done s x .failedParity)) ∧
  (∀ (s : State) (p c : Nat) (x : StepIn), x.w.poisonOk = false → hdrOk x = true → Issues s p c 1 0x10 x →
    anyPoison (slice (window s x.k) (hdrRange x).1 (hdrRange x).2) = true →
    exec (.loadHdr p c) s = .next (done s x .failedParity)) ∧
  (∀ (s : State) (p c : Nat) (x : StepIn), x.w.poisonOk = false → Issues s p c 1 0x11 x →
    (x.a.p = true ∨ (hdrOk x = true ∧ anyPoison (slice (window s x.k) (hdrRange x).1 (hdrRange x).2) = true)) →
    exec (.storeHdr p c) s = .next (done s x .failedParity)) ∧
  (∀ (s : State) (p c : Nat) (x : StepIn) (i : Instr), x.w.poisonOk = false →
    wordsPoisoned x.k x.w.srcA ((bits 5 0 x.imm + 7) / 8) = true →
    ((Issues s p c 3 0 x ∧ i = .hashCrc32c p c) ∨ (Issues s p c 3 1 x ∧ i = .hashCrc32 p c) ∨
      (Issues s p c 3 2 x ∧ i = .hashToeplitz p c)) → exec i s = .next (done s x .failedParity)) ∧
  (∀ (s : State) (p c : Nat) (x : StepIn) (i : Instr), x.w.poisonOk = false → (x.a.p || x.b.p) = true →
    ((Issues s p c 8 1 x ∧ i = .grnFree p c ∧ isFrozen s (bits 11 0 x.bv) = false) ∨
      (Issues s p c 11 0 x ∧ i = .dmarRead p c ∧ isFrozen s (bits 51 40 x.bv) = false) ∨
      (Issues s p c 13 0 x ∧ i = .haulStart p c ∧ isFrozen s (bits 11 0 x.bv) = false) ∨
      (Issues s p c 7 0 x ∧ i = .policeMeter p c ∧ isFrozen s (bits 43 32 x.av) = false)) →
    exec i s = .next (done s x .failedParity))

/-- R46: XMIT CLASS takes its port from imm[7:0], the mask of permitted classes from imm[15:8] and the class from src_a; a class
outside the mask ends the step with BAD_OPERAND and places nothing: no port changes, and no cell of the Granary but where the
storage library goes on to prepare its next step. The packet's turn has come (R18), its function is not in the stocks, and
its operands are clean. -/
def Obligations.ClassOutsideMaskRefused : Prop :=
  ∀ (s : State) (p c : Nat) (x : StepIn), Issues s p c 12 0 x →
    isFrozen s x.k.fid = false → Clean x (x.a.p || x.b.p || (x.k.word 26).p || anyPoison (pktBytes s x.k)) →
    mustWait s p x.k (.port (bits 7 0 x.imm) (bits 2 0 x.av)) = false →
    (bits 15 8 x.imm).testBit (bits 2 0 x.av) = false →
    exec (.xmitClass p c) s = .next (done s x .badOperand) ∧ (done s x .badOperand).mac = s.mac ∧
      (x.k.lib = none → (done s x .badOperand).grn = s.grn)

/-- No state of a step engine goes from one packet to another (R17, R55): a step of ALU, PARSE or HASH that issues changes no
context but its own, in no pipeline, and of the rest of the part only what its entry to the poison handler counts and logs (R68);
its packet keeps its place in its pipeline's order. -/
def Obligations.StepKeepsToItsContext : Prop :=
  ∀ (s : State) (p c : Nat) (x : StepIn) (i : Instr), p < 4 →
    ((Issues s p c 1 0 x ∧ i = .aluMove p c) ∨ (Issues s p c 1 1 x ∧ i = .aluAdd p c) ∨ (Issues s p c 1 2 x ∧ i = .aluSub p c) ∨
      (Issues s p c 1 3 x ∧ i = .aluAnd p c) ∨ (Issues s p c 1 4 x ∧ i = .aluOr p c) ∨ (Issues s p c 1 5 x ∧ i = .aluXor p c) ∨
      (Issues s p c 1 6 x ∧ i = .aluShift p c) ∨ (Issues s p c 1 7 x ∧ i = .aluCmpEq p c) ∨
      (Issues s p c 1 8 x ∧ i = .aluCmpLt p c) ∨ (Issues s p c 1 0x10 x ∧ i = .loadHdr p c) ∨
      (Issues s p c 1 0x14 x ∧ i = .readTime p c) ∨ (Issues s p c 2 0 x ∧ i = .parseL2 p c) ∨
      (Issues s p c 2 1 x ∧ i = .parseL3 p c) ∨ (Issues s p c 2 2 x ∧ i = .parseL4 p c) ∨
      (Issues s p c 2 3 x ∧ i = .parseTunnel p c) ∨ (Issues s p c 2 4 x ∧ i = .parseStoragePdu p c) ∨
      (Issues s p c 3 0 x ∧ i = .hashCrc32c p c) ∨ (Issues s p c 3 1 x ∧ i = .hashCrc32 p c) ∨
      (Issues s p c 3 2 x ∧ i = .hashToeplitz p c)) →
    ∃ t : State, exec i s = .next t ∧ ChangesOnly [.dev, .cnt, .seq] s t ∧
      (∀ q d : Nat, q < 4 → (q ≠ p ∨ d ≠ c) → tget (pipeOf t q).ctxs d = tget (pipeOf s q).ctxs d) ∧
      (∃ k : Pkt, tget (pipeOf t p).ctxs c = some k ∧ k.ord = x.k.ord ∧ k.chains = x.k.chains) ∧
      ∀ q : Nat, q < 4 → (pipeOf t q).parked = (pipeOf s q).parked

/-- ALU STORE_HDR stores into its packet's frame and nowhere else: imm[11:9] + 1 bytes of A at offset imm[8:0], the most
significant first, or the least significant first when imm[12] is 1 (R80, Table 2.21). In the chain that w24 names, where it
has one cell, the bytes before and behind are as they were; every cell outside the chain holds what it held. -/
def Obligations.StoreHdrWritesItsBytes : Prop :=
  ∀ (s : State) (p c o n : Nat) (x : StepIn), Issues s p c 1 0x11 x → Clean x x.a.p →
    o = bits 8 0 x.imm → n = bits 11 9 x.imm + 1 → o + n ≤ x.k.len → o + n ≤ 512 →
    Clean x (anyPoison (slice (window s x.k) o n)) →
    ∃ t : State, exec (.storeHdr p c) s = .next t ∧
      (∀ cell : Nat, cell ∉ chainOf s x.k.handle → cellBytes t cell = cellBytes s cell) ∧
      (∀ cell : Nat, chainOf s x.k.handle = [cell] → (cellBytes s cell).length = 256 → o + n ≤ 256 →
        cellBytes t cell = (cellBytes s cell).take o ++
          (if bitOf 12 x.imm then leBytes n x.av else beBytes n x.av).map (fun b => ⟨BitVec.ofNat 8 b, x.a.p⟩) ++
          (cellBytes s cell).drop (o + n)) ∧
      t.grn.bufs = s.grn.bufs ∧ ChangesOnly [.dev, .cnt, .seq, .grn] s t

/-- What reset leaves in the registers for which the register maps state a value: the paths' class masks, the service port and the
mailbox selector (Table 14.17), the scrub rate and the four on-chip pools (R152), the ager and the lock limit (R183), the loop
share (R239), the claim limit (R267), PF0 and PF1 active with the whole of their space in window 0 (R346), channel 15 with
the Steward and every other channel ungranted (R289), and the two clock domains that run (R472). -/
def Obligations.ResetLeavesTheMapsValues : Prop :=
  let s := State.reset
  s.stw.svcMask = 0x0E01 ∧ s.stw.mctpMask = 0x0E01 ∧ s.stw.udpPort = 0x1640 ∧ s.stw.mbxSel = 1 ∧
    s.grn.scrubRate = 100 ∧ s.grn.pools.map (fun q => (q.1, q.2.kind, q.2.sizeLog2, q.2.count)) =
      [(0, 3, 8, 0x10000), (1, 3, 8, 0x4000), (2, 3, 8, 0x2000), (3, 3, 8, 0x2000)] ∧
    s.fwt.agerEnable = true ∧ s.fwt.agerRate = 32 ∧ s.fwt.lockLimitUs = 100 ∧ s.sw.loopMax = 0x400 ∧
    s.cip.claimLimitUs = 100 ∧
    (∀ fid : Nat, (fnOf s fid).st = if fid ≤ 1 then .active else .absent) ∧
    (∀ fid : Nat, fid ≤ 1 → tget (fnOf s fid).windows 0 = some Win.whole) ∧
    (∀ c : Nat, (chanOf s c).st = if c = 15 then .idle else .ungranted) ∧
    (∀ d : Nat, (tgetD s.alm.domains d {}).running = decide (d = 1 ∨ d = 2))

/-- The invariants of this file hold of the machine right after reset: no life-cycle change is under way, every limit is in its
range (R152, R183, R223, R267, R472), nothing is burned, and no command waits (log entry 7). -/
def Obligations.ResetIsSound : Prop :=
  lifeSound State.reset = true ∧ State.reset.stw.lcChange = false ∧ State.reset.alm.wipePending = false ∧
    limitsSound State.reset = true ∧ State.reset.fw.ownerKey = [] ∧ State.reset.fw.revoked = 0 ∧
    (∀ c : Nat, floorOf State.reset c = 0) ∧ State.reset.pending = [] ∧ Machine.step State.reset = .next (tickNs State.reset)

/-- A read of a BAR returns bytes of the registers it covers (R9, R11, R356): within an 8-byte or a 4-byte register the bytes
addressed of its value, zero where no register lies; a function that memory requests do not reach, and a read longer than 8
bytes, give no data. That a read of an empty place in a doorbell window gives zero is the model's choice (log entry 111). -/
def Obligations.ReadsReturnRegisterBytes : Prop :=
  (∀ (s : State) (fid off v i n : Nat), memReach s fid = true → off % 8 = 0 → regRead s fid off = some (8, v) →
    1 ≤ n → i + n ≤ 8 →
      barRead s fid (off + i) n = some ((List.range n).map (fun j => v / 256 ^ (i + j) % 256))) ∧
  (∀ (s : State) (fid off v i n : Nat), memReach s fid = true → off % 4 = 0 → regRead s fid off = some (4, v) →
    (∀ x, regRead s fid (off / 8 * 8) ≠ some (8, x)) → 1 ≤ n → i + n ≤ 4 →
      barRead s fid (off + i) n = some ((List.range n).map (fun j => v / 256 ^ (i + j) % 256))) ∧
  (∀ (s : State) (fid a : Nat), memReach s fid = true → regRead s fid (a / 8 * 8) = none → regRead s fid (a / 4 * 4) = none →
      barRead s fid a 1 = some [0]) ∧
  (∀ (s : State) (fid off n : Nat), memReach s fid = false ∨ n = 0 ∨ 8 < n → barRead s fid off n = none)

/-- A writable register reads as the value written (R12): a field of the map takes the bits of the write, reserved bits read
zero, and a value outside the range of its map leaves the register as it was (R152, R183, R217, R267, R472). A selector shows
what it selects (R346), and a bit that a 1 clears is left alone by a 0. -/
def Obligations.RegistersReadBack : Prop :=
  ∀ (s : State) (v : Nat), memReach s 0 = true → v < 2 ^ 32 →
    WriteReads s 0x100044 4 v (v % 2 ^ 16) ∧
    WriteReads s 0x100048 4 v (v % 2 ^ 12) ∧
    WriteReads s 0x20000C 4 v (v % 2 ^ 3 + b2n s.seq.loLatched.isSome * 8) ∧
    (v % 2 ^ 16 ≤ 400 → WriteReads s 0x60000C 4 v (v % 2 ^ 16)) ∧
    (400 < v % 2 ^ 16 → WriteReads s 0x60000C 4 v (s.grn.scrubRate % 2 ^ 16)) ∧
    (10 ≤ v % 2 ^ 10 → v % 2 ^ 10 ≤ 1000 → WriteReads s 0x700010 4 v (v % 2 ^ 10)) ∧
    (v % 2 ^ 10 < 10 ∨ 1000 < v % 2 ^ 10 → WriteReads s 0x700010 4 v (s.fwt.lockLimitUs % 2 ^ 10)) ∧
    (v ≤ 2147483 ∨ 2 ^ 32 - 2147483 ≤ v → WriteReads s 0x800030 4 v v) ∧
    (2147483 < v → v < 2 ^ 32 - 2147483 → WriteReads s 0x800030 4 v s.mac.freqAdj.toNat) ∧
    (10 ≤ v % 2 ^ 10 → v % 2 ^ 10 ≤ 1000 → WriteReads s 0x90000C 4 v (v % 2 ^ 10)) ∧
    (v % 2 ^ 16 ≤ 20000 ∨ 2 ^ 16 - 20000 ≤ v % 2 ^ 16 → WriteReads s 0xE0001C 4 v (v % 2 ^ 16)) ∧
    WriteReads s 0xC00040 4 v (v % 2 ^ 12) ∧
    (∃ t : State, exec (.registerWrite 0 0xC00040 4 v) s = .next t ∧
      regRead t 0 0xC00048 = some (8, fnState (fnOf s (v % 2 ^ 12)) (vfShown s (v % 2 ^ 12))) ∧
      regRead t 0 0xC00050 = some (8, fnViol (fnOf s (v % 2 ^ 12)))) ∧
    (∃ t : State, exec (.registerWrite 0 0xE00040 4 v) s = .next t ∧
      ∃ x y, regRead s 0 0xE00040 = some (4, x) ∧ regRead t 0 0xE00040 = some (4, y) ∧
        x = y + (if bitOf 8 v then b2n s.alm.faultSeen else 0) * 2 ^ 8)
end

