-- ==== Sys2Proof/Laws/Base.lean ====
section
/-! SUPPORT. The sparse tables: a read after a write, the canonical form, and the searches over numbers. -/

namespace Sys2Proof.Machine

variable {α : Type}

@[simp] theorem tget_nil (i : Nat) : tget ([] : Tbl α) i = none := rfl

/-- A read at the index just written gives what was written. -/
@[simp] theorem tget_tset_self (t : Tbl α) (i : Nat) (x : α) : tget (tset t i x) i = some x := by
  induction t with
  | nil => simp [tset, tget]
  | cons e t ih =>
    obtain ⟨k, v⟩ := e
    unfold tset
    split
    · simp [tget]
    · split
      · simp [tget]
      · rename_i h1 h2
        simp [tget, Ne.symm h2, ih]

/-- A write leaves every other index alone. -/
theorem tget_tset_ne (t : Tbl α) {i j : Nat} (x : α) (h : j ≠ i) : tget (tset t i x) j = tget t j := by
  induction t with
  | nil => simp [tset, tget, Ne.symm h]
  | cons e t ih =>
    obtain ⟨k, v⟩ := e
    unfold tset
    split
    · simp [tget, Ne.symm h]
    · split
      · rename_i h1 h2
        subst h2
        simp [tget, Ne.symm h]
      · simp [tget, ih]

/-- A removal leaves every other index alone. -/
theorem tget_tdel_ne (t : Tbl α) {i j : Nat} (h : j ≠ i) : tget (tdel t i) j = tget t j := by
  induction t with
  | nil => rfl
  | cons e t ih =>
    obtain ⟨k, v⟩ := e
    unfold tdel
    split
    · rename_i h1
      subst h1
      simp [tget, Ne.symm h]
    · simp [tget, ih]

/-- Indices that rise from one bound rise from a smaller one. -/
theorem tsortedFrom_mono {t : Tbl α} {a b : Nat} (h : b ≤ a) (ht : tsortedFrom t a = true) : tsortedFrom t b = true := by
  cases t with
  | nil => rfl
  | cons e t =>
    obtain ⟨k, v⟩ := e
    simp only [tsortedFrom, Bool.and_eq_true, decide_eq_true_eq] at ht ⊢
    exact ⟨by omega, ht.2⟩

/-- No index below the bound is listed. -/
theorem tget_of_lt {t : Tbl α} {b i : Nat} (ht : tsortedFrom t b = true) (h : i < b) : tget t i = none := by
  induction t generalizing b with
  | nil => rfl
  | cons e t ih =>
    obtain ⟨k, v⟩ := e
    simp only [tsortedFrom, Bool.and_eq_true, decide_eq_true_eq] at ht
    have hk : k ≠ i := by omega
    simp [tget, hk, ih ht.2 (by omega)]

/-- A removal empties its index, in a table whose indices rise. -/
theorem tget_tdel_self {t : Tbl α} {b : Nat} (ht : tsortedFrom t b = true) (i : Nat) : tget (tdel t i) i = none := by
  induction t generalizing b with
  | nil => rfl
  | cons e t ih =>
    obtain ⟨k, v⟩ := e
    simp only [tsortedFrom, Bool.and_eq_true, decide_eq_true_eq] at ht
    unfold tdel
    split
    · rename_i h1
      subst h1
      exact tget_of_lt ht.2 (by omega)
    · rename_i h1
      simp [tget, h1, ih ht.2]

/-- A write keeps the indices rising. -/
theorem tsortedFrom_tset {t : Tbl α} {b i : Nat} (x : α) (ht : tsortedFrom t b = true) (hb : b ≤ i) :
    tsortedFrom (tset t i x) b = true := by
  induction t generalizing b with
  | nil => simp [tset, tsortedFrom, hb]
  | cons e t ih =>
    obtain ⟨k, v⟩ := e
    simp only [tsortedFrom, Bool.and_eq_true, decide_eq_true_eq] at ht
    unfold tset
    split
    · simp only [tsortedFrom, Bool.and_eq_true, decide_eq_true_eq]
      exact ⟨hb, by omega, ht.2⟩
    · split
      · rename_i h1 h2
        subst h2
        simp [tsortedFrom, hb, ht.2]
      · simp only [tsortedFrom, Bool.and_eq_true, decide_eq_true_eq]
        exact ⟨ht.1, ih ht.2 (by omega)⟩

/-- A removal keeps the indices rising. -/
theorem tsortedFrom_tdel {t : Tbl α} {b : Nat} (i : Nat) (ht : tsortedFrom t b = true) :
    tsortedFrom (tdel t i) b = true := by
  induction t generalizing b with
  | nil => rfl
  | cons e t ih =>
    obtain ⟨k, v⟩ := e
    simp only [tsortedFrom, Bool.and_eq_true, decide_eq_true_eq] at ht
    unfold tdel
    split
    · exact tsortedFrom_mono (by omega) ht.2
    · simp only [tsortedFrom, Bool.and_eq_true, decide_eq_true_eq]
      exact ⟨ht.1, ih ht.2⟩

theorem tset_all {p : Nat × α → Bool} {t : Tbl α} {i : Nat} {x : α} (ht : t.all p = true) (hx : p (i, x) = true) :
    (tset t i x).all p = true := by
  induction t with
  | nil => simp [tset, hx]
  | cons e t ih =>
    obtain ⟨k, v⟩ := e
    simp only [List.all_cons, Bool.and_eq_true] at ht
    unfold tset
    split
    · simp [hx, ht.1, ht.2]
    · split
      · simp [hx, ht.2]
      · simp only [List.all_cons, Bool.and_eq_true]
        exact ⟨ht.1, ih ht.2⟩

theorem tdel_all {p : Nat × α → Bool} {t : Tbl α} {i : Nat} (ht : t.all p = true) : (tdel t i).all p = true := by
  induction t with
  | nil => rfl
  | cons e t ih =>
    obtain ⟨k, v⟩ := e
    simp only [List.all_cons, Bool.and_eq_true] at ht
    unfold tdel
    split
    · exact ht.2
    · simp only [List.all_cons, Bool.and_eq_true]
      exact ⟨ht.1, ih ht.2⟩

/-- A write in canonical form keeps the canonical form. -/
theorem twf_tput [DecidableEq α] {d : α} {t : Tbl α} (ht : twf d t = true) (i : Nat) (x : α) :
    twf d (tput d t i x) = true := by
  simp only [twf, Bool.and_eq_true] at ht ⊢
  unfold tput
  split
  · exact ⟨tsortedFrom_tdel i ht.1, tdel_all ht.2⟩
  · rename_i h
    exact ⟨tsortedFrom_tset x ht.1 (Nat.zero_le i), tset_all ht.2 (by simpa using h)⟩

/-- A read at the index just written in canonical form gives what was written. -/
theorem tgetD_tput_self [DecidableEq α] {d : α} {t : Tbl α} (ht : tsortedFrom t 0 = true) (i : Nat) (x : α) :
    tgetD (tput d t i x) i d = x := by
  unfold tgetD tput
  split
  · rename_i h
    rw [tget_tdel_self ht]; exact h.symm
  · simp

/-- A write in canonical form leaves every other index alone. -/
theorem tgetD_tput_ne [DecidableEq α] (d d' : α) (t : Tbl α) {i j : Nat} (x : α) (h : j ≠ i) :
    tgetD (tput d t i x) j d' = tgetD t j d' := by
  unfold tgetD tput
  split
  · rw [tget_tdel_ne t h]
  · rw [tget_tset_ne t x h]

/-- A search over numbers finds an answer where one of them has one. -/
theorem scanFrom_some (f : Nat → Option α) (n i j : Nat) (h1 : i ≤ j) (h2 : j < i + n) (h3 : (f j).isSome = true) :
    ∃ x k, scanFrom f n i = some x ∧ i ≤ k ∧ f k = some x := by
  induction n generalizing i with
  | zero => omega
  | succ n ih =>
    unfold scanFrom
    cases hf : f i with
    | some x => exact ⟨x, i, rfl, by omega, hf⟩
    | none =>
      have hne : i ≠ j := by rintro rfl; simp [hf] at h3
      obtain ⟨x, k, a, b, c⟩ := ih (i + 1) (by omega) (by omega)
      exact ⟨x, k, a, by omega, c⟩

/-- What no element of a list changes, the fold over the list does not change. -/
theorem foldl_inv {α β γ : Type} (g : α → γ) (f : α → β → α) (h : ∀ a b, g (f a b) = g a) (l : List β) (a : α) :
    g (l.foldl f a) = g a := by
  induction l generalizing a with
  | nil => rfl
  | cons x t ih => rw [List.foldl_cons, ih, h]

end Sys2Proof.Machine
end

