-- ==== Sys2Proof/Laws/Frame.lean ====
section
/-! SUPPORT. Frames: which parts of the state an operation may change, as a mask with one bit per part. A lemma `f_only` says
of an operation `f` that it changes only the parts of its mask; since frames compose, it is an equivalence that simp uses to
walk back through the operations that made a state. -/

namespace Sys2Proof.Machine

/-- The bit of a part. -/
def Blk.mask (b : Blk) : Nat :=
  match b with
  | .dev => 0x1 | .stw => 0x2 | .fns => 0x4 | .fmg => 0x8 | .cnt => 0x10 | .seq => 0x20 | .qm => 0x40 | .grn => 0x80
  | .fwt => 0x100 | .mac => 0x200 | .sw => 0x400 | .cip => 0x800 | .haul => 0x1000 | .stg => 0x2000 | .pci => 0x4000
  | .twn => 0x8000 | .alm => 0x10000 | .store => 0x20000 | .fw => 0x40000 | .out => 0x80000 | .now => 0x100000
  | .draws => 0x200000 | .pending => 0x400000 | .fuses => 0x800000 | .life => 0x1000000 | .limits => 0x2000000

/-- Nothing changed but parts whose bits are in the mask. -/
structure Only (m : Nat) (s t : State) : Prop where
  same : ∀ b : Blk, b.mask &&& m = b.mask ∨ b.same s t

theorem Blk.same_trans {b : Blk} {s t u : State} (h : b.same s t) (h' : b.same t u) : b.same s u := by
  cases b <;> exact Eq.trans h' h
theorem Blk.same_symm {b : Blk} {s t : State} (h : b.same s t) : b.same t s := by
  cases b <;> exact Eq.symm h

/-- A part outside the mask is the same. -/
theorem Only.eq {m : Nat} {s t : State} (h : Only m s t) (b : Blk) (hb : b.mask &&& m ≠ b.mask := by decide) : b.same s t :=
  (h.same b).resolve_left hb

/-- A frame by a mask is a frame by a list of parts that holds the mask's. -/
theorem Only.changes {m : Nat} {l : List Blk} {s t : State} (h : Only m s t)
    (hl : ∀ b ∈ [Blk.dev, .stw, .fns, .fmg, .cnt, .seq, .qm, .grn, .fwt, .mac, .sw, .cip, .haul, .stg, .pci, .twn, .alm, .store,
      .fw, .out, .now, .draws, .pending, .fuses, .life, .limits], b ∉ l → b.mask &&& m ≠ b.mask) : ChangesOnly l s t :=
  fun b hb => h.eq b (hl b (by cases b <;> decide) hb)

@[simp] theorem Only.refl (m : Nat) (s : State) : Only m s s := ⟨fun b => .inr (by cases b <;> rfl)⟩

/-- An operation that changes only parts of a mask is invisible to every frame with at least that mask. -/
theorem Only.iff {k m : Nat} {s x y : State} (h : Only k x y) (hs : k &&& m = k) : Only m s y ↔ Only m s x := by
  constructor <;> refine fun g => ⟨fun b => ?_⟩
  · rcases h.same b with h | h
    · left
      rw [← h, Nat.and_assoc, hs]
    · exact (g.same b).imp id (fun g => Blk.same_trans g (Blk.same_symm h))
  · rcases h.same b with h | h
    · left
      rw [← h, Nat.and_assoc, hs]
    · exact (g.same b).imp id (fun g => Blk.same_trans g h)

@[simp] theorem only_ite {m : Nat} {s a b : State} {c : Prop} [Decidable c] :
    Only m s (if c then a else b) ↔ (c → Only m s a) ∧ (¬ c → Only m s b) := by
  split <;> simp_all

/-- A record built from a state leaves alone what it copies; the commands waiting are always copied. -/
@[simp] theorem only_mk {m : Nat} {s x : State}
    {dev stw fns fmg cnt seq qm grn fwt mac sw cip haul stg pci twn alm store fw out now draws}
    (h : (1 &&& m = 1 ∨ dev = x.dev) ∧ (2 &&& m = 2 ∨ stw = x.stw) ∧ (4 &&& m = 4 ∨ fns = x.fns) ∧
      (8 &&& m = 8 ∨ fmg = x.fmg) ∧ (16 &&& m = 16 ∨ cnt = x.cnt) ∧ (32 &&& m = 32 ∨ seq = x.seq) ∧
      (64 &&& m = 64 ∨ qm = x.qm) ∧ (128 &&& m = 128 ∨ grn = x.grn) ∧ (256 &&& m = 256 ∨ fwt = x.fwt) ∧
      (512 &&& m = 512 ∨ mac = x.mac) ∧ (1024 &&& m = 1024 ∨ sw = x.sw) ∧ (2048 &&& m = 2048 ∨ cip = x.cip) ∧
      (4096 &&& m = 4096 ∨ haul = x.haul) ∧ (8192 &&& m = 8192 ∨ stg = x.stg) ∧ (16384 &&& m = 16384 ∨ pci = x.pci) ∧
      (32768 &&& m = 32768 ∨ twn = x.twn) ∧ (65536 &&& m = 65536 ∨ alm = x.alm) ∧
      (131072 &&& m = 131072 ∨ store = x.store) ∧ (262144 &&& m = 262144 ∨ fw = x.fw) ∧
      (524288 &&& m = 524288 ∨ out = x.out) ∧ (1048576 &&& m = 1048576 ∨ now = x.now) ∧
      (2097152 &&& m = 2097152 ∨ draws = x.draws) ∧
      (8388608 &&& m = 8388608 ∨ fw.revoked = x.fw.revoked ∧ fw.ownerKey = x.fw.ownerKey ∧ fw.floors = x.fw.floors) ∧
      (16777216 &&& m = 16777216 ∨ stw.lcChange = x.stw.lcChange ∧ alm.lcState = x.alm.lcState ∧
        alm.lcTarget = x.alm.lcTarget ∧ alm.wipePending = x.alm.wipePending) ∧
      (33554432 &&& m = 33554432 ∨ alm.trim = x.alm.trim ∧ sw.loopMax = x.sw.loopMax ∧
        grn.scrubRate = x.grn.scrubRate ∧ fwt.agerRate = x.fwt.agerRate ∧ fwt.lockLimitUs = x.fwt.lockLimitUs ∧
        cip.claimLimitUs = x.cip.claimLimitUs)) :
    Only m s (State.mk dev stw fns fmg cnt seq qm grn fwt mac sw cip haul stg pci twn alm store fw out now draws
      x.pending) ↔ Only m s x := by
  refine Only.iff (k := m) ⟨fun b => ?_⟩ (by simp)
  obtain ⟨_, _, _, _, _, _, _, _, _, _, _, _, _, _, _, _, _, _, _, _, _, _, h1, h2, h3⟩ := h
  cases b
  case fuses => exact h1.imp id (fun h => by simp [Blk.same, State.fuses, h])
  case life => exact h2.imp id (fun h => by simp [Blk.same, State.life, h])
  case limits => exact h3.imp id (fun h => by simp [Blk.same, State.limits, h])
  all_goals first | assumption | exact .inr rfl

/-- A fold leaves alone what each of its steps leaves alone. -/
@[simp] theorem only_foldl {β : Type} {m : Nat} {s x : State} {f : State → β → State} (h : ∀ a b, Only m a (f a b))
    (l : List β) : Only m s (l.foldl f x) ↔ Only m s x := by
  induction l generalizing x with
  | nil => rfl
  | cons b t ih => rw [List.foldl_cons, ih]; exact Only.iff (h x b) (by simp)

/-- A mask within a mask within a mask. -/
theorem sub_trans {a b m : Nat} (h : a &&& b = a) (h' : b &&& m = b) : a &&& m = a := by
  rw [← h, Nat.and_assoc, h']

/-! What a match on a pair binds. -/

theorem fst_of {α β : Type} {p : α × β} {a : α} {b : β} (h : p = (a, b)) : a = p.1 := by rw [h]
theorem snd_of {α β : Type} {p : α × β} {a : α} {b : β} (h : p = (a, b)) : b = p.2 := by rw [h]
theorem mid_of {α β γ : Type} {p : α × β × γ} {a : α} {b : β} {c : γ} (h : p = (a, b, c)) : b = p.2.1 := by rw [h]
theorem trd_of {α β γ : Type} {p : α × β × γ} {a : α} {b : β} {c : γ} (h : p = (a, b, c)) : c = p.2.2 := by rw [h]

@[simp] theorem Res_next_after {t s : State} : Res.after (.next t) s = t := rfl

@[simp] theorem memWrite_only {m : Nat} {s x y : State} {fid : Nat} : Only m s (memWrite x fid y) ↔
    (memReach x fid = true → Only m s y) ∧ (¬ memReach x fid = true → Only m s x) := by unfold memWrite; exact only_ite
end Sys2Proof.Machine
end

