-- ==== Sys2Proof/Laws/FrameCore.lean ====
section
/-! SUPPORT. Frames of the operations: the shared operations, rings and channels. -/

namespace Sys2Proof.Machine

/-! ## Ops -/

/-- Changes only: seq. -/
@[simp] theorem setPipe_only {m : Nat} {s x : State} (a1 a2) (h : 0x20 &&& m = 0x20) :
    Only m s (setPipe x a1 a2) ↔ Only m s x := Only.iff (by unfold setPipe; split <;> simp) h

/-- Changes only: seq. -/
@[simp] theorem modPipe_only {m : Nat} {s x : State} (a1 a2) (h : 0x20 &&& m = 0x20) :
    Only m s (modPipe x a1 a2) ↔ Only m s x := Only.iff (by simp [modPipe]) h

/-- Changes only: cnt. -/
@[simp] theorem countN_only {m : Nat} {s x : State} (a1 a2 a3) (h : 0x10 &&& m = 0x10) :
    Only m s (countN x a1 a2 a3) ↔ Only m s x := Only.iff (by simp [countN]) h

/-- Changes only: cnt. -/
@[simp] theorem count_only {m : Nat} {s x : State} (a1 a2) (h : 0x10 &&& m = 0x10) :
    Only m s (count x a1 a2) ↔ Only m s x := Only.iff (by simp [count]) h

/-- Changes only: dev. -/
@[simp] theorem appendEvent_only {m : Nat} {s x : State} (a1 a2 a3) (h : 0x1 &&& m = 0x1) :
    Only m s (appendEvent x a1 a2 a3) ↔ Only m s x := Only.iff (by simp [appendEvent]) h

/-- Changes only: cnt. -/
@[simp] theorem countDev_only {m : Nat} {s x : State} (a1) (h : 0x10 &&& m = 0x10) :
    Only m s (countDev x a1) ↔ Only m s x := Only.iff (by simp [countDev]) h

/-- Changes only: cnt, dev. -/
@[simp] theorem logEvent_only {m : Nat} {s x : State} (a1 a2 a3) (h : 0x11 &&& m = 0x11) :
    Only m s (logEvent x a1 a2 a3) ↔ Only m s x := Only.iff (by simp [logEvent]) h

/-- Changes only: fns. -/
@[simp] theorem setFn_only {m : Nat} {s x : State} (a1 a2) (h : 0x4 &&& m = 0x4) :
    Only m s (setFn x a1 a2) ↔ Only m s x := Only.iff (by simp [setFn]) h

/-- Changes only: fns. -/
@[simp] theorem modFn_only {m : Nat} {s x : State} (a1 a2) (h : 0x4 &&& m = 0x4) :
    Only m s (modFn x a1 a2) ↔ Only m s x := Only.iff (by simp [modFn]) h

/-- Changes only: out. -/
@[simp] theorem emit_only {m : Nat} {s x : State} (a1) (h : 0x80000 &&& m = 0x80000) :
    Only m s (emit x a1) ↔ Only m s x := Only.iff (by simp [emit]) h

/-- Changes only: pci. -/
@[simp] theorem setPci_only {m : Nat} {s x : State} (a1 a2) (h : 0x4000 &&& m = 0x4000) :
    Only m s (setPci x a1 a2) ↔ Only m s x := Only.iff (by simp [setPci]) h

/-- Changes only: out, twn. -/
@[simp] theorem twinFrame_only {m : Nat} {s x : State} (a1 a2) (h : 0x88000 &&& m = 0x88000) :
    Only m s (twinFrame x a1 a2) ↔ Only m s x := Only.iff (by simp [twinFrame]) h

/-- Changes only: out, twn. -/
@[simp] theorem twinSend_only {m : Nat} {s x : State} (a1 a2 a3) (h : 0x88000 &&& m = 0x88000) :
    Only m s (twinSend x a1 a2 a3) ↔ Only m s x := Only.iff (by simp [twinSend]) h

/-- Changes only: haul. -/
@[simp] theorem coverStaging_only {m : Nat} {s x : State} (a1 a2) (h : 0x1000 &&& m = 0x1000) :
    Only m s (coverStaging x a1 a2) ↔ Only m s x := Only.iff (by simp [coverStaging]) h

/-- Changes only: seq. -/
@[simp] theorem setBank_only {m : Nat} {s x : State} (a1 a2) (h : 0x20 &&& m = 0x20) :
    Only m s (setBank x a1 a2) ↔ Only m s x := Only.iff (by simp [setBank]) h

/-- Changes only: draws. -/
@[simp] theorem draw_only {m : Nat} {s x : State} (h : 0x200000 &&& m = 0x200000) :
    Only m s (draw x).2 ↔ Only m s x := Only.iff (by simp [draw]) h

/-- Changes only: pci. -/
@[simp] theorem aerError_only {m : Nat} {s x : State} (a1 a2) (h : 0x4000 &&& m = 0x4000) :
    Only m s (aerError x a1 a2) ↔ Only m s x := Only.iff (by simp [aerError]) h

/-- Changes only: twn. -/
@[simp] theorem twinLink_only {m : Nat} {s x : State} (a1) (h : 0x8000 &&& m = 0x8000) :
    Only m s (twinLink x a1) ↔ Only m s x := Only.iff (by simp [twinLink]) h

/-- Changes only: stw, twn. -/
@[simp] theorem twinDown_only {m : Nat} {s x : State} (h : 0x8002 &&& m = 0x8002) :
    Only m s (twinDown x) ↔ Only m s x := Only.iff (by simp [twinDown]) h

/-- Changes only: draws. -/
@[simp] theorem draw4_only {m : Nat} {s x : State} (h : 0x200000 &&& m = 0x200000) :
    Only m s (draw4 x).2 ↔ Only m s x := Only.iff (by simp [draw4]) h

/-- Changes only: seq. -/
@[simp] theorem modPipes_only {m : Nat} {s x : State} (a1) (h : 0x20 &&& m = 0x20) :
    Only m s (modPipes x a1) ↔ Only m s x := Only.iff (by simp [modPipes]) h

/-! ## Operands -/

/-- Changes only: grn. -/
@[simp] theorem setChain_only {m : Nat} {s x : State} (a1 a2) (h : 0x80 &&& m = 0x80) :
    Only m s (setChain x a1 a2) ↔ Only m s x := Only.iff (by simp [setChain]) h

/-- Changes only: grn. -/
@[simp] theorem writeChain_only {m : Nat} {s x : State} (a1 a2 a3) (h : 0x80 &&& m = 0x80) :
    Only m s (writeChain x a1 a2 a3) ↔ Only m s x := Only.iff (by simp [writeChain]) h

/-- Changes only: seq. -/
@[simp] theorem issued_only {m : Nat} {s x : State} (a1 a2) (h : 0x20 &&& m = 0x20) :
    Only m s (issued x a1 a2) ↔ Only m s x := Only.iff (by simp [issued]) h

/-- Changes only: seq. -/
@[simp] theorem setCtx_only {m : Nat} {s x : State} (a1 a2 a3) (h : 0x20 &&& m = 0x20) :
    Only m s (setCtx x a1 a2 a3) ↔ Only m s x := Only.iff (by simp [setCtx]) h

/-! ## Tables -/

/-- Changes only: fwt. -/
@[simp] theorem setFp_only {m : Nat} {s x : State} (a1 a2) (h : 0x100 &&& m = 0x100) :
    Only m s (setFp x a1 a2) ↔ Only m s x := Only.iff (by unfold setFp; split <;> simp) h

/-- Changes only: fwt. -/
@[simp] theorem dropPending_only {m : Nat} {s x : State} (a1) (h : 0x100 &&& m = 0x100) :
    Only m s (dropPending x a1) ↔ Only m s x := Only.iff (by simp [dropPending]) h

/-- Changes only: fwt. -/
@[simp] theorem unlockBucket_only {m : Nat} {s x : State} (a1 a2 a3) (h : 0x100 &&& m = 0x100) :
    Only m s (unlockBucket x a1 a2 a3) ↔ Only m s x := Only.iff (by simp [unlockBucket]) h

/-- Changes only: fwt. -/
@[simp] theorem clearLocksIn_only {m : Nat} {s x : State} (a1 a2) (h : 0x100 &&& m = 0x100) :
    Only m s (clearLocksIn x a1 a2) ↔ Only m s x := Only.iff (by simp [clearLocksIn]) h

/-- Changes only: fwt. -/
@[simp] theorem clearLocksOf_only {m : Nat} {s x : State} (a1) (h : 0x100 &&& m = 0x100) :
    Only m s (clearLocksOf x a1) ↔ Only m s x := Only.iff (by simp [clearLocksOf]) h

/-- Changes only: fwt. -/
@[simp] theorem addCycle_only {m : Nat} {s x : State} (a1 a2) (h : 0x100 &&& m = 0x100) :
    Only m s (addCycle x a1 a2) ↔ Only m s x := Only.iff (by simp [addCycle]) h

/-- Changes only: cnt, fwt. -/
@[simp] theorem ageBucket_only {m : Nat} {s x : State} (a1 a2 a3 a4) (h : 0x110 &&& m = 0x110) :
    Only m s (ageBucket x a1 a2 a3 a4) ↔ Only m s x := Only.iff (by simp [ageBucket]) h

/-- Changes only: cnt, fwt. -/
@[simp] theorem noteParity_only {m : Nat} {s x : State} (a1 a2 a3) (h : 0x110 &&& m = 0x110) :
    Only m s (noteParity x a1 a2 a3) ↔ Only m s x := Only.iff (by simp [noteParity]) h

/-- Changes only: cnt, fwt. -/
@[simp] theorem agerVisitBucket_only {m : Nat} {s x : State} (a1 a2 a3) (h : 0x110 &&& m = 0x110) :
    Only m s (agerVisitBucket x a1 a2 a3) ↔ Only m s x := Only.iff (by simp [agerVisitBucket]) h

/-- Changes only: cnt, fwt. -/
@[simp] theorem applyRefresh_only {m : Nat} {s x : State} (a1 a2 a3 a4 a5) (h : 0x110 &&& m = 0x110) :
    Only m s (applyRefresh x a1 a2 a3 a4 a5) ↔ Only m s x := Only.iff (by simp [applyRefresh]) h

/-- Changes only: cnt, fwt. -/
@[simp] theorem applyWrite_only {m : Nat} {s x : State} (a1 a2) (h : 0x110 &&& m = 0x110) :
    Only m s (applyWrite x a1 a2) ↔ Only m s x := Only.iff (by unfold applyWrite; (repeat' split) <;> simp) h

/-- Changes only: cnt, fwt. -/
@[simp] theorem endCycle_only {m : Nat} {s x : State} (a1) (h : 0x110 &&& m = 0x110) :
    Only m s (endCycle x a1) ↔ Only m s x := Only.iff (by simp [endCycle]) h

/-- Changes only: cnt, fwt. -/
@[simp] theorem endCycles_only {m : Nat} {s x : State} (h : 0x110 &&& m = 0x110) :
    Only m s (endCycles x) ↔ Only m s x := Only.iff (by simp [endCycles]) h

/-- Changes only: fwt. -/
@[simp] theorem touchRld_only {m : Nat} {s x : State} (a1) (h : 0x100 &&& m = 0x100) :
    Only m s (touchRld x a1) ↔ Only m s x := Only.iff (by simp [touchRld]) h

/-! ## Library -/

/-- Changes only: grn. -/
@[simp] theorem libPrep_only {m : Nat} {s x : State} (a1 a2 a3) (h : 0x80 &&& m = 0x80) :
    Only m s (libPrep x a1 a2 a3).1 ↔ Only m s x := Only.iff (by
  induction a3 generalizing x a2 with
  | nil => simp [libPrep]
  | cons op t ih => cases op <;> simp only [libPrep] <;> first | exact (Only.iff (ih _) rfl).mpr (by simp) | simp) h

/-- Changes only: grn. -/
@[simp] theorem libNext_only {m : Nat} {s x : State} (a1 a2 a3 a4) (h : 0x80 &&& m = 0x80) :
    Only m s (libNext x a1 a2 a3 a4).1 ↔ Only m s x := Only.iff (by simp [libNext]) h

/-! ## Flags -/

/-- Changes only: seq. -/
@[simp] theorem noteIssue_only {m : Nat} {s x : State} (a1) (h : 0x20 &&& m = 0x20) :
    Only m s (noteIssue x a1) ↔ Only m s x := Only.iff (by simp [noteIssue]) h

/-- Changes only: cnt, dev. -/
@[simp] theorem logPoison_only {m : Nat} {s x : State} (a1 a2 a3 a4) (h : 0x11 &&& m = 0x11) :
    Only m s (logPoison x a1 a2 a3 a4) ↔ Only m s x := Only.iff (by simp [logPoison]) h

/-- Changes only: cnt, dev, grn, seq. -/
@[simp] theorem advance_only {m : Nat} {s x : State} (a1 a2 a3) (h : 0xb1 &&& m = 0xb1) :
    Only m s (advance x a1 a2 a3) ↔ Only m s x := Only.iff (by unfold advance; split <;> simp) h

/-- Changes only: cnt, dev, grn, seq. -/
@[simp] theorem doneW_only {m : Nat} {s x : State} (a1 a2 a3 a4) (h : 0xb1 &&& m = 0xb1) :
    Only m s (doneW x a1 a2 a3 a4) ↔ Only m s x := Only.iff (by simp [doneW]) h

/-- Changes only: cnt, dev, grn, seq. -/
@[simp] theorem done_only {m : Nat} {s x : State} (a1 a2) (h : 0xb1 &&& m = 0xb1) :
    Only m s (done x a1 a2) ↔ Only m s x := Only.iff (by simp [done]) h

/-- Changes only: cnt, dev, grn, seq. -/
@[simp] theorem poisonGate_only {m : Nat} {s x f : State} {i : StepIn} {mark : Bool} : Only m s (poisonGate x i mark f) ↔
    ((mark && !i.w.poisonOk) = true → Only m s (done x i .failedParity)) ∧
      (¬ (mark && !i.w.poisonOk) = true → Only m s f) := by unfold poisonGate; exact only_ite

/-! ## Granary -/

/-- Changes only: grn. -/
@[simp] theorem setBuf_only {m : Nat} {s x : State} (a1 a2) (h : 0x80 &&& m = 0x80) :
    Only m s (setBuf x a1 a2) ↔ Only m s x := Only.iff (by simp [setBuf]) h

/-- Changes only: grn, mac. -/
@[simp] theorem releaseBuf_only {m : Nat} {s x : State} (a1) (h : 0x280 &&& m = 0x280) :
    Only m s (releaseBuf x a1) ↔ Only m s x := Only.iff (by simp [releaseBuf]) h

/-- Changes only: grn, mac. -/
@[simp] theorem undoScrub_only {m : Nat} {s x : State} (a1) (h : 0x280 &&& m = 0x280) :
    Only m s (undoScrub x a1) ↔ Only m s x := Only.iff (by unfold undoScrub; split <;> simp) h

/-- Changes only: cnt. -/
@[simp] theorem countGrn_only {m : Nat} {s x : State} (a1 a2) (h : 0x10 &&& m = 0x10) :
    Only m s (countGrn x a1 a2) ↔ Only m s x := Only.iff (by unfold countGrn; split <;> simp) h

/-- Changes only: grn, mac. -/
@[simp] theorem releaseChain_only {m : Nat} {s x : State} (a1) (h : 0x280 &&& m = 0x280) :
    Only m s (releaseChain x a1) ↔ Only m s x := Only.iff (by simp [releaseChain]) h

theorem takeCell_base {x : State} {p o : Nat} {r} (h : takeCell x p o = some r) : Only 0x200080 x r.2 := by
  unfold takeCell at h
  obtain ⟨i, _, h⟩ := Option.map_eq_some_iff.mp h
  subst h
  simp

theorem takeCells_base {x : State} {p o n : Nat} {r} (h : takeCells x p o n = some r) : Only 0x200080 x r.2 := by
  induction n generalizing x r with
  | zero => injection h with h; subst h; simp
  | succ n ih =>
    unfold takeCells at h
    split at h
    · cases h
    · rename_i a b hc
      have hb := takeCell_base hc
      split at h
      · cases h
      · rename_i c hd; injection h with h; subst h; exact (Only.iff (ih hd) rfl).mpr hb
      · rename_i c d e hd; injection h with h; subst h; simp; exact (Only.iff (ih hd) rfl).mpr hb

/-- Changes only: grn. -/
@[simp] theorem setPool_only {m : Nat} {s x : State} (a1 a2) (h : 0x80 &&& m = 0x80) :
    Only m s (setPool x a1 a2) ↔ Only m s x := Only.iff (by simp [setPool]) h

theorem takeHost_base {x : State} {p o : Nat} {r} (h : takeHost x p o = some r) : Only 0x200080 x r.2.2.2 := by
  unfold takeHost at h
  simp only [Option.map_eq_some_iff] at h
  obtain ⟨i, _, h⟩ := h
  subst h
  simp

theorem takeHosts_base {x : State} {p o n : Nat} {r} (h : takeHosts x p o n = some r) : Only 0x200080 x r.2.2 := by
  induction n generalizing x r with
  | zero => injection h with h; subst h; simp
  | succ n ih =>
    unfold takeHosts at h
    split at h
    · cases h
    · rename_i a b c d hc
      have hb := takeHost_base hc
      split at h
      · cases h
      · rename_i e f g hd; injection h with h; subst h; exact (Only.iff (ih hd) rfl).mpr hb

theorem attemptIn_base {x : State} {p o n : Nat} {host fb used g} (h : attemptIn x p o n host fb used = .ok g) :
    Only 0x200080 x g.s := by
  unfold attemptIn at h
  simp only at h
  split at h
  · cases h
  · cases h
  · split at h
    · split at h
      · cases h
      · rename_i hc; injection h with h; subst h; exact takeCells_base hc
    · split at h
      · split at h
        · cases h
        · rename_i hc; injection h with h; subst h; exact takeHosts_base hc
      · split at h
        · cases h
        · rename_i hc
          have hb := takeHosts_base hc
          split at h
          · cases h
          · cases h
          · split at h
            · cases h
            · rename_i hd; injection h with h; subst h; simp; exact (Only.iff (takeCell_base hd) rfl).mpr hb

theorem attemptChain_base {x : State} {o n : Nat} {sized used l f a g}
    (h : attemptChain x o n sized used l f a = .ok g) : Only 0x200080 x g.s := by
  induction l generalizing f a with
  | nil => cases h
  | cons p t ih =>
    unfold attemptChain at h
    split at h
    · rename_i hc; injection h with h; subst h; exact attemptIn_base hc
    · exact ih h

theorem attempt_base {x : State} {o set len : Nat} {used g} (h : attempt x o set len used = .ok g) :
    Only 0x200080 x g.s := attemptChain_base h

/-- Changes only: grn. -/
@[simp] theorem setWaiting_only {m : Nat} {s x : State} (a1) (h : 0x80 &&& m = 0x80) :
    Only m s (setWaiting x a1) ↔ Only m s x := Only.iff (by simp [setWaiting]) h

theorem freeCellsFrom_base (f n : Nat) (x : State) (k : Nat) : Only 0x280 x (freeCellsFrom f n x k).2.2 := by
  induction n generalizing x k with
  | zero => simp [freeCellsFrom]
  | succ n ih =>
    unfold freeCellsFrom
    split
    · simp
    · simp only
      split
      · simp
      · exact (Only.iff (ih _ _) rfl).mpr (by simp)

/-- Changes only: grn, mac. -/
@[simp] theorem freeCellsFrom_only {m : Nat} {s x : State} (a1 a2 a3) (h : 0x280 &&& m = 0x280) :
    Only m s (freeCellsFrom a1 a2 x a3).2.2 ↔ Only m s x := Only.iff (freeCellsFrom_base _ _ _ _) h

/-- Changes only: grn, mac. -/
@[simp] theorem freeHandle_only {m : Nat} {s x : State} (a1 a2 a3) (h : 0x280 &&& m = 0x280) :
    Only m s (freeHandle x a1 a2 a3).2.2 ↔ Only m s x := Only.iff (by unfold freeHandle; (repeat' split) <;> simp) h

/-- Changes only: grn. -/
@[simp] theorem recordGrnViol_only {m : Nat} {s x : State} (a1 a2 a3) (h : 0x80 &&& m = 0x80) :
    Only m s (recordGrnViol x a1 a2 a3) ↔ Only m s x := Only.iff (by simp [recordGrnViol]) h

/-- Changes only: grn, mac. -/
@[simp] theorem dropScrubsOf_only {m : Nat} {s x : State} (a1) (h : 0x280 &&& m = 0x280) :
    Only m s (dropScrubsOf x a1) ↔ Only m s x := Only.iff (by
  unfold dropScrubsOf
  (repeat' (first | split | (refine (only_foldl (fun _ _ => ?_) _).mpr ?_))) <;> simp) h

/-- Changes only: grn, mac. -/
@[simp] theorem freeAllOf_only {m : Nat} {s x : State} (a1) (h : 0x280 &&& m = 0x280) :
    Only m s (freeAllOf x a1) ↔ Only m s x := Only.iff (by simp [freeAllOf]) h

/-- Changes only: draws. -/
@[simp] theorem takeParkCell_only {m : Nat} {s x : State} (a1) (h : 0x200000 &&& m = 0x200000) :
    Only m s (takeParkCell x a1).2 ↔ Only m s x := Only.iff (by simp [takeParkCell]) h

/-- Changes only: cnt, out. -/
@[simp] theorem scrubWrites_only {m : Nat} {s x : State} (a1 a2) (h : 0x80010 &&& m = 0x80010) :
    Only m s (scrubWrites x a1 a2) ↔ Only m s x := Only.iff (by simp [scrubWrites]) h

/-- Changes only: cnt, dev, grn, seq. -/
@[simp] theorem endStepAlloc_only {m : Nat} {s x : State} (a1 a2 a3 a4) (h : 0xb1 &&& m = 0xb1) :
    Only m s (endStepAlloc x a1 a2 a3 a4) ↔ Only m s x := Only.iff (by unfold endStepAlloc; split <;> simp) h

/-- Changes only: cnt, dev, grn, seq. -/
@[simp] theorem endRequest_only {m : Nat} {s x : State} (a1 a2 a3) (h : 0xb1 &&& m = 0xb1) :
    Only m s (endRequest x a1 a2 a3) ↔ Only m s x := Only.iff (by unfold endRequest; split <;> simp) h

/-- Changes only: cnt, dev, grn, mac, seq. -/
@[simp] theorem freezeRequests_only {m : Nat} {s x : State} (a1) (h : 0x2b1 &&& m = 0x2b1) :
    Only m s (freezeRequests x a1) ↔ Only m s x := Only.iff (by
  unfold freezeRequests
  (repeat' (first | split | (refine (only_foldl (fun _ _ => ?_) _).mpr ?_))) <;> simp) h

theorem retryList_base (o x : State) (u : Contest) (l : List WaitReq) : Only 0x2000b1 x (retryList o x u l).1 := by
  induction l generalizing x u with
  | nil => simp [retryList]
  | cons r t ih =>
    unfold retryList
    split
    · exact ih _ _
    · split
      · rename_i g hc
        refine (Only.iff (ih _ _) rfl).mpr ?_
        have hb := (Only.iff (m := 0x2000b1) (s := x) (attempt_base hc) (by simp)).mpr (by simp)
        unfold grantWaiting; simp [hb]
      · exact (Only.iff (ih _ _) rfl).mpr (by simp)

/-- Changes only: cnt, dev, draws, grn, seq. -/
@[simp] theorem retryList_only {m : Nat} {s x : State} (o a1 a2) (h : 0x2000b1 &&& m = 0x2000b1) :
    Only m s (retryList o x a1 a2).1 ↔ Only m s x := Only.iff (retryList_base _ _ _ _) h

/-- Changes only: grn. -/
@[simp] theorem movePointers_only {m : Nat} {s x : State} (a1) (h : 0x80 &&& m = 0x80) :
    Only m s (movePointers x a1) ↔ Only m s x := by
  unfold movePointers
  exact only_foldl (fun a b => by split <;> simp [h]) _

/-- Changes only: cnt, dev, draws, grn, seq. -/
@[simp] theorem retryWaiting_only {m : Nat} {s x : State} (a1) (h : 0x2000b1 &&& m = 0x2000b1) :
    Only m s (retryWaiting x a1).1 ↔ Only m s x := Only.iff (by simp [retryWaiting]) h

/-- Changes only: cnt, dev, draws, grn, seq. -/
@[simp] theorem allocCells_only {m : Nat} {s x : State} (a1 a2 a3) (h : 0x2000b1 &&& m = 0x2000b1) :
    Only m s (allocCells x a1 a2 a3).2 ↔ Only m s x := Only.iff (by
  unfold allocCells
  split
  · simp
  · simp only
    split
    · rename_i hc
      exact (Only.iff (attempt_base hc) (by simp)).mpr (by simp)
    all_goals simp) h

/-! ## Stocks -/

/-- Changes only: seq. -/
@[simp] theorem resumeParked_only {m : Nat} {s x : State} (a1 a2 a3 a4) (h : 0x20 &&& m = 0x20) :
    Only m s (resumeParked x a1 a2 a3 a4) ↔ Only m s x := Only.iff (by simp [resumeParked]) h

/-- Changes only: cnt, fmg, fns. -/
@[simp] theorem recordViol_only {m : Nat} {s x : State} (a1 a2 a3 a4) (h : 0x1c &&& m = 0x1c) :
    Only m s (recordViol x a1 a2 a3 a4) ↔ Only m s x := Only.iff (by simp [recordViol]) h

/-- Changes only: qm. -/
@[simp] theorem freezeRings_only {m : Nat} {s x : State} (a1) (h : 0x40 &&& m = 0x40) :
    Only m s (freezeRings x a1) ↔ Only m s x := Only.iff (by simp [freezeRings]) h

/-- Changes only: cip. -/
@[simp] theorem setLane_only {m : Nat} {s x : State} (a1 a2) (h : 0x800 &&& m = 0x800) :
    Only m s (setLane x a1 a2) ↔ Only m s x := Only.iff (by simp [setLane]) h

/-- Changes only: cip. -/
@[simp] theorem endClaim_only {m : Nat} {s x : State} (a1) (h : 0x800 &&& m = 0x800) :
    Only m s (endClaim x a1) ↔ Only m s x := Only.iff (by simp [endClaim]) h

/-- Changes only: cip. -/
@[simp] theorem takeRecord_only {m : Nat} {s x : State} (a1) (h : 0x800 &&& m = 0x800) :
    Only m s (takeRecord x a1) ↔ Only m s x := Only.iff (by simp [takeRecord]) h

/-- Changes only: grn. -/
@[simp] theorem zeroOutput_only {m : Nat} {s x : State} (a1) (h : 0x80 &&& m = 0x80) :
    Only m s (zeroOutput x a1) ↔ Only m s x := Only.iff (by unfold zeroOutput; split <;> simp) h

/-- Changes only: haul. -/
@[simp] theorem setChan_only {m : Nat} {s x : State} (a1 a2) (h : 0x1000 &&& m = 0x1000) :
    Only m s (setChan x a1 a2) ↔ Only m s x := Only.iff (by simp [setChan]) h

/-- Changes only: haul. -/
@[simp] theorem unitFreed_only {m : Nat} {s x : State} (a1) (h : 0x1000 &&& m = 0x1000) :
    Only m s (unitFreed x a1) ↔ Only m s x := Only.iff (by simp only [unitFreed]; (repeat' split) <;> simp) h

/-- Changes only: haul. -/
@[simp] theorem makeReady_only {m : Nat} {s x : State} (a1 a2 a3) (h : 0x1000 &&& m = 0x1000) :
    Only m s (makeReady x a1 a2 a3) ↔ Only m s x := Only.iff (by simp [makeReady]) h

/-- Changes only: haul. -/
@[simp] theorem settleLists_only {m : Nat} {s x : State} (a1) (h : 0x1000 &&& m = 0x1000) :
    Only m s (settleLists x a1) ↔ Only m s x := Only.iff (by simp [settleLists]) h

/-- Changes only: haul, seq. -/
@[simp] theorem endLists_only {m : Nat} {s x : State} (a1 a2 a3 a4) (h : 0x1020 &&& m = 0x1020) :
    Only m s (endLists x a1 a2 a3 a4) ↔ Only m s x := Only.iff (by simp [endLists]) h

/-- Changes only: haul, seq. -/
@[simp] theorem dropLists_only {m : Nat} {s x : State} (a1 a2 a3 a4) (h : 0x1020 &&& m = 0x1020) :
    Only m s (dropLists x a1 a2 a3 a4) ↔ Only m s x := Only.iff (by simp [dropLists]) h

/-- Changes only: haul, seq. -/
@[simp] theorem freezeHaul_only {m : Nat} {s x : State} (a1) (h : 0x1020 &&& m = 0x1020) :
    Only m s (freezeHaul x a1) ↔ Only m s x := Only.iff (by simp [freezeHaul]) h

/-- Changes only: cnt, fns. -/
@[simp] theorem joinOnly_only {m : Nat} {s x : State} (a1 a2) (h : 0x14 &&& m = 0x14) :
    Only m s (joinOnly x a1 a2).2 ↔ Only m s x := Only.iff (by unfold joinOnly; (repeat' split) <;> simp) h

/-- Changes only: cnt, dev, fmg. -/
@[simp] theorem logStocks_only {m : Nat} {s x : State} (h : 0x19 &&& m = 0x19) :
    Only m s (logStocks x) ↔ Only m s x := Only.iff (by simp [logStocks]) h

/-- Changes only: cip, cnt, dev, grn, seq. -/
@[simp] theorem stopRecord_only {m : Nat} {s x : State} (a1 a2) (h : 0x8b1 &&& m = 0x8b1) :
    Only m s (stopRecord x a1 a2) ↔ Only m s x := Only.iff (by simp only [stopRecord]; (repeat' split) <;> simp) h

/-- Changes only: cip, cnt, dev, grn, seq. -/
@[simp] theorem freezeCipher_only {m : Nat} {s x : State} (a1) (h : 0x8b1 &&& m = 0x8b1) :
    Only m s (freezeCipher x a1) ↔ Only m s x := Only.iff (by simp [freezeCipher]) h

/-- Changes only: cip, cnt, dev, fns, fwt, grn, haul, mac, qm, seq. -/
@[simp] theorem enterStocks_only {m : Nat} {s x : State} (a1) (h : 0x1bf5 &&& m = 0x1bf5) :
    Only m s (enterStocks x a1) ↔ Only m s x := Only.iff (by simp [enterStocks]) h

/-- Changes only: cip, cnt, dev, fmg, fns, fwt, grn, haul, mac, qm, seq. -/
@[simp] theorem violate_only {m : Nat} {s x : State} (a1 a2 a3 a4) (h : 0x1bfd &&& m = 0x1bfd) :
    Only m s (violate x a1 a2 a3 a4) ↔ Only m s x := Only.iff (by simp [violate]) h

/-! ## AlmBase -/

/-- Changes only: cnt, dev. -/
@[simp] theorem almEvent_only {m : Nat} {s x : State} (a1 a2) (h : 0x11 &&& m = 0x11) :
    Only m s (almEvent x a1 a2) ↔ Only m s x := Only.iff (by simp [almEvent]) h

/-- Changes only: cnt, dev, fmg. -/
@[simp] theorem isoCheck_only {m : Nat} {s x : State} (a1) (h : 0x19 &&& m = 0x19) :
    Only m s (isoCheck x a1) ↔ Only m s x := Only.iff (by simp [isoCheck]) h

/-- Changes only: store. -/
@[simp] theorem histAppend_only {m : Nat} {s x : State} (a1 a2) (h : 0x20000 &&& m = 0x20000) :
    Only m s (histAppend x a1 a2) ↔ Only m s x := Only.iff (by simp [histAppend]) h

/-- Changes only: cip, draws. -/
@[simp] theorem drawKek_only {m : Nat} {s x : State} (h : 0x200800 &&& m = 0x200800) :
    Only m s (drawKek x) ↔ Only m s x := Only.iff (by simp [drawKek]) h

/-- Changes only: cip, cnt, dev, fmg, grn, seq, store, stw, twn. -/
@[simp] theorem eraseVault_only {m : Nat} {s x : State} (a1 a2) (h : 0x288bb &&& m = 0x288bb) :
    Only m s (eraseVault x a1 a2) ↔ Only m s x := Only.iff (by simp [eraseVault]) h

/-! ## Domains -/

/-- Changes only: alm. -/
@[simp] theorem setDom_only {m : Nat} {s x : State} (a1 a2) (h : 0x10000 &&& m = 0x10000) :
    Only m s (setDom x a1 a2) ↔ Only m s x := Only.iff (by simp [setDom]) h

theorem startDeps_base (n : Nat) : ∀ (x : State) (d : Nat), Only 0x10000 x (startDeps n x d) := by
  induction n with
  | zero => intro x d; exact Only.refl _ _
  | succ n ih =>
    intro x d
    unfold startDeps
    split
    · simp
    · split
      · simp
      · exact (only_foldl ih _).mpr (by simp)

/-- Changes only: alm. -/
@[simp] theorem startDeps_only {m : Nat} {s x : State} (n d) (h : 0x10000 &&& m = 0x10000) :
    Only m s (startDeps n x d) ↔ Only m s x := Only.iff (startDeps_base _ _ _) h

/-- Changes only: alm. -/
@[simp] theorem startDom_only {m : Nat} {s x : State} (a1) (h : 0x10000 &&& m = 0x10000) :
    Only m s (startDom x a1) ↔ Only m s x := Only.iff (by simp [startDom]) h

/-- Changes only: alm, store. -/
@[simp] theorem askStart_only {m : Nat} {s x : State} (a1) (h : 0x30000 &&& m = 0x30000) :
    Only m s (askStart x a1) ↔ Only m s x := Only.iff (by simp [askStart]) h

/-! ## Order -/

/-- Changes only: qm. -/
@[simp] theorem setCq_only {m : Nat} {s x : State} (a1 a2) (h : 0x40 &&& m = 0x40) :
    Only m s (setCq x a1 a2) ↔ Only m s x := Only.iff (by simp [setCq]) h

/-- Changes only: cnt. -/
@[simp] theorem measure_only {m : Nat} {s x : State} (a1) (h : 0x10 &&& m = 0x10) :
    Only m s (measure x a1) ↔ Only m s x := Only.iff (by unfold measure; split <;> simp) h

/-- Changes only: qm. -/
@[simp] theorem setRing_only {m : Nat} {s x : State} (a1 a2 a3) (h : 0x40 &&& m = 0x40) :
    Only m s (setRing x a1 a2 a3) ↔ Only m s x := Only.iff (by simp [setRing]) h

/-- Changes only: seq. -/
@[simp] theorem holdStep_only {m : Nat} {s x : State} (a1) (h : 0x20 &&& m = 0x20) :
    Only m s (holdStep x a1) ↔ Only m s x := Only.iff (by simp [holdStep]) h

/-- Changes only: qm. -/
@[simp] theorem setWeight_only {m : Nat} {s x : State} (a1 a2 a3) (h : 0x40 &&& m = 0x40) :
    Only m s (setWeight x a1 a2 a3) ↔ Only m s x := Only.iff (by simp [setWeight]) h

/-! ## Rings -/

/-- Changes only: cnt, qm. -/
@[simp] theorem holdUpdate_only {m : Nat} {s x : State} (a1) (h : 0x50 &&& m = 0x50) :
    Only m s (holdUpdate x a1) ↔ Only m s x := Only.iff (by unfold holdUpdate; split <;> simp) h

/-- Changes only: out, pci. -/
@[simp] theorem raiseMsix_only {m : Nat} {s x : State} (a1 a2) (h : 0x84000 &&& m = 0x84000) :
    Only m s (raiseMsix x a1 a2) ↔ Only m s x := Only.iff (by simp [raiseMsix]) h

/-- Changes only: cnt, dev, out, pci. -/
@[simp] theorem cqSignal_only {m : Nat} {s x : State} (a1 a2) (h : 0x84011 &&& m = 0x84011) :
    Only m s (cqSignal x a1 a2) ↔ Only m s x := Only.iff (by simp [cqSignal]) h

/-- Changes only: out, pci. -/
@[simp] theorem sendHeld_only {m : Nat} {s x : State} (a1) (h : 0x84000 &&& m = 0x84000) :
    Only m s (sendHeld x a1) ↔ Only m s x := Only.iff (by simp [sendHeld]) h

/-- Changes only: cip, cnt, dev, fmg, fns, fwt, grn, haul, mac, qm, seq. -/
@[simp] theorem dmaViolation_only {m : Nat} {s x : State} (a1 a2) (h : 0x1bfd &&& m = 0x1bfd) :
    Only m s (dmaViolation x a1 a2) ↔ Only m s x := Only.iff (by simp [dmaViolation]) h

/-- Changes only: cip, cnt, dev, fmg, fns, fwt, grn, haul, mac, out, qm, seq. -/
@[simp] theorem hostWrite_only {m : Nat} {s x : State} (a1 a2 a3) (h : 0x81bfd &&& m = 0x81bfd) :
    Only m s (hostWrite x a1 a2 a3).2 ↔ Only m s x := Only.iff (by unfold hostWrite; (repeat' split) <;> simp) h

/-- Changes only: cip, cnt, dev, fmg, fns, fwt, grn, haul, mac, out, qm, seq. -/
@[simp] theorem cqPut_only {m : Nat} {s x : State} (a1 a2 a3) (h : 0x81bfd &&& m = 0x81bfd) :
    Only m s (cqPut x a1 a2 a3) ↔ Only m s x := Only.iff (by simp only [cqPut]; (repeat' split) <;> simp) h

theorem cqPutAll_base (x : State) (n : Nat) (l : List BackItem) : Only 0x81bfd x (cqPutAll x n l) := by
  induction l generalizing x with
  | nil => simp [cqPutAll]
  | cons a t ih =>
    unfold cqPutAll
    split
    · simp
    · split <;> exact (Only.iff (ih _) (by simp)).mpr (by simp)

/-- Changes only: cip, cnt, dev, fmg, fns, fwt, grn, haul, mac, out, qm, seq. -/
@[simp] theorem cqPutAll_only {m : Nat} {s x : State} (a1 a2) (h : 0x81bfd &&& m = 0x81bfd) :
    Only m s (cqPutAll x a1 a2) ↔ Only m s x := Only.iff (cqPutAll_base _ _ _) h

/-- Changes only: cip, cnt, dev, fmg, fns, fwt, grn, haul, mac, out, pci, qm, seq. -/
@[simp] theorem cqCounter_only {m : Nat} {s x : State} (a1) (h : 0x85bfd &&& m = 0x85bfd) :
    Only m s (cqCounter x a1) ↔ Only m s x := Only.iff (by unfold cqCounter; split <;> simp) h

/-- Changes only: cip, cnt, dev, fmg, fns, fwt, grn, haul, mac, out, pci, qm, seq. -/
@[simp] theorem cqPost_only {m : Nat} {s x : State} (a1 a2 a3) (h : 0x85bfd &&& m = 0x85bfd) :
    Only m s (cqPost x a1 a2 a3) ↔ Only m s x := Only.iff (by unfold cqPost; split <;> simp) h

/-- Changes only: cip, cnt, dev, fmg, fns, fwt, grn, haul, mac, out, pci, qm, seq. -/
@[simp] theorem coverTo_only {m : Nat} {s x : State} (a1 a2 a3 a4 a5 a6) (h : 0x85bfd &&& m = 0x85bfd) :
    Only m s (coverTo x a1 a2 a3 a4 a5 a6) ↔ Only m s x := Only.iff (by simp [coverTo]) h

/-- Changes only: cip, cnt, dev, fmg, fns, fwt, grn, haul, mac, out, pci, qm, seq. -/
@[simp] theorem retireOne_only {m : Nat} {s x : State} (a1 a2 a3 a4 a5) (h : 0x85bfd &&& m = 0x85bfd) :
    Only m s (retireOne x a1 a2 a3 a4 a5) ↔ Only m s x := Only.iff (by simp [retireOne]) h

theorem retireHead_base (x : State) (rx : Bool) (q n : Nat) : Only 0x85bfd x (retireHead x rx q n) := by
  induction n generalizing x with
  | zero => simp [retireHead]
  | succ n ih =>
    unfold retireHead
    split
    · simp
    · split
      · exact (Only.iff (ih _) rfl).mpr (by simp)
      · simp
      · split
        · split
          · simp
          · exact (Only.iff (ih _) rfl).mpr (by simp)
        · simp

/-- Changes only: cip, cnt, dev, fmg, fns, fwt, grn, haul, mac, out, pci, qm, seq. -/
@[simp] theorem retireHead_only {m : Nat} {s x : State} (a1 a2 a3) (h : 0x85bfd &&& m = 0x85bfd) :
    Only m s (retireHead x a1 a2 a3) ↔ Only m s x := Only.iff (retireHead_base _ _ _ _) h

/-- Changes only: cip, cnt, dev, fmg, fns, fwt, grn, haul, mac, out, pci, qm, seq. -/
@[simp] theorem entryEnded_only {m : Nat} {s x : State} (a1 a2 a3 a4) (h : 0x85bfd &&& m = 0x85bfd) :
    Only m s (entryEnded x a1 a2 a3 a4) ↔ Only m s x := Only.iff (by unfold entryEnded; split <;> simp) h

/-- Changes only: cip, cnt, dev, fmg, fns, fwt, grn, haul, mac, out, pci, qm, seq. -/
@[simp] theorem retireQueues_only {m : Nat} {s x : State} (a1) (h : 0x85bfd &&& m = 0x85bfd) :
    Only m s (retireQueues x a1) ↔ Only m s x := Only.iff (by
  unfold retireQueues
  (repeat' (first | split | (refine (only_foldl (fun _ _ => ?_) _).mpr ?_))) <;> simp) h

theorem drainItems_base (x : State) (n : Nat) (l : List BackItem) : Only 0x81bfd x (drainItems x n l) := by
  induction l generalizing x with
  | nil => simp [drainItems]
  | cons a t ih =>
    unfold drainItems
    split
    · simp
    · split
      · exact (Only.iff (ih _) (by simp)).mpr (by simp)
      · simp

/-- Changes only: cip, cnt, dev, fmg, fns, fwt, grn, haul, mac, out, qm, seq. -/
@[simp] theorem drainItems_only {m : Nat} {s x : State} (a1 a2) (h : 0x81bfd &&& m = 0x81bfd) :
    Only m s (drainItems x a1 a2) ↔ Only m s x := Only.iff (drainItems_base _ _ _) h

/-- Changes only: cip, cnt, dev, fmg, fns, fwt, grn, haul, mac, out, pci, qm, seq. -/
@[simp] theorem cqDrain_only {m : Nat} {s x : State} (a1) (h : 0x85bfd &&& m = 0x85bfd) :
    Only m s (cqDrain x a1) ↔ Only m s x := Only.iff (by unfold cqDrain; split <;> simp) h

/-- Changes only: cip, cnt, dev, fmg, fns, fwt, grn, haul, mac, out, pci, qm, seq. -/
@[simp] theorem coverAll_only {m : Nat} {s x : State} (a1 a2 a3 a4) (h : 0x85bfd &&& m = 0x85bfd) :
    Only m s (coverAll x a1 a2 a3 a4) ↔ Only m s x := Only.iff (by simp [coverAll]) h

/-! ## Conns -/

/-- Changes only: stg. -/
@[simp] theorem setConn_only {m : Nat} {s x : State} (a1 a2) (h : 0x2000 &&& m = 0x2000) :
    Only m s (setConn x a1 a2) ↔ Only m s x := Only.iff (by simp [setConn]) h

/-- Changes only: out, twn. -/
@[simp] theorem sendLines_only {m : Nat} {s x : State} (a1 a2) (h : 0x88000 &&& m = 0x88000) :
    Only m s (sendLines x a1 a2) ↔ Only m s x := Only.iff (by simp [sendLines]) h

/-- Changes only: out, stg, twn. -/
@[simp] theorem endTurn_only {m : Nat} {s x : State} (a1) (h : 0x8a000 &&& m = 0x8a000) :
    Only m s (endTurn x a1) ↔ Only m s x := Only.iff (by unfold endTurn; split <;> simp) h

/-! ## Packets -/

/-- Changes only: cip. -/
@[simp] theorem releaseHeldLane_only {m : Nat} {s x : State} (a1 a2) (h : 0x800 &&& m = 0x800) :
    Only m s (releaseHeldLane x a1 a2) ↔ Only m s x := Only.iff (by simp [releaseHeldLane]) h

/-- Changes only: cnt, haul, seq. -/
@[simp] theorem writeTrace_only {m : Nat} {s x : State} (a1 a2 a3 a4) (h : 0x1030 &&& m = 0x1030) :
    Only m s (writeTrace x a1 a2 a3 a4) ↔ Only m s x := Only.iff (by unfold writeTrace; split <;> simp) h

/-- Changes only: cnt, dev, seq. -/
@[simp] theorem drainBank_only {m : Nat} {s x : State} (a1) (h : 0x31 &&& m = 0x31) :
    Only m s (drainBank x a1) ↔ Only m s x := Only.iff (by simp [drainBank]) h

/-- Changes only: seq. -/
@[simp] theorem admitPkt_only {m : Nat} {s x : State} (a1 a2) (h : 0x20 &&& m = 0x20) :
    Only m s (admitPkt x a1 a2) ↔ Only m s x := Only.iff (by simp [admitPkt]) h

/-- Changes only: cip, cnt, dev, fmg, fns, fwt, grn, haul, mac, out, pci, qm, seq, stg, twn. -/
@[simp] theorem finishPkt_only {m : Nat} {s x : State} (a1 a2 a3 a4 a5) (h : 0x8fbfd &&& m = 0x8fbfd) :
    Only m s (finishPkt x a1 a2 a3 a4 a5) ↔ Only m s x := Only.iff (by unfold finishPkt; (repeat' split) <;> simp) h

/-- Changes only: cip, cnt, dev, fmg, fns, fwt, grn, haul, mac, out, pci, qm, seq, stg, twn. -/
@[simp] theorem endPacket_only {m : Nat} {s x : State} (a1 a2 a3 a4 a5 a6) (h : 0x8fbfd &&& m = 0x8fbfd) :
    Only m s (endPacket x a1 a2 a3 a4 a5 a6) ↔ Only m s x := Only.iff (by simp [endPacket]) h

/-- Changes only: cip, cnt, dev, fmg, fns, fwt, grn, haul, mac, out, pci, qm, seq, stg, twn. -/
@[simp] theorem corruptStep_only {m : Nat} {s x : State} (a1 a2 a3) (h : 0x8fbfd &&& m = 0x8fbfd) :
    Only m s (corruptStep x a1 a2 a3) ↔ Only m s x := Only.iff (by simp [corruptStep]) h

/-- Changes only: cip, cnt, dev, fmg, fns, fwt, grn, haul, mac, out, pci, qm, seq, stg, twn. -/
@[simp] theorem withStep_only {m : Nat} {s x : State} {f : StepIn → State} (a1 a2 a3 a4)
    (h : ∀ k, Only m s (corruptStep x a3 a4 k)) (hh : ∀ y, Only m s (holdStep x y)) (hx : Only m s x)
    (hf : ∀ y, Only m s (f y)) : Only m s (withStep a1 a2 a3 a4 x f) := by
  unfold withStep
  split
  · exact hx
  · split
    · exact h _
    · simp only; split
      · split
        · exact hf _
        · exact hh _
      · exact hx

/-- Changes only: cnt, dev, fns, grn, seq. -/
@[simp] theorem unitGate_only {m : Nat} {s x f : State} {i : StepIn} {fid : Nat} {mark : Bool} :
    Only m s (unitGate x i fid mark f) ↔ (isFrozen x fid = true → Only m s (done (joinOnly x f fid).2 i .frozen)) ∧
      (¬ isFrozen x fid = true → Only m s (poisonGate x i mark f)) := by unfold unitGate; exact only_ite

/-! ## TwinBase -/

/-- Changes only: cip. -/
@[simp] theorem setSa_only {m : Nat} {s x : State} (a1 a2) (h : 0x800 &&& m = 0x800) :
    Only m s (setSa x a1 a2) ↔ Only m s x := Only.iff (by simp [setSa]) h

/-- Changes only: cip, out, twn. -/
@[simp] theorem askLease_only {m : Nat} {s x : State} (a1) (h : 0x88800 &&& m = 0x88800) :
    Only m s (askLease x a1) ↔ Only m s x := Only.iff (by unfold askLease; split <;> simp) h

/-! ## Cipher -/

/-- Changes only: cip. -/
@[simp] theorem claimLane_only {m : Nat} {s x : State} (a1 a2 a3 a4) (h : 0x800 &&& m = 0x800) :
    Only m s (claimLane x a1 a2 a3 a4) ↔ Only m s x := Only.iff (by simp [claimLane]) h

/-- Changes only: cip, out, seq, twn. -/
@[simp] theorem acceptRecord_only {m : Nat} {s x : State} (a1 a2 a3 a4 a5 a6) (h : 0x88820 &&& m = 0x88820) :
    Only m s (acceptRecord x a1 a2 a3 a4 a5 a6) ↔ Only m s x := Only.iff (by simp [acceptRecord]) h

/-- Changes only: cip, out, twn. -/
@[simp] theorem snapshotSa_only {m : Nat} {s x : State} (a1 a2) (h : 0x88800 &&& m = 0x88800) :
    Only m s (snapshotSa x a1 a2) ↔ Only m s x := Only.iff (by simp [snapshotSa]) h

/-- Changes only: cip, out, twn. -/
@[simp] theorem commitRecord_only {m : Nat} {s x : State} (a1 a2) (h : 0x88800 &&& m = 0x88800) :
    Only m s (commitRecord x a1 a2) ↔ Only m s x := Only.iff (by simp [commitRecord]) h

/-- Changes only: cip. -/
@[simp] theorem laneFor_only {m : Nat} {s x : State} (a1 a2) (h : 0x800 &&& m = 0x800) :
    Only m s (laneFor x a1 a2).2 ↔ Only m s x := Only.iff (by unfold laneFor; (repeat' split) <;> simp) h

/-- Changes only: cnt, dev, grn, seq. -/
@[simp] theorem refuseRecord_only {m : Nat} {s x : State} (a1 a2 a3 a4) (h : 0xb1 &&& m = 0xb1) :
    Only m s (refuseRecord x a1 a2 a3 a4) ↔ Only m s x := Only.iff (by unfold refuseRecord; split <;> simp) h

/-- Changes only: cip, cnt, dev, fmg, fns, fwt, grn, haul, mac, out, pci, qm, seq, stg, twn. -/
theorem execCipRecord_only {m : Nat} {s x : State} (a0 a1) (h : 0x8fbfd &&& m = 0x8fbfd) :
    Only m s ((execCipRecord a0 a1 x).after x) ↔ Only m s x := Only.iff (by
  simp only [execCipRecord, Res_next_after]
  refine withStep_only _ _ _ _ (by simp) (by simp) (Only.refl _ _) (fun y => ?_)
  (repeat' (split <;> (try (rename_i hh; (try cases trd_of hh); (try cases mid_of hh); (try cases snd_of hh); (try cases fst_of hh))))) <;> simp) h

/-- Changes only: cip, cnt, dev, fmg, fns, fwt, grn, haul, mac, qm, seq. -/
theorem execClaimExpiry_only {m : Nat} {s x : State} (a0) (h : 0x1bfd &&& m = 0x1bfd) :
    Only m s ((execClaimExpiry a0 x).after x) ↔ Only m s x := Only.iff (by simp [execClaimExpiry]) h

/-- Changes only: cip, cnt, dev, grn, out, seq, twn. -/
@[simp] theorem finishDecrypt_only {m : Nat} {s x : State} (a1 a2 a3 a4) (h : 0x888b1 &&& m = 0x888b1) :
    Only m s (finishDecrypt x a1 a2 a3 a4) ↔ Only m s x := Only.iff (by
  simp only [finishDecrypt]
  (repeat' split) <;> simp) h

/-- Changes only: cnt, dev, grn, seq. -/
@[simp] theorem finishEncrypt_only {m : Nat} {s x : State} (a1 a2 a3 a4) (h : 0xb1 &&& m = 0xb1) :
    Only m s (finishEncrypt x a1 a2 a3 a4) ↔ Only m s x := Only.iff (by simp [finishEncrypt]) h

/-- Changes only: cip, cnt, dev, grn, out, seq, twn. -/
theorem execRecordFinish_only {m : Nat} {s x : State} (a0) (h : 0x888b1 &&& m = 0x888b1) :
    Only m s ((execRecordFinish a0 x).after x) ↔ Only m s x := Only.iff (by
  simp only [execRecordFinish, Res_next_after]
  (repeat' split) <;> simp) h

/-! ## Tags -/

/-- Changes only: cnt, draws. -/
@[simp] theorem rowTag_only {m : Nat} {s x : State} (a1) (h : 0x200010 &&& m = 0x200010) :
    Only m s (rowTag x a1).2 ↔ Only m s x := Only.iff (by simp only [rowTag]; (repeat' split) <;> simp) h

/-- Changes only: cnt, dev, pci. -/
@[simp] theorem readTimedOut_only {m : Nat} {s x : State} (a1 a2 a3 a4) (h : 0x4011 &&& m = 0x4011) :
    Only m s (readTimedOut x a1 a2 a3 a4) ↔ Only m s x := Only.iff (by simp [readTimedOut]) h

/-- Changes only: cnt, dev, draws, out, pci. -/
@[simp] theorem rowRead_only {m : Nat} {s x : State} (a1 a2 a3 a4) (h : 0x284011 &&& m = 0x284011) :
    Only m s (rowRead x a1 a2 a3 a4) ↔ Only m s x := Only.iff (by unfold rowRead; split <;> simp) h

/-! ## Reply -/

/-- Changes only: out, twn. -/
@[simp] theorem sendMirrored_only {m : Nat} {s x : State} (a1 a2 a3 a4) (h : 0x88000 &&& m = 0x88000) :
    Only m s (sendMirrored x a1 a2 a3 a4) ↔ Only m s x := Only.iff (by simp [sendMirrored]) h

/-- Changes only: fns, out, pci. -/
@[simp] theorem mailboxReply_only {m : Nat} {s x : State} (a1 a2 a3) (h : 0x84004 &&& m = 0x84004) :
    Only m s (mailboxReply x a1 a2 a3) ↔ Only m s x := Only.iff (by simp [mailboxReply]) h

/-- Changes only: out, twn. -/
@[simp] theorem twinAck_only {m : Nat} {s x : State} (a1) (h : 0x88000 &&& m = 0x88000) :
    Only m s (twinAck x a1) ↔ Only m s x := Only.iff (by simp [twinAck]) h

/-- Changes only: out, twn. -/
@[simp] theorem twinResult_only {m : Nat} {s x : State} (a1 a2) (h : 0x88000 &&& m = 0x88000) :
    Only m s (twinResult x a1 a2) ↔ Only m s x := Only.iff (by simp [twinResult]) h

@[simp] theorem no_s (s : State) (st : Status) : (no s st).s = s := rfl

@[simp] theorem ok_s (s : State) : (ok s).s = s := rfl

@[simp] theorem ite_s (c : Prop) [Decidable c] (a b : CmdOut) : (if c then a else b).s = if c then a.s else b.s := by
  split <;> rfl

/-- Changes only: stw. -/
@[simp] theorem takeAccepted_only {m : Nat} {s x : State} (a1 a2) (h : 0x2 &&& m = 0x2) :
    Only m s (takeAccepted x a1 a2).2 ↔ Only m s x := Only.iff (by unfold takeAccepted; (repeat' split) <;> simp) h

@[simp] theorem noItem_s (s : State) (st : Status) (i : Nat) : (noItem s st i).s = s := rfl

@[simp] theorem bgOpen_s (s : State) (d : Nat) : (bgOpen s d).s = s := rfl

@[simp] theorem okWith_s (s : State) (r : List Fld) : (okWith s r).s = s := rfl

@[simp] theorem bgUntil_s (s : State) (d : Nat) (e : CmdEnd) : (bgUntil s d e).s = s := rfl

/-- Changes only: stw. -/
@[simp] theorem began_only {m : Nat} {s x : State} (a1 a2) (h : 0x2 &&& m = 0x2) :
    Only m s (began x a1 a2) ↔ Only m s x := Only.iff (by simp [began]) h

/-- Changes only: cip, cnt, dev, fmg, fns, fwt, grn, haul, mac, out, qm, seq, stw. -/
@[simp] theorem rplWrite_only {m : Nat} {s x : State} (a1) (h : 0x81bff &&& m = 0x81bff) :
    Only m s (rplWrite x a1) ↔ Only m s x := Only.iff (by simp [rplWrite]) h

/-- Changes only: cip, cnt, dev, fmg, fns, fwt, grn, haul, mac, out, qm, seq, stw. -/
@[simp] theorem adminReply_only {m : Nat} {s x : State} (a1 a2 a3 a4) (h : 0x81bff &&& m = 0x81bff) :
    Only m s (adminReply x a1 a2 a3 a4) ↔ Only m s x := Only.iff (by simp [adminReply]) h

/-- Changes only: cip, cnt, dev, fmg, fns, fwt, grn, haul, mac, out, pci, qm, seq, stw, twn. -/
@[simp] theorem sendReply_only {m : Nat} {s x : State} (a1 a2 a3 a4) (h : 0x8dbff &&& m = 0x8dbff) :
    Only m s (sendReply x a1 a2 a3 a4) ↔ Only m s x := Only.iff (by unfold sendReply; split <;> simp) h

/-- Changes only: cip, cnt, dev, fmg, fns, fwt, grn, haul, mac, out, pci, qm, seq, stw, twn. -/
@[simp] theorem answer_only {m : Nat} {s x : State} (a1 a2 a3 a4 a5) (h : 0x8dbff &&& m = 0x8dbff) :
    Only m s (answer x a1 a2 a3 a4 a5) ↔ Only m s x := Only.iff (by simp [answer]) h

/-- Changes only: cip, cnt, dev, fmg, fns, fwt, grn, haul, mac, out, pci, qm, seq, stw, twn. -/
@[simp] theorem endCommand_only {m : Nat} {s x : State} (a1 a2 a3 a4 a5) (h : 0x8dbff &&& m = 0x8dbff) :
    Only m s (endCommand x a1 a2 a3 a4 a5) ↔ Only m s x := Only.iff (by simp [endCommand]) h

/-- Changes only: cip, cnt, dev, fmg, fns, fwt, grn, haul, mac, out, pci, qm, seq, stw, twn. -/
@[simp] theorem endBg_only {m : Nat} {s x : State} (a1 a2 a3) (h : 0x8dbff &&& m = 0x8dbff) :
    Only m s (endBg x a1 a2 a3) ↔ Only m s x := Only.iff (by simp [endBg]) h

/-- Changes only: cip, cnt, dev, fmg, fns, fwt, grn, haul, mac, out, pci, qm, seq, stw, twn. -/
@[simp] theorem denyCheck_only {m : Nat} {s x : State} (a1 a2 a3 a4 a5 a6 a7) (h : 0x8dbff &&& m = 0x8dbff) :
    Only m s (denyCheck x a1 a2 a3 a4 a5 a6 a7) ↔ Only m s x := Only.iff (by simp [denyCheck]) h

/-- Changes only: cip, cnt, dev, fmg, fns, fwt, grn, haul, mac, out, pci, qm, seq, stw, twn. -/
@[simp] theorem settleCmd_only {m : Nat} {s x : State} {o : CmdOut} (a1 a2 a3 a4) (h : 0x8dbff &&& m = 0x8dbff)
    (hx : Only m s x) (hf : Only m s o.s) : Only m s (settleCmd x a1 a2 a3 a4 o) := by
  have a : 2 &&& m = 2 := sub_trans rfl h
  unfold settleCmd
  (repeat' split) <;> simp [a, h, hx, hf]

/-- Changes only: cip, cnt, dev, fmg, fns, fwt, grn, haul, mac, out, pci, qm, seq, stw, twn. -/
@[simp] theorem runCmd_only {m : Nat} {s x : State} {f : State → CmdOut} (a1 a2 a3 a4 a5) (h : 0x8dbff &&& m = 0x8dbff)
    (hx : Only m s x) (hf : ∀ y, Only m s y → Only m s (f y).s) : Only m s (runCmd a1 a2 a3 a4 a5 f x) := by
  have a : 2 &&& m = 2 := sub_trans rfl h
  have b : Only m s (takeAccepted x a1 a2).2 := by simp [a, hx]
  unfold runCmd
  simp only
  split
  · exact hx
  · (repeat' split) <;> first | (simp [h, b]; done) | exact settleCmd_only _ _ _ _ h b (hf _ b)

/-- Changes only: cip, cnt, dev, fmg, fns, fwt, grn, haul, mac, out, pci, qm, seq, stw, twn. -/
@[simp] theorem endFore_only {m : Nat} {s x : State} (a1 a2) (h : 0x8dbff &&& m = 0x8dbff) :
    Only m s (endFore x a1 a2) ↔ Only m s x := Only.iff (by simp [endFore]) h

/-- Changes only: cip, cnt, dev, draws, fmg, fns, fwt, grn, haul, mac, out, pci, qm, seq. -/
@[simp] theorem imageRead_only {m : Nat} {s x : State} (a1 a2 a3) (h : 0x285bfd &&& m = 0x285bfd) :
    Only m s (imageRead x a1 a2 a3).2 ↔ Only m s x := Only.iff (by unfold imageRead; (repeat' split) <;> simp) h

@[simp] theorem foreOpen_s (s : State) : (foreOpen s).s = s := rfl

/-! ## CipherCmds -/

/-- Changes only: draws. -/
@[simp] theorem findSlot_only {m : Nat} {s x : State} (a1) (h : 0x200000 &&& m = 0x200000) :
    Only m s (findSlot x a1).2 ↔ Only m s x := Only.iff (by simp [findSlot]) h

/-- Changes only: cip, draws. -/
@[simp] theorem activate_only {m : Nat} {s x : State} (n : Nat) (a : Sa) (h : 0x200800 &&& m = 0x200800)
    (hx : Only m s x) : Only m s (activate x n a).s := by
  have b : 0x800 &&& m = 0x800 := sub_trans rfl h
  have c : 0x200000 &&& m = 0x200000 := sub_trans rfl h
  unfold activate
  split
  · exact hx
  · split
    · exact hx
    · rename_i hh; replace hh := congrArg Prod.snd hh; dsimp only at hh; subst hh; simp [b, c, hx]

@[simp] theorem afterRecords_s (s : State) (n : Nat) : (afterRecords s n).s = s := by unfold afterRecords; split <;> rfl

/-- Changes only: cip. -/
@[simp] theorem assignLanes_only {m : Nat} {s x : State} (a1 a2) (h : 0x800 &&& m = 0x800) :
    Only m s (assignLanes x a1 a2) ↔ Only m s x := Only.iff (by simp [assignLanes]) h

/-- Changes only: cip. -/
@[simp] theorem putCGrant_only {m : Nat} {s x : State} (a1 a2) (h : 0x800 &&& m = 0x800) :
    Only m s (putCGrant x a1 a2) ↔ Only m s x := Only.iff (by simp [putCGrant]) h

/-- Changes only: cip. -/
@[simp] theorem wrapLane_only {m : Nat} {s x : State} (h : 0x800 &&& m = 0x800) :
    Only m s (wrapLane x) ↔ Only m s x := Only.iff (by unfold wrapLane; split <;> simp) h

@[simp] theorem wrapDone_only {m : Nat} {s : State} {o : CmdOut} (h : 0x800 &&& m = 0x800) :
    Only m s (wrapDone o).s ↔ Only m s o.s := by
  unfold wrapDone
  split
  · simp [h]
  · rfl

/-- Changes only: cip. -/
@[simp] theorem dropSa_only {m : Nat} {s x : State} (a1 a2) (h : 0x800 &&& m = 0x800) :
    Only m s (dropSa x a1 a2) ↔ Only m s x := Only.iff (by simp [dropSa]) h

/-- Changes only: cip, cnt, dev, draws, fmg, fns, fwt, grn, haul, mac, out, pci, qm, seq, stw, twn. -/
@[simp] theorem execInstallSa_only {m : Nat} {s x : State} (a0 a1 a2) (h : 0x28dbff &&& m = 0x28dbff) :
    Only m s ((execInstallSa a0 a1 a2 x).after x) ↔ Only m s x := Only.iff (by
  simp only [execInstallSa, Res_next_after]
  split
  · simp
  · refine runCmd_only _ _ _ _ _ (by simp) (Only.refl _ _) (fun y hy => ?_)
    (repeat' split) <;> simp [hy]) h

/-- Changes only: cip, cnt, dev, fmg, fns, fwt, grn, haul, mac, out, pci, qm, seq, stw, twn. -/
@[simp] theorem execRemoveSa_only {m : Nat} {s x : State} (a0 a1) (h : 0x8dbff &&& m = 0x8dbff) :
    Only m s ((execRemoveSa a0 a1 x).after x) ↔ Only m s x := Only.iff (by
  simp only [execRemoveSa, Res_next_after]
  refine runCmd_only _ _ _ _ _ (by simp) (Only.refl _ _) (fun y hy => ?_)
  (repeat' split) <;> simp [hy]) h

/-- Changes only: cip, cnt, dev, draws, fmg, fns, fwt, grn, haul, mac, out, pci, qm, seq, stw, twn. -/
@[simp] theorem execActivateSa_only {m : Nat} {s x : State} (a0 a1) (h : 0x28dbff &&& m = 0x28dbff) :
    Only m s ((execActivateSa a0 a1 x).after x) ↔ Only m s x := Only.iff (by
  simp only [execActivateSa, Res_next_after]
  refine runCmd_only _ _ _ _ _ (by simp) (Only.refl _ _) (fun y hy => ?_)
  (repeat' split) <;> simp [hy]) h

/-- Changes only: cip, cnt, dev, fmg, fns, fwt, grn, haul, mac, out, pci, qm, seq, stw, twn. -/
@[simp] theorem execDeactivateSa_only {m : Nat} {s x : State} (a0 a1) (h : 0x8dbff &&& m = 0x8dbff) :
    Only m s ((execDeactivateSa a0 a1 x).after x) ↔ Only m s x := Only.iff (by
  simp only [execDeactivateSa, Res_next_after]
  refine runCmd_only _ _ _ _ _ (by simp) (Only.refl _ _) (fun y hy => ?_)
  (repeat' split) <;> simp [hy]) h

/-- Changes only: cip, cnt, dev, draws, fmg, fns, fwt, grn, haul, mac, out, pci, qm, seq, stw, twn. -/
@[simp] theorem execRekeySa_only {m : Nat} {s x : State} (a0 a1 a2 a3) (h : 0x28dbff &&& m = 0x28dbff) :
    Only m s ((execRekeySa a0 a1 a2 a3 x).after x) ↔ Only m s x := Only.iff (by
  simp only [execRekeySa, Res_next_after]
  refine runCmd_only _ _ _ _ _ (by simp) (Only.refl _ _) (fun y hy => ?_)
  (repeat' split) <;> simp [hy]) h

/-- Changes only: cip, cnt, dev, fmg, fns, fwt, grn, haul, mac, out, pci, qm, seq, stw, twn. -/
@[simp] theorem execSetCipherGrant_only {m : Nat} {s x : State} (a0 a1 a2 a3 a4) (h : 0x8dbff &&& m = 0x8dbff) :
    Only m s ((execSetCipherGrant a0 a1 a2 a3 a4 x).after x) ↔ Only m s x := Only.iff (by
  simp only [execSetCipherGrant, Res_next_after]
  exact runCmd_only _ _ _ _ _ (by simp) (Only.refl _ _) (fun y hy => by simp [hy])) h

/-- Changes only: cip, cnt, dev, fmg, fns, fwt, grn, haul, mac, out, pci, qm, seq, store, stw, twn. -/
@[simp] theorem execEraseVault_only {m : Nat} {s x : State} (a0) (h : 0xadbff &&& m = 0xadbff) :
    Only m s ((execEraseVault a0 x).after x) ↔ Only m s x := Only.iff (by
  simp only [execEraseVault, Res_next_after]
  exact runCmd_only _ _ _ _ _ (by simp) (Only.refl _ _) (fun y hy => by simp [hy])) h

/-- Changes only: cip, cnt, dev, fmg, fns, fwt, grn, haul, mac, out, pci, qm, seq, stw, twn. -/
@[simp] theorem endSaWaits_only {m : Nat} {s x : State} (h : 0x8dbff &&& m = 0x8dbff) :
    Only m s (endSaWaits x) ↔ Only m s x := Only.iff (by
  unfold endSaWaits
  (repeat' (first | split | (refine (only_foldl (fun _ _ => ?_) _).mpr ?_))) <;> simp) h

/-- Changes only: cip, cnt, dev, fmg, fns, fwt, grn, haul, mac, out, pci, qm, seq, stw, twn. -/
theorem execReadSa_only {m : Nat} {s x : State} (a0 a1) (h : 0x8dbff &&& m = 0x8dbff) :
    Only m s ((execReadSa a0 a1 x).after x) ↔ Only m s x := Only.iff (by
  simp only [execReadSa, Res_next_after]
  refine runCmd_only _ _ _ _ _ (by simp) (Only.refl _ _) (fun y hy => ?_)
  (repeat' split) <;> simp [hy]) h

/-! ## StepsCore -/

/-- Changes only: cnt. -/
@[simp] theorem cntAdd_only {m : Nat} {s x : State} (a1 a2 a3) (h : 0x10 &&& m = 0x10) :
    Only m s (cntAdd x a1 a2 a3) ↔ Only m s x := Only.iff (by simp [cntAdd]) h

/-- Changes only: cnt. -/
@[simp] theorem dropCount_only {m : Nat} {s x : State} (a1 a2) (h : 0x10 &&& m = 0x10) :
    Only m s (dropCount x a1 a2) ↔ Only m s x := Only.iff (by simp [dropCount]) h

/-- Changes only: sw. -/
@[simp] theorem setPolicer_only {m : Nat} {s x : State} (a1 a2) (h : 0x400 &&& m = 0x400) :
    Only m s (setPolicer x a1 a2) ↔ Only m s x := Only.iff (by simp [setPolicer]) h

/-- Changes only: cip, cnt, dev, fmg, fns, fwt, grn, haul, mac, out, pci, qm, seq, stg, twn. -/
@[simp] theorem aluBin_only {m : Nat} {s x : State} (a0 a1 a2 a4) (h : 0x8fbfd &&& m = 0x8fbfd) :
    Only m s (aluBin a0 a1 a2 x a4) ↔ Only m s x := Only.iff (by simp [aluBin]) h

/-- Changes only: cip, cnt, dev, fmg, fns, fwt, grn, haul, mac, out, pci, qm, seq, stg, twn. -/
@[simp] theorem aluCmp_only {m : Nat} {s x : State} (a0 a1 a2 a4) (h : 0x8fbfd &&& m = 0x8fbfd) :
    Only m s (aluCmp a0 a1 a2 x a4) ↔ Only m s x := Only.iff (by simp [aluCmp]) h

/-- Changes only: cip, cnt, dev, fmg, fns, fwt, grn, haul, mac, out, pci, qm, seq, stg, twn. -/
theorem execAluAdd_only {m : Nat} {s x : State} (a0 a1) (h : 0x8fbfd &&& m = 0x8fbfd) :
    Only m s ((execAluAdd a0 a1 x).after x) ↔ Only m s x := Only.iff (by simp [execAluAdd]) h

/-- Changes only: cip, cnt, dev, fmg, fns, fwt, grn, haul, mac, out, pci, qm, seq, stg, twn. -/
theorem execAluAnd_only {m : Nat} {s x : State} (a0 a1) (h : 0x8fbfd &&& m = 0x8fbfd) :
    Only m s ((execAluAnd a0 a1 x).after x) ↔ Only m s x := Only.iff (by simp [execAluAnd]) h

/-- Changes only: cip, cnt, dev, fmg, fns, fwt, grn, haul, mac, out, pci, qm, seq, stg, twn. -/
theorem execAluCmpEq_only {m : Nat} {s x : State} (a0 a1) (h : 0x8fbfd &&& m = 0x8fbfd) :
    Only m s ((execAluCmpEq a0 a1 x).after x) ↔ Only m s x := Only.iff (by simp [execAluCmpEq]) h

/-- Changes only: cip, cnt, dev, fmg, fns, fwt, grn, haul, mac, out, pci, qm, seq, stg, twn. -/
theorem execAluCmpLt_only {m : Nat} {s x : State} (a0 a1) (h : 0x8fbfd &&& m = 0x8fbfd) :
    Only m s ((execAluCmpLt a0 a1 x).after x) ↔ Only m s x := Only.iff (by simp [execAluCmpLt]) h

/-- Changes only: cip, cnt, dev, fmg, fns, fwt, grn, haul, mac, out, pci, qm, seq, stg, twn. -/
theorem execAluMove_only {m : Nat} {s x : State} (a0 a1) (h : 0x8fbfd &&& m = 0x8fbfd) :
    Only m s ((execAluMove a0 a1 x).after x) ↔ Only m s x := Only.iff (by simp [execAluMove]) h

/-- Changes only: cip, cnt, dev, fmg, fns, fwt, grn, haul, mac, out, pci, qm, seq, stg, twn. -/
theorem execAluOr_only {m : Nat} {s x : State} (a0 a1) (h : 0x8fbfd &&& m = 0x8fbfd) :
    Only m s ((execAluOr a0 a1 x).after x) ↔ Only m s x := Only.iff (by simp [execAluOr]) h

/-- Changes only: cip, cnt, dev, fmg, fns, fwt, grn, haul, mac, out, pci, qm, seq, stg, twn. -/
theorem execAluShift_only {m : Nat} {s x : State} (a0 a1) (h : 0x8fbfd &&& m = 0x8fbfd) :
    Only m s ((execAluShift a0 a1 x).after x) ↔ Only m s x := Only.iff (by simp [execAluShift]) h

/-- Changes only: cip, cnt, dev, fmg, fns, fwt, grn, haul, mac, out, pci, qm, seq, stg, twn. -/
theorem execAluSub_only {m : Nat} {s x : State} (a0 a1) (h : 0x8fbfd &&& m = 0x8fbfd) :
    Only m s ((execAluSub a0 a1 x).after x) ↔ Only m s x := Only.iff (by simp [execAluSub]) h

/-- Changes only: cip, cnt, dev, fmg, fns, fwt, grn, haul, mac, out, pci, qm, seq, stg, twn. -/
theorem execAluXor_only {m : Nat} {s x : State} (a0 a1) (h : 0x8fbfd &&& m = 0x8fbfd) :
    Only m s ((execAluXor a0 a1 x).after x) ↔ Only m s x := Only.iff (by simp [execAluXor]) h

/-- Changes only: cip, cnt, dev, fmg, fns, fwt, grn, haul, mac, out, pci, qm, seq, stg, twn. -/
theorem execCntAdd_only {m : Nat} {s x : State} (a0 a1) (h : 0x8fbfd &&& m = 0x8fbfd) :
    Only m s ((execCntAdd a0 a1 x).after x) ↔ Only m s x := Only.iff (by simp [execCntAdd]) h

/-- Changes only: cip, cnt, dev, fmg, fns, fwt, grn, haul, mac, out, pci, qm, seq, stg, twn. -/
theorem execCntInc_only {m : Nat} {s x : State} (a0 a1) (h : 0x8fbfd &&& m = 0x8fbfd) :
    Only m s ((execCntInc a0 a1 x).after x) ↔ Only m s x := Only.iff (by simp [execCntInc]) h

/-- Changes only: cip, cnt, dev, fmg, fns, fwt, grn, haul, mac, out, pci, qm, seq, stg, twn. -/
theorem execCtlDrop_only {m : Nat} {s x : State} (a0 a1) (h : 0x8fbfd &&& m = 0x8fbfd) :
    Only m s ((execCtlDrop a0 a1 x).after x) ↔ Only m s x := Only.iff (by simp [execCtlDrop]) h

/-- Changes only: cip, cnt, dev, fmg, fns, fwt, grn, haul, mac, out, pci, qm, seq, stg, twn. -/
theorem execCtlEnd_only {m : Nat} {s x : State} (a0 a1) (h : 0x8fbfd &&& m = 0x8fbfd) :
    Only m s ((execCtlEnd a0 a1 x).after x) ↔ Only m s x := Only.iff (by simp [execCtlEnd]) h

/-- Changes only: cip, cnt, dev, fmg, fns, fwt, grn, haul, mac, out, pci, qm, seq, stg, twn. -/
theorem execCtlHook_only {m : Nat} {s x : State} (a0 a1) (h : 0x8fbfd &&& m = 0x8fbfd) :
    Only m s ((execCtlHook a0 a1 x).after x) ↔ Only m s x := Only.iff (by
  simp only [execCtlHook, Res_next_after]
  refine withStep_only _ _ _ _ (by simp) (by simp) (Only.refl _ _) (fun y => ?_)
  (repeat' split) <;> simp) h

/-- Changes only: cip, cnt, dev, fmg, fns, fwt, grn, haul, mac, out, pci, qm, seq, stg, twn. -/
theorem execCtlJump_only {m : Nat} {s x : State} (a0 a1) (h : 0x8fbfd &&& m = 0x8fbfd) :
    Only m s ((execCtlJump a0 a1 x).after x) ↔ Only m s x := Only.iff (by simp [execCtlJump]) h

/-- Changes only: cip, cnt, dev, fmg, fns, fwt, grn, haul, mac, out, pci, qm, seq, stg, twn. -/
theorem execCtlMark_only {m : Nat} {s x : State} (a0 a1) (h : 0x8fbfd &&& m = 0x8fbfd) :
    Only m s ((execCtlMark a0 a1 x).after x) ↔ Only m s x := Only.iff (by simp [execCtlMark]) h

/-- Changes only: cip, cnt, dev, fmg, fns, fwt, grn, haul, mac, out, pci, qm, seq, stg, twn. -/
theorem execCtlReturn_only {m : Nat} {s x : State} (a0 a1) (h : 0x8fbfd &&& m = 0x8fbfd) :
    Only m s ((execCtlReturn a0 a1 x).after x) ↔ Only m s x := Only.iff (by
  simp only [execCtlReturn, Res_next_after]
  refine withStep_only _ _ _ _ (by simp) (by simp) (Only.refl _ _) (fun y => ?_)
  (repeat' split) <;> simp) h

/-- Changes only: cip, cnt, dev, fmg, fns, fwt, grn, haul, mac, out, pci, qm, seq, stg, twn. -/
@[simp] theorem hashStep_only {m : Nat} {s x : State} (a0 a1 a2 a4 a5) (h : 0x8fbfd &&& m = 0x8fbfd) :
    Only m s (hashStep a0 a1 a2 x a4 a5) ↔ Only m s x := Only.iff (by simp [hashStep]) h

/-- Changes only: cip, cnt, dev, fmg, fns, fwt, grn, haul, mac, out, pci, qm, seq, stg, twn. -/
theorem execHashCrc32_only {m : Nat} {s x : State} (a0 a1) (h : 0x8fbfd &&& m = 0x8fbfd) :
    Only m s ((execHashCrc32 a0 a1 x).after x) ↔ Only m s x := Only.iff (by simp [execHashCrc32]) h

/-- Changes only: cip, cnt, dev, fmg, fns, fwt, grn, haul, mac, out, pci, qm, seq, stg, twn. -/
theorem execHashCrc32c_only {m : Nat} {s x : State} (a0 a1) (h : 0x8fbfd &&& m = 0x8fbfd) :
    Only m s ((execHashCrc32c a0 a1 x).after x) ↔ Only m s x := Only.iff (by simp [execHashCrc32c]) h

/-- Changes only: cip, cnt, dev, fmg, fns, fwt, grn, haul, mac, out, pci, qm, seq, stg, twn. -/
theorem execHashToeplitz_only {m : Nat} {s x : State} (a0 a1) (h : 0x8fbfd &&& m = 0x8fbfd) :
    Only m s ((execHashToeplitz a0 a1 x).after x) ↔ Only m s x := Only.iff (by simp [execHashToeplitz]) h

/-- Changes only: cip, cnt, dev, fmg, fns, fwt, grn, haul, mac, out, pci, qm, seq, stg, twn. -/
theorem execLoadHdr_only {m : Nat} {s x : State} (a0 a1) (h : 0x8fbfd &&& m = 0x8fbfd) :
    Only m s ((execLoadHdr a0 a1 x).after x) ↔ Only m s x := Only.iff (by simp [execLoadHdr]) h

/-- Changes only: cip, cnt, dev, fmg, fns, fwt, grn, haul, mac, out, pci, qm, seq, stg, twn. -/
theorem execPrepend_only {m : Nat} {s x : State} (a0 a1) (h : 0x8fbfd &&& m = 0x8fbfd) :
    Only m s ((execPrepend a0 a1 x).after x) ↔ Only m s x := Only.iff (by simp [execPrepend]) h

/-- Changes only: cip, cnt, dev, fmg, fns, fwt, grn, haul, mac, out, pci, qm, seq, stg, twn. -/
theorem execReadTime_only {m : Nat} {s x : State} (a0 a1) (h : 0x8fbfd &&& m = 0x8fbfd) :
    Only m s ((execReadTime a0 a1 x).after x) ↔ Only m s x := Only.iff (by simp [execReadTime]) h

/-- Changes only: cip, cnt, dev, fmg, fns, fwt, grn, haul, mac, out, pci, qm, seq, stg, twn. -/
theorem execStoreHdr_only {m : Nat} {s x : State} (a0 a1) (h : 0x8fbfd &&& m = 0x8fbfd) :
    Only m s ((execStoreHdr a0 a1 x).after x) ↔ Only m s x := Only.iff (by simp [execStoreHdr]) h

/-- Changes only: cip, cnt, dev, fmg, fns, fwt, grn, haul, mac, out, pci, qm, seq, stg, twn. -/
theorem execStrip_only {m : Nat} {s x : State} (a0 a1) (h : 0x8fbfd &&& m = 0x8fbfd) :
    Only m s ((execStrip a0 a1 x).after x) ↔ Only m s x := Only.iff (by simp [execStrip]) h

/-- Changes only: cip, cnt, dev, fmg, fns, fwt, grn, haul, mac, out, pci, qm, seq, stg, sw, twn. -/
theorem execPoliceMeter_only {m : Nat} {s x : State} (a0 a1) (h : 0x8fffd &&& m = 0x8fffd) :
    Only m s ((execPoliceMeter a0 a1 x).after x) ↔ Only m s x := Only.iff (by
  simp only [execPoliceMeter, Res_next_after]
  refine withStep_only _ _ _ _ (by simp) (by simp) (Only.refl _ _) (fun y => ?_)
  (repeat' split) <;> simp) h

/-! ## Haul -/

/-- Changes only: haul. -/
@[simp] theorem ackRelease_only {m : Nat} {s x : State} (a1) (h : 0x1000 &&& m = 0x1000) :
    Only m s (ackRelease x a1) ↔ Only m s x := Only.iff (by simp [ackRelease]) h

/-- Changes only: cnt, dev, out, pci. -/
@[simp] theorem haulSignal_only {m : Nat} {s x : State} (a1 a2) (h : 0x84011 &&& m = 0x84011) :
    Only m s (haulSignal x a1 a2) ↔ Only m s x := Only.iff (by simp [haulSignal]) h

/-- Changes only: haul, seq. -/
@[simp] theorem afterRun_only {m : Nat} {s x : State} (a1 a2 a3) (h : 0x1020 &&& m = 0x1020) :
    Only m s (afterRun x a1 a2 a3) ↔ Only m s x := Only.iff (by simp only [afterRun]; (repeat' split) <;> simp) h

/-- Changes only: haul, seq. -/
@[simp] theorem stopChan_only {m : Nat} {s x : State} (a1) (h : 0x1020 &&& m = 0x1020) :
    Only m s (stopChan x a1) ↔ Only m s x := Only.iff (by simp only [stopChan]; (repeat' split) <;> simp) h

/-- Changes only: haul. -/
@[simp] theorem askSteward_only {m : Nat} {s x : State} (h : 0x1000 &&& m = 0x1000) :
    Only m s (askSteward x) ↔ Only m s x := Only.iff (by simp [askSteward]) h

/-- Changes only: cnt, haul. -/
@[simp] theorem execHaulStartWrite_only {m : Nat} {s x : State} (a0 a1 a2) (h : 0x1010 &&& m = 0x1010) :
    Only m s ((execHaulStartWrite a0 a1 a2 x).after x) ↔ Only m s x := Only.iff (by
  simp only [execHaulStartWrite, Res_next_after]
  split <;> simp) h

/-- Changes only: cnt, haul. -/
@[simp] theorem execHaulAckWrite_only {m : Nat} {s x : State} (a0 a1 a2 a3) (h : 0x1010 &&& m = 0x1010) :
    Only m s ((execHaulAckWrite a0 a1 a2 a3 x).after x) ↔ Only m s x := Only.iff (by
  simp only [execHaulAckWrite, Res_next_after]
  split <;> simp) h

/-- Changes only: cnt, haul, seq. -/
@[simp] theorem execHaulStopWrite_only {m : Nat} {s x : State} (a0 a1) (h : 0x1030 &&& m = 0x1030) :
    Only m s ((execHaulStopWrite a0 a1 x).after x) ↔ Only m s x := Only.iff (by
  simp only [execHaulStopWrite, Res_next_after]
  (repeat' split) <;> simp) h

/-- Changes only: cnt, haul. -/
@[simp] theorem waitRun_only {m : Nat} {s x : State} (a1 a2 a3 a4) (h : 0x1010 &&& m = 0x1010) :
    Only m s (waitRun x a1 a2 a3 a4) ↔ Only m s x := Only.iff (by simp [waitRun]) h

/-- Changes only: haul, seq. -/
@[simp] theorem dropRun_only {m : Nat} {s x : State} (a1) (h : 0x1020 &&& m = 0x1020) :
    Only m s (dropRun x a1) ↔ Only m s x := Only.iff (by simp [dropRun]) h

/-- Changes only: haul. -/
@[simp] theorem stewardRun_only {m : Nat} {s x : State} (a1 a2) (h : 0x1000 &&& m = 0x1000) :
    Only m s (stewardRun x a1 a2) ↔ Only m s x := Only.iff (by simp [stewardRun]) h

/-- Changes only: cnt, dev, draws, out, pci. -/
@[simp] theorem readSource_only {m : Nat} {s x : State} (a1 a2 a3) (h : 0x284011 &&& m = 0x284011) :
    Only m s (readSource x a1 a2 a3) ↔ Only m s x := Only.iff (by simp [readSource]) h

/-- Changes only: stg. -/
@[simp] theorem markSlot_only {m : Nat} {s x : State} (a1) (h : 0x2000 &&& m = 0x2000) :
    Only m s (markSlot x a1) ↔ Only m s x := Only.iff (by unfold markSlot; (repeat' split) <;> simp) h

/-- Changes only: seq, stg. -/
@[simp] theorem notePoison_only {m : Nat} {s x : State} (a1) (h : 0x2020 &&& m = 0x2020) :
    Only m s (notePoison x a1) ↔ Only m s x := Only.iff (by simp only [notePoison]; (repeat' split) <;> simp) h

/-- Changes only: cnt. -/
@[simp] theorem readObserver_only {m : Nat} {s x : State} (a1 a2) (h : 0x10 &&& m = 0x10) :
    Only m s (readObserver x a1 a2) ↔ Only m s x := Only.iff (by simp [readObserver]) h

/-- Changes only: haul. -/
theorem execRunStart_only {m : Nat} {s x : State} (a0) (h : 0x1000 &&& m = 0x1000) :
    Only m s ((execRunStart a0 x).after x) ↔ Only m s x := Only.iff (by
  simp only [execRunStart, Res_next_after]
  (repeat' split) <;> simp) h

/-- Changes only: haul. -/
theorem execWatermarkHigh_only {m : Nat} {s x : State} (a0) (h : 0x1000 &&& m = 0x1000) :
    Only m s ((execWatermarkHigh a0 x).after x) ↔ Only m s x := Only.iff (by simp [execWatermarkHigh]) h

/-- Changes only: cip, cnt, dev, fmg, fns, fwt, grn, haul, mac, out, pci, qm, seq. -/
@[simp] theorem postStatus_only {m : Nat} {s x : State} (a1 a2 a3) (h : 0x85bfd &&& m = 0x85bfd) :
    Only m s (postStatus x a1 a2 a3) ↔ Only m s x := Only.iff (by simp [postStatus]) h

/-- Changes only: cip, cnt, dev, fmg, fns, fwt, grn, haul, mac, out, pci, qm, seq. -/
@[simp] theorem endRun_only {m : Nat} {s x : State} (a1 a2) (h : 0x85bfd &&& m = 0x85bfd) :
    Only m s (endRun x a1 a2) ↔ Only m s x := Only.iff (by simp [endRun]) h

/-- Changes only: cip, cnt, dev, fmg, fns, fwt, grn, haul, mac, out, pci, qm, seq. -/
@[simp] theorem failRun_only {m : Nat} {s x : State} (a1 a2 a3 a4) (h : 0x85bfd &&& m = 0x85bfd) :
    Only m s (failRun x a1 a2 a3 a4) ↔ Only m s x := Only.iff (by simp [failRun]) h

/-- Changes only: cip, cnt, dev, fmg, fns, fwt, grn, haul, mac, out, pci, qm, seq. -/
@[simp] theorem postEvents_only {m : Nat} {s x : State} (a1 a2) (h : 0x85bfd &&& m = 0x85bfd) :
    Only m s (postEvents x a1 a2) ↔ Only m s x := Only.iff (by simp [postEvents]) h

/-- Changes only: cip, cnt, dev, fmg, fns, fwt, grn, haul, mac, out, pci, qm, seq. -/
@[simp] theorem afterOp_only {m : Nat} {s x : State} (a1 a2 a3 a4) (h : 0x85bfd &&& m = 0x85bfd) :
    Only m s (afterOp x a1 a2 a3 a4) ↔ Only m s x := Only.iff (by unfold afterOp; (repeat' split) <;> simp) h

/-- Changes only: cip, cnt, dev, fmg, fns, fwt, grn, haul, mac, out, pci, qm, seq. -/
@[simp] theorem violateRun_only {m : Nat} {s x : State} (a1 a2 a3 a4) (h : 0x85bfd &&& m = 0x85bfd) :
    Only m s (violateRun x a1 a2 a3 a4) ↔ Only m s x := Only.iff (by simp [violateRun]) h

/-- Changes only: cip, cnt, dev, fmg, fns, fwt, grn, haul, mac, out, pci, qm, seq. -/
@[simp] theorem checkDesc_only {m : Nat} {s x f : State} (n fid : Nat) (d : HDesc) (h : 0x85bfd &&& m = 0x85bfd)
    (hx : Only m s x) (hf : Only m s f) : Only m s (checkDesc x n fid d f) := by
  have a : 0x1010 &&& m = 0x1010 := sub_trans rfl h
  have c : 0x10 &&& m = 0x10 := sub_trans rfl h
  have b : 0x1020 &&& m = 0x1020 := sub_trans rfl h
  unfold checkDesc
  simp only
  split
  · simp [h, hx]
  · split
    · simp [h, hx]
    · (repeat' split) <;> simp [a, b, c, h, hx, hf]

theorem fetchDesc_error {x y : State} {n fid inp} (h : fetchDesc x n fid inp = .error y) : Only 0x285bfd x y := by
  unfold fetchDesc at h
  simp only at h
  (repeat' split at h) <;> first | (injection h with h; subst h; simp; done) | cases h

/-- Changes only: cip, cnt, dev, fmg, fns, fw, fwt, grn, haul, mac, out, qm, seq, stg. -/
@[simp] theorem haulWrite_only {m : Nat} {s x : State} (a1 a2 a3 a4) (h : 0xc3bfd &&& m = 0xc3bfd) :
    Only m s (haulWrite x a1 a2 a3 a4) ↔ Only m s x := Only.iff (by unfold haulWrite; split <;> simp) h

/-- Changes only: cip, cnt, dev, fmg, fns, fwt, grn, haul, mac, qm, seq. -/
@[simp] theorem lockOverstay_only {m : Nat} {s x : State} (a1 a2 a3 a4) (h : 0x1bfd &&& m = 0x1bfd) :
    Only m s (lockOverstay x a1 a2 a3 a4) ↔ Only m s x := Only.iff (by simp [lockOverstay]) h

/-- Changes only: cip, cnt, dev, fmg, fns, fwt, grn, haul, mac, qm, seq. -/
theorem execLockExpiry_only {m : Nat} {s x : State} (a0 a1 a2) (h : 0x1bfd &&& m = 0x1bfd) :
    Only m s ((execLockExpiry a0 a1 a2 x).after x) ↔ Only m s x := Only.iff (by
  simp only [execLockExpiry, Res_next_after]
  split <;> simp) h

/-- Changes only: fwt. -/
theorem withBucket_only {m : Nat} {s x : State} {p t : Nat} {f : State → OpEnd × State} (h : 0x100 &&& m = 0x100)
    (hx : Only m s x) (hf : ∀ y, Only m s y → Only m s (f y).2) : Only m s (withBucket x p t f).2 := by
  unfold withBucket
  split
  · split
    · exact hf _ hx
    · split
      · exact hf _ (by simp [h, hx])
      · exact hx
  · exact hf _ hx

theorem fetchDesc_ok {x y : State} {n fid inp bs} (h : fetchDesc x n fid inp = .ok (bs, y)) : Only 0x285bfd x y := by
  unfold fetchDesc at h
  simp only at h
  (repeat' split at h) <;> first | (injection h with h; injection h with _ h; subst h; simp; done) | cases h

/-- Changes only: cip, cnt, dev, draws, fmg, fns, fwt, grn, haul, mac, out, pci, qm, seq. -/
@[simp] theorem runDesc_only {m : Nat} {s x : State} {f} (op n : Nat) (inp : HaulIn) (h : 0x285bfd &&& m = 0x285bfd)
    (hx : Only m s x) (hf : ∀ y, Only m s y → ∀ fid d, Only m s (f y fid d).2) : Only m s (runDesc op n inp x f) := by
  have h1 : 0x85bfd &&& m = 0x85bfd := sub_trans rfl h
  have h2 : 0x100 &&& m = 0x100 := sub_trans rfl h
  unfold runDesc
  simp only
  split
  · exact hx
  · split
    · simp [h1, hx]
    · split
      · rename_i hc; exact (Only.iff (fetchDesc_error hc) h).mpr hx
      · rename_i hc
        have h0 := (Only.iff (fetchDesc_ok hc) h).mpr hx
        split
        · exact hx
        · refine checkDesc_only _ _ _ h1 h0 ?_
          split
          · simp [h2, hx]
          · rename_i hh; cases snd_of hh; simp [h1, hf _ h0]

/-- Changes only: cip, cnt, dev, draws, fmg, fns, fw, fwt, grn, haul, mac, out, pci, qm, seq, stg. -/
theorem execHaulCopy_only {m : Nat} {s x : State} (a0 a1) (h : 0x2c7bfd &&& m = 0x2c7bfd) :
    Only m s ((execHaulCopy a0 a1 x).after x) ↔ Only m s x := Only.iff (by
  simp only [execHaulCopy, Res_next_after]
  refine runDesc_only _ _ _ (by simp) (Only.refl _ _) (fun y hy a b => ?_)
  (repeat' split) <;> simp [hy]) h

/-- Changes only: cip, cnt, dev, draws, fmg, fns, fwt, grn, haul, mac, out, pci, qm, seq. -/
theorem execHaulNop_only {m : Nat} {s x : State} (a0 a1) (h : 0x285bfd &&& m = 0x285bfd) :
    Only m s ((execHaulNop a0 a1 x).after x) ↔ Only m s x := Only.iff (by
  simp only [execHaulNop, Res_next_after]
  exact runDesc_only _ _ _ (by simp) (Only.refl _ _) (fun y hy a b => by simp [hy])) h

/-- Changes only: cip, cnt, dev, draws, fmg, fns, fwt, grn, haul, mac, out, pci, qm, seq, stg, twn. -/
theorem execHaulStart_only {m : Nat} {s x : State} (a0 a1) (h : 0x28fbfd &&& m = 0x28fbfd) :
    Only m s ((execHaulStart a0 a1 x).after x) ↔ Only m s x := Only.iff (by simp [execHaulStart]) h

/-- Changes only: cip, cnt, dev, draws, fmg, fns, fw, fwt, grn, haul, mac, out, pci, qm, seq, stg. -/
theorem execHaulZero_only {m : Nat} {s x : State} (a0 a1) (h : 0x2c7bfd &&& m = 0x2c7bfd) :
    Only m s ((execHaulZero a0 a1 x).after x) ↔ Only m s x := Only.iff (by
  simp only [execHaulZero, Res_next_after]
  exact runDesc_only _ _ _ (by simp) (Only.refl _ _) (fun y hy a b => by simp [hy])) h

/-- Changes only: cip, cnt, dev, draws, fmg, fns, fw, fwt, grn, haul, mac, out, pci, qm, seq, stg. -/
theorem execTblLockRead_only {m : Nat} {s x : State} (a0 a1) (h : 0x2c7bfd &&& m = 0x2c7bfd) :
    Only m s ((execTblLockRead a0 a1 x).after x) ↔ Only m s x := Only.iff (by
  simp only [execTblLockRead, Res_next_after]
  refine runDesc_only _ _ _ (by simp) (Only.refl _ _) (fun y hy a b => ?_)
  (repeat' split) <;> first
    | (simp [hy]; done)
    | (refine withBucket_only (by simp) (by simp [hy]) (fun z hz => ?_); (repeat' split) <;> simp [hz])) h

/-- Changes only: cip, cnt, dev, draws, fmg, fns, fw, fwt, grn, haul, mac, out, pci, qm, seq, stg. -/
theorem execTblRead_only {m : Nat} {s x : State} (a0 a1) (h : 0x2c7bfd &&& m = 0x2c7bfd) :
    Only m s ((execTblRead a0 a1 x).after x) ↔ Only m s x := Only.iff (by
  simp only [execTblRead, Res_next_after]
  refine runDesc_only _ _ _ (by simp) (Only.refl _ _) (fun y hy a b => ?_)
  (repeat' split) <;> first
    | (simp [hy]; done)
    | (refine withBucket_only (by simp) (by simp [hy]) (fun z hz => ?_); (repeat' split) <;> simp [hz])) h

/-- Changes only: cip, cnt, dev, draws, fmg, fns, fwt, grn, haul, mac, out, pci, qm, seq. -/
theorem execTblUnlock_only {m : Nat} {s x : State} (a0 a1) (h : 0x285bfd &&& m = 0x285bfd) :
    Only m s ((execTblUnlock a0 a1 x).after x) ↔ Only m s x := Only.iff (by
  simp only [execTblUnlock, Res_next_after]
  refine runDesc_only _ _ _ (by simp) (Only.refl _ _) (fun y hy a b => ?_)
  (repeat' split) <;> first
    | (simp [hy]; done)
    | (refine withBucket_only (by simp) (by simp [hy]) (fun z hz => ?_); (repeat' split) <;> simp [hz])) h

/-- Changes only: cip, cnt, dev, draws, fmg, fns, fwt, grn, haul, mac, out, pci, qm, seq. -/
theorem execTblWriteUnlock_only {m : Nat} {s x : State} (a0 a1) (h : 0x285bfd &&& m = 0x285bfd) :
    Only m s ((execTblWriteUnlock a0 a1 x).after x) ↔ Only m s x := Only.iff (by
  simp only [execTblWriteUnlock, Res_next_after]
  refine runDesc_only _ _ _ (by simp) (Only.refl _ _) (fun y hy a b => ?_)
  (repeat' split) <;> first
    | (simp [hy]; done)
    | (refine withBucket_only (by simp) (by simp [hy]) (fun z hz => ?_); (repeat' split) <;> simp [hz])) h

/-! ## HaulCmds -/

/-- Changes only: cip, cnt, dev, fmg, fns, fwt, grn, haul, mac, out, pci, qm, seq, stw, twn. -/
@[simp] theorem execGrantChannel_only {m : Nat} {s x : State} (a0 a1 a2 a3 a4) (h : 0x8dbff &&& m = 0x8dbff) :
    Only m s ((execGrantChannel a0 a1 a2 a3 a4 x).after x) ↔ Only m s x := Only.iff (by
  simp only [execGrantChannel, Res_next_after]
  exact runCmd_only _ _ _ _ _ (by simp) (Only.refl _ _) (fun y hy => by simp [hy])) h

/-- Changes only: cip, cnt, dev, fmg, fns, fwt, grn, haul, mac, out, pci, qm, seq, stw, twn. -/
@[simp] theorem execConfigureChannel_only {m : Nat} {s x : State} (a0 a1 a2) (h : 0x8dbff &&& m = 0x8dbff) :
    Only m s ((execConfigureChannel a0 a1 a2 x).after x) ↔ Only m s x := Only.iff (by
  simp only [execConfigureChannel, Res_next_after]
  refine runCmd_only _ _ _ _ _ (by simp) (Only.refl _ _) (fun y hy => ?_)
  (repeat' split) <;> simp [hy]) h

/-- Changes only: cip, cnt, dev, fmg, fns, fwt, grn, haul, mac, out, pci, qm, seq, stw, twn. -/
@[simp] theorem execStopChannel_only {m : Nat} {s x : State} (a0 a1) (h : 0x8dbff &&& m = 0x8dbff) :
    Only m s ((execStopChannel a0 a1 x).after x) ↔ Only m s x := Only.iff (by
  simp only [execStopChannel, Res_next_after]
  exact runCmd_only _ _ _ _ _ (by simp) (Only.refl _ _) (fun y hy => by simp [hy])) h

/-- Changes only: cip, cnt, dev, fmg, fns, fwt, grn, haul, mac, out, pci, qm, seq, stw, twn. -/
@[simp] theorem execResetChannel_only {m : Nat} {s x : State} (a0 a1) (h : 0x8dbff &&& m = 0x8dbff) :
    Only m s ((execResetChannel a0 a1 x).after x) ↔ Only m s x := Only.iff (by simp [execResetChannel]) h

/-! ## Crier -/

/-- Changes only: cnt. -/
@[simp] theorem setQueue_only {m : Nat} {s x : State} (a1) (h : 0x10 &&& m = 0x10) :
    Only m s (setQueue x a1) ↔ Only m s x := Only.iff (by simp [setQueue]) h

/-- Changes only: cnt, haul. -/
@[simp] theorem putMessage_only {m : Nat} {s x : State} (a1) (h : 0x1010 &&& m = 0x1010) :
    Only m s (putMessage x a1) ↔ Only m s x := Only.iff (by simp only [putMessage]; (repeat' split) <;> simp) h

/-- Changes only: cnt, haul. -/
@[simp] theorem putRecs_only {m : Nat} {s x : State} (a1) (h : 0x1010 &&& m = 0x1010) :
    Only m s (putRecs x a1) ↔ Only m s x := Only.iff (by simp [putRecs]) h

/-- Changes only: cnt, haul. -/
@[simp] theorem putRecords_only {m : Nat} {s x : State} (a1) (h : 0x1010 &&& m = 0x1010) :
    Only m s (putRecords x a1) ↔ Only m s x := Only.iff (by simp [putRecords]) h

/-- Changes only: cnt, haul. -/
@[simp] theorem crierFlip_only {m : Nat} {s x : State} (h : 0x1010 &&& m = 0x1010) :
    Only m s (crierFlip x) ↔ Only m s x := Only.iff (by simp [crierFlip]) h

/-- Changes only: cnt, haul. -/
@[simp] theorem closeChunk_only {m : Nat} {s x : State} (h : 0x1010 &&& m = 0x1010) :
    Only m s (closeChunk x) ↔ Only m s x := Only.iff (by simp [closeChunk]) h

/-- Changes only: cnt, out. -/
@[simp] theorem drainSvc_only {m : Nat} {s x : State} (h : 0x80010 &&& m = 0x80010) :
    Only m s (drainSvc x) ↔ Only m s x := Only.iff (by unfold drainSvc; split <;> simp) h

/-- Changes only: seq. -/
@[simp] theorem takeTraces_only {m : Nat} {s x : State} (h : 0x20 &&& m = 0x20) :
    Only m s (takeTraces x).2 ↔ Only m s x := Only.iff (by unfold takeTraces; split <;> simp) h

/-- Changes only: cnt, haul, seq. -/
@[simp] theorem runExport_only {m : Nat} {s x : State} (a1) (h : 0x1030 &&& m = 0x1030) :
    Only m s (runExport x a1) ↔ Only m s x := Only.iff (by simp [runExport]) h

/-- Changes only: cnt. -/
@[simp] theorem keepValues_only {m : Nat} {s x : State} (a1 a2) (h : 0x10 &&& m = 0x10) :
    Only m s (keepValues x a1 a2) ↔ Only m s x := Only.iff (by simp [keepValues]) h

/-- Changes only: cnt. -/
@[simp] theorem noteExport_only {m : Nat} {s x : State} (o) (h : 0x10 &&& m = 0x10) :
    Only m s (noteExport o x) ↔ Only m s x := Only.iff (by
  unfold noteExport
  simp only
  split
  · simp
  · have hf : Only 0x10 x ((exportSets x).foldl (fun s e => keepValues s e.1 e.2) x) :=
      (only_foldl (fun _ _ => by simp) _).mpr (Only.refl _ _)
    simp [hf]) h

end Sys2Proof.Machine
end

