-- ==== Sys2Proof/Laws/FrameUnits.lean ====
section
/-! SUPPORT. Frames of the operations: the units of the data path. -/

namespace Sys2Proof.Machine

/-! ## MacBase -/

/-- Changes only: mac. -/
@[simp] theorem setPort_only {m : Nat} {s x : State} (a1 a2) (h : 0x200 &&& m = 0x200) :
    Only m s (setPort x a1 a2) ↔ Only m s x := Only.iff (by simp [setPort]) h

/-- Changes only: grn, mac. -/
@[simp] theorem releaseFrames_only {m : Nat} {s x : State} (a1) (h : 0x280 &&& m = 0x280) :
    Only m s (releaseFrames x a1) ↔ Only m s x := Only.iff (by
  unfold releaseFrames
  refine (only_foldl (fun a b => ?_) _).mpr (by simp)
  split <;> simp) h

/-- Changes only: cnt, grn, mac. -/
@[simp] theorem flushPort_only {m : Nat} {s x : State} (a1 a2) (h : 0x290 &&& m = 0x290) :
    Only m s (flushPort x a1 a2) ↔ Only m s x := Only.iff (by simp [flushPort]) h

/-- Changes only: cnt, mac. -/
@[simp] theorem cutFrame_only {m : Nat} {s x : State} (a1) (h : 0x210 &&& m = 0x210) :
    Only m s (cutFrame x a1) ↔ Only m s x := Only.iff (by simp only [cutFrame]; (repeat' split) <;> simp) h

/-- Changes only: mac. -/
@[simp] theorem freshPort_only {m : Nat} {s x : State} (a1 a2) (h : 0x200 &&& m = 0x200) :
    Only m s (freshPort x a1 a2) ↔ Only m s x := Only.iff (by simp [freshPort]) h

/-- Changes only: mac. -/
@[simp] theorem closePort_only {m : Nat} {s x : State} (a1) (h : 0x200 &&& m = 0x200) :
    Only m s (closePort x a1) ↔ Only m s x := Only.iff (by simp [closePort]) h

/-- Changes only: mac. -/
@[simp] theorem idleLanes_only {m : Nat} {s x : State} (a1) (h : 0x200 &&& m = 0x200) :
    Only m s (idleLanes x a1) ↔ Only m s x := Only.iff (by simp [idleLanes]) h

/-- Changes only: cnt, grn, mac. -/
@[simp] theorem applyLayout_only {m : Nat} {s x : State} (a1) (h : 0x290 &&& m = 0x290) :
    Only m s (applyLayout x a1) ↔ Only m s x := Only.iff (by simp [applyLayout]) h

/-- Changes only: cnt, grn, mac. -/
@[simp] theorem goLive_only {m : Nat} {s x : State} (h : 0x290 &&& m = 0x290) :
    Only m s (goLive x) ↔ Only m s x := Only.iff (by unfold goLive; split <;> simp) h

/-- Changes only: grn, mac. -/
@[simp] theorem queueFrame_only {m : Nat} {s x : State} (a1 a2 a3) (h : 0x280 &&& m = 0x280) :
    Only m s (queueFrame x a1 a2 a3).2 ↔ Only m s x := Only.iff (by
  simp only [queueFrame]
  (repeat' split) <;> simp) h

/-! ## Banks -/

/-- Changes only: qm. -/
@[simp] theorem settleQueues_only {m : Nat} {s x : State} (h : 0x40 &&& m = 0x40) :
    Only m s (settleQueues x) ↔ Only m s x := Only.iff (by simp [settleQueues]) h

/-- Changes only: cnt, dev, grn, haul, mac, qm, seq. -/
@[simp] theorem flipTo_only {m : Nat} {s x : State} (a1) (h : 0x12f1 &&& m = 0x12f1) :
    Only m s (flipTo x a1) ↔ Only m s x := Only.iff (by simp only [flipTo]; (repeat' split) <;> simp) h

/-- Changes only: cnt, dev, grn, haul, mac, qm, seq. -/
@[simp] theorem requestFlip_only {m : Nat} {s x : State} (h : 0x12f1 &&& m = 0x12f1) :
    Only m s (requestFlip x).2 ↔ Only m s x := Only.iff (by unfold requestFlip; (repeat' split) <;> simp) h

/-- Changes only: cnt, dev, grn, haul, mac, out, qm, seq, twn. -/
@[simp] theorem execSeqFlipGo_only {m : Nat} {s x : State} (a0) (h : 0x892f1 &&& m = 0x892f1) :
    Only m s ((execSeqFlipGo a0 x).after x) ↔ Only m s x := Only.iff (by
  simp only [execSeqFlipGo, Res_next_after]
  (repeat' (split <;> (try (rename_i hh; (try cases trd_of hh); (try cases mid_of hh); (try cases snd_of hh); (try cases fst_of hh))))) <;> simp) h

/-- Changes only: seq. -/
@[simp] theorem execSealRequest_only {m : Nat} {s x : State} (a0) (h : 0x20 &&& m = 0x20) :
    Only m s ((execSealRequest a0 x).after x) ↔ Only m s x := Only.iff (by simp [execSealRequest]) h

/-- Changes only: seq. -/
@[simp] theorem discard_only {m : Nat} {s x : State} (a1) (h : 0x20 &&& m = 0x20) :
    Only m s (discard x a1).2 ↔ Only m s x := Only.iff (by simp only [discard]; (repeat' split) <;> simp) h

/-- Changes only: seq. -/
@[simp] theorem execDiscardRequest_only {m : Nat} {s x : State} (a0) (h : 0x20 &&& m = 0x20) :
    Only m s ((execDiscardRequest a0 x).after x) ↔ Only m s x := Only.iff (by simp [execDiscardRequest]) h

/-- Changes only: cnt, seq. -/
@[simp] theorem execStepLoWrite_only {m : Nat} {s x : State} (a0 a1) (h : 0x30 &&& m = 0x30) :
    Only m s ((execStepLoWrite a0 a1 x).after x) ↔ Only m s x := Only.iff (by simp [execStepLoWrite]) h

/-- Changes only: cnt, seq. -/
@[simp] theorem execStepHiWrite_only {m : Nat} {s x : State} (a0 a1) (h : 0x30 &&& m = 0x30) :
    Only m s ((execStepHiWrite a0 a1 x).after x) ↔ Only m s x := Only.iff (by
  simp only [execStepHiWrite, Res_next_after]
  split <;> simp) h

/-- Changes only: seq. -/
@[simp] theorem sealBank_only {m : Nat} {s x : State} (a1) (h : 0x20 &&& m = 0x20) :
    Only m s (sealBank x a1).2 ↔ Only m s x := Only.iff (by simp only [sealBank]; (repeat' split) <;> simp) h

/-- Changes only: seq. -/
@[simp] theorem putImage_only {m : Nat} {s x : State} (a1 a2 a3) (h : 0x20 &&& m = 0x20) :
    Only m s (putImage x a1 a2 a3) ↔ Only m s x := Only.iff (by simp [putImage]) h

/-- Changes only: out, twn. -/
@[simp] theorem sendBank_only {m : Nat} {s x : State} (a1) (h : 0x88000 &&& m = 0x88000) :
    Only m s (sendBank x a1) ↔ Only m s x := Only.iff (by simp only [sendBank]; (repeat' split) <;> simp) h

/-- Changes only: seq. -/
theorem execDispatch_only {m : Nat} {s x : State} (a0) (h : 0x20 &&& m = 0x20) :
    Only m s ((execDispatch a0 x).after x) ↔ Only m s x := Only.iff (by
  simp only [execDispatch, Res_next_after]
  split <;> simp) h

/-- Changes only: seq. -/
@[simp] theorem putHook_only {m : Nat} {s x : State} (a1 a2 a3 a4 a5) (h : 0x20 &&& m = 0x20) :
    Only m s (putHook x a1 a2 a3 a4 a5) ↔ Only m s x := Only.iff (by simp [putHook]) h

/-- Changes only: seq. -/
theorem execResidencyPeakRead_only {m : Nat} {s x : State} (a0 a1 a2) (h : 0x20 &&& m = 0x20) :
    Only m s ((execResidencyPeakRead a0 a1 a2 x).after x) ↔ Only m s x := Only.iff (by simp [execResidencyPeakRead]) h

/-- Changes only: cnt, seq. -/
@[simp] theorem scrubBank_only {m : Nat} {s x : State} (a1) (h : 0x30 &&& m = 0x30) :
    Only m s (scrubBank x a1) ↔ Only m s x := Only.iff (by simp [scrubBank]) h

/-- Changes only: cnt, seq. -/
theorem execStepScrub_only {m : Nat} {s x : State} (h : 0x30 &&& m = 0x30) :
    Only m s ((execStepScrub x).after x) ↔ Only m s x := Only.iff (by
  simp only [execStepScrub]
  (repeat' split) <;> simp) h

/-- Changes only: cip, cnt, dev, fmg, fns, fwt, grn, haul, mac, out, pci, qm, seq, stw, twn. -/
@[simp] theorem execFlip_only {m : Nat} {s x : State} (a0) (h : 0x8dbff &&& m = 0x8dbff) :
    Only m s ((execFlip a0 x).after x) ↔ Only m s x := Only.iff (by
  simp only [execFlip, Res_next_after]
  refine runCmd_only _ _ _ _ _ (by simp) (Only.refl _ _) (fun y hy => ?_)
  (repeat' (split <;> (try (rename_i hh; (try cases trd_of hh); (try cases mid_of hh); (try cases snd_of hh); (try cases fst_of hh))))) <;> simp [hy]) h

/-- Changes only: cip, cnt, dev, fmg, fns, fwt, grn, haul, mac, out, pci, qm, seq, stw, twn. -/
@[simp] theorem endHookLoad_only {m : Nat} {s x : State} (a1 a2 a3) (h : 0x8dbff &&& m = 0x8dbff) :
    Only m s (endHookLoad x a1 a2 a3) ↔ Only m s x := Only.iff (by
  unfold endHookLoad
  split
  · simp
  · split <;> (rename_i hc; replace hc := congrArg Prod.snd hc; dsimp only at hc; subst hc; simp)) h

/-- Changes only: cip, cnt, dev, fmg, fns, fwt, grn, haul, mac, out, pci, qm, seq, stw, twn. -/
theorem execDiscardBank_only {m : Nat} {s x : State} (a0 a1) (h : 0x8dbff &&& m = 0x8dbff) :
    Only m s ((execDiscardBank a0 a1 x).after x) ↔ Only m s x := Only.iff (by
  simp only [execDiscardBank, Res_next_after]
  refine runCmd_only _ _ _ _ _ (by simp) (Only.refl _ _) (fun y hy => ?_)
  (repeat' (split <;> (try (rename_i hh; (try cases trd_of hh); (try cases mid_of hh); (try cases snd_of hh); (try cases fst_of hh))))) <;> simp [hy]) h

/-- Changes only: cip, cnt, dev, draws, fmg, fns, fwt, grn, haul, mac, out, pci, qm, seq, stw, twn. -/
theorem execLoadHook_only {m : Nat} {s x : State} (a0 a1 a2 a3 a4 a5 a6 a7 a8) (h : 0x28dbff &&& m = 0x28dbff) :
    Only m s ((execLoadHook a0 a1 a2 a3 a4 a5 a6 a7 a8 x).after x) ↔ Only m s x := Only.iff (by
  simp only [execLoadHook, Res_next_after]
  refine runCmd_only _ _ _ _ _ (by simp) (Only.refl _ _) (fun y hy => ?_)
  (repeat' (split <;> (try (rename_i hh; (try cases trd_of hh); (try cases mid_of hh); (try cases snd_of hh); (try cases fst_of hh))))) <;> simp [hy]) h

/-- Changes only: cip, cnt, dev, draws, fmg, fns, fwt, grn, haul, mac, out, pci, qm, seq, stw, twn. -/
theorem execLoadTableSet_only {m : Nat} {s x : State} (a0 a1 a2 a3 a4 a5) (h : 0x28dbff &&& m = 0x28dbff) :
    Only m s ((execLoadTableSet a0 a1 a2 a3 a4 a5 x).after x) ↔ Only m s x := Only.iff (by
  simp only [execLoadTableSet, Res_next_after]
  refine runCmd_only _ _ _ _ _ (by simp) (Only.refl _ _) (fun y hy => ?_)
  (repeat' (split <;> (try (rename_i hh; (try cases trd_of hh); (try cases mid_of hh); (try cases snd_of hh); (try cases fst_of hh))))) <;> simp [hy]) h

/-- Changes only: cnt, dev, grn, seq. -/
@[simp] theorem resumeIn_only {m : Nat} {s x : State} (a1 a2 a3 a4) (h : 0xb1 &&& m = 0xb1) :
    Only m s (resumeIn x a1 a2 a3 a4) ↔ Only m s x := Only.iff (by unfold resumeIn; (repeat' split) <;> simp) h

/-- Changes only: cnt, dev, grn, seq. -/
theorem execParkedResume_only {m : Nat} {s x : State} (a0 a1) (h : 0xb1 &&& m = 0xb1) :
    Only m s ((execParkedResume a0 a1 x).after x) ↔ Only m s x := Only.iff (by
  simp only [execParkedResume, Res_next_after]
  (repeat' split) <;> simp) h

/-- Changes only: cip, cnt, dev, fmg, fns, fwt, grn, haul, mac, out, pci, qm, seq, stw, twn. -/
theorem execSealComplete_only {m : Nat} {s x : State} (a0) (h : 0x8dbff &&& m = 0x8dbff) :
    Only m s ((execSealComplete a0 x).after x) ↔ Only m s x := Only.iff (by
  simp only [execSealComplete, Res_next_after]
  (repeat' split) <;> simp) h

/-! ## GrnSteps -/

/-- Changes only: grn, seq. -/
@[simp] theorem startWait_only {m : Nat} {s x : State} (a1 a2) (h : 0xa0 &&& m = 0xa0) :
    Only m s (startWait x a1 a2) ↔ Only m s x := Only.iff (by simp [startWait]) h

/-- Changes only: grn. -/
@[simp] theorem execGrnQueryWrite_only {m : Nat} {s x : State} (a0) (h : 0x80 &&& m = 0x80) :
    Only m s ((execGrnQueryWrite a0 x).after x) ↔ Only m s x := Only.iff (by simp [execGrnQueryWrite]) h

/-- Changes only: cnt, grn, out. -/
theorem execBackgroundScrub_only {m : Nat} {s x : State} (h : 0x80090 &&& m = 0x80090) :
    Only m s ((execBackgroundScrub x).after x) ↔ Only m s x := Only.iff (by
  simp only [execBackgroundScrub, Res_next_after]
  (repeat' split) <;> simp) h

/-- Changes only: grn. -/
theorem execGrnQueryComplete_only {m : Nat} {s x : State} (h : 0x80 &&& m = 0x80) :
    Only m s ((execGrnQueryComplete x).after x) ↔ Only m s x := Only.iff (by simp [execGrnQueryComplete]) h

/-- Changes only: cnt, dev, draws, grn, seq. -/
@[simp] theorem allocStep_only {m : Nat} {s x : State} (a1 a2 a3 a4 a5 a6) (h : 0x2000b1 &&& m = 0x2000b1) :
    Only m s (allocStep x a1 a2 a3 a4 a5 a6) ↔ Only m s x := Only.iff (by
  unfold allocStep
  split
  rename_i hc; replace hc := congrArg Prod.fst hc; dsimp only at hc; subst hc
  split
  · rename_i g hc
    have hb := (Only.iff (m := 0x2000b1) (s := x) (attempt_base hc) (by simp)).mpr (by simp)
    split <;> simp [hb]
  · split <;> simp) h

/-- Changes only: cip, cnt, dev, fmg, fns, fwt, grn, haul, mac, qm, seq. -/
@[simp] theorem freeViolation_only {m : Nat} {s x : State} (a1 a2 a3) (h : 0x1bfd &&& m = 0x1bfd) :
    Only m s (freeViolation x a1 a2 a3).2 ↔ Only m s x := Only.iff (by simp [freeViolation]) h

/-- Changes only: cnt, dev, draws, grn, mac, seq. -/
@[simp] theorem resumeRequest_only {m : Nat} {s x : State} (a1 a2) (h : 0x2002b1 &&& m = 0x2002b1) :
    Only m s (resumeRequest x a1 a2) ↔ Only m s x := Only.iff (by
  unfold resumeRequest
  simp only
  split
  · rename_i g hc
    have hb := (Only.iff (m := 0x2002b1) (s := x) (attempt_base hc) (by simp)).mpr (by simp)
    unfold grantWaiting; simp [hb]
  · split <;> simp) h

/-- Changes only: cip, cnt, dev, draws, fmg, fns, fwt, grn, haul, mac, out, pci, qm, seq, stg, twn. -/
theorem execGrnAlloc_only {m : Nat} {s x : State} (a0 a1) (h : 0x28fbfd &&& m = 0x28fbfd) :
    Only m s ((execGrnAlloc a0 a1 x).after x) ↔ Only m s x := Only.iff (by
  simp only [execGrnAlloc, Res_next_after]
  refine withStep_only _ _ _ _ (by simp) (by simp) (Only.refl _ _) (fun y => ?_)
  (repeat' split) <;> simp) h

/-- Changes only: cnt, dev, grn, seq. -/
theorem execGrnWaitExpiry_only {m : Nat} {s x : State} (a0) (h : 0xb1 &&& m = 0xb1) :
    Only m s ((execGrnWaitExpiry a0 x).after x) ↔ Only m s x := Only.iff (by
  simp only [execGrnWaitExpiry, Res_next_after]
  split <;> simp) h

/-- Changes only: cnt, dev, draws, grn, seq. -/
theorem execGrnWaitRetry_only {m : Nat} {s x : State} (a0) (h : 0x2000b1 &&& m = 0x2000b1) :
    Only m s ((execGrnWaitRetry a0 x).after x) ↔ Only m s x := Only.iff (by
  simp only [execGrnWaitRetry, Res_next_after]
  split <;> simp) h

/-- Changes only: cnt, dev, draws, grn, mac, out, seq. -/
theorem execInlineScrubComplete_only {m : Nat} {s x : State} (a0) (h : 0x2802b1 &&& m = 0x2802b1) :
    Only m s ((execInlineScrubComplete a0 x).after x) ↔ Only m s x := Only.iff (by
  simp only [execInlineScrubComplete, Res_next_after]
  (repeat' split) <;> simp) h

/-- Changes only: cip, cnt, dev, fmg, fns, fwt, grn, haul, mac, out, pci, qm, seq, stg, twn. -/
theorem execGrnFree_only {m : Nat} {s x : State} (a0 a1) (h : 0x8fbfd &&& m = 0x8fbfd) :
    Only m s ((execGrnFree a0 a1 x).after x) ↔ Only m s x := Only.iff (by
  simp only [execGrnFree, Res_next_after]
  refine withStep_only _ _ _ _ (by simp) (by simp) (Only.refl _ _) (fun y => ?_)
  (repeat' (split <;> (try (rename_i hh; (try cases trd_of hh); (try cases mid_of hh); (try cases snd_of hh); (try cases fst_of hh))))) <;> simp) h

/-! ## PciBase -/

/-- Changes only: pci. -/
@[simp] theorem dropRead_only {m : Nat} {s x : State} (a1) (h : 0x4000 &&& m = 0x4000) :
    Only m s (dropRead x a1) ↔ Only m s x := Only.iff (by simp [dropRead]) h

/-- Changes only: grn, seq. -/
@[simp] theorem dmarPiece_only {m : Nat} {s x : State} (a1 a2 a3 a4 a5 a6) (h : 0xa0 &&& m = 0xa0) :
    Only m s (dmarPiece x a1 a2 a3 a4 a5 a6) ↔ Only m s x := Only.iff (by simp [dmarPiece]) h

theorem releaseReads_base (n : Nat) (x : State) : Only 0x40a0 x (releaseReads n x) := by
  induction n generalizing x with
  | zero => simp [releaseReads]
  | succ n ih =>
    unfold releaseReads
    simp only
    split
    · simp
    · split
      · split <;> exact (Only.iff (ih _) rfl).mpr (by simp)
      · simp

/-- Changes only: grn, pci, seq. -/
@[simp] theorem releaseReads_only {m : Nat} {s x : State} (a1) (h : 0x40a0 &&& m = 0x40a0) :
    Only m s (releaseReads a1 x) ↔ Only m s x := Only.iff (releaseReads_base _ _) h

/-- Changes only: grn, pci, seq. -/
@[simp] theorem failWaiting_only {m : Nat} {s x : State} (a1) (h : 0x40a0 &&& m = 0x40a0) :
    Only m s (failWaiting x a1) ↔ Only m s x := Only.iff (by simp [failWaiting]) h

/-- Changes only: pci. -/
@[simp] theorem setRead_only {m : Nat} {s x : State} (a1 a2) (h : 0x4000 &&& m = 0x4000) :
    Only m s (setRead x a1 a2) ↔ Only m s x := Only.iff (by simp [setRead]) h

/-- Changes only: draws, out, pci. -/
@[simp] theorem tagRead_only {m : Nat} {s x : State} (a1 a2) (h : 0x284000 &&& m = 0x284000) :
    Only m s (tagRead x a1 a2) ↔ Only m s x := Only.iff (by simp only [tagRead]; (repeat' split) <;> simp) h

/-- Changes only: draws, out, pci. -/
@[simp] theorem issueWaiting_only {m : Nat} {s x : State} (h : 0x284000 &&& m = 0x284000) :
    Only m s (issueWaiting x) ↔ Only m s x := Only.iff (by
  unfold issueWaiting
  refine (only_foldl (fun a b => ?_) _).mpr (by simp)
  split
  · split <;> simp
  · simp) h

/-- Changes only: draws, grn, out, pci, seq. -/
@[simp] theorem endRead_only {m : Nat} {s x : State} (a1 a2 a3 a4) (h : 0x2840a0 &&& m = 0x2840a0) :
    Only m s (endRead x a1 a2 a3 a4) ↔ Only m s x := Only.iff (by simp [endRead]) h

/-- Changes only: cnt, draws, out, pci. -/
@[simp] theorem issueRead_only {m : Nat} {s x : State} (a1 a2 a3 a4 a5) (h : 0x284010 &&& m = 0x284010) :
    Only m s (issueRead x a1 a2 a3 a4 a5) ↔ Only m s x := Only.iff (by simp [issueRead]) h

/-! ## Queues -/

/-- Changes only: qm. -/
@[simp] theorem unfetched_only {m : Nat} {s x : State} (a1 a2 a3 a4) (h : 0x40 &&& m = 0x40) :
    Only m s (unfetched x a1 a2 a3 a4) ↔ Only m s x := Only.iff (by simp [unfetched]) h

/-- Changes only: cnt, qm. -/
@[simp] theorem takeEntry_only {m : Nat} {s x : State} (a1 a2 a3 a4 a5 a6) (h : 0x50 &&& m = 0x50) :
    Only m s (takeEntry x a1 a2 a3 a4 a5 a6) ↔ Only m s x := Only.iff (by
  simp only [takeEntry]
  (repeat' split) <;> simp) h

/-- Changes only: cnt, draws, out, pci, qm. -/
@[simp] theorem startFetch_only {m : Nat} {s x : State} (a1 a2 a3) (h : 0x284050 &&& m = 0x284050) :
    Only m s (startFetch x a1 a2 a3) ↔ Only m s x := Only.iff (by simp [startFetch]) h

/-- Changes only: qm. -/
@[simp] theorem newRound_only {m : Nat} {s x : State} (a1 a2) (h : 0x40 &&& m = 0x40) :
    Only m s (newRound x a1 a2) ↔ Only m s x := Only.iff (by simp [newRound]) h

/-- Changes only: qm. -/
@[simp] theorem nextVisit.search_only {m : Nat} {s x : State} (a1 a2) (h : 0x40 &&& m = 0x40) :
    Only m s (nextVisit.search x a1 a2).2 ↔ Only m s x := Only.iff (by
  simp only [nextVisit.search]
  (repeat' split) <;> simp) h

/-- Changes only: qm. -/
@[simp] theorem nextVisit_only {m : Nat} {s x : State} (a1) (h : 0x40 &&& m = 0x40) :
    Only m s (nextVisit x a1).2 ↔ Only m s x := Only.iff (by simp only [nextVisit]; (repeat' split) <;> simp) h

/-- Changes only: cnt, draws, out, pci, qm. -/
theorem execQueueFetch_only {m : Nat} {s x : State} (a0 a1) (h : 0x284050 &&& m = 0x284050) :
    Only m s ((execQueueFetch a0 a1 x).after x) ↔ Only m s x := Only.iff (by
  simp only [execQueueFetch, Res_next_after]
  (repeat' (split <;> (try (rename_i hh; (try cases trd_of hh); (try cases mid_of hh); (try cases snd_of hh); (try cases fst_of hh))))) <;> simp) h

/-- Changes only: cip, cnt, dev, fmg, fns, fwt, grn, haul, mac, qm, seq. -/
@[simp] theorem badEntry_only {m : Nat} {s x : State} (a1 a2) (h : 0x1bfd &&& m = 0x1bfd) :
    Only m s (badEntry x a1 a2) ↔ Only m s x := Only.iff (by simp [badEntry]) h

theorem returnHandles_base (x : State) (fid : Nat) (l : List Nat) : Only 0x1bfd x (returnHandles x fid l).2 := by
  induction l generalizing x with
  | nil => simp [returnHandles]
  | cons a t ih =>
    unfold returnHandles
    split
    · rename_i hc; replace hc := congrArg (fun p => p.2.2) hc; dsimp only at hc; subst hc
      exact (Only.iff (ih _) rfl).mpr (by simp)
    · rename_i hc; replace hc := congrArg (fun p => p.2.2) hc; dsimp only at hc; subst hc; simp

/-- Changes only: cip, cnt, dev, fmg, fns, fwt, grn, haul, mac, qm, seq. -/
@[simp] theorem returnHandles_only {m : Nat} {s x : State} (a1 a2) (h : 0x1bfd &&& m = 0x1bfd) :
    Only m s (returnHandles x a1 a2).2 ↔ Only m s x := Only.iff (returnHandles_base _ _ _) h

theorem returnEntry_base (x : State) (a1 a2 a3 a4) : Only 0x85bfd x (returnEntry x a1 a2 a3 a4) := by
  unfold returnEntry
  simp

/-- Changes only: cip, cnt, dev, fmg, fns, fwt, grn, haul, mac, out, pci, qm, seq. -/
@[simp] theorem returnEntry_only {m : Nat} {s x : State} (a1 a2 a3 a4) (h : 0x85bfd &&& m = 0x85bfd) :
    Only m s (returnEntry x a1 a2 a3 a4) ↔ Only m s x := Only.iff (returnEntry_base _ _ _ _ _) h

/-- Changes only: cip, cnt, dev, fmg, fns, fwt, grn, haul, mac, qm, seq. -/
@[simp] theorem badDoorbell_only {m : Nat} {s x : State} (a1 a2 a3) (h : 0x1bfd &&& m = 0x1bfd) :
    Only m s (badDoorbell x a1 a2 a3) ↔ Only m s x := Only.iff (by simp [badDoorbell]) h

/-- Changes only: cip, cnt, dev, fmg, fns, fwt, grn, haul, mac, qm, seq. -/
@[simp] theorem ringDoorbell_only {m : Nat} {s x : State} (a1 a2 a3 a4 a5) (h : 0x1bfd &&& m = 0x1bfd) :
    Only m s (ringDoorbell x a1 a2 a3 a4 a5) ↔ Only m s x := Only.iff (by simp [ringDoorbell]) h

/-- Changes only: cip, cnt, dev, fmg, fns, fwt, grn, haul, mac, out, pci, qm, seq. -/
@[simp] theorem cqConsume_only {m : Nat} {s x : State} (a1 a2 a3 a4 a5) (h : 0x85bfd &&& m = 0x85bfd) :
    Only m s (cqConsume x a1 a2 a3 a4 a5) ↔ Only m s x := Only.iff (by
  simp only [cqConsume]
  (repeat' split) <;> simp) h

/-- Changes only: cip, cnt, dev, fmg, fns, fwt, grn, haul, mac, out, pci, qm, seq. -/
@[simp] theorem windowPos_only {m : Nat} {s x : State} (a1 a2 a3) (h : 0x85bfd &&& m = 0x85bfd) :
    Only m s (windowPos x a1 a2 a3) ↔ Only m s x := Only.iff (by unfold windowPos; split <;> simp) h

/-- Changes only: cip, cnt, dev, fmg, fns, fwt, grn, haul, mac, out, pci, qm, seq. -/
@[simp] theorem failFetch_only {m : Nat} {s x : State} (a1 a2 a3 a4) (h : 0x85bfd &&& m = 0x85bfd) :
    Only m s (failFetch x a1 a2 a3 a4) ↔ Only m s x := Only.iff (by simp [failFetch]) h

/-- Changes only: cip, cnt, dev, fmg, fns, fwt, grn, haul, mac, qm, seq. -/
@[simp] theorem pushEntry_only {m : Nat} {s x : State} (a1 a2 a3 a4) (h : 0x1bfd &&& m = 0x1bfd) :
    Only m s (pushEntry x a1 a2 a3 a4) ↔ Only m s x := Only.iff (by simp [pushEntry]) h

/-- Changes only: cnt, dev, draws, grn, qm, seq. -/
@[simp] theorem dispatchEntry_only {m : Nat} {s x : State} (a1 a2 a3 a4 a5) (h : 0x2000f1 &&& m = 0x2000f1) :
    Only m s (dispatchEntry x a1 a2 a3 a4 a5) ↔ Only m s x := Only.iff (by
  unfold dispatchEntry
  simp only
  split
  · simp
  · split <;> (rename_i hc; replace hc := congrArg Prod.snd hc; dsimp only at hc; subst hc; simp)) h

/-- Changes only: cip, cnt, dev, draws, fmg, fns, fwt, grn, haul, mac, out, pci, qm, seq. -/
@[simp] theorem arriveEntry_only {m : Nat} {s x : State} (a1 a2 a3 a4 a5) (h : 0x285bfd &&& m = 0x285bfd) :
    Only m s (arriveEntry x a1 a2 a3 a4 a5) ↔ Only m s x := Only.iff (by simp [arriveEntry]) h

/-- Changes only: cnt, fns. -/
@[simp] theorem windowWrite_only {m : Nat} {s x f : State} {fid : Nat} (h : 0x14 &&& m = 0x14) :
    Only m s (windowWrite x fid f) ↔ (memReach x fid = true → (isFrozen x fid = true → Only m s x) ∧
      (¬ isFrozen x fid = true → Only m s f)) ∧ (¬ memReach x fid = true → Only m s x) := by
  have a : 0x10 &&& m = 0x10 := sub_trans rfl h
  unfold windowWrite
  rw [memWrite_only, only_ite]
  have hj : Only m s (match joinOnly x f fid with
      | (joined, s1) => if joined = true then s1 else count x fid cFrozenRefused) ↔ Only m s x := by
    split
    rename_i joined s1 hh
    cases snd_of hh
    cases joined <;> simp [h, a]
  simp only [hj]

/-- Changes only: cip, cnt, dev, fmg, fns, fwt, grn, haul, mac, out, pci, qm, seq. -/
@[simp] theorem execDoorbell_only {m : Nat} {s x : State} (a0 a1 a2 a3 a4) (h : 0x85bfd &&& m = 0x85bfd) :
    Only m s ((execDoorbell a0 a1 a2 a3 a4 x).after x) ↔ Only m s x := Only.iff (by
  simp only [execDoorbell, Res_next_after]
  (repeat' split) <;> simp) h

/-- Changes only: cip, cnt, dev, fmg, fns, fwt, grn, haul, mac, out, pci, qm, seq. -/
theorem execCompletionArm_only {m : Nat} {s x : State} (a0 a1 a2) (h : 0x85bfd &&& m = 0x85bfd) :
    Only m s ((execCompletionArm a0 a1 a2 x).after x) ↔ Only m s x := Only.iff (by
  simp only [execCompletionArm, Res_next_after]
  (repeat' split) <;> simp) h

/-- Changes only: cip, cnt, dev, fmg, fns, fwt, grn, haul, mac, out, pci, qm, seq. -/
theorem execCompletionConsumerWrite_only {m : Nat} {s x : State} (a0 a1 a2) (h : 0x85bfd &&& m = 0x85bfd) :
    Only m s ((execCompletionConsumerWrite a0 a1 a2 x).after x) ↔ Only m s x := Only.iff (by
  simp [execCompletionConsumerWrite]) h

/-- Changes only: cip, cnt, dev, draws, fmg, fns, fwt, grn, haul, mac, out, pci, qm, seq. -/
theorem execEntryFetchComplete_only {m : Nat} {s x : State} (a0 a1) (h : 0x285bfd &&& m = 0x285bfd) :
    Only m s ((execEntryFetchComplete a0 a1 x).after x) ↔ Only m s x := Only.iff (by
  simp only [execEntryFetchComplete, Res_next_after]
  (repeat' split) <;> simp) h

/-- Changes only: cip, cnt, dev, fmg, fns, fwt, grn, haul, mac, qm, seq. -/
theorem execInlinePush_only {m : Nat} {s x : State} (a0 a1 a2) (h : 0x1bfd &&& m = 0x1bfd) :
    Only m s ((execInlinePush a0 a1 a2 x).after x) ↔ Only m s x := Only.iff (by
  simp only [execInlinePush, Res_next_after]
  (repeat' split) <;> simp) h

/-! ## QueueCmds -/

@[simp] theorem cqFor_only {m : Nat} {s x : State} {f : State → CmdOut} (a1 a2 : Nat) (hx : Only m s x)
    (hf : Only m s (f x).s) : Only m s (cqFor x a1 a2 f).s := by
  unfold cqFor
  split
  · exact hx
  · split
    · exact hx
    · exact hf

/-- Changes only: draws. -/
@[simp] theorem freeRing_only {α : Type} {m : Nat} {s x : State} (t : Tbl α) (h : 0x200000 &&& m = 0x200000) :
    Only m s (freeRing x t).2 ↔ Only m s x := Only.iff (by simp [freeRing]) h

/-- Changes only: cip, cnt, dev, draws, fmg, fns, fwt, grn, haul, mac, out, pci, qm, seq, stw, twn. -/
@[simp] theorem execCreateTransmitRing_only {m : Nat} {s x : State} (a0 a1 a2 a3 a4 a5 a6 a7 a8 a9) (h : 0x28dbff &&& m = 0x28dbff) :
    Only m s ((execCreateTransmitRing a0 a1 a2 a3 a4 a5 a6 a7 a8 a9 x).after x) ↔ Only m s x := Only.iff (by
  simp only [execCreateTransmitRing, Res_next_after]
  refine runCmd_only _ _ _ _ _ (by simp) (Only.refl _ _) (fun y hy => ?_)
  refine cqFor_only _ _ hy ?_
  split
  · exact hy
  · split
    · exact hy
    · split
      · rename_i hh; replace hh := congrArg Prod.snd hh; dsimp only at hh; subst hh; simp [hy]
      · exact hy) h

/-- Changes only: cip, cnt, dev, draws, fmg, fns, fwt, grn, haul, mac, out, pci, qm, seq, stw, twn. -/
@[simp] theorem execCreateReceiveRing_only {m : Nat} {s x : State} (a0 a1 a2 a3 a4 a5 a6) (h : 0x28dbff &&& m = 0x28dbff) :
    Only m s ((execCreateReceiveRing a0 a1 a2 a3 a4 a5 a6 x).after x) ↔ Only m s x := Only.iff (by
  simp only [execCreateReceiveRing, Res_next_after]
  refine runCmd_only _ _ _ _ _ (by simp) (Only.refl _ _) (fun y hy => ?_)
  refine cqFor_only _ _ hy ?_
  split
  · exact hy
  · split
    · exact hy
    · split
      · rename_i hh; replace hh := congrArg Prod.snd hh; dsimp only at hh; subst hh; simp [hy]
      · exact hy) h

/-- Changes only: cip, cnt, dev, draws, fmg, fns, fwt, grn, haul, mac, out, pci, qm, seq, stw, twn. -/
@[simp] theorem execCreateCompletionRing_only {m : Nat} {s x : State} (a0 a1 a2 a3 a4 a5 a6) (h : 0x28dbff &&& m = 0x28dbff) :
    Only m s ((execCreateCompletionRing a0 a1 a2 a3 a4 a5 a6 x).after x) ↔ Only m s x := Only.iff (by
  simp only [execCreateCompletionRing, Res_next_after]
  refine runCmd_only _ _ _ _ _ (by simp) (Only.refl _ _) (fun y hy => ?_)
  split
  · exact hy
  · split
    · exact hy
    · split
      · exact hy
      · split
        · rename_i hh; replace hh := congrArg Prod.snd hh; dsimp only at hh; subst hh; simp [hy]
        · exact hy) h

/-- Changes only: cip, cnt, dev, fmg, fns, fwt, grn, haul, mac, out, pci, qm, seq, stw, twn. -/
@[simp] theorem execDestroyRing_only {m : Nat} {s x : State} (a0 a1 a2) (h : 0x8dbff &&& m = 0x8dbff) :
    Only m s ((execDestroyRing a0 a1 a2 x).after x) ↔ Only m s x := Only.iff (by
  simp only [execDestroyRing, Res_next_after]
  refine runCmd_only _ _ _ _ _ (by simp) (Only.refl _ _) (fun y hy => ?_)
  (repeat' split) <;> simp [hy]) h

/-- Changes only: cip, cnt, dev, fmg, fns, fwt, grn, haul, mac, out, pci, qm, seq. -/
@[simp] theorem coverStocks_only {m : Nat} {s x : State} (a1 a2 a3) (h : 0x85bfd &&& m = 0x85bfd) :
    Only m s (coverStocks x a1 a2 a3) ↔ Only m s x := Only.iff (by
  simp only [coverStocks]
  (repeat' split) <;> simp) h

/-- Changes only: cip, cnt, dev, fmg, fns, fwt, grn, haul, mac, out, pci, qm, seq, stw, twn. -/
@[simp] theorem execStartRing_only {m : Nat} {s x : State} (a0 a1 a2) (h : 0x8dbff &&& m = 0x8dbff) :
    Only m s ((execStartRing a0 a1 a2 x).after x) ↔ Only m s x := Only.iff (by
  simp only [execStartRing, Res_next_after]
  refine runCmd_only _ _ _ _ _ (by simp) (Only.refl _ _) (fun y hy => ?_)
  (repeat' split) <;> simp [hy]) h

/-- Changes only: cip, cnt, dev, fmg, fns, fwt, grn, haul, mac, out, pci, qm, seq, stw, twn. -/
@[simp] theorem execStopRing_only {m : Nat} {s x : State} (a0 a1 a2) (h : 0x8dbff &&& m = 0x8dbff) :
    Only m s ((execStopRing a0 a1 a2 x).after x) ↔ Only m s x := Only.iff (by
  simp only [execStopRing, Res_next_after]
  refine runCmd_only _ _ _ _ _ (by simp) (Only.refl _ _) (fun y hy => ?_)
  (repeat' split) <;> simp [hy]) h

/-- Changes only: cip, cnt, dev, fmg, fns, fwt, grn, haul, mac, out, pci, qm, seq. -/
@[simp] theorem resumeRings_only {m : Nat} {s x : State} (a1) (h : 0x85bfd &&& m = 0x85bfd) :
    Only m s (resumeRings x a1) ↔ Only m s x := Only.iff (by simp [resumeRings]) h

/-- Changes only: cip, cnt, dev, fmg, fns, fwt, grn, haul, mac, out, pci, qm, seq, stw, twn. -/
@[simp] theorem execResumeRings_only {m : Nat} {s x : State} (a0 a1) (h : 0x8dbff &&& m = 0x8dbff) :
    Only m s ((execResumeRings a0 a1 x).after x) ↔ Only m s x := Only.iff (by
  simp only [execResumeRings, Res_next_after]
  exact runCmd_only _ _ _ _ _ (by simp) (Only.refl _ _) (fun y hy => by simp [hy])) h

/-- Changes only: cip, cnt, dev, fmg, fns, fwt, grn, haul, mac, out, pci, qm, seq, stw, twn. -/
@[simp] theorem execSetWeightAndBurst_only {m : Nat} {s x : State} (a0 a1 a2 a3) (h : 0x8dbff &&& m = 0x8dbff) :
    Only m s ((execSetWeightAndBurst a0 a1 a2 a3 x).after x) ↔ Only m s x := Only.iff (by
  simp only [execSetWeightAndBurst, Res_next_after]
  refine runCmd_only _ _ _ _ _ (by simp) (Only.refl _ _) (fun y hy => ?_)
  (repeat' split) <;> simp [hy]) h

/-- Changes only: cip, cnt, dev, fmg, fns, fwt, grn, haul, mac, out, pci, qm, seq, stw, twn. -/
theorem execReadRing_only {m : Nat} {s x : State} (a0 a1 a2) (h : 0x8dbff &&& m = 0x8dbff) :
    Only m s ((execReadRing a0 a1 a2 x).after x) ↔ Only m s x := Only.iff (by
  simp only [execReadRing, Res_next_after]
  refine runCmd_only _ _ _ _ _ (by simp) (Only.refl _ _) (fun y hy => ?_)
  (repeat' split) <;> simp [hy]) h

/-! ## MacCmds -/

/-- Changes only: mac. -/
@[simp] theorem setLaneReg_only {m : Nat} {s x : State} (a1 a2) (h : 0x200 &&& m = 0x200) :
    Only m s (setLaneReg x a1 a2) ↔ Only m s x := Only.iff (by simp [setLaneReg]) h

/-- Changes only: mac. -/
@[simp] theorem setCage_only {m : Nat} {s x : State} (a1 a2) (h : 0x200 &&& m = 0x200) :
    Only m s (setCage x a1 a2) ↔ Only m s x := Only.iff (by simp [setCage]) h

/-- Changes only: cnt, dev, mac. -/
@[simp] theorem cageEvent_only {m : Nat} {s x : State} (a1 a2) (h : 0x211 &&& m = 0x211) :
    Only m s (cageEvent x a1 a2) ↔ Only m s x := Only.iff (by simp [cageEvent]) h

/-- Changes only: mac. -/
@[simp] theorem restoreDrivers_only {m : Nat} {s x : State} (a1) (h : 0x200 &&& m = 0x200) :
    Only m s (restoreDrivers x a1) ↔ Only m s x := Only.iff (by simp [restoreDrivers]) h

/-- Changes only: mac. -/
@[simp] theorem enablePort_only {m : Nat} {s x : State} (a1 a2) (h : 0x200 &&& m = 0x200) :
    Only m s (enablePort x a1 a2) ↔ Only m s x := Only.iff (by simp [enablePort]) h

/-- Changes only: cnt, grn, mac. -/
@[simp] theorem linkDownPort_only {m : Nat} {s x : State} (a1) (h : 0x290 &&& m = 0x290) :
    Only m s (linkDownPort x a1) ↔ Only m s x := Only.iff (by simp [linkDownPort]) h

/-- Changes only: cnt, grn, mac. -/
@[simp] theorem disablePort_only {m : Nat} {s x : State} (a1) (h : 0x290 &&& m = 0x290) :
    Only m s (disablePort x a1) ↔ Only m s x := Only.iff (by simp [disablePort]) h

@[simp] theorem withPort_only {m : Nat} {s x : State} {f : Block → CmdOut} (a1 : Nat) (hx : Only m s x)
    (hf : ∀ b, Only m s (f b).s) : Only m s (withPort x a1 f).s := by
  unfold withPort
  split
  · exact hx
  · exact hf _

/-- Changes only: mac. -/
@[simp] theorem linkUpPort_only {m : Nat} {s x : State} (a1) (h : 0x200 &&& m = 0x200) :
    Only m s (linkUpPort x a1) ↔ Only m s x := Only.iff (by simp [linkUpPort]) h

/-- Changes only: cip, cnt, dev, fmg, fns, fwt, grn, haul, mac, out, pci, qm, seq, stw, twn. -/
@[simp] theorem execSetPortLayout_only {m : Nat} {s x : State} (a0 a1) (h : 0x8dbff &&& m = 0x8dbff) :
    Only m s ((execSetPortLayout a0 a1 x).after x) ↔ Only m s x := Only.iff (by
  simp only [execSetPortLayout, Res_next_after]
  exact runCmd_only _ _ _ _ _ (by simp) (Only.refl _ _) (fun y hy => by simp [hy])) h

/-- Changes only: cip, cnt, dev, fmg, fns, fwt, grn, haul, mac, out, pci, qm, seq, stw, twn. -/
@[simp] theorem execSetPortParameters_only {m : Nat} {s x : State} (a0 a1) (h : 0x8dbff &&& m = 0x8dbff) :
    Only m s ((execSetPortParameters a0 a1 x).after x) ↔ Only m s x := Only.iff (by
  simp only [execSetPortParameters, Res_next_after]
  exact runCmd_only _ _ _ _ _ (by simp) (Only.refl _ _) (fun y hy => by simp [hy])) h

/-- Changes only: cip, cnt, dev, fmg, fns, fwt, grn, haul, mac, out, pci, qm, seq, stw, twn. -/
theorem execDisablePort_only {m : Nat} {s x : State} (a0 a1 a2 a3) (h : 0x8dbff &&& m = 0x8dbff) :
    Only m s ((execDisablePort a0 a1 a2 a3 x).after x) ↔ Only m s x := Only.iff (by
  simp only [execDisablePort, Res_next_after]
  exact runCmd_only _ _ _ _ _ (by simp) (Only.refl _ _) (fun y hy => by simp [hy])) h

/-- Changes only: cip, cnt, dev, fmg, fns, fwt, grn, haul, mac, out, pci, qm, seq, stw, twn. -/
theorem execEnablePort_only {m : Nat} {s x : State} (a0 a1) (h : 0x8dbff &&& m = 0x8dbff) :
    Only m s ((execEnablePort a0 a1 x).after x) ↔ Only m s x := Only.iff (by
  simp only [execEnablePort, Res_next_after]
  exact runCmd_only _ _ _ _ _ (by simp) (Only.refl _ _) (fun y hy => by simp [hy])) h

/-- Changes only: cip, cnt, dev, fmg, fns, fwt, grn, haul, mac, out, pci, qm, seq, stw, twn. -/
theorem execModuleTransfer_only {m : Nat} {s x : State} (a0 a1 a2 a3 a4 a5 a6 a7) (h : 0x8dbff &&& m = 0x8dbff) :
    Only m s ((execModuleTransfer a0 a1 a2 a3 a4 a5 a6 a7 x).after x) ↔ Only m s x := Only.iff (by
  simp only [execModuleTransfer, Res_next_after]
  exact runCmd_only _ _ _ _ _ (by simp) (Only.refl _ _) (fun y hy => by simp [hy])) h

/-- Changes only: cip, cnt, dev, fmg, fns, fwt, grn, haul, mac, out, pci, qm, seq, stw, twn. -/
theorem execPortDrainEnd_only {m : Nat} {s x : State} (a0) (h : 0x8dbff &&& m = 0x8dbff) :
    Only m s ((execPortDrainEnd a0 x).after x) ↔ Only m s x := Only.iff (by
  simp only [execPortDrainEnd, Res_next_after]
  split <;> simp) h

/-- Changes only: cip, cnt, dev, fmg, fns, fwt, grn, haul, mac, out, pci, qm, seq, stw, twn. -/
theorem execWithdrawStagedConfiguration_only {m : Nat} {s x : State} (a0) (h : 0x8dbff &&& m = 0x8dbff) :
    Only m s ((execWithdrawStagedConfiguration a0 x).after x) ↔ Only m s x := Only.iff (by
  simp only [execWithdrawStagedConfiguration, Res_next_after]
  exact runCmd_only _ _ _ _ _ (by simp) (Only.refl _ _) (fun y hy => by simp [hy])) h

/-- Changes only: cip, cnt, dev, fmg, fns, fwt, grn, haul, mac, out, pci, qm, seq, stw, twn. -/
theorem execWriteGroupFilter_only {m : Nat} {s x : State} (a0 a1 a2 a3) (h : 0x8dbff &&& m = 0x8dbff) :
    Only m s ((execWriteGroupFilter a0 a1 a2 a3 x).after x) ↔ Only m s x := Only.iff (by
  simp only [execWriteGroupFilter, Res_next_after]
  exact runCmd_only _ _ _ _ _ (by simp) (Only.refl _ _) (fun y hy => withPort_only _ hy (fun a => by simp [hy]))) h

/-- Changes only: cip, cnt, dev, fmg, fns, fwt, grn, haul, mac, out, pci, qm, seq, stw, twn. -/
theorem execWriteSelectTable_only {m : Nat} {s x : State} (a0 a1 a2 a3) (h : 0x8dbff &&& m = 0x8dbff) :
    Only m s ((execWriteSelectTable a0 a1 a2 a3 x).after x) ↔ Only m s x := Only.iff (by
  simp only [execWriteSelectTable, Res_next_after]
  exact runCmd_only _ _ _ _ _ (by simp) (Only.refl _ _) (fun y hy => withPort_only _ hy (fun a => by simp [hy]))) h

/-! ## Parse -/

/-- Changes only: cip, cnt, dev, fmg, fns, fwt, grn, haul, mac, out, pci, qm, seq, stg, twn. -/
@[simp] theorem parseStep_only {m : Nat} {s x : State} (a0 a1 a2 a4) (h : 0x8fbfd &&& m = 0x8fbfd) :
    Only m s (parseStep a0 a1 a2 x a4) ↔ Only m s x := Only.iff (by simp [parseStep]) h

/-- Changes only: cip, cnt, dev, fmg, fns, fwt, grn, haul, mac, out, pci, qm, seq, stg, twn. -/
theorem execParseL2_only {m : Nat} {s x : State} (a0 a1) (h : 0x8fbfd &&& m = 0x8fbfd) :
    Only m s ((execParseL2 a0 a1 x).after x) ↔ Only m s x := Only.iff (by simp [execParseL2]) h

/-- Changes only: cip, cnt, dev, fmg, fns, fwt, grn, haul, mac, out, pci, qm, seq, stg, twn. -/
theorem execParseL3_only {m : Nat} {s x : State} (a0 a1) (h : 0x8fbfd &&& m = 0x8fbfd) :
    Only m s ((execParseL3 a0 a1 x).after x) ↔ Only m s x := Only.iff (by simp [execParseL3]) h

/-- Changes only: cip, cnt, dev, fmg, fns, fwt, grn, haul, mac, out, pci, qm, seq, stg, twn. -/
theorem execParseL4_only {m : Nat} {s x : State} (a0 a1) (h : 0x8fbfd &&& m = 0x8fbfd) :
    Only m s ((execParseL4 a0 a1 x).after x) ↔ Only m s x := Only.iff (by simp [execParseL4]) h

/-- Changes only: cip, cnt, dev, fmg, fns, fwt, grn, haul, mac, out, pci, qm, seq, stg, twn. -/
theorem execParseStoragePdu_only {m : Nat} {s x : State} (a0 a1) (h : 0x8fbfd &&& m = 0x8fbfd) :
    Only m s ((execParseStoragePdu a0 a1 x).after x) ↔ Only m s x := Only.iff (by simp [execParseStoragePdu]) h

/-- Changes only: cip, cnt, dev, fmg, fns, fwt, grn, haul, mac, out, pci, qm, seq, stg, twn. -/
theorem execParseTunnel_only {m : Nat} {s x : State} (a0 a1) (h : 0x8fbfd &&& m = 0x8fbfd) :
    Only m s ((execParseTunnel a0 a1 x).after x) ↔ Only m s x := Only.iff (by simp [execParseTunnel]) h

/-! ## MacRows -/

/-- Changes only: cnt, dev, mac. -/
@[simp] theorem execMacTimeStepWrite_only {m : Nat} {s x : State} (a0) (h : 0x211 &&& m = 0x211) :
    Only m s ((execMacTimeStepWrite a0 x).after x) ↔ Only m s x := Only.iff (by simp [execMacTimeStepWrite]) h

/-- Changes only: cnt, mac. -/
@[simp] theorem takePfc_only {m : Nat} {s x : State} (a1 a2 a3) (h : 0x210 &&& m = 0x210) :
    Only m s (takePfc x a1 a2 a3) ↔ Only m s x := Only.iff (by simp [takePfc]) h

/-- Changes only: cnt, mac. -/
@[simp] theorem controlFrame_only {m : Nat} {s x : State} (a1 a2 a3) (h : 0x210 &&& m = 0x210) :
    Only m s (controlFrame x a1 a2 a3) ↔ Only m s x := Only.iff (by simp [controlFrame]) h

/-- Changes only: mac. -/
@[simp] theorem countFec_only {m : Nat} {s x : State} (a1 a2) (h : 0x200 &&& m = 0x200) :
    Only m s (countFec x a1 a2) ↔ Only m s x := Only.iff (by simp [countFec]) h

/-- Changes only: mac. -/
@[simp] theorem countRx_only {m : Nat} {s x : State} (a1 a2 a3) (h : 0x200 &&& m = 0x200) :
    Only m s (countRx x a1 a2 a3) ↔ Only m s x := Only.iff (by simp [countRx]) h

/-- Changes only: cnt, mac. -/
@[simp] theorem cutEnd_only {m : Nat} {s x : State} (a1 a2) (h : 0x210 &&& m = 0x210) :
    Only m s (cutEnd x a1 a2) ↔ Only m s x := Only.iff (by simp only [cutEnd]; (repeat' split) <;> simp) h

/-- Changes only: cnt, grn, mac. -/
@[simp] theorem endFrame_only {m : Nat} {s x : State} (a1 a2) (h : 0x290 &&& m = 0x290) :
    Only m s (endFrame x a1 a2) ↔ Only m s x := Only.iff (by simp [endFrame]) h

/-- Changes only: cnt, grn, mac, seq. -/
@[simp] theorem enterFrame_only {m : Nat} {s x : State} (a1 a2 a3 a4 a5) (h : 0x2b0 &&& m = 0x2b0) :
    Only m s (enterFrame x a1 a2 a3 a4 a5) ↔ Only m s x := Only.iff (by simp [enterFrame]) h

/-- Changes only: cnt, dev, mac. -/
theorem execCageFault_only {m : Nat} {s x : State} (a0 a1) (h : 0x211 &&& m = 0x211) :
    Only m s ((execCageFault a0 a1 x).after x) ↔ Only m s x := Only.iff (by
  simp only [execCageFault, Res_next_after]
  (repeat' split) <;> simp) h

/-- Changes only: mac. -/
theorem execCageFaultClear_only {m : Nat} {s x : State} (a0 a1) (h : 0x200 &&& m = 0x200) :
    Only m s ((execCageFaultClear a0 a1 x).after x) ↔ Only m s x := Only.iff (by
  simp only [execCageFaultClear, Res_next_after]
  (repeat' split) <;> simp) h

/-- Changes only: mac. -/
theorem execCageInterrupt_only {m : Nat} {s x : State} (a0) (h : 0x200 &&& m = 0x200) :
    Only m s ((execCageInterrupt a0 x).after x) ↔ Only m s x := Only.iff (by simp [execCageInterrupt]) h

/-- Changes only: mac. -/
theorem execMacTimeNsRead_only {m : Nat} {s x : State} (h : 0x200 &&& m = 0x200) :
    Only m s ((execMacTimeNsRead x).after x) ↔ Only m s x := Only.iff (by simp [execMacTimeNsRead]) h

/-- Changes only: mac. -/
theorem execPfcPauseEnd_only {m : Nat} {s x : State} (a0 a1) (h : 0x200 &&& m = 0x200) :
    Only m s ((execPfcPauseEnd a0 a1 x).after x) ↔ Only m s x := Only.iff (by
  simp only [execPfcPauseEnd, Res_next_after]
  split <;> simp) h

/-- Changes only: mac, out. -/
@[simp] theorem sendPfc_only {m : Nat} {s x : State} (a1 a2 a3 a4) (h : 0x80200 &&& m = 0x80200) :
    Only m s (sendPfc x a1 a2 a3 a4) ↔ Only m s x := Only.iff (by simp [sendPfc]) h

/-- Changes only: mac, out. -/
theorem execPfcResend_only {m : Nat} {s x : State} (a0 a1) (h : 0x80200 &&& m = 0x80200) :
    Only m s ((execPfcResend a0 a1 x).after x) ↔ Only m s x := Only.iff (by
  simp only [execPfcResend, Res_next_after]
  split <;> simp) h

/-- Changes only: mac, out. -/
theorem execPfcSend_only {m : Nat} {s x : State} (a0 a1) (h : 0x80200 &&& m = 0x80200) :
    Only m s ((execPfcSend a0 a1 x).after x) ↔ Only m s x := Only.iff (by
  simp only [execPfcSend, Res_next_after]
  split <;> simp) h

/-- Changes only: mac. -/
theorem execPpsInputEdge_only {m : Nat} {s x : State} (h : 0x200 &&& m = 0x200) :
    Only m s ((execPpsInputEdge x).after x) ↔ Only m s x := Only.iff (by simp [execPpsInputEdge]) h

/-- Changes only: mac. -/
theorem execPpsOutput_only {m : Nat} {s x : State} (h : 0x200 &&& m = 0x200) :
    Only m s ((execPpsOutput x).after x) ↔ Only m s x := Only.iff (by simp [execPpsOutput]) h

/-- Changes only: cnt, mac. -/
@[simp] theorem stampFrame_only {m : Nat} {s x : State} (a1 a2) (h : 0x210 &&& m = 0x210) :
    Only m s (stampFrame x a1 a2) ↔ Only m s x := Only.iff (by unfold stampFrame; split <;> simp) h

/-- Changes only: cnt, grn, mac, out. -/
@[simp] theorem startFrame_only {m : Nat} {s x : State} (a1 a2 a3 a4) (h : 0x80290 &&& m = 0x80290) :
    Only m s (startFrame x a1 a2 a3 a4) ↔ Only m s x := Only.iff (by simp [startFrame]) h

/-- Changes only: cnt, grn, mac, out. -/
theorem execTransmitFrameStart_only {m : Nat} {s x : State} (a0) (h : 0x80290 &&& m = 0x80290) :
    Only m s ((execTransmitFrameStart a0 x).after x) ↔ Only m s x := Only.iff (by
  simp only [execTransmitFrameStart, Res_next_after]
  (repeat' split) <;> simp) h

/-- Changes only: mac. -/
theorem execTxtsTagRead_only {m : Nat} {s x : State} (a0 a1 a2) (h : 0x200 &&& m = 0x200) :
    Only m s ((execTxtsTagRead a0 a1 a2 x).after x) ↔ Only m s x := Only.iff (by
  simp only [execTxtsTagRead, Res_next_after]
  split <;> simp) h

/-- Changes only: cnt, dev, draws, grn, mac, seq. -/
@[simp] theorem storeFrame_only {m : Nat} {s x : State} (a1 a2 a3 a4) (h : 0x2002b1 &&& m = 0x2002b1) :
    Only m s (storeFrame x a1 a2 a3 a4) ↔ Only m s x := Only.iff (by
  simp only [storeFrame]
  (repeat' split) <;> simp) h

/-- Changes only: cnt, dev, draws, grn, mac, seq. -/
theorem execFrameReceived_only {m : Nat} {s x : State} (a0 a1 a2 a3) (h : 0x2002b1 &&& m = 0x2002b1) :
    Only m s ((execFrameReceived a0 a1 a2 a3 x).after x) ↔ Only m s x := Only.iff (by
  simp only [execFrameReceived, Res_next_after]
  split <;> simp) h

/-! ## TblSteps -/

theorem updTable_error {x y : State} {p t o k} (h : updTable x p t o k = .error y) : Only 0x10 x y := by
  unfold updTable at h
  split at h
  · injection h with h; subst h; simp
  · simp only at h
    split at h <;> (split at h <;> first | (injection h with h; subst h; simp; done) | cases h)

/-- Changes only: cnt, fwt. -/
@[simp] theorem hitRefresh_only {m : Nat} {s x : State} (a1 a2 a3 a4) (h : 0x110 &&& m = 0x110) :
    Only m s (hitRefresh x a1 a2 a3 a4) ↔ Only m s x := Only.iff (by simp [hitRefresh]) h

/-- Changes only: cnt, dev, fwt, grn, seq. -/
@[simp] theorem learnWrite_only {m : Nat} {s x : State} (a1 a2 a3 a4 a5 a6 a7) (h : 0x1b1 &&& m = 0x1b1) :
    Only m s (learnWrite x a1 a2 a3 a4 a5 a6 a7) ↔ Only m s x := Only.iff (by simp [learnWrite]) h

/-- Changes only: cnt, dev, fwt, grn, seq. -/
@[simp] theorem lookupBucket_only {m : Nat} {s x : State} (a1 a2 a3 a4 a5 a6) (h : 0x1b1 &&& m = 0x1b1) :
    Only m s (lookupBucket x a1 a2 a3 a4 a5 a6) ↔ Only m s x := Only.iff (by
  simp only [lookupBucket]
  (repeat' split) <;> simp) h

/-- Changes only: cip, cnt, dev, fmg, fns, fwt, grn, haul, mac, out, pci, qm, seq, stg, twn. -/
theorem execFwtLearn_only {m : Nat} {s x : State} (a0 a1) (h : 0x8fbfd &&& m = 0x8fbfd) :
    Only m s ((execFwtLearn a0 a1 x).after x) ↔ Only m s x := Only.iff (by
  simp only [execFwtLearn, Res_next_after]
  refine withStep_only _ _ _ _ (by simp) (by simp) (Only.refl _ _) (fun y => ?_)
  rw [unitGate_only, poisonGate_only]
  refine ⟨fun _ => by simp, fun _ => ⟨fun _ => by simp, fun _ => ?_⟩⟩
  split
  · rename_i hh; simp; exact (Only.iff (updTable_error hh) (by simp)).mpr (by simp)
  · simp) h

/-- Changes only: cip, cnt, dev, fmg, fns, fwt, grn, haul, mac, out, pci, qm, seq, stg, twn. -/
theorem execFwtRefresh_only {m : Nat} {s x : State} (a0 a1) (h : 0x8fbfd &&& m = 0x8fbfd) :
    Only m s ((execFwtRefresh a0 a1 x).after x) ↔ Only m s x := Only.iff (by
  simp only [execFwtRefresh, Res_next_after]
  refine withStep_only _ _ _ _ (by simp) (by simp) (Only.refl _ _) (fun y => ?_)
  rw [unitGate_only, poisonGate_only]
  refine ⟨fun _ => by simp, fun _ => ⟨fun _ => by simp, fun _ => ?_⟩⟩
  split
  · rename_i hh; simp; exact (Only.iff (updTable_error hh) (by simp)).mpr (by simp)
  · split <;> simp) h

/-- Changes only: cip, cnt, dev, fmg, fns, fwt, grn, haul, mac, out, pci, qm, seq, stg, twn. -/
theorem execFwtWriteFlow_only {m : Nat} {s x : State} (a0 a1) (h : 0x8fbfd &&& m = 0x8fbfd) :
    Only m s ((execFwtWriteFlow a0 a1 x).after x) ↔ Only m s x := Only.iff (by
  simp only [execFwtWriteFlow, Res_next_after]
  refine withStep_only _ _ _ _ (by simp) (by simp) (Only.refl _ _) (fun y => ?_)
  rw [unitGate_only, poisonGate_only]
  refine ⟨fun _ => by simp, fun _ => ⟨fun _ => by simp, fun _ => ?_⟩⟩
  split
  · rename_i hh; simp; exact (Only.iff (updTable_error hh) (by simp)).mpr (by simp)
  · simp) h

/-- Changes only: cip, cnt, dev, fmg, fns, fwt, grn, haul, mac, out, pci, qm, seq, stg, twn. -/
@[simp] theorem lookupStep_only {m : Nat} {s x : State} (a1 a2 a3 a4) (h : 0x8fbfd &&& m = 0x8fbfd) :
    Only m s (lookupStep a1 a2 a3 a4 x) ↔ Only m s x := Only.iff (by
  refine withStep_only _ _ _ _ (by simp) (by simp) (Only.refl _ _) (fun y => ?_)
  rw [unitGate_only, poisonGate_only]
  refine ⟨fun _ => by simp, fun _ => ⟨fun _ => by simp, fun _ => ?_⟩⟩
  (repeat' split) <;> simp) h

/-- Changes only: cip, cnt, dev, fmg, fns, fwt, grn, haul, mac, out, pci, qm, seq, stg, twn. -/
theorem execLkpHotLookup_only {m : Nat} {s x : State} (a0 a1) (h : 0x8fbfd &&& m = 0x8fbfd) :
    Only m s ((execLkpHotLookup a0 a1 x).after x) ↔ Only m s x := Only.iff (by simp [execLkpHotLookup]) h

/-- Changes only: cip, cnt, dev, fmg, fns, fwt, grn, haul, mac, out, pci, qm, seq, stg, twn. -/
theorem execLkpRldLookup_only {m : Nat} {s x : State} (a0 a1) (h : 0x8fbfd &&& m = 0x8fbfd) :
    Only m s ((execLkpRldLookup a0 a1 x).after x) ↔ Only m s x := Only.iff (by simp [execLkpRldLookup]) h

/-! ## StgSteps -/

/-- Changes only: cnt, grn, mac, stg. -/
@[simp] theorem dropTurn_only {m : Nat} {s x : State} (a1) (h : 0x2290 &&& m = 0x2290) :
    Only m s (dropTurn x a1) ↔ Only m s x := Only.iff (by
  unfold dropTurn
  split
  · simp
    refine (only_foldl (fun a b => ?_) _).mpr (by simp)
    simp
  · simp) h

/-- Changes only: draws, grn. -/
@[simp] theorem workPkt_only {m : Nat} {s x : State} (a1 a2 a3 a4) (h : 0x200080 &&& m = 0x200080) :
    Only m s (workPkt x a1 a2 a3 a4).2 ↔ Only m s x := Only.iff (by simp [workPkt]) h

/-- Changes only: stg. -/
@[simp] theorem placeWork_only {m : Nat} {s x : State} (a1 a2) (h : 0x2000 &&& m = 0x2000) :
    Only m s (placeWork x a1 a2) ↔ Only m s x := Only.iff (by unfold placeWork; split <;> simp) h

/-- Changes only: seq, stg. -/
theorem execTurnDispatch_only {m : Nat} {s x : State} (a0) (h : 0x2020 &&& m = 0x2020) :
    Only m s ((execTurnDispatch a0 x).after x) ↔ Only m s x := Only.iff (by
  simp only [execTurnDispatch, Res_next_after]
  (repeat' split) <;> simp) h

/-- Changes only: cip, cnt, dev, fmg, fns, fwt, grn, haul, mac, out, pci, qm, seq, stg. -/
@[simp] theorem abortSlots_only {m : Nat} {s x : State} (a1 a2) (h : 0x87bfd &&& m = 0x87bfd) :
    Only m s (abortSlots x a1 a2) ↔ Only m s x := Only.iff (by
  unfold abortSlots
  (repeat' (first | split | (refine (only_foldl (fun _ _ => ?_) _).mpr ?_))) <;> simp) h

/-- Changes only: cnt, dev, grn, seq. -/
@[simp] theorem stgGate_only {m : Nat} {s x f : State} {i : StepIn} {fid : Nat} {mark : Bool} :
    Only m s (stgGate x i fid mark f) ↔ (isFrozen x fid = true → Only m s (doneW x i .refusedState 0x0A false)) ∧
      (¬ isFrozen x fid = true → Only m s (poisonGate x i mark f)) := by unfold stgGate; exact only_ite

/-- Changes only: cip, cnt, dev, fmg, fns, fwt, grn, haul, mac, out, pci, qm, seq, stg, twn. -/
@[simp] theorem connPut_only {m : Nat} {s x : State} {mark f} (a1 a2 a3) (h : 0x8fbfd &&& m = 0x8fbfd) (hx : Only m s x)
    (hf : ∀ i c, Only m s (f i c)) : Only m s (connPut a1 a2 a3 x mark f) := by
  have a : 0xb1 &&& m = 0xb1 := sub_trans rfl h
  have b : 0x20 &&& m = 0x20 := sub_trans rfl h
  refine withStep_only _ _ _ _ (by simp [h, hx]) (by simp [b, hx]) hx (fun y => ?_)
  split
  · exact hx
  · rw [stgGate_only, poisonGate_only]
    refine ⟨fun _ => by simp [a, hx], fun _ => ⟨fun _ => by simp [a, hx], fun _ => ?_⟩⟩
    (repeat' split) <;> first | (simp [a, hx]; done) | exact hf _ _

/-- Changes only: cip, cnt, dev, fmg, fns, fwt, grn, haul, mac, out, pci, qm, seq, stg, twn. -/
theorem execConnGet_only {m : Nat} {s x : State} (a0 a1) (h : 0x8fbfd &&& m = 0x8fbfd) :
    Only m s ((execConnGet a0 a1 x).after x) ↔ Only m s x := Only.iff (by
  simp only [execConnGet, Res_next_after]
  refine withStep_only _ _ _ _ (by simp) (by simp) (Only.refl _ _) (fun y => ?_)
  (repeat' split) <;> simp) h

/-- Changes only: cip, cnt, dev, fmg, fns, fwt, grn, haul, mac, out, pci, qm, seq, stg, twn. -/
theorem execConnPutComplete_only {m : Nat} {s x : State} (a0 a1) (h : 0x8fbfd &&& m = 0x8fbfd) :
    Only m s ((execConnPutComplete a0 a1 x).after x) ↔ Only m s x := Only.iff (by simp [execConnPutComplete]) h

/-- Changes only: cip, cnt, dev, fmg, fns, fwt, grn, haul, mac, out, pci, qm, seq, stg. -/
@[simp] theorem failConn_only {m : Nat} {s x : State} (a1 a2 a3) (h : 0x87bfd &&& m = 0x87bfd) :
    Only m s (failConn x a1 a2 a3) ↔ Only m s x := Only.iff (by simp [failConn]) h

/-- Changes only: cip, cnt, dev, fmg, fns, fwt, grn, haul, mac, out, pci, qm, seq, stg, twn. -/
theorem execConnPutFail_only {m : Nat} {s x : State} (a0 a1) (h : 0x8fbfd &&& m = 0x8fbfd) :
    Only m s ((execConnPutFail a0 a1 x).after x) ↔ Only m s x := Only.iff (by simp [execConnPutFail]) h

/-- Changes only: cip, cnt, dev, fmg, fns, fwt, grn, haul, mac, out, pci, qm, seq, stg, twn. -/
theorem execConnPutRelease_only {m : Nat} {s x : State} (a0 a1) (h : 0x8fbfd &&& m = 0x8fbfd) :
    Only m s ((execConnPutRelease a0 a1 x).after x) ↔ Only m s x := Only.iff (by simp [execConnPutRelease]) h

/-- Changes only: cip, cnt, dev, fmg, fns, fwt, grn, haul, mac, out, pci, qm, seq, stg, twn. -/
theorem execConnPutWrite_only {m : Nat} {s x : State} (a0 a1) (h : 0x8fbfd &&& m = 0x8fbfd) :
    Only m s ((execConnPutWrite a0 a1 x).after x) ↔ Only m s x := Only.iff (by simp [execConnPutWrite]) h

/-- Changes only: cnt, dev, draws, grn, seq, stg. -/
@[simp] theorem timerWork_only {m : Nat} {s x : State} (a1 a2 a3 a4 a5 a6) (h : 0x2020b1 &&& m = 0x2020b1) :
    Only m s (timerWork x a1 a2 a3 a4 a5 a6) ↔ Only m s x := Only.iff (by
  unfold timerWork
  simp only
  split
  · split <;> simp
  · split
    · rename_i hc; replace hc := congrArg Prod.snd hc; dsimp only at hc; subst hc; split <;> simp
    · rename_i hc; replace hc := congrArg Prod.snd hc; dsimp only at hc; subst hc; simp) h

/-- Changes only: cnt, dev, draws, grn, seq, stg. -/
theorem execConnectionTimerExpiry_only {m : Nat} {s x : State} (a0) (h : 0x2020b1 &&& m = 0x2020b1) :
    Only m s ((execConnectionTimerExpiry a0 x).after x) ↔ Only m s x := Only.iff (by
  simp only [execConnectionTimerExpiry, Res_next_after]
  split <;> simp) h

/-- Changes only: cnt, dev, draws, grn, seq. -/
@[simp] theorem ownHandoff_only {m : Nat} {s x : State} (a1 a2) (h : 0x2000b1 &&& m = 0x2000b1) :
    Only m s (ownHandoff x a1 a2) ↔ Only m s x := Only.iff (by simp [ownHandoff]) h

/-- Changes only: cnt, dev, draws, grn, seq, stg. -/
@[simp] theorem handOver_only {m : Nat} {s x : State} (a1 a2 a3 a4 a5 a6) (h : 0x2020b1 &&& m = 0x2020b1) :
    Only m s (handOver x a1 a2 a3 a4 a5 a6) ↔ Only m s x := Only.iff (by simp [handOver]) h

/-- Changes only: cip, cnt, dev, draws, fmg, fns, fwt, grn, haul, mac, out, pci, qm, seq, stg, twn. -/
theorem execHandoffInbound_only {m : Nat} {s x : State} (a0 a1) (h : 0x28fbfd &&& m = 0x28fbfd) :
    Only m s ((execHandoffInbound a0 a1 x).after x) ↔ Only m s x := Only.iff (by simp [execHandoffInbound]) h

/-- Changes only: cip, cnt, dev, draws, fmg, fns, fwt, grn, haul, mac, out, pci, qm, seq, stg, twn. -/
theorem execHandoffSubmission_only {m : Nat} {s x : State} (a0 a1) (h : 0x28fbfd &&& m = 0x28fbfd) :
    Only m s ((execHandoffSubmission a0 a1 x).after x) ↔ Only m s x := Only.iff (by
  simp only [execHandoffSubmission, Res_next_after]
  refine connPut_only _ _ _ (by simp) (Only.refl _ _) (fun y c => ?_)
  (repeat' split) <;> simp) h

/-- Changes only: cnt, dev, draws, grn, seq, stg. -/
theorem execSlotExpiry_only {m : Nat} {s x : State} (a0 a1) (h : 0x2020b1 &&& m = 0x2020b1) :
    Only m s ((execSlotExpiry a0 a1 x).after x) ↔ Only m s x := Only.iff (by
  simp only [execSlotExpiry, Res_next_after]
  split <;> simp) h

/-- Changes only: cnt, dev, draws, grn, seq, stg. -/
theorem execTimerCellRetry_only {m : Nat} {s x : State} (a0) (h : 0x2020b1 &&& m = 0x2020b1) :
    Only m s ((execTimerCellRetry a0 x).after x) ↔ Only m s x := Only.iff (by
  simp only [execTimerCellRetry, Res_next_after]
  (repeat' split) <;> simp) h

/-! ## TblCmds -/

/-- Changes only: fwt. -/
@[simp] theorem putGrant_only {m : Nat} {s x : State} (a1 a2 a3 a4) (h : 0x100 &&& m = 0x100) :
    Only m s (putGrant x a1 a2 a3 a4) ↔ Only m s x := Only.iff (by simp [putGrant]) h

/-- Changes only: fwt. -/
@[simp] theorem dropTable_only {m : Nat} {s x : State} (a1) (h : 0x100 &&& m = 0x100) :
    Only m s (dropTable x a1) ↔ Only m s x := Only.iff (by simp [dropTable]) h

@[simp] theorem withKey_only {m : Nat} {s x : State} {f} (a1 : Nat) (a2) (hx : Only m s x)
    (hf : ∀ a b c, Only m s (f a b c).s) : Only m s (withKey x a1 a2 f).s := by
  unfold withKey
  split
  · exact hx
  · split
    · exact hx
    · exact hf _ _ _

/-- Changes only: cnt, fwt. -/
theorem execAgerVisit_only {m : Nat} {s x : State} (a0) (h : 0x110 &&& m = 0x110) :
    Only m s ((execAgerVisit a0 x).after x) ↔ Only m s x := Only.iff (by
  simp only [execAgerVisit, Res_next_after]
  (repeat' split) <;> simp) h

/-- Changes only: fwt. -/
theorem execHomingMove_only {m : Nat} {s x : State} (a0 a1 a2) (h : 0x100 &&& m = 0x100) :
    Only m s ((execHomingMove a0 a1 a2 x).after x) ↔ Only m s x := Only.iff (by
  simp only [execHomingMove, Res_next_after]
  split <;> simp) h

/-- Changes only: fwt. -/
theorem execHomingOverflowRemove_only {m : Nat} {s x : State} (a0 a1 a2) (h : 0x100 &&& m = 0x100) :
    Only m s ((execHomingOverflowRemove a0 a1 a2 x).after x) ↔ Only m s x := Only.iff (by
  simp only [execHomingOverflowRemove, Res_next_after]
  (repeat' split) <;> simp) h

/-- Changes only: cip, cnt, dev, fmg, fns, fwt, grn, haul, mac, out, pci, qm, seq, stw, twn. -/
@[simp] theorem execCreateTable_only {m : Nat} {s x : State} (a0 a1 a2 a3 a4 a5 a6 a7) (h : 0x8dbff &&& m = 0x8dbff) :
    Only m s ((execCreateTable a0 a1 a2 a3 a4 a5 a6 a7 x).after x) ↔ Only m s x := Only.iff (by
  simp only [execCreateTable, Res_next_after]
  exact runCmd_only _ _ _ _ _ (by simp) (Only.refl _ _) (fun y hy => by simp [hy])) h

/-- Changes only: cip, cnt, dev, fmg, fns, fwt, grn, haul, mac, out, pci, qm, seq, stw, twn. -/
@[simp] theorem execDestroyTable_only {m : Nat} {s x : State} (a0 a1) (h : 0x8dbff &&& m = 0x8dbff) :
    Only m s ((execDestroyTable a0 a1 x).after x) ↔ Only m s x := Only.iff (by
  simp only [execDestroyTable, Res_next_after]
  exact runCmd_only _ _ _ _ _ (by simp) (Only.refl _ _) (fun y hy => by simp [hy])) h

/-- Changes only: cip, cnt, dev, fmg, fns, fwt, grn, haul, mac, out, pci, qm, seq, stw, twn. -/
@[simp] theorem execSetAgeLimit_only {m : Nat} {s x : State} (a0 a1 a2) (h : 0x8dbff &&& m = 0x8dbff) :
    Only m s ((execSetAgeLimit a0 a1 a2 x).after x) ↔ Only m s x := Only.iff (by
  simp only [execSetAgeLimit, Res_next_after]
  refine runCmd_only _ _ _ _ _ (by simp) (Only.refl _ _) (fun y hy => ?_)
  (repeat' split) <;> simp [hy]) h

/-- Changes only: cip, cnt, dev, fmg, fns, fwt, grn, haul, mac, out, pci, qm, seq, stw, twn. -/
@[simp] theorem execSetTableGrant_only {m : Nat} {s x : State} (a0 a1 a2 a3 a4 a5) (h : 0x8dbff &&& m = 0x8dbff) :
    Only m s ((execSetTableGrant a0 a1 a2 a3 a4 a5 x).after x) ↔ Only m s x := Only.iff (by
  simp only [execSetTableGrant, Res_next_after]
  refine runCmd_only _ _ _ _ _ (by simp) (Only.refl _ _) (fun y hy => ?_)
  (repeat' split) <;> simp [hy]) h

/-- Changes only: cip, cnt, dev, fmg, fns, fwt, grn, haul, mac, out, pci, qm, seq, stw, twn. -/
@[simp] theorem execFlush_only {m : Nat} {s x : State} (a0 a1 a2 a3) (h : 0x8dbff &&& m = 0x8dbff) :
    Only m s ((execFlush a0 a1 a2 a3 x).after x) ↔ Only m s x := Only.iff (by
  simp only [execFlush, Res_next_after]
  refine runCmd_only _ _ _ _ _ (by simp) (Only.refl _ _) (fun y hy => ?_)
  (repeat' split) <;> simp [hy]) h

/-- Changes only: cip, cnt, dev, fmg, fns, fwt, grn, haul, mac, out, pci, qm, seq, stw, twn. -/
theorem execReadEntry_only {m : Nat} {s x : State} (a0 a1 a2 a3 a4) (h : 0x8dbff &&& m = 0x8dbff) :
    Only m s ((execReadEntry a0 a1 a2 a3 a4 x).after x) ↔ Only m s x := Only.iff (by
  simp only [execReadEntry, Res_next_after]
  exact runCmd_only _ _ _ _ _ (by simp) (Only.refl _ _) (fun y hy => withKey_only _ _ hy (fun a b c => by simp [hy]))) h

/-- Changes only: cip, cnt, dev, fmg, fns, fwt, grn, haul, mac, out, pci, qm, seq, stw, twn. -/
@[simp] theorem execInsertOrReplaceEntry_only {m : Nat} {s x : State} (a0 a1 a2 a3 a4 a5) (h : 0x8dbff &&& m = 0x8dbff) :
    Only m s ((execInsertOrReplaceEntry a0 a1 a2 a3 a4 a5 x).after x) ↔ Only m s x := Only.iff (by
  simp only [execInsertOrReplaceEntry, Res_next_after]
  refine runCmd_only _ _ _ _ _ (by simp) (Only.refl _ _) (fun y hy => withKey_only _ _ (by simp [hy]) (fun a b c => ?_))
  (repeat' split) <;> simp [hy]) h

/-- Changes only: cip, cnt, dev, fmg, fns, fwt, grn, haul, mac, out, pci, qm, seq, stw, twn. -/
@[simp] theorem execDeleteEntry_only {m : Nat} {s x : State} (a0 a1 a2 a3) (h : 0x8dbff &&& m = 0x8dbff) :
    Only m s ((execDeleteEntry a0 a1 a2 a3 x).after x) ↔ Only m s x := Only.iff (by
  simp only [execDeleteEntry, Res_next_after]
  refine runCmd_only _ _ _ _ _ (by simp) (Only.refl _ _) (fun y hy => withKey_only _ _ (by simp [hy]) (fun a b c => ?_))
  (repeat' split) <;> simp [hy]) h

/-! ## StgCmds -/

/-- Changes only: stg. -/
@[simp] theorem putConnMax_only {m : Nat} {s x : State} (a1 a2) (h : 0x2000 &&& m = 0x2000) :
    Only m s (putConnMax x a1 a2) ↔ Only m s x := Only.iff (by simp [putConnMax]) h

theorem steerRefusal_s {x : State} {q : ConnParams} {o : CmdOut} (h : steerRefusal x q = some o) : o.s = x := by
  unfold steerRefusal at h
  split at h
  · injection h with h; subst h; rfl
  · split at h
    · injection h with h; subst h; rfl
    · split at h
      · injection h with h; subst h; rfl
      · split at h
        · injection h with h; subst h; rfl
        · cases h

/-- Changes only: fwt. -/
@[simp] theorem insertSteer_only {m : Nat} {s x : State} (a1 a2 a3) (h : 0x100 &&& m = 0x100) :
    Only m s (insertSteer x a1 a2 a3) ↔ Only m s x := Only.iff (by unfold insertSteer; split <;> simp) h

/-- Changes only: haul, seq. -/
@[simp] theorem endTurnLists_only {m : Nat} {s x : State} (a1) (h : 0x1020 &&& m = 0x1020) :
    Only m s (endTurnLists x a1) ↔ Only m s x := Only.iff (by simp [endTurnLists]) h

/-- Changes only: seq. -/
@[simp] theorem forgetTurn_only {m : Nat} {s x : State} (a1) (h : 0x20 &&& m = 0x20) :
    Only m s (forgetTurn x a1) ↔ Only m s x := Only.iff (by simp [forgetTurn]) h

/-- Changes only: fwt. -/
@[simp] theorem deleteSteer_only {m : Nat} {s x : State} (a1 a2) (h : 0x100 &&& m = 0x100) :
    Only m s (deleteSteer x a1 a2) ↔ Only m s x := Only.iff (by unfold deleteSteer; split <;> simp) h

/-- Changes only: cip, cnt, dev, fmg, fns, fwt, grn, haul, mac, out, pci, qm, seq, stg, stw, twn. -/
@[simp] theorem createConn_only {m : Nat} {s x : State} (a1 a2 a3) (h : 0x8fbff &&& m = 0x8fbff) (hx : Only m s x) :
    Only m s (createConn a1 a2 a3 x) := by
  have a : 0x2000 &&& m = 0x2000 := sub_trans rfl h
  have b : 0x100 &&& m = 0x100 := sub_trans rfl h
  refine runCmd_only _ _ _ _ _ (sub_trans rfl h) hx (fun y hy => ?_)
  split
  · simp [hy]
  · split
    · simp [hy]
    · split
      · rename_i hc; rw [steerRefusal_s hc]; exact hy
      · simp [a, b, hy]

/-- Changes only: cip, cnt, dev, fmg, fns, fwt, grn, haul, mac, out, pci, qm, seq, stg. -/
@[simp] theorem closeConn_only {m : Nat} {s x : State} (a1) (h : 0x87bfd &&& m = 0x87bfd) :
    Only m s (closeConn x a1) ↔ Only m s x := Only.iff (by unfold closeConn; split <;> simp) h

/-- Changes only: cip, cnt, dev, fmg, fns, fwt, grn, haul, mac, out, pci, qm, seq, stg, stw, twn. -/
@[simp] theorem execCloseConnection_only {m : Nat} {s x : State} (a0 a1 a2 a3) (h : 0x8fbff &&& m = 0x8fbff) :
    Only m s ((execCloseConnection a0 a1 a2 a3 x).after x) ↔ Only m s x := Only.iff (by
  simp only [execCloseConnection, Res_next_after]
  refine runCmd_only _ _ _ _ _ (by simp) (Only.refl _ _) (fun y hy => ?_)
  (repeat' split) <;> simp [hy]) h

/-- Changes only: cip, cnt, dev, fmg, fns, fwt, grn, haul, mac, out, pci, qm, seq, stg, stw, twn. -/
@[simp] theorem execConfigureStorage_only {m : Nat} {s x : State} (a0 a1 a2 a3) (h : 0x8fbff &&& m = 0x8fbff) :
    Only m s ((execConfigureStorage a0 a1 a2 a3 x).after x) ↔ Only m s x := Only.iff (by
  simp only [execConfigureStorage, Res_next_after]
  refine runCmd_only _ _ _ _ _ (by simp) (Only.refl _ _) (fun y hy => ?_)
  (repeat' split) <;> simp [hy]) h

/-- Changes only: cip, cnt, dev, fmg, fns, fwt, grn, haul, mac, out, pci, qm, seq, stg, stw, twn. -/
@[simp] theorem execSetStorageGrant_only {m : Nat} {s x : State} (a0 a1 a2) (h : 0x8fbff &&& m = 0x8fbff) :
    Only m s ((execSetStorageGrant a0 a1 a2 x).after x) ↔ Only m s x := Only.iff (by
  simp only [execSetStorageGrant, Res_next_after]
  exact runCmd_only _ _ _ _ _ (by simp) (Only.refl _ _) (fun y hy => by simp [hy])) h

/-- Changes only: cip, cnt, dev, fmg, fns, fwt, grn, haul, mac, out, pci, qm, seq, stg, stw, twn. -/
theorem execCloseDrainEnd_only {m : Nat} {s x : State} (a0) (h : 0x8fbff &&& m = 0x8fbff) :
    Only m s ((execCloseDrainEnd a0 x).after x) ↔ Only m s x := Only.iff (by
  simp only [execCloseDrainEnd, Res_next_after]
  (repeat' split) <;> simp) h

/-- Changes only: cip, cnt, dev, fmg, fns, fwt, grn, haul, mac, out, pci, qm, seq, stg, stw, twn. -/
theorem execCreateConnection_only {m : Nat} {s x : State} (a0 a1) (h : 0x8fbff &&& m = 0x8fbff) :
    Only m s ((execCreateConnection a0 a1 x).after x) ↔ Only m s x := Only.iff (by simp [execCreateConnection]) h

/-- Changes only: cip, cnt, dev, fmg, fns, fwt, grn, haul, mac, out, pci, qm, seq, stw, twn. -/
theorem execReadConnection_only {m : Nat} {s x : State} (a0 a1) (h : 0x8dbff &&& m = 0x8dbff) :
    Only m s ((execReadConnection a0 a1 x).after x) ↔ Only m s x := Only.iff (by
  simp only [execReadConnection, Res_next_after]
  refine runCmd_only _ _ _ _ _ (by simp) (Only.refl _ _) (fun y hy => ?_)
  (repeat' split) <;> simp [hy]) h

end Sys2Proof.Machine
end

