-- ==== Sys2Proof/Laws/FrameFunctions.lean ====
section
/-! SUPPORT. Frames of the operations: functions, the endpoint and the twin link. -/

namespace Sys2Proof.Machine

/-! ## FnBase -/

/-- Changes only: pci, seq. -/
@[simp] theorem abandonReads_only {m : Nat} {s x : State} (a1) (h : 0x4020 &&& m = 0x4020) :
    Only m s (abandonReads x a1) ↔ Only m s x := Only.iff (by
  unfold abandonReads
  (repeat' (first | split | (refine (only_foldl (fun _ _ => ?_) _).mpr ?_))) <;> simp) h

/-- Changes only: haul, seq. -/
@[simp] theorem abortRuns_only {m : Nat} {s x : State} (a1) (h : 0x1020 &&& m = 0x1020) :
    Only m s (abortRuns x a1) ↔ Only m s x := Only.iff (by simp [abortRuns]) h

/-- Changes only: qm. -/
@[simp] theorem dropEntries_only {m : Nat} {s x : State} (a1) (h : 0x40 &&& m = 0x40) :
    Only m s (dropEntries x a1) ↔ Only m s x := Only.iff (by simp [dropEntries]) h

/-- Changes only: cip, fwt. -/
@[simp] theorem dropClaims_only {m : Nat} {s x : State} (a1) (h : 0x900 &&& m = 0x900) :
    Only m s (dropClaims x a1) ↔ Only m s x := Only.iff (by simp [dropClaims]) h

/-- Changes only: qm. -/
@[simp] theorem moveRings_only {m : Nat} {s x : State} (a1 a2) (h : 0x40 &&& m = 0x40) :
    Only m s (moveRings x a1 a2) ↔ Only m s x := Only.iff (by simp [moveRings]) h

/-- Changes only: qm. -/
@[simp] theorem destroyRings_only {m : Nat} {s x : State} (a1) (h : 0x40 &&& m = 0x40) :
    Only m s (destroyRings x a1) ↔ Only m s x := Only.iff (by simp [destroyRings]) h

/-- Changes only: fwt. -/
@[simp] theorem dropEntriesOf_only {m : Nat} {s x : State} (a1 a2) (h : 0x100 &&& m = 0x100) :
    Only m s (dropEntriesOf x a1 a2) ↔ Only m s x := Only.iff (by simp [dropEntriesOf]) h

/-- Changes only: cip, fwt, grn, stg, sw. -/
@[simp] theorem dropGrants_only {m : Nat} {s x : State} (a1) (h : 0x2d80 &&& m = 0x2d80) :
    Only m s (dropGrants x a1) ↔ Only m s x := Only.iff (by simp [dropGrants]) h

/-- Changes only: qm. -/
@[simp] theorem resetRings_only {m : Nat} {s x : State} (a1) (h : 0x40 &&& m = 0x40) :
    Only m s (resetRings x a1) ↔ Only m s x := Only.iff (by simp [resetRings]) h

/-- Changes only: sw. -/
@[simp] theorem fillPolicers_only {m : Nat} {s x : State} (a1) (h : 0x400 &&& m = 0x400) :
    Only m s (fillPolicers x a1) ↔ Only m s x := Only.iff (by simp [fillPolicers]) h

/-- Changes only: cip. -/
@[simp] theorem wipeLanesOf_only {m : Nat} {s x : State} (a1) (h : 0x800 &&& m = 0x800) :
    Only m s (wipeLanesOf x a1) ↔ Only m s x := Only.iff (by simp [wipeLanesOf]) h

/-- Changes only: haul. -/
@[simp] theorem resetChans_only {m : Nat} {s x : State} (a1) (h : 0x1000 &&& m = 0x1000) :
    Only m s (resetChans x a1) ↔ Only m s x := Only.iff (by simp [resetChans]) h

/-- Changes only: haul. -/
@[simp] theorem withdrawChans_only {m : Nat} {s x : State} (a1) (h : 0x1000 &&& m = 0x1000) :
    Only m s (withdrawChans x a1) ↔ Only m s x := Only.iff (by simp [withdrawChans]) h

/-- Changes only: fns. -/
@[simp] theorem watchQuiesces_only {m : Nat} {s x : State} (h : 0x4 &&& m = 0x4) :
    Only m s (watchQuiesces x) ↔ Only m s x := Only.iff (by simp [watchQuiesces]) h

/-- Changes only: cip, cnt, dev, fmg, fns, fwt, grn, haul, mac, out, pci, qm, seq, stg. -/
@[simp] theorem abortConns_only {m : Nat} {s x : State} (a1) (h : 0x87bfd &&& m = 0x87bfd) :
    Only m s (abortConns x a1) ↔ Only m s x := Only.iff (by simp [abortConns]) h

/-- Changes only: cip, cnt, dev, fmg, fns, fwt, grn, haul, mac, out, pci, qm, seq, stg, twn. -/
@[simp] theorem abortPackets_only {m : Nat} {s x : State} (a1) (h : 0x8fbfd &&& m = 0x8fbfd) :
    Only m s (abortPackets x a1) ↔ Only m s x := Only.iff (by
  unfold abortPackets
  (repeat' (first | split | (refine (only_foldl (fun _ _ => ?_) _).mpr ?_))) <;> simp) h

/-- Changes only: cip, cnt, dev, grn, seq. -/
@[simp] theorem abortRecords_only {m : Nat} {s x : State} (a1) (h : 0x8b1 &&& m = 0x8b1) :
    Only m s (abortRecords x a1) ↔ Only m s x := Only.iff (by simp [abortRecords]) h

/-- Changes only: cnt, dev, grn, mac, seq. -/
@[simp] theorem abortRequests_only {m : Nat} {s x : State} (a1) (h : 0x2b1 &&& m = 0x2b1) :
    Only m s (abortRequests x a1) ↔ Only m s x := Only.iff (by
  unfold abortRequests
  (repeat' (first | split | (refine (only_foldl (fun _ _ => ?_) _).mpr ?_))) <;> simp) h

/-- Changes only: cip, cnt, dev, fmg, fns, fwt, grn, haul, mac, out, pci, qm, seq, stg, twn. -/
@[simp] theorem endWork_only {m : Nat} {s x : State} (a1) (h : 0x8fbfd &&& m = 0x8fbfd) :
    Only m s (endWork x a1) ↔ Only m s x := Only.iff (by simp [endWork]) h

/-- Changes only: cip, cnt, dev, fmg, fns, fwt, grn, haul, mac, out, pci, qm, seq, stg, twn. -/
@[simp] theorem abortWork_only {m : Nat} {s x : State} (a1) (h : 0x8fbfd &&& m = 0x8fbfd) :
    Only m s (abortWork x a1) ↔ Only m s x := Only.iff (by simp [abortWork]) h

/-- Changes only: cip, cnt, dev, fmg, fns, fwt, grn, haul, mac, out, pci, qm, seq, stw, twn. -/
@[simp] theorem replyReset_only {m : Nat} {s x : State} (a1) (h : 0x8dbff &&& m = 0x8dbff) :
    Only m s (replyReset x a1) ↔ Only m s x := Only.iff (by unfold replyReset; split <;> simp) h

/-- Changes only: cip, cnt, dev, fmg, fns, fwt, grn, haul, mac, out, pci, qm, seq, stw, twn. -/
@[simp] theorem finishQuiesce_only {m : Nat} {s x : State} (a1) (h : 0x8dbff &&& m = 0x8dbff) :
    Only m s (finishQuiesce x a1) ↔ Only m s x := Only.iff (by simp only [finishQuiesce]; (repeat' split) <;> simp) h

/-- Changes only: cip, cnt, dev, fmg, fns, fwt, grn, haul, mac, out, pci, qm, seq, stg, stw, twn. -/
@[simp] theorem enterReset_only {m : Nat} {s x : State} (a1 a2 a3) (h : 0x8fbff &&& m = 0x8fbff) :
    Only m s (enterReset x a1 a2 a3) ↔ Only m s x := Only.iff (by simp [enterReset]) h

/-- Changes only: cip, cnt, dev, fmg, fns, fwt, grn, haul, mac, out, pci, qm, seq, stg, stw, twn. -/
@[simp] theorem forceReset_only {m : Nat} {s x : State} (a1) (h : 0x8fbff &&& m = 0x8fbff) :
    Only m s (forceReset x a1) ↔ Only m s x := Only.iff (by simp [forceReset]) h

/-- Changes only: cip, cnt, dev, fmg, fns, fwt, grn, haul, mac, out, pci, qm, seq, stg, stw, twn. -/
@[simp] theorem resetLostVfs_only {m : Nat} {s x : State} (o) (h : 0x8fbff &&& m = 0x8fbff) :
    Only m s (resetLostVfs o x) ↔ Only m s x := Only.iff (by unfold resetLostVfs; simp) h

/-- Changes only: cip, cnt, dev, fmg, fns, fwt, grn, haul, mac, out, pci, qm, seq, stg. -/
@[simp] theorem closeConnsOf_only {m : Nat} {s x : State} (a1) (h : 0x87bfd &&& m = 0x87bfd) :
    Only m s (closeConnsOf x a1) ↔ Only m s x := Only.iff (by simp [closeConnsOf]) h

/-- Changes only: cip, cnt, dev, fmg, fns, fwt, grn, haul, mac, out, pci, qm, seq, stg, sw. -/
@[simp] theorem resetFn_only {m : Nat} {s x : State} (a1) (h : 0x87ffd &&& m = 0x87ffd) :
    Only m s (resetFn x a1) ↔ Only m s x := Only.iff (by simp [resetFn]) h

/-- Changes only: cip, cnt, dev, fmg, fns, fwt, grn, haul, mac, out, pci, qm, seq, stg, sw. -/
@[simp] theorem endRemove_only {m : Nat} {s x : State} (a1) (h : 0x87ffd &&& m = 0x87ffd) :
    Only m s (endRemove x a1) ↔ Only m s x := Only.iff (by simp [endRemove]) h

/-- Changes only: cip, cnt, dev, fmg, fns, fwt, grn, haul, mac, out, pci, qm, seq, stg, sw. -/
@[simp] theorem endReset_only {m : Nat} {s x : State} (a1) (h : 0x87ffd &&& m = 0x87ffd) :
    Only m s (endReset x a1) ↔ Only m s x := Only.iff (by simp [endReset]) h

/-! ## PciRows -/

/-- Changes only: out, pci. -/
@[simp] theorem execBusMasterEnableSet_only {m : Nat} {s x : State} (a0) (h : 0x84000 &&& m = 0x84000) :
    Only m s ((execBusMasterEnableSet a0 x).after x) ↔ Only m s x := Only.iff (by simp [execBusMasterEnableSet]) h

/-- Changes only: grn, pci, seq. -/
@[simp] theorem haltReads_only {m : Nat} {s x : State} (a1) (h : 0x40a0 &&& m = 0x40a0) :
    Only m s (haltReads x a1) ↔ Only m s x := Only.iff (by simp [haltReads]) h

/-- Changes only: out, pci. -/
@[simp] theorem intaSync_only {m : Nat} {s x : State} (h : 0x84000 &&& m = 0x84000) :
    Only m s (intaSync x) ↔ Only m s x := Only.iff (by simp [intaSync]) h

/-- Changes only: out, pci. -/
@[simp] theorem execInterruptDisableWrite_only {m : Nat} {s x : State} (a0) (h : 0x84000 &&& m = 0x84000) :
    Only m s ((execInterruptDisableWrite a0 x).after x) ↔ Only m s x := Only.iff (by
  simp [execInterruptDisableWrite]) h

/-- Changes only: mac. -/
@[simp] theorem unparkPorts_only {m : Nat} {s x : State} (h : 0x200 &&& m = 0x200) :
    Only m s (unparkPorts x) ↔ Only m s x := Only.iff (by
  unfold unparkPorts
  (repeat' (first | split | (refine (only_foldl (fun _ _ => ?_) _).mpr ?_))) <;> simp) h

/-- Changes only: alm, mac, store. -/
@[simp] theorem leaveD3_only {m : Nat} {s x : State} (h : 0x30200 &&& m = 0x30200) :
    Only m s (leaveD3 x) ↔ Only m s x := Only.iff (by simp [leaveD3]) h

/-- Changes only: cnt, grn, mac. -/
@[simp] theorem parkPorts_only {m : Nat} {s x : State} (h : 0x290 &&& m = 0x290) :
    Only m s (parkPorts x) ↔ Only m s x := Only.iff (by simp [parkPorts]) h

/-- Changes only: alm. -/
@[simp] theorem stopRld_only {m : Nat} {s x : State} (h : 0x10000 &&& m = 0x10000) :
    Only m s (stopRld x) ↔ Only m s x := Only.iff (by simp [stopRld]) h

/-- Changes only: alm, cnt, grn, mac. -/
@[simp] theorem enterD3_only {m : Nat} {s x : State} (h : 0x10290 &&& m = 0x10290) :
    Only m s (enterD3 x) ↔ Only m s x := Only.iff (by simp [enterD3]) h

/-- Changes only: out, pci. -/
@[simp] theorem wakeNow_only {m : Nat} {s x : State} (a1) (h : 0x84000 &&& m = 0x84000) :
    Only m s (wakeNow x a1) ↔ Only m s x := Only.iff (by simp [wakeNow]) h

/-- Changes only: fns. -/
@[simp] theorem clearMbx_only {m : Nat} {s x : State} (a1) (h : 0x4 &&& m = 0x4) :
    Only m s (clearMbx x a1) ↔ Only m s x := Only.iff (by simp [clearMbx]) h

/-- Changes only: stw. -/
@[simp] theorem resetAdmin_only {m : Nat} {s x : State} (h : 0x2 &&& m = 0x2) :
    Only m s (resetAdmin x) ↔ Only m s x := Only.iff (by simp [resetAdmin]) h

/-- Changes only: pci. -/
@[simp] theorem resetPf0Config_only {m : Nat} {s x : State} (h : 0x4000 &&& m = 0x4000) :
    Only m s (resetPf0Config x) ↔ Only m s x := Only.iff (by simp [resetPf0Config]) h

/-- Changes only: cnt, dev, draws, grn, out, pci, seq. -/
@[simp] theorem timeoutRead_only {m : Nat} {s x : State} (a1 a2 a3) (h : 0x2840b1 &&& m = 0x2840b1) :
    Only m s (timeoutRead x a1 a2 a3) ↔ Only m s x := Only.iff (by simp [timeoutRead]) h

/-- Changes only: cnt, dev, draws, grn, out, pci, seq. -/
theorem execCompletionTimeout_only {m : Nat} {s x : State} (a0 a1) (h : 0x2840b1 &&& m = 0x2840b1) :
    Only m s ((execCompletionTimeout a0 a1 x).after x) ↔ Only m s x := Only.iff (by
  simp only [execCompletionTimeout, Res_next_after]
  split <;> simp) h

/-- Changes only: out, pci. -/
theorem execDlUp_only {m : Nat} {s x : State} (a0 a1 a2 a3) (h : 0x84000 &&& m = 0x84000) :
    Only m s ((execDlUp a0 a1 a2 a3 x).after x) ↔ Only m s x := Only.iff (by simp [execDlUp]) h

/-- Changes only: pci. -/
@[simp] theorem hotLink_only {m : Nat} {s x : State} (h : 0x4000 &&& m = 0x4000) :
    Only m s (hotLink x) ↔ Only m s x := Only.iff (by simp [hotLink]) h

/-- Changes only: out, pci. -/
theorem execIntaUpdate_only {m : Nat} {s x : State} (h : 0x84000 &&& m = 0x84000) :
    Only m s ((execIntaUpdate x).after x) ↔ Only m s x := Only.iff (by simp [execIntaUpdate]) h

/-- Changes only: out, pci. -/
theorem execMsixUnmask_only {m : Nat} {s x : State} (a0 a1) (h : 0x84000 &&& m = 0x84000) :
    Only m s ((execMsixUnmask a0 a1 x).after x) ↔ Only m s x := Only.iff (by simp [execMsixUnmask]) h

/-- Changes only: out, pci. -/
theorem execPmeTurnOff_only {m : Nat} {s x : State} (h : 0x84000 &&& m = 0x84000) :
    Only m s ((execPmeTurnOff x).after x) ↔ Only m s x := Only.iff (by simp [execPmeTurnOff]) h

/-- Changes only: cnt, pci. -/
@[simp] theorem lateCpl_only {m : Nat} {s x : State} (a1 a2 a3) (h : 0x4010 &&& m = 0x4010) :
    Only m s (lateCpl x a1 a2 a3) ↔ Only m s x := Only.iff (by simp [lateCpl]) h

/-- Changes only: cnt, pci. -/
@[simp] theorem strayCpl_only {m : Nat} {s x : State} (a1 a2) (h : 0x4010 &&& m = 0x4010) :
    Only m s (strayCpl x a1 a2) ↔ Only m s x := Only.iff (by unfold strayCpl; split <;> simp) h

/-- Changes only: cnt, draws, grn, out, pci, seq. -/
@[simp] theorem takeCpl_only {m : Nat} {s x : State} (a1 a2 a3 a4 a5 a6) (h : 0x2840b0 &&& m = 0x2840b0) :
    Only m s (takeCpl x a1 a2 a3 a4 a5 a6) ↔ Only m s x := Only.iff (by simp [takeCpl]) h

/-- Changes only: cnt, dev, draws, grn, out, pci, seq. -/
theorem execReadCompletion_only {m : Nat} {s x : State} (a0 a1 a2 a3 a4) (h : 0x2840b1 &&& m = 0x2840b1) :
    Only m s ((execReadCompletion a0 a1 a2 a3 a4 x).after x) ↔ Only m s x := Only.iff (by
  simp only [execReadCompletion, Res_next_after]
  split <;> simp) h

/-- Changes only: draws, out, pci. -/
theorem execTagQuarantineEnd_only {m : Nat} {s x : State} (a0 a1) (h : 0x284000 &&& m = 0x284000) :
    Only m s ((execTagQuarantineEnd a0 a1 x).after x) ↔ Only m s x := Only.iff (by
  simp only [execTagQuarantineEnd, Res_next_after]
  split <;> simp) h

/-- Changes only: out, pci. -/
theorem execWakeEvent_only {m : Nat} {s x : State} (a0) (h : 0x84000 &&& m = 0x84000) :
    Only m s ((execWakeEvent a0 x).after x) ↔ Only m s x := Only.iff (by simp [execWakeEvent]) h

/-- Changes only: cip, cnt, dev, fmg, fns, fwt, grn, haul, mac, out, pci, qm, seq, stw, twn. -/
@[simp] theorem absorbReset_only {m : Nat} {s x : State} (a1) (h : 0x8dbff &&& m = 0x8dbff) :
    Only m s (absorbReset x a1) ↔ Only m s x := Only.iff (by simp [absorbReset]) h

/-- Changes only: cnt, dev, draws, grn, mac, seq. -/
@[simp] theorem stopScrubs_only {m : Nat} {s x : State} (a1) (h : 0x2002b1 &&& m = 0x2002b1) :
    Only m s (stopScrubs x a1) ↔ Only m s x := Only.iff (by
  unfold stopScrubs
  refine (only_foldl (fun a b => ?_) _).mpr (by simp)
  split
  · split <;> simp
  · simp) h

/-- Changes only: cnt, dev, draws, grn, haul, mac, pci, qm, seq. -/
@[simp] theorem haltFn_only {m : Nat} {s x : State} (a1) (h : 0x2052f1 &&& m = 0x2052f1) :
    Only m s (haltFn x a1) ↔ Only m s x := Only.iff (by simp [haltFn]) h

/-- Changes only: cnt, dev, draws, grn, haul, mac, pci, qm, seq. -/
@[simp] theorem execBusMasterEnableClear_only {m : Nat} {s x : State} (a0) (h : 0x2052f1 &&& m = 0x2052f1) :
    Only m s ((execBusMasterEnableClear a0 x).after x) ↔ Only m s x := Only.iff (by simp [execBusMasterEnableClear]) h

/-- Changes only: cip, cnt, dev, fmg, fns, fwt, grn, haul, mac, out, pci, qm, seq, stg, twn. -/
@[simp] theorem startFlr_only {m : Nat} {s x : State} (a1) (h : 0x8fbfd &&& m = 0x8fbfd) :
    Only m s (startFlr x a1) ↔ Only m s x := Only.iff (by simp [startFlr]) h

/-- Changes only: cip, cnt, dev, fmg, fns, fwt, grn, haul, mac, out, pci, qm, seq, stg, twn. -/
@[simp] theorem execFunctionLevelReset_only {m : Nat} {s x : State} (a0) (h : 0x8fbfd &&& m = 0x8fbfd) :
    Only m s ((execFunctionLevelReset a0 x).after x) ↔ Only m s x := Only.iff (by simp [execFunctionLevelReset]) h

/-- Changes only: cip, cnt, dev, fmg, fns, fwt, grn, haul, mac, out, pci, qm, seq, stg, stw, twn. -/
@[simp] theorem loseVfs_only {m : Nat} {s x : State} (o) (h : 0x8fbff &&& m = 0x8fbff) :
    Only m s (loseVfs o x) ↔ Only m s x := Only.iff (by unfold loseVfs; simp) h

/-- Changes only: cip, cnt, dev, fmg, fns, fwt, grn, haul, mac, out, pci, qm, seq, stg, stw, twn. -/
@[simp] theorem execSriovVfEnableSet_only {m : Nat} {s x : State} (a0) (h : 0x8fbff &&& m = 0x8fbff) :
    Only m s ((execSriovVfEnableSet a0 x).after x) ↔ Only m s x := Only.iff (by simp [execSriovVfEnableSet]) h

/-- Changes only: cip, cnt, dev, fmg, fns, fwt, grn, haul, mac, out, pci, qm, seq, stg, stw, twn. -/
@[simp] theorem execSriovVfDisable_only {m : Nat} {s x : State} (a0 a1) (h : 0x8fbff &&& m = 0x8fbff) :
    Only m s ((execSriovVfDisable a0 a1 x).after x) ↔ Only m s x := Only.iff (by simp [execSriovVfDisable]) h

/-- Changes only: alm, cip, cnt, dev, fmg, fns, fwt, grn, haul, mac, out, pci, qm, seq, stg, store, stw, twn. -/
@[simp] theorem resetConfig_only {m : Nat} {s x : State} (a1 a2) (h : 0xbfbff &&& m = 0xbfbff) :
    Only m s (resetConfig x a1 a2) ↔ Only m s x := Only.iff (by simp [resetConfig]) h

/-- Changes only: alm, cip, cnt, dev, fmg, fns, fwt, grn, haul, mac, out, pci, qm, seq, stg, store, stw, sw, twn. -/
@[simp] theorem endFlr_only {m : Nat} {s x : State} (a1) (h : 0xbffff &&& m = 0xbffff) :
    Only m s (endFlr x a1) ↔ Only m s x := Only.iff (by simp [endFlr]) h

/-- Changes only: alm, cip, cnt, dev, fmg, fns, fwt, grn, haul, mac, out, pci, qm, seq, stg, store, stw, twn. -/
@[simp] theorem hotClear_only {m : Nat} {s x : State} (h : 0xbfbff &&& m = 0xbfbff) :
    Only m s (hotClear x) ↔ Only m s x := Only.iff (by simp [hotClear]) h

/-- Changes only: alm, cip, cnt, dev, fmg, fns, fwt, grn, haul, mac, out, pci, qm, seq, stg, store, stw, twn. -/
@[simp] theorem resumeResets_only {m : Nat} {s x : State} (h : 0xbfbff &&& m = 0xbfbff) :
    Only m s (resumeResets x) ↔ Only m s x := Only.iff (by simp [resumeResets]) h

/-- Changes only: alm, cip, cnt, dev, fmg, fns, fwt, grn, haul, mac, out, pci, qm, seq, stg, store, stw, sw, twn. -/
theorem execFlrComplete_only {m : Nat} {s x : State} (a0) (h : 0xbffff &&& m = 0xbffff) :
    Only m s ((execFlrComplete a0 x).after x) ↔ Only m s x := Only.iff (by simp [execFlrComplete]) h

/-- Changes only: alm, cip, cnt, dev, fmg, fns, fwt, grn, haul, mac, out, pci, qm, seq, stg, store, stw, twn. -/
@[simp] theorem hotReset_only {m : Nat} {s x : State} (h : 0xbfbff &&& m = 0xbfbff) :
    Only m s (hotReset x) ↔ Only m s x := Only.iff (by simp [hotReset]) h

/-! ## GrnCmds -/

/-- Changes only: grn. -/
@[simp] theorem setShare_only {m : Nat} {s x : State} (a1 a2 a3) (h : 0x80 &&& m = 0x80) :
    Only m s (setShare x a1 a2 a3) ↔ Only m s x := Only.iff (by simp [setShare]) h

/-- Changes only: grn. -/
@[simp] theorem dropPool_only {m : Nat} {s x : State} (a1) (h : 0x80 &&& m = 0x80) :
    Only m s (dropPool x a1) ↔ Only m s x := Only.iff (by simp [dropPool]) h

/-- Changes only: grn. -/
@[simp] theorem sizePools_only {m : Nat} {s x : State} (a1 a2 a3) (h : 0x80 &&& m = 0x80) :
    Only m s (sizePools x a1 a2 a3) ↔ Only m s x := Only.iff (by simp [sizePools]) h

/-- Changes only: cip, cnt, dev, fmg, fns, fwt, grn, haul, mac, out, pci, qm, seq, stw, twn. -/
@[simp] theorem execRegisterPool_only {m : Nat} {s x : State} (a0 a1 a2 a3 a4 a5 a6 a7) (h : 0x8dbff &&& m = 0x8dbff) :
    Only m s ((execRegisterPool a0 a1 a2 a3 a4 a5 a6 a7 x).after x) ↔ Only m s x := Only.iff (by
  simp only [execRegisterPool, Res_next_after]
  exact runCmd_only _ _ _ _ _ (by simp) (Only.refl _ _) (fun y hy => by simp [hy])) h

/-- Changes only: cip, cnt, dev, fmg, fns, fwt, grn, haul, mac, out, pci, qm, seq, stw, twn. -/
@[simp] theorem execUnregisterPool_only {m : Nat} {s x : State} (a0 a1) (h : 0x8dbff &&& m = 0x8dbff) :
    Only m s ((execUnregisterPool a0 a1 x).after x) ↔ Only m s x := Only.iff (by
  simp only [execUnregisterPool, Res_next_after]
  exact runCmd_only _ _ _ _ _ (by simp) (Only.refl _ _) (fun y hy => by simp [hy])) h

/-- Changes only: cip, cnt, dev, fmg, fns, fwt, grn, haul, mac, out, pci, qm, seq, stw, twn. -/
@[simp] theorem execSetShare_only {m : Nat} {s x : State} (a0 a1 a2 a3 a4 a5) (h : 0x8dbff &&& m = 0x8dbff) :
    Only m s ((execSetShare a0 a1 a2 a3 a4 a5 x).after x) ↔ Only m s x := Only.iff (by
  simp only [execSetShare, Res_next_after]
  exact runCmd_only _ _ _ _ _ (by simp) (Only.refl _ _) (fun y hy => by simp [hy])) h

/-- Changes only: cip, cnt, dev, fmg, fns, fwt, grn, haul, mac, out, pci, qm, seq, stw, twn. -/
@[simp] theorem execSizeOnchipPools_only {m : Nat} {s x : State} (a0 a1 a2 a3) (h : 0x8dbff &&& m = 0x8dbff) :
    Only m s ((execSizeOnchipPools a0 a1 a2 a3 x).after x) ↔ Only m s x := Only.iff (by
  simp only [execSizeOnchipPools, Res_next_after]
  exact runCmd_only _ _ _ _ _ (by simp) (Only.refl _ _) (fun y hy => by simp [hy])) h

/-- Changes only: cip, cnt, dev, fmg, fns, fwt, grn, haul, mac, out, pci, qm, seq, stw, twn. -/
@[simp] theorem execSetPressure_only {m : Nat} {s x : State} (a0 a1 a2) (h : 0x8dbff &&& m = 0x8dbff) :
    Only m s ((execSetPressure a0 a1 a2 x).after x) ↔ Only m s x := Only.iff (by
  simp only [execSetPressure, Res_next_after]
  exact runCmd_only _ _ _ _ _ (by simp) (Only.refl _ _) (fun y hy => by simp [hy])) h

/-- Changes only: cip, cnt, dev, fmg, fns, fwt, grn, haul, mac, out, pci, qm, seq, stw, twn. -/
theorem execQueryHandle_only {m : Nat} {s x : State} (a0 a1) (h : 0x8dbff &&& m = 0x8dbff) :
    Only m s ((execQueryHandle a0 a1 x).after x) ↔ Only m s x := Only.iff (by simp [execQueryHandle]) h

/-! ## FnCmds -/

/-- Changes only: grn. -/
@[simp] theorem defaultShares_only {m : Nat} {s x : State} (a1) (h : 0x80 &&& m = 0x80) :
    Only m s (defaultShares x a1) ↔ Only m s x := Only.iff (by simp [defaultShares]) h

/-- Changes only: grn. -/
@[simp] theorem putShares_only {m : Nat} {s x : State} (a1 a2) (h : 0x80 &&& m = 0x80) :
    Only m s (putShares x a1 a2) ↔ Only m s x := Only.iff (by simp [putShares]) h

/-- Changes only: fwt. -/
@[simp] theorem putTblGrants_only {m : Nat} {s x : State} (a1 a2) (h : 0x100 &&& m = 0x100) :
    Only m s (putTblGrants x a1 a2) ↔ Only m s x := Only.iff (by simp [putTblGrants]) h

/-- Changes only: cip, cnt, dev, fmg, fns, fwt, grn, stg. -/
@[simp] theorem makeInstance_only {m : Nat} {s x : State} (a1 a2) (h : 0x299d &&& m = 0x299d) :
    Only m s (makeInstance x a1 a2) ↔ Only m s x := Only.iff (by simp [makeInstance]) h

/-- Changes only: fns, haul, qm. -/
@[simp] theorem releaseFn_only {m : Nat} {s x : State} (a1) (h : 0x1044 &&& m = 0x1044) :
    Only m s (releaseFn x a1) ↔ Only m s x := Only.iff (by simp [releaseFn]) h

/-- Changes only: cip, cnt, dev, fmg, fns, fwt, grn, haul, mac, out, pci, qm, seq, stg, stw, twn. -/
@[simp] theorem execCreateInstance_only {m : Nat} {s x : State} (a0 a1 a2) (h : 0x8fbff &&& m = 0x8fbff) :
    Only m s ((execCreateInstance a0 a1 a2 x).after x) ↔ Only m s x := Only.iff (by
  simp only [execCreateInstance, Res_next_after]
  refine runCmd_only _ _ _ _ _ (by simp) (Only.refl _ _) (fun y hy => ?_)
  (repeat' split) <;> simp [hy]) h

/-- Changes only: cip, cnt, dev, fmg, fns, fwt, grn, haul, mac, out, pci, qm, seq, stw, twn. -/
@[simp] theorem execQuiesce_only {m : Nat} {s x : State} (a0 a1 a2) (h : 0x8dbff &&& m = 0x8dbff) :
    Only m s ((execQuiesce a0 a1 a2 x).after x) ↔ Only m s x := Only.iff (by
  simp only [execQuiesce, Res_next_after]
  exact runCmd_only _ _ _ _ _ (by simp) (Only.refl _ _) (fun y hy => by simp [hy])) h

/-- Changes only: cip, cnt, dev, fmg, fns, fwt, grn, haul, mac, out, pci, qm, seq, stw, twn. -/
@[simp] theorem execResume_only {m : Nat} {s x : State} (a0 a1) (h : 0x8dbff &&& m = 0x8dbff) :
    Only m s ((execResume a0 a1 x).after x) ↔ Only m s x := Only.iff (by
  simp only [execResume, Res_next_after]
  exact runCmd_only _ _ _ _ _ (by simp) (Only.refl _ _) (fun y hy => by simp [hy])) h

/-- Changes only: cip, cnt, dev, fmg, fns, fwt, grn, haul, mac, out, pci, qm, seq, stg, stw, twn. -/
@[simp] theorem execResetInstance_only {m : Nat} {s x : State} (a0 a1 a2) (h : 0x8fbff &&& m = 0x8fbff) :
    Only m s ((execResetInstance a0 a1 a2 x).after x) ↔ Only m s x := Only.iff (by
  simp only [execResetInstance, Res_next_after]
  exact runCmd_only _ _ _ _ _ (by simp) (Only.refl _ _) (fun y hy => by simp [hy])) h

/-- Changes only: cip, cnt, dev, fmg, fns, fwt, grn, haul, mac, out, pci, qm, seq, stg, stw, twn. -/
@[simp] theorem execRemoveInstance_only {m : Nat} {s x : State} (a0 a1 a2) (h : 0x8fbff &&& m = 0x8fbff) :
    Only m s ((execRemoveInstance a0 a1 a2 x).after x) ↔ Only m s x := Only.iff (by
  simp only [execRemoveInstance, Res_next_after]
  exact runCmd_only _ _ _ _ _ (by simp) (Only.refl _ _) (fun y hy => by simp [hy])) h

/-- Changes only: cip, cnt, dev, fmg, fns, fwt, grn, haul, mac, out, pci, qm, seq, stw, twn. -/
@[simp] theorem execRelease_only {m : Nat} {s x : State} (a0 a1) (h : 0x8dbff &&& m = 0x8dbff) :
    Only m s ((execRelease a0 a1 x).after x) ↔ Only m s x := Only.iff (by
  simp only [execRelease, Res_next_after]
  exact runCmd_only _ _ _ _ _ (by simp) (Only.refl _ _) (fun y hy => by simp [hy])) h

/-- Changes only: cip, cnt, dev, fmg, fns, fwt, grn, haul, mac, out, pci, qm, seq, stw, twn. -/
@[simp] theorem execSetDmaWindow_only {m : Nat} {s x : State} (a0 a1 a2) (h : 0x8dbff &&& m = 0x8dbff) :
    Only m s ((execSetDmaWindow a0 a1 a2 x).after x) ↔ Only m s x := Only.iff (by
  simp only [execSetDmaWindow, Res_next_after]
  exact runCmd_only _ _ _ _ _ (by simp) (Only.refl _ _) (fun y hy => by simp [hy])) h

/-- Changes only: cip, cnt, dev, fmg, fns, fwt, grn, haul, mac, out, pci, qm, seq, stw, twn. -/
@[simp] theorem execSetExpertGrant_only {m : Nat} {s x : State} (a0 a1 a2 a3) (h : 0x8dbff &&& m = 0x8dbff) :
    Only m s ((execSetExpertGrant a0 a1 a2 a3 x).after x) ↔ Only m s x := Only.iff (by
  simp only [execSetExpertGrant, Res_next_after]
  exact runCmd_only _ _ _ _ _ (by simp) (Only.refl _ _) (fun y hy => by simp [hy])) h

/-- Changes only: cip, cnt, dev, fmg, fns, fwt, grn, haul, mac, out, pci, qm, seq, stw, twn. -/
@[simp] theorem execSetInstanceGrant_only {m : Nat} {s x : State} (a0 a1 a2) (h : 0x8dbff &&& m = 0x8dbff) :
    Only m s ((execSetInstanceGrant a0 a1 a2 x).after x) ↔ Only m s x := Only.iff (by
  simp only [execSetInstanceGrant, Res_next_after]
  refine runCmd_only _ _ _ _ _ (by simp) (Only.refl _ _) (fun y hy => ?_)
  (repeat' split) <;> simp [hy]) h

/-- Changes only: cip, cnt, dev, fmg, fns, fwt, grn, haul, mac, out, pci, qm, seq, stw, twn. -/
@[simp] theorem execDeclareConfinement_only {m : Nat} {s x : State} (a0 a1) (h : 0x8dbff &&& m = 0x8dbff) :
    Only m s ((execDeclareConfinement a0 a1 x).after x) ↔ Only m s x := Only.iff (by
  simp only [execDeclareConfinement, Res_next_after]
  exact runCmd_only _ _ _ _ _ (by simp) (Only.refl _ _) (fun y hy => by simp [hy])) h

/-- Changes only: cip, cnt, dev, fmg, fns, fwt, grn, haul, mac, out, pci, qm, seq, stw, twn. -/
theorem execQuiesceEnd_only {m : Nat} {s x : State} (a0) (h : 0x8dbff &&& m = 0x8dbff) :
    Only m s ((execQuiesceEnd a0 x).after x) ↔ Only m s x := Only.iff (by
  simp only [execQuiesceEnd, Res_next_after]
  split <;> simp) h

/-- Changes only: cip, cnt, dev, fmg, fns, fwt, grn, haul, mac, out, pci, qm, seq, stw, twn. -/
theorem execReadInstance_only {m : Nat} {s x : State} (a0 a1) (h : 0x8dbff &&& m = 0x8dbff) :
    Only m s ((execReadInstance a0 a1 x).after x) ↔ Only m s x := Only.iff (by simp [execReadInstance]) h

/-- Changes only: cip, cnt, dev, fmg, fns, fwt, grn, haul, mac, out, pci, qm, seq, stg, stw, sw, twn. -/
theorem execResetComplete_only {m : Nat} {s x : State} (a0) (h : 0x8ffff &&& m = 0x8ffff) :
    Only m s ((execResetComplete a0 x).after x) ↔ Only m s x := Only.iff (by simp [execResetComplete]) h

/-! ## SwitchCmds -/

/-- Changes only: cip, cnt, dev, fmg, fns, fwt, grn, haul, mac, out, pci, qm, seq, stw, sw, twn. -/
@[simp] theorem execCreateOrReplacePolicer_only {m : Nat} {s x : State} (a0 a1 a2 a3 a4 a5) (h : 0x8dfff &&& m = 0x8dfff) :
    Only m s ((execCreateOrReplacePolicer a0 a1 a2 a3 a4 a5 x).after x) ↔ Only m s x := Only.iff (by
  simp only [execCreateOrReplacePolicer, Res_next_after]
  exact runCmd_only _ _ _ _ _ (by simp) (Only.refl _ _) (fun y hy => by simp [hy])) h

/-- Changes only: cip, cnt, dev, fmg, fns, fwt, grn, haul, mac, out, pci, qm, seq, stw, sw, twn. -/
@[simp] theorem execDestroyPolicer_only {m : Nat} {s x : State} (a0 a1) (h : 0x8dfff &&& m = 0x8dfff) :
    Only m s ((execDestroyPolicer a0 a1 x).after x) ↔ Only m s x := Only.iff (by simp [execDestroyPolicer]) h

/-- Changes only: cip, cnt, dev, fmg, fns, fwt, grn, haul, limits, mac, out, pci, qm, seq, stw, sw, twn. -/
@[simp] theorem execSetLoopShare_only {m : Nat} {s x : State} (a0 a1) (h : 0x208dfff &&& m = 0x208dfff) :
    Only m s ((execSetLoopShare a0 a1 x).after x) ↔ Only m s x := Only.iff (by
  simp only [execSetLoopShare, Res_next_after]
  exact runCmd_only _ _ _ _ _ (by simp) (Only.refl _ _) (fun y hy => by simp [hy])) h

/-- Changes only: cip, cnt, dev, fmg, fns, fwt, grn, haul, mac, out, pci, qm, seq, stw, sw, twn. -/
@[simp] theorem execCreateOrReplaceMirrorSession_only {m : Nat} {s x : State} (a0 a1 a2 a3 a4 a5 a6) (h : 0x8dfff &&& m = 0x8dfff) :
    Only m s ((execCreateOrReplaceMirrorSession a0 a1 a2 a3 a4 a5 a6 x).after x) ↔ Only m s x := Only.iff (by
  simp only [execCreateOrReplaceMirrorSession, Res_next_after]
  exact runCmd_only _ _ _ _ _ (by simp) (Only.refl _ _) (fun y hy => by simp [hy])) h

/-- Changes only: cip, cnt, dev, fmg, fns, fwt, grn, haul, mac, out, pci, qm, seq, stw, sw, twn. -/
@[simp] theorem execDestroyMirrorSession_only {m : Nat} {s x : State} (a0 a1) (h : 0x8dfff &&& m = 0x8dfff) :
    Only m s ((execDestroyMirrorSession a0 a1 x).after x) ↔ Only m s x := Only.iff (by
  simp only [execDestroyMirrorSession, Res_next_after]
  exact runCmd_only _ _ _ _ _ (by simp) (Only.refl _ _) (fun y hy => by simp [hy])) h

/-- Changes only: cip, cnt, dev, fmg, fns, fwt, grn, haul, mac, out, pci, qm, seq, stw, twn. -/
@[simp] theorem execSetPortMirror_only {m : Nat} {s x : State} (a0 a1 a2 a3) (h : 0x8dbff &&& m = 0x8dbff) :
    Only m s ((execSetPortMirror a0 a1 a2 a3 x).after x) ↔ Only m s x := Only.iff (by
  simp only [execSetPortMirror, Res_next_after]
  exact runCmd_only _ _ _ _ _ (by simp) (Only.refl _ _) (fun y hy => by simp [hy])) h

/-- Changes only: cip, cnt, dev, fmg, fns, fwt, grn, haul, mac, out, pci, qm, seq, stw, twn. -/
theorem execReadPolicer_only {m : Nat} {s x : State} (a0 a1) (h : 0x8dbff &&& m = 0x8dbff) :
    Only m s ((execReadPolicer a0 a1 x).after x) ↔ Only m s x := Only.iff (by
  simp only [execReadPolicer, Res_next_after]
  refine runCmd_only _ _ _ _ _ (by simp) (Only.refl _ _) (fun y hy => ?_)
  (repeat' split) <;> simp [hy]) h

/-! ## Native -/

/-- Changes only: draws. -/
@[simp] theorem anyPortPipe_only {m : Nat} {s x : State} (a1) (h : 0x200000 &&& m = 0x200000) :
    Only m s (anyPortPipe x a1).2 ↔ Only m s x := Only.iff (by simp only [anyPortPipe]; (repeat' split) <;> simp) h

/-- Changes only: cip, cnt, dev, fmg, fns, fwt, grn, haul, mac, out, pci, qm, seq, stw, twn. -/
@[simp] theorem runClass1_only {m : Nat} {s x : State} (a0 a1 a2) (h : 0x8dbff &&& m = 0x8dbff) :
    Only m s (runClass1 a0 a1 a2 x) ↔ Only m s x := Only.iff (by unfold runClass1; split <;> simp) h

/-- Changes only: cip, cnt, dev, fmg, fns, fwt, grn, haul, mac, out, pci, qm, seq, stg, stw, twn. -/
@[simp] theorem runClass2_only {m : Nat} {s x : State} (a0 a1 a2) (h : 0x8fbff &&& m = 0x8fbff) :
    Only m s (runClass2 a0 a1 a2 x) ↔ Only m s x := Only.iff (by unfold runClass2; split <;> simp) h

/-- Changes only: cip, cnt, dev, draws, fmg, fns, fwt, grn, haul, mac, out, pci, qm, seq, stw, twn. -/
@[simp] theorem runClass34_only {m : Nat} {s x : State} (a0 a1 a2) (h : 0x28dbff &&& m = 0x28dbff) :
    Only m s (runClass34 a0 a1 a2 x) ↔ Only m s x := Only.iff (by unfold runClass34; split <;> simp) h

/-- Changes only: cip, cnt, dev, draws, fmg, fns, fwt, grn, haul, mac, out, pci, qm, seq, stg, stw, twn. -/
@[simp] theorem packetConn_only {m : Nat} {s x : State} (a0 a1) (h : 0x28fbff &&& m = 0x28fbff) :
    Only m s (packetConn a0 a1 x) ↔ Only m s x := Only.iff (by simp [packetConn]) h

/-- Changes only: cip, cnt, dev, draws, fmg, fns, fwt, grn, haul, mac, out, pci, qm, seq, stg, store, stw, twn. -/
@[simp] theorem runClass67_only {m : Nat} {s x : State} (a0 a1 a2) (h : 0x2afbff &&& m = 0x2afbff) :
    Only m s (runClass67 a0 a1 a2 x) ↔ Only m s x := Only.iff (by unfold runClass67; split <;> simp) h

/-- Changes only: cip, cnt, dev, fmg, fns, fwt, grn, haul, limits, mac, out, pci, qm, seq, stw, sw, twn. -/
@[simp] theorem runClass5_only {m : Nat} {s x : State} (a0 a1 a2) (h : 0x208dfff &&& m = 0x208dfff) :
    Only m s (runClass5 a0 a1 a2 x) ↔ Only m s x := Only.iff (by unfold runClass5; split <;> simp) h

/-- Changes only: cip, cnt, dev, draws, fmg, fns, fwt, grn, haul, limits, mac, out, pci, qm, seq, stg, store, stw, sw, twn. -/
@[simp] theorem runMirrored_only {m : Nat} {s x : State} (a0 a1 a2) (h : 0x22affff &&& m = 0x22affff) :
    Only m s (runMirrored a0 a1 a2 x) ↔ Only m s x := Only.iff (by unfold runMirrored; split <;> simp) h

/-! ## TwinCopy -/

/-- Changes only: out, twn. -/
@[simp] theorem sendCopy_only {m : Nat} {s x : State} (a1) (h : 0x88000 &&& m = 0x88000) :
    Only m s (sendCopy x a1) ↔ Only m s x := Only.iff (by simp [sendCopy]) h

/-- Changes only: out, twn. -/
@[simp] theorem copyBanks_only {m : Nat} {s x : State} (h : 0x88000 &&& m = 0x88000) :
    Only m s (copyBanks x) ↔ Only m s x := Only.iff (by unfold copyBanks; split <;> simp) h

/-- Changes only: cip, out, twn. -/
@[simp] theorem copyRecords_only {m : Nat} {s x : State} (h : 0x88800 &&& m = 0x88800) :
    Only m s (copyRecords x) ↔ Only m s x := Only.iff (by simp [copyRecords]) h

/-- Changes only: cip, out, twn. -/
@[simp] theorem fullCopy_only {m : Nat} {s x : State} (h : 0x88800 &&& m = 0x88800) :
    Only m s (fullCopy x) ↔ Only m s x := Only.iff (by simp [fullCopy]) h

/-! ## TwinCmds -/

/-- Changes only: cnt, dev, twn. -/
@[simp] theorem endArm_only {m : Nat} {s x : State} (a1) (h : 0x8011 &&& m = 0x8011) :
    Only m s (endArm x a1) ↔ Only m s x := Only.iff (by simp [endArm]) h

/-- Changes only: cip, out, twn. -/
@[simp] theorem freeLeases_only {m : Nat} {s x : State} (h : 0x88800 &&& m = 0x88800) :
    Only m s (freeLeases x) ↔ Only m s x := Only.iff (by simp [freeLeases]) h

/-- Changes only: cnt, dev, twn. -/
@[simp] theorem loseSync_only {m : Nat} {s x : State} (h : 0x8011 &&& m = 0x8011) :
    Only m s (loseSync x) ↔ Only m s x := Only.iff (by simp [loseSync]) h

/-- Changes only: mac. -/
@[simp] theorem restoreTwin_only {m : Nat} {s x : State} (h : 0x200 &&& m = 0x200) :
    Only m s (restoreTwin x) ↔ Only m s x := Only.iff (by simp [restoreTwin]) h

/-- Changes only: cip, cnt, dev, fmg, fns, fwt, grn, haul, mac, out, pci, qm, seq, stw, twn. -/
theorem execArmTakeover_only {m : Nat} {s x : State} (a0 a1 a2 a3) (h : 0x8dbff &&& m = 0x8dbff) :
    Only m s ((execArmTakeover a0 a1 a2 a3 x).after x) ↔ Only m s x := Only.iff (by
  simp only [execArmTakeover, Res_next_after]
  exact runCmd_only _ _ _ _ _ (by simp) (Only.refl _ _) (fun y hy => by simp [hy])) h

/-- Changes only: cip, cnt, dev, fmg, fns, fwt, grn, haul, mac, out, pci, qm, seq, stw, twn. -/
theorem execDisarm_only {m : Nat} {s x : State} (a0) (h : 0x8dbff &&& m = 0x8dbff) :
    Only m s ((execDisarm a0 x).after x) ↔ Only m s x := Only.iff (by
  simp only [execDisarm, Res_next_after]
  exact runCmd_only _ _ _ _ _ (by simp) (Only.refl _ _) (fun y hy => by simp [hy])) h

/-- Changes only: cip, cnt, dev, fmg, fns, fwt, grn, haul, mac, out, pci, qm, seq, stw, twn. -/
theorem execPair_only {m : Nat} {s x : State} (a0) (h : 0x8dbff &&& m = 0x8dbff) :
    Only m s ((execPair a0 x).after x) ↔ Only m s x := Only.iff (by
  simp only [execPair, Res_next_after]
  exact runCmd_only _ _ _ _ _ (by simp) (Only.refl _ _) (fun y hy => by simp [hy])) h

/-- Changes only: cip, cnt, dev, fmg, fns, fwt, grn, haul, mac, out, pci, qm, seq, stw, twn. -/
theorem execPinPeer_only {m : Nat} {s x : State} (a0 a1) (h : 0x8dbff &&& m = 0x8dbff) :
    Only m s ((execPinPeer a0 a1 x).after x) ↔ Only m s x := Only.iff (by simp [execPinPeer]) h

/-- Changes only: cip, cnt, dev, fmg, fns, fwt, grn, haul, mac, out, pci, qm, seq, stw, twn. -/
theorem execReadTwin_only {m : Nat} {s x : State} (a0) (h : 0x8dbff &&& m = 0x8dbff) :
    Only m s ((execReadTwin a0 x).after x) ↔ Only m s x := Only.iff (by
  simp only [execReadTwin, Res_next_after]
  exact runCmd_only _ _ _ _ _ (by simp) (Only.refl _ _) (fun y hy => by simp [hy])) h

/-- Changes only: cip, cnt, dev, fmg, fns, fwt, grn, haul, mac, out, pci, qm, seq, stw, twn. -/
theorem execSetLink_only {m : Nat} {s x : State} (a0 a1 a2) (h : 0x8dbff &&& m = 0x8dbff) :
    Only m s ((execSetLink a0 a1 a2 x).after x) ↔ Only m s x := Only.iff (by
  simp only [execSetLink, Res_next_after]
  exact runCmd_only _ _ _ _ _ (by simp) (Only.refl _ _) (fun y hy => by simp [hy])) h

/-- Changes only: cip, cnt, dev, fmg, fns, fwt, grn, haul, mac, out, pci, qm, seq, stw, twn. -/
theorem execSetRole_only {m : Nat} {s x : State} (a0 a1 a2) (h : 0x8dbff &&& m = 0x8dbff) :
    Only m s ((execSetRole a0 a1 a2 x).after x) ↔ Only m s x := Only.iff (by
  simp only [execSetRole, Res_next_after]
  exact runCmd_only _ _ _ _ _ (by simp) (Only.refl _ _) (fun y hy => by simp [hy])) h

/-- Changes only: cip, cnt, dev, fmg, fns, fwt, grn, haul, mac, out, pci, qm, seq, stw, twn. -/
theorem execUnpair_only {m : Nat} {s x : State} (a0) (h : 0x8dbff &&& m = 0x8dbff) :
    Only m s ((execUnpair a0 x).after x) ↔ Only m s x := Only.iff (by
  simp only [execUnpair, Res_next_after]
  exact runCmd_only _ _ _ _ _ (by simp) (Only.refl _ _) (fun y hy => by simp [hy])) h

/-! ## TwinRows -/

/-- Changes only: stg. -/
@[simp] theorem putLines_only {m : Nat} {s x : State} (a1 a2) (h : 0x2000 &&& m = 0x2000) :
    Only m s (putLines x a1 a2) ↔ Only m s x := Only.iff (by unfold putLines; split <;> simp) h

/-- Changes only: seq. -/
@[simp] theorem loadPart_only {m : Nat} {s x : State} (a1 a2) (h : 0x20 &&& m = 0x20) :
    Only m s (loadPart x a1 a2) ↔ Only m s x := Only.iff (by unfold loadPart; split <;> simp) h

/-- Changes only: cip, seq, stg. -/
@[simp] theorem applyWork_only {m : Nat} {s x : State} (a1) (h : 0x2820 &&& m = 0x2820) :
    Only m s (applyWork x a1) ↔ Only m s x := Only.iff (by unfold applyWork; (repeat' split) <;> simp) h

/-- Changes only: cnt, dev, twn. -/
@[simp] theorem diverged_only {m : Nat} {s x : State} (a1 a2 a3) (h : 0x8011 &&& m = 0x8011) :
    Only m s (diverged x a1 a2 a3) ↔ Only m s x := Only.iff (by simp [diverged]) h

/-- Changes only: cnt, dev, twn. -/
theorem execArmDeadline_only {m : Nat} {s x : State} (h : 0x8011 &&& m = 0x8011) :
    Only m s ((execArmDeadline x).after x) ↔ Only m s x := Only.iff (by simp [execArmDeadline]) h

/-- Changes only: twn. -/
@[simp] theorem fence_only {m : Nat} {s x : State} (a1) (h : 0x8000 &&& m = 0x8000) :
    Only m s (fence x a1) ↔ Only m s x := Only.iff (by simp [fence]) h

/-- Changes only: cnt, dev, twn. -/
@[simp] theorem learnPeer_only {m : Nat} {s x : State} (a1) (h : 0x8011 &&& m = 0x8011) :
    Only m s (learnPeer x a1) ↔ Only m s x := Only.iff (by simp [learnPeer]) h

/-- Changes only: cnt, dev, twn. -/
@[simp] theorem resolve_only {m : Nat} {s x : State} (a1) (h : 0x8011 &&& m = 0x8011) :
    Only m s (resolve x a1).2 ↔ Only m s x := Only.iff (by simp only [resolve]; (repeat' split) <;> simp) h

/-- Changes only: cnt, dev, twn. -/
@[simp] theorem twinReceive_only {m : Nat} {s x : State} {f : State → State} (a1) (h : 0x8011 &&& m = 0x8011)
    (hx : Only m s x) (hf : ∀ y, Only m s y → Only m s (f y)) : Only m s (twinReceive x a1 f) := by
  have a : 0x10 &&& m = 0x10 := sub_trans rfl h
  have b : Only m s (resolve x a1).2 := by simp [h, hx]
  unfold twinReceive
  split
  · exact hx
  · split
    · simp [a, hx]
    · split
      · rename_i hc; rw [hc] at b; exact hf _ b
      · rename_i hc; rw [hc] at b; exact b

/-- Changes only: cip, cnt, dev, out, seq, stg, twn. -/
@[simp] theorem takeFrame_only {m : Nat} {s x : State} (a1 a2) (h : 0x8a831 &&& m = 0x8a831) :
    Only m s (takeFrame x a1 a2) ↔ Only m s x := Only.iff (by
  unfold takeFrame
  exact twinReceive_only _ (by simp) (Only.refl _ _) (fun y hy => by simp [hy])) h

/-- Changes only: cip, cnt, dev, out, seq, stg, twn. -/
theorem execBankImagePart_only {m : Nat} {s x : State} (a0 a1 a2) (h : 0x8a831 &&& m = 0x8a831) :
    Only m s ((execBankImagePart a0 a1 a2 x).after x) ↔ Only m s x := Only.iff (by simp [execBankImagePart]) h

/-- Changes only: twn. -/
@[simp] theorem markWindow_only {m : Nat} {s x : State} (h : 0x8000 &&& m = 0x8000) :
    Only m s (markWindow x) ↔ Only m s x := Only.iff (by simp [markWindow]) h

/-- Changes only: cnt, dev, twn. -/
theorem execHeartbeatReceived_only {m : Nat} {s x : State} (a0) (h : 0x8011 &&& m = 0x8011) :
    Only m s ((execHeartbeatReceived a0 x).after x) ↔ Only m s x := Only.iff (by simp [execHeartbeatReceived]) h

/-- Changes only: out, twn. -/
theorem execHeartbeatSend_only {m : Nat} {s x : State} (h : 0x88000 &&& m = 0x88000) :
    Only m s ((execHeartbeatSend x).after x) ↔ Only m s x := Only.iff (by simp [execHeartbeatSend]) h

/-- Changes only: cip, cnt, dev, out, seq, stg, twn. -/
theorem execLeaseRecord_only {m : Nat} {s x : State} (a0 a1 a2) (h : 0x8a831 &&& m = 0x8a831) :
    Only m s ((execLeaseRecord a0 a1 a2 x).after x) ↔ Only m s x := Only.iff (by simp [execLeaseRecord]) h

/-- Changes only: cip, cnt, dev, out, seq, stg, twn. -/
theorem execReplaySnapshot_only {m : Nat} {s x : State} (a0 a1 a2) (h : 0x8a831 &&& m = 0x8a831) :
    Only m s ((execReplaySnapshot a0 a1 a2 x).after x) ↔ Only m s x := Only.iff (by simp [execReplaySnapshot]) h

/-- Changes only: cip, cnt, dev, out, seq, stg, twn. -/
theorem execStorageRecord_only {m : Nat} {s x : State} (a0 a1 a2) (h : 0x8a831 &&& m = 0x8a831) :
    Only m s ((execStorageRecord a0 a1 a2 x).after x) ↔ Only m s x := Only.iff (by simp [execStorageRecord]) h

/-- Changes only: cip, twn. -/
@[simp] theorem takeAck_only {m : Nat} {s x : State} (a1) (h : 0x8800 &&& m = 0x8800) :
    Only m s (takeAck x a1) ↔ Only m s x := Only.iff (by
  unfold takeAck
  refine (only_foldl (fun a b => ?_) _).mpr (by simp)
  split
  · split <;> simp
  · simp) h

/-- Changes only: cnt, dev, draws, fmg, stw, twn. -/
theorem execTwinLinkAuthenticated_only {m : Nat} {s x : State} (a0 a1) (h : 0x20801b &&& m = 0x20801b) :
    Only m s ((execTwinLinkAuthenticated a0 a1 x).after x) ↔ Only m s x := Only.iff (by
  simp [execTwinLinkAuthenticated]) h

/-- Changes only: cnt, dev, fmg, stw, twn. -/
theorem execTwinLinkDown_only {m : Nat} {s x : State} (h : 0x801b &&& m = 0x801b) :
    Only m s ((execTwinLinkDown x).after x) ↔ Only m s x := Only.iff (by simp [execTwinLinkDown]) h

/-- Changes only: cnt, dev, fmg, out, stw, twn. -/
theorem execTwinResend_only {m : Nat} {s x : State} (a0) (h : 0x8801b &&& m = 0x8801b) :
    Only m s ((execTwinResend a0 x).after x) ↔ Only m s x := Only.iff (by
  simp only [execTwinResend, Res_next_after]
  split <;> simp) h

theorem applyUpTo_base (x : State) (l : List TwinWork) : Only 0xa820 x (applyUpTo x l) := by
  induction l generalizing x with
  | nil => simp [applyUpTo]
  | cons w t ih =>
    unfold applyUpTo
    split
    · simp
    · exact (Only.iff (ih _) rfl).mpr (by simp)

/-- Changes only: cip, seq, stg, twn. -/
@[simp] theorem applyUpTo_only {m : Nat} {s x : State} (a1) (h : 0xa820 &&& m = 0xa820) :
    Only m s (applyUpTo x a1) ↔ Only m s x := Only.iff (applyUpTo_base _ _) h

/-- Changes only: cip, out, seq, stg, twn. -/
@[simp] theorem drainTwin_only {m : Nat} {s x : State} (h : 0x8a820 &&& m = 0x8a820) :
    Only m s (drainTwin x) ↔ Only m s x := Only.iff (by unfold drainTwin; split <;> simp) h

/-- Changes only: cip, cnt, dev, fmg, fns, fwt, grn, haul, mac, out, pci, qm, seq, stw, twn. -/
@[simp] theorem endPair_only {m : Nat} {s x : State} (a1) (h : 0x8dbff &&& m = 0x8dbff) :
    Only m s (endPair x a1) ↔ Only m s x := Only.iff (by simp only [endPair]; (repeat' split) <;> simp) h

/-- Changes only: cip, cnt, dev, fmg, fns, fwt, grn, haul, mac, out, pci, qm, seq, stw, twn. -/
@[simp] theorem releaseWait_only {m : Nat} {s x : State} (a1) (h : 0x8dbff &&& m = 0x8dbff) :
    Only m s (releaseWait x a1) ↔ Only m s x := Only.iff (by simp [releaseWait]) h

/-- Changes only: cip, cnt, dev, fmg, fns, fwt, grn, haul, mac, out, pci, qm, seq, stw, twn. -/
theorem execMirrorReplyTimeout_only {m : Nat} {s x : State} (h : 0x8dbff &&& m = 0x8dbff) :
    Only m s ((execMirrorReplyTimeout x).after x) ↔ Only m s x := Only.iff (by
  simp only [execMirrorReplyTimeout, Res_next_after]
  split <;> simp) h

/-- Changes only: cip, cnt, dev, fmg, fns, fwt, grn, haul, mac, out, pci, qm, seq, stg, twn. -/
theorem execTakeoverComplete_only {m : Nat} {s x : State} (h : 0x8fbfd &&& m = 0x8fbfd) :
    Only m s ((execTakeoverComplete x).after x) ↔ Only m s x := Only.iff (by
  simp only [execTakeoverComplete, Res_next_after]
  split <;> simp) h

/-- Changes only: cip, cnt, dev, fmg, fns, fwt, grn, haul, mac, out, pci, qm, seq, stw, twn. -/
@[simp] theorem takeResult_only {m : Nat} {s x : State} (a1 a2) (h : 0x8dbff &&& m = 0x8dbff) :
    Only m s (takeResult x a1 a2) ↔ Only m s x := Only.iff (by unfold takeResult; split <;> simp) h

/-- Changes only: cip, cnt, dev, fmg, fns, fwt, grn, haul, mac, out, pci, qm, seq, stw, twn. -/
theorem execTwinAcknowledgement_only {m : Nat} {s x : State} (a0 a1 a2) (h : 0x8dbff &&& m = 0x8dbff) :
    Only m s ((execTwinAcknowledgement a0 a1 a2 x).after x) ↔ Only m s x := Only.iff (by
  simp only [execTwinAcknowledgement, Res_next_after]
  refine twinReceive_only _ (by simp) (Only.refl _ _) (fun y hy => ?_)
  (repeat' split) <;> simp [hy]) h

/-! ## LaneRows -/

/-- Changes only: mac, out. -/
@[simp] theorem reportFault_only {m : Nat} {s x : State} (a1 a2) (h : 0x80200 &&& m = 0x80200) :
    Only m s (reportFault x a1 a2) ↔ Only m s x := Only.iff (by simp [reportFault]) h

/-- Changes only: out, pci. -/
@[simp] theorem linkChanged_only {m : Nat} {s x : State} (a1) (h : 0x84000 &&& m = 0x84000) :
    Only m s (linkChanged x a1) ↔ Only m s x := Only.iff (by simp [linkChanged]) h

/-- Changes only: cnt, dev, fmg, grn, mac, out, pci, stw, twn. -/
@[simp] theorem laneDown_only {m : Nat} {s x : State} (a1) (h : 0x8c29b &&& m = 0x8c29b) :
    Only m s (laneDown x a1) ↔ Only m s x := Only.iff (by unfold laneDown; (repeat' split) <;> simp) h

/-- Changes only: cnt, dev, fmg, grn, mac, out, pci, stw, twn. -/
theorem execLaneFault_only {m : Nat} {s x : State} (a0 a1) (h : 0x8c29b &&& m = 0x8c29b) :
    Only m s ((execLaneFault a0 a1 x).after x) ↔ Only m s x := Only.iff (by
  simp only [execLaneFault, Res_next_after]
  (repeat' split) <;> simp) h

/-- Changes only: mac. -/
theorem execLaneFaultClear_only {m : Nat} {s x : State} (a0 a1) (h : 0x200 &&& m = 0x200) :
    Only m s ((execLaneFaultClear a0 a1 x).after x) ↔ Only m s x := Only.iff (by simp [execLaneFaultClear]) h

/-- Changes only: cnt, grn, mac, out, pci. -/
theorem execLinkDown_only {m : Nat} {s x : State} (a0) (h : 0x84290 &&& m = 0x84290) :
    Only m s ((execLinkDown a0 x).after x) ↔ Only m s x := Only.iff (by simp [execLinkDown]) h

/-- Changes only: cnt, dev, mac. -/
@[simp] theorem startLanes_only {m : Nat} {s x : State} (a1 a2 a3) (h : 0x211 &&& m = 0x211) :
    Only m s (startLanes x a1 a2 a3).2 ↔ Only m s x := Only.iff (by simp [startLanes]) h

/-- Changes only: cnt, dev, mac, twn. -/
@[simp] theorem startTwin_only {m : Nat} {s x : State} (a1) (h : 0x8211 &&& m = 0x8211) :
    Only m s (startTwin x a1) ↔ Only m s x := Only.iff (by simp [startTwin]) h

/-- Changes only: cnt, dev, mac, out, pci. -/
@[simp] theorem startPort_only {m : Nat} {s x : State} (a1 a2 a3) (h : 0x84211 &&& m = 0x84211) :
    Only m s (startPort x a1 a2 a3) ↔ Only m s x := Only.iff (by simp [startPort]) h

/-- Changes only: cnt, dev, mac, out, pci, twn. -/
theorem execLinkUp_only {m : Nat} {s x : State} (a0 a1) (h : 0x8c211 &&& m = 0x8c211) :
    Only m s ((execLinkUp a0 a1 x).after x) ↔ Only m s x := Only.iff (by
  simp only [execLinkUp, Res_next_after]
  (repeat' split) <;> simp) h

/-- Changes only: alm, cnt, dev, draws, fmg, grn, haul, mac, out, pci, qm, seq, store, stw, twn. -/
@[simp] theorem deviceMode_only {m : Nat} {s x : State} (a1) (h : 0x2bd2fb &&& m = 0x2bd2fb) :
    Only m s (deviceMode x a1) ↔ Only m s x := Only.iff (by simp [deviceMode]) h

/-- Changes only: alm, cnt, dev, draws, fmg, grn, haul, mac, out, pci, qm, seq, store, stw, twn. -/
@[simp] theorem execPowerStateWrite_only {m : Nat} {s x : State} (a0 a1) (h : 0x2bd2fb &&& m = 0x2bd2fb) :
    Only m s ((execPowerStateWrite a0 a1 x).after x) ↔ Only m s x := Only.iff (by simp [execPowerStateWrite]) h

end Sys2Proof.Machine
end

