-- ==== Sys2Proof/Laws/FrameSystem.lean ====
section
/-! SUPPORT. Frames of the operations: power, firmware, resets and register writes. -/

namespace Sys2Proof.Machine

/-! ## Power -/

/-- Changes only: pci. -/
@[simp] theorem abandonPipe_only {m : Nat} {s x : State} (a1) (h : 0x4000 &&& m = 0x4000) :
    Only m s (abandonPipe x a1) ↔ Only m s x := Only.iff (by simp [abandonPipe]) h

/-- Changes only: alm. -/
theorem execDomainIdleStop_only {m : Nat} {s x : State} (a0) (h : 0x10000 &&& m = 0x10000) :
    Only m s ((execDomainIdleStop a0 x).after x) ↔ Only m s x := Only.iff (by simp [execDomainIdleStop]) h

/-- Changes only: alm, store. -/
@[simp] theorem startAsked_only {m : Nat} {s x : State} (a1) (h : 0x30000 &&& m = 0x30000) :
    Only m s (startAsked x a1) ↔ Only m s x := Only.iff (by simp [startAsked]) h

/-- Changes only: alm, store. -/
theorem execDomainStart_only {m : Nat} {s x : State} (a0) (h : 0x30000 &&& m = 0x30000) :
    Only m s ((execDomainStart a0 x).after x) ↔ Only m s x := Only.iff (by simp [execDomainStart]) h

/-- Changes only: alm. -/
@[simp] theorem holdDom_only {m : Nat} {s x : State} (a1) (h : 0x10000 &&& m = 0x10000) :
    Only m s (holdDom x a1) ↔ Only m s x := Only.iff (by simp [holdDom]) h

/-- Changes only: alm. -/
@[simp] theorem watchDrains_only {m : Nat} {s x : State} (h : 0x10000 &&& m = 0x10000) :
    Only m s (watchDrains x) ↔ Only m s x := Only.iff (by simp [watchDrains]) h

/-- Changes only: alm, store. -/
@[simp] theorem watchIdle_only {m : Nat} {s x : State} (h : 0x30000 &&& m = 0x30000) :
    Only m s (watchIdle x) ↔ Only m s x := Only.iff (by simp [watchIdle]) h

/-- Changes only: cip, cnt, dev, grn, haul, mac, pci, seq. -/
@[simp] theorem abortUnits_only {m : Nat} {s x : State} (a1) (h : 0x5ab1 &&& m = 0x5ab1) :
    Only m s (abortUnits x a1) ↔ Only m s x := Only.iff (by
  unfold abortUnits
  simp only [abandonPipe_only, Nat.reduceAnd]
  refine (only_foldl (fun a b => ?_) _).mpr ((only_foldl (fun a b => ?_) _).mpr ((only_foldl (fun a b => ?_) _).mpr (by simp)))
  · split <;> simp
  · split <;> simp
  · simp) h

/-- Changes only: cip, cnt, dev, fmg, fns, fwt, grn, haul, mac, out, pci, qm, seq, stw, twn. -/
@[simp] theorem endPowerUp_only {m : Nat} {s x : State} (a1) (h : 0x8dbff &&& m = 0x8dbff) :
    Only m s (endPowerUp x a1) ↔ Only m s x := Only.iff (by unfold endPowerUp; split <;> simp) h

/-- Changes only: alm, cip, cnt, dev, fmg, fns, fwt, grn, haul, mac, out, pci, qm, seq, store, stw, twn. -/
theorem execDomainReady_only {m : Nat} {s x : State} (a0) (h : 0xbdbff &&& m = 0xbdbff) :
    Only m s ((execDomainReady a0 x).after x) ↔ Only m s x := Only.iff (by simp [execDomainReady]) h

/-- Changes only: cip, cnt, dev, fmg, fns, fwt, grn, haul, mac, out, pci, qm, seq. -/
@[simp] theorem forceHaul_only {m : Nat} {s x : State} (h : 0x85bfd &&& m = 0x85bfd) :
    Only m s (forceHaul x) ↔ Only m s x := Only.iff (by simp [forceHaul]) h

/-- Changes only: cip, cnt, dev, fmg, fns, fwt, grn, haul, mac, out, pci, qm, seq, stg, twn. -/
@[simp] theorem forcePipe_only {m : Nat} {s x : State} (a1) (h : 0x8fbfd &&& m = 0x8fbfd) :
    Only m s (forcePipe x a1) ↔ Only m s x := Only.iff (by simp [forcePipe]) h

/-- Changes only: cip, cnt, dev, fmg, fns, fwt, grn, haul, mac, out, pci, qm, seq, stg, twn. -/
@[simp] theorem forceDom_only {m : Nat} {s x : State} (a1) (h : 0x8fbfd &&& m = 0x8fbfd) :
    Only m s (forceDom x a1) ↔ Only m s x := Only.iff (by simp [forceDom]) h

/-- Changes only: alm, cip, cnt, dev, fmg, fns, fwt, grn, haul, mac, out, pci, qm, seq, stg, stw, twn. -/
theorem execPowerDown_only {m : Nat} {s x : State} (a0 a1 a2 a3) (h : 0x9fbff &&& m = 0x9fbff) :
    Only m s ((execPowerDown a0 a1 a2 a3 x).after x) ↔ Only m s x := Only.iff (by
  simp only [execPowerDown, Res_next_after]
  exact runCmd_only _ _ _ _ _ (by simp) (Only.refl _ _) (fun y hy => by simp [hy])) h

/-- Changes only: alm, cip, cnt, dev, fmg, fns, fwt, grn, haul, mac, out, pci, qm, seq, stw, twn. -/
theorem execPowerDownDrainEnd_only {m : Nat} {s x : State} (a0) (h : 0x9dbff &&& m = 0x9dbff) :
    Only m s ((execPowerDownDrainEnd a0 x).after x) ↔ Only m s x := Only.iff (by
  simp only [execPowerDownDrainEnd, Res_next_after]
  split <;> simp) h

/-- Changes only: alm, cip, cnt, dev, fmg, fns, fwt, grn, haul, mac, out, pci, qm, seq, stw, twn. -/
theorem execSetIdleLimit_only {m : Nat} {s x : State} (a0 a1 a2) (h : 0x9dbff &&& m = 0x9dbff) :
    Only m s ((execSetIdleLimit a0 a1 a2 x).after x) ↔ Only m s x := Only.iff (by
  simp only [execSetIdleLimit, Res_next_after]
  exact runCmd_only _ _ _ _ _ (by simp) (Only.refl _ _) (fun y hy => by simp [hy])) h

/-- Changes only: alm, cip, cnt, dev, fmg, fns, fwt, grn, haul, mac, out, pci, qm, seq, store, stw, twn. -/
theorem execPowerUp_only {m : Nat} {s x : State} (a0 a1) (h : 0xbdbff &&& m = 0xbdbff) :
    Only m s ((execPowerUp a0 a1 x).after x) ↔ Only m s x := Only.iff (by
  simp only [execPowerUp, Res_next_after]
  exact runCmd_only _ _ _ _ _ (by simp) (Only.refl _ _) (fun y hy => by simp [hy])) h

/-! ## Almanac -/

/-- Changes only: store. -/
@[simp] theorem bumpLife_only {m : Nat} {s x : State} (a1 a2) (h : 0x20000 &&& m = 0x20000) :
    Only m s (bumpLife x a1 a2) ↔ Only m s x := Only.iff (by simp [bumpLife]) h

/-- Changes only: store. -/
@[simp] theorem commitStore_only {m : Nat} {s x : State} (h : 0x20000 &&& m = 0x20000) :
    Only m s (commitStore x) ↔ Only m s x := Only.iff (by simp [commitStore]) h

/-- Changes only: store. -/
@[simp] theorem restartAlmanac_only {m : Nat} {s x : State} (a1) (h : 0x20000 &&& m = 0x20000) :
    Only m s (restartAlmanac x a1) ↔ Only m s x := Only.iff (by simp [restartAlmanac]) h

/-- Changes only: store. -/
@[simp] theorem execAlmanacRestart_only {m : Nat} {s x : State} (h : 0x20000 &&& m = 0x20000) :
    Only m s ((execAlmanacRestart x).after x) ↔ Only m s x := Only.iff (by simp [execAlmanacRestart]) h

/-- Changes only: alm, cnt, dev. -/
@[simp] theorem crystalBack_only {m : Nat} {s x : State} (h : 0x10011 &&& m = 0x10011) :
    Only m s (crystalBack x) ↔ Only m s x := Only.iff (by simp [crystalBack]) h

/-- Changes only: alm, cnt, dev. -/
@[simp] theorem calTick_only {m : Nat} {s x : State} (h : 0x10011 &&& m = 0x10011) :
    Only m s (calTick x) ↔ Only m s x := Only.iff (by unfold calTick; split <;> simp) h

/-- Changes only: alm, cnt, dev. -/
@[simp] theorem calRun_only {m : Nat} {s x : State} (h : 0x10011 &&& m = 0x10011) :
    Only m s (calRun x) ↔ Only m s x := Only.iff (by simp [calRun]) h

/-- Changes only: alm, cip, cnt, dev, draws. -/
theorem execAlarmClear_only {m : Nat} {s x : State} (a0) (h : 0x210811 &&& m = 0x210811) :
    Only m s ((execAlarmClear a0 x).after x) ↔ Only m s x := Only.iff (by simp [execAlarmClear]) h

/-- Changes only: alm. -/
theorem execAlmCalSecRead_only {m : Nat} {s x : State} (h : 0x10000 &&& m = 0x10000) :
    Only m s ((execAlmCalSecRead x).after x) ↔ Only m s x := Only.iff (by simp [execAlmCalSecRead]) h

/-- Changes only: alm. -/
@[simp] theorem stopHeld_only {m : Nat} {s x : State} (h : 0x10000 &&& m = 0x10000) :
    Only m s (stopHeld x) ↔ Only m s x := Only.iff (by simp [stopHeld]) h

/-- Changes only: alm, cnt, dev, out, pci. -/
@[simp] theorem fireWake_only {m : Nat} {s x : State} (h : 0x94011 &&& m = 0x94011) :
    Only m s (fireWake x) ↔ Only m s x := Only.iff (by simp [fireWake]) h

/-- Changes only: alm, store. -/
theorem execAuxPowerLoss_only {m : Nat} {s x : State} (h : 0x30000 &&& m = 0x30000) :
    Only m s ((execAuxPowerLoss x).after x) ↔ Only m s x := Only.iff (by simp [execAuxPowerLoss]) h

/-- Changes only: alm, store. -/
theorem execAuxPowerUp_only {m : Nat} {s x : State} (h : 0x30000 &&& m = 0x30000) :
    Only m s ((execAuxPowerUp x).after x) ↔ Only m s x := Only.iff (by simp [execAuxPowerUp]) h

/-- Changes only: alm, cnt, dev, store. -/
theorem execCrystalFault_only {m : Nat} {s x : State} (h : 0x30011 &&& m = 0x30011) :
    Only m s ((execCrystalFault x).after x) ↔ Only m s x := Only.iff (by simp [execCrystalFault]) h

/-- Changes only: alm. -/
theorem execCrystalRecovery_only {m : Nat} {s x : State} (h : 0x10000 &&& m = 0x10000) :
    Only m s ((execCrystalRecovery x).after x) ↔ Only m s x := Only.iff (by simp [execCrystalRecovery]) h

/-- Changes only: alm. -/
@[simp] theorem tripAbove_only {m : Nat} {s x : State} (a1) (h : 0x10000 &&& m = 0x10000) :
    Only m s (tripAbove x a1) ↔ Only m s x := Only.iff (by simp [tripAbove]) h

/-- Changes only: alm, store. -/
theorem execLifetimeSample_only {m : Nat} {s x : State} (a0) (h : 0x30000 &&& m = 0x30000) :
    Only m s ((execLifetimeSample a0 x).after x) ↔ Only m s x := Only.iff (by simp [execLifetimeSample]) h

/-- Changes only: alm, cnt, dev. -/
theorem execReferenceClockRecovery_only {m : Nat} {s x : State} (a0) (h : 0x10011 &&& m = 0x10011) :
    Only m s ((execReferenceClockRecovery a0 x).after x) ↔ Only m s x := Only.iff (by
  simp [execReferenceClockRecovery]) h

/-- Changes only: store. -/
theorem execStoreCommit_only {m : Nat} {s x : State} (h : 0x20000 &&& m = 0x20000) :
    Only m s ((execStoreCommit x).after x) ↔ Only m s x := Only.iff (by simp [execStoreCommit]) h

/-- Changes only: alm, cnt, dev, store. -/
theorem execThermalDiodeFault_only {m : Nat} {s x : State} (a0) (h : 0x30011 &&& m = 0x30011) :
    Only m s ((execThermalDiodeFault a0 x).after x) ↔ Only m s x := Only.iff (by simp [execThermalDiodeFault]) h

/-- Changes only: alm, cnt, dev. -/
theorem execThermalDiodeFaultClear_only {m : Nat} {s x : State} (h : 0x10011 &&& m = 0x10011) :
    Only m s ((execThermalDiodeFaultClear x).after x) ↔ Only m s x := Only.iff (by
  simp [execThermalDiodeFaultClear]) h

/-- Changes only: alm, store. -/
@[simp] theorem sensed_only {m : Nat} {s x : State} (a1) (h : 0x30000 &&& m = 0x30000) :
    Only m s (sensed x a1) ↔ Only m s x := Only.iff (by simp [sensed]) h

/-- Changes only: alm, cnt, dev, store. -/
theorem execThermalWarning_only {m : Nat} {s x : State} (a0) (h : 0x30011 &&& m = 0x30011) :
    Only m s ((execThermalWarning a0 x).after x) ↔ Only m s x := Only.iff (by simp [execThermalWarning]) h

/-- Changes only: alm, store. -/
theorem execThermalWarningClear_only {m : Nat} {s x : State} (a0) (h : 0x30000 &&& m = 0x30000) :
    Only m s ((execThermalWarningClear a0 x).after x) ↔ Only m s x := Only.iff (by simp [execThermalWarningClear]) h

/-- Changes only: alm, store. -/
theorem execThermtrip_only {m : Nat} {s x : State} (a0) (h : 0x30000 &&& m = 0x30000) :
    Only m s ((execThermtrip a0 x).after x) ↔ Only m s x := Only.iff (by simp [execThermtrip]) h

/-- Changes only: alm. -/
theorem execThermtripRelease_only {m : Nat} {s x : State} (h : 0x10000 &&& m = 0x10000) :
    Only m s ((execThermtripRelease x).after x) ↔ Only m s x := Only.iff (by simp [execThermtripRelease]) h

/-- Changes only: alm, cnt, dev, out, pci. -/
theorem execWakeTimerFire_only {m : Nat} {s x : State} (h : 0x94011 &&& m = 0x94011) :
    Only m s ((execWakeTimerFire x).after x) ↔ Only m s x := Only.iff (by simp [execWakeTimerFire]) h

/-- Changes only: alm, cip, cnt, dev, fmg, grn, out, pci, seq, store, stw, twn. -/
@[simp] theorem raiseAlarm_only {m : Nat} {s x : State} (a1 a2) (h : 0xbc8bb &&& m = 0xbc8bb) :
    Only m s (raiseAlarm x a1 a2) ↔ Only m s x := Only.iff (by simp [raiseAlarm]) h

/-- Changes only: alm, cip, cnt, dev, fmg, grn, out, pci, seq, store, stw, twn. -/
theorem execAlarm_only {m : Nat} {s x : State} (a0 a1) (h : 0xbc8bb &&& m = 0xbc8bb) :
    Only m s ((execAlarm a0 a1 x).after x) ↔ Only m s x := Only.iff (by simp [execAlarm]) h

/-- Changes only: alm, cip, cnt, dev, fmg, fns, fwt, grn, haul, mac, out, pci, qm, seq, stg, store, stw, twn. -/
theorem execAlmanacRestartComplete_only {m : Nat} {s x : State} (h : 0xbfbff &&& m = 0xbfbff) :
    Only m s ((execAlmanacRestartComplete x).after x) ↔ Only m s x := Only.iff (by
  simp [execAlmanacRestartComplete]) h

/-- Changes only: cip, cnt, dev, fmg, fns, fwt, grn, haul, mac, out, pci, qm, seq, stw, twn. -/
theorem execReadAlmanac_only {m : Nat} {s x : State} (a0) (h : 0x8dbff &&& m = 0x8dbff) :
    Only m s ((execReadAlmanac a0 x).after x) ↔ Only m s x := Only.iff (by
  simp only [execReadAlmanac, Res_next_after]
  exact runCmd_only _ _ _ _ _ (by simp) (Only.refl _ _) (fun y hy => by simp [hy])) h

/-- Changes only: cip, cnt, dev, fmg, fns, fwt, grn, haul, mac, out, pci, qm, seq, stw, twn. -/
theorem execReadLifetimeCounters_only {m : Nat} {s x : State} (a0) (h : 0x8dbff &&& m = 0x8dbff) :
    Only m s ((execReadLifetimeCounters a0 x).after x) ↔ Only m s x := Only.iff (by
  simp only [execReadLifetimeCounters, Res_next_after]
  exact runCmd_only _ _ _ _ _ (by simp) (Only.refl _ _) (fun y hy => by simp [hy])) h

/-- Changes only: alm, cip, cnt, dev, fmg, grn, out, pci, seq, store, stw, twn. -/
@[simp] theorem loseRef156_only {m : Nat} {s x : State} (h : 0xbc8bb &&& m = 0xbc8bb) :
    Only m s (loseRef156 x) ↔ Only m s x := Only.iff (by simp [loseRef156]) h

/-- Changes only: alm, cip, cnt, dev, fmg, fns, fwt, grn, haul, mac, out, pci, qm, seq, stw, twn. -/
theorem execSetCalendar_only {m : Nat} {s x : State} (a0 a1 a2) (h : 0x9dbff &&& m = 0x9dbff) :
    Only m s ((execSetCalendar a0 a1 a2 x).after x) ↔ Only m s x := Only.iff (by
  simp only [execSetCalendar, Res_next_after]
  exact runCmd_only _ _ _ _ _ (by simp) (Only.refl _ _) (fun y hy => by simp [hy])) h

/-- Changes only: alm, cip, cnt, dev, fmg, fns, fwt, grn, haul, mac, out, pci, qm, seq, stw, twn. -/
theorem execSetWakeTimer_only {m : Nat} {s x : State} (a0 a1) (h : 0x9dbff &&& m = 0x9dbff) :
    Only m s ((execSetWakeTimer a0 a1 x).after x) ↔ Only m s x := Only.iff (by
  simp only [execSetWakeTimer, Res_next_after]
  exact runCmd_only _ _ _ _ _ (by simp) (Only.refl _ _) (fun y hy => by simp [hy])) h

/-- Changes only: cip, cnt, dev, fmg, fns, fwt, grn, haul, mac, out, pci, qm, seq, stw, twn. -/
theorem execWake_only {m : Nat} {s x : State} (a0) (h : 0x8dbff &&& m = 0x8dbff) :
    Only m s ((execWake a0 x).after x) ↔ Only m s x := Only.iff (by
  simp only [execWake, Res_next_after]
  exact runCmd_only _ _ _ _ _ (by simp) (Only.refl _ _) (fun y hy => by simp [hy])) h

/-! ## Steward -/

/-- Changes only: stw. -/
@[simp] theorem rotate_only {m : Nat} {s x : State} (a1) (h : 0x2 &&& m = 0x2) :
    Only m s (rotate x a1) ↔ Only m s x := Only.iff (by simp [rotate]) h

/-- Changes only: dev. -/
@[simp] theorem logConsume_only {m : Nat} {s x : State} (a1) (h : 0x1 &&& m = 0x1) :
    Only m s (logConsume x a1) ↔ Only m s x := Only.iff (by simp [logConsume]) h

/-- Changes only: fns. -/
@[simp] theorem mbxSubmit_only {m : Nat} {s x : State} (a1) (h : 0x4 &&& m = 0x4) :
    Only m s (mbxSubmit x a1).2 ↔ Only m s x := Only.iff (by simp [mbxSubmit]) h

/-- Changes only: cnt, stw. -/
@[simp] theorem execSecuredPacketReceived_only {m : Nat} {s x : State} (a0 a1 a2) (h : 0x12 &&& m = 0x12) :
    Only m s ((execSecuredPacketReceived a0 a1 a2 x).after x) ↔ Only m s x := Only.iff (by
  simp only [execSecuredPacketReceived, Res_next_after]
  split <;> simp) h

/-- Changes only: cnt, stw. -/
@[simp] theorem holdAdmin_only {m : Nat} {s x : State} (h : 0x12 &&& m = 0x12) :
    Only m s (holdAdmin x) ↔ Only m s x := Only.iff (by simp [holdAdmin]) h

/-- Changes only: stw. -/
@[simp] theorem takeUnits_only {m : Nat} {s x : State} (a1) (h : 0x2 &&& m = 0x2) :
    Only m s (takeUnits x a1) ↔ Only m s x := Only.iff (by simp [takeUnits]) h

/-- Changes only: fwt. -/
@[simp] theorem finishBg_only {m : Nat} {s x : State} (a1) (h : 0x100 &&& m = 0x100) :
    Only m s (finishBg x a1) ↔ Only m s x := Only.iff (by unfold finishBg; split <;> simp) h

/-- Changes only: cip, cnt, dev, fmg, fns, fwt, grn, haul, mac, out, pci, qm, seq, stw, twn. -/
@[simp] theorem refusePacket_only {m : Nat} {s x : State} (a1 a2 a3 a4 a5 a6) (h : 0x8dbff &&& m = 0x8dbff) :
    Only m s (refusePacket x a1 a2 a3 a4 a5 a6) ↔ Only m s x := Only.iff (by simp [refusePacket]) h

/-- Changes only: cip, cnt, dev, fmg, fns, fwt, grn, haul, mac, out, pci, qm, seq, stw, twn. -/
@[simp] theorem refuseOld_only {m : Nat} {s x : State} (a1 a2 a3) (h : 0x8dbff &&& m = 0x8dbff) :
    Only m s (refuseOld x a1 a2 a3) ↔ Only m s x := Only.iff (by simp [refuseOld]) h

/-- Changes only: cip, cnt, dev, fmg, fns, fwt, grn, haul, mac, out, pci, qm, seq, stw, twn. -/
@[simp] theorem acceptBytes_only {m : Nat} {s x : State} (a1 a2 a3 a4 a5) (h : 0x8dbff &&& m = 0x8dbff) :
    Only m s (acceptBytes x a1 a2 a3 a4 a5) ↔ Only m s x := Only.iff (by
  simp only [acceptBytes]
  (repeat' split) <;> simp) h

/-- Changes only: cip, cnt, dev, fmg, fns, fwt, grn, haul, mac, qm, seq. -/
@[simp] theorem badPosition_only {m : Nat} {s x : State} (a1 a2) (h : 0x1bfd &&& m = 0x1bfd) :
    Only m s (badPosition x a1 a2) ↔ Only m s x := Only.iff (by simp [badPosition]) h

/-- Changes only: cip, cnt, dev, fmg, fns, fwt, grn, haul, mac, qm, seq. -/
@[simp] theorem execDevLogConsWrite_only {m : Nat} {s x : State} (a0) (h : 0x1bfd &&& m = 0x1bfd) :
    Only m s ((execDevLogConsWrite a0 x).after x) ↔ Only m s x := Only.iff (by simp [execDevLogConsWrite]) h

/-- Changes only: cip, cnt, dev, fmg, fns, fwt, grn, haul, mac, qm, seq, stw. -/
@[simp] theorem execAdminDoorbell_only {m : Nat} {s x : State} (a0) (h : 0x1bff &&& m = 0x1bff) :
    Only m s ((execAdminDoorbell a0 x).after x) ↔ Only m s x := Only.iff (by simp [execAdminDoorbell]) h

/-- Changes only: cip, cnt, dev, fmg, fns, fwt, grn, haul, mac, qm, seq, stw. -/
@[simp] theorem execAdminReplyConsumerWrite_only {m : Nat} {s x : State} (a0) (h : 0x1bff &&& m = 0x1bff) :
    Only m s ((execAdminReplyConsumerWrite a0 x).after x) ↔ Only m s x := Only.iff (by
  simp [execAdminReplyConsumerWrite]) h

/-- Changes only: cip, cnt, dev, fmg, fns, fwt, grn, haul, mac, qm, seq. -/
@[simp] theorem mbxDoorbell_only {m : Nat} {s x : State} (a1) (h : 0x1bfd &&& m = 0x1bfd) :
    Only m s (mbxDoorbell x a1) ↔ Only m s x := Only.iff (by simp [mbxDoorbell]) h

/-- Changes only: cip, cnt, dev, fmg, fns, fwt, grn, haul, mac, qm, seq. -/
@[simp] theorem execMailboxDoorbell_only {m : Nat} {s x : State} (a0 a1) (h : 0x1bfd &&& m = 0x1bfd) :
    Only m s ((execMailboxDoorbell a0 a1 x).after x) ↔ Only m s x := Only.iff (by simp [execMailboxDoorbell]) h

/-- Changes only: cip, cnt, dev, draws, fmg, fns, fwt, grn, haul, mac, out, pci, qm, seq, stw, twn. -/
@[simp] theorem visitAdmin_only {m : Nat} {s x : State} (a1 a2) (h : 0x28dbff &&& m = 0x28dbff) :
    Only m s (visitAdmin x a1 a2) ↔ Only m s x := Only.iff (by
  unfold visitAdmin
  simp only
  split
  · rename_i hc; replace hc := congrArg Prod.snd hc; dsimp only at hc; subst hc; simp
  · rename_i hc; replace hc := congrArg Prod.snd hc; dsimp only at hc; subst hc; split <;> simp) h

/-- Changes only: cip, cnt, dev, fmg, fns, fwt, grn, haul, mac, out, pci, qm, seq, stw, twn. -/
@[simp] theorem visitMailbox_only {m : Nat} {s x : State} (a1 a2) (h : 0x8dbff &&& m = 0x8dbff) :
    Only m s (visitMailbox x a1 a2) ↔ Only m s x := Only.iff (by simp [visitMailbox]) h

/-- Changes only: cip, cnt, dev, fmg, fns, fwt, grn, haul, mac, out, pci, qm, seq, stw, twn. -/
@[simp] theorem visitQueue_only {m : Nat} {s x : State} (a1 a2) (h : 0x8dbff &&& m = 0x8dbff) :
    Only m s (visitQueue x a1 a2) ↔ Only m s x := Only.iff (by simp [visitQueue]) h

/-- Changes only: cip, cnt, dev, fmg, fns, fwt, grn, haul, mac, out, pci, qm, seq, stw, twn. -/
theorem execBackgroundCommandEnd_only {m : Nat} {s x : State} (a0) (h : 0x8dbff &&& m = 0x8dbff) :
    Only m s ((execBackgroundCommandEnd a0 x).after x) ↔ Only m s x := Only.iff (by
  simp only [execBackgroundCommandEnd, Res_next_after]
  (repeat' split) <;> simp) h

/-- Changes only: cip, cnt, dev, fmg, fns, fwt, grn, haul, mac, out, pci, qm, seq, stw, twn. -/
@[simp] theorem execReadIdentity_only {m : Nat} {s x : State} (a0) (h : 0x8dbff &&& m = 0x8dbff) :
    Only m s ((execReadIdentity a0 x).after x) ↔ Only m s x := Only.iff (by
  simp only [execReadIdentity, Res_next_after]
  exact runCmd_only _ _ _ _ _ (by simp) (Only.refl _ _) (fun y hy => by simp [hy])) h

/-- Changes only: cip, cnt, dev, draws, fmg, fns, fwt, grn, haul, limits, mac, out, pci, qm, seq, stg, store, stw, sw, twn. -/
@[simp] theorem visitTwin_only {m : Nat} {s x : State} (a1) (h : 0x22affff &&& m = 0x22affff) :
    Only m s (visitTwin x a1) ↔ Only m s x := Only.iff (by simp only [visitTwin]; (repeat' split) <;> simp) h

/-- Changes only: cip, cnt, dev, draws, fmg, fns, fwt, grn, haul, limits, mac, out, pci, qm, seq, stg, store, stw, sw, twn. -/
@[simp] theorem execAcceptPacket_only {m : Nat} {s x : State} (a0 a1 a2 a3) (h : 0x22affff &&& m = 0x22affff) :
    Only m s ((execAcceptPacket a0 a1 a2 a3 x).after x) ↔ Only m s x := Only.iff (by
  simp only [execAcceptPacket, Res_next_after]
  (repeat' split) <;> simp) h

/-! ## Firmware -/

/-- Changes only: draws. -/
@[simp] theorem actLabel_only {m : Nat} {s x : State} (h : 0x200000 &&& m = 0x200000) :
    Only m s (actLabel x).2 ↔ Only m s x := Only.iff (by unfold actLabel; split <;> simp) h

/-- Changes only: fw. -/
@[simp] theorem addPointer_only {m : Nat} {s x : State} (h : 0x40000 &&& m = 0x40000) :
    Only m s (addPointer x) ↔ Only m s x := Only.iff (by simp [addPointer]) h

/-- Changes only: fuses, fw. -/
@[simp] theorem raiseFloor_only {m : Nat} {s x : State} (a1 a2) (h : 0x840000 &&& m = 0x840000) :
    Only m s (raiseFloor x a1 a2) ↔ Only m s x := Only.iff (by simp [raiseFloor]) h

/-- Changes only: fw. -/
@[simp] theorem loseWorking_only {m : Nat} {s x : State} (h : 0x40000 &&& m = 0x40000) :
    Only m s (loseWorking x) ↔ Only m s x := Only.iff (by simp [loseWorking]) h

/-- Changes only: cnt, dev, fw. -/
@[simp] theorem failActivation_only {m : Nat} {s x : State} (a1 a2) (h : 0x40011 &&& m = 0x40011) :
    Only m s (failActivation x a1 a2) ↔ Only m s x := Only.iff (by simp [failActivation]) h

/-- Changes only: fw. -/
@[simp] theorem emptySlot_only {m : Nat} {s x : State} (a1) (h : 0x40000 &&& m = 0x40000) :
    Only m s (emptySlot x a1) ↔ Only m s x := Only.iff (by simp [emptySlot]) h

/-- Changes only: cnt, dev, fw. -/
@[simp] theorem refuseImage_only {m : Nat} {s x : State} (a1 a2) (h : 0x40011 &&& m = 0x40011) :
    Only m s (refuseImage x a1 a2) ↔ Only m s x := Only.iff (by simp [refuseImage]) h

/-- Changes only: cnt, dev, fw. -/
@[simp] theorem dropImage_only {m : Nat} {s x : State} (a1 a2) (h : 0x40011 &&& m = 0x40011) :
    Only m s (dropImage x a1 a2) ↔ Only m s x := Only.iff (by simp [dropImage]) h

/-- Changes only: draws, store. -/
@[simp] theorem flashErase_only {m : Nat} {s x : State} (h : 0x220000 &&& m = 0x220000) :
    Only m s (flashErase x) ↔ Only m s x := Only.iff (by simp [flashErase]) h

/-- Changes only: fw. -/
@[simp] theorem commitImages_only {m : Nat} {s x : State} (h : 0x40000 &&& m = 0x40000) :
    Only m s (commitImages x) ↔ Only m s x := Only.iff (by simp [commitImages]) h

/-- Changes only: fuses, fw. -/
@[simp] theorem raiseFloors_only {m : Nat} {s x : State} (h : 0x840000 &&& m = 0x840000) :
    Only m s (raiseFloors x) ↔ Only m s x := Only.iff (by unfold raiseFloors; split <;> simp) h

/-- Changes only: draws, fuses, fw, store. -/
@[simp] theorem writePointer_only {m : Nat} {s x : State} (h : 0xa60000 &&& m = 0xa60000) :
    Only m s (writePointer x) ↔ Only m s x := Only.iff (by simp [writePointer]) h

/-- Changes only: store. -/
@[simp] theorem takeLibrary_only {m : Nat} {s x : State} (h : 0x20000 &&& m = 0x20000) :
    Only m s (takeLibrary x) ↔ Only m s x := Only.iff (by simp [takeLibrary]) h

/-- Changes only: cnt, dev, stw. -/
@[simp] theorem trialReady_only {m : Nat} {s x : State} (h : 0x13 &&& m = 0x13) :
    Only m s (trialReady x) ↔ Only m s x := Only.iff (by simp [trialReady]) h

/-- Changes only: fw. -/
@[simp] theorem putStaged_only {m : Nat} {s x : State} (a1 a2) (h : 0x40000 &&& m = 0x40000) :
    Only m s (putStaged x a1 a2) ↔ Only m s x := Only.iff (by simp [putStaged]) h

/-- Changes only: draws, fw. -/
@[simp] theorem putSlot_only {m : Nat} {s x : State} (a1 a2 a3) (h : 0x240000 &&& m = 0x240000) :
    Only m s (putSlot x a1 a2 a3) ↔ Only m s x := Only.iff (by simp [putSlot]) h

/-- Changes only: draws, fw, out. -/
theorem execPutImage_only {m : Nat} {s x : State} (a0 a1 a2 a3) (h : 0x2c0000 &&& m = 0x2c0000) :
    Only m s ((execPutImage a0 a1 a2 a3 x).after x) ↔ Only m s x := Only.iff (by simp [execPutImage]) h

/-- Changes only: seq. -/
@[simp] theorem shadowBank_only {m : Nat} {s x : State} (a1) (h : 0x20 &&& m = 0x20) :
    Only m s (shadowBank x a1).2 ↔ Only m s x := Only.iff (by
  unfold shadowBank
  simp only
  repeat' split
  all_goals first | (simp; done) | (rename_i hc; cases snd_of hc; simp)) h

/-- Changes only: cip, cnt, dev, draws, fmg, fns, fuses, fw, fwt, grn, haul, mac, out, pci, qm, seq, store, stw, twn. -/
@[simp] theorem endActivation_only {m : Nat} {s x : State} (a1) (h : 0xaedbff &&& m = 0xaedbff) :
    Only m s (endActivation x a1) ↔ Only m s x := Only.iff (by simp [endActivation]) h

/-- Changes only: cip, cnt, dev, fmg, fns, fw, fwt, grn, haul, mac, out, pci, qm, seq, stw, twn. -/
@[simp] theorem rollBack_only {m : Nat} {s x : State} (a1 a2) (h : 0xcdbff &&& m = 0xcdbff) :
    Only m s (rollBack x a1 a2) ↔ Only m s x := Only.iff (by simp [rollBack]) h

/-- Changes only: alm, cip, cnt, dev, draws, fmg, fns, fuses, fw, fwt, grn, haul, mac, out, pci, qm, seq, stg, store, stw, twn. -/
theorem execActivationStewardReady_only {m : Nat} {s x : State} (a0) (h : 0xaffbff &&& m = 0xaffbff) :
    Only m s ((execActivationStewardReady a0 x).after x) ↔ Only m s x := Only.iff (by
  simp only [execActivationStewardReady, Res_next_after]
  (repeat' (split <;> (try (rename_i hh; (try cases trd_of hh); (try cases mid_of hh); (try cases snd_of hh); (try cases fst_of hh))))) <;> simp) h

/-- Changes only: cip, cnt, dev, fmg, fns, fwt, grn, haul, mac, out, pci, qm, seq, stw, twn. -/
@[simp] theorem execReadVersions_only {m : Nat} {s x : State} (a0) (h : 0x8dbff &&& m = 0x8dbff) :
    Only m s ((execReadVersions a0 x).after x) ↔ Only m s x := Only.iff (by
  simp only [execReadVersions, Res_next_after]
  exact runCmd_only _ _ _ _ _ (by simp) (Only.refl _ _) (fun y hy => by simp [hy])) h

/-- Changes only: cip, cnt, dev, draws, fmg, fns, fwt, grn, haul, mac, out, pci, qm, seq, store. -/
@[simp] theorem sourceRead_only {m : Nat} {s x : State} (a1 a2 a3 a4 a5 a6) (h : 0x2a5bfd &&& m = 0x2a5bfd) :
    Only m s (sourceRead x a1 a2 a3 a4 a5 a6).2.2 ↔ Only m s x := Only.iff (by
  simp only [sourceRead]
  (repeat' split) <;> simp) h

/-- Changes only: cip, cnt, dev, draws, fmg, fns, fwt, grn, haul, mac, out, pci, qm, seq, store. -/
@[simp] theorem fetchImage_only {m : Nat} {s x : State} (a1 a2 a3 a4 a5 a6 a7) (h : 0x2a5bfd &&& m = 0x2a5bfd) :
    Only m s (fetchImage x a1 a2 a3 a4 a5 a6 a7).2 ↔ Only m s x := Only.iff (by
  unfold fetchImage
  split <;> (rename_i hc; replace hc := congrArg (fun p => p.2.2) hc; dsimp only at hc; subst hc; simp)) h

/-- Changes only: cip, cnt, dev, fmg, fns, fwt, grn, haul, mac, out, pci, qm, seq, stw, twn. -/
theorem execReadChainStatus_only {m : Nat} {s x : State} (a0) (h : 0x8dbff &&& m = 0x8dbff) :
    Only m s ((execReadChainStatus a0 x).after x) ↔ Only m s x := Only.iff (by
  simp only [execReadChainStatus, Res_next_after]
  exact runCmd_only _ _ _ _ _ (by simp) (Only.refl _ _) (fun y hy => by simp [hy])) h

/-- Changes only: cip, cnt, dev, fmg, fns, fw, fwt, grn, haul, mac, out, pci, qm, seq, stw, twn. -/
theorem execRewrapToUnit_only {m : Nat} {s x : State} (a0 a1) (h : 0xcdbff &&& m = 0xcdbff) :
    Only m s ((execRewrapToUnit a0 a1 x).after x) ↔ Only m s x := Only.iff (by
  simp only [execRewrapToUnit, Res_next_after]
  refine runCmd_only _ _ _ _ _ (by simp) (Only.refl _ _) (fun y hy => ?_)
  (repeat' split) <;> simp [hy]) h

/-- Changes only: cip, cnt, dev, draws, fmg, fns, fw, fwt, grn, haul, mac, out, pci, qm, seq, stw, twn. -/
theorem execStageManifest_only {m : Nat} {s x : State} (a0 a1 a2 a3 a4) (h : 0x2cdbff &&& m = 0x2cdbff) :
    Only m s ((execStageManifest a0 a1 a2 a3 a4 x).after x) ↔ Only m s x := Only.iff (by
  simp only [execStageManifest, Res_next_after]
  refine runCmd_only _ _ _ _ _ (by simp) (Only.refl _ _) (fun y hy => ?_)
  (repeat' (split <;> (try (rename_i hh; (try cases trd_of hh); (try cases mid_of hh); (try cases snd_of hh); (try cases fst_of hh))))) <;> simp [hy]) h

/-- Changes only: cnt, dev, fw, seq, stw. -/
@[simp] theorem beginActivation_only {m : Nat} {s x : State} (a1 a2 a3 a4) (h : 0x40033 &&& m = 0x40033)
    (hx : Only m s x) : Only m s (beginActivation x a1 a2 a3 a4).s := by
  refine (Only.iff (k := 0x40033) (x := x) ?_ h).mpr hx
  unfold beginActivation
  simp only
  split
  · simp
  · split <;> (rename_i hh; cases snd_of hh; simp)

/-- Changes only: cip, cnt, dev, fmg, fns, fw, fwt, grn, haul, mac, out, pci, qm, seq, stw, twn. -/
theorem execActivate_only {m : Nat} {s x : State} (a0) (h : 0xcdbff &&& m = 0xcdbff) :
    Only m s ((execActivate a0 x).after x) ↔ Only m s x := Only.iff (by
  simp only [execActivate, Res_next_after]
  refine runCmd_only _ _ _ _ _ (by simp) (Only.refl _ _) (fun y hy => ?_)
  (repeat' split) <;> simp [hy]) h

/-- Changes only: cip, cnt, dev, draws, fmg, fns, fw, fwt, grn, haul, mac, out, pci, qm, seq, store, stw, twn. -/
theorem execStageComponentImage_only {m : Nat} {s x : State} (a0 a1 a2 a3 a4 a5 a6) (h : 0x2edbff &&& m = 0x2edbff) :
    Only m s ((execStageComponentImage a0 a1 a2 a3 a4 a5 a6 x).after x) ↔ Only m s x := Only.iff (by
  simp only [execStageComponentImage, Res_next_after]
  split
  · simp
  · refine runCmd_only _ _ _ _ _ (by simp) (Only.refl _ _) (fun y hy => ?_)
    (repeat' split) <;> first | (simp [hy]; done) | (rename_i hh; cases snd_of hh; simp [hy])) h

/-- Changes only: cip, cnt, dev, draws, fmg, fns, fw, fwt, grn, haul, mac, out, pci, qm, seq, store, stw, twn. -/
theorem execCompatibilityUpdate_only {m : Nat} {s x : State} (a0 a1 a2 a3 a4 a5 a6) (h : 0x2edbff &&& m = 0x2edbff) :
    Only m s ((execCompatibilityUpdate a0 a1 a2 a3 a4 a5 a6 x).after x) ↔ Only m s x := Only.iff (by
  simp only [execCompatibilityUpdate, Res_next_after]
  split
  · simp
  · refine runCmd_only _ _ _ _ _ (by simp) (Only.refl _ _) (fun y hy => ?_)
    split
    · simp [hy]
    · split
      · rename_i hh; cases snd_of hh; split <;> simp [hy]
      · rename_i hh; cases snd_of hh; split <;> simp [hy]) h

/-! ## Chain -/

/-- Changes only: out. -/
@[simp] theorem chainSend_only {m : Nat} {s x : State} (a1 a2 a3 a4 a5) (h : 0x80000 &&& m = 0x80000) :
    Only m s (chainSend x a1 a2 a3 a4 a5) ↔ Only m s x := Only.iff (by simp [chainSend]) h

/-- Changes only: fw. -/
@[simp] theorem chainState_only {m : Nat} {s x : State} (a1) (h : 0x40000 &&& m = 0x40000) :
    Only m s (chainState x a1) ↔ Only m s x := Only.iff (by simp [chainState]) h

/-- Changes only: fw, out. -/
@[simp] theorem askPackage_only {m : Nat} {s x : State} (a1) (h : 0xc0000 &&& m = 0xc0000) :
    Only m s (askPackage x a1) ↔ Only m s x := Only.iff (by simp [askPackage]) h

/-- Changes only: cnt, dev, fw, out. -/
@[simp] theorem answerOffer_only {m : Nat} {s x : State} (a1) (h : 0xc0011 &&& m = 0xc0011) :
    Only m s (answerOffer x a1) ↔ Only m s x := Only.iff (by unfold answerOffer; split <;> simp) h

/-- Changes only: fuses, fw. -/
@[simp] theorem notePackage_only {m : Nat} {s x : State} (a1 a2) (h : 0x840000 &&& m = 0x840000) :
    Only m s (notePackage x a1 a2) ↔ Only m s x := Only.iff (by simp [notePackage]) h

/-- Changes only: cnt, dev, fuses, fw. -/
@[simp] theorem applyFuses_only {m : Nat} {s x : State} (a1 a2) (h : 0x840011 &&& m = 0x840011) :
    Only m s (applyFuses x a1 a2) ↔ Only m s x := Only.iff (by simp [applyFuses]) h

/-- Changes only: cnt, dev, fuses, fw. -/
@[simp] theorem applyRevocation_only {m : Nat} {s x : State} (a1 a2) (h : 0x840011 &&& m = 0x840011) :
    Only m s (applyRevocation x a1 a2) ↔ Only m s x := Only.iff (by simp [applyRevocation]) h

/-- Changes only: out, pci. -/
@[simp] theorem chainActivity_only {m : Nat} {s x : State} (a1) (h : 0x84000 &&& m = 0x84000) :
    Only m s (chainActivity x a1) ↔ Only m s x := Only.iff (by simp [chainActivity]) h

/-- Changes only: cnt, dev, fw. -/
@[simp] theorem chainFaulted_only {m : Nat} {s x : State} (a1 a2) (h : 0x40011 &&& m = 0x40011) :
    Only m s (chainFaulted x a1 a2) ↔ Only m s x := Only.iff (by simp [chainFaulted]) h

/-- Changes only: fw. -/
@[simp] theorem restState_only {m : Nat} {s x : State} (h : 0x40000 &&& m = 0x40000) :
    Only m s (restState x) ↔ Only m s x := Only.iff (by simp [restState]) h

/-- Changes only: fw. -/
@[simp] theorem dropRx_only {m : Nat} {s x : State} (h : 0x40000 &&& m = 0x40000) :
    Only m s (dropRx x) ↔ Only m s x := Only.iff (by simp [dropRx]) h

/-- Changes only: cnt, dev, fw. -/
theorem execChainConfirmReceived_only {m : Nat} {s x : State} (a0) (h : 0x40011 &&& m = 0x40011) :
    Only m s ((execChainConfirmReceived a0 x).after x) ↔ Only m s x := Only.iff (by
  simp only [execChainConfirmReceived, Res_next_after]
  (repeat' split) <;> simp) h

/-- Changes only: cnt, dev, fw. -/
@[simp] theorem refusePackage_only {m : Nat} {s x : State} (a1 a2) (h : 0x40011 &&& m = 0x40011) :
    Only m s (refusePackage x a1 a2) ↔ Only m s x := Only.iff (by simp [refusePackage]) h

/-- Changes only: draws, fw, store. -/
@[simp] theorem holdPackage_only {m : Nat} {s x : State} (a1 a2) (h : 0x260000 &&& m = 0x260000) :
    Only m s (holdPackage x a1 a2) ↔ Only m s x := Only.iff (by simp [holdPackage]) h

/-- Changes only: cnt, dev, draws, fuses, fw, store. -/
@[simp] theorem takePackage_only {m : Nat} {s x : State} (a1 a2 a3 a4) (h : 0xa60011 &&& m = 0xa60011) :
    Only m s (takePackage x a1 a2 a3 a4) ↔ Only m s x := Only.iff (by unfold takePackage; (repeat' split) <;> simp) h

/-- Changes only: cnt, dev, draws, fuses, fw, store. -/
@[simp] theorem verifyRx_only {m : Nat} {s x : State} (a1) (h : 0xa60011 &&& m = 0xa60011) :
    Only m s (verifyRx x a1) ↔ Only m s x := Only.iff (by unfold verifyRx; split <;> simp) h

/-- Changes only: cnt, dev, draws, fuses, fw, out, pci, store. -/
theorem execChainDataReceived_only {m : Nat} {s x : State} (a0) (h : 0xae4011 &&& m = 0xae4011) :
    Only m s ((execChainDataReceived a0 x).after x) ↔ Only m s x := Only.iff (by
  simp only [execChainDataReceived, Res_next_after]
  split <;> simp) h

/-- Changes only: fw. -/
@[simp] theorem holdPair_only {m : Nat} {s x : State} (a1 a2 a3) (h : 0x40000 &&& m = 0x40000) :
    Only m s (holdPair x a1 a2 a3) ↔ Only m s x := Only.iff (by simp [holdPair]) h

/-- Changes only: cnt, dev, fw. -/
theorem execChainFault_only {m : Nat} {s x : State} (a0 a1) (h : 0x40011 &&& m = 0x40011) :
    Only m s ((execChainFault a0 a1 x).after x) ↔ Only m s x := Only.iff (by simp [execChainFault]) h

/-- Changes only: fw, out, pci. -/
theorem execChainFaultClear_only {m : Nat} {s x : State} (a0 a1) (h : 0xc4000 &&& m = 0xc4000) :
    Only m s ((execChainFaultClear a0 a1 x).after x) ↔ Only m s x := Only.iff (by simp [execChainFaultClear]) h

/-- Changes only: cnt, dev, fw, out, pci. -/
theorem execChainOfferReceived_only {m : Nat} {s x : State} (a0) (h : 0xc4011 &&& m = 0xc4011) :
    Only m s ((execChainOfferReceived a0 x).after x) ↔ Only m s x := Only.iff (by simp [execChainOfferReceived]) h

/-- Changes only: fw, out. -/
theorem execChainOfferSend_only {m : Nat} {s x : State} (h : 0xc0000 &&& m = 0xc0000) :
    Only m s ((execChainOfferSend x).after x) ↔ Only m s x := Only.iff (by simp [execChainOfferSend]) h

/-- Changes only: fw. -/
theorem execChainRefuseReceived_only {m : Nat} {s x : State} (a0) (h : 0x40000 &&& m = 0x40000) :
    Only m s ((execChainRefuseReceived a0 x).after x) ↔ Only m s x := Only.iff (by simp [execChainRefuseReceived]) h

/-- Changes only: out. -/
@[simp] theorem sendData_only {m : Nat} {s x : State} (a1 a2) (h : 0x80000 &&& m = 0x80000) :
    Only m s (sendData x a1 a2) ↔ Only m s x := Only.iff (by simp [sendData]) h

/-- Changes only: out. -/
theorem execChainRequestReceived_only {m : Nat} {s x : State} (a0) (h : 0x80000 &&& m = 0x80000) :
    Only m s ((execChainRequestReceived a0 x).after x) ↔ Only m s x := Only.iff (by
  simp only [execChainRequestReceived, Res_next_after]
  (repeat' split) <;> simp) h

/-! ## Resets -/

/-- Changes only: fw, stw. -/
@[simp] theorem beginRestart_only {m : Nat} {s x : State} (h : 0x40002 &&& m = 0x40002) :
    Only m s (beginRestart x) ↔ Only m s x := Only.iff (by simp [beginRestart]) h

/-- Changes only: fw, stw. -/
@[simp] theorem execStewardRestart_only {m : Nat} {s x : State} (h : 0x40002 &&& m = 0x40002) :
    Only m s ((execStewardRestart x).after x) ↔ Only m s x := Only.iff (by simp [execStewardRestart]) h

/-- Changes only: cnt, dev, grn. -/
@[simp] theorem beginSramWipe_only {m : Nat} {s x : State} (h : 0x91 &&& m = 0x91) :
    Only m s (beginSramWipe x) ↔ Only m s x := Only.iff (by simp [beginSramWipe]) h

/-- Changes only: cnt, dev, fwt, grn, qm, stg. -/
@[simp] theorem beginWipes_only {m : Nat} {s x : State} (h : 0x21d1 &&& m = 0x21d1) :
    Only m s (beginWipes x) ↔ Only m s x := Only.iff (by simp [beginWipes]) h

/-- Changes every block but the Almanac; the fuses stay. -/
@[simp] theorem resetBlocks_only {m : Nat} {s x : State} (h : 0x304ffff &&& m = 0x304ffff) :
    Only m s (resetBlocks x) ↔ Only m s x := Only.iff (by simp [resetBlocks, Fw.kept]) h

/-- Changes only: cip, cnt, dev, fmg, fns, fw, fwt, grn, haul, life, limits, mac, pci, qm, seq, stg, stw, sw, twn. -/
@[simp] theorem lcReset_only {m : Nat} {s x : State} (h : 0x304ffff &&& m = 0x304ffff) :
    Only m s (lcReset x) ↔ Only m s x := Only.iff (by simp [lcReset]) h

/-- Changes only: fwt, mac. -/
@[simp] theorem startTime_only {m : Nat} {s x : State} (h : 0x300 &&& m = 0x300) :
    Only m s (startTime x) ↔ Only m s x := Only.iff (by simp [startTime]) h

/-- Changes only: draws, store. -/
@[simp] theorem freshNonce_only {m : Nat} {s x : State} (h : 0x220000 &&& m = 0x220000) :
    Only m s (freshNonce x) ↔ Only m s x := Only.iff (by simp [freshNonce]) h

/-- Changes only: dev. -/
@[simp] theorem readIdentity_only {m : Nat} {s x : State} (h : 0x1 &&& m = 0x1) :
    Only m s (readIdentity x) ↔ Only m s x := Only.iff (by simp [readIdentity]) h

/-- Changes only: dev, out, pci, store, stw. -/
@[simp] theorem releasePerst_only {m : Nat} {s x : State} (a1) (h : 0xa4003 &&& m = 0xa4003) :
    Only m s (releasePerst x a1) ↔ Only m s x := Only.iff (by simp [releasePerst]) h

/-- Changes only: alm. -/
@[simp] theorem runDomains_only {m : Nat} {s x : State} (a1) (h : 0x10000 &&& m = 0x10000) :
    Only m s (runDomains x a1) ↔ Only m s x := Only.iff (by simp [runDomains]) h

/-- Changes only: alm, cip, cnt, dev, draws, fmg, fns, fw, fwt, grn, haul, life, limits, mac, pci, qm, seq, stg, store, stw,
sw, twn. -/
theorem execMainSupplyLoss_only {m : Nat} {s x : State} (h : 0x327ffff &&& m = 0x327ffff) :
    Only m s ((execMainSupplyLoss x).after x) ↔ Only m s x := Only.iff (by simp [execMainSupplyLoss]) h

/-- Changes only: alm, cip, cnt, dev, fmg, fns, fw, fwt, grn, haul, life, limits, mac, pci, qm, seq, stg, store, stw, sw, twn. -/
theorem execPerstAssert_only {m : Nat} {s x : State} (h : 0x307ffff &&& m = 0x307ffff) :
    Only m s ((execPerstAssert x).after x) ↔ Only m s x := Only.iff (by simp [execPerstAssert]) h

/-- Changes only: out. -/
theorem execSmbusClockLowTimeout_only {m : Nat} {s x : State} (h : 0x80000 &&& m = 0x80000) :
    Only m s ((execSmbusClockLowTimeout x).after x) ↔ Only m s x := Only.iff (by simp [execSmbusClockLowTimeout]) h

/-- Changes only: cnt, dev, grn. -/
theorem execSramWipeEnd_only {m : Nat} {s x : State} (h : 0x91 &&& m = 0x91) :
    Only m s ((execSramWipeEnd x).after x) ↔ Only m s x := Only.iff (by simp [execSramWipeEnd]) h

/-- Changes only: alm, cip, cnt, dev, draws, fmg, fw, fwt, grn, life, qm, seq, stg, store, stw, twn. -/
@[simp] theorem beginLcChange_only {m : Nat} {s x : State} (a1) (h : 0x127a9fb &&& m = 0x127a9fb) :
    Only m s (beginLcChange x a1) ↔ Only m s x := Only.iff (by simp [beginLcChange]) h

/-- Changes only: cnt, dev, grn, haul, mac, qm, seq, store. -/
@[simp] theorem startLibrary_only {m : Nat} {s x : State} (a1) (h : 0x212f1 &&& m = 0x212f1) :
    Only m s (startLibrary x a1) ↔ Only m s x := Only.iff (by
  unfold startLibrary
  simp only
  split <;> (rename_i hc; cases snd_of hc; simp)) h

/-- Changes only: alm, cip, cnt, dev, draws, fmg, fns, fw, fwt, grn, haul, life, limits, mac, out, pci, qm, seq, stg, store,
stw, sw, twn. -/
@[simp] theorem endLcChange_only {m : Nat} {s x : State} (a1) (h : 0x32fffff &&& m = 0x32fffff) :
    Only m s (endLcChange x a1) ↔ Only m s x := Only.iff (by simp only [endLcChange]; (repeat' split) <;> simp) h

theorem lcRun (x : State) (a0 a1 a2) : Only 0x12ffbff x (runCmd a0 0x0A05 [] false (firstBad [(0, decide (a1 ≤ 4)), (1, decide (a2.length = 96))])
      (fun s =>
        match lcAuthority s.alm.lcState a1 with
        | none => no s .refusedState
        | some owner =>
          if !lcQuiet s then no s .refusedState
          else if !authoritySigOk owner s.fw.ownerKey (lcDigest s a1) a2 then no s .failedAuth
          else bgOpen (beginLcChange s a1) (s.now + 60000000000)) x) := by
  refine runCmd_only _ _ _ _ _ (by simp) (Only.refl _ _) (fun y hy => ?_)
  cases lcAuthority y.alm.lcState a1 with
  | none => exact hy
  | some o => (repeat' split) <;> simp [hy]

/-- Changes only: alm, cip, cnt, dev, draws, fmg, fwt, grn, haul, mac, pci, qm, seq, store, stw. -/
@[simp] theorem startSteward_only {m : Nat} {s x : State} (a1) (h : 0x235bfb &&& m = 0x235bfb) :
    Only m s (startSteward x a1) ↔ Only m s x := Only.iff (by simp [startSteward]) h

/-- Changes only: alm, cip, cnt, dev, draws, fmg, fw, fwt, grn, haul, mac, pci, qm, seq, store, stw. -/
@[simp] theorem startUp_only {m : Nat} {s x : State} (a1) (h : 0x275bfb &&& m = 0x275bfb) :
    Only m s (startUp x a1) ↔ Only m s x := Only.iff (by simp [startUp]) h

/-- Changes only: alm, cip, cnt, dev, draws, fmg, fns, fw, fwt, grn, haul, life, limits, mac, out, pci, qm, seq, stg, store,
stw, sw, twn. -/
theorem execColdReset_only {m : Nat} {s x : State} (a0 a1 a2) (h : 0x32fffff &&& m = 0x32fffff) :
    Only m s ((execColdReset a0 a1 a2 x).after x) ↔ Only m s x := Only.iff (by simp [execColdReset]) h

/-- Changes only: alm, cip, cnt, dev, fmg, fns, fwt, grn, haul, mac, out, pci, qm, seq, stg, store, stw, twn. -/
theorem execHotReset_only {m : Nat} {s x : State} (h : 0xbfbff &&& m = 0xbfbff) :
    Only m s ((execHotReset x).after x) ↔ Only m s x := Only.iff (by simp [execHotReset]) h

/-- Changes only: alm, cip, cnt, dev, draws, fmg, fw, fwt, grn, haul, mac, out, pci, qm, seq, stg, store, stw. -/
theorem execPerstRelease_only {m : Nat} {s x : State} (a0 a1 a2) (h : 0x2f7bfb &&& m = 0x2f7bfb) :
    Only m s ((execPerstRelease a0 a1 a2 x).after x) ↔ Only m s x := Only.iff (by simp [execPerstRelease]) h

/-- Changes only: alm, cip, cnt, dev, fmg, fns, fwt, grn, haul, mac, out, pci, qm, seq, stg, store, stw, twn. -/
theorem execReferenceClockFault_only {m : Nat} {s x : State} (a0) (h : 0xbfbff &&& m = 0xbfbff) :
    Only m s ((execReferenceClockFault a0 x).after x) ↔ Only m s x := Only.iff (by simp [execReferenceClockFault]) h

/-- Changes only: alm, cip, cnt, dev, draws, fmg, fwt, grn, haul, life, mac, pci, qm, seq, store, stw. -/
@[simp] theorem lcAtStart_only {m : Nat} {s x : State} (h : 0x1235bfb &&& m = 0x1235bfb) :
    Only m s (lcAtStart x) ↔ Only m s x := Only.iff (by simp only [lcAtStart]; (repeat' split) <;> simp) h

/-- Changes only: alm, cip, cnt, dev, draws, fmg, fns, fw, fwt, grn, haul, life, limits, mac, out, pci, qm, seq, stg, store,
stw, sw, twn. -/
theorem execRldramWipeEnd_only {m : Nat} {s x : State} (h : 0x32fffff &&& m = 0x32fffff) :
    Only m s ((execRldramWipeEnd x).after x) ↔ Only m s x := Only.iff (by
  simp only [execRldramWipeEnd, Res_next_after]
  (repeat' split) <;> simp) h

/-- Changes only: cnt, dev, draws. -/
@[simp] theorem recheckEnd_only {m : Nat} {s x : State} (h : 0x200011 &&& m = 0x200011) :
    Only m s (recheckEnd x) ↔ Only m s x := Only.iff (by simp only [recheckEnd]; split <;> simp) h

/-- Changes only: alm, cip, cnt, dev, draws, fmg, fns, fw, fwt, grn, haul, mac, out, pci, qm, seq, stg, store, stw, twn. -/
theorem execStewardRestartComplete_only {m : Nat} {s x : State} (h : 0x2ffbff &&& m = 0x2ffbff) :
    Only m s ((execStewardRestartComplete x).after x) ↔ Only m s x := Only.iff (by
  simp only [execStewardRestartComplete, Res_next_after]
  split <;> simp) h

/-- Changes only: alm, cip, cnt, dev, draws, fmg, fns, fw, fwt, grn, haul, life, mac, out, pci, qm, seq, stg, store, stw, twn. -/
theorem execChangeLifeCycleState_only {m : Nat} {s x : State} (a0 a1 a2) (h : 0x12ffbff &&& m = 0x12ffbff) :
    Only m s ((execChangeLifeCycleState a0 a1 a2 x).after x) ↔ Only m s x := Only.iff (by
  have := lcRun x a0 a1 a2
  simp only [execChangeLifeCycleState, Res_next_after]
  split
  · exact this
  · split
    · exact this
    · exact (freshNonce_only (by simp)).mpr this) h

/-! ## Clock -/

/-- Changes only: cip, draws. -/
@[simp] theorem renewKek_only {m : Nat} {s x : State} (h : 0x200800 &&& m = 0x200800) :
    Only m s (renewKek x) ↔ Only m s x := Only.iff (by simp [renewKek]) h

/-- Changes only: fwt, mac. -/
@[simp] theorem runTime_only {m : Nat} {s x : State} (h : 0x300 &&& m = 0x300) :
    Only m s (runTime x) ↔ Only m s x := Only.iff (by simp [runTime]) h

/-- Changes only: alm, cip, cnt, dev, draws, fmg, fns, fw, fwt, grn, haul, mac, now, out, pci, qm, seq, stg, store, stw, twn. -/
@[simp] theorem tickNs_only {m : Nat} {s x : State} (h : 0x3ffbff &&& m = 0x3ffbff) :
    Only m s (tickNs x) ↔ Only m s x := Only.iff (by simp [tickNs]) h

/-! ## CntCmds -/

/-- Changes only: cnt. -/
@[simp] theorem execCntSnapWrite_only {m : Nat} {s x : State} (a0) (h : 0x10 &&& m = 0x10) :
    Only m s ((execCntSnapWrite a0 x).after x) ↔ Only m s x := Only.iff (by simp [execCntSnapWrite]) h

/-- Changes only: stw. -/
@[simp] theorem stampSnapshot_only {m : Nat} {s x : State} (a1) (h : 0x2 &&& m = 0x2) :
    Only m s (stampSnapshot x a1) ↔ Only m s x := Only.iff (by simp [stampSnapshot]) h

/-- Changes only: cnt, haul, seq. -/
theorem execCrierExport_only {m : Nat} {s x : State} (h : 0x1030 &&& m = 0x1030) :
    Only m s ((execCrierExport x).after x) ↔ Only m s x := Only.iff (by
  simp only [execCrierExport, Res_next_after]
  split <;> simp) h

/-- Changes only: cnt. -/
theorem execSnapshotCopyComplete_only {m : Nat} {s x : State} (h : 0x10 &&& m = 0x10) :
    Only m s ((execSnapshotCopyComplete x).after x) ↔ Only m s x := Only.iff (by simp [execSnapshotCopyComplete]) h

/-- Changes only: cip, cnt, dev, fmg, fns, fwt, grn, haul, mac, out, pci, qm, seq, stw, twn. -/
@[simp] theorem execSnapshotCounters_only {m : Nat} {s x : State} (a0 a1) (h : 0x8dbff &&& m = 0x8dbff) :
    Only m s ((execSnapshotCounters a0 a1 x).after x) ↔ Only m s x := Only.iff (by simp [execSnapshotCounters]) h

/-- Changes only: cip, cnt, dev, fmg, fns, fwt, grn, haul, mac, out, pci, qm, seq, stw, twn. -/
theorem execConfigureCrier_only {m : Nat} {s x : State} (a0 a1 a2 a3 a4 a5 a6) (h : 0x8dbff &&& m = 0x8dbff) :
    Only m s ((execConfigureCrier a0 a1 a2 a3 a4 a5 a6 x).after x) ↔ Only m s x := Only.iff (by
  simp only [execConfigureCrier, Res_next_after]
  exact runCmd_only _ _ _ _ _ (by simp) (Only.refl _ _) (fun y hy => by simp [hy])) h

/-- Changes only: cip, cnt, dev, fmg, fns, fwt, grn, haul, mac, out, pci, qm, seq, stw, twn. -/
theorem execSetTraceSampling_only {m : Nat} {s x : State} (a0 a1 a2) (h : 0x8dbff &&& m = 0x8dbff) :
    Only m s ((execSetTraceSampling a0 a1 a2 x).after x) ↔ Only m s x := Only.iff (by
  simp only [execSetTraceSampling, Res_next_after]
  exact runCmd_only _ _ _ _ _ (by simp) (Only.refl _ _) (fun y hy => by simp [hy])) h

/-- Changes only: cip, cnt, dev, fmg, fns, fwt, grn, haul, mac, out, pci, qm, seq, stw, twn. -/
theorem execStartOrStopExport_only {m : Nat} {s x : State} (a0 a1) (h : 0x8dbff &&& m = 0x8dbff) :
    Only m s ((execStartOrStopExport a0 a1 x).after x) ↔ Only m s x := Only.iff (by
  simp only [execStartOrStopExport, Res_next_after]
  exact runCmd_only _ _ _ _ _ (by simp) (Only.refl _ _) (fun y hy => by simp [hy])) h

/-! ## Compat -/

/-- Changes only: cnt, stw. -/
@[simp] theorem compatArrives_only {m : Nat} {s x : State} (a1 a2) (h : 0x12 &&& m = 0x12) :
    Only m s (compatArrives x a1 a2) ↔ Only m s x := Only.iff (by simp [compatArrives]) h

/-- Changes only: cip, cnt, dev, draws, fmg, fns, fwt, grn, haul, limits, mac, out, pci, qm, seq, stg, store, stw, sw, twn. -/
@[simp] theorem runNative_only {m : Nat} {s x : State} (a0) (h : 0x22affff &&& m = 0x22affff) :
    Only m s (runNative a0 x) ↔ Only m s x := Only.iff (by unfold runNative; split <;> simp) h

/-- Changes only: cip, cnt, dev, draws, fmg, fns, fwt, grn, haul, limits, mac, out, pci, qm, seq, stg, store, stw, sw, twn. -/
theorem execCompatibilityPacket_only {m : Nat} {s x : State} (a0 a1 a2) (h : 0x22affff &&& m = 0x22affff) :
    Only m s ((execCompatibilityPacket a0 a1 a2 x).after x) ↔ Only m s x := Only.iff (by
  simp only [execCompatibilityPacket, Res_next_after]
  (repeat' split) <;> simp) h

/-! ## Deliver -/

/-- Changes only: grn, mac. -/
@[simp] theorem dropCopy_only {m : Nat} {s x : State} (a1 a2) (h : 0x280 &&& m = 0x280) :
    Only m s (dropCopy x a1 a2).2 ↔ Only m s x := Only.iff (by unfold dropCopy; split <;> simp) h

/-- Changes only: grn, seq. -/
@[simp] theorem placeLoop_only {m : Nat} {s x : State} (a1 a2 a3 a4 a5 a6) (h : 0xa0 &&& m = 0xa0) :
    Only m s (placeLoop x a1 a2 a3 a4 a5 a6).2 ↔ Only m s x := Only.iff (by
  simp only [placeLoop]
  (repeat' split) <;> simp) h

/-- Changes only: cnt, draws, grn, out, pci, seq. -/
@[simp] theorem parkRead_only {m : Nat} {s x : State} (a1 a2) (h : 0x2840b0 &&& m = 0x2840b0) :
    Only m s (parkRead x a1 a2) ↔ Only m s x := Only.iff (by simp [parkRead]) h

/-- Changes only: cip, cnt, dev, fmg, fns, fwt, grn, haul, mac, out, qm, seq. -/
@[simp] theorem postFills_only {m : Nat} {s x : State} (a1) (h : 0x81bfd &&& m = 0x81bfd) :
    Only m s (postFills x a1) ↔ Only m s x := Only.iff (by simp [postFills]) h

/-- Changes only: cip, cnt, dev, fmg, fns, fwt, grn, haul, mac, out, pci, qm, seq. -/
@[simp] theorem deliver_only {m : Nat} {s x : State} (a1 a2 a3 a4) (h : 0x85bfd &&& m = 0x85bfd) :
    Only m s (deliver x a1 a2 a3 a4) ↔ Only m s x := Only.iff (by simp [deliver]) h

/-- Changes only: cnt, dev, draws, grn, mac, seq. -/
@[simp] theorem classCopy_only {m : Nat} {s x : State} (a1 a2 a3 a4) (h : 0x2002b1 &&& m = 0x2002b1) :
    Only m s (classCopy x a1 a2 a3 a4).2 ↔ Only m s x := Only.iff (by
  unfold classCopy
  simp only
  split
  · simp
  · split
    · rename_i hc; replace hc := congrArg Prod.snd hc; dsimp only at hc; subst hc; simp
    · rename_i hc; replace hc := congrArg Prod.snd hc; dsimp only at hc; subst hc; split <;> simp) h

/-- Changes only: cnt, dev, draws, grn, mac, seq. -/
@[simp] theorem loopCopy_only {m : Nat} {s x : State} (a1 a2 a3 a4) (h : 0x2002b1 &&& m = 0x2002b1) :
    Only m s (loopCopy x a1 a2 a3 a4).2 ↔ Only m s x := Only.iff (by
  unfold loopCopy
  simp only
  split
  · simp
  · split
    · rename_i hc; replace hc := congrArg Prod.snd hc; dsimp only at hc; subst hc; simp
    · rename_i hc; replace hc := congrArg Prod.snd hc; dsimp only at hc; subst hc; simp) h

theorem copyAll_base (x : State) (p : Nat) (k : Pkt) (mark : Bool) (bs : List PByte) (l : List Nat) :
    Only 0x2002b1 x (copyAll x p k mark bs l).2 := by
  induction l generalizing x with
  | nil => simp [copyAll]
  | cons a t ih =>
    unfold copyAll
    simp only
    refine (Only.iff (ih _) rfl).mpr ?_
    split <;> split <;> simp

/-- Changes only: cnt, dev, draws, grn, mac, seq. -/
@[simp] theorem copyAll_only {m : Nat} {s x : State} (a1 a2 a3 a4 a5) (h : 0x2002b1 &&& m = 0x2002b1) :
    Only m s (copyAll x a1 a2 a3 a4 a5).2 ↔ Only m s x := Only.iff (copyAll_base _ _ _ _ _ _) h

/-- Changes only: cip, cnt, dev, draws, fmg, fns, fwt, grn, haul, mac, out, pci, qm, seq, stg, twn. -/
theorem execDmarRead_only {m : Nat} {s x : State} (a0 a1) (h : 0x28fbfd &&& m = 0x28fbfd) :
    Only m s ((execDmarRead a0 a1 x).after x) ↔ Only m s x := Only.iff (by simp [execDmarRead]) h

/-- Changes only: cip, cnt, dev, fmg, fns, fwt, grn, haul, mac, out, pci, qm, seq, stg, twn. -/
theorem execDmawDeliver_only {m : Nat} {s x : State} (a0 a1) (h : 0x8fbfd &&& m = 0x8fbfd) :
    Only m s ((execDmawDeliver a0 a1 x).after x) ↔ Only m s x := Only.iff (by
  simp only [execDmawDeliver, Res_next_after]
  refine withStep_only _ _ _ _ (by simp) (by simp) (Only.refl _ _) (fun y => ?_)
  (repeat' split) <;> simp) h

/-- Changes only: cnt, dev, draws, grn, mac, seq, sw. -/
@[simp] theorem sessionCopy_only {m : Nat} {s x : State} (a1 a2 a3 a4) (h : 0x2006b1 &&& m = 0x2006b1) :
    Only m s (sessionCopy x a1 a2 a3 a4) ↔ Only m s x := Only.iff (by simp [sessionCopy]) h

/-- Changes only: cip, cnt, dev, fmg, fns, fwt, grn, haul, mac, out, pci, qm, seq, stg, twn. -/
@[simp] theorem xmitStep_only {m : Nat} {s x : State} {f} (a1 a2 a3) (h : 0x8fbfd &&& m = 0x8fbfd) (hx : Only m s x)
    (hf : ∀ i b, Only m s (f i b)) : Only m s (xmitStep a1 a2 a3 x f) := by
  have a : 0xb1 &&& m = 0xb1 := sub_trans rfl h
  have b : 0x20 &&& m = 0x20 := sub_trans rfl h
  have c : 0x14 &&& m = 0x14 := sub_trans rfl h
  refine withStep_only _ _ _ _ (by simp [h, hx]) (by simp [b, hx]) hx (fun y => ?_)
  rw [unitGate_only, poisonGate_only]
  exact ⟨fun _ => by simp [a, c, hx], fun _ => ⟨fun _ => by simp [a, hx], fun _ => hf _ _⟩⟩

/-- Changes only: cip, cnt, dev, fmg, fns, fwt, grn, haul, mac, out, pci, qm, seq, stg, twn. -/
theorem execXmitClass_only {m : Nat} {s x : State} (a0 a1) (h : 0x8fbfd &&& m = 0x8fbfd) :
    Only m s ((execXmitClass a0 a1 x).after x) ↔ Only m s x := Only.iff (by
  simp only [execXmitClass, Res_next_after]
  refine xmitStep_only _ _ _ (by simp) (Only.refl _ _) (fun y c => ?_)
  (repeat' split) <;> simp) h

/-- Changes only: cip, cnt, dev, fmg, fns, fwt, grn, haul, mac, out, pci, qm, seq, stg, twn. -/
theorem execXmitLoop_only {m : Nat} {s x : State} (a0 a1) (h : 0x8fbfd &&& m = 0x8fbfd) :
    Only m s ((execXmitLoop a0 a1 x).after x) ↔ Only m s x := Only.iff (by
  simp only [execXmitLoop, Res_next_after]
  refine xmitStep_only _ _ _ (by simp) (Only.refl _ _) (fun y c => ?_)
  (repeat' split) <;> simp) h

/-- Changes only: cip, cnt, dev, draws, fmg, fns, fwt, grn, haul, mac, out, pci, qm, seq, stg, sw, twn. -/
theorem execXmitMirror_only {m : Nat} {s x : State} (a0 a1) (h : 0x28fffd &&& m = 0x28fffd) :
    Only m s ((execXmitMirror a0 a1 x).after x) ↔ Only m s x := Only.iff (by
  simp only [execXmitMirror, Res_next_after]
  refine xmitStep_only _ _ _ (by simp) (Only.refl _ _) (fun y c => ?_)
  (repeat' split) <;> simp) h

/-! ## Selectors -/

/-- Changes only: fwt. -/
@[simp] theorem execFwtGrantSelWrite_only {m : Nat} {s x : State} (a0) (h : 0x100 &&& m = 0x100) :
    Only m s ((execFwtGrantSelWrite a0 x).after x) ↔ Only m s x := Only.iff (by simp [execFwtGrantSelWrite]) h

/-- Changes only: draws, fwt. -/
@[simp] theorem execFwtOvfSelWrite_only {m : Nat} {s x : State} (a0) (h : 0x200100 &&& m = 0x200100) :
    Only m s ((execFwtOvfSelWrite a0 x).after x) ↔ Only m s x := Only.iff (by simp [execFwtOvfSelWrite]) h

/-- Changes only: cip. -/
@[simp] theorem execCipSaSelWrite_only {m : Nat} {s x : State} (a0) (h : 0x800 &&& m = 0x800) :
    Only m s ((execCipSaSelWrite a0 x).after x) ↔ Only m s x := Only.iff (by simp [execCipSaSelWrite]) h

/-- Changes only: cip. -/
@[simp] theorem execCipGrantSelWrite_only {m : Nat} {s x : State} (a0) (h : 0x800 &&& m = 0x800) :
    Only m s ((execCipGrantSelWrite a0 x).after x) ↔ Only m s x := Only.iff (by simp [execCipGrantSelWrite]) h

/-- Changes only: stg. -/
@[simp] theorem execStgConnSelWrite_only {m : Nat} {s x : State} (a0) (h : 0x2000 &&& m = 0x2000) :
    Only m s ((execStgConnSelWrite a0 x).after x) ↔ Only m s x := Only.iff (by simp [execStgConnSelWrite]) h

/-- Changes only: stg. -/
@[simp] theorem execStgGrantSelWrite_only {m : Nat} {s x : State} (a0) (h : 0x2000 &&& m = 0x2000) :
    Only m s ((execStgGrantSelWrite a0 x).after x) ↔ Only m s x := Only.iff (by simp [execStgGrantSelWrite]) h

/-- Changes only: fmg. -/
@[simp] theorem execFnSelWrite_only {m : Nat} {s x : State} (a0) (h : 0x8 &&& m = 0x8) :
    Only m s ((execFnSelWrite a0 x).after x) ↔ Only m s x := Only.iff (by simp [execFnSelWrite]) h

/-! ## Regs -/

/-- Changes only: out, pci. -/
@[simp] theorem writeMsix_only {m : Nat} {s x : State} (a1 a2 a3 a4 a5) (h : 0x84000 &&& m = 0x84000) :
    Only m s (writeMsix x a1 a2 a3 a4 a5) ↔ Only m s x := Only.iff (by simp [writeMsix]) h

/-- Changes only: cnt. -/
@[simp] theorem denyWrite_only {m : Nat} {s x : State} (a1) (h : 0x10 &&& m = 0x10) :
    Only m s (denyWrite x a1) ↔ Only m s x := Only.iff (by simp [denyWrite]) h

/-- Changes only: cnt, stw. -/
@[simp] theorem writeAdmCfg_only {m : Nat} {s x : State} (a1) (h : 0x12 &&& m = 0x12) :
    Only m s (writeAdmCfg x a1) ↔ Only m s x := Only.iff (by simp [writeAdmCfg]) h

/-- Changes only: cnt, fw, stw. -/
@[simp] theorem writeStw_only {m : Nat} {s x : State} (a1 a2) (h : 0x40012 &&& m = 0x40012) :
    Only m s (writeStw x a1 a2) ↔ Only m s x := Only.iff (by unfold writeStw; split <;> simp) h

/-- Changes only: seq. -/
@[simp] theorem writeBank_only {m : Nat} {s x : State} (a1 a2) (h : 0x20 &&& m = 0x20) :
    Only m s (writeBank x a1 a2) ↔ Only m s x := Only.iff (by simp [writeBank]) h

/-- Changes only: cnt, dev, grn, haul, mac, out, qm, seq, twn. -/
@[simp] theorem writeSeq_only {m : Nat} {s x : State} (a1 a2 a3) (h : 0x892f1 &&& m = 0x892f1) :
    Only m s (writeSeq x a1 a2 a3) ↔ Only m s x := Only.iff (by unfold writeSeq; split <;> simp) h

/-- Changes only: cnt, draws, fwt, grn, limits. -/
@[simp] theorem writeStore_only {m : Nat} {s x : State} (a1 a2) (h : 0x2200190 &&& m = 0x2200190) :
    Only m s (writeStore x a1 a2) ↔ Only m s x := Only.iff (by unfold writeStore; split <;> simp) h

/-- Changes only: cnt, dev, mac. -/
@[simp] theorem writeMac_only {m : Nat} {s x : State} (a1 a2) (h : 0x211 &&& m = 0x211) :
    Only m s (writeMac x a1 a2) ↔ Only m s x := Only.iff (by unfold writeMac; split <;> simp) h

/-- Changes only: cip, cnt, fmg, limits, stg, twn. -/
@[simp] theorem writeUnits_only {m : Nat} {s x : State} (a1 a2) (h : 0x200a818 &&& m = 0x200a818) :
    Only m s (writeUnits x a1 a2) ↔ Only m s x := Only.iff (by unfold writeUnits; split <;> simp) h

/-- Changes only: alm, cnt, fw, limits, store, stw. -/
@[simp] theorem writeAlm_only {m : Nat} {s x : State} (a1 a2) (h : 0x2070012 &&& m = 0x2070012) :
    Only m s (writeAlm x a1 a2) ↔ Only m s x := Only.iff (by unfold writeAlm; split <;> simp) h

/-- Changes only: fns. -/
@[simp] theorem writeMbx_only {m : Nat} {s x : State} (a1 a2 a3) (h : 0x4 &&& m = 0x4) :
    Only m s (writeMbx x a1 a2 a3) ↔ Only m s x := Only.iff (by simp [writeMbx]) h

/-- Changes only: pci. -/
@[simp] theorem cfgTimeout_only {m : Nat} {s x : State} (a1 a2) (h : 0x4000 &&& m = 0x4000) :
    Only m s (cfgTimeout x a1 a2) ↔ Only m s x := Only.iff (by unfold cfgTimeout; split <;> simp) h

/-- Changes only: out, pci. -/
@[simp] theorem cfgMsix_only {m : Nat} {s x : State} (a1 a2) (h : 0x84000 &&& m = 0x84000) :
    Only m s (cfgMsix x a1 a2) ↔ Only m s x := Only.iff (by simp [cfgMsix]) h

/-- Changes only: pci. -/
@[simp] theorem cfgVfBar_only {m : Nat} {s x : State} (a1 a2 a3 a4) (h : 0x4000 &&& m = 0x4000) :
    Only m s (cfgVfBar x a1 a2 a3 a4) ↔ Only m s x := Only.iff (by simp [cfgVfBar]) h

/-- Changes only: pci. -/
@[simp] theorem cfgSeen_only {m : Nat} {s x : State} (a1 a2) (h : 0x4000 &&& m = 0x4000) :
    Only m s (cfgSeen x a1 a2) ↔ Only m s x := Only.iff (by simp [cfgSeen]) h

/-- Changes only: cip, cnt, dev, fmg, fns, fwt, grn, haul, mac, qm, seq. -/
@[simp] theorem writeFn_only {m : Nat} {s x : State} (a1 a2 a3) (h : 0x1bfd &&& m = 0x1bfd) :
    Only m s (writeFn x a1 a2 a3) ↔ Only m s x := Only.iff (by unfold writeFn; split <;> simp) h

/-- Changes only: alm, cip, cnt, dev, draws, fmg, fns, fw, fwt, grn, haul, limits, mac, out, qm, seq, stg, store, stw, twn. -/
@[simp] theorem writeReg_only {m : Nat} {s x : State} (a1 a2 a3) (h : 0x22fbbff &&& m = 0x22fbbff) :
    Only m s (writeReg x a1 a2 a3) ↔ Only m s x := Only.iff (by unfold writeReg; split <;> simp) h

/-- Changes only: cnt, dev, draws, grn, haul, mac, out, pci, qm, seq. -/
@[simp] theorem cfgCommand_only {m : Nat} {s x : State} (a1 a2) (h : 0x2852f1 &&& m = 0x2852f1) :
    Only m s (cfgCommand x a1 a2) ↔ Only m s x := Only.iff (by unfold cfgCommand; (repeat' split) <;> simp) h

/-- Changes only: alm, cnt, dev, draws, fmg, grn, haul, mac, out, pci, qm, seq, store, stw, twn. -/
@[simp] theorem cfgPower_only {m : Nat} {s x : State} (a1 a2 a3) (h : 0x2bd2fb &&& m = 0x2bd2fb) :
    Only m s (cfgPower x a1 a2 a3) ↔ Only m s x := Only.iff (by unfold cfgPower; (repeat' split) <;> simp) h

/-- Changes only: cip, cnt, dev, fmg, fns, fwt, grn, haul, mac, out, pci, qm, seq, stg, stw, twn. -/
@[simp] theorem cfgSriov_only {m : Nat} {s x : State} (a1) (h : 0x8fbff &&& m = 0x8fbff) :
    Only m s (cfgSriov x a1) ↔ Only m s x := Only.iff (by unfold cfgSriov; split <;> simp) h

/-- Changes only: alm, cip, cnt, dev, draws, fmg, fns, fwt, grn, haul, mac, out, pci, qm, seq, stg, store, stw, twn. -/
@[simp] theorem cfgAct_only {m : Nat} {s x : State} (a1 a2 a3 a4) (h : 0x2bfbff &&& m = 0x2bfbff) :
    Only m s (cfgAct x a1 a2 a3 a4) ↔ Only m s x := Only.iff (by simp only [cfgAct]; (repeat' split) <;> simp) h

/-- Changes only: alm, cip, cnt, dev, draws, fmg, fns, fwt, grn, haul, mac, out, pci, qm, seq, stg, store, stw, twn. -/
@[simp] theorem writeConfig_only {m : Nat} {s x : State} (a1 a2 a3 a4) (h : 0x2bfbff &&& m = 0x2bfbff) :
    Only m s (writeConfig x a1 a2 a3 a4) ↔ Only m s x := Only.iff (by simp [writeConfig]) h

/-- Changes only: alm, cip, cnt, dev, draws, fmg, fns, fw, fwt, grn, haul, limits, mac, out, pci, qm, seq, stg, store, stw, twn. -/
@[simp] theorem barWrite_only {m : Nat} {s x : State} (a1 a2 a3 a4) (h : 0x22ffbff &&& m = 0x22ffbff) :
    Only m s (barWrite x a1 a2 a3 a4) ↔ Only m s x := Only.iff (by unfold barWrite; split <;> simp) h

/-- Changes only: alm, cip, cnt, dev, draws, fmg, fns, fw, fwt, grn, haul, limits, mac, out, pci, qm, seq, stg, store, stw, twn. -/
theorem execRegisterWrite_only {m : Nat} {s x : State} (a1 a2 a3 a4) (h : 0x22ffbff &&& m = 0x22ffbff) :
    Only m s ((execRegisterWrite a1 a2 a3 a4 x).after x) ↔ Only m s x := Only.iff (by
  simp only [execRegisterWrite, Res_next_after]
  (repeat' split) <;> simp) h

/-! ## Spdm -/

/-- Changes only: draws. -/
@[simp] theorem drawScalar_only {m : Nat} {s x : State} (h : 0x200000 &&& m = 0x200000) :
    Only m s (drawScalar x).2 ↔ Only m s x := Only.iff (by simp [drawScalar]) h

/-- Changes only: out. -/
@[simp] theorem spdmSend_only {m : Nat} {s x : State} (a1 a2 a3 a4 a5) (h : 0x80000 &&& m = 0x80000) :
    Only m s (spdmSend x a1 a2 a3 a4 a5) ↔ Only m s x := Only.iff (by simp [spdmSend]) h

/-- Changes only: out. -/
@[simp] theorem spdmError_only {m : Nat} {s x : State} (a1 a2) (h : 0x80000 &&& m = 0x80000) :
    Only m s (spdmError x a1 a2) ↔ Only m s x := Only.iff (by simp [spdmError]) h

/-- Changes only: draws. -/
@[simp] theorem spdmNonce_only {m : Nat} {s x : State} (h : 0x200000 &&& m = 0x200000) :
    Only m s (spdmNonce x).2 ↔ Only m s x := Only.iff (by simp [spdmNonce]) h

/-- Changes only: draws, out. -/
@[simp] theorem spdmSigned_only {m : Nat} {s x : State} (a1 a2 a3 a4 a5 a6) (h : 0x280000 &&& m = 0x280000) :
    Only m s (spdmSigned x a1 a2 a3 a4 a5 a6) ↔ Only m s x := Only.iff (by simp [spdmSigned]) h

/-- Changes only: draws, out. -/
theorem execGetMeasurements_only {m : Nat} {s x : State} (a0 a1 a2) (h : 0x280000 &&& m = 0x280000) :
    Only m s ((execGetMeasurements a0 a1 a2 x).after x) ↔ Only m s x := Only.iff (by simp [execGetMeasurements]) h

/-- Changes only: cnt, dev, draws, fw, out. -/
theorem execKeyExchange_only {m : Nat} {s x : State} (a0 a1 a2) (h : 0x2c0011 &&& m = 0x2c0011) :
    Only m s ((execKeyExchange a0 a1 a2 x).after x) ↔ Only m s x := Only.iff (by simp [execKeyExchange]) h

/-- Changes only: draws, out. -/
theorem execSpdmChallenge_only {m : Nat} {s x : State} (a0 a1) (h : 0x280000 &&& m = 0x280000) :
    Only m s ((execSpdmChallenge a0 a1 x).after x) ↔ Only m s x := Only.iff (by simp [execSpdmChallenge]) h

/-- Changes only: out. -/
theorem execSpdmGetCertificate_only {m : Nat} {s x : State} (a0 a1 a2) (h : 0x80000 &&& m = 0x80000) :
    Only m s ((execSpdmGetCertificate a0 a1 a2 x).after x) ↔ Only m s x := Only.iff (by
  simp [execSpdmGetCertificate]) h

/-! ## TwinPath -/

theorem applyWaiting_base (x : State) (n : Nat) : Only 0x22affff x (applyWaiting n x) := by
  induction n generalizing x with
  | zero => simp [applyWaiting]
  | succ n ih =>
    unfold applyWaiting
    split
    · exact (Only.iff (ih _) rfl).mpr (by simp)
    · simp

/-- Changes only: cip, cnt, dev, draws, fmg, fns, fwt, grn, haul, limits, mac, out, pci, qm, seq, stg, store, stw, sw, twn. -/
@[simp] theorem applyWaiting_only {m : Nat} {s x : State} (a1) (h : 0x22affff &&& m = 0x22affff) :
    Only m s (applyWaiting a1 x) ↔ Only m s x := Only.iff (applyWaiting_base _ _) h

/-- Changes only: cip, cnt, dev, draws, fmg, fns, fwt, grn, haul, limits, mac, out, pci, qm, seq, stg, store, stw, sw, twn. -/
@[simp] theorem startTakeover_only {m : Nat} {s x : State} (h : 0x22affff &&& m = 0x22affff) :
    Only m s (startTakeover x) ↔ Only m s x := Only.iff (by simp [startTakeover]) h

/-- Changes only: cip, cnt, dev, draws, fmg, fns, fwt, grn, haul, limits, mac, out, pci, qm, seq, stg, store, stw, sw, twn. -/
@[simp] theorem declareLoss_only {m : Nat} {s x : State} (a1) (h : 0x22affff &&& m = 0x22affff) :
    Only m s (declareLoss x a1) ↔ Only m s x := Only.iff (by simp [declareLoss]) h

/-- Changes only: cip, cnt, dev, draws, fmg, fns, fwt, grn, haul, limits, mac, out, pci, qm, seq, stg, store, stw, sw, twn. -/
theorem execHeartbeatWindowEnd_only {m : Nat} {s x : State} (h : 0x22affff &&& m = 0x22affff) :
    Only m s ((execHeartbeatWindowEnd x).after x) ↔ Only m s x := Only.iff (by simp [execHeartbeatWindowEnd]) h

/-- Changes only: cip, cnt, dev, draws, fmg, fns, fwt, grn, haul, limits, mac, out, pci, qm, seq, stg, store, stw, sw, twn. -/
theorem execMirroredCommand_only {m : Nat} {s x : State} (a0 a1) (h : 0x22affff &&& m = 0x22affff) :
    Only m s ((execMirroredCommand a0 a1 x).after x) ↔ Only m s x := Only.iff (by simp [execMirroredCommand]) h

end Sys2Proof.Machine
end

