-- ==== Sys2Proof/Laws/Haul.lean ====
section
/-! SUPPORT. What every descriptor of a run goes through, said once: a descriptor that is fit does its operation, and then
its events and the run's next step follow. -/

namespace Sys2Proof.Machine

variable {s b : State} {n op fid : Nat} {inp : HaulIn} {d : HDesc}

/-- A fit descriptor passes its checks. -/
theorem checkDesc_fit (h : descFit s n fid d = true) (f : State) : checkDesc s n fid d f = f := by
  simp only [descFit, Bool.and_eq_true, Bool.or_eq_true, Bool.not_eq_true', decide_eq_true_eq] at h
  obtain ⟨⟨⟨⟨⟨⟨⟨⟨⟨⟨h1, h2⟩, h3⟩, h4⟩, h5⟩, h6⟩, h7⟩, h8⟩, h9⟩, h10⟩, h11⟩ := h
  have hv : rangeViol s fid d = none := by cases hx : rangeViol s fid d <;> simp_all
  have h8' : ¬ (chanOf s n).descLimit ≤ (chanOf s n).done := by omega
  have ht : (isTblOp d.op && decide (fid ≠ 0xFFF) && !(fnOf s fid).rawTable) = false := by
    rcases h5 with (h5 | h5) | h5 <;> simp [h5]
  have hw : (d.half && decide ((chanOf s n).halfPosted ≠ (chanOf s n).halfAcked)) = false := by
    rcases h9 with h9 | h9 <;> simp [h9]
  have hf : (d.full && decide ((chanOf s n).fullPosted ≠ (chanOf s n).fullAcked)) = false := by
    rcases h10 with h10 | h10 <;> simp [h10]
  have hm : ((decide (d.src.1 = 1) || decide (d.dst.1 = 1)) && !mayIssue s fid) = false := by
    rcases h11 with h11 | h11 <;> simp_all
  simp only [checkDesc, h1, hv, h3, h4, ht, h6, h7, h8', hw, hf, hm]
  simp

/-- A running channel executes its descriptor as the operation's own rules say. -/
theorem runDesc_hauls (h : Hauls s b n op inp fid d) (f : State → Nat → HDesc → OpEnd × State)
    (hw : ∀ p, (f b fid d).1 ≠ .wait p) :
    runDesc op n inp s f = afterOp (f b fid d).2 n fid d (f b fid d).1 := by
  obtain ⟨h1, h2, h3, h4, ⟨bs, h5, h6⟩, h7, h8⟩ := h
  subst h4 h7
  have hu : (chanOf s n).unit.isNone = false := by cases hx : (chanOf s n).unit <;> simp_all
  unfold runDesc
  simp only [h1, hu, h3, h5, ← h6, checkDesc_fit h8]
  split
  · simp_all
  · split
    · simp_all
    · split
      · simp_all
      · rename_i e; simp_all

/-- The same, for an operation whose end is known. -/
theorem runDesc_ends (h : Hauls s b n op inp fid d) {f : State → Nat → HDesc → OpEnd × State} {e : OpEnd} {c : State}
    (hf : f b fid d = (e, c)) (hw : ∀ p, e ≠ .wait p) : runDesc op n inp s f = afterOp c n fid d e := by
  rw [runDesc_hauls h f (by rw [hf]; exact hw), hf]

/-- A table operation that a stopped RLDRAM domain holds up leaves its descriptor to be reached again. -/
theorem runDesc_waits (h : Hauls s b n op inp fid d) {f : State → Nat → HDesc → OpEnd × State} {p : Nat} {c : State}
    (hf : f b fid d = (.wait p, c)) : runDesc op n inp s f = touchRld s p := by
  obtain ⟨h1, h2, h3, h4, ⟨bs, h5, h6⟩, h7, h8⟩ := h
  subst h4 h7
  have hu : (chanOf s n).unit.isNone = false := by cases hx : (chanOf s n).unit <;> simp_all
  unfold runDesc
  simp only [h1, hu, h3, h5, ← h6, checkDesc_fit h8, hf]
  simp

/-- An operation acts on the bucket of a table that it reaches. -/
theorem withBucket_reaches {c : State} {p t : Nat} (h : Reaches s c p t) (f : State → OpEnd × State) :
    withBucket s p t f = f c := by
  obtain ⟨x, h1, ⟨h2, rfl⟩ | ⟨h2, h3, rfl⟩⟩ := h <;> simp [withBucket, *]

/-- A stopped RLDRAM domain holds an operation on its buckets up. -/
theorem withBucket_stopped {x : FTable} {p t : Nat} (h1 : tableOf s t = some x) (h2 : x.hot = false)
    (h3 : domainRuns s (19 + p / 2) = false) (f : State → OpEnd × State) : withBucket s p t f = (.wait p, s) := by
  simp [withBucket, *]

end Sys2Proof.Machine
end

