-- ==== Sys2Proof/Laws/Queue.lean ====
section
/-! SUPPORT. Ring numbers: a create finds one where one is free. -/

namespace Sys2Proof.Machine

/-- Where some ring number is free, a create finds a free one, whichever the part picks. -/
theorem freeRing_some {α : Type} (s : State) (t : Tbl α) (h : ∃ k, k < 16384 ∧ tget t k = none) :
    ∃ n, n < 16384 ∧ tget t n = none ∧ freeRing s t = (some n, { s with draws := s.draws + 1 }) := by
  obtain ⟨k, hk, hn⟩ := h
  obtain ⟨x, j, a, -, c⟩ := scanFrom_some (fun i => let n := (Sys2Proof.Config.ringPick s.draws + i) % 16384
    if (tget t n).isNone then some n else none) 16384 0 ((k + (16384 - Sys2Proof.Config.ringPick s.draws % 16384)) % 16384)
    (by omega) (by omega) (by
      have h1 : (Sys2Proof.Config.ringPick s.draws + (k + (16384 - Sys2Proof.Config.ringPick s.draws % 16384)) % 16384)
        % 16384 = k := by omega
      simp [h1, hn])
  simp only at c
  split at c
  · rename_i h
    injection c with c
    subst c
    exact ⟨(Sys2Proof.Config.ringPick s.draws + j) % 16384, Nat.mod_lt _ (by decide), by simpa using h,
      by unfold freeRing; simp only [draw]; exact Prod.ext a rfl⟩
  · cases c

end Sys2Proof.Machine
end

