-- ==== Sys2Proof/Laws/Reply.lean ====
section
/-! SUPPORT. What every Steward command goes through, said once: a command that is accepted answers what its own rules
answer. -/

namespace Sys2Proof.Machine

variable {s : State} {m : Meta} {op : Nat} {objs : List Obj} {rld : Bool} {f : State → CmdOut}

theorem takeAccepted_snd (s : State) (m : Meta) (op : Nat) :
    ∃ l r, (takeAccepted s m op).2 = { s with stw := { s.stw with accepted := l, rldAt := r } } := by
  cases h : acceptedOf s m op with
  | some a => exact ⟨s.stw.accepted.erase a, _, by simp only [takeAccepted, h]; rfl⟩
  | none => exact ⟨s.stw.accepted, _, by simp only [takeAccepted, h]; rfl⟩

theorem began_eq (s : State) (m : Meta) (op : Nat) :
    ∃ l r, began s m op = { s with stw := { s.stw with accepted := l, rldAt := r } } := takeAccepted_snd s m op

@[simp] theorem opcodeOpen_began : opcodeOpen (began s m op) m op = opcodeOpen s m op := by
  obtain ⟨l, r, h⟩ := began_eq s m op; rw [h]; rfl
@[simp] theorem commonRefusal_began : commonRefusal (began s m op) m op rld = commonRefusal s m op rld := by
  obtain ⟨l, r, h⟩ := began_eq s m op; rw [h]; rfl
@[simp] theorem heldObj_began : heldObj (began s m op) objs = heldObj s objs := by
  obtain ⟨l, r, h⟩ := began_eq s m op; rw [h]; rfl
@[simp] theorem began_bg : (began s m op).stw.bg = s.stw.bg := by
  obtain ⟨l, r, h⟩ := began_eq s m op; rw [h]

/-- An accepted command whose parameters are in range is judged by its own rules. -/
theorem runCmd_open (h : accepts s m op objs rld = true) :
    runCmd m op objs rld none f s
      = settleCmd (began s m op) m op (packetOf s m op) objs (f (began s m op)) := by
  simp only [accepts, Bool.and_eq_true, Bool.not_eq_true', Bool.or_eq_true, decide_eq_true_eq] at h
  obtain ⟨⟨⟨⟨⟨⟨h1, h2⟩, h3⟩, h4⟩, h5⟩, h6⟩, h7⟩ := h
  have hb : (backgroundOpcodes.contains op && decide (16 ≤ (takeAccepted s m op).2.stw.bg.length)) = false := by
    have he : (takeAccepted s m op).2.stw.bg = s.stw.bg := began_bg
    rcases h5 with h5 | h5
    · rw [h5]; rfl
    · rw [he]; simp; omega
  have ho : opcodeOpen (takeAccepted s m op).2 m op = true := by rw [← h4]; exact opcodeOpen_began
  have hcm : commonRefusal (takeAccepted s m op).2 m op rld = false := by rw [← h6]; exact commonRefusal_began
  unfold runCmd
  simp only [h1, h2, h3, ho, hcm, hb, Bool.false_eq_true, if_false, Bool.not_true]
  rfl

theorem accepts_free (h : accepts s m op objs rld = true) : heldObj s objs = false := by
  simp only [accepts, Bool.and_eq_true, Bool.not_eq_true'] at h; exact h.2

/-- An accepted command that its rules call done ends with its results. -/
theorem runCmd_ok {t : State} {r : List Fld} (h : accepts s m op objs rld = true) (hf : f (began s m op) = okWith t r) :
    Host.Outcome.next (runCmd m op objs rld none f s) = doneIn s m op t r := by
  rw [runCmd_open h, hf]
  simp [settleCmd, okWith, doneIn, endsIn, accepts_free h]

/-- An accepted command that its rules call done without results ends. -/
theorem runCmd_done {t : State} (h : accepts s m op objs rld = true) (hf : f (began s m op) = ok t) :
    Host.Outcome.next (runCmd m op objs rld none f s) = doneIn s m op t [] := runCmd_ok h hf

/-- An accepted command that its rules refuse ends with the status of the refusal. -/
theorem runCmd_no {t : State} {st : Status} (h : accepts s m op objs rld = true) (hf : f (began s m op) = no t st)
    (hst : st ≠ .done) :
    Host.Outcome.next (runCmd m op objs rld none f s) = endsIn s m op t { status := st } := by
  rw [runCmd_open h, hf]
  simp [settleCmd, no, endsIn, hst]

/-- An accepted command that is refused for an item ends with the refusal. -/
theorem runCmd_noItem {t : State} {st : Status} {i : Nat} (h : accepts s m op objs rld = true)
    (hf : f (began s m op) = noItem t st i) (hst : st ≠ .done) :
    Host.Outcome.next (runCmd m op objs rld none f s) = endsIn s m op t { status := st, item := i } := by
  rw [runCmd_open h, hf]
  simp [settleCmd, noItem, endsIn, hst]

/-- An accepted command that has acted and stays in the foreground. -/
theorem runCmd_foreOpen {t : State} (h : accepts s m op objs rld = true) (hf : f (began s m op) = foreOpen t) :
    Host.Outcome.next (runCmd m op objs rld none f s) = foreIn s m op objs t := by
  rw [runCmd_open h, hf]
  simp [settleCmd, foreOpen, foreIn, accepts_free h]

/-- An accepted command that goes on in the background until another event ends it. -/
theorem runCmd_bgOpen {t : State} {d : Nat} (h : accepts s m op objs rld = true) (hf : f (began s m op) = bgOpen t d) :
    Host.Outcome.next (runCmd m op objs rld none f s) = bgIn s m op objs t none d := by
  rw [runCmd_open h, hf]
  simp [settleCmd, bgOpen, bgIn, accepts_free h]

/-- An accepted command that goes on in the background with a known end. -/
theorem runCmd_bgUntil {t : State} {d : Nat} {e : CmdEnd} (h : accepts s m op objs rld = true)
    (hf : f (began s m op) = bgUntil t d e) :
    Host.Outcome.next (runCmd m op objs rld none f s) = bgIn s m op objs t (some e) d := by
  rw [runCmd_open h, hf]
  simp [settleCmd, bgUntil, bgIn, accepts_free h]

/-- Checks that all hold name no item. -/
theorem firstBad_all {l : List (Nat × Bool)} (h : l.all (fun e => e.2) = true) : firstBad l = none := by
  induction l with
  | nil => rfl
  | cons a t ih =>
    simp only [List.all_cons, Bool.and_eq_true] at h
    have ht := ih h.2
    unfold firstBad at ht ⊢
    simpa [h.1] using ht

variable {b t : State} {bad : Option Nat} {st : Status} {e : CmdEnd} {r : List Fld} {d : Nat}

/-- A command that starts, its parameters in range, and that its rules call done, ends. -/
theorem cmd_done (h : Starts s b m op objs rld) (hb : bad = none) (hf : f b = ok t) :
    Host.Outcome.next (runCmd m op objs rld bad f s) = doneIn s m op t [] := by
  subst hb; rw [h.2] at hf; exact runCmd_done h.1 hf

/-- A command that starts, its parameters in range, and that its rules call done with results, ends with them. -/
theorem cmd_ok (h : Starts s b m op objs rld) (hb : bad = none) (hf : f b = okWith t r) :
    Host.Outcome.next (runCmd m op objs rld bad f s) = doneIn s m op t r := by
  subst hb; rw [h.2] at hf; exact runCmd_ok h.1 hf

/-- A command that starts, its parameters in range, and that its rules refuse, ends with the refusal. -/
theorem cmd_no (h : Starts s b m op objs rld) (hb : bad = none) (hf : f b = no t st) (hs : st ≠ .done) :
    Host.Outcome.next (runCmd m op objs rld bad f s) = endsIn s m op t { status := st } := by
  subst hb; rw [h.2] at hf; exact runCmd_no h.1 hf hs

/-- A command that starts, its parameters in range, and that its rules refuse for an item. -/
theorem cmd_noItem {i : Nat} (h : Starts s b m op objs rld) (hb : bad = none) (hf : f b = noItem t st i) (hs : st ≠ .done) :
    Host.Outcome.next (runCmd m op objs rld bad f s) = endsIn s m op t { status := st, item := i } := by
  subst hb; rw [h.2] at hf; exact runCmd_noItem h.1 hf hs

/-- A command that starts, its parameters in range, and stays in the foreground. -/
theorem cmd_fore (h : Starts s b m op objs rld) (hb : bad = none) (hf : f b = foreOpen t) :
    Host.Outcome.next (runCmd m op objs rld bad f s) = foreIn s m op objs t := by
  subst hb; rw [h.2] at hf; exact runCmd_foreOpen h.1 hf

/-- A command that starts, its parameters in range, and goes on in the background. -/
theorem cmd_bgOpen (h : Starts s b m op objs rld) (hb : bad = none) (hf : f b = bgOpen t d) :
    Host.Outcome.next (runCmd m op objs rld bad f s) = bgIn s m op objs t none d := by
  subst hb; rw [h.2] at hf; exact runCmd_bgOpen h.1 hf

/-- A command that starts, its parameters in range, and goes on in the background with a known end. -/
theorem cmd_bgUntil (h : Starts s b m op objs rld) (hb : bad = none) (hf : f b = bgUntil t d e) :
    Host.Outcome.next (runCmd m op objs rld bad f s) = bgIn s m op objs t (some e) d := by
  subst hb; rw [h.2] at hf; exact runCmd_bgUntil h.1 hf

end Sys2Proof.Machine
end

