-- ==== Sys2Proof/Laws/State.lean ====
section
/-! SUPPORT. The named writes of the state: what each leaves of every other field, and what is read where it wrote. -/

namespace Sys2Proof.Machine

variable (s : State)

/-! ## setFn -/

@[simp] theorem setFn_dev (fid : Nat) (f : Fn) : (setFn s fid f).dev = s.dev := rfl
@[simp] theorem setFn_stw (fid : Nat) (f : Fn) : (setFn s fid f).stw = s.stw := rfl
@[simp] theorem setFn_fmg (fid : Nat) (f : Fn) : (setFn s fid f).fmg = s.fmg := rfl
@[simp] theorem setFn_cnt (fid : Nat) (f : Fn) : (setFn s fid f).cnt = s.cnt := rfl
@[simp] theorem setFn_seq (fid : Nat) (f : Fn) : (setFn s fid f).seq = s.seq := rfl
@[simp] theorem setFn_qm (fid : Nat) (f : Fn) : (setFn s fid f).qm = s.qm := rfl
@[simp] theorem setFn_grn (fid : Nat) (f : Fn) : (setFn s fid f).grn = s.grn := rfl
@[simp] theorem setFn_fwt (fid : Nat) (f : Fn) : (setFn s fid f).fwt = s.fwt := rfl
@[simp] theorem setFn_mac (fid : Nat) (f : Fn) : (setFn s fid f).mac = s.mac := rfl
@[simp] theorem setFn_sw (fid : Nat) (f : Fn) : (setFn s fid f).sw = s.sw := rfl
@[simp] theorem setFn_cip (fid : Nat) (f : Fn) : (setFn s fid f).cip = s.cip := rfl
@[simp] theorem setFn_haul (fid : Nat) (f : Fn) : (setFn s fid f).haul = s.haul := rfl
@[simp] theorem setFn_stg (fid : Nat) (f : Fn) : (setFn s fid f).stg = s.stg := rfl
@[simp] theorem setFn_pci (fid : Nat) (f : Fn) : (setFn s fid f).pci = s.pci := rfl
@[simp] theorem setFn_twn (fid : Nat) (f : Fn) : (setFn s fid f).twn = s.twn := rfl
@[simp] theorem setFn_alm (fid : Nat) (f : Fn) : (setFn s fid f).alm = s.alm := rfl
@[simp] theorem setFn_store (fid : Nat) (f : Fn) : (setFn s fid f).store = s.store := rfl
@[simp] theorem setFn_fw (fid : Nat) (f : Fn) : (setFn s fid f).fw = s.fw := rfl
@[simp] theorem setFn_out (fid : Nat) (f : Fn) : (setFn s fid f).out = s.out := rfl
@[simp] theorem setFn_now (fid : Nat) (f : Fn) : (setFn s fid f).now = s.now := rfl
@[simp] theorem setFn_draws (fid : Nat) (f : Fn) : (setFn s fid f).draws = s.draws := rfl
@[simp] theorem setFn_pending (fid : Nat) (f : Fn) : (setFn s fid f).pending = s.pending := rfl

/-! ## setPci -/

@[simp] theorem setPci_dev (fid : Nat) (f : PciFn) : (setPci s fid f).dev = s.dev := rfl
@[simp] theorem setPci_stw (fid : Nat) (f : PciFn) : (setPci s fid f).stw = s.stw := rfl
@[simp] theorem setPci_fns (fid : Nat) (f : PciFn) : (setPci s fid f).fns = s.fns := rfl
@[simp] theorem setPci_fmg (fid : Nat) (f : PciFn) : (setPci s fid f).fmg = s.fmg := rfl
@[simp] theorem setPci_cnt (fid : Nat) (f : PciFn) : (setPci s fid f).cnt = s.cnt := rfl
@[simp] theorem setPci_seq (fid : Nat) (f : PciFn) : (setPci s fid f).seq = s.seq := rfl
@[simp] theorem setPci_qm (fid : Nat) (f : PciFn) : (setPci s fid f).qm = s.qm := rfl
@[simp] theorem setPci_grn (fid : Nat) (f : PciFn) : (setPci s fid f).grn = s.grn := rfl
@[simp] theorem setPci_fwt (fid : Nat) (f : PciFn) : (setPci s fid f).fwt = s.fwt := rfl
@[simp] theorem setPci_mac (fid : Nat) (f : PciFn) : (setPci s fid f).mac = s.mac := rfl
@[simp] theorem setPci_sw (fid : Nat) (f : PciFn) : (setPci s fid f).sw = s.sw := rfl
@[simp] theorem setPci_cip (fid : Nat) (f : PciFn) : (setPci s fid f).cip = s.cip := rfl
@[simp] theorem setPci_haul (fid : Nat) (f : PciFn) : (setPci s fid f).haul = s.haul := rfl
@[simp] theorem setPci_stg (fid : Nat) (f : PciFn) : (setPci s fid f).stg = s.stg := rfl
@[simp] theorem setPci_twn (fid : Nat) (f : PciFn) : (setPci s fid f).twn = s.twn := rfl
@[simp] theorem setPci_alm (fid : Nat) (f : PciFn) : (setPci s fid f).alm = s.alm := rfl
@[simp] theorem setPci_store (fid : Nat) (f : PciFn) : (setPci s fid f).store = s.store := rfl
@[simp] theorem setPci_fw (fid : Nat) (f : PciFn) : (setPci s fid f).fw = s.fw := rfl
@[simp] theorem setPci_out (fid : Nat) (f : PciFn) : (setPci s fid f).out = s.out := rfl
@[simp] theorem setPci_now (fid : Nat) (f : PciFn) : (setPci s fid f).now = s.now := rfl
@[simp] theorem setPci_draws (fid : Nat) (f : PciFn) : (setPci s fid f).draws = s.draws := rfl
@[simp] theorem setPci_pending (fid : Nat) (f : PciFn) : (setPci s fid f).pending = s.pending := rfl

/-! ## emit -/

@[simp] theorem emit_dev (e : Emit) : (emit s e).dev = s.dev := rfl
@[simp] theorem emit_stw (e : Emit) : (emit s e).stw = s.stw := rfl
@[simp] theorem emit_fns (e : Emit) : (emit s e).fns = s.fns := rfl
@[simp] theorem emit_fmg (e : Emit) : (emit s e).fmg = s.fmg := rfl
@[simp] theorem emit_cnt (e : Emit) : (emit s e).cnt = s.cnt := rfl
@[simp] theorem emit_seq (e : Emit) : (emit s e).seq = s.seq := rfl
@[simp] theorem emit_qm (e : Emit) : (emit s e).qm = s.qm := rfl
@[simp] theorem emit_grn (e : Emit) : (emit s e).grn = s.grn := rfl
@[simp] theorem emit_fwt (e : Emit) : (emit s e).fwt = s.fwt := rfl
@[simp] theorem emit_mac (e : Emit) : (emit s e).mac = s.mac := rfl
@[simp] theorem emit_sw (e : Emit) : (emit s e).sw = s.sw := rfl
@[simp] theorem emit_cip (e : Emit) : (emit s e).cip = s.cip := rfl
@[simp] theorem emit_haul (e : Emit) : (emit s e).haul = s.haul := rfl
@[simp] theorem emit_stg (e : Emit) : (emit s e).stg = s.stg := rfl
@[simp] theorem emit_pci (e : Emit) : (emit s e).pci = s.pci := rfl
@[simp] theorem emit_twn (e : Emit) : (emit s e).twn = s.twn := rfl
@[simp] theorem emit_alm (e : Emit) : (emit s e).alm = s.alm := rfl
@[simp] theorem emit_store (e : Emit) : (emit s e).store = s.store := rfl
@[simp] theorem emit_fw (e : Emit) : (emit s e).fw = s.fw := rfl
@[simp] theorem emit_now (e : Emit) : (emit s e).now = s.now := rfl
@[simp] theorem emit_draws (e : Emit) : (emit s e).draws = s.draws := rfl
@[simp] theorem emit_pending (e : Emit) : (emit s e).pending = s.pending := rfl

/-! ## countN -/

@[simp] theorem countN_dev (fid i n : Nat) : (countN s fid i n).dev = s.dev := by unfold countN; split <;> rfl
@[simp] theorem countN_stw (fid i n : Nat) : (countN s fid i n).stw = s.stw := by unfold countN; split <;> rfl
@[simp] theorem countN_fns (fid i n : Nat) : (countN s fid i n).fns = s.fns := by unfold countN; split <;> rfl
@[simp] theorem countN_fmg (fid i n : Nat) : (countN s fid i n).fmg = s.fmg := by unfold countN; split <;> rfl
@[simp] theorem countN_seq (fid i n : Nat) : (countN s fid i n).seq = s.seq := by unfold countN; split <;> rfl
@[simp] theorem countN_qm (fid i n : Nat) : (countN s fid i n).qm = s.qm := by unfold countN; split <;> rfl
@[simp] theorem countN_grn (fid i n : Nat) : (countN s fid i n).grn = s.grn := by unfold countN; split <;> rfl
@[simp] theorem countN_fwt (fid i n : Nat) : (countN s fid i n).fwt = s.fwt := by unfold countN; split <;> rfl
@[simp] theorem countN_mac (fid i n : Nat) : (countN s fid i n).mac = s.mac := by unfold countN; split <;> rfl
@[simp] theorem countN_sw (fid i n : Nat) : (countN s fid i n).sw = s.sw := by unfold countN; split <;> rfl
@[simp] theorem countN_cip (fid i n : Nat) : (countN s fid i n).cip = s.cip := by unfold countN; split <;> rfl
@[simp] theorem countN_haul (fid i n : Nat) : (countN s fid i n).haul = s.haul := by unfold countN; split <;> rfl
@[simp] theorem countN_stg (fid i n : Nat) : (countN s fid i n).stg = s.stg := by unfold countN; split <;> rfl
@[simp] theorem countN_pci (fid i n : Nat) : (countN s fid i n).pci = s.pci := by unfold countN; split <;> rfl
@[simp] theorem countN_twn (fid i n : Nat) : (countN s fid i n).twn = s.twn := by unfold countN; split <;> rfl
@[simp] theorem countN_alm (fid i n : Nat) : (countN s fid i n).alm = s.alm := by unfold countN; split <;> rfl
@[simp] theorem countN_store (fid i n : Nat) : (countN s fid i n).store = s.store := by unfold countN; split <;> rfl
@[simp] theorem countN_fw (fid i n : Nat) : (countN s fid i n).fw = s.fw := by unfold countN; split <;> rfl
@[simp] theorem countN_out (fid i n : Nat) : (countN s fid i n).out = s.out := by unfold countN; split <;> rfl
@[simp] theorem countN_now (fid i n : Nat) : (countN s fid i n).now = s.now := by unfold countN; split <;> rfl
@[simp] theorem countN_draws (fid i n : Nat) : (countN s fid i n).draws = s.draws := by unfold countN; split <;> rfl
@[simp] theorem countN_pending (fid i n : Nat) : (countN s fid i n).pending = s.pending := by unfold countN; split <;> rfl

/-! ## setPipe -/

@[simp] theorem setPipe_dev (p : Nat) (x : Pipe) : (setPipe s p x).dev = s.dev := by unfold setPipe; split <;> rfl
@[simp] theorem setPipe_stw (p : Nat) (x : Pipe) : (setPipe s p x).stw = s.stw := by unfold setPipe; split <;> rfl
@[simp] theorem setPipe_fns (p : Nat) (x : Pipe) : (setPipe s p x).fns = s.fns := by unfold setPipe; split <;> rfl
@[simp] theorem setPipe_fmg (p : Nat) (x : Pipe) : (setPipe s p x).fmg = s.fmg := by unfold setPipe; split <;> rfl
@[simp] theorem setPipe_cnt (p : Nat) (x : Pipe) : (setPipe s p x).cnt = s.cnt := by unfold setPipe; split <;> rfl
@[simp] theorem setPipe_qm (p : Nat) (x : Pipe) : (setPipe s p x).qm = s.qm := by unfold setPipe; split <;> rfl
@[simp] theorem setPipe_grn (p : Nat) (x : Pipe) : (setPipe s p x).grn = s.grn := by unfold setPipe; split <;> rfl
@[simp] theorem setPipe_fwt (p : Nat) (x : Pipe) : (setPipe s p x).fwt = s.fwt := by unfold setPipe; split <;> rfl
@[simp] theorem setPipe_mac (p : Nat) (x : Pipe) : (setPipe s p x).mac = s.mac := by unfold setPipe; split <;> rfl
@[simp] theorem setPipe_sw (p : Nat) (x : Pipe) : (setPipe s p x).sw = s.sw := by unfold setPipe; split <;> rfl
@[simp] theorem setPipe_cip (p : Nat) (x : Pipe) : (setPipe s p x).cip = s.cip := by unfold setPipe; split <;> rfl
@[simp] theorem setPipe_haul (p : Nat) (x : Pipe) : (setPipe s p x).haul = s.haul := by unfold setPipe; split <;> rfl
@[simp] theorem setPipe_stg (p : Nat) (x : Pipe) : (setPipe s p x).stg = s.stg := by unfold setPipe; split <;> rfl
@[simp] theorem setPipe_pci (p : Nat) (x : Pipe) : (setPipe s p x).pci = s.pci := by unfold setPipe; split <;> rfl
@[simp] theorem setPipe_twn (p : Nat) (x : Pipe) : (setPipe s p x).twn = s.twn := by unfold setPipe; split <;> rfl
@[simp] theorem setPipe_alm (p : Nat) (x : Pipe) : (setPipe s p x).alm = s.alm := by unfold setPipe; split <;> rfl
@[simp] theorem setPipe_store (p : Nat) (x : Pipe) : (setPipe s p x).store = s.store := by unfold setPipe; split <;> rfl
@[simp] theorem setPipe_fw (p : Nat) (x : Pipe) : (setPipe s p x).fw = s.fw := by unfold setPipe; split <;> rfl
@[simp] theorem setPipe_out (p : Nat) (x : Pipe) : (setPipe s p x).out = s.out := by unfold setPipe; split <;> rfl
@[simp] theorem setPipe_now (p : Nat) (x : Pipe) : (setPipe s p x).now = s.now := by unfold setPipe; split <;> rfl
@[simp] theorem setPipe_draws (p : Nat) (x : Pipe) : (setPipe s p x).draws = s.draws := by unfold setPipe; split <;> rfl
@[simp] theorem setPipe_pending (p : Nat) (x : Pipe) : (setPipe s p x).pending = s.pending := by
  unfold setPipe; split <;> rfl

/-! ## setBank -/

@[simp] theorem setBank_dev (b : Nat) (x : Bank) : (setBank s b x).dev = s.dev := by unfold setBank; split <;> rfl
@[simp] theorem setBank_stw (b : Nat) (x : Bank) : (setBank s b x).stw = s.stw := by unfold setBank; split <;> rfl
@[simp] theorem setBank_fns (b : Nat) (x : Bank) : (setBank s b x).fns = s.fns := by unfold setBank; split <;> rfl
@[simp] theorem setBank_fmg (b : Nat) (x : Bank) : (setBank s b x).fmg = s.fmg := by unfold setBank; split <;> rfl
@[simp] theorem setBank_cnt (b : Nat) (x : Bank) : (setBank s b x).cnt = s.cnt := by unfold setBank; split <;> rfl
@[simp] theorem setBank_qm (b : Nat) (x : Bank) : (setBank s b x).qm = s.qm := by unfold setBank; split <;> rfl
@[simp] theorem setBank_grn (b : Nat) (x : Bank) : (setBank s b x).grn = s.grn := by unfold setBank; split <;> rfl
@[simp] theorem setBank_fwt (b : Nat) (x : Bank) : (setBank s b x).fwt = s.fwt := by unfold setBank; split <;> rfl
@[simp] theorem setBank_mac (b : Nat) (x : Bank) : (setBank s b x).mac = s.mac := by unfold setBank; split <;> rfl
@[simp] theorem setBank_sw (b : Nat) (x : Bank) : (setBank s b x).sw = s.sw := by unfold setBank; split <;> rfl
@[simp] theorem setBank_cip (b : Nat) (x : Bank) : (setBank s b x).cip = s.cip := by unfold setBank; split <;> rfl
@[simp] theorem setBank_haul (b : Nat) (x : Bank) : (setBank s b x).haul = s.haul := by unfold setBank; split <;> rfl
@[simp] theorem setBank_stg (b : Nat) (x : Bank) : (setBank s b x).stg = s.stg := by unfold setBank; split <;> rfl
@[simp] theorem setBank_pci (b : Nat) (x : Bank) : (setBank s b x).pci = s.pci := by unfold setBank; split <;> rfl
@[simp] theorem setBank_twn (b : Nat) (x : Bank) : (setBank s b x).twn = s.twn := by unfold setBank; split <;> rfl
@[simp] theorem setBank_alm (b : Nat) (x : Bank) : (setBank s b x).alm = s.alm := by unfold setBank; split <;> rfl
@[simp] theorem setBank_store (b : Nat) (x : Bank) : (setBank s b x).store = s.store := by unfold setBank; split <;> rfl
@[simp] theorem setBank_fw (b : Nat) (x : Bank) : (setBank s b x).fw = s.fw := by unfold setBank; split <;> rfl
@[simp] theorem setBank_out (b : Nat) (x : Bank) : (setBank s b x).out = s.out := by unfold setBank; split <;> rfl
@[simp] theorem setBank_now (b : Nat) (x : Bank) : (setBank s b x).now = s.now := by unfold setBank; split <;> rfl
@[simp] theorem setBank_draws (b : Nat) (x : Bank) : (setBank s b x).draws = s.draws := by unfold setBank; split <;> rfl
@[simp] theorem setBank_pending (b : Nat) (x : Bank) : (setBank s b x).pending = s.pending := by
  unfold setBank; split <;> rfl

/-! ## setRing -/

@[simp] theorem setRing_dev (rx : Bool) (q : Nat) (r : Ring) : (setRing s rx q r).dev = s.dev := by
  unfold setRing; split <;> rfl
@[simp] theorem setRing_stw (rx : Bool) (q : Nat) (r : Ring) : (setRing s rx q r).stw = s.stw := by
  unfold setRing; split <;> rfl
@[simp] theorem setRing_fns (rx : Bool) (q : Nat) (r : Ring) : (setRing s rx q r).fns = s.fns := by
  unfold setRing; split <;> rfl
@[simp] theorem setRing_fmg (rx : Bool) (q : Nat) (r : Ring) : (setRing s rx q r).fmg = s.fmg := by
  unfold setRing; split <;> rfl
@[simp] theorem setRing_cnt (rx : Bool) (q : Nat) (r : Ring) : (setRing s rx q r).cnt = s.cnt := by
  unfold setRing; split <;> rfl
@[simp] theorem setRing_seq (rx : Bool) (q : Nat) (r : Ring) : (setRing s rx q r).seq = s.seq := by
  unfold setRing; split <;> rfl
@[simp] theorem setRing_grn (rx : Bool) (q : Nat) (r : Ring) : (setRing s rx q r).grn = s.grn := by
  unfold setRing; split <;> rfl
@[simp] theorem setRing_fwt (rx : Bool) (q : Nat) (r : Ring) : (setRing s rx q r).fwt = s.fwt := by
  unfold setRing; split <;> rfl
@[simp] theorem setRing_mac (rx : Bool) (q : Nat) (r : Ring) : (setRing s rx q r).mac = s.mac := by
  unfold setRing; split <;> rfl
@[simp] theorem setRing_sw (rx : Bool) (q : Nat) (r : Ring) : (setRing s rx q r).sw = s.sw := by
  unfold setRing; split <;> rfl
@[simp] theorem setRing_cip (rx : Bool) (q : Nat) (r : Ring) : (setRing s rx q r).cip = s.cip := by
  unfold setRing; split <;> rfl
@[simp] theorem setRing_haul (rx : Bool) (q : Nat) (r : Ring) : (setRing s rx q r).haul = s.haul := by
  unfold setRing; split <;> rfl
@[simp] theorem setRing_stg (rx : Bool) (q : Nat) (r : Ring) : (setRing s rx q r).stg = s.stg := by
  unfold setRing; split <;> rfl
@[simp] theorem setRing_pci (rx : Bool) (q : Nat) (r : Ring) : (setRing s rx q r).pci = s.pci := by
  unfold setRing; split <;> rfl
@[simp] theorem setRing_twn (rx : Bool) (q : Nat) (r : Ring) : (setRing s rx q r).twn = s.twn := by
  unfold setRing; split <;> rfl
@[simp] theorem setRing_alm (rx : Bool) (q : Nat) (r : Ring) : (setRing s rx q r).alm = s.alm := by
  unfold setRing; split <;> rfl
@[simp] theorem setRing_store (rx : Bool) (q : Nat) (r : Ring) : (setRing s rx q r).store = s.store := by
  unfold setRing; split <;> rfl
@[simp] theorem setRing_fw (rx : Bool) (q : Nat) (r : Ring) : (setRing s rx q r).fw = s.fw := by
  unfold setRing; split <;> rfl
@[simp] theorem setRing_out (rx : Bool) (q : Nat) (r : Ring) : (setRing s rx q r).out = s.out := by
  unfold setRing; split <;> rfl
@[simp] theorem setRing_now (rx : Bool) (q : Nat) (r : Ring) : (setRing s rx q r).now = s.now := by
  unfold setRing; split <;> rfl
@[simp] theorem setRing_draws (rx : Bool) (q : Nat) (r : Ring) : (setRing s rx q r).draws = s.draws := by
  unfold setRing; split <;> rfl
@[simp] theorem setRing_pending (rx : Bool) (q : Nat) (r : Ring) : (setRing s rx q r).pending = s.pending := by
  unfold setRing; split <;> rfl

/-! ## setCq -/

@[simp] theorem setCq_dev (n : Nat) (c : CqRing) : (setCq s n c).dev = s.dev := rfl
@[simp] theorem setCq_stw (n : Nat) (c : CqRing) : (setCq s n c).stw = s.stw := rfl
@[simp] theorem setCq_fns (n : Nat) (c : CqRing) : (setCq s n c).fns = s.fns := rfl
@[simp] theorem setCq_fmg (n : Nat) (c : CqRing) : (setCq s n c).fmg = s.fmg := rfl
@[simp] theorem setCq_cnt (n : Nat) (c : CqRing) : (setCq s n c).cnt = s.cnt := rfl
@[simp] theorem setCq_seq (n : Nat) (c : CqRing) : (setCq s n c).seq = s.seq := rfl
@[simp] theorem setCq_grn (n : Nat) (c : CqRing) : (setCq s n c).grn = s.grn := rfl
@[simp] theorem setCq_fwt (n : Nat) (c : CqRing) : (setCq s n c).fwt = s.fwt := rfl
@[simp] theorem setCq_mac (n : Nat) (c : CqRing) : (setCq s n c).mac = s.mac := rfl
@[simp] theorem setCq_sw (n : Nat) (c : CqRing) : (setCq s n c).sw = s.sw := rfl
@[simp] theorem setCq_cip (n : Nat) (c : CqRing) : (setCq s n c).cip = s.cip := rfl
@[simp] theorem setCq_haul (n : Nat) (c : CqRing) : (setCq s n c).haul = s.haul := rfl
@[simp] theorem setCq_stg (n : Nat) (c : CqRing) : (setCq s n c).stg = s.stg := rfl
@[simp] theorem setCq_pci (n : Nat) (c : CqRing) : (setCq s n c).pci = s.pci := rfl
@[simp] theorem setCq_twn (n : Nat) (c : CqRing) : (setCq s n c).twn = s.twn := rfl
@[simp] theorem setCq_alm (n : Nat) (c : CqRing) : (setCq s n c).alm = s.alm := rfl
@[simp] theorem setCq_store (n : Nat) (c : CqRing) : (setCq s n c).store = s.store := rfl
@[simp] theorem setCq_fw (n : Nat) (c : CqRing) : (setCq s n c).fw = s.fw := rfl
@[simp] theorem setCq_out (n : Nat) (c : CqRing) : (setCq s n c).out = s.out := rfl
@[simp] theorem setCq_now (n : Nat) (c : CqRing) : (setCq s n c).now = s.now := rfl
@[simp] theorem setCq_draws (n : Nat) (c : CqRing) : (setCq s n c).draws = s.draws := rfl
@[simp] theorem setCq_pending (n : Nat) (c : CqRing) : (setCq s n c).pending = s.pending := rfl

/-! ## setFp -/

@[simp] theorem setFp_dev (p : Nat) (x : FPipe) : (setFp s p x).dev = s.dev := by unfold setFp; split <;> rfl
@[simp] theorem setFp_stw (p : Nat) (x : FPipe) : (setFp s p x).stw = s.stw := by unfold setFp; split <;> rfl
@[simp] theorem setFp_fns (p : Nat) (x : FPipe) : (setFp s p x).fns = s.fns := by unfold setFp; split <;> rfl
@[simp] theorem setFp_fmg (p : Nat) (x : FPipe) : (setFp s p x).fmg = s.fmg := by unfold setFp; split <;> rfl
@[simp] theorem setFp_cnt (p : Nat) (x : FPipe) : (setFp s p x).cnt = s.cnt := by unfold setFp; split <;> rfl
@[simp] theorem setFp_seq (p : Nat) (x : FPipe) : (setFp s p x).seq = s.seq := by unfold setFp; split <;> rfl
@[simp] theorem setFp_qm (p : Nat) (x : FPipe) : (setFp s p x).qm = s.qm := by unfold setFp; split <;> rfl
@[simp] theorem setFp_grn (p : Nat) (x : FPipe) : (setFp s p x).grn = s.grn := by unfold setFp; split <;> rfl
@[simp] theorem setFp_mac (p : Nat) (x : FPipe) : (setFp s p x).mac = s.mac := by unfold setFp; split <;> rfl
@[simp] theorem setFp_sw (p : Nat) (x : FPipe) : (setFp s p x).sw = s.sw := by unfold setFp; split <;> rfl
@[simp] theorem setFp_cip (p : Nat) (x : FPipe) : (setFp s p x).cip = s.cip := by unfold setFp; split <;> rfl
@[simp] theorem setFp_haul (p : Nat) (x : FPipe) : (setFp s p x).haul = s.haul := by unfold setFp; split <;> rfl
@[simp] theorem setFp_stg (p : Nat) (x : FPipe) : (setFp s p x).stg = s.stg := by unfold setFp; split <;> rfl
@[simp] theorem setFp_pci (p : Nat) (x : FPipe) : (setFp s p x).pci = s.pci := by unfold setFp; split <;> rfl
@[simp] theorem setFp_twn (p : Nat) (x : FPipe) : (setFp s p x).twn = s.twn := by unfold setFp; split <;> rfl
@[simp] theorem setFp_alm (p : Nat) (x : FPipe) : (setFp s p x).alm = s.alm := by unfold setFp; split <;> rfl
@[simp] theorem setFp_store (p : Nat) (x : FPipe) : (setFp s p x).store = s.store := by unfold setFp; split <;> rfl
@[simp] theorem setFp_fw (p : Nat) (x : FPipe) : (setFp s p x).fw = s.fw := by unfold setFp; split <;> rfl
@[simp] theorem setFp_out (p : Nat) (x : FPipe) : (setFp s p x).out = s.out := by unfold setFp; split <;> rfl
@[simp] theorem setFp_now (p : Nat) (x : FPipe) : (setFp s p x).now = s.now := by unfold setFp; split <;> rfl
@[simp] theorem setFp_draws (p : Nat) (x : FPipe) : (setFp s p x).draws = s.draws := by unfold setFp; split <;> rfl
@[simp] theorem setFp_pending (p : Nat) (x : FPipe) : (setFp s p x).pending = s.pending := by unfold setFp; split <;> rfl

/-! ## setPool -/

@[simp] theorem setPool_dev (p : Nat) (x : Pool) : (setPool s p x).dev = s.dev := rfl
@[simp] theorem setPool_stw (p : Nat) (x : Pool) : (setPool s p x).stw = s.stw := rfl
@[simp] theorem setPool_fns (p : Nat) (x : Pool) : (setPool s p x).fns = s.fns := rfl
@[simp] theorem setPool_fmg (p : Nat) (x : Pool) : (setPool s p x).fmg = s.fmg := rfl
@[simp] theorem setPool_cnt (p : Nat) (x : Pool) : (setPool s p x).cnt = s.cnt := rfl
@[simp] theorem setPool_seq (p : Nat) (x : Pool) : (setPool s p x).seq = s.seq := rfl
@[simp] theorem setPool_qm (p : Nat) (x : Pool) : (setPool s p x).qm = s.qm := rfl
@[simp] theorem setPool_fwt (p : Nat) (x : Pool) : (setPool s p x).fwt = s.fwt := rfl
@[simp] theorem setPool_mac (p : Nat) (x : Pool) : (setPool s p x).mac = s.mac := rfl
@[simp] theorem setPool_sw (p : Nat) (x : Pool) : (setPool s p x).sw = s.sw := rfl
@[simp] theorem setPool_cip (p : Nat) (x : Pool) : (setPool s p x).cip = s.cip := rfl
@[simp] theorem setPool_haul (p : Nat) (x : Pool) : (setPool s p x).haul = s.haul := rfl
@[simp] theorem setPool_stg (p : Nat) (x : Pool) : (setPool s p x).stg = s.stg := rfl
@[simp] theorem setPool_pci (p : Nat) (x : Pool) : (setPool s p x).pci = s.pci := rfl
@[simp] theorem setPool_twn (p : Nat) (x : Pool) : (setPool s p x).twn = s.twn := rfl
@[simp] theorem setPool_alm (p : Nat) (x : Pool) : (setPool s p x).alm = s.alm := rfl
@[simp] theorem setPool_store (p : Nat) (x : Pool) : (setPool s p x).store = s.store := rfl
@[simp] theorem setPool_fw (p : Nat) (x : Pool) : (setPool s p x).fw = s.fw := rfl
@[simp] theorem setPool_out (p : Nat) (x : Pool) : (setPool s p x).out = s.out := rfl
@[simp] theorem setPool_now (p : Nat) (x : Pool) : (setPool s p x).now = s.now := rfl
@[simp] theorem setPool_draws (p : Nat) (x : Pool) : (setPool s p x).draws = s.draws := rfl
@[simp] theorem setPool_pending (p : Nat) (x : Pool) : (setPool s p x).pending = s.pending := rfl

/-! ## setBuf -/

@[simp] theorem setBuf_dev (h : Nat) (b : Buf) : (setBuf s h b).dev = s.dev := by unfold setBuf; split <;> rfl
@[simp] theorem setBuf_stw (h : Nat) (b : Buf) : (setBuf s h b).stw = s.stw := by unfold setBuf; split <;> rfl
@[simp] theorem setBuf_fns (h : Nat) (b : Buf) : (setBuf s h b).fns = s.fns := by unfold setBuf; split <;> rfl
@[simp] theorem setBuf_fmg (h : Nat) (b : Buf) : (setBuf s h b).fmg = s.fmg := by unfold setBuf; split <;> rfl
@[simp] theorem setBuf_cnt (h : Nat) (b : Buf) : (setBuf s h b).cnt = s.cnt := by unfold setBuf; split <;> rfl
@[simp] theorem setBuf_seq (h : Nat) (b : Buf) : (setBuf s h b).seq = s.seq := by unfold setBuf; split <;> rfl
@[simp] theorem setBuf_qm (h : Nat) (b : Buf) : (setBuf s h b).qm = s.qm := by unfold setBuf; split <;> rfl
@[simp] theorem setBuf_fwt (h : Nat) (b : Buf) : (setBuf s h b).fwt = s.fwt := by unfold setBuf; split <;> rfl
@[simp] theorem setBuf_mac (h : Nat) (b : Buf) : (setBuf s h b).mac = s.mac := by unfold setBuf; split <;> rfl
@[simp] theorem setBuf_sw (h : Nat) (b : Buf) : (setBuf s h b).sw = s.sw := by unfold setBuf; split <;> rfl
@[simp] theorem setBuf_cip (h : Nat) (b : Buf) : (setBuf s h b).cip = s.cip := by unfold setBuf; split <;> rfl
@[simp] theorem setBuf_haul (h : Nat) (b : Buf) : (setBuf s h b).haul = s.haul := by unfold setBuf; split <;> rfl
@[simp] theorem setBuf_stg (h : Nat) (b : Buf) : (setBuf s h b).stg = s.stg := by unfold setBuf; split <;> rfl
@[simp] theorem setBuf_pci (h : Nat) (b : Buf) : (setBuf s h b).pci = s.pci := by unfold setBuf; split <;> rfl
@[simp] theorem setBuf_twn (h : Nat) (b : Buf) : (setBuf s h b).twn = s.twn := by unfold setBuf; split <;> rfl
@[simp] theorem setBuf_alm (h : Nat) (b : Buf) : (setBuf s h b).alm = s.alm := by unfold setBuf; split <;> rfl
@[simp] theorem setBuf_store (h : Nat) (b : Buf) : (setBuf s h b).store = s.store := by unfold setBuf; split <;> rfl
@[simp] theorem setBuf_fw (h : Nat) (b : Buf) : (setBuf s h b).fw = s.fw := by unfold setBuf; split <;> rfl
@[simp] theorem setBuf_out (h : Nat) (b : Buf) : (setBuf s h b).out = s.out := by unfold setBuf; split <;> rfl
@[simp] theorem setBuf_now (h : Nat) (b : Buf) : (setBuf s h b).now = s.now := by unfold setBuf; split <;> rfl
@[simp] theorem setBuf_draws (h : Nat) (b : Buf) : (setBuf s h b).draws = s.draws := by unfold setBuf; split <;> rfl
@[simp] theorem setBuf_pending (h : Nat) (b : Buf) : (setBuf s h b).pending = s.pending := by unfold setBuf; split <;> rfl

/-! ## setShare -/

@[simp] theorem setShare_dev (pool fid : Nat) (x : Share) : (setShare s pool fid x).dev = s.dev := rfl
@[simp] theorem setShare_stw (pool fid : Nat) (x : Share) : (setShare s pool fid x).stw = s.stw := rfl
@[simp] theorem setShare_fns (pool fid : Nat) (x : Share) : (setShare s pool fid x).fns = s.fns := rfl
@[simp] theorem setShare_fmg (pool fid : Nat) (x : Share) : (setShare s pool fid x).fmg = s.fmg := rfl
@[simp] theorem setShare_cnt (pool fid : Nat) (x : Share) : (setShare s pool fid x).cnt = s.cnt := rfl
@[simp] theorem setShare_seq (pool fid : Nat) (x : Share) : (setShare s pool fid x).seq = s.seq := rfl
@[simp] theorem setShare_qm (pool fid : Nat) (x : Share) : (setShare s pool fid x).qm = s.qm := rfl
@[simp] theorem setShare_fwt (pool fid : Nat) (x : Share) : (setShare s pool fid x).fwt = s.fwt := rfl
@[simp] theorem setShare_mac (pool fid : Nat) (x : Share) : (setShare s pool fid x).mac = s.mac := rfl
@[simp] theorem setShare_sw (pool fid : Nat) (x : Share) : (setShare s pool fid x).sw = s.sw := rfl
@[simp] theorem setShare_cip (pool fid : Nat) (x : Share) : (setShare s pool fid x).cip = s.cip := rfl
@[simp] theorem setShare_haul (pool fid : Nat) (x : Share) : (setShare s pool fid x).haul = s.haul := rfl
@[simp] theorem setShare_stg (pool fid : Nat) (x : Share) : (setShare s pool fid x).stg = s.stg := rfl
@[simp] theorem setShare_pci (pool fid : Nat) (x : Share) : (setShare s pool fid x).pci = s.pci := rfl
@[simp] theorem setShare_twn (pool fid : Nat) (x : Share) : (setShare s pool fid x).twn = s.twn := rfl
@[simp] theorem setShare_alm (pool fid : Nat) (x : Share) : (setShare s pool fid x).alm = s.alm := rfl
@[simp] theorem setShare_store (pool fid : Nat) (x : Share) : (setShare s pool fid x).store = s.store := rfl
@[simp] theorem setShare_fw (pool fid : Nat) (x : Share) : (setShare s pool fid x).fw = s.fw := rfl
@[simp] theorem setShare_out (pool fid : Nat) (x : Share) : (setShare s pool fid x).out = s.out := rfl
@[simp] theorem setShare_now (pool fid : Nat) (x : Share) : (setShare s pool fid x).now = s.now := rfl
@[simp] theorem setShare_draws (pool fid : Nat) (x : Share) : (setShare s pool fid x).draws = s.draws := rfl
@[simp] theorem setShare_pending (pool fid : Nat) (x : Share) : (setShare s pool fid x).pending = s.pending := rfl

/-! ## setLane -/

@[simp] theorem setLane_dev (n : Nat) (l : CLane) : (setLane s n l).dev = s.dev := rfl
@[simp] theorem setLane_stw (n : Nat) (l : CLane) : (setLane s n l).stw = s.stw := rfl
@[simp] theorem setLane_fns (n : Nat) (l : CLane) : (setLane s n l).fns = s.fns := rfl
@[simp] theorem setLane_fmg (n : Nat) (l : CLane) : (setLane s n l).fmg = s.fmg := rfl
@[simp] theorem setLane_cnt (n : Nat) (l : CLane) : (setLane s n l).cnt = s.cnt := rfl
@[simp] theorem setLane_seq (n : Nat) (l : CLane) : (setLane s n l).seq = s.seq := rfl
@[simp] theorem setLane_qm (n : Nat) (l : CLane) : (setLane s n l).qm = s.qm := rfl
@[simp] theorem setLane_grn (n : Nat) (l : CLane) : (setLane s n l).grn = s.grn := rfl
@[simp] theorem setLane_fwt (n : Nat) (l : CLane) : (setLane s n l).fwt = s.fwt := rfl
@[simp] theorem setLane_mac (n : Nat) (l : CLane) : (setLane s n l).mac = s.mac := rfl
@[simp] theorem setLane_sw (n : Nat) (l : CLane) : (setLane s n l).sw = s.sw := rfl
@[simp] theorem setLane_haul (n : Nat) (l : CLane) : (setLane s n l).haul = s.haul := rfl
@[simp] theorem setLane_stg (n : Nat) (l : CLane) : (setLane s n l).stg = s.stg := rfl
@[simp] theorem setLane_pci (n : Nat) (l : CLane) : (setLane s n l).pci = s.pci := rfl
@[simp] theorem setLane_twn (n : Nat) (l : CLane) : (setLane s n l).twn = s.twn := rfl
@[simp] theorem setLane_alm (n : Nat) (l : CLane) : (setLane s n l).alm = s.alm := rfl
@[simp] theorem setLane_store (n : Nat) (l : CLane) : (setLane s n l).store = s.store := rfl
@[simp] theorem setLane_fw (n : Nat) (l : CLane) : (setLane s n l).fw = s.fw := rfl
@[simp] theorem setLane_out (n : Nat) (l : CLane) : (setLane s n l).out = s.out := rfl
@[simp] theorem setLane_now (n : Nat) (l : CLane) : (setLane s n l).now = s.now := rfl
@[simp] theorem setLane_draws (n : Nat) (l : CLane) : (setLane s n l).draws = s.draws := rfl
@[simp] theorem setLane_pending (n : Nat) (l : CLane) : (setLane s n l).pending = s.pending := rfl

/-! ## setSa -/

@[simp] theorem setSa_dev (n : Nat) (a : Sa) : (setSa s n a).dev = s.dev := rfl
@[simp] theorem setSa_stw (n : Nat) (a : Sa) : (setSa s n a).stw = s.stw := rfl
@[simp] theorem setSa_fns (n : Nat) (a : Sa) : (setSa s n a).fns = s.fns := rfl
@[simp] theorem setSa_fmg (n : Nat) (a : Sa) : (setSa s n a).fmg = s.fmg := rfl
@[simp] theorem setSa_cnt (n : Nat) (a : Sa) : (setSa s n a).cnt = s.cnt := rfl
@[simp] theorem setSa_seq (n : Nat) (a : Sa) : (setSa s n a).seq = s.seq := rfl
@[simp] theorem setSa_qm (n : Nat) (a : Sa) : (setSa s n a).qm = s.qm := rfl
@[simp] theorem setSa_grn (n : Nat) (a : Sa) : (setSa s n a).grn = s.grn := rfl
@[simp] theorem setSa_fwt (n : Nat) (a : Sa) : (setSa s n a).fwt = s.fwt := rfl
@[simp] theorem setSa_mac (n : Nat) (a : Sa) : (setSa s n a).mac = s.mac := rfl
@[simp] theorem setSa_sw (n : Nat) (a : Sa) : (setSa s n a).sw = s.sw := rfl
@[simp] theorem setSa_haul (n : Nat) (a : Sa) : (setSa s n a).haul = s.haul := rfl
@[simp] theorem setSa_stg (n : Nat) (a : Sa) : (setSa s n a).stg = s.stg := rfl
@[simp] theorem setSa_pci (n : Nat) (a : Sa) : (setSa s n a).pci = s.pci := rfl
@[simp] theorem setSa_twn (n : Nat) (a : Sa) : (setSa s n a).twn = s.twn := rfl
@[simp] theorem setSa_alm (n : Nat) (a : Sa) : (setSa s n a).alm = s.alm := rfl
@[simp] theorem setSa_store (n : Nat) (a : Sa) : (setSa s n a).store = s.store := rfl
@[simp] theorem setSa_fw (n : Nat) (a : Sa) : (setSa s n a).fw = s.fw := rfl
@[simp] theorem setSa_out (n : Nat) (a : Sa) : (setSa s n a).out = s.out := rfl
@[simp] theorem setSa_now (n : Nat) (a : Sa) : (setSa s n a).now = s.now := rfl
@[simp] theorem setSa_draws (n : Nat) (a : Sa) : (setSa s n a).draws = s.draws := rfl
@[simp] theorem setSa_pending (n : Nat) (a : Sa) : (setSa s n a).pending = s.pending := rfl

/-! ## setChan -/

@[simp] theorem setChan_dev (n : Nat) (c : Chan) : (setChan s n c).dev = s.dev := rfl
@[simp] theorem setChan_stw (n : Nat) (c : Chan) : (setChan s n c).stw = s.stw := rfl
@[simp] theorem setChan_fns (n : Nat) (c : Chan) : (setChan s n c).fns = s.fns := rfl
@[simp] theorem setChan_fmg (n : Nat) (c : Chan) : (setChan s n c).fmg = s.fmg := rfl
@[simp] theorem setChan_cnt (n : Nat) (c : Chan) : (setChan s n c).cnt = s.cnt := rfl
@[simp] theorem setChan_seq (n : Nat) (c : Chan) : (setChan s n c).seq = s.seq := rfl
@[simp] theorem setChan_qm (n : Nat) (c : Chan) : (setChan s n c).qm = s.qm := rfl
@[simp] theorem setChan_grn (n : Nat) (c : Chan) : (setChan s n c).grn = s.grn := rfl
@[simp] theorem setChan_fwt (n : Nat) (c : Chan) : (setChan s n c).fwt = s.fwt := rfl
@[simp] theorem setChan_mac (n : Nat) (c : Chan) : (setChan s n c).mac = s.mac := rfl
@[simp] theorem setChan_sw (n : Nat) (c : Chan) : (setChan s n c).sw = s.sw := rfl
@[simp] theorem setChan_cip (n : Nat) (c : Chan) : (setChan s n c).cip = s.cip := rfl
@[simp] theorem setChan_stg (n : Nat) (c : Chan) : (setChan s n c).stg = s.stg := rfl
@[simp] theorem setChan_pci (n : Nat) (c : Chan) : (setChan s n c).pci = s.pci := rfl
@[simp] theorem setChan_twn (n : Nat) (c : Chan) : (setChan s n c).twn = s.twn := rfl
@[simp] theorem setChan_alm (n : Nat) (c : Chan) : (setChan s n c).alm = s.alm := rfl
@[simp] theorem setChan_store (n : Nat) (c : Chan) : (setChan s n c).store = s.store := rfl
@[simp] theorem setChan_fw (n : Nat) (c : Chan) : (setChan s n c).fw = s.fw := rfl
@[simp] theorem setChan_out (n : Nat) (c : Chan) : (setChan s n c).out = s.out := rfl
@[simp] theorem setChan_now (n : Nat) (c : Chan) : (setChan s n c).now = s.now := rfl
@[simp] theorem setChan_draws (n : Nat) (c : Chan) : (setChan s n c).draws = s.draws := rfl
@[simp] theorem setChan_pending (n : Nat) (c : Chan) : (setChan s n c).pending = s.pending := rfl

/-! ## setConn -/

@[simp] theorem setConn_dev (n : Nat) (c : Conn) : (setConn s n c).dev = s.dev := rfl
@[simp] theorem setConn_stw (n : Nat) (c : Conn) : (setConn s n c).stw = s.stw := rfl
@[simp] theorem setConn_fns (n : Nat) (c : Conn) : (setConn s n c).fns = s.fns := rfl
@[simp] theorem setConn_fmg (n : Nat) (c : Conn) : (setConn s n c).fmg = s.fmg := rfl
@[simp] theorem setConn_cnt (n : Nat) (c : Conn) : (setConn s n c).cnt = s.cnt := rfl
@[simp] theorem setConn_seq (n : Nat) (c : Conn) : (setConn s n c).seq = s.seq := rfl
@[simp] theorem setConn_qm (n : Nat) (c : Conn) : (setConn s n c).qm = s.qm := rfl
@[simp] theorem setConn_grn (n : Nat) (c : Conn) : (setConn s n c).grn = s.grn := rfl
@[simp] theorem setConn_fwt (n : Nat) (c : Conn) : (setConn s n c).fwt = s.fwt := rfl
@[simp] theorem setConn_mac (n : Nat) (c : Conn) : (setConn s n c).mac = s.mac := rfl
@[simp] theorem setConn_sw (n : Nat) (c : Conn) : (setConn s n c).sw = s.sw := rfl
@[simp] theorem setConn_cip (n : Nat) (c : Conn) : (setConn s n c).cip = s.cip := rfl
@[simp] theorem setConn_haul (n : Nat) (c : Conn) : (setConn s n c).haul = s.haul := rfl
@[simp] theorem setConn_pci (n : Nat) (c : Conn) : (setConn s n c).pci = s.pci := rfl
@[simp] theorem setConn_twn (n : Nat) (c : Conn) : (setConn s n c).twn = s.twn := rfl
@[simp] theorem setConn_alm (n : Nat) (c : Conn) : (setConn s n c).alm = s.alm := rfl
@[simp] theorem setConn_store (n : Nat) (c : Conn) : (setConn s n c).store = s.store := rfl
@[simp] theorem setConn_fw (n : Nat) (c : Conn) : (setConn s n c).fw = s.fw := rfl
@[simp] theorem setConn_out (n : Nat) (c : Conn) : (setConn s n c).out = s.out := rfl
@[simp] theorem setConn_now (n : Nat) (c : Conn) : (setConn s n c).now = s.now := rfl
@[simp] theorem setConn_draws (n : Nat) (c : Conn) : (setConn s n c).draws = s.draws := rfl
@[simp] theorem setConn_pending (n : Nat) (c : Conn) : (setConn s n c).pending = s.pending := rfl

/-! ## setPolicer -/

@[simp] theorem setPolicer_dev (n : Nat) (z : Policer) : (setPolicer s n z).dev = s.dev := rfl
@[simp] theorem setPolicer_stw (n : Nat) (z : Policer) : (setPolicer s n z).stw = s.stw := rfl
@[simp] theorem setPolicer_fns (n : Nat) (z : Policer) : (setPolicer s n z).fns = s.fns := rfl
@[simp] theorem setPolicer_fmg (n : Nat) (z : Policer) : (setPolicer s n z).fmg = s.fmg := rfl
@[simp] theorem setPolicer_cnt (n : Nat) (z : Policer) : (setPolicer s n z).cnt = s.cnt := rfl
@[simp] theorem setPolicer_seq (n : Nat) (z : Policer) : (setPolicer s n z).seq = s.seq := rfl
@[simp] theorem setPolicer_qm (n : Nat) (z : Policer) : (setPolicer s n z).qm = s.qm := rfl
@[simp] theorem setPolicer_grn (n : Nat) (z : Policer) : (setPolicer s n z).grn = s.grn := rfl
@[simp] theorem setPolicer_fwt (n : Nat) (z : Policer) : (setPolicer s n z).fwt = s.fwt := rfl
@[simp] theorem setPolicer_mac (n : Nat) (z : Policer) : (setPolicer s n z).mac = s.mac := rfl
@[simp] theorem setPolicer_cip (n : Nat) (z : Policer) : (setPolicer s n z).cip = s.cip := rfl
@[simp] theorem setPolicer_haul (n : Nat) (z : Policer) : (setPolicer s n z).haul = s.haul := rfl
@[simp] theorem setPolicer_stg (n : Nat) (z : Policer) : (setPolicer s n z).stg = s.stg := rfl
@[simp] theorem setPolicer_pci (n : Nat) (z : Policer) : (setPolicer s n z).pci = s.pci := rfl
@[simp] theorem setPolicer_twn (n : Nat) (z : Policer) : (setPolicer s n z).twn = s.twn := rfl
@[simp] theorem setPolicer_alm (n : Nat) (z : Policer) : (setPolicer s n z).alm = s.alm := rfl
@[simp] theorem setPolicer_store (n : Nat) (z : Policer) : (setPolicer s n z).store = s.store := rfl
@[simp] theorem setPolicer_fw (n : Nat) (z : Policer) : (setPolicer s n z).fw = s.fw := rfl
@[simp] theorem setPolicer_out (n : Nat) (z : Policer) : (setPolicer s n z).out = s.out := rfl
@[simp] theorem setPolicer_now (n : Nat) (z : Policer) : (setPolicer s n z).now = s.now := rfl
@[simp] theorem setPolicer_draws (n : Nat) (z : Policer) : (setPolicer s n z).draws = s.draws := rfl
@[simp] theorem setPolicer_pending (n : Nat) (z : Policer) : (setPolicer s n z).pending = s.pending := rfl

/-! ## setPort -/

@[simp] theorem setPort_dev (n : Nat) (x : Port) : (setPort s n x).dev = s.dev := rfl
@[simp] theorem setPort_stw (n : Nat) (x : Port) : (setPort s n x).stw = s.stw := rfl
@[simp] theorem setPort_fns (n : Nat) (x : Port) : (setPort s n x).fns = s.fns := rfl
@[simp] theorem setPort_fmg (n : Nat) (x : Port) : (setPort s n x).fmg = s.fmg := rfl
@[simp] theorem setPort_cnt (n : Nat) (x : Port) : (setPort s n x).cnt = s.cnt := rfl
@[simp] theorem setPort_seq (n : Nat) (x : Port) : (setPort s n x).seq = s.seq := rfl
@[simp] theorem setPort_qm (n : Nat) (x : Port) : (setPort s n x).qm = s.qm := rfl
@[simp] theorem setPort_grn (n : Nat) (x : Port) : (setPort s n x).grn = s.grn := rfl
@[simp] theorem setPort_fwt (n : Nat) (x : Port) : (setPort s n x).fwt = s.fwt := rfl
@[simp] theorem setPort_sw (n : Nat) (x : Port) : (setPort s n x).sw = s.sw := rfl
@[simp] theorem setPort_cip (n : Nat) (x : Port) : (setPort s n x).cip = s.cip := rfl
@[simp] theorem setPort_haul (n : Nat) (x : Port) : (setPort s n x).haul = s.haul := rfl
@[simp] theorem setPort_stg (n : Nat) (x : Port) : (setPort s n x).stg = s.stg := rfl
@[simp] theorem setPort_pci (n : Nat) (x : Port) : (setPort s n x).pci = s.pci := rfl
@[simp] theorem setPort_twn (n : Nat) (x : Port) : (setPort s n x).twn = s.twn := rfl
@[simp] theorem setPort_alm (n : Nat) (x : Port) : (setPort s n x).alm = s.alm := rfl
@[simp] theorem setPort_store (n : Nat) (x : Port) : (setPort s n x).store = s.store := rfl
@[simp] theorem setPort_fw (n : Nat) (x : Port) : (setPort s n x).fw = s.fw := rfl
@[simp] theorem setPort_out (n : Nat) (x : Port) : (setPort s n x).out = s.out := rfl
@[simp] theorem setPort_now (n : Nat) (x : Port) : (setPort s n x).now = s.now := rfl
@[simp] theorem setPort_draws (n : Nat) (x : Port) : (setPort s n x).draws = s.draws := rfl
@[simp] theorem setPort_pending (n : Nat) (x : Port) : (setPort s n x).pending = s.pending := rfl

/-! ## setLaneReg -/

@[simp] theorem setLaneReg_dev (l : Nat) (x : Lane) : (setLaneReg s l x).dev = s.dev := rfl
@[simp] theorem setLaneReg_stw (l : Nat) (x : Lane) : (setLaneReg s l x).stw = s.stw := rfl
@[simp] theorem setLaneReg_fns (l : Nat) (x : Lane) : (setLaneReg s l x).fns = s.fns := rfl
@[simp] theorem setLaneReg_fmg (l : Nat) (x : Lane) : (setLaneReg s l x).fmg = s.fmg := rfl
@[simp] theorem setLaneReg_cnt (l : Nat) (x : Lane) : (setLaneReg s l x).cnt = s.cnt := rfl
@[simp] theorem setLaneReg_seq (l : Nat) (x : Lane) : (setLaneReg s l x).seq = s.seq := rfl
@[simp] theorem setLaneReg_qm (l : Nat) (x : Lane) : (setLaneReg s l x).qm = s.qm := rfl
@[simp] theorem setLaneReg_grn (l : Nat) (x : Lane) : (setLaneReg s l x).grn = s.grn := rfl
@[simp] theorem setLaneReg_fwt (l : Nat) (x : Lane) : (setLaneReg s l x).fwt = s.fwt := rfl
@[simp] theorem setLaneReg_sw (l : Nat) (x : Lane) : (setLaneReg s l x).sw = s.sw := rfl
@[simp] theorem setLaneReg_cip (l : Nat) (x : Lane) : (setLaneReg s l x).cip = s.cip := rfl
@[simp] theorem setLaneReg_haul (l : Nat) (x : Lane) : (setLaneReg s l x).haul = s.haul := rfl
@[simp] theorem setLaneReg_stg (l : Nat) (x : Lane) : (setLaneReg s l x).stg = s.stg := rfl
@[simp] theorem setLaneReg_pci (l : Nat) (x : Lane) : (setLaneReg s l x).pci = s.pci := rfl
@[simp] theorem setLaneReg_twn (l : Nat) (x : Lane) : (setLaneReg s l x).twn = s.twn := rfl
@[simp] theorem setLaneReg_alm (l : Nat) (x : Lane) : (setLaneReg s l x).alm = s.alm := rfl
@[simp] theorem setLaneReg_store (l : Nat) (x : Lane) : (setLaneReg s l x).store = s.store := rfl
@[simp] theorem setLaneReg_fw (l : Nat) (x : Lane) : (setLaneReg s l x).fw = s.fw := rfl
@[simp] theorem setLaneReg_out (l : Nat) (x : Lane) : (setLaneReg s l x).out = s.out := rfl
@[simp] theorem setLaneReg_now (l : Nat) (x : Lane) : (setLaneReg s l x).now = s.now := rfl
@[simp] theorem setLaneReg_draws (l : Nat) (x : Lane) : (setLaneReg s l x).draws = s.draws := rfl
@[simp] theorem setLaneReg_pending (l : Nat) (x : Lane) : (setLaneReg s l x).pending = s.pending := rfl

/-! ## setCage -/

@[simp] theorem setCage_dev (c : Nat) (x : Cage) : (setCage s c x).dev = s.dev := rfl
@[simp] theorem setCage_stw (c : Nat) (x : Cage) : (setCage s c x).stw = s.stw := rfl
@[simp] theorem setCage_fns (c : Nat) (x : Cage) : (setCage s c x).fns = s.fns := rfl
@[simp] theorem setCage_fmg (c : Nat) (x : Cage) : (setCage s c x).fmg = s.fmg := rfl
@[simp] theorem setCage_cnt (c : Nat) (x : Cage) : (setCage s c x).cnt = s.cnt := rfl
@[simp] theorem setCage_seq (c : Nat) (x : Cage) : (setCage s c x).seq = s.seq := rfl
@[simp] theorem setCage_qm (c : Nat) (x : Cage) : (setCage s c x).qm = s.qm := rfl
@[simp] theorem setCage_grn (c : Nat) (x : Cage) : (setCage s c x).grn = s.grn := rfl
@[simp] theorem setCage_fwt (c : Nat) (x : Cage) : (setCage s c x).fwt = s.fwt := rfl
@[simp] theorem setCage_sw (c : Nat) (x : Cage) : (setCage s c x).sw = s.sw := rfl
@[simp] theorem setCage_cip (c : Nat) (x : Cage) : (setCage s c x).cip = s.cip := rfl
@[simp] theorem setCage_haul (c : Nat) (x : Cage) : (setCage s c x).haul = s.haul := rfl
@[simp] theorem setCage_stg (c : Nat) (x : Cage) : (setCage s c x).stg = s.stg := rfl
@[simp] theorem setCage_pci (c : Nat) (x : Cage) : (setCage s c x).pci = s.pci := rfl
@[simp] theorem setCage_twn (c : Nat) (x : Cage) : (setCage s c x).twn = s.twn := rfl
@[simp] theorem setCage_alm (c : Nat) (x : Cage) : (setCage s c x).alm = s.alm := rfl
@[simp] theorem setCage_store (c : Nat) (x : Cage) : (setCage s c x).store = s.store := rfl
@[simp] theorem setCage_fw (c : Nat) (x : Cage) : (setCage s c x).fw = s.fw := rfl
@[simp] theorem setCage_out (c : Nat) (x : Cage) : (setCage s c x).out = s.out := rfl
@[simp] theorem setCage_now (c : Nat) (x : Cage) : (setCage s c x).now = s.now := rfl
@[simp] theorem setCage_draws (c : Nat) (x : Cage) : (setCage s c x).draws = s.draws := rfl
@[simp] theorem setCage_pending (c : Nat) (x : Cage) : (setCage s c x).pending = s.pending := rfl

/-! ## setDom -/

@[simp] theorem setDom_dev (d : Nat) (x : Domain) : (setDom s d x).dev = s.dev := rfl
@[simp] theorem setDom_stw (d : Nat) (x : Domain) : (setDom s d x).stw = s.stw := rfl
@[simp] theorem setDom_fns (d : Nat) (x : Domain) : (setDom s d x).fns = s.fns := rfl
@[simp] theorem setDom_fmg (d : Nat) (x : Domain) : (setDom s d x).fmg = s.fmg := rfl
@[simp] theorem setDom_cnt (d : Nat) (x : Domain) : (setDom s d x).cnt = s.cnt := rfl
@[simp] theorem setDom_seq (d : Nat) (x : Domain) : (setDom s d x).seq = s.seq := rfl
@[simp] theorem setDom_qm (d : Nat) (x : Domain) : (setDom s d x).qm = s.qm := rfl
@[simp] theorem setDom_grn (d : Nat) (x : Domain) : (setDom s d x).grn = s.grn := rfl
@[simp] theorem setDom_fwt (d : Nat) (x : Domain) : (setDom s d x).fwt = s.fwt := rfl
@[simp] theorem setDom_mac (d : Nat) (x : Domain) : (setDom s d x).mac = s.mac := rfl
@[simp] theorem setDom_sw (d : Nat) (x : Domain) : (setDom s d x).sw = s.sw := rfl
@[simp] theorem setDom_cip (d : Nat) (x : Domain) : (setDom s d x).cip = s.cip := rfl
@[simp] theorem setDom_haul (d : Nat) (x : Domain) : (setDom s d x).haul = s.haul := rfl
@[simp] theorem setDom_stg (d : Nat) (x : Domain) : (setDom s d x).stg = s.stg := rfl
@[simp] theorem setDom_pci (d : Nat) (x : Domain) : (setDom s d x).pci = s.pci := rfl
@[simp] theorem setDom_twn (d : Nat) (x : Domain) : (setDom s d x).twn = s.twn := rfl
@[simp] theorem setDom_store (d : Nat) (x : Domain) : (setDom s d x).store = s.store := rfl
@[simp] theorem setDom_fw (d : Nat) (x : Domain) : (setDom s d x).fw = s.fw := rfl
@[simp] theorem setDom_out (d : Nat) (x : Domain) : (setDom s d x).out = s.out := rfl
@[simp] theorem setDom_now (d : Nat) (x : Domain) : (setDom s d x).now = s.now := rfl
@[simp] theorem setDom_draws (d : Nat) (x : Domain) : (setDom s d x).draws = s.draws := rfl
@[simp] theorem setDom_pending (d : Nat) (x : Domain) : (setDom s d x).pending = s.pending := rfl

/-! ## Reads where a write wrote -/

@[simp] theorem cqOf_setCq (n : Nat) (c : CqRing) : cqOf (setCq s n c) n = some c := tget_tset_self _ _ _
@[simp] theorem connOf_setConn (n : Nat) (c : Conn) : connOf (setConn s n c) n = some c := tget_tset_self _ _ _
@[simp] theorem saOf_setSa (n : Nat) (a : Sa) : saOf (setSa s n a) n = some a := tget_tset_self _ _ _
@[simp] theorem ringOf_setRing (rx : Bool) (q : Nat) (r : Ring) : ringOf (setRing s rx q r) rx q = some r := by
  cases rx <;> exact tget_tset_self _ _ _
@[simp] theorem portOf_setPort (n : Nat) (x : Port) : portOf (setPort s n x) n = x := by
  simp [portOf, setPort, tgetD]
@[simp] theorem pipeOf_setPipe (p : Nat) (x : Pipe) : pipeOf (setPipe s p x) p = x := by
  unfold setPipe; split <;> simp [pipeOf]
@[simp] theorem fpOf_setFp (p : Nat) (x : FPipe) : fpOf (setFp s p x) p = x := by
  unfold setFp; split <;> simp [fpOf]
@[simp] theorem bankOf_setBank (b : Nat) (x : Bank) : bankOf (setBank s b x) b = x := by
  unfold setBank bankOf; split <;> rfl

/-- A ring is not where another ring was written. -/
theorem ringOf_setRing_ne (rx : Bool) {q n : Nat} (r : Ring) (h : n ≠ q) :
    ringOf (setRing s rx q r) rx n = ringOf s rx n := by
  cases rx <;> exact tget_tset_ne _ _ h
theorem cqOf_setCq_ne {n k : Nat} (c : CqRing) (h : k ≠ n) : cqOf (setCq s n c) k = cqOf s k := tget_tset_ne _ _ h
theorem connOf_setConn_ne {n k : Nat} (c : Conn) (h : k ≠ n) : connOf (setConn s n c) k = connOf s k := tget_tset_ne _ _ h
theorem saOf_setSa_ne {n k : Nat} (a : Sa) (h : k ≠ n) : saOf (setSa s n a) k = saOf s k := tget_tset_ne _ _ h
theorem fnOf_setFn_ne {fid k : Nat} (f : Fn) (h : k ≠ fid) : fnOf (setFn s fid f) k = fnOf s k := tgetD_tput_ne _ _ _ _ h
theorem pciOf_setPci_ne {fid k : Nat} (f : PciFn) (h : k ≠ fid) : pciOf (setPci s fid f) k = pciOf s k := tgetD_tput_ne _ _ _ _ h
theorem chanOf_setChan_ne {n k : Nat} (c : Chan) (h : k ≠ n) : chanOf (setChan s n c) k = chanOf s k := tgetD_tput_ne _ _ _ _ h
theorem laneOf_setLane_ne {n k : Nat} (l : CLane) (h : k ≠ n) : laneOf (setLane s n l) k = laneOf s k := tgetD_tput_ne _ _ _ _ h
theorem domOf_setDom_ne {d k : Nat} (x : Domain) (h : k ≠ d) : domOf (setDom s d x) k = domOf s k := tgetD_tput_ne _ _ _ _ h

/-- A function's record is what was written, where the records keep their canonical form. -/
theorem fnOf_setFn (hs : tsortedFrom s.fns 0 = true) (fid : Nat) (f : Fn) : fnOf (setFn s fid f) fid = f :=
  tgetD_tput_self hs fid f
theorem pciOf_setPci (hs : tsortedFrom s.pci.fns 0 = true) (fid : Nat) (f : PciFn) : pciOf (setPci s fid f) fid = f :=
  tgetD_tput_self hs fid f
theorem chanOf_setChan (hs : tsortedFrom s.haul.chans 0 = true) (n : Nat) (c : Chan) : chanOf (setChan s n c) n = c :=
  tgetD_tput_self hs n c

end Sys2Proof.Machine
end

