-- ==== Sys2Proof/Laws/Steps.lean ====
section
/-! SUPPORT. What every step of a pipeline goes through, said once: a step that issues does what its own rules say. -/

namespace Sys2Proof.Machine

variable {s t : State} {p c unit op fid : Nat} {x : StepIn} {mark : Bool}

/-- A step that issues is the one its command names. -/
theorem withStep_issues (h : Issues s p c unit op x) (f : StepIn → State) : withStep unit op p c s f = f x := by
  obtain ⟨k, h1, h2, h3, h4, h5, h6⟩ := h
  subst h3
  have h2 : (k.st = .ready && k.lib.isNone && stepCorrupt s p k k.pc) = false := by
    by_cases a : k.st = .ready
    · cases hl : k.lib with
      | none => simp [h2 a hl]
      | some r => simp
    · simp [a]
  simp [withStep, h1, h2, h4, h5, h6]

/-- What a step is given names the step's own pipeline and context. -/
theorem Issues.place (h : Issues s p c unit op x) : x.p = p ∧ x.c = c := by
  obtain ⟨k, _, _, h3, _⟩ := h
  subst h3
  exact ⟨rfl, rfl⟩

/-- A step whose operands are clean runs. -/
theorem poisonGate_clean (h : Clean x mark) (f : State) : poisonGate s x mark f = f := by
  rcases h with h | h <;> simp [poisonGate, h]

/-- A step with a poisoned operand that it does not allow ends with FAILED_PARITY (R67). -/
theorem poisonGate_poisoned (h : mark = true) (h' : x.w.poisonOk = false) (f : State) :
    poisonGate s x mark f = done s x .failedParity := by
  simp [poisonGate, h, h']

/-- A step for a function outside the stocks whose operands are clean runs. -/
theorem unitGate_clean (hf : isFrozen s fid = false) (h : Clean x mark) (f : State) : unitGate s x fid mark f = f := by
  simp [unitGate, hf, poisonGate_clean h]

/-- A step for a function in the stocks does nothing but end with FROZEN (R335); an offence in its instant joins the one
recorded there (R336). -/
theorem unitGate_frozen (hf : isFrozen s fid = true) (f : State) :
    unitGate s x fid mark f = done (joinOnly s f fid).2 x .frozen := by
  simp [unitGate, hf]

/-- Where no offence of this instant is recorded, nothing joins it. -/
theorem joinOnly_none (h : violNow s fid = false) (f : State) : joinOnly s f fid = (false, s) := by
  simp [joinOnly, h]

/-- The state of a step refused for the stocks. -/
theorem joinOnly_joins (s f : State) (fid : Nat) : Joins s fid (joinOnly s f fid).2 := by
  refine ⟨Only.changes (m := 0x14) (by simp) (by decide), fun h => by rw [joinOnly_none h]⟩

/-! ## Steps of a bank, and steps of the storage library -/

/-- The units by which the storage library acts. -/
theorem LibOp.word_unit (r : LibRun) (o : LibOp) : (o.word r).unit ∈ [0, 8, 9, 12, 13, 14, 15] := by
  cases o <;> simp [LibOp.word, libWord]

/-- The steps of every other unit are its bank's. -/
theorem Issues.own (h : Issues s p c unit op x) (hu : unit ∉ [0, 8, 9, 12, 13, 14, 15] := by decide) : x.k.lib = none := by
  obtain ⟨k, _, _, h3, h4, _⟩ := h
  subst h3
  cases hl : k.lib with
  | none => exact hl
  | some r => exact absurd (by rw [← h4]; simpa [stepIn, stepWord, hl] using LibOp.word_unit r _) hu

/-- A step of a bank goes on to the step that its code selects (R47). -/
theorem advance_own (k : Pkt) (cc : Cc) (h : k.lib = none) : advance s x k cc =
    (let k1 := { k.traceStep x.idx cc with pc := x.w.succ cc, st := .ready }
     if x.w.succ cc = 63 then
       (let t := noteIssue (setCtx s x.p x.c (k1.enterPoison (stepCorrupt s x.p k1 63))) x
        if stepCorrupt s x.p k1 63 then t else logPoison t x.p k 0 x.idx)
     else noteIssue (setCtx s x.p x.c k1) x) := by
  simp only [advance, h]

/-- A step of a bank that ends changes its context, and counts and logs an entry to the poison handler; no more. -/
theorem advance_own_only (k : Pkt) (cc : Cc) (h : k.lib = none) : Only 0x31 s (advance s x k cc) := by
  simp [advance_own k cc h]
theorem done_own_only (cc : Cc) (h : x.k.lib = none) : Only 0x31 s (done s x cc) := advance_own_only _ _ h
theorem doneW_own_only (cc : Cc) (v : Nat) (b : Bool) (h : x.k.lib = none) : Only 0x31 s (doneW s x cc v b) := by
  unfold doneW putDst
  split <;> exact advance_own_only _ _ h

end Sys2Proof.Machine
end

