-- ==== Sys2Proof/Laws/Store.lean ====
section
/-! SUPPORT. The lifetime store: what a commit leaves as its newest record. -/

namespace Sys2Proof.Machine

variable (s : State)

/-- A commit makes the accumulation the newest record (R470). -/
theorem commitStore_saved : (commitStore s).store.saved = (commitStore s).store.acc := by
  have h : ((bumpLife s 24 1).store.recSeq + 1 + 31) % 32 = (bumpLife s 24 1).store.recSeq % 32 := by omega
  simp [commitStore, AlmStore.saved, h]

end Sys2Proof.Machine
end

