-- ==== Sys2Proof/Laws/Twin.lean ====
section
/-! SUPPORT. What a standby does with a frame of types 2 to 6, said once: the next frame in order is applied or waits behind a
command, a repeat is acknowledged again, and a frame after a gap changes nothing more. -/

namespace Sys2Proof.Machine

variable {s t u : State} {h : TwinHdr}

/-- Losing sync keeps the number of the next frame. -/
theorem loseSync_rxSeq (s : State) : (loseSync s).twn.rxSeq = s.twn.rxSeq := by
  unfold loseSync endArm logEvent
  repeat' split
  all_goals rfl

/-- A row that does not accept a frame is not the row that did. -/
theorem ite_accepts {c : Prop} [Decidable c] {a b : Bool × State} (e : (if c then a else b) = (true, u)) (ha : a.1 = false) :
    b = (true, u) := by
  split at e
  · subst e; cases ha
  · exact e

/-- What a frame tells of the peer keeps the number of the next frame. -/
theorem learnPeer_rxSeq (s : State) (h : TwinHdr) : (learnPeer s h).twn.rxSeq = s.twn.rxSeq := by
  simp only [learnPeer]
  split
  · split
    · rfl
    · split
      · rw [loseSync_rxSeq]
      · rfl
  · rfl

/-- An accepted frame keeps the number of the next frame. -/
theorem resolve_rxSeq (e : resolve s h = (true, u)) : u.twn.rxSeq = s.twn.rxSeq := by
  simp only [resolve] at e
  have e1 := ite_accepts (ite_accepts (ite_accepts (ite_accepts e rfl) rfl) rfl) rfl
  rw [← (Prod.mk.inj e1).2, learnPeer_rxSeq]

/-- An acknowledgement keeps the number of the next frame. -/
theorem twinAck_rxSeq (s : State) (r : Option (Nat × Nat)) : (twinAck s r).twn.rxSeq = s.twn.rxSeq := by
  unfold twinAck twinFrame; split <;> rfl

/-- A frame number is not before itself. -/
theorem frameBefore_self (n : Nat) : frameBefore n n = false := by
  simp [frameBefore]

/-- The next frame in order is applied, or waits behind a command that has not ended. -/
theorem takeFrame_applies (a : Applies s h t) (w : TwinWork) :
    takeFrame s h w = if w.isCommand || !t.twn.rxq.isEmpty || twinRuns t
      then twinAck { t with twn := { t.twn with rxq := t.twn.rxq ++ [w] } } none else twinAck (applyWork t w) none := by
  obtain ⟨u, ⟨h1, h2, h3, h4⟩, h5, h6⟩ := a
  subst h6
  simp [takeFrame, twinReceive, h1, h2, h3, h4, h5, frameBefore_self, twinRuns]

/-- A repeat is acknowledged again, with its result where it is the last command's. -/
theorem takeFrame_repeat (a : Accepts s h u) (b : frameBefore h.seq u.twn.rxSeq = true) (w : TwinWork) :
    takeFrame s h w = twinAck u (u.twn.rxResult.filter (fun r => r.1 = h.seq)) := by
  obtain ⟨h1, h2, h3, h4⟩ := a
  simp [takeFrame, twinReceive, h1, h2, h3, h4, b]

/-- After a gap a frame is not taken. -/
theorem takeFrame_gap (a : Accepts s h u) (b : frameBefore h.seq u.twn.rxSeq = false) (c : h.seq ≠ u.twn.rxSeq)
    (w : TwinWork) : takeFrame s h w = u := by
  obtain ⟨h1, h2, h3, h4⟩ := a
  simp only [takeFrame, twinReceive, h1, h2, h3, h4, b]
  simp [c]

/-- A taken frame moves the number on. -/
theorem takeFrame_moves (a : Applies s h t) (bs : List Nat) :
    (takeFrame s h (.command bs)).twn.rxSeq ≠ s.twn.rxSeq := by
  rw [takeFrame_applies a]
  obtain ⟨u, ⟨h1, h2, h3, h4⟩, h5, h6⟩ := a
  subst h6
  simp only [TwinWork.isCommand, Bool.true_or, if_true, twinAck_rxSeq]
  rw [← resolve_rxSeq h3, ← h5]
  omega

end Sys2Proof.Machine
end

