-- ==== Sys2Proof/Tests/Base.lean ====
section
/-! SUPPORT. The small states that the tests and the witnesses are about: a part that has started, with one or two of each
thing in it. -/

namespace Sys2Proof.Tests

open Sys2Proof.Machine

/-- The manager's packet on the administration ring. -/
def mg : Meta := ⟨.admin, 0, 1, false⟩

/-- A function with windows over the whole host space and a grant of everything. -/
def fnFull : Fn :=
  { Fn.operator true with tx := 8, rx := 8, cq := 8, msix := 8, haul := 4, policers := 8 }

/-- Function 2's transmit ring 5, receive ring 6 and completion ring 7, at windows 5 to 7. -/
def txRing : Ring := { fid := 2, window := 5, base := 0x10000, sizeLog2 := 6, cq := 7, st := .running }
def rxRing : Ring := { fid := 2, window := 6, base := 0x20000, sizeLog2 := 6, cq := 7, st := .running }
def cqRing : CqRing := { fid := 2, window := 7, base := 0x30000, sizeLog2 := 6, ctrAddr := 0x40000, msix := 0, st := .running }

/-- An ACTIVE SA of function 2. -/
def sa9 : Sa :=
  { st := .active, dir := 0, mode := 2, esn := false, mirrored := false, leaseReady := true, owner := 2, slot := 0
    kekGen := 0, seq := 1, lease := 0, replayWindow := 0, unitLog2 := 0, bitmap := 0, blob := [] }

/-- A connection of function 2 on pipeline 0. -/
def conn4 : Conn :=
  { st := .active, transport := 0, hdgst := false, ddgst := false, retxLimit := 0, program := 0, owner := 2
    pipeline := 0, cmdMax := 8, timeoutMs := 10, rtoUs := 0, mirrored := false, steer := List.replicate 32 0 }

/-- Every clock domain runs. -/
def allRun : Tbl Domain := (List.range 25).map (fun d => (d, { running := true }))

/-- A step word (Table 2.1): unit, operation, dst, src_a, src_b and immediate; every code leads on to index 64. -/
def stepWord (unit op dst a b imm : Nat) : W128 :=
  BitVec.ofNat 128 (unit + op * 2 ^ 4 + 64 * 2 ^ 28 + 64 * 2 ^ 44 + dst * 2 ^ 64 + a * 2 ^ 72 + b * 2 ^ 80 + imm * 2 ^ 88)

/-- What a table set declares whose every entry point is one END, for the ports of `live`. -/
def endDecl : TableDecl :=
  { stepBudget := 96, accessBudget := 6, rxBudget := 1000, pushBudget := 1000, w2wBudget := 1000, paced := []
    allow := ⟨4, 1, 100⟩
    summary := (List.range 24 ++ [62, 63]).map (fun e => (e, ⟨1, 0, 0, 5, false, [], 0, 0⟩))
    ports := [(0, ⟨0x21, 0x5EE, [0, 0, 0, 0, 0, 0, 0, 0]⟩), (1, ⟨0x11, 0x5EE, [0, 0, 0, 0, 0, 0, 0, 0]⟩)], names := [] }

/-- A bank that holds that table set. -/
def endBank (st : BankState) : Bank :=
  { st := st, steps := (List.range 64).map (fun e => (e, stepWord 0 1 0xFF 0xFF 0xFF 0)), decl := some endDecl }

/-- A part that has started: the Steward is ready, functions 0 to 2 are active, ports 0 and 1 are up, bank A is CURRENT, and
there is a ring of each type, a host pool, a table, an SA, a policer, a session, a channel and a connection. -/
def live : State :=
  { dev := { wipeDone := true }
    stw := { ready := true, admEnable := true, cmdBase := 0x1000, rplBase := 0x2000 }
    fns := [(0, fnFull), (1, Fn.operator false), (2, fnFull)]
    fmg := { ready := true }
    cnt := { ready := true }
    seq := { bankA := endBank .current }
    qm := { ready := true, tx := [(5, txRing)], rx := [(6, rxRing)], cq := [(7, cqRing)] }
    grn := { ready := true, shares := Grn.resetShares
             pools := Grn.resetPools ++ [(4, { kind := 1, set := 4, sizeLog2 := 12, count := 16, base := 0x100000, spaceFid := 2 })] }
    fwt := { ready := true, tables := [(1, { hot := false, kind := 1, bucketsLog2 := 4, keyLen := 8, ageLimit := 100, seed := 0 })] }
    mac := { layout := [0x21, 0x21, 0x11, 0, 0, 0, 0, 0], timeRunning := true, timeNs := 1000000
             ports := [(0, { enabled := true, link := true }), (1, { enabled := true, link := true })] }
    sw := { policers := [(3, ⟨2, 100, 10, 6400, 6400, 0⟩)], sessions := [(2, { fid := 2, window := 6, snapLen := 0, sampleN := 1, crossTenant := false })] }
    cip := { kek := some 0, sas := [(9, sa9)] }
    haul := { chans := [(1, { owner := 2, st := .idle }), (15, { owner := 0xFFF, mode := 3, st := .idle })] }
    stg := { ready := true, configured := true, conns := [(4, conn4)] }
    pci := { linkUp := true, configReady := true, vfEnable := true, vfMse := true, numVfs := 4
             fns := [(0, { bme := true, mse := true }), (1, { bme := true, mse := true }), (2, { bme := true, mse := true })] }
    alm := { domains := allRun, calValid := true }
    store := { mainPresent := true, perst := false } }

/-- The words of a packet of function 2 with 256 bytes in cell 7: w0 and w1 hold `a` and `b`. -/
def pktWords (a b : Nat) (i : Nat) : Nat :=
  if i = 0 then a else if i = 1 then b else if i = 24 then 7 + 256 * 2 ^ 40 else if i = 26 then 2 * 2 ^ 24 else 0

/-- That packet, READY at index 64. -/
def stepPkt (a b : Nat) : Pkt := { ord := 0, words := mkWords (pktWords a b), pc := 64, chains := [7] }

/-- `live` with a bank whose step 64 is `w`, that packet in context 0 of pipeline 0, and its bytes in cell 7. -/
def stepping (w : W128) (a b : Nat) : State :=
  { live with
    seq := { bankA := { endBank .current with steps := [(64, w)] }, pipe0 := { ctxs := [(0, stepPkt a b)] } }
    grn := { live.grn with bufs := [(7, { owner := 0xFFF, st := 2 })], data := [(7, List.replicate 256 ⟨0, false⟩)] } }

/-- A manifest of format 2 whose seven entries give a length of one byte each, and nothing signed. -/
def man608 : List Nat :=
  [0x4D, 0x00, 0x40, 0x16, 2, 7, 0, 0, 0, 0, 0, 0, 0x40, 0x16, 0, 0] ++ List.replicate 48 0 ++
    (List.range 7).flatMap (fun i => [i + 1, 0, 0, 0, 0, 0, 0, 0, 0, 0, 0, 0, 1, 0, 0, 0] ++ List.replicate 48 0) ++
    List.replicate 96 0

end Sys2Proof.Tests
end

