-- ==== Sys2Proof/Tests/Slice0.lean ====
section
/-! SUPPORT. The tests: an ill-formed term for each check of a well-formed command, and the spec's own worked examples, with
the numbers that the spec's text gives. -/

set_option maxRecDepth 10000
set_option Elab.async false

namespace Sys2Proof.Tests

open Sys2Proof.Machine

/-! ## Well-formed commands -/

/-- A twin header and a chain frame whose fields fit. -/
def hdrFit : TwinHdr := { role := 1, armed := false, paired := true, inSync := true, epoch := 1, seq := 1, tagOk := true }
def frmFit : ChainFrame := { pair := 0, kind := 7, off := 0, version := 1, digestId := 1, payload := [1], crcOk := true }

theorem test_wf_fits : ([.readIdentity mg, .adminDoorbell 7, .ctlEnd 3 255, .linkDown 15, .stopChannel mg 15,
    .chainOfferReceived frmFit, .heartbeatReceived hdrFit, .intaUpdate] : List Instr).all wellFormed = true := by decide
theorem test_wf_origin : wellFormed (.readIdentity ⟨.admin, 4096, 0, false⟩) = false := by decide
theorem test_wf_tag : wellFormed (.readIdentity ⟨.admin, 0, 2 ^ 32, false⟩) = false := by decide
theorem test_wf_fid : wellFormed (.quiesceEnd 4096) = false := by decide
theorem test_wf_number : wellFormed (.adminDoorbell (2 ^ 64)) = false := by decide
theorem test_wf_bytes : wellFormed (.inlinePush 2 5 [256]) = false := by decide
theorem test_wf_pipeline : wellFormed (.dispatch 4) = false := by decide
theorem test_wf_context : wellFormed (.ctlEnd 0 256) = false := by decide
theorem test_wf_port : wellFormed (.linkDown 16) = false := by decide
theorem test_wf_channel : wellFormed (.stopChannel mg 16) = false := by decide
theorem test_wf_owner : wellFormed (.readEntry mg 1 4096 [] 1) = false := by decide
theorem test_wf_words : wellFormed (.writeGroupFilter mg 0 [2 ^ 64] 0) = false := by decide
theorem test_wf_window : wellFormed (.setDmaWindow mg 2 ⟨0, 2 ^ 64, 1, true, true⟩) = false := by decide
theorem test_wf_burst : wellFormed (.setPortParameters mg
    ⟨0, 1518, 0, 0, 0, 0, 0, 0, [2 ^ 32], [], [], 0, 0⟩) = false := by decide
theorem test_wf_step_word : wellFormed (.coldReset true ⟨false, false⟩ ⟨[(0, 2 ^ 128)], endDecl⟩) = false := by decide
theorem test_wf_step_index : wellFormed (.coldReset true ⟨false, false⟩ ⟨[(65536, 0)], endDecl⟩) = false := by decide
theorem test_wf_temperature : wellFormed (.lifetimeSample ⟨65536, [], [], true⟩) = false := by decide
theorem test_wf_epoch : wellFormed (.heartbeatReceived { hdrFit with epoch := 2 ^ 64 }) = false := by decide
theorem test_wf_frame_kind : wellFormed (.chainOfferReceived { frmFit with kind := 256 }) = false := by decide
theorem test_wf_frame_offset : wellFormed (.chainOfferReceived { frmFit with off := 2 ^ 32 }) = false := by decide
theorem test_wf_frame_payload : wellFormed (.chainOfferReceived { frmFit with payload := List.replicate 1025 0 }) = false := by
  decide

/-! ## No word spells a command -/

/-- No row of the operation table gives bits. -/
theorem test_decode_none : decodeTableWord 32 0 = none := rfl

/-! ## Worked examples of the spec -/

/-- Chapter 3, "a lap at exactly full": P − C may reach the size and not pass it, and P never moves back. -/
theorem test_doorbell_full : doorbellOk { txRing with p := 0x10, c := 0xFFFFFFF0 } 0x30 = true := by decide +kernel
theorem test_doorbell_over : doorbellOk { txRing with p := 0x10, c := 0xFFFFFFF0 } 0x31 = false := by decide +kernel
theorem test_doorbell_back : doorbellOk { txRing with p := 0x30, c := 0x10 } 0x2F = false := by decide +kernel

/-- Chapter 3: queue 12 of weight 3 and burst 4 beside queue 40 of weight 1 and burst 16. -/
def twoQueues : State :=
  { live with qm := { live.qm with weights := [(12, (3, 4)), (40, (1, 16))], tx :=
      [(12, { txRing with p := 1, effWeight := 3, effBurst := 4 }),
       (40, { txRing with window := 8, p := 1, effWeight := 1, effBurst := 16 })] } }
/-- The queues of the next visits of pipeline 0. -/
def nextVisits : Nat → State → List (Option Nat)
  | 0, _ => []
  | n + 1, s => (nextVisit s 0).1 :: nextVisits n (nextVisit s 0).2
theorem test_round_order : nextVisits 32 twoQueues =
    List.replicate 4 (some 12) ++ List.replicate 16 (some 40) ++ List.replicate 12 (some 12) := by decide +kernel

/-- Chapter 4, Tables 4.8 and 4.9: pools 8 and 9 of set 4 at cycle c0. -/
def bufsOf (p o first n : Nat) : Tbl Buf := (List.range n).map (fun i => (p * 2 ^ 34 + first + i, ⟨o, 2, 0, none⟩))
def lastBuffer : State :=
  { live with grn := { live.grn with
      pools := [(8, { kind := 1, set := 4, sizeLog2 := 11, count := 64, base := 0x100000, spaceFid := 2 }),
                (9, { kind := 1, set := 4, sizeLog2 := 14, count := 16, base := 0x200000, spaceFid := 2 })]
      shares := [(8 * 4096 + 12, ⟨8, 48, 1⟩), (8 * 4096 + 13, ⟨8, 48, 1⟩), (8 * 4096 + 14, ⟨16, 32, 2⟩),
                 (9 * 4096 + 12, ⟨0, 4, 1⟩), (9 * 4096 + 13, ⟨0, 0, 0⟩), (9 * 4096 + 14, ⟨4, 8, 1⟩)]
      bufs := bufsOf 8 12 0 30 ++ bufsOf 8 13 30 15 ++ bufsOf 8 14 45 18 ++ bufsOf 9 14 0 4 ++
        (List.range 12).map (fun i => (9 * 2 ^ 34 + 4 + i, ⟨0xFFE, 0, 0, none⟩)) } }
theorem test_commons_free : (commonsFree lastBuffer 8, commonsFree lastBuffer 9) = (1, 12) := by decide +kernel
theorem test_pressure : (underPressure lastBuffer 8, underPressure lastBuffer 9) = (true, false) := by decide +kernel
theorem test_weighted_share : [12, 13, 14].map (weightedShare lastBuffer 8) = [8, 8, 16] ∧
    [12, 14].map (weightedShare lastBuffer 9) = [6, 6] := by decide +kernel
theorem test_alloc_fallback : poolAns lastBuffer 8 12 1 0 = .empty ∧ poolAns lastBuffer 9 12 1 0 = .commons := by
  decide +kernel
theorem test_alloc_commons : poolAns lastBuffer 8 14 1 0 = .commons ∧ poolAns lastBuffer 9 13 1 0 = .limit := by
  decide +kernel

/-- Chapter 5: entry M, learned at 0x0010_0000 with age_limit 292,969, ends its interval at tick 0x0014_7869. -/
def entryM : FEntry :=
  { origin := false, noAge := false, table := 3, owner := 2, lastHit := 0x100000, key := [], result := [] }
def table3 : FTable :=
  { hot := false, kind := 1, bucketsLog2 := 4, keyLen := 8, ageLimit := 292969, seed := 0 }
theorem test_ager_tick : (entryM.expired table3 0x147868, entryM.expired table3 0x147869) = (false, true) := by decide +kernel

/-- Chapter 6: the filter admits 33-33-00-00-00-01, whose CRC is 0xA2AA_2660, by bit 32 of word 25, and not -02. -/
theorem test_group_crc : crc32 0xFFFFFFFF [0x33, 0x33, 0, 0, 0, 1] = 0xA2AA2660 := by decide +kernel
theorem test_group_filter :
    groupRejected { grpHash := [(25, 0x100000000)] } [0x33, 0x33, 0, 0, 0, 1] = false ∧
    groupRejected { grpHash := [(25, 0x100000000)] } [0x33, 0x33, 0, 0, 0, 2] = true := by decide +kernel

/-- Chapter 7, Table 7.7: policer 310 around a window boundary. -/
def policer310 (t tokens k : Nat) (len : Nat) : State :=
  let s := stepping (stepWord 7 0 2 0 1 0) (310 + 52 * 2 ^ 32) len
  { s with
    mac := { s.mac with timeNs := BitVec.ofNat 64 t }
    sw := { s.sw with policers := [(310, ⟨52, 6250, 10, 9216, tokens, k⟩)] } }
def metered (s : State) : Option Nat := (tget (execPoliceMeter 0 0 s |>.after s).sw.policers 310).map (·.tokens)
theorem test_police_before : metered (policer310 (0x500000000 - 3) 1000 20971519 1518) = some 1000 := by decide +kernel
theorem test_police_at : metered (policer310 0x500000000 1000 20971519 1518) = some 5732 := by decide +kernel
theorem test_police_over : metered (policer310 (0x500000000 + 500) 4214 20971520 9000) = some 4214 := by decide +kernel
theorem test_police_full : metered (policer310 (0x500000000 + 1024) 4214 20971520 64) = some 9152 := by decide +kernel

/-- Chapter 8, Table 8.7: the choice of a lane; committed_until is in eighths of a nanosecond. -/
def lanes87 (now : Nat) : State :=
  { live with
    now := now
    cip := { live.cip with lanes := (List.range 32).map (fun n =>
      (n, if n = 31 then { dedicated := 60, until8 := 80 }
          else if n = 30 then { dedicated := 60, until8 := 240 }
          else if n = 5 then { until8 := 176, lastOwner := 91 }
          else if n < 8 then { until8 := 800 } else { dedicated := 1, until8 := 0 })) } }
theorem test_lane_own : pickLane (lanes87 0) 60 = some 31 := by decide +kernel
theorem test_lane_commit : (laneOf (claimLane (lanes87 0) 31 60 1464 none) 31).until8 = 8 * 201 := by decide +kernel
theorem test_lane_busy : pickLane (lanes87 0) 77 = none := by decide +kernel
theorem test_lane_later : pickLane (lanes87 14) 77 = some 5 ∧
    (laneOf (claimLane (lanes87 14) 5 77 200 none) 5).until8 = 8 * 55 ∧
    (laneOf (claimLane (lanes87 14) 5 77 200 none) 5).wipes = 1 := by decide +kernel

/-- Chapter 10, Table 10.13: slot 4 with gen 0x07F gives cid 0x1FC4. -/
theorem test_slot_cid : slotCid { conn4 with slots := [(4, { tag := 1, cq := 7, st := 1, gen := 0x7F, allocAt := 0 })] } 4
    = 0x1FC4 := by decide +kernel

/-- Chapter 11, Table 11.9: the doorbell of FID 214 that moves P back. -/
def bad214 : State :=
  { live with
    fns := live.fns ++ [(214, fnFull)]
    pci := { live.pci with numVfs := 300 }
    qm := { live.qm with tx := [(9, { txRing with fid := 214, window := 3, sizeLog2 := 8, p := 0x180, c := 0x140, f := 0x150 })] } }
def after214 : State := (execDoorbell 214 3 0 4 0x170 bad214).after bad214
theorem test_bad_doorbell : (fnOf after214 214).frozen = true ∧ (fnOf after214 214).violCode = 0x05 ∧
    (fnOf after214 214).violMask = 0x010 ∧ (fnOf after214 214).violDetail = 0x00017003 := by decide +kernel
theorem test_bad_doorbell_ignored : (ringOf after214 false 9).map (·.p) = some 0x180 := by decide +kernel

/-- Chapter 12, Table 12.8: read A times out at t0 + 10 ms, and its tag is quarantined for 20 ms. -/
def readA : Read :=
  { link := 0, tag := some 0x2A1, addr := 0x1000, fid := 2, stream := 5, use := .fetch false 5, at_ := 0, tmo := 10000000
    len := 64 }
def timedOut : State :=
  let s := { live with now := 10000000, pci := { live.pci with reads := [readA] } }
  execCompletionTimeout 0 0x2A1 s |>.after s
theorem test_quarantine : tget timedOut.pci.quarantine 0x2A1 = some (30000000, 2) := by decide +kernel

/-- Chapter 13, Table 13.5: what lease 0x3A8 leaves on the standby, and a number replayed after the takeover. -/
theorem test_lease_record : (sa9.leaseRecord 0x3A8).seq = 0x3A900000 ∧ (sa9.leaseRecord 0x3A8).lease = 0x3AA00000 := by
  decide +kernel
theorem test_replay_takeover :
    replayed { sa9 with dir := 1, seq := 0x613C00, lease := 0x513C00, replayWindow := 64, jumped := true } 0x521F40 = true ∧
    replayCounter { sa9 with dir := 1, seq := 0x613C00, lease := 0x513C00, replayWindow := 64, jumped := true } 0x521F40
      = cCipReplayTakeover := by decide +kernel

/-- Chapter 14: the parity byte of the quiesce packet of FID 214 is 0xE2. -/
theorem test_packet_parity :
    (packetBytes 0x0202 0x0C31 0 true [0xD6, 0, 2, 0, 0, 0, 0, 0]).getD 63 0 = 0xE2 := by decide +kernel

/-- Chapter 15: the record of `rx_runt` of port 2 in export k. -/
theorem test_export_record : (counterRec 0xFFF (cRxRunt 2) 41 5000000000).2 =
    [0x0F, 0xFF, 0x9A, 0, 0, 0, 0, 0, 0, 0, 0x29, 0, 0, 0, 0x01, 0x2A, 0x05, 0xF2, 0x00] := by decide +kernel

/-- Chapter 16: at 103 C, 108 A age the core by 2.88 s each second, and 8 A the SRAM by 2 s; in units of 2^-32 s. -/
theorem test_em_age : ageUnits (32768 + 16 * 103) 108000 90000 = 288 * 2 ^ 32 / 100 ∧
    ageUnits (32768 + 16 * 103) 8000 8000 = 2 * 2 ^ 32 := by decide +kernel

/-- Chapter 10: an NVME_CMD entry of one gather element, and its checks (Tables 10.5, 10.6). -/
def readEntry (op slots : Nat) (sqeOp len : Nat) : List Nat :=
  [op, 0, slots, 0, 0, 0, 0, 0] ++ leBytes 2 533 ++ [0, 0] ++ leBytes 4 0xFFFFFFFF ++ leBytes 8 0 ++ leBytes 4 8192 ++ [0, 0, 0, 0] ++
    [sqeOp] ++ List.replicate 63 0 ++ leBytes 8 0x100000 ++ leBytes 4 len ++ List.replicate 20 0
theorem test_storage_entry :
    entryFault State.reset 88 (readEntry 0x40 4 2 8192) = none ∧ entryFault State.reset 88 (readEntry 0x41 4 2 8192) = some 0x20 ∧
    entryFault State.reset 88 (readEntry 0x40 4 3 8192) = some 0x21 ∧ entryFault State.reset 88 (readEntry 0x40 4 2 4096) = some 0x21 := by
  decide +kernel

/-- Chapter 10, Table 10.13: the CapsuleResp of slot 4, in time, after the deadline, and after the kind 3 packet. -/
def conn533 (st : Nat) : LibAcc :=
  { conn := 533, chan := 3, now := 0, rc := {}
    c := { st := .active, transport := 1, hdgst := false, ddgst := true, retxLimit := 0, program := 1, owner := 88, pipeline := 2
           cmdMax := 32, timeoutMs := 30, rtoUs := 1000, mirrored := false, steer := [], slots := [(4, { st := st, gen := 0x7F })] } }
theorem test_storage_cqe :
    ((conn533 1).cqe 0 0x1FC4 0).ops = [.complete 4 false 0x00 0x8000 0x1FC4 0] ∧
    ((conn533 2).cqe 0 0x1FC4 0).ops = [.complete 4 false 0x31 0 0x1FC4 0, .count 88 cStgCmdTimeout] ∧
    ((conn533 3).cqe 0 0x1FC4 0).ops = [.release 4, .count 88 cStgLateResponse] ∧
    ((conn533 1).cqe 0 0x1F84 0).ops = [.count 88 cStgBadCid] := by decide +kernel

/-! ## Registers -/

/-- Tables 2.10, 3.10, 9.10, 11.11 and 14.16: the identity registers and two reset values, at their places in PF0's BAR. -/
theorem test_register_reset :
    regRead State.reset 0 0x000000 = some (8, 0xB016401EA7) ∧ regRead State.reset 0 0x200000 = some (4, 0x182004) ∧
    regRead State.reset 0 0x400000 = some (8, 0x0040400040004000) ∧ regRead State.reset 0 0xA01008 = some (8, 0) ∧
    regRead State.reset 0 0xA013C8 = some (8, 1) ∧ regRead State.reset 0 0xC00108 = some (8, 0x10000000000000) := by
  decide +kernel

/-- R9 and R11: a narrow read, a read across two registers, and a reserved offset. -/
theorem test_read_width :
    barRead live 0 0x000001 2 = some [0x1E, 0x40] ∧ barRead live 0 0xE00056 2 = some [0, 0] ∧
    barRead live 0 0x200002 4 = some [0x18, 0x00, 0x00, 0x00] := by decide +kernel

end Sys2Proof.Tests
end

