-- ==== Sys2Proof/Tests/WitnessCommands.lean ====
section
/-! SUPPORT. Witnesses for the statements about the Steward commands: for each statement one theorem with a state and operands that meet
the hypotheses of each of its clauses. -/

set_option maxRecDepth 10000
set_option Elab.async false
set_option linter.unusedVariables false

namespace Sys2Proof.Tests

open Sys2Proof.Machine

/-- What `Obligations.QueueCommandsComplete` assumes is met, clause by clause. -/
theorem witness_QueueCommandsComplete :
    (∃ (s b : State) (m : Meta) (fid window base sizeLog2 cq pipeline program weight burst : Nat) (c : CqRing),
      Starts s b m 0x0301 [.fid fid, .ring 3 cq] false ∧ (isFn fid = true ∧ window < 256 ∧ sizeOk sizeLog2 = true ∧
      baseOk base sizeLog2 32 = true ∧ base < 2 ^ 64 ∧ cq < 16384 ∧ (pipeline ≤ 3 ∨ pipeline = 0xFF) ∧ program ≤ 7 ∧
      1 ≤ weight ∧ weight ≤ 255 ∧ 1 ≤ burst ∧ burst ≤ 64) ∧ cqOf b cq = some c ∧ (c.fid = fid ∧
      inWindows b fid base (32 * 2 ^ sizeLog2) false = true ∧ windowFree b fid window = true ∧
      (tcount b.qm.tx (fun _ r => r.fid = fid) < (fnOf b fid).tx)) ∧ (∃ k, k < 16384 ∧ tget b.qm.tx k = none)) ∧
    (∃ (s b : State) (m : Meta) (fid window base sizeLog2 cq : Nat) (ts : Bool) (c : CqRing), Starts s b m 0x0302 [.fid fid,
      .ring 3 cq] false ∧ (isFn fid = true ∧ window < 256 ∧ sizeOk sizeLog2 = true ∧ baseOk base sizeLog2 32 = true ∧
      base < 2 ^ 64 ∧ cq < 16384) ∧ cqOf b cq = some c ∧ (c.fid = fid ∧
      inWindows b fid base (32 * 2 ^ sizeLog2) false = true ∧ windowFree b fid window = true ∧
      (tcount b.qm.rx (fun _ r => r.fid = fid) < (fnOf b fid).rx)) ∧ (∃ k, k < 16384 ∧ tget b.qm.rx k = none)) ∧
    (∃ (s b : State) (m : Meta) (fid window base sizeLog2 ctrAddr msix : Nat), Starts s b m 0x0303 [.fid fid] false ∧
      (isFn fid = true ∧ window < 256 ∧ sizeOk sizeLog2 = true ∧ baseOk base sizeLog2 16 = true ∧ base < 2 ^ 64 ∧
      ctrAddr % 4 = 0 ∧ ctrAddr < 2 ^ 64 ∧ msix < 128 ∧ (fid = 0 ∨ msix < (fnOf b fid).msix) ∧
      inWindows b fid base (16 * 2 ^ sizeLog2) true = true ∧ inWindows b fid ctrAddr 4 true = true ∧
      windowFree b fid window = true ∧ (tcount b.qm.cq (fun _ r => r.fid = fid) < (fnOf b fid).cq)) ∧ (∃ k, k < 16384 ∧
      tget b.qm.cq k = none)) ∧
    (∃ (s b : State) (m : Meta) (ring : Nat), Starts s b m 0x0304 [.ring 1 ring] false ∧ ring < 16384 ∧ ∃ r,
      ringOf b false ring = some r ∧ r.st = .stopped) ∧
    (∃ (s b : State) (m : Meta) (ring : Nat), Starts s b m 0x0304 [.ring 2 ring] false ∧ ring < 16384 ∧ ∃ r,
      ringOf b true ring = some r ∧ r.st = .stopped) ∧
    (∃ (s b : State) (m : Meta) (ring : Nat), Starts s b m 0x0304 [.ring 3 ring] false ∧ ring < 16384 ∧ ∃ r,
      cqOf b ring = some r ∧ r.st = .stopped ∧ cqBound b ring = false) ∧
    (∃ (s b : State) (m : Meta) (rx : Bool) (ring : Nat) (r r1 : Ring),
      (Starts s b m 0x0305 [.ring (if rx then 2 else 1) ring] false) ∧ ring < 16384 ∧ ringOf b rx ring = some r ∧
      ((r.st = .stopped ∨ r.st = .haltedError) ∧ (pciOf b r.fid).bme = true) ∧
      ringOf (coverStocks b rx ring r) rx ring = some r1) ∧
    (∃ (s b : State) (m : Meta) (rx : Bool) (ring : Nat) (r r1 : Ring),
      (Starts s b m 0x0305 [.ring (if rx then 2 else 1) ring] false) ∧ ring < 16384 ∧ ringOf b rx ring = some r ∧
      ((r.st = .stopped ∨ r.st = .haltedError) ∧ (pciOf b r.fid).bme = true) ∧
      ringOf (coverStocks b rx ring r) rx ring = some r1 ∧ r.coverFrozen = false) ∧
    (∃ (s b : State) (m : Meta) (ring : Nat) (c : CqRing), Starts s b m 0x0305 [.ring 3 ring] false ∧ ring < 16384 ∧
      cqOf b ring = some c ∧ (c.st = .stopped ∨ c.st = .haltedError) ∧ (pciOf b c.fid).bme = true) ∧
    (∃ (s b : State) (m : Meta) (rx : Bool) (ring : Nat) (r : Ring),
      (Starts s b m 0x0306 [.ring (if rx then 2 else 1) ring] false) ∧ ring < 16384 ∧ ringOf b rx ring = some r ∧
      (r.st = .running ∨ r.st = .held ∨ r.st = .haltedHost ∨ r.st = .haltedError)) ∧
    (∃ (s b : State) (m : Meta) (ring : Nat) (c : CqRing), Starts s b m 0x0306 [.ring 3 ring] false ∧ ring < 16384 ∧
      cqOf b ring = some c ∧ (c.st = .running ∨ c.st = .held ∨ c.st = .haltedHost ∨ c.st = .haltedError)) ∧
    (∃ (s b : State) (m : Meta) (fid : Nat), Starts s b m 0x0307 [.fid fid] false ∧ isFn fid = true ∧
      (pciOf b fid).bme = true ∧ anyHalted b fid = true) ∧
    (∃ (s b : State) (m : Meta) (ring weight burst : Nat) (r : Ring), Starts s b m 0x0308 [.ring 1 ring] false ∧
      (ring < 16384 ∧ 1 ≤ weight ∧ weight ≤ 255 ∧ 1 ≤ burst ∧ burst ≤ 64) ∧ ringOf b false ring = some r) ∧
    (∃ (s b : State) (m : Meta) (rx : Bool) (ring : Nat) (r : Ring),
      (Starts s b m 0x0309 [.ring (if rx then 2 else 1) ring] false) ∧ ring < 16384 ∧ ringOf b rx ring = some r ∧
      (m.fid = 0 ∨ r.fid = m.fid)) ∧
    (∃ (s b : State) (m : Meta) (ring : Nat) (c : CqRing), Starts s b m 0x0309 [.ring 3 ring] false ∧ ring < 16384 ∧
      cqOf b ring = some c ∧ (m.fid = 0 ∨ c.fid = m.fid)) :=
  ⟨⟨live, _, mg, 2, 9, 0x4000, 16, 7, 0xFF, 7, 255, 64, _, ⟨by decide +kernel, rfl⟩, by decide +kernel,
     by first | decide +kernel | rfl, by decide +kernel, ⟨0, by decide +kernel⟩⟩,
   ⟨live, _, mg, 2, 9, 0x4000, 6, 7, true, _, ⟨by decide +kernel, rfl⟩, by decide +kernel, by first | decide +kernel | rfl,
     by decide +kernel, ⟨0, by decide +kernel⟩⟩,
   ⟨live, _, mg, 2, 9, 0x4000, 6, 0x5000, 7, ⟨by decide +kernel, rfl⟩, by decide +kernel, ⟨0, by decide +kernel⟩⟩,
   ⟨{ live with qm := { live.qm with tx := [(5, { txRing with st := .stopped })] } }, _, mg, 5, ⟨by decide +kernel, rfl⟩,
     by decide +kernel, _, by first | decide +kernel | rfl, by decide +kernel⟩,
   ⟨{ live with qm := { live.qm with rx := [(6, { rxRing with st := .stopped })] } }, _, mg, 6, ⟨by decide +kernel, rfl⟩,
     by decide +kernel, _, by first | decide +kernel | rfl, by decide +kernel⟩,
   ⟨{ live with qm := { live.qm with tx := [], rx := [], cq := [(7, { cqRing with st := .stopped })] } }, _, mg, 7,
     ⟨by decide +kernel, rfl⟩, by decide +kernel, _, by first | decide +kernel | rfl, by decide +kernel⟩,
   ⟨{ live with qm := { live.qm with tx := [(5, { txRing with st := .stopped })] } }, _, mg, false, 5, _, _,
     ⟨by decide +kernel, rfl⟩, by decide +kernel, by first | decide +kernel | rfl, by decide +kernel,
     by first | decide +kernel | rfl⟩,
   ⟨{ live with qm := { live.qm with rx := [(6, { rxRing with st := .haltedError })] } }, _, mg, true, 6, _, _,
     ⟨by decide +kernel, rfl⟩, by decide +kernel, by first | decide +kernel | rfl, by decide +kernel,
     by first | decide +kernel | rfl, by decide +kernel⟩,
   ⟨{ live with qm := { live.qm with tx := [], rx := [], cq := [(7, { cqRing with st := .stopped })] } }, _, mg, 7, _,
     ⟨by decide +kernel, rfl⟩, by decide +kernel, by first | decide +kernel | rfl, by decide +kernel⟩,
   ⟨live, _, mg, false, 5, _, ⟨by decide +kernel, rfl⟩, by decide +kernel, by first | decide +kernel | rfl,
     by decide +kernel⟩,
   ⟨live, _, mg, 7, _, ⟨by decide +kernel, rfl⟩, by decide +kernel, by first | decide +kernel | rfl, by decide +kernel⟩,
   ⟨{ live with qm := { live.qm with tx := [(5, { txRing with st := .haltedHost })] } }, _, mg, 2, ⟨by decide +kernel, rfl⟩,
     by decide +kernel⟩,
   ⟨live, _, mg, 5, 1, 64, _, ⟨by decide +kernel, rfl⟩, by decide +kernel, by first | decide +kernel | rfl⟩,
   ⟨live, _, mg, true, 6, _, ⟨by decide +kernel, rfl⟩, by decide +kernel, by first | decide +kernel | rfl,
     by decide +kernel⟩,
   ⟨live, _, mg, 7, _, ⟨by decide +kernel, rfl⟩, by decide +kernel, by first | decide +kernel | rfl, by decide +kernel⟩⟩

/-- What `Obligations.FunctionCommandsComplete` assumes is met, clause by clause. -/
theorem witness_FunctionCommandsComplete :
    (∃ (s b : State) (m : Meta) (fid : Nat) (rec : GrantRec), Starts s b m 0x0201 (createObjs fid rec) false ∧
      badGrant fid rec = none ∧ firstBad (shareState b rec) = none ∧ ((fnOf b fid).st = .absent ∧ hookHeld b fid = false ∧
      vfExists b fid = true) ∧ lowestBad ((lanesAt rec,
      decide (lanesBeside b fid + rec.lanes ≤ 24)) :: poolChecks b fid 1 (hookItemAt rec) rec.items ++ listChecks (defaultShares b fid) fid rec .refusedLimit) = none ∧
      lowestBad (listChecks (defaultShares b fid) fid rec .refusedEmpty) = none) ∧
    (∃ (s b : State) (m : Meta) (fid limitMs : Nat), Starts s b m 0x0202 [.fid fid] false ∧ isFn fid = true ∧ fid ≠ 0 ∧
      1 ≤ limitMs ∧ limitMs ≤ 10000 ∧ ((fnOf b fid).st = .active ∨ (fnOf b fid).st = .quiesced)) ∧
    (∃ (s : State) (fid t : Nat), (fnOf s fid).quiesceUntil = some t ∧ (fnOf s fid).st = .quiescing ∧
      ((reportOf s fid).blocking = 0 ∨ t ≤ s.now)) ∧
    (∃ (s b : State) (m : Meta) (fid : Nat), Starts s b m 0x0203 [.fid fid] false ∧ isFn fid = true ∧ fid ≠ 0 ∧
      (fnOf b fid).st = .quiesced ∧ (fnOf b fid).frozen = false) ∧
    (∃ (s b : State) (m : Meta) (fid : Nat) (force : Bool), Starts s b m 0x0204 [.fid fid] true ∧ isFn fid = true ∧
      fid ≠ 0 ∧ (fnOf b fid).st = .quiesced ∧ lockedOut b fid (learnedOf b fid) = false ∧ (force = true ∨
      (reportOf b fid).blocking = 0)) ∧
    (∃ (s b : State) (m : Meta) (fid : Nat) (force : Bool), Starts s b m 0x0205 [.fid fid] true ∧ isVf fid = true ∧
      (fnOf b fid).st = .quiesced ∧ removeBarred b fid = false ∧ (lockedOut b fid (fun _ => true) = false) ∧ (force = true ∨
      (reportOf b fid).blocking = 0)) ∧
    (∃ (s : State) (fid : Nat), (fnOf s fid).st = .resetting ∧ (fnOf s fid).resetKind = some .remove ∧
      (lockedOut s fid (fun _ => true) = false)) ∧
    (∃ (s : State) (fid : Nat), ((fnOf s fid).st = .resetting ∧ (fnOf s fid).resetKind ≠ some .remove) ∧
      (pciOf s fid).flrAt = none ∧ lockedOut s fid (learnedOf s fid) = false) ∧
    (∃ (s b : State) (m : Meta) (fid : Nat), Starts s b m 0x0206 [.fid fid] false ∧ isFn fid = true ∧ fid ≠ 0 ∧
      (fnOf b fid).frozen = true ∧ (fnOf b fid).releaseOk = true ∧ ((fnOf b fid).st = .active ∨
      (fnOf b fid).st = .quiesced)) ∧
    (∃ (s b : State) (m : Meta) (fid : Nat), Starts s b m 0x0206 [.fid fid] false ∧ isFn fid = true ∧ fid ≠ 0 ∧
      (fnOf b fid).st ≠ .active ∧ (fnOf b fid).st ≠ .quiesced) ∧
    (∃ (s b : State) (m : Meta) (fid : Nat) (w : WinRec), Starts s b m 0x0207 [.fid fid] false ∧ isFn fid = true ∧
      w.win ≤ 15 ∧ w.base % 4096 = 0 ∧ w.base < 2 ^ 64 ∧ w.pages ≤ 2 ^ 52 ∧ w.base + 4096 * w.pages ≤ 2 ^ 64 ∧
      (∀ r ∈ coveredRanges b fid,
      winsCover (fnOf b fid).windows r = true → winsCover (tput {} (fnOf b fid).windows w.win ⟨w.base, w.pages, w.read,
      w.write⟩) r = true)) ∧
    (∃ (s b : State) (m : Meta) (fid : Nat) (w : WinRec) (r : Nat × Nat × Bool), Starts s b m 0x0207 [.fid fid] false ∧
      isFn fid = true ∧ w.win ≤ 15 ∧ w.base % 4096 = 0 ∧ w.base < 2 ^ 64 ∧ w.pages ≤ 2 ^ 52 ∧
      w.base + 4096 * w.pages ≤ 2 ^ 64 ∧ r ∈ coveredRanges b fid ∧ winsCover (fnOf b fid).windows r = true ∧
      winsCover (tput {} (fnOf b fid).windows w.win ⟨w.base, w.pages, w.read, w.write⟩) r = false) ∧
    (∃ (s b : State) (m : Meta) (fid : Nat) (rawTable rawHook : Bool), Starts s b m 0x0208 [.fid fid] false ∧
      isFn fid = true ∧ fid ≠ 0 ∧ (rawTable = true ∨ (fnOf b fid).rawTable = false ∨ locksOf b fid = 0)) ∧
    (∃ (s b : State) (m : Meta) (fid : Nat) (items : GrantItems), Starts s b m 0x0209 [.fid fid] false ∧ firstBad ((0,
      isFn fid) :: countChecks fid 1 items ++ hookChecks 7 items) = none ∧ ((fnOf b fid).st ≠ .absent ∧
      (fnOf b fid).st ≠ .resetting) ∧ lowestBad (useChecks b fid items ++ poolChecks b fid 1 7 items) = none) ∧
    (∃ (s b : State) (m : Meta) (fid : Nat), Starts s b m 0x020A [.fid fid] false ∧ isFn fid = true ∧
      (fnOf b fid).st ≠ .absent) ∧
    (∃ (s b : State) (m : Meta) (v : Nat), Starts s b m 0x020B [] false ∧ v ≤ 2) :=
  ⟨⟨live, _, mg, 5,
     { items := ⟨8, 8, 8, 8, 2, 8, 0xFF, ⟨0, 0, 0⟩, 4096⟩, granary := [⟨4, 4, 8, 255⟩], tables := [⟨1, 15, 100, 10⟩], lanes := 24, saMax := 4, activeMax := 4, connMax := 65536, windows := [⟨15, 0x1000, 1, true, false⟩] },
     ⟨by decide +kernel, rfl⟩, by first | decide +kernel | rfl, by first | decide +kernel | rfl, by decide +kernel,
     by first | decide +kernel | rfl, by first | decide +kernel | rfl⟩,
   ⟨live, _, mg, 2, 10000, ⟨by decide +kernel, rfl⟩, by decide +kernel⟩,
   ⟨{ live with fns := [(0, fnFull), (1, Fn.operator false), (2, { fnFull with st := .quiescing, quiesceUntil := some 5 })] },
     2, 5, by first | decide +kernel | rfl, by decide +kernel⟩,
   ⟨{ live with fns := [(0, fnFull), (1, Fn.operator false), (2, { fnFull with st := .quiesced })] }, _, mg, 2,
     ⟨by decide +kernel, rfl⟩, by decide +kernel⟩,
   ⟨{ live with fns := [(0, fnFull), (1, Fn.operator false), (2, { fnFull with st := .quiesced })] }, _, mg, 2, false,
     ⟨by decide +kernel, rfl⟩, by decide +kernel⟩,
   ⟨{ live with fns := [(0, fnFull), (1, Fn.operator false), (3, { fnFull with st := .quiesced })] }, _, mg, 3, true,
     ⟨by decide +kernel, rfl⟩, by decide +kernel⟩,
   ⟨{ live with fns := [(0, fnFull), (1, Fn.operator false), (2, { fnFull with st := .resetting, resetKind := some .remove })] },
     2, by decide +kernel, by first | decide +kernel | rfl, by decide +kernel⟩,
   ⟨{ live with fns := [(0, fnFull), (1, Fn.operator false), (2, { fnFull with st := .resetting, resetKind := some .reset })] },
     2, by decide +kernel, by first | decide +kernel | rfl, by decide +kernel⟩,
   ⟨{ live with fns := [(0, fnFull), (1, Fn.operator false), (2, { fnFull with frozen := true, releaseOk := true })] }, _,
     mg, 2, ⟨by decide +kernel, rfl⟩, by decide +kernel⟩,
   ⟨{ live with fns := [(0, fnFull), (1, Fn.operator false), (2, { fnFull with st := .resetting })] }, _, mg, 2,
     ⟨by decide +kernel, rfl⟩, by decide +kernel⟩,
   ⟨live, _, mg, 2, ⟨15, 0x1000, 2 ^ 51, true, true⟩, ⟨by decide +kernel, rfl⟩, by decide +kernel⟩,
   ⟨live, _, mg, 2, ⟨0, 0, 0, false, false⟩, (0x10000, 2048, false), ⟨by decide +kernel, rfl⟩, by decide +kernel⟩,
   ⟨live, _, mg, 2, false, true, ⟨by decide +kernel, rfl⟩, by decide +kernel⟩,
   ⟨live, _, mg, 2, ⟨8, 8, 8, 8, 4, 8, 0xFF, ⟨0, 0, 0⟩, 4096⟩, ⟨by decide +kernel, rfl⟩, by first | decide +kernel | rfl,
     by decide +kernel, by first | decide +kernel | rfl⟩,
   ⟨live, _, mg, 2, ⟨by decide +kernel, rfl⟩, by decide +kernel⟩,
   ⟨live, _, mg, 2, ⟨by decide +kernel, rfl⟩, by decide +kernel⟩⟩

/-- What `Obligations.GranaryCommandsComplete` assumes is met, clause by clause. -/
theorem witness_GranaryCommandsComplete :
    (∃ (s b : State) (m : Meta) (pool set kind sizeLog2 count base spaceFid : Nat),
      Starts s b m 0x0401 [.fid spaceFid] true ∧ 4 ≤ pool ∧ pool ≤ 63 ∧ 4 ≤ set ∧ set ≤ 15 ∧ (kind = 1 ∨ (kind = 2 ∧
      sizeLog2 = 8)) ∧ 8 ≤ sizeLog2 ∧ sizeLog2 ≤ 16 ∧ 0 < count ∧ base % 4096 = 0 ∧ base < 2 ^ 64 ∧ isFn spaceFid = true ∧
      (poolOf b pool).kind = 0 ∧ otherKind b set kind = false ∧ (kind = 1 → sameSize b set sizeLog2 = false) ∧
      (poolsOfSet b set).length < 8 ∧ hostBuffers b + count ≤ 2 ^ 28 ∧ hostBufferBytes b + count * 2 ^ sizeLog2 ≤ 2 ^ 42 ∧
      inWindows b spaceFid base (count * 2 ^ sizeLog2) true = true) ∧
    (∃ (s b : State) (m : Meta) (pool : Nat), Starts s b m 0x0402 [] true ∧ 4 ≤ pool ∧ pool ≤ 63 ∧
      (poolOf b pool).kind ≠ 0 ∧ heldAll b pool = 0 ∧ poolAwaited b pool = false) ∧
    (∃ (s b : State) (m : Meta) (pool fid mn mx weight : Nat), Starts s b m 0x0403 [.fid fid] false ∧ pool ≤ 63 ∧
      (isFn fid = true ∨ fid = 0xFFF) ∧ mn ≤ mx ∧ 1 ≤ weight ∧ weight ≤ 255 ∧ pool ≠ 0 ∧ pool ≠ 2 ∧
      (poolOf b pool).kind ≠ 0 ∧ mx ≤ (poolOf b pool).count ∧ reserveOf (setShare b pool fid ⟨mn, mx,
      weight⟩) pool ≤ (poolOf b pool).count ∧ (mn ≤ (shareOf b pool fid).mn ∨ reserveOut (setShare b pool fid ⟨mn, mx,
      weight⟩) pool ≤ freeOf (setShare b pool fid ⟨mn, mx, weight⟩) pool)) ∧
    (∃ (s b : State) (m : Meta) (pool fid mn mx weight : Nat), Starts s b m 0x0403 [.fid fid] false ∧ (pool = 0 ∨
      pool = 2) ∧ (isFn fid = true ∨ fid = 0xFFF) ∧ mn ≤ mx ∧ 1 ≤ weight ∧ weight ≤ 255) ∧
    (∃ (s b : State) (m : Meta) (pool fid mn mx weight : Nat), Starts s b m 0x0403 [.fid fid] false ∧ (pool = 0 ∨
      pool = 2) ∧ (isFn fid = true ∨ fid = 0xFFF) ∧ mn ≤ mx ∧ 1 ≤ weight ∧ weight ≤ 255) ∧
    (∃ (s b : State) (m : Meta) (c0 c1 c3 : Nat), Starts s b m 0x0404 [] false ∧ 4096 ≤ c0 ∧ 4096 ≤ c1 ∧ 4096 ≤ c3 ∧
      c0 + c1 + c3 = 90112 ∧ (tany b.mac.ports (fun _ p => p.enabled) = false) ∧ anyQueueEnabled b = false ∧
      heldAll b 0 = 0 ∧ heldAll b 1 = 0 ∧ heldAll b 3 = 0) ∧
    (∃ (s b : State) (m : Meta) (pool eighths : Nat), Starts s b m 0x0405 [] false ∧ pool ≤ 63 ∧ eighths ≤ 8 ∧ pool ≠ 2 ∧
      (poolOf b pool).kind ≠ 0) ∧
    (∃ (s b : State) (m : Meta) (handle : Nat), Starts s b m 0x0406 [] false ∧ handle < 2 ^ 40 ∧
      handleValid b handle = true) :=
  ⟨⟨live, _, mg, 63, 15, 2, 8, 1, 0x1000, 2, ⟨by decide +kernel, rfl⟩, by decide +kernel⟩,
   ⟨live, _, mg, 4, ⟨by decide +kernel, rfl⟩, by decide +kernel⟩,
   ⟨live, _, mg, 4, 2, 4, 16, 255, ⟨by decide +kernel, rfl⟩, by decide +kernel⟩,
   ⟨live, _, mg, 0, 2, 4, 16, 255, ⟨by decide +kernel, rfl⟩, by decide +kernel⟩,
   ⟨live, _, mg, 2, 2, 4, 16, 255, ⟨by decide +kernel, rfl⟩, by decide +kernel⟩,
   ⟨{ live with mac := { live.mac with ports := [] }, qm := {} }, _, mg, 81920, 4096, 4096, ⟨by decide +kernel, rfl⟩,
     by decide +kernel⟩,
   ⟨live, _, mg, 0, 8, ⟨by decide +kernel, rfl⟩, by decide +kernel⟩,
   ⟨{ live with grn := { live.grn with bufs := [(4 * 2 ^ 34, { owner := 2, st := 2 })] } }, _, mg, 4 * 2 ^ 34,
     ⟨by decide +kernel, rfl⟩, by decide +kernel⟩⟩

/-- What `Obligations.TableCommandsComplete` assumes is met, clause by clause. -/
theorem witness_TableCommandsComplete :
    (∃ (s b : State) (m : Meta) (table location kind bucketsLog2 keyLen ageLimit seed : Nat),
      Starts s b m 0x0501 [.table table] true ∧ (table < 16 ∧ 4 ≤ bucketsLog2 ∧ 1 ≤ keyLen ∧ keyLen ≤ 32 ∧ ((location = 0 ∧
      kind ≤ 2 ∧ bucketsLog2 ≤ 23 ∧ ageLimit < 2 ^ 31 ∧ rldTableBytes b + 256 * 2 ^ bucketsLog2 ≤ 6 * 2 ^ 30) ∨
      (location = 1 ∧ kind = 0 ∧ bucketsLog2 ≤ 13 ∧ ageLimit = 0 ∧ hotBuckets b + 2 ^ bucketsLog2 ≤ 8192))) ∧
      tget b.fwt.tables table = none) ∧
    (∃ (s b : State) (m : Meta) (table : Nat) (x : FTable), Starts s b m 0x0502 [.table table] true ∧ table < 16 ∧
      tget b.fwt.tables table = some x ∧ bankNames b.seq.bankA table = false ∧ bankNames b.seq.bankB table = false ∧
      tableLocked b table pipes = false) ∧
    (∃ (s b c : State) (m : Meta) (table owner : Nat) (key result : List Nat) (noAge : Bool) (x : FTable),
      Starts s b m 0x0503 [.table table, .fid owner] true ∧ c = endCycles b ∧ (table < 16 ∧ ownerOk owner = true ∧
      key.length ≤ 32 ∧ result.length ≤ 24) ∧ tableOf c table = some x ∧ ((key.drop x.keyLen).all (fun v => v = 0) = true) ∧
      roomFor c x table (bucketOf x (normKey x key)) owner (normKey x key) = true ∧
      lockedAny c table (bucketOf x (normKey x key)) = false) ∧
    (∃ (s b c : State) (m : Meta) (table owner : Nat) (key : List Nat) (x : FTable), Starts s b m 0x0504 [.table table,
      .fid owner] true ∧ c = endCycles b ∧ (table < 16 ∧ ownerOk owner = true ∧ key.length ≤ 32) ∧
      tableOf c table = some x ∧ ((key.drop x.keyLen).all (fun v => v = 0) = true) ∧
      lockedAny c table (bucketOf x (normKey x key)) = false) ∧
    (∃ (s b : State) (m : Meta) (table owner : Nat) (key : List Nat) (pmask : Nat) (x : FTable),
      Starts s b m 0x0505 [.table table, .fid owner] false ∧ (table < 16 ∧ ownerOk owner = true ∧ key.length ≤ 32 ∧
      pmask < 16) ∧ tableOf b table = some x ∧ ((key.drop x.keyLen).all (fun v => v = 0) = true)) ∧
    (∃ (s b : State) (m : Meta) (table ageLimit : Nat) (x : FTable), Starts s b m 0x0506 [.table table] false ∧
      (table < 16 ∧ ageLimit < 2 ^ 31) ∧ tget b.fwt.tables table = some x ∧ (x.hot = false ∨ ageLimit = 0)) ∧
    (∃ (s b : State) (m : Meta) (fid table pmask maxEntries ovfReserve : Nat), Starts s b m 0x0507 [.fid fid,
      .table table] false ∧ (ownerOk fid = true ∧ table < 16 ∧ pmask < 16 ∧ maxEntries ≤ 2 ^ 25 ∧ ovfReserve ≤ 16384) ∧
      grantRefusal b fid table pmask ⟨maxEntries, ovfReserve⟩ = none) ∧
    (∃ (s b c : State) (m : Meta) (table owner pmask : Nat) (x : FTable),
      (Starts s b m 0x0508 (if owner = 0xFFE then [.table table] else [.table table, .fid owner]) true) ∧ c = endCycles b ∧
      (table < 16 ∧ (ownerOk owner = true ∨ owner = 0xFFE) ∧ pmask < 16) ∧ tableOf c table = some x ∧
      tableLocked c table (maskPipes pmask) = false) :=
  ⟨⟨live, _, mg, 15, 1, 0, 13, 32, 0, 5, ⟨by decide +kernel, rfl⟩, by decide +kernel, by first | decide +kernel | rfl⟩,
   ⟨live, _, mg, 1, _, ⟨by decide +kernel, rfl⟩, by decide +kernel, by first | decide +kernel | rfl, by decide +kernel⟩,
   ⟨live, _, _, mg, 1, 2, [1, 2, 3, 4, 5, 6, 7, 8], [9], false, _, ⟨by decide +kernel, rfl⟩,
     by first | decide +kernel | rfl, by decide +kernel, by first | decide +kernel | rfl, by decide +kernel⟩,
   ⟨live, _, _, mg, 1, 2, [1, 2, 3, 4, 5, 6, 7, 8], _, ⟨by decide +kernel, rfl⟩, by first | decide +kernel | rfl,
     by decide +kernel, by first | decide +kernel | rfl, by decide +kernel⟩,
   ⟨live, _, mg, 1, 2, [1, 2, 3, 4, 5, 6, 7, 8], 15, _, ⟨by decide +kernel, rfl⟩, by decide +kernel,
     by first | decide +kernel | rfl, by decide +kernel⟩,
   ⟨live, _, mg, 1, 2 ^ 31 - 1, _, ⟨by decide +kernel, rfl⟩, by decide +kernel, by first | decide +kernel | rfl,
     by decide +kernel⟩,
   ⟨live, _, mg, 2, 1, 15, 40, 16384, ⟨by decide +kernel, rfl⟩, by decide +kernel, by first | decide +kernel | rfl⟩,
   ⟨live, _, _, mg, 1, 0xFFE, 15, _, ⟨by decide +kernel, rfl⟩, by first | decide +kernel | rfl, by decide +kernel,
     by first | decide +kernel | rfl, by decide +kernel⟩⟩

/-- What `Obligations.AgerAndHomingAct` assumes is met, clause by clause. -/
theorem witness_AgerAndHomingAct :
    (∃ (s : State) (p k : Nat), (p < 4 ∧ s.fwt.agerEnable = true ∧ s.fwt.ready = true ∧ domainRuns s (19 + p / 2) = true) ∧
      markReady s p = some k) ∧
    (∃ (s : State) (p t b : Nat) (x : FTable), (p < 4 ∧ s.fwt.agerEnable = true ∧ s.fwt.ready = true ∧
      domainRuns s (19 + p / 2) = true) ∧ markReady s p = none ∧
      agerNext s (fpOf s p).agerTable (fpOf s p).agerBucket = some (t, b, x) ∧ isLocked (fpOf s p) t b = false) ∧
    (∃ (s : State) (p t b : Nat) (x : FTable), (p < 4 ∧ s.fwt.agerEnable = true ∧ s.fwt.ready = true ∧
      domainRuns s (19 + p / 2) = true) ∧ markReady s p = none ∧
      agerNext s (fpOf s p).agerTable (fpOf s p).agerBucket = some (t, b, x) ∧ isLocked (fpOf s p) t b = true ∧
      bktKey t b ∉ (fpOf s p).agerMarks) ∧
    (∃ (s : State) (p t b i j : Nat) (x : FTable) (e : OvfEntry), p < 4 ∧ tableOf s t = some x ∧ (x.hot = false ∧
      domainRuns s (19 + p / 2) = true ∧ isLocked (fpOf s p) t b = false ∧ (∀ h ∈ (fpOf s p).homing, ¬ (h.1 = t ∧
      h.2.1 = b)) ∧ .home t b ∉ (fpOf s p).cycle) ∧ freeSlot (fpOf s p) t b = some i ∧ oldestOvf (fpOf s p) t b = some (j,
      e)) ∧
    (∃ (s : State) (p t b i j : Nat) (x : FTable) (e : OvfEntry), p < 4 ∧ tableOf s t = some x ∧ (x.hot = false ∧
      domainRuns s (19 + p / 2) = true ∧ isLocked (fpOf s p) t b = false ∧ (∀ h ∈ (fpOf s p).homing, ¬ (h.1 = t ∧
      h.2.1 = b)) ∧ .home t b ∉ (fpOf s p).cycle) ∧ freeSlot (fpOf s p) t b = some i ∧ oldestOvf (fpOf s p) t b = some (j,
      e) ∧ (fpOf s p).cycle = []) ∧
    (∃ (s : State) (p t b : Nat) (h : Nat × Nat × Nat) (e : OvfEntry), p < 4 ∧
      ((fpOf s p).homing.find? (fun h => h.1 = t && h.2.1 = b) = some h) ∧ tget (fpOf s p).ovf h.2.2 = some e ∧
      e.homed = true ∧ e.e.table = t ∧ e.bucket = b) ∧
    (∃ (s : State) (p t b o n : Nat) (key : List Nat) (x : FTable), p < 4 ∧ tableOf s t = some x ∧
      ((fpOf s p).cycle = [.refresh n t b o key, .age t b] ∨ (fpOf s p).cycle = [.age t b, .refresh n t b o key]) ∧
      hasCopy (fpOf s p) t b o key = true ∧ (∀ e ∈ (fpOf s p).slots,
      e.1 / 4 = bktKey t b → e.2.isFor t key o = true → e.2.expired x s.fwt.tick = true) ∧ (∀ e ∈ (fpOf s p).ovf,
      e.2.bucket = b → e.2.e.isFor t key o = true → e.2.e.expired x s.fwt.tick = true)) ∧
    (∃ (s : State) (p t b o n : Nat) (key : List Nat) (x : FTable), p < 4 ∧ tableOf s t = some x ∧
      ((fpOf s p).cycle = [.refresh n t b o key, .age t b] ∨ (fpOf s p).cycle = [.age t b, .refresh n t b o key]) ∧
      hasCopy (fpOf s p) t b o key = true ∧ (∀ e ∈ (fpOf s p).slots,
      e.1 / 4 = bktKey t b → e.2.isFor t key o = true → e.2.expired x s.fwt.tick = true) ∧ (∀ e ∈ (fpOf s p).ovf,
      e.2.bucket = b → e.2.e.isFor t key o = true → e.2.e.expired x s.fwt.tick = true)) ∧
    (∃ s t : State, s.pending = [] ∧ Machine.step s = .next t ∧ ∃ p : Nat, p < 4) :=
  ⟨⟨{ live with fwt := { live.fwt with p0 := { agerMarks := [bktKey 1 3] } } }, 0, bktKey 1 3, by decide +kernel,
     by first | decide +kernel | rfl⟩,
   ⟨live, 3, 1, 0, _, by decide +kernel, by first | decide +kernel | rfl, by first | decide +kernel | rfl,
     by decide +kernel⟩,
   ⟨{ live with fwt := { live.fwt with p0 := { locks := [(bktKey 1 0, ⟨2, 0⟩)] } } }, 0, 1, 0, _, by decide +kernel,
     by first | decide +kernel | rfl, by first | decide +kernel | rfl, by decide +kernel⟩,
   ⟨{ live with fwt := { live.fwt with p0 := { ovf := [(4, { e := (⟨false, false, 1, 2, 0, [1], [2], false, false⟩ : FEntry), bucket := 3, ord := 0 })] } } },
     0, 1, 3, _, _, _, _, by decide +kernel, by first | decide +kernel | rfl, by decide +kernel,
     by first | decide +kernel | rfl, by first | decide +kernel | rfl⟩,
   ⟨{ live with fwt := { live.fwt with p0 := { ovf := [(4, { e := (⟨false, false, 1, 2, 0, [1], [2], false, false⟩ : FEntry), bucket := 3, ord := 0 })] } } },
     0, 1, 3, _, _, _, _, by decide +kernel, by first | decide +kernel | rfl, by decide +kernel,
     by first | decide +kernel | rfl, by first | decide +kernel | rfl, by decide +kernel⟩,
   ⟨{ live with fwt := { live.fwt with p0 := { homing := [(1, 3, 4)], ovf := [(4, { e := (⟨false, false, 1, 2, 0, [1], [2], false, false⟩ : FEntry), bucket := 3, ord := 0, homed := true })] } } },
     0, 1, 3, _, _, by decide +kernel, by first | decide +kernel | rfl, by first | decide +kernel | rfl, by decide +kernel⟩,
   ⟨{ live with fwt := { live.fwt with tick := 100, p3 := { slots := [(slotKey 1 3 2, ⟨false, false, 1, 2, 0, [1], [2], false, false⟩)], cycle := [.refresh 0 1 3 2 [1], .age 1 3] } } },
     3, 1, 3, 2, 0, [1], _, by decide +kernel, by first | decide +kernel | rfl, by decide +kernel⟩,
   ⟨{ live with fwt := { live.fwt with tick := 100, p3 := { slots := [(slotKey 1 3 2, ⟨false, false, 1, 2, 0, [1], [2], false, false⟩)], cycle := [.age 1 3, .refresh 0 1 3 2 [1]] } } },
     3, 1, 3, 2, 0, [1], _, by decide +kernel, by first | decide +kernel | rfl, by decide +kernel⟩,
   ⟨live, tickNs live, by decide +kernel, rfl, 3, by decide +kernel⟩⟩

/-- What `Obligations.CipherCommandsComplete` assumes is met, clause by clause. -/
theorem witness_CipherCommandsComplete :
    (∃ (s b : State) (m : Meta) (sa : Nat) (q : SaParams), Starts s b m 0x0601 [.fid q.owner] true ∧
      (recordsOn s sa = false ∨ (tget s.cip.sas sa).isSome = true) ∧ badSa sa q = none ∧ tget b.cip.sas sa = none ∧
      b.cip.kek.isSome = true ∧ (q.owner = 0xFFF ∨ sasOf b q.owner < (cgrantOf b q.owner).saMax) ∧ q.activate = false) ∧
    (∃ (s b : State) (m : Meta) (sa : Nat) (q : SaParams), Starts s b m 0x0601 [.fid q.owner] true ∧
      (recordsOn s sa = false ∨ (tget s.cip.sas sa).isSome = true) ∧ badSa sa q = none ∧ tget b.cip.sas sa = none ∧
      (b.cip.kek.isSome = true ∧ (q.owner = 0xFFF ∨ sasOf b q.owner < (cgrantOf b q.owner).saMax) ∧ q.activate = true ∧
      activeOver b q.owner = false) ∧ (∃ k, k + modeSlots q.mode ≤ keySlots ∧ ∀ j,
      j < modeSlots q.mode → slotFree b (k + j) = true)) ∧
    (∃ (s b : State) (m : Meta) (sa : Nat) (a : Sa), Starts s b m 0x0602 [.sa sa] true ∧ sa < 2 ^ 22 ∧ saOf b sa = some a) ∧
    (∃ (s b : State) (m : Meta) (sa : Nat) (a : Sa), Starts s b m 0x0603 [] false ∧ sa < 2 ^ 22 ∧ saOf b sa = some a ∧
      (a.st = .dormant ∧ saErased b a = false ∧ activeOver b a.owner = false) ∧ (∃ k, k + modeSlots a.mode ≤ keySlots ∧ ∀ j,
      j < modeSlots a.mode → slotFree b (k + j) = true)) ∧
    (∃ (s b : State) (m : Meta) (sa : Nat) (a : Sa), Starts s b m 0x0604 [.sa sa] true ∧ sa < 2 ^ 22 ∧ saOf b sa = some a ∧
      a.st = .active) ∧
    (∃ (s b : State) (m : Meta) (sa : Nat) (key : List Nat) (a : Sa), Starts s b m 0x0605 [] true ∧ sa < 2 ^ 22 ∧
      saOf b sa = some a ∧ b.cip.kek.isSome = true ∧ key.length = materialLen a.mode) ∧
    (∃ (s b : State) (m : Meta) (sa : Nat) (key : List Nat) (a : Sa), Starts s b m 0x0605 [] true ∧ sa < 2 ^ 22 ∧
      saOf b sa = some a ∧ b.cip.kek.isSome = true ∧ key.length = materialLen a.mode ∧ a.st = .active) ∧
    (∃ (s b : State) (m : Meta) (sa : Nat) (key : List Nat) (a : Sa), Starts s b m 0x0605 [] true ∧ sa < 2 ^ 22 ∧
      saOf b sa = some a ∧ (b.cip.kek.isSome = true ∧ key.length = materialLen a.mode ∧ a.st ≠ .active ∧
      activeOver b a.owner = false) ∧ (∃ k, k + modeSlots a.mode ≤ keySlots ∧ ∀ j,
      j < modeSlots a.mode → slotFree b (k + j) = true)) ∧
    (∃ (s b : State) (m : Meta) (sa : Nat) (a : Sa), Starts s b m 0x0606 [] false ∧ sa < 2 ^ 22 ∧ saOf b sa = some a) ∧
    (∃ (s b : State) (m : Meta) (fid lanes saMax activeMax : Nat), Starts s b m 0x0607 [.fid fid] false ∧ isFn fid = true ∧
      lanes ≤ 24 ∧ saMax ≤ 2 ^ 22 ∧ activeMax ≤ keySlots ∧ lanesBeside b fid + lanes ≤ 24 ∧ sasOf b fid ≤ saMax ∧
      activeSas b fid ≤ activeMax) ∧
    (∃ (s b : State) (m : Meta), Starts s b m 0x0608 [] false) :=
  ⟨⟨{ live with cip := { live.cip with grants := [(2, ⟨2, 8, 8⟩)] } }, _, mg, 0x3FFFFF,
     ({ owner := 2, dir := 0, mode := 2, esn := false, mirrored := false, replayWindow := 0, seq := 1, unitLog2 := 0, key := List.replicate 36 7, activate := false } : SaParams),
     ⟨by decide +kernel, rfl⟩, by decide +kernel, by first | decide +kernel | rfl, by first | decide +kernel | rfl,
     by decide +kernel⟩,
   ⟨{ live with cip := { live.cip with grants := [(2, ⟨2, 8, 8⟩)] } }, _, mg, 0x3FFFFF,
     ({ owner := 2, dir := 0, mode := 11, esn := false, mirrored := false, replayWindow := 0, seq := 1, unitLog2 := 12, key := List.replicate 64 7, activate := true } : SaParams),
     ⟨by decide +kernel, rfl⟩, by decide +kernel, by first | decide +kernel | rfl, by first | decide +kernel | rfl,
     by decide +kernel, ⟨1, by decide +kernel⟩⟩,
   ⟨live, _, mg, 9, _, ⟨by decide +kernel, rfl⟩, by decide +kernel, by first | decide +kernel | rfl⟩,
   ⟨{ live with cip := { live.cip with sas := [(9, { sa9 with st := .dormant, mode := 2 })], grants := [(2, ⟨2, 8, 8⟩)] } },
     _, mg, 9, _, ⟨by decide +kernel, rfl⟩, by decide +kernel, by first | decide +kernel | rfl, by decide +kernel, ⟨0,
     by decide +kernel⟩⟩,
   ⟨live, _, mg, 9, _, ⟨by decide +kernel, rfl⟩, by decide +kernel, by first | decide +kernel | rfl, by decide +kernel⟩,
   ⟨{ live with cip := { live.cip with sas := [(9, { sa9 with st := .dormant, mode := 2 })], grants := [(2, ⟨2, 8, 8⟩)] } },
     _, mg, 9, List.replicate 36 7, _, ⟨by decide +kernel, rfl⟩, by decide +kernel, by first | decide +kernel | rfl,
     by decide +kernel⟩,
   ⟨{ live with cip := { live.cip with sas := [(9, { sa9 with st := .active, mode := 2 })], grants := [(2, ⟨2, 8, 8⟩)] } },
     _, mg, 9, List.replicate 36 7, _, ⟨by decide +kernel, rfl⟩, by decide +kernel, by first | decide +kernel | rfl,
     by decide +kernel⟩,
   ⟨{ live with cip := { live.cip with sas := [(9, { sa9 with st := .dormant, mode := 2 })], grants := [(2, ⟨2, 8, 8⟩)] } },
     _, mg, 9, List.replicate 36 7, _, ⟨by decide +kernel, rfl⟩, by decide +kernel, by first | decide +kernel | rfl,
     by decide +kernel, ⟨0, by decide +kernel⟩⟩,
   ⟨live, _, mg, 9, _, ⟨by decide +kernel, rfl⟩, by decide +kernel, by first | decide +kernel | rfl⟩,
   ⟨live, _, mg, 2, 24, 2 ^ 22, keySlots, ⟨by decide +kernel, rfl⟩, by decide +kernel⟩,
   ⟨live, _, mg, ⟨by decide +kernel, rfl⟩⟩⟩

/-- What `Obligations.HaulCommandsComplete` assumes is met, clause by clause. -/
theorem witness_HaulCommandsComplete :
    (∃ (s b : State) (m : Meta) (ch owner prio descLimit : Nat), Starts s b m 0x0C01 [.channel ch, .fid owner] false ∧
      ch < 15 ∧ (isFn owner = true ∨ owner = 0xFFF) ∧ prio ≤ 3 ∧ 1 ≤ descLimit ∧ descLimit ≤ 4096 ∧
      ((chanOf b ch).st = .ungranted ∨ (chanOf b ch).st = .idle) ∧ chanOver b owner ch = false) ∧
    (∃ (s b : State) (m : Meta) (ch prio descLimit : Nat), Starts s b m 0x0C01 [.channel ch, .fid 0xFFE] false ∧ ch < 15 ∧
      prio ≤ 3 ∧ 1 ≤ descLimit ∧ descLimit ≤ 4096 ∧ ((chanOf b ch).st = .ungranted ∨ (chanOf b ch).st = .idle)) ∧
    (∃ (s b : State) (m : Meta) (ch : Nat) (g : ChanCfg), Starts s b m 0x0C02 [.channel ch] false ∧ (ch < 15 ∧ g.mode ≤ 2 ∧
      g.statusAddr % 16 = 0 ∧ g.statusAddr < 2 ^ 64 ∧ g.msix < 128 ∧ g.head % 32 = 0 ∧ g.head < 2 ^ 64 ∧ g.queueType ≤ 2 ∧
      g.queue < 16384 ∧ g.high < 2 ^ 17 ∧ (g.mode ≠ 1 ∨ g.low < g.high) ∧ (chanOf b ch).st = .idle ∧
      chanVectorOk b (chanOf b ch) g = true ∧ statusAddrOk b (chanOf b ch) g = true ∧ headAddrOk b (chanOf b ch) g = true) ∧
      (g.mode = 1 → ∃ cap, g.high ≤ cap ∧
      watermarkQueue b { chanOf b ch with mode := g.mode } g = .ok (Chan.acting { chanOf b ch with mode := g.mode }, cap))) ∧
    (∃ (s b : State) (m : Meta) (ch : Nat), Starts s b m 0x0C03 [.channel ch] false ∧ ch < 16 ∧
      ((chanOf b ch).st = .running ∨ (chanOf b ch).st = .ready ∨ (chanOf b ch).st = .armed)) ∧
    (∃ (s b : State) (m : Meta) (ch : Nat), Starts s b m 0x0C04 [.channel ch] false ∧ ch < 16 ∧
      (chanOf b ch).st = .haltedError) :=
  ⟨⟨live, _, mg, 14, 2, 3, 4096, ⟨by decide +kernel, rfl⟩, by decide +kernel⟩,
   ⟨live, _, mg, 1, 0, 1, ⟨by decide +kernel, rfl⟩, by decide +kernel⟩,
   ⟨live, _, mg, 1, ⟨1, 0x50, 7, 0x60, 1, 5, 64, 63⟩, ⟨by decide +kernel, rfl⟩, by decide +kernel, fun _ => ⟨64,
     by decide +kernel, rfl⟩⟩,
   ⟨{ live with haul := { chans := [(1, { owner := 2, st := .armed })] } }, _, mg, 1, ⟨by decide +kernel, rfl⟩,
     by decide +kernel⟩,
   ⟨{ live with haul := { chans := [(1, { owner := 2, st := .haltedError })] } }, _, mg, 1, ⟨by decide +kernel, rfl⟩,
     by decide +kernel⟩⟩

/-- What `Obligations.SwitchCommandsComplete` assumes is met, clause by clause. -/
theorem witness_SwitchCommandsComplete :
    (∃ (s b : State) (m : Meta) (policer fid rate ilog burst : Nat), Starts s b m 0x0510 [.fid fid] false ∧
      policer < 16384 ∧ (isFn fid = true ∨ fid = 0xFFF) ∧ rate < 2 ^ 24 ∧ 8 ≤ ilog ∧ ilog ≤ 20 ∧ 64 ≤ burst ∧
      burst < 2 ^ 24 ∧ (fid = 0xFFF ∨ policersOf b fid policer < (fnOf b fid).policers)) ∧
    (∃ (s b : State) (m : Meta) (policer : Nat) (x : Policer), Starts s b m 0x0511 [] false ∧ policer < 16384 ∧
      tget b.sw.policers policer = some x) ∧
    (∃ (s b : State) (m : Meta) (policer : Nat) (x : Policer), Starts s b m 0x0512 [] false ∧ policer < 16384 ∧
      tget b.sw.policers policer = some x) ∧
    (∃ (s b : State) (m : Meta) (cells : Nat), Starts s b m 0x0513 [] false ∧ cells ≤ 4096) ∧
    (∃ (s b : State) (m : Meta) (session fid window snapLen sampleN : Nat) (crossTenant : Bool),
      Starts s b m 0x0B20 [.fid fid] false ∧ session < 64 ∧ isFn fid = true ∧ window < 256 ∧ (snapLen = 0 ∨ (64 ≤ snapLen ∧
      snapLen ≤ 9216)) ∧ 1 ≤ sampleN ∧ sampleN ≤ 65535 ∧ (isVf fid = false ∨ crossTenant = true)) ∧
    (∃ (s b : State) (m : Meta) (session : Nat) (x : Session), Starts s b m 0x0B21 [] false ∧ session < 64 ∧
      tget b.sw.sessions session = some x ∧ sessionUsed b session = false) ∧
    (∃ (s b : State) (m : Meta) (port rx tx : Nat), Starts s b m 0x0B22 [.port port] false ∧ port < 8 ∧
      sessionOk rx = true ∧ sessionOk tx = true ∧ (portBlock b port).isSome = true ∧ sessionThere b rx = true ∧
      sessionThere b tx = true) :=
  ⟨⟨live, _, mg, 16383, 2, 2 ^ 24 - 1, 20, 64, ⟨by decide +kernel, rfl⟩, by decide +kernel⟩,
   ⟨live, _, mg, 3, _, ⟨by decide +kernel, rfl⟩, by decide +kernel, by first | decide +kernel | rfl⟩,
   ⟨live, _, mg, 3, _, ⟨by decide +kernel, rfl⟩, by decide +kernel, by first | decide +kernel | rfl⟩,
   ⟨live, _, mg, 4096, ⟨by decide +kernel, rfl⟩, by decide +kernel⟩,
   ⟨live, _, mg, 63, 2, 255, 9216, 65535, true, ⟨by decide +kernel, rfl⟩, by decide +kernel⟩,
   ⟨live, _, mg, 2, _, ⟨by decide +kernel, rfl⟩, by decide +kernel, by first | decide +kernel | rfl, by decide +kernel⟩,
   ⟨live, _, mg, 1, 2, 0xFF, ⟨by decide +kernel, rfl⟩, by decide +kernel⟩⟩

/-- What `Obligations.PortCommandsComplete` assumes is met, clause by clause. -/
theorem witness_PortCommandsComplete :
    (∃ (s b : State) (m : Meta) (types : List Nat), Starts s b m 0x0120 [] false ∧ (parseLayout types).isSome = true) ∧
    (∃ (s b : State) (m : Meta) (q : PortParams), Starts s b m 0x0121 [.port q.port] false ∧ badParams q = none ∧
      inCfgLayout b q.port q.stage = true ∧ q.stage = 1 ∧ bankLive b = true) ∧
    (∃ (s b : State) (m : Meta) (q : PortParams), Starts s b m 0x0121 [.port q.port] false ∧ badParams q = none ∧
      inCfgLayout b q.port q.stage = true ∧ (q.stage ≠ 1 ∨ bankLive b = false) ∧
      raisesW b q.port ((portOf b q.port).withParams q) = false) ∧
    (∃ (s b : State) (m : Meta), Starts s b m 0x0122 [] false ∧ (b.mac.staged.isSome = true ∨ b.mac.stagedParams ≠ [])) ∧
    (∃ (s b : State) (m : Meta) (port : Nat) (x : Block), Starts s b m 0x0123 [.port port] false ∧ port < 8 ∧
      portBlock b port = some x ∧ (currentBank b).isSome = true) ∧
    (∃ (s b : State) (m : Meta) (port : Nat) (x : Block), Starts s b m 0x0123 [.port port] false ∧ port < 8 ∧
      portBlock b port = some x ∧ currentBank b = none) ∧
    (∃ (s b : State) (m : Meta) (port limitMs : Nat) (x : Block), Starts s b m 0x0124 [.port port] false ∧ port < 8 ∧
      portBlock b port = some x ∧ (portOf b port).queued = []) ∧
    (∃ (s b : State) (m : Meta) (port limitMs : Nat) (x : Block), Starts s b m 0x0124 [.port port] false ∧ port < 8 ∧
      portBlock b port = some x) ∧
    (∃ (s b : State) (m : Meta) (port limitMs : Nat) (x : Block), Starts s b m 0x0124 [.port port] false ∧ (port < 8 ∧
      1 ≤ limitMs ∧ limitMs ≤ 100) ∧ portBlock b port = some x) ∧
    (∃ (s : State) (port : Nat) (c : BgCmd), bgOf s [0x0124] (.port port) = some c ∧ (portOf s port).queued = [] ∧
      (portOf s port).txEnd ≤ s.now) ∧
    (∃ (s : State) (port : Nat) (c : BgCmd), bgOf s [0x0124] (.port port) = some c ∧ c.deadline ≤ s.now ∧
      ((portOf s port).queued ≠ [] ∨ s.now < (portOf s port).txEnd)) ∧
    (∃ (s b : State) (m : Meta) (port : Nat) (words : List Nat) (grpAll : Nat) (x : Block),
      Starts s b m 0x0125 [.port port] false ∧ (port < 8 ∧ words.length = 64 ∧ grpAll ≤ 1) ∧ portBlock b port = some x) ∧
    (∃ (s b : State) (m : Meta) (port fields : Nat) (entries : List Nat) (x : Block),
      Starts s b m 0x0126 [.port port] false ∧ (port < 8 ∧ fields < 2 ^ 32 ∧ bits 15 10 fields = 0 ∧ bits 31 20 fields = 0 ∧
      entries.length = 128 ∧ (entries.all (fun v => v < 4) = true)) ∧ portBlock b port = some x) ∧
    (∃ (s b : State) (m : Meta) (cage dir dev off len : Nat) (data : List Nat) (ack : Bool),
      Starts s b m 0x0127 [.cage cage] false ∧ cage < 2 ∧ dir ≤ 1 ∧ dev < 128 ∧ off < 256 ∧ 1 ≤ len ∧ len ≤ 128) :=
  ⟨⟨live, _, mg, [0x41, 0x41, 0x41, 0x41, 0x41, 0x41, 0x41, 0x41], ⟨by decide +kernel, rfl⟩, by decide +kernel⟩,
   ⟨live, _, mg,
     ({ port := 0, maxFrame := 9216, fcMode := 1, defaultPrio := 7, xoff := 65535, xon := 0, quanta := 65535, prioToClass := 0xFAC688, burst := List.replicate 8 0, onchipKib := List.replicate 8 0, spillMib := List.replicate 8 0, laneFix := 3, stage := 1 } : PortParams),
     ⟨by decide +kernel, rfl⟩, by first | decide +kernel | rfl, by decide +kernel⟩,
   ⟨live, _, mg,
     ({ port := 0, maxFrame := 64, fcMode := 1, defaultPrio := 7, xoff := 65535, xon := 0, quanta := 65535, prioToClass := 0xFAC688, burst := List.replicate 8 0, onchipKib := List.replicate 8 0, spillMib := List.replicate 8 0, laneFix := 3, stage := 0 } : PortParams),
     ⟨by decide +kernel, rfl⟩, by first | decide +kernel | rfl, by decide +kernel⟩,
   ⟨{ live with mac := { live.mac with staged := some [] } }, _, mg, ⟨by decide +kernel, rfl⟩, by decide +kernel⟩,
   ⟨live, _, mg, 1, _, ⟨by decide +kernel, rfl⟩, by decide +kernel, by first | decide +kernel | rfl, by decide +kernel⟩,
   ⟨{ live with seq := {} }, _, mg, 1, _, ⟨by decide +kernel, rfl⟩, by decide +kernel, by first | decide +kernel | rfl,
     by first | decide +kernel | rfl⟩,
   ⟨live, _, mg, 0, 0, _, ⟨by decide +kernel, rfl⟩, by decide +kernel, by first | decide +kernel | rfl, by decide +kernel⟩,
   ⟨live, _, mg, 0, 0, _, ⟨by decide +kernel, rfl⟩, by decide +kernel, by first | decide +kernel | rfl⟩,
   ⟨live, _, mg, 0, 100, _, ⟨by decide +kernel, rfl⟩, by decide +kernel, by first | decide +kernel | rfl⟩,
   ⟨{ live with stw := { live.stw with bg := [⟨0x0124, mg, 0, [], none, [.port 0], none, 0⟩] } }, 0, _,
     by first | decide +kernel | rfl, by decide +kernel⟩,
   ⟨{ live with stw := { live.stw with bg := [⟨0x0124, mg, 0, [], none, [.port 0], none, 0⟩] }, mac := { live.mac with ports := [(0, { enabled := true, classes := [(7, { q := [({ bytes := [], chain := none, spilled := false, stampTag := none } : TxFrame)] })] })] } },
     0, _, by first | decide +kernel | rfl, by decide +kernel⟩,
   ⟨live, _, mg, 1, List.replicate 64 (2 ^ 63), 1, _, ⟨by decide +kernel, rfl⟩, by decide +kernel,
     by first | decide +kernel | rfl⟩,
   ⟨live, _, mg, 0, 2 ^ 20 - 1 - 0xFC00, List.replicate 128 3, _, ⟨by decide +kernel, rfl⟩, by decide +kernel,
     by first | decide +kernel | rfl⟩,
   ⟨live, _, mg, 1, 1, 127, 255, 128, [], true, ⟨by decide +kernel, rfl⟩, by decide +kernel⟩⟩

/-- What `Obligations.StorageCommandsComplete` assumes is met, clause by clause. -/
theorem witness_StorageCommandsComplete :
    (∃ (s b : State) (m : Meta) (q : ConnParams), Starts s b m 0x0701 [.conn q.conn, .fid q.owner] true ∧ badConn q = none ∧
      b.stg.configured = true ∧ connOf b q.conn = none ∧ connOver b q.owner = false ∧ steerRefusal b q = none) ∧
    (∃ (s b : State) (m : Meta) (conn drainMs : Nat) (force : Bool) (c : Conn), Starts s b m 0x0702 [.conn conn] true ∧
      (conn < 65536 ∧ drainMs ≤ 10000) ∧ connOf b conn = some c) ∧
    (∃ (s : State) (conn : Nat) (g : BgCmd) (c : Conn), bgOf s [0x0702] (.conn conn) = some g ∧ connOf s conn = some c ∧
      (c.inFlight = 0 ∨ g.deadline ≤ s.now)) ∧
    (∃ (s b : State) (m : Meta) (conn : Nat) (c : Conn), Starts s b m 0x0703 [.conn conn] false ∧ conn < 65536 ∧
      connOf b conn = some c) ∧
    (∃ (s b : State) (m : Meta) (c0 c1 c2 c3 tcp roce : Nat), Starts s b m 0x0704 [.channel c0, .channel c1, .channel c2,
      .channel c3, .table tcp, .table roce] true ∧ c0 < 15 ∧ c1 < 15 ∧ c2 < 15 ∧ c3 < 15 ∧ tcp < 16 ∧ roce < 16 ∧
      stgChannelOk b c0 = true ∧ stgChannelOk b c1 = true ∧ stgChannelOk b c2 = true ∧ stgChannelOk b c3 = true ∧
      steerTableOk b tcp = true ∧ steerTableOk b roce = true ∧ b.stg.conns = []) ∧
    (∃ (s b : State) (m : Meta) (fid connMax : Nat), Starts s b m 0x0705 [.fid fid] false ∧ isFn fid = true ∧
      connMax ≤ 65536 ∧ connsHeld b fid ≤ connMax) :=
  ⟨⟨{ live with fwt := { live.fwt with tables := [(1, { hot := false, kind := 0, bucketsLog2 := 4, keyLen := 8, ageLimit := 0, seed := 0 })] }, stg := { live.stg with tcpTable := 1, connMax := [(2, 2)] } },
     _, mg,
     ({ conn := 65535, owner := 2, transport := 1, program := 7, hdgst := true, ddgst := false, cmdMax := 48, timeoutMs := 65535, retxLimit := 15, rtoUs := 10, steer := [1, 2, 3], frameFields := [], port := 0, transportState := [] } : ConnParams),
     ⟨by decide +kernel, rfl⟩, by first | decide +kernel | rfl, by decide +kernel, by first | decide +kernel | rfl,
     by decide +kernel, by first | decide +kernel | rfl⟩,
   ⟨live, _, mg, 4, 10000, false, _, ⟨by decide +kernel, rfl⟩, by decide +kernel, by first | decide +kernel | rfl⟩,
   ⟨{ live with stw := { live.stw with bg := [⟨0x0702, mg, 0, [], none, [.conn 4], none, 0⟩] } }, 4, _, _,
     by first | decide +kernel | rfl, by first | decide +kernel | rfl, by decide +kernel⟩,
   ⟨live, _, mg, 4, _, ⟨by decide +kernel, rfl⟩, by decide +kernel, by first | decide +kernel | rfl⟩,
   ⟨{ live with fwt := { live.fwt with tables := [(1, { hot := false, kind := 0, bucketsLog2 := 4, keyLen := 8, ageLimit := 0, seed := 0 })] }, stg := {}, haul := { chans := [(14, { owner := 0xFFF, mode := 2, st := .idle })] } },
     _, mg, 14, 14, 14, 14, 1, 1, ⟨by decide +kernel, rfl⟩, by decide +kernel⟩,
   ⟨live, _, mg, 2, 65536, ⟨by decide +kernel, rfl⟩, by decide +kernel⟩⟩

/-- What `Obligations.TwinCommandsComplete` assumes is met, clause by clause. -/
theorem witness_TwinCommandsComplete :
    (∃ (s b : State) (m : Meta) (unit : Nat), Starts s b m 0x0801 [] false ∧ unit < 2 ^ 64 ∧ b.twn.link = 0) ∧
    (∃ (s b : State) (m : Meta) (policy : Nat), Starts s b m 0x0802 [] false ∧ policy ≤ 3 ∧ b.twn.peer ≠ 0) ∧
    (∃ (s b : State) (m : Meta) (policy : Nat), Starts s b m 0x0802 [] false ∧ policy ≤ 3 ∧ b.twn.peer ≠ 0 ∧
      b.twn.link = 0 ∧ b.twn.enabled = true) ∧
    (∃ (s b : State) (m : Meta) (policy : Nat), Starts s b m 0x0802 [] false ∧ policy ≤ 3 ∧ b.twn.peer ≠ 0 ∧
      b.twn.link = 0 ∧ b.twn.enabled = false) ∧
    (∃ (s b : State) (m : Meta) (policy : Nat), Starts s b m 0x0802 [] false ∧ policy ≤ 3 ∧ b.twn.peer ≠ 0 ∧
      b.twn.link ≠ 0 ∧ b.twn.enabled = true) ∧
    (∃ (s b : State) (m : Meta) (role epoch : Nat), Starts s b m 0x0803 [] false ∧ role ≤ 2 ∧ epoch < 2 ^ 64 ∧
      b.twn.role ≠ roleTaking ∧ b.twn.epoch < epoch ∧ (b.twn.role = roleFenced → role = roleStandby ∧
      b.twn.peerEpoch ≤ epoch)) ∧
    (∃ (s b : State) (m : Meta), Starts s b m 0x0804 [] false ∧ b.twn.role = rolePrimary ∧ b.twn.link = 3 ∧
      b.twn.peerRole = roleStandby) ∧
    (∃ (s b : State) (m : Meta) (epoch deadline : Nat) (flip : Bool), Starts s b m 0x0805 [] false ∧ epoch < 2 ^ 64 ∧
      deadline < 2 ^ 64 ∧ timeNow b < deadline ∧ b.twn.role = roleStandby ∧ b.twn.paired = true ∧ b.twn.link = 3 ∧
      b.twn.inSync = true ∧ b.twn.epoch < epoch ∧ b.twn.peerEpoch < epoch ∧ (flip = true → (flipTarget b).isSome = true)) ∧
    (∃ (s b : State) (m : Meta), Starts s b m 0x0806 [] false ∧ b.twn.armed = true) ∧
    (∃ (s b : State) (m : Meta), Starts s b m 0x0807 [] false ∧ b.twn.paired = true) ∧
    (∃ (s b : State) (m : Meta), Starts s b m 0x0808 [] false) :=
  ⟨⟨live, _, mg, 2 ^ 64 - 1, ⟨by decide +kernel, rfl⟩, by decide +kernel⟩,
   ⟨{ live with twn := { peer := 1 } }, _, mg, 3, ⟨by decide +kernel, rfl⟩, by decide +kernel⟩,
   ⟨{ live with twn := { peer := 1, enabled := true } }, _, mg, 3, ⟨by decide +kernel, rfl⟩, by decide +kernel⟩,
   ⟨{ live with twn := { peer := 1 } }, _, mg, 0, ⟨by decide +kernel, rfl⟩, by decide +kernel⟩,
   ⟨{ live with twn := { peer := 1, enabled := true, link := 3 } }, _, mg, 0, ⟨by decide +kernel, rfl⟩, by decide +kernel⟩,
   ⟨{ live with twn := { role := roleFenced } }, _, mg, roleStandby, 2 ^ 64 - 1, ⟨by decide +kernel, rfl⟩,
     by decide +kernel⟩,
   ⟨{ live with twn := { role := rolePrimary, link := 3, peerRole := roleStandby } }, _, mg, ⟨by decide +kernel, rfl⟩,
     by decide +kernel⟩,
   ⟨{ live with twn := { role := roleStandby, link := 3, paired := true, inSync := true } }, _, mg, 1, 2 ^ 64 - 1, false,
     ⟨by decide +kernel, rfl⟩, by decide +kernel⟩,
   ⟨{ live with twn := { armed := true } }, _, mg, ⟨by decide +kernel, rfl⟩, by decide +kernel⟩,
   ⟨{ live with twn := { paired := true } }, _, mg, ⟨by decide +kernel, rfl⟩, by decide +kernel⟩,
   ⟨live, _, mg, ⟨by decide +kernel, rfl⟩⟩⟩

/-- What `Obligations.BankRowsComplete` assumes is met, clause by clause. -/
theorem witness_BankRowsComplete :
    (∃ (s b : State) (m : Meta) (bank addr len : Nat) (img : TableSet), Starts s b m 0x0110 [.bank bank] false ∧ bank ≤ 1 ∧
      addr < 2 ^ 64 ∧ 1 ≤ len ∧ len < 2 ^ 32 ∧ (bankOf b bank).st.writable = true ∧
      inWindows b 0xFFF addr len false = true ∧ mayIssue b 0xFFF = true ∧ imageOk img = true) ∧
    (∃ (s b : State) (m : Meta) (t : Nat) (d : TableDecl), Starts s b m 0x0111 [] false ∧ flipTarget b = some t ∧
      (bankOf b t).decl = some d ∧ portsMatch b d = true) ∧
    (∃ (s : State) (v t : Nat) (d : TableDecl), (memReach s 0 = true ∧ v % 2 = 1) ∧ flipTarget s = some t ∧
      (bankOf s t).decl = some d ∧ portsMatch s d = true) ∧
    (∃ (s b : State) (m : Meta) (bank : Nat), Starts s b m 0x0112 [.bank bank] false ∧ bank ≤ 1 ∧
      ((bankOf b bank).st = .loading ∨ (bankOf b bank).st = .sealed)) ∧
    (∃ (s : State) (bank : Nat), memReach s 0 = true ∧ bank ≤ 1 ∧ ((bankOf s bank).st = .loading ∨
      (bankOf s bank).st = .sealed)) ∧
    (∃ (s : State) (bank : Nat), memReach s 0 = true ∧ bank ≤ 1 ∧ (bankOf s bank).st = .loading) ∧
    (∃ (s : State) (bank : Nat), (bank ≤ 1 ∧ (bankOf s bank).st = .verifying) ∧ sealChecks s (bankOf s bank) = none ∧
      (∀ g ∈ s.stw.bg, g.objs.contains (.bank bank) = false)) ∧
    (∃ (s : State) (bank i : Nat) (st : Status), (bank ≤ 1 ∧ (bankOf s bank).st = .verifying) ∧
      sealChecks s (bankOf s bank) = some (st, i) ∧ (∀ g ∈ s.stw.bg, g.objs.contains (.bank bank) = false)) ∧
    (∃ (s b : State) (m : Meta) (region fid addr len cur : Nat) (shares : Shares) (steps : List Nat),
      (Starts s b m 0x0113 ([.fid fid] ++ (if s.seq.bankA.st = .current then [.bank 1] else [.bank 0])) false) ∧
      (region ≤ 63 ∧ isFn fid = true ∧ shares.steps ≤ 255 ∧ shares.access ≤ 6 ∧ shares.latency ≤ 430 ∧ addr < 2 ^ 64 ∧
      16 ≤ len ∧ len ≤ 4096 ∧ len % 16 = 0 ∧ (fnOf b fid).hookRegion = region) ∧ currentBank b = some cur ∧
      sharesWithin shares (currentAllow b) = true ∧ sharesWithin (fnOf b fid).shares (currentAllow b) = true ∧
      sharesWithin shares (fnOf b fid).shares = true ∧ (bankOf b (1 - cur)).st = .idle ∧
      inWindows b 0xFFF addr len false = true ∧ mayIssue b 0xFFF = true) ∧
    (∃ (s : State) (i v : Nat), memReach s 0 = true ∧ i < 65536 ∧ (bankOf s s.seq.winBank).st.writable = true) ∧
    (∃ (s : State) (i v lo : Nat), (memReach s 0 = true ∧ i < 65536 ∧ (bankOf s s.seq.winBank).st.writable = true) ∧
      s.seq.loLatched = some (i, lo)) ∧
    (∃ (s : State) (p off size : Nat), p < 4 ∧ memReach s 0 = true ∧ off ≤ 6 ∧ 8 ≤ off + size ∧ size ≤ 8) ∧
    (∃ (s : State) (p off size : Nat), (6 < off ∨ off + size < 8)) ∧
    (∃ (s : State) (p off size : Nat), (6 < off ∨ off + size < 8)) ∧
    (∃ s : State, s.seq.lastScrub + 10000000 ≤ s.now) ∧
    (∃ (s : State) (p c b : Nat) (k : Pkt) (rest : List Pkt), (p < 4 ∧ domainRuns s (12 + p) = true) ∧
      (pipeOf s p).admission = k :: rest ∧ freeCtx (pipeOf s p) = some c ∧ currentBank s = some b ∧
      pathStarting s p k.entry = false) ∧
    (∃ (s : State) (p ord c : Nat) (k : Pkt) (cc : Cc), (p < 4 ∧ domainRuns s (12 + p) = true) ∧
      ((pipeOf s p).parked.find? (fun y => y.ord = ord) = some k) ∧ freeCtx (pipeOf s p) = some c ∧ k.result = some cc ∧
      resumeTurn s p k = true) :=
  ⟨⟨live, _, mg, 1, 0x1000, 1, ⟨[(49151, 0)], endDecl⟩, ⟨by decide +kernel, rfl⟩, by decide +kernel⟩,
   ⟨{ live with seq := { live.seq with bankB := endBank .sealed } }, _, mg, 1, _, ⟨by decide +kernel, rfl⟩,
     by first | decide +kernel | rfl, by first | decide +kernel | rfl, by decide +kernel⟩,
   ⟨{ live with seq := { live.seq with bankB := endBank .sealed } }, 1, 1, _, by decide +kernel,
     by first | decide +kernel | rfl, by first | decide +kernel | rfl, by decide +kernel⟩,
   ⟨{ live with seq := { live.seq with bankB := endBank .sealed } }, _, mg, 1, ⟨by decide +kernel, rfl⟩, by decide +kernel⟩,
   ⟨{ live with seq := { live.seq with bankB := endBank .loading } }, 1, by decide +kernel⟩,
   ⟨{ live with seq := { live.seq with bankB := endBank .loading } }, 1, by decide +kernel⟩,
   ⟨{ live with seq := { live.seq with bankB := endBank .verifying } }, 1, by decide +kernel,
     by first | decide +kernel | rfl, by decide +kernel⟩,
   ⟨{ live with seq := { live.seq with bankB := { endBank .verifying with steps := [] } } }, 1, 0, .badParam,
     by decide +kernel, by first | decide +kernel | rfl, by decide +kernel⟩,
   ⟨{ live with fns := [(0, fnFull), (2, { fnFull with hookRegion := 63, shares := ⟨4, 1, 100⟩ })] }, _, mg, 63, 2, 0x1000,
     16, _, ⟨4, 1, 100⟩, List.replicate 16 0, ⟨by decide +kernel, rfl⟩, by decide +kernel, by first | decide +kernel | rfl,
     by decide +kernel⟩,
   ⟨{ live with seq := { live.seq with winBank := 1 } }, 65535, 5, by decide +kernel⟩,
   ⟨{ live with seq := { live.seq with winBank := 1, loLatched := some (65535, 5) } }, 65535, 5, _, by decide +kernel,
     by first | decide +kernel | rfl⟩,
   ⟨live, 3, 6, 2, by decide +kernel⟩,
   ⟨live, 3, 7, 1, by decide +kernel⟩,
   ⟨live, 3, 0, 7, by decide +kernel⟩,
   ⟨{ live with now := 10000000 }, by decide +kernel⟩,
   ⟨{ live with seq := { live.seq with pipe0 := { admission := [({ ord := 3, words := mkWords (fun _ => 0), result := some .done } : Pkt)] } } },
     0, _, _, _, _, by decide +kernel, by first | decide +kernel | rfl, by first | decide +kernel | rfl,
     by first | decide +kernel | rfl, by decide +kernel⟩,
   ⟨{ live with seq := { live.seq with pipe3 := { parked := [({ ord := 3, words := mkWords (fun _ => 0), result := some .done } : Pkt)] } } },
     3, 3, _, _, _, by decide +kernel, by first | decide +kernel | rfl, by first | decide +kernel | rfl,
     by first | decide +kernel | rfl, by decide +kernel⟩⟩

/-- What `Obligations.StewardCommandsComplete` assumes is met, clause by clause. -/
theorem witness_StewardCommandsComplete :
    (∃ (s b : State) (m : Meta), Starts s b m 0x0101 [] false) ∧
    (∃ (s b : State) (m : Meta) (fid : Nat), Starts (stampSnapshot s m) b m 0x0B01 [.fid fid] false ∧ hasSet fid = true ∧
      (m.path = .mailbox → m.fid = 1 ∨ m.fid = fid)) ∧
    (∃ (s b : State) (m : Meta) (n mask : Nat), Starts s b m 0x0B02 [] false ∧ n < 2 ^ 24 ∧ mask < 2 ^ 64) ∧
    (∃ (s b : State) (m : Meta) (interval dest addr port channel templates : Nat), Starts s b m 0x0B03 [] false ∧
      (10 ≤ interval ∧ interval ≤ 3600000 ∧ dest ≤ 2 ∧ addr < 2 ^ 128 ∧ port < 65536 ∧ channel < 16 ∧ templates < 16 ∧
      b.cnt.exporting = false) ∧ (dest = 2 → (chanOf b channel).owner = 0xFFF ∧ (chanOf b channel).mode = 1)) ∧
    (∃ (s b : State) (m : Meta), Starts s b m 0x0B04 [] false) ∧
    (∃ (s b : State) (m : Meta), Starts s b m 0x0B04 [] false ∧ b.cnt.dest ≠ 0 ∧ b.cnt.exporting = false) ∧
    (∃ (s b : State) (m : Meta), Starts s b m 0x0A01 [] false) ∧
    (∃ (s b : State) (m : Meta) (sec ns : Nat), Starts s b m 0x0A02 [] false ∧ 1577836800 ≤ sec ∧ sec < 2 ^ 64 ∧
      ns < 1000000000) ∧
    (∃ (s b : State) (m : Meta), Starts s b m 0x0A03 [] false) ∧
    (∃ (s b : State) (m : Meta) (instant : Nat), Starts s b m 0x0A03 [] false ∧ acceptedOf s m 0x0A03 = none ∧
      timeNow s < instant ∧ instant < 2 ^ 64) ∧
    (∃ (s b : State) (m : Meta) (instant : Nat) (a : Accepted), Starts s b m 0x0A03 [] false ∧
      acceptedOf s m 0x0A03 = some a ∧ a.ns < instant ∧ instant < 2 ^ 64) ∧
    (∃ (s b : State) (m : Meta), Starts s b m 0x0A04 [] false) ∧
    (∃ (s b : State) (m : Meta) (target : Nat) (sig : List Nat) (owner : Bool), Starts s b m 0x0A05 [] false ∧ (target ≤ 4 ∧
      sig.length = 96) ∧ lcAuthority b.alm.lcState target = some owner ∧ lcQuiet b = true) ∧
    (∃ (s b : State) (m : Meta) (domain limitUs : Nat), Starts s b m 0x0A06 [.domain domain] false ∧ domain ∈ [11, 12, 13,
      14, 15, 18, 19, 20, 23] ∧ 10 ≤ limitUs ∧ limitUs ≤ 1000000) ∧
    (∃ (s b : State) (m : Meta), Starts s b m 0x0A07 [] false) ∧
    (∃ (s b : State) (m : Meta) (domain limitMs : Nat), Starts s b m 0x0A10 [.domain domain] false ∧ domain ∈ [12, 13, 14,
      15, 18, 23]) ∧
    (∃ (s b : State) (m : Meta) (domain limitMs : Nat), Starts s b m 0x0A10 [.domain domain] false ∧ domain ∈ [12, 13, 14,
      15, 18, 23] ∧ domBusy b domain = 0) ∧
    (∃ (s b : State) (m : Meta) (domain limitMs : Nat), Starts s b m 0x0A10 [.domain domain] false ∧ domain ∈ [12, 13, 14,
      15, 18, 23] ∧ 1 ≤ limitMs ∧ limitMs ≤ 1000) ∧
    (∃ (s b : State) (m : Meta) (domain : Nat), Starts s b m 0x0A11 [.domain domain] false ∧ domain ∈ [12, 13, 14, 15, 18,
      23] ∧ (domOf b domain).held = true ∧ (domOf b domain).running = false) ∧
    (∃ (s b : State) (m : Meta) (domain : Nat), Starts s b m 0x0A11 [.domain domain] false ∧ domain ∈ [12, 13, 14, 15, 18,
      23] ∧ (domOf b domain).held = true ∧ (domOf b domain).running = true) :=
  ⟨⟨live, _, mg, ⟨by decide +kernel, rfl⟩⟩,
   ⟨live, _, mg, 0xFFF, ⟨by decide +kernel, rfl⟩, by decide +kernel⟩,
   ⟨live, _, mg, 2 ^ 24 - 1, 2 ^ 64 - 1, ⟨by decide +kernel, rfl⟩, by decide +kernel⟩,
   ⟨live, _, mg, 10, 1, 5, 65535, 15, 15, ⟨by decide +kernel, rfl⟩, by decide +kernel, fun h => absurd h (by decide)⟩,
   ⟨live, _, mg, ⟨by decide +kernel, rfl⟩⟩,
   ⟨{ live with cnt := { live.cnt with dest := 1, interval := 10 } }, _, mg, ⟨by decide +kernel, rfl⟩, by decide +kernel⟩,
   ⟨live, _, mg, ⟨by decide +kernel, rfl⟩⟩,
   ⟨live, _, mg, 1577836800, 999999999, ⟨by decide +kernel, rfl⟩, by decide +kernel⟩,
   ⟨live, _, mg, ⟨by decide +kernel, rfl⟩⟩,
   ⟨live, _, mg, 2 ^ 64 - 1, ⟨by decide +kernel, rfl⟩, by first | decide +kernel | rfl, by decide +kernel⟩,
   ⟨{ live with stw := { live.stw with accepted := [⟨.admin, 0, 0x0A03, 1, false, [], 1000000, 0, none⟩] } }, _, mg,
     2 ^ 64 - 1, ⟨.admin, 0, 0x0A03, 1, false, [], 1000000, 0, none⟩, ⟨by decide +kernel, rfl⟩,
     by first | decide +kernel | rfl, by decide +kernel⟩,
   ⟨live, _, mg, ⟨by decide +kernel, rfl⟩⟩,
   ⟨{ live with mac := {}, fns := [(0, fnFull)] }, _, mg, 1, List.replicate 96 0, _, ⟨by decide +kernel, rfl⟩,
     by decide +kernel, by first | decide +kernel | rfl, by decide +kernel⟩,
   ⟨live, _, mg, 23, 1000000, ⟨by decide +kernel, rfl⟩, by decide +kernel⟩,
   ⟨live, _, mg, ⟨by decide +kernel, rfl⟩⟩,
   ⟨live, _, mg, 12, 0, ⟨by decide +kernel, rfl⟩, by decide +kernel⟩,
   ⟨live, _, mg, 18, 0, ⟨by decide +kernel, rfl⟩, by decide +kernel⟩,
   ⟨live, _, mg, 23, 1000, ⟨by decide +kernel, rfl⟩, by decide +kernel⟩,
   ⟨{ live with alm := { live.alm with domains := tset allRun 12 { held := true } } }, _, mg, 12, ⟨by decide +kernel, rfl⟩,
     by decide +kernel⟩,
   ⟨{ live with alm := { live.alm with domains := tset allRun 12 { held := true, running := true } } }, _, mg, 12,
     ⟨by decide +kernel, rfl⟩, by decide +kernel⟩⟩

/-- What `Obligations.CounterRowsComplete` assumes is met, clause by clause. -/
theorem witness_CounterRowsComplete :
    (∃ (s : State) (v : Nat), memReach s 0 = true ∧ s.cnt.snapGo = false ∧ bits 7 0 v ≤ 239 ∧ hasSet (bits 19 8 v) = true) ∧
    (∃ (s : State) (x : Slot), s.cnt.snapGo = true ∧ tgetD s.cnt.slots s.cnt.snapSlot {} = x) ∧
    (∃ (s : State) (recs : List IpfixRec) (t : List (List IpfixRec)), s.cnt.dueExports = recs :: t) ∧
    (∃ (old s : State) (l k : Nat), (s.cnt.exporting = true ∧ s.mac.timeRunning = true) ∧ s.cnt.lastExport = some l ∧
      k = timeNow s / (s.cnt.interval * 1000000) ∧ l < k ∧ timeNow old / (s.cnt.interval * 1000000) < k ∧
      s.cnt.interval = old.cnt.interval) :=
  ⟨⟨live, 239 + 2 * 2 ^ 8 + 2 ^ 31, by decide +kernel⟩,
   ⟨{ live with cnt := { live.cnt with snapGo := true } }, {}, by decide +kernel⟩,
   ⟨{ live with cnt := { live.cnt with dueExports := [[]] } }, _, _, by first | decide +kernel | rfl⟩,
   ⟨{ live with cnt := { live.cnt with interval := 1000 } },
     { live with mac := { live.mac with timeNs := 2000000000 }, cnt := { live.cnt with interval := 1000, exporting := true, lastExport := some 0 } },
     0, 2, by decide +kernel, by first | decide +kernel | rfl, by first | decide +kernel | rfl, by decide +kernel⟩⟩

/-- What `Obligations.FirmwareCommandsComplete` assumes is met, clause by clause. -/
theorem witness_FirmwareCommandsComplete :
    (∃ (s b : State) (m : Meta) (comp source addr len : Nat) (img : List Nat) (rd : ReadResult),
      Starts s b m 0x0901 [.component comp] false ∧ 1 ≤ comp ∧ comp ≤ 6 ∧ source ≤ 1 ∧ addr < 2 ^ 64 ∧ 1 ≤ len ∧
      len < 2 ^ 32 ∧ stageWaits s m 0x0901 source none = false ∧ stagingBusy b = false ∧ stewardHalted b source = false) ∧
    (∃ (s b : State) (m : Meta) (comp source addr len : Nat) (img : List Nat) (rd : ReadResult),
      Starts s b m 0x0901 [.component comp] false ∧ 1 ≤ comp ∧ comp ≤ 6 ∧ source ≤ 1 ∧ addr < 2 ^ 64 ∧ 1 ≤ len ∧
      len < 2 ^ 32 ∧ stageWaits s m 0x0901 source none = false ∧ stagingBusy b = true) ∧
    (∃ (s b c : State) (m : Meta) (addr : Nat) (man : List Nat), Starts s b m 0x0902 [.staging] false ∧
      c = rowRead b 0xFFF addr 608 .ok ∧ addr < 2 ^ 64 ∧ inWindows b 0xFFF addr 608 false = true ∧ mayIssue b 0xFFF = true ∧
      manifestOk (man.take 608) = true) ∧
    (∃ (s : State) (comp off : Nat) (bytes : List Nat), s.stw.ready = true ∧ s.fw.sessions.contains .svc = true ∧
      (macLane s 10).fault = 0 ∧ stagingBusy s = false ∧ 1 ≤ comp ∧ comp ≤ 6 ∧ 1 ≤ bytes.length ∧ bytes.length ≤ 1024 ∧
      off + bytes.length ≤ plainLimit comp + 256) ∧
    (∃ (s b : State) (m : Meta) (comp : Nat) (i : Image), Starts s b m 0x0905 [.component comp] false ∧ (1 ≤ comp ∧
      comp ≤ 9) ∧ tget b.fw.staged comp = some i ∧ i.binding ≠ 1) ∧
    (∃ (s b : State) (m : Meta), Starts s b m 0x0904 [] false) ∧
    (∃ (s b : State) (m : Meta), Starts s b m 0x0906 [] false) ∧
    (∃ (s b t : State) (m : Meta) (x : Manifest) (fresh : List (Nat × Image)), Starts s b m 0x0903 actObjs false ∧
      b.fw.manifest = some x ∧ freshImages b x = some fresh ∧ (∀ e ∈ fresh, ∃ i,
      checkImage b e.1 2 e.2.bytes.length e.2.bytes = .ok i) ∧
      shadowBank (logEvent b 0x0203 0xFFF [.num 4 x.setVersion]) (freshLibrary b 2 fresh) = (true, t)) ∧
    (∃ (s : State) (g : BgCmd) (t : Nat) (d : TableDecl), actCmd s = some g ∧ (s.fw.activation = 4 ∧
      s.now ≤ s.fw.actDeadline) ∧ flipTarget (trialReady s) = some t ∧ (bankOf (trialReady s) t).decl = some d ∧
      portsMatch (trialReady s) d = true) ∧
    (∃ (s : State) (g : BgCmd) (ready : Bool), actCmd s = some g ∧ s.fw.activation = 4 ∧ (ready = false ∨
      s.fw.actDeadline < s.now)) ∧
    (∃ (s b : State) (m : Meta) (comp source addr len : Nat) (img : List Nat) (rd : ReadResult),
      Starts s b m 0x0910 actObjs false ∧ comp ∈ [1, 2, 3, 5] ∧ source ≤ 1 ∧ addr < 2 ^ 64 ∧ 1 ≤ len ∧ len < 2 ^ 32 ∧
      mayActivate b = true ∧ stageWaits s m 0x0910 source none = false ∧ stewardHalted b source = false) ∧
    (∃ (s b t : State) (path : Path) (fid : Nat) (bytes : List Nat) (a : Accepted), bytes.getD 11 0 = 1 ∧
      b = compatArrives s path bytes ∧ (compatHead b path fid bytes = true ∧ b.stw.accepted = []) ∧
      exec (.acceptPacket path fid bytes .ok) b = .next t ∧ t.stw.accepted = [a] ∧ a.compat.isSome = true) :=
  ⟨⟨live, _, mg, 6, 1, 0x1000, 2 ^ 32 - 1, [], .ok, ⟨by decide +kernel, rfl⟩, by decide +kernel⟩,
   ⟨{ live with stw := { live.stw with bg := [⟨0x0901, mg, 0, [], none, [], none, 0⟩] } }, _, mg, 6, 1, 0x1000, 2 ^ 32 - 1,
     [], .ok, ⟨by decide +kernel, rfl⟩, by decide +kernel⟩,
   ⟨live, _, _, mg, 0x1000, man608, ⟨by decide +kernel, rfl⟩, by first | decide +kernel | rfl, by decide +kernel⟩,
   ⟨{ live with fw := { sessions := [.svc] } }, 6, 0, List.replicate 1024 0, by decide +kernel⟩,
   ⟨{ live with fw := { staged := [(9, {})] } }, _, mg, 9, _, ⟨by decide +kernel, rfl⟩, by decide +kernel,
     by first | decide +kernel | rfl, by decide +kernel⟩,
   ⟨live, _, mg, ⟨by decide +kernel, rfl⟩⟩,
   ⟨live, _, mg, ⟨by decide +kernel, rfl⟩⟩,
   ⟨{ live with fw := { manifest := some {} } }, _,
     (shadowBank (logEvent (began { live with fw := { manifest := some {} } } mg 0x0903) 0x0203 0xFFF [.num 4 0]) none).2,
     mg, {}, [], ⟨by decide +kernel, rfl⟩, by first | decide +kernel | rfl, by first | decide +kernel | rfl,
     fun e h => absurd h List.not_mem_nil, rfl⟩,
   ⟨{ live with fw := { activation := 4, actDeadline := 0 }, seq := { live.seq with bankB := endBank .sealed }, stw := { live.stw with bg := [⟨0x0903, mg, 0, [], none, actObjs, none, 0⟩] } },
     _, 1, _, by first | decide +kernel | rfl, by decide +kernel, by first | decide +kernel | rfl,
     by first | decide +kernel | rfl, by decide +kernel⟩,
   ⟨{ live with fw := { activation := 4, actDeadline := 0 }, now := 1, stw := { live.stw with bg := [⟨0x0903, mg, 0, [], none, actObjs, none, 0⟩] } },
     _, true, by first | decide +kernel | rfl, by decide +kernel⟩,
   ⟨live, _, mg, 5, 0, 0x1000, 1, [], .ok, ⟨by decide +kernel, rfl⟩, by decide +kernel⟩,
   ⟨{ live with stw := { live.stw with rotation := 1 }, fw := { sessions := [.svc] }, dev := { live.dev with compatEnable := true } },
     compatArrives ({ live with stw := { live.stw with rotation := 1 }, fw := { sessions := [.svc] }, dev := { live.dev with compatEnable := true } }) .svc ([0x01,
     0, 0, 0, 0, 0, 0, 0, 0, 0, 0, 1] ++ List.replicate 19 0 ++ [0x01 ^^^ 1]), (execAcceptPacket .svc 0 ([0x01, 0, 0, 0, 0,
     0, 0, 0, 0, 0, 0,
     1] ++ List.replicate 19 0 ++ [0x01 ^^^ 1]) .ok (compatArrives ({ live with stw := { live.stw with rotation := 1 }, fw := { sessions := [.svc] }, dev := { live.dev with compatEnable := true } }) .svc ([0x01,
     0, 0, 0, 0, 0, 0, 0, 0, 0, 0,
     1] ++ List.replicate 19 0 ++ [0x01 ^^^ 1]))).after (compatArrives ({ live with stw := { live.stw with rotation := 1 }, fw := { sessions := [.svc] }, dev := { live.dev with compatEnable := true } }) .svc ([0x01,
     0, 0, 0, 0, 0, 0, 0, 0, 0, 0, 1] ++ List.replicate 19 0 ++ [0x01 ^^^ 1])), .svc, 0, ([0x01, 0, 0, 0, 0, 0, 0, 0, 0, 0,
     0, 1] ++ List.replicate 19 0 ++ [0x01 ^^^ 1]), ⟨.svc, 0, 0x0101, 0, false, [], 1000000, 0, some 1⟩, by decide +kernel,
     rfl, by decide +kernel, rfl, by decide +kernel⟩⟩

end Sys2Proof.Tests
end

