-- ==== Sys2Proof/Tests/WitnessRows.lean ====
section
/-! SUPPORT. Witnesses for the statements about the register writes and the events: for each statement one theorem with a state and operands that meet
the hypotheses of each of its clauses. -/

set_option maxRecDepth 10000
set_option Elab.async false
set_option linter.unusedVariables false

namespace Sys2Proof.Tests

open Sys2Proof.Machine

/-- What `Obligations.HaulRowsComplete` assumes is met, clause by clause. -/
theorem witness_HaulRowsComplete :
    (∃ (s : State) (fid j head n : Nat), memReach s fid = true ∧ regChan s fid j = some n ∧ (chanOf s n).st = .idle ∧
      (chanOf s n).mode = 0 ∧ head % 32 = 0 ∧ startsRefused s fid = false ∧ domainClosed s 23 = false) ∧
    (∃ (s : State) (fid j half full n : Nat), memReach s fid = true ∧ regChan s fid j = some n ∧ half < 65536 ∧
      full < 65536 ∧ ackOk (chanOf s n).halfPosted (chanOf s n).halfAcked half = true ∧
      ackOk (chanOf s n).fullPosted (chanOf s n).fullAcked full = true) ∧
    (∃ (s : State) (fid j n : Nat), (memReach s fid = true ∧ fid ≠ 0) ∧ regChan s fid j = some n) ∧
    (∃ (s : State) (n : Nat), (chanOf s n).st = .armed ∧ (chanOf s n).high ≤ chanFill s (chanOf s n) ∧
      startsRefused s (chanOf s n).acting = false ∧ domainClosed s 23 = false) ∧
    (∃ (s : State) (unit n : Nat), unit < 4 ∧ (tany s.haul.chans (fun _ c => c.unit = some unit) = false) ∧
      domainRuns s 23 = true ∧ nextChan s = some n) :=
  ⟨⟨live, 2, 0, 0x1000, 1, by decide +kernel, by first | decide +kernel | rfl, by decide +kernel⟩,
   ⟨{ live with haul := { chans := [(1, { owner := 2, st := .running, halfPosted := 1, halfAcked := 0, fullPosted := 65535, fullAcked := 65534 })] } },
     2, 0, 1, 65535, 1, by decide +kernel, by first | decide +kernel | rfl, by decide +kernel⟩,
   ⟨live, 2, 0, 1, by decide +kernel, by first | decide +kernel | rfl⟩,
   ⟨{ live with haul := { chans := [(1, { owner := 2, st := .armed, mode := 1, queueType := 1, queue := 5, high := 64 })] }, qm := { live.qm with tx := [(5, { txRing with p := 64 })] } },
     1, by decide +kernel⟩,
   ⟨{ live with haul := { chans := [(1, { owner := 2, st := .ready })] } }, 3, 1, by decide +kernel,
     by first | decide +kernel | rfl, by decide +kernel, by first | decide +kernel | rfl⟩⟩

/-- What `Obligations.HaulDescriptorsComplete` assumes is met, clause by clause. -/
theorem witness_HaulDescriptorsComplete :
    (∃ (s b : State) (n fid : Nat) (inp : HaulIn) (d : HDesc), Hauls s b n 0x00 inp fid d) ∧
    (∃ (s b : State) (n fid : Nat) (inp : HaulIn) (d : HDesc), Hauls s b n 0x01 inp fid d ∧
      (copySource b d inp).2 ≠ .timeout ∧ (copySource b d inp).2 ≠ .error) ∧
    (∃ (s b : State) (n fid : Nat) (inp : HaulIn) (d : HDesc), Hauls s b n 0x02 inp fid d) ∧
    (∃ (s b : State) (n fid : Nat) (inp : HaulIn) (d : HDesc), ∃ p t k tb c, Hauls s b n 0x10 inp fid d ∧
      tblAddr d.src.2 = (p, t, k) ∧ tblReach b fid p t k = some tb ∧ Reaches b c p t ∧
      anyPoison (bucketImage c p t k) = false) ∧
    (∃ (s b : State) (n fid : Nat) (inp : HaulIn) (d : HDesc), ∃ p t k tb x, Hauls s b n 0x10 inp fid d ∧
      tblAddr d.src.2 = (p, t, k) ∧ tblReach b fid p t k = some tb ∧ tableOf b t = some x ∧ x.hot = false ∧
      domainRuns b (19 + p / 2) = false) ∧
    (∃ (s b : State) (n fid : Nat) (inp : HaulIn) (d : HDesc), ∃ p t k tb c, Hauls s b n 0x11 inp fid d ∧
      tblAddr d.src.2 = (p, t, k) ∧ tblReach b fid p t k = some tb ∧ Reaches b c p t ∧ isLocked (fpOf c p) t k = false ∧
      (fpOf c p).locks.length < 256) ∧
    (∃ (s b : State) (n fid : Nat) (inp : HaulIn) (d : HDesc), ∃ p t k tb l fp c, Hauls s b n 0x12 inp fid d ∧
      tblAddr d.dst.2 = (p, t, k) ∧ tblReach b fid p t k = some tb ∧ lockHeld b fid p t k = some l ∧ lockOver b l = false ∧
      Reaches (endCycles b) c p t ∧ ((copySource c d inp).2 ≠ .timeout ∧ (copySource c d inp).2 ≠ .error ∧
      anyPoison (copySource c d inp).1 = false) ∧
      writeImage (readSource c fid d inp) fid p t k tb (rawBytes (copySource c d inp).1) = .ok fp) ∧
    (∃ (s b : State) (n fid : Nat) (inp : HaulIn) (d : HDesc), ∃ p t k l c, Hauls s b n 0x13 inp fid d ∧
      tblAddr d.dst.2 = (p, t, k) ∧ lockHeld b fid p t k = some l ∧ lockOver b l = false ∧ Reaches (endCycles b) c p t) ∧
    (∃ (s b : State) (n fid : Nat) (inp : HaulIn) (d : HDesc), ∃ (p t k : Nat) (l : _) (c : State),
      Hauls s b n 0x13 inp fid d ∧ tblAddr d.dst.2 = (p, t, k) ∧ lockHeld b fid p t k = some l ∧ lockOver b l = true) :=
  ⟨⟨{ live with haul := { chans := [(1, { owner := 2, st := .running, unit := some 0 })] } }, _, 1, 2, ⟨[0, 1, 0, 1, 0, 0,
     0, 0, 0, 0, 0, 0, 0, 0, 0, 0, 0, 0, 0, 0, 0, 0, 0, 0, 0, 0, 0, 0, 0, 0, 0, 0], .ok, List.replicate 0 7, .ok⟩,
     HDesc.ofBytes [0, 1, 0, 1, 0, 0, 0, 0, 0, 0, 0, 0, 0, 0, 0, 0, 0, 0, 0, 0, 0, 0, 0, 0, 0, 0, 0, 0, 0, 0, 0,
     0] false false, ⟨rfl, rfl, rfl, rfl, ⟨[0, 1, 0, 1, 0, 0, 0, 0, 0, 0, 0, 0, 0, 0, 0, 0, 0, 0, 0, 0, 0, 0, 0, 0, 0, 0, 0,
     0, 0, 0, 0, 0], rfl, rfl⟩, rfl, by decide +kernel⟩⟩,
   ⟨{ live with haul := { chans := [(1, { owner := 2, st := .running, unit := some 0 })] } }, _, 1, 2, ⟨[1, 1, 17, 128, 0,
     0, 0, 1, 0, 16, 0, 0, 0, 0, 0, 0, 0, 0, 0, 0, 0, 0, 0, 128, 0, 0, 0, 0, 0, 0, 0, 0], .ok, List.replicate 0 7, .ok⟩,
     HDesc.ofBytes [1, 1, 17, 128, 0, 0, 0, 1, 0, 16, 0, 0, 0, 0, 0, 0, 0, 0, 0, 0, 0, 0, 0, 128, 0, 0, 0, 0, 0, 0, 0,
     0] false false, ⟨rfl, rfl, rfl, rfl, ⟨[1, 1, 17, 128, 0, 0, 0, 1, 0, 16, 0, 0, 0, 0, 0, 0, 0, 0, 0, 0, 0, 0, 0, 128, 0,
     0, 0, 0, 0, 0, 0, 0], rfl, rfl⟩, rfl, by decide +kernel⟩, by decide +kernel⟩,
   ⟨{ live with haul := { chans := [(1, { owner := 2, st := .running, unit := some 0 })] } }, _, 1, 2, ⟨[2, 0, 16, 3, 1, 0,
     0, 0, 0, 0, 0, 0, 0, 0, 0, 0, 0, 16, 0, 0, 0, 0, 0, 0, 0, 0, 0, 0, 0, 0, 0, 0], .ok, List.replicate 0 7, .ok⟩,
     HDesc.ofBytes [2, 0, 16, 3, 1, 0, 0, 0, 0, 0, 0, 0, 0, 0, 0, 0, 0, 16, 0, 0, 0, 0, 0, 0, 0, 0, 0, 0, 0, 0, 0,
     0] false false, ⟨rfl, rfl, rfl, rfl, ⟨[2, 0, 16, 3, 1, 0, 0, 0, 0, 0, 0, 0, 0, 0, 0, 0, 0, 16, 0, 0, 0, 0, 0, 0, 0, 0,
     0, 0, 0, 0, 0, 0], rfl, rfl⟩, rfl, by decide +kernel⟩⟩,
   ⟨{ live with haul := { chans := [(1, { owner := 2, st := .running, unit := some 0 })] }, fwt := { live.fwt with grants := [(132, ⟨100, 10⟩)] } },
     _, 1, 2, ⟨[16, 1, 19, 150, 0, 1, 0, 0, 5, 0, 128, 0, 0, 0, 0, 0, 0, 16, 0, 0, 0, 0, 0, 0, 0, 0, 0, 0, 0, 0, 0, 0], .ok,
     List.replicate 0 7, .ok⟩, HDesc.ofBytes [16, 1, 19, 150, 0, 1, 0, 0, 5, 0, 128, 0, 0, 0, 0, 0, 0, 16, 0, 0, 0, 0, 0, 0,
     0, 0, 0, 0, 0, 0, 0, 0] false false, 0, 1, 5,
     { hot := false, kind := 1, bucketsLog2 := 4, keyLen := 8, ageLimit := 100, seed := 0 }, _, ⟨rfl, rfl, rfl, rfl, ⟨[16,
     1, 19, 150, 0, 1, 0, 0, 5, 0, 128, 0, 0, 0, 0, 0, 0, 16, 0, 0, 0, 0, 0, 0, 0, 0, 0, 0, 0, 0, 0, 0], rfl, rfl⟩, rfl,
     by decide +kernel⟩, by first | decide +kernel | rfl, by first | decide +kernel | rfl, ⟨_, rfl, .inr ⟨rfl,
     by decide +kernel, rfl⟩⟩, by decide +kernel⟩,
   ⟨{ live with alm := { live.alm with domains := [] }, haul := { chans := [(1, { owner := 2, st := .running, unit := some 0 })] }, fwt := { live.fwt with grants := [(132, ⟨100, 10⟩)] } },
     _, 1, 2, ⟨[16, 1, 19, 150, 0, 1, 0, 0, 5, 0, 128, 0, 0, 0, 0, 0, 0, 16, 0, 0, 0, 0, 0, 0, 0, 0, 0, 0, 0, 0, 0, 0], .ok,
     List.replicate 0 7, .ok⟩, HDesc.ofBytes [16, 1, 19, 150, 0, 1, 0, 0, 5, 0, 128, 0, 0, 0, 0, 0, 0, 16, 0, 0, 0, 0, 0, 0,
     0, 0, 0, 0, 0, 0, 0, 0] false false, 0, 1, 5,
     { hot := false, kind := 1, bucketsLog2 := 4, keyLen := 8, ageLimit := 100, seed := 0 },
     { hot := false, kind := 1, bucketsLog2 := 4, keyLen := 8, ageLimit := 100, seed := 0 }, ⟨rfl, rfl, rfl, rfl, ⟨[16, 1,
     19, 150, 0, 1, 0, 0, 5, 0, 128, 0, 0, 0, 0, 0, 0, 16, 0, 0, 0, 0, 0, 0, 0, 0, 0, 0, 0, 0, 0, 0], rfl, rfl⟩, rfl,
     by decide +kernel⟩, by first | decide +kernel | rfl, by first | decide +kernel | rfl, by first | decide +kernel | rfl,
     by decide +kernel⟩,
   ⟨{ live with haul := { chans := [(1, { owner := 2, st := .running, unit := some 0 })] }, fwt := { live.fwt with grants := [(132, ⟨100, 10⟩)] } },
     _, 1, 2, ⟨[17, 1, 19, 151, 0, 1, 0, 0, 5, 0, 128, 0, 0, 0, 0, 0, 0, 16, 0, 0, 0, 0, 0, 0, 0, 0, 0, 0, 0, 0, 0, 0], .ok,
     List.replicate 0 7, .ok⟩, HDesc.ofBytes [17, 1, 19, 151, 0, 1, 0, 0, 5, 0, 128, 0, 0, 0, 0, 0, 0, 16, 0, 0, 0, 0, 0, 0,
     0, 0, 0, 0, 0, 0, 0, 0] false false, 0, 1, 5,
     { hot := false, kind := 1, bucketsLog2 := 4, keyLen := 8, ageLimit := 100, seed := 0 }, _, ⟨rfl, rfl, rfl, rfl, ⟨[17,
     1, 19, 151, 0, 1, 0, 0, 5, 0, 128, 0, 0, 0, 0, 0, 0, 16, 0, 0, 0, 0, 0, 0, 0, 0, 0, 0, 0, 0, 0, 0], rfl, rfl⟩, rfl,
     by decide +kernel⟩, by first | decide +kernel | rfl, by first | decide +kernel | rfl, ⟨_, rfl, .inr ⟨rfl,
     by decide +kernel, rfl⟩⟩, by decide +kernel⟩,
   ⟨{ live with haul := { chans := [(1, { owner := 2, st := .running, unit := some 0 })] }, fwt := { live.fwt with grants := [(132, ⟨100, 10⟩)], p0 := { locks := [(bktKey 1 5, ⟨2, 0⟩)] } } },
     _, 1, 2, ⟨[18, 1, 49, 182, 0, 1, 0, 0, 0, 16, 0, 0, 0, 0, 0, 0, 5, 0, 128, 0, 0, 0, 0, 0, 0, 0, 0, 0, 0, 0, 0, 0], .ok,
     [], .ok⟩, HDesc.ofBytes [18, 1, 49, 182, 0, 1, 0, 0, 0, 16, 0, 0, 0, 0, 0, 0, 5, 0, 128, 0, 0, 0, 0, 0, 0, 0, 0, 0, 0,
     0, 0, 0] false false, 0, 1, 5, { hot := false, kind := 1, bucketsLog2 := 4, keyLen := 8, ageLimit := 100, seed := 0 },
     ⟨2, 0⟩, _, _, ⟨rfl, rfl, rfl, rfl, ⟨[18, 1, 49, 182, 0, 1, 0, 0, 0, 16, 0, 0, 0, 0, 0, 0, 5, 0, 128, 0, 0, 0, 0, 0, 0,
     0, 0, 0, 0, 0, 0, 0], rfl, rfl⟩, rfl, by decide +kernel⟩, by first | decide +kernel | rfl,
     by first | decide +kernel | rfl, by first | decide +kernel | rfl, by decide +kernel, ⟨_, rfl, .inr ⟨rfl,
     by decide +kernel, rfl⟩⟩, by decide +kernel, rfl⟩,
   ⟨{ live with haul := { chans := [(1, { owner := 2, st := .running, unit := some 0 })] }, fwt := { live.fwt with grants := [(132, ⟨100, 10⟩)], p0 := { locks := [(bktKey 1 5, ⟨2, 0⟩)] } } },
     _, 1, 2, ⟨[19, 1, 48, 167, 0, 0, 0, 0, 0, 0, 0, 0, 0, 0, 0, 0, 5, 0, 128, 0, 0, 0, 0, 0, 0, 0, 0, 0, 0, 0, 0, 0], .ok,
     List.replicate 0 7, .ok⟩, HDesc.ofBytes [19, 1, 48, 167, 0, 0, 0, 0, 0, 0, 0, 0, 0, 0, 0, 0, 5, 0, 128, 0, 0, 0, 0, 0,
     0, 0, 0, 0, 0, 0, 0, 0] false false, 0, 1, 5, ⟨2, 0⟩, _, ⟨rfl, rfl, rfl, rfl, ⟨[19, 1, 48, 167, 0, 0, 0, 0, 0, 0, 0, 0,
     0, 0, 0, 0, 5, 0, 128, 0, 0, 0, 0, 0, 0, 0, 0, 0, 0, 0, 0, 0], rfl, rfl⟩, rfl, by decide +kernel⟩,
     by first | decide +kernel | rfl, by first | decide +kernel | rfl, by decide +kernel, ⟨_, rfl, .inr ⟨rfl,
     by decide +kernel, rfl⟩⟩⟩,
   ⟨{ live with now := 100000, haul := { chans := [(1, { owner := 2, st := .running, unit := some 0 })] }, fwt := { live.fwt with grants := [(132, ⟨100, 10⟩)], p0 := { locks := [(bktKey 1 5, ⟨2, 0⟩)] } } },
     _, 1, 2, ⟨[19, 1, 48, 167, 0, 0, 0, 0, 0, 0, 0, 0, 0, 0, 0, 0, 5, 0, 128, 0, 0, 0, 0, 0, 0, 0, 0, 0, 0, 0, 0, 0], .ok,
     List.replicate 0 7, .ok⟩, HDesc.ofBytes [19, 1, 48, 167, 0, 0, 0, 0, 0, 0, 0, 0, 0, 0, 0, 0, 5, 0, 128, 0, 0, 0, 0, 0,
     0, 0, 0, 0, 0, 0, 0, 0] false false, 0, 1, 5, ⟨2, 0⟩, live, ⟨rfl, rfl, rfl, rfl, ⟨[19, 1, 48, 167, 0, 0, 0, 0, 0, 0, 0,
     0, 0, 0, 0, 0, 5, 0, 128, 0, 0, 0, 0, 0, 0, 0, 0, 0, 0, 0, 0, 0], rfl, rfl⟩, rfl, by decide +kernel⟩,
     by first | decide +kernel | rfl, by first | decide +kernel | rfl, by decide +kernel⟩⟩

/-- What `Obligations.QueueRowsComplete` assumes is met, clause by clause. -/
theorem witness_QueueRowsComplete :
    (∃ (s : State) (fid w v q : Nat) (rx : Bool) (r : Ring), (memReach s fid = true ∧ isFrozen s fid = false ∧
      w < windowsOf fid) ∧ atWindow s fid w = some (.ring rx q r) ∧ doorbellOk r (BitVec.ofNat 32 v) = true) ∧
    (∃ (s : State) (fid w q : Nat) (bytes : List Nat) (rx : Bool) (r : Ring), (memReach s fid = true ∧
      isFrozen s fid = false ∧ w < windowsOf fid) ∧ atWindow s fid w = some (.ring rx q r) ∧ bytes ≠ [] ∧
      bytes.length = 32 * bytes.getD 2 0 ∧ bytes.length ≤ 512 ∧ bitOf 2 (bytes.getD 1 0) = true ∧
      doorbellOk r (r.p + BitVec.ofNat 32 (bytes.getD 2 0)) = true) ∧
    (∃ (s : State) (fid w q : Nat) (bytes : List Nat) (rx : Bool) (r : Ring), (memReach s fid = true ∧
      isFrozen s fid = false ∧ w < windowsOf fid) ∧ atWindow s fid w = some (.ring rx q r) ∧ bytes ≠ [] ∧
      bytes.length = 32 * bytes.getD 2 0 ∧ bytes.length ≤ 512 ∧ bitOf 2 (bytes.getD 1 0) = true ∧
      doorbellOk r (r.p + BitVec.ofNat 32 (bytes.getD 2 0)) = true) ∧
    (∃ (s : State) (fid w v n : Nat) (c : CqRing), (memReach s fid = true ∧ isFrozen s fid = false ∧ w < windowsOf fid) ∧
      atWindow s fid w = some (.cq n c) ∧ consumerOk c (BitVec.ofNat 32 v) = true) ∧
    (∃ (s : State) (n : Nat) (r : Ring), ringOf s true n = some r ∧ eligible s r = true) ∧
    (∃ (s t : State) (n : Nat) (r x : Ring), ringOf s false n = some r ∧ nextVisit s r.pipeline = (some n, t) ∧
      ringOf t false n = some x) ∧
    (∃ (s : State) (rx : Bool) (q ns : Nat) (r : Ring) (pos : W32) (bs : List Nat), ringOf s rx q = some r ∧
      r.fetching = true ∧ (r.staged.find? (fun e => e.1 = r.f) = some (pos, ns, bs))) ∧
    (∃ (s t : State) (rx : Bool) (q i : Nat) (r : Ring) (rd : Read), ringOf s rx q = some r ∧ r.fetching = true ∧
      (r.staged.find? (fun e => e.1 = r.f) = none) ∧ fetchReady s rx q = some (i, rd) ∧ rd.fin = some .ok ∧
      t = releaseReads ((dropRead s i).pci.reads.length + 1) (dropRead s i)) :=
  ⟨⟨live, 2, 5, 64, 5, false, txRing, by decide +kernel, by first | decide +kernel | rfl, by decide +kernel⟩,
   ⟨live, 2, 6, 6, [2, 4, 1] ++ List.replicate 29 0, true, rxRing, by decide +kernel, by first | decide +kernel | rfl,
     by decide +kernel⟩,
   ⟨live, 2, 5, 5, [5, 4, 16] ++ List.replicate 509 0, false, txRing, by decide +kernel, by first | decide +kernel | rfl,
     by decide +kernel⟩,
   ⟨{ live with qm := { live.qm with cq := [(7, { cqRing with pc := 1, c := 0xFFFFFFFE })] } }, 2, 7, 0xFFFFFFFF, 7,
     { cqRing with pc := 1, c := 0xFFFFFFFE }, by decide +kernel, by first | decide +kernel | rfl, by decide +kernel⟩,
   ⟨{ live with qm := { live.qm with rx := [(6, { rxRing with p := 1 })] } }, 6, { rxRing with p := 1 },
     by first | decide +kernel | rfl, by decide +kernel⟩,
   ⟨{ live with qm := { live.qm with tx := [(5, { txRing with p := 1 })] } },
     (nextVisit ({ live with qm := { live.qm with tx := [(5, { txRing with p := 1 })] } }) 0).2, 5, { txRing with p := 1 },
     { txRing with p := 1 }, by first | decide +kernel | rfl, rfl, by first | decide +kernel | rfl⟩,
   ⟨{ live with qm := { live.qm with tx := [(5, { { txRing with fetching := true, p := 1 } with staged := [(0, 9, [1, 4, 1])] })] } },
     false, 5, 9, { { txRing with fetching := true, p := 1 } with staged := [(0, 9, [1, 4, 1])] }, 0, [1, 4, 1],
     by first | decide +kernel | rfl, by decide +kernel, by first | decide +kernel | rfl⟩,
   ⟨{ live with qm := { live.qm with tx := [(5, { txRing with fetching := true, p := 1 })] }, pci := { live.pci with reads := [({ link := 0, tag := some 5, addr := 0x10000, fid := 2, stream := 0, use := .fetch false 5, at_ := 0, tmo := 100, len := 32, fin := some .ok } : Read)] } },
     _, false, 5, 0, { txRing with fetching := true, p := 1 },
     ({ link := 0, tag := some 5, addr := 0x10000, fid := 2, stream := 0, use := .fetch false 5, at_ := 0, tmo := 100, len := 32, fin := some .ok } : Read),
     by first | decide +kernel | rfl, by decide +kernel, by first | decide +kernel | rfl, by first | decide +kernel | rfl,
     by first | decide +kernel | rfl, by first | decide +kernel | rfl⟩⟩

/-- What `Obligations.PortRowsComplete` assumes is met, clause by clause. -/
theorem witness_PortRowsComplete :
    (∃ (s t : State) (port : Nat) (bytes : List Nat) (pcsError : Bool) (fec : Fec) (b : Block), portBlock s port = some b ∧
      ((portOf s port).enabled = true ∧ (portOf s port).link = true) ∧
      t = countRx (countFec s port fec) port bytes pcsError) ∧
    (∃ (s : State) (port prio e : Nat), tget (portOf s port).pauseEnd prio = some e ∧ e ≤ s.now) ∧
    (∃ (s : State) (port prio t : Nat) (b : Block), prio < 8 ∧ pfcOpen s port = some b ∧ pfcDue s port prio = some t) ∧
    (∃ (s : State) (port prio t : Nat) (b : Block), pfcOpen s port = some b ∧ tget (portOf s port).pfcSent prio = some t ∧
      (portOf s port).xon ≤ prioCells s port prio ∧ (portOf s port).quanta * 256 ≤ (s.now - t) * b.gbps) ∧
    (∃ (s : State) (port c : Nat) (b : Block) (f : TxFrame) (rest : List TxFrame), portBlock s port = some b ∧
      ((portOf s port).enabled = true ∧ (portOf s port).link = true ∧ (portOf s port).txEnd ≤ s.now) ∧
      ((portOf s port).fcMode ≠ 1 ∨ ∀ p < 8, pfcDue s port p = none ∧ resendDue s port p b = false) ∧
      (portOf s port).nextClass s.now = some c ∧ ((portOf s port).cls c).q = f :: rest) ∧
    (∃ (s : State) (port off size : Nat) (e : TxStamp) (rest : List TxStamp), memReach s 0 = true ∧
      (portOf s port).txts = e :: rest ∧ (portBlock s port).isSome = true ∧ off ≤ 6 ∧ 6 < off + size ∧ size ≤ 8) ∧
    (∃ (s : State) (v : Nat), memReach s 0 = true ∧ s.mac.timeRunning = true) ∧
    (∃ s : State, memReach s 0 = true) ∧
    (∃ s : State, (∀ t, s.mac.ppsAt = some t → 100000000 ≤ s.now - t)) ∧
    (∃ (s : State) (t : Nat), s.mac.ppsAt = some t ∧ s.now - t < 100000000) ∧
    (∃ s : State, s.mac.timeRunning = true ∧ timeNow s % 1000000000 = 0) ∧
    (∃ (s : State) (cage : Nat), cage < 2) ∧
    (∃ (s : State) (cage : Nat), cage < 2) ∧
    (∃ (s : State) (cage : Nat), cage < 2 ∧ ((cageOf s cage).intStuck = false ∨ (cageOf s cage).lastInt = none)) :=
  ⟨⟨live, _, 1, List.replicate 63 0, true, ⟨2 ^ 64 - 1, 1⟩, _, by first | decide +kernel | rfl, by decide +kernel,
     by first | decide +kernel | rfl⟩,
   ⟨{ live with now := 1000000000, mac := { live.mac with ports := [(0, { enabled := true, link := true, pauseEnd := [(3, 1000000000)] })] } },
     0, 3, 1000000000, by first | decide +kernel | rfl, by decide +kernel⟩,
   ⟨{ live with now := 1000000000, mac := { live.mac with ports := [(0, { enabled := true, link := true, fcMode := 1, xoff := 1 })], cellPrio := [(0, (0, 3))] } },
     0, 3, 0xFFFF, _, by decide +kernel, by first | decide +kernel | rfl, by first | decide +kernel | rfl⟩,
   ⟨{ live with now := 1000000000, mac := { live.mac with ports := [(0, { enabled := true, link := true, fcMode := 1, xon := 1, pfcSent := [(3, 1)] })], cellPrio := [(0, (0, 3))] } },
     0, 3, 1, _, by first | decide +kernel | rfl, by first | decide +kernel | rfl, by decide +kernel⟩,
   ⟨{ live with now := 1000000000, mac := { live.mac with ports := [(0, { enabled := true, link := true, classes := [(7, { q := [({ bytes := List.replicate 60 ⟨0, false⟩, chain := none, spilled := false, stampTag := none } : TxFrame)], since := 5 })] })] } },
     0, 7, _, ({ bytes := List.replicate 60 ⟨0, false⟩, chain := none, spilled := false, stampTag := none } : TxFrame), [],
     by first | decide +kernel | rfl, by decide +kernel, Or.inl (by decide +kernel), by first | decide +kernel | rfl,
     by first | decide +kernel | rfl⟩,
   ⟨{ live with now := 1000000000, mac := { live.mac with ports := [(0, { enabled := true, link := true, txts := [⟨9, 5, 5⟩] })] } },
     0, 6, 1, ⟨9, 5, 5⟩, [], by decide +kernel, by first | decide +kernel | rfl, by decide +kernel⟩,
   ⟨live, 2 ^ 64 - 1, by decide +kernel⟩,
   ⟨live, by decide +kernel⟩,
   ⟨{ live with now := 100000000, mac := { live.mac with ppsAt := some 0 } }, (fun t h => by cases h; decide +kernel)⟩,
   ⟨{ live with now := 99999999, mac := { live.mac with ppsAt := some 0 } }, 0, by first | decide +kernel | rfl,
     by decide +kernel⟩,
   ⟨{ live with mac := { live.mac with timeNs := 1000000000 } }, by decide +kernel⟩,
   ⟨live, 1, by decide +kernel⟩,
   ⟨live, 1, by decide +kernel⟩,
   ⟨live, 1, by decide +kernel, Or.inl (by decide +kernel)⟩⟩

/-- What `Obligations.LaneRowsComplete` assumes is met, clause by clause. -/
theorem witness_LaneRowsComplete :
    (∃ (s t u : State) (lane code : Nat), (lane ≤ 10 ∧ 1 ≤ code ∧ code ≤ 3 ∧ (8 ≤ lane ∨
      (portOfLane s lane).isSome = true)) ∧ t = setLaneReg s lane ((macLane s lane).withFault code) ∧ (∀ n,
      portOfLane t lane = some n → code ≠ 3 → u = reportFault t n true) ∧ (portOfLane t lane = none ∨ code = 3 → u = t)) ∧
    (∃ (s t u : State) (lane code : Nat), (lane ≤ 10 ∧ 1 ≤ code ∧ code ≤ 3 ∧ (8 ≤ lane ∨
      (portOfLane s lane).isSome = true)) ∧ t = setLaneReg s lane ((macLane s lane).withFault code) ∧ (∀ n,
      portOfLane t lane = some n → code ≠ 3 → u = reportFault t n true) ∧ (portOfLane t lane = none ∨ code = 3 → u = t)) ∧
    (∃ (s : State) (lane code : Nat), lane < 8 ∧ portOfLane s lane = none) ∧
    (∃ (s : State) (lane code : Nat), lane ≤ 10 ∧ (code = 1 ∨ code = 2) ∧ (macLane s lane).fault = code) ∧
    (∃ (s : State) (port : Nat) (b : Block) (lanes : List LaneStart), port < 8 ∧ portBlock s port = some b ∧
      (portOf s port).enabled = true ∧ (portOf s port).link = false ∧ (∀ l ∈ blockLanes b, (macLane s l).fault = 0)) ∧
    (∃ (s : State) (lanes : List LaneStart), s.twn.enabled = true ∧ s.twn.link ≤ 1 ∧ domainRuns s 9 = true ∧
      twinLanesOk s = true) ∧
    (∃ (s : State) (port : Nat), (portBlock s port).isSome = true ∧ (portOf s port).link = true) :=
  ⟨⟨live, setLaneReg live 0 ((macLane live 0).withFault 1),
     reportFault (setLaneReg live 0 ((macLane live 0).withFault 1)) 0 true, 0, 1, by decide +kernel,
     by first | decide +kernel | rfl,
     fun n h _ => by cases h.symm.trans (show portOfLane (setLaneReg live 0 ((macLane live 0).withFault 1)) 0 = some 0 by decide +kernel); rfl,
     fun h => absurd h (by decide +kernel)⟩,
   ⟨live, setLaneReg live 10 ((macLane live 10).withFault 3), setLaneReg live 10 ((macLane live 10).withFault 3), 10, 3,
     by decide +kernel, by first | decide +kernel | rfl, fun _ _ h => absurd rfl h, fun _ => rfl⟩,
   ⟨{ live with mac := { live.mac with layout := [0, 0, 0, 0, 0, 0, 0, 0] } }, 7, 1, by decide +kernel,
     by first | decide +kernel | rfl⟩,
   ⟨{ live with mac := { live.mac with lanes := [(10, { fault := 2 })] } }, 10, 2, by decide +kernel⟩,
   ⟨{ live with mac := { live.mac with ports := [(0, { enabled := true })] } }, 0, _, [⟨true, 0⟩], by decide +kernel,
     by first | decide +kernel | rfl, by decide +kernel⟩,
   ⟨{ live with twn := { enabled := true } }, [], by decide +kernel⟩,
   ⟨live, 1, by decide +kernel⟩⟩

/-- What `Obligations.PciRowsComplete` assumes is met, clause by clause. -/
theorem witness_PciRowsComplete :
    (∃ (s : State) (link tag i : Nat) (ok ep : Bool) (data : List Nat) (r : Read), readByTag s link tag = some (i, r) ∧
      s.now < r.at_ + r.tmo) ∧
    (∃ (s : State) (link tag i : Nat) (r : Read), readByTag s link tag = some (i, r) ∧ r.at_ + r.tmo ≤ s.now) ∧
    (∃ (s : State) (link tag t fid : Nat), tget s.pci.quarantine (link * 16384 + tag) = some (t, fid) ∧ t ≤ s.now) ∧
    (∃ s : State, s.pci.linkUp = true ∧ s.pci.l23 = false ∧ intaWire s ≠ s.pci.lastAssert) ∧
    (∃ (s : State) (v : Bool), cfgReach s 0 = true) ∧
    (∃ (s : State) (fid vec : Nat), fid ≠ 0 ∧ ((if vec < 128 then memReach s fid else cfgReach s fid) = true)) ∧
    (∃ (s : State) (fid : Nat), cfgReach s fid = true ∧ (pciOf s fid).bme = true) ∧
    (∃ (s : State) (fid : Nat), cfgReach s fid = true) ∧
    (∃ (s : State) (fid : Nat), cfgReach s fid = true) ∧
    (∃ (s : State) (fid t : Nat), (pciOf s fid).flrAt = some t) ∧
    (∃ (s : State) (numVfs : Nat), numVfs ≤ 2048 ∧ cfgReach s 0 = true) ∧
    (∃ (s : State) (d : Nat), d ∈ [0, 1, 3] ∧ cfgReach s 0 = true ∧ (pciOf s 0).dstate ≠ d) ∧
    (∃ (s t : State) (d : Nat), (d ∈ [0, 1, 3] ∧ cfgReach s 1 = true ∧ (pciOf s 1).dstate ≠ d) ∧
      t = setPci s 1 { pciOf s 1 with dstate := d }) ∧
    (∃ s : State, s.pci.linkUp = true ∧ s.pci.l23 = false) ∧
    (∃ (s t : State) (rate width : Nat) (flit : Bool), (s.store.mainPresent = true ∧ s.store.perst = false ∧ rate < 8 ∧
      width < 16) ∧
      t = { s with pci := { s.pci with rate := rate, flit := flit, width := width, dlUpCount := (s.pci.dlUpCount + 1) % 32768, linkUp := true, l23 := false, pmeDue := false } }) ∧
    (∃ (s : State) (rate width : Nat) (flit : Bool), s.store.mainPresent = true ∧ s.store.perst = false ∧ rate < 8 ∧
      width < 16 ∧ s.pci.bifurcated = true) :=
  ⟨⟨{ live with now := 99, pci := { live.pci with reads := [({ link := 0, tag := some 5, addr := 0x10000, fid := 2, stream := 0, use := .fetch false 5, at_ := 0, tmo := 100, len := 32, fin := none } : Read)] } },
     0, 5, 0, true, false, [1],
     ({ link := 0, tag := some 5, addr := 0x10000, fid := 2, stream := 0, use := .fetch false 5, at_ := 0, tmo := 100, len := 32, fin := none } : Read),
     by first | decide +kernel | rfl, by decide +kernel⟩,
   ⟨{ live with now := 100, pci := { live.pci with reads := [({ link := 0, tag := some 5, addr := 0x10000, fid := 2, stream := 0, use := .fetch false 5, at_ := 0, tmo := 100, len := 32, fin := none } : Read)] } },
     0, 5, 0,
     ({ link := 0, tag := some 5, addr := 0x10000, fid := 2, stream := 0, use := .fetch false 5, at_ := 0, tmo := 100, len := 32, fin := none } : Read),
     by first | decide +kernel | rfl, by decide +kernel⟩,
   ⟨{ live with now := 100, pci := { live.pci with quarantine := [(16389, (100, 2))] } }, 1, 5, 100, 2,
     by first | decide +kernel | rfl, by decide +kernel⟩,
   ⟨{ live with now := 100, pci := { live.pci with lastAssert := true } }, by decide +kernel⟩,
   ⟨live, true, by decide +kernel⟩,
   ⟨live, 2, 127, by decide +kernel⟩,
   ⟨live, 2, by decide +kernel⟩,
   ⟨live, 5, by decide +kernel⟩,
   ⟨live, 5, by decide +kernel⟩,
   ⟨{ live with now := 100, pci := { live.pci with fns := [(2, { flrAt := some 7 })] } }, 2, 7,
     by first | decide +kernel | rfl⟩,
   ⟨live, 2048, by decide +kernel⟩,
   ⟨live, 3, by decide +kernel⟩,
   ⟨live, _, 1, by decide +kernel, by first | decide +kernel | rfl⟩,
   ⟨live, by decide +kernel⟩,
   ⟨live, _, 6, 15, true, by decide +kernel, by first | decide +kernel | rfl⟩,
   ⟨{ live with now := 100, pci := { live.pci with bifurcated := true } }, 7, 8, false, by decide +kernel⟩⟩

/-- What `Obligations.AlmanacRowsComplete` assumes is met, clause by clause. -/
theorem witness_AlmanacRowsComplete :
    (∃ (s : State) (d : Nat), demanded s d = false) ∧
    (∃ (s : State) (d : Nat), s.store.auxPresent = true ∧ demanded s d = true) ∧
    (∃ (s : State) (d t : Nat), (domOf s d).starting = some t) ∧
    (∃ (s : State) (d : Nat), mayStop s d = true) ∧
    (∃ (s : State) (d : Nat) (g : BgCmd), bgOf s [0x0A10] (.domain d) = some g ∧ drainLeft s d g.deadline = 0) ∧
    (∃ (s : State) (d : Nat) (g : BgCmd), bgOf s [0x0A10] (.domain d) = some g ∧ drainLeft s d g.deadline ≠ 0 ∧
      g.deadline ≤ s.now) ∧
    (∃ s : State, memReach s 0 = true ∧ s.stw.restarting = false ∧ (s.stw.ready = true ∨ s.fw.activation ≠ 0)) ∧
    (∃ (s u : State) (t : Nat), (beginRestart s).stw.restartAt = some t ∧
      u = { beginRestart s with stw := { (beginRestart s).stw with ready := true, restarting := false, restartAt := none } }) ∧
    (∃ s : State, memReach s 0 = true ∧ s.store.restarting = false ∧ s.store.auxPresent = true) ∧
    (∃ (s t : State), s.store.restarting = true ∧
      t = s.store.waitStarts.foldl startDom (stopHeld { s with store := { s.store with restarting := false, waitStarts := [] } })) ∧
    (∃ s : State, memReach s 0 = true) ∧
    (∃ (s : State) (cause value : Nat), alarmArmed s cause = true ∧ causeOn s cause = false) ∧
    (∃ (s t : State) (cause : Nat), (1 ≤ cause ∧ cause ≤ 4 ∧ causeOn s cause = true ∧ s.store.auxPresent = true ∧
      10000000 ≤ s.now - tgetD s.alm.causeSince cause 0) ∧
      t = almEvent { s with alm := { s.alm with causes := s.alm.causes - 2 ^ (cause - 1), causeSince := tdel s.alm.causeSince cause } } 0x0101 [.num 1 cause,
      .num 4 ((s.now - tgetD s.alm.causeSince cause s.now) / 1000000)]) ∧
    (∃ (s : State) (tj : Nat), s.store.auxPresent = true ∧ 34528 ≤ tj ∧ s.alm.warning = false) ∧
    (∃ (s : State) (tj : Nat), s.store.auxPresent = true ∧ tj < 34448) ∧
    (∃ (s : State) (tj : Nat), s.store.auxPresent = true ∧ 34768 ≤ tj) ∧
    (∃ s : State, s.alm.tripAt + 1000000000 ≤ s.now) ∧
    (∃ s : State, s.store.auxPresent = true ∧ s.alm.xtalFault = false) ∧
    (∃ s : State, s.store.auxPresent = true ∧ s.alm.xtalFault = true) ∧
    (∃ s : State, s.store.auxPresent = true ∧ s.alm.ref156Lost = true) ∧
    (∃ s : State, s.store.auxPresent = true ∧ s.alm.ref100Lost = true) ∧
    (∃ s : State, s.store.auxPresent = true ∧ ∃ kind, kind ≤ 1 ∧ s.alm.diodeFault = false) ∧
    (∃ s : State, s.store.auxPresent = true ∧ s.alm.diodeFault = true) ∧
    (∃ s : State, s.alm.ref156Lost = false) ∧
    (∃ (s t : State), s.alm.ref100Lost = false ∧
      t = almEvent (histAppend { s with alm := { s.alm with ref100Lost := true, faultSeen := true } } 8 0) 0x0105 [.num 1 1,
      .num 1 0]) ∧
    (∃ s : State, s.store.auxPresent = true ∧ s.store.restarting = false ∧ wakeDue s = true) ∧
    (∃ (s : State) (x : LifeSample), s.store.auxPresent = true ∧ s.store.restarting = false) ∧
    (∃ s : State, s.store.auxPresent = true ∧ tgetD s.store.saved.life 1 0 < lifeOf s 1) ∧
    (∃ s : State, s.store.auxPresent = true) ∧
    (∃ s : State, s.store.auxPresent = false) ∧
    (∃ s : State, s.stw.mgmtI3c = false) ∧
    (∃ s : State, s.stw.mgmtI3c = true) :=
  ⟨⟨live, 8, by decide +kernel⟩,
   ⟨live, 11, by decide +kernel⟩,
   ⟨{ live with alm := { live.alm with domains := [(18, { starting := some 5 })] } }, 18, 5,
     by first | decide +kernel | rfl⟩,
   ⟨{ live with alm := { live.alm with domains := [(9, { running := true })] } }, 9, by decide +kernel⟩,
   ⟨{ live with now := 10, stw := { live.stw with bg := [⟨0x0A10, mg, 0, [], none, [.domain 18], none, 20⟩] }, alm := { live.alm with domains := tset live.alm.domains 18 { running := true, draining := some 0, drainSeen := 0 } } },
     18, ⟨0x0A10, mg, 0, [], none, [.domain 18], none, 20⟩, by first | decide +kernel | rfl, by decide +kernel⟩,
   ⟨{ live with now := 10, stw := { live.stw with bg := [⟨0x0A10, mg, 0, [], none, [.domain 18], none, 10⟩] }, alm := { live.alm with domains := tset live.alm.domains 18 { running := true, draining := some 0, drainSeen := 3 } } },
     18, ⟨0x0A10, mg, 0, [], none, [.domain 18], none, 10⟩, by first | decide +kernel | rfl, by decide +kernel⟩,
   ⟨live, by decide +kernel⟩,
   ⟨{ live with stw := { live.stw with restarting := true, ready := false } }, _, 0, by first | decide +kernel | rfl,
     by first | decide +kernel | rfl⟩,
   ⟨live, by decide +kernel⟩,
   ⟨{ live with store := { live.store with restarting := true, waitStarts := [18] } }, _, by decide +kernel,
     by first | decide +kernel | rfl⟩,
   ⟨live, by decide +kernel⟩,
   ⟨live, 1, 700, by decide +kernel⟩,
   ⟨{ live with now := 10000000, alm := { live.alm with causes := 8 } }, _, 4, by decide +kernel,
     by first | decide +kernel | rfl⟩,
   ⟨live, 34528, by decide +kernel⟩,
   ⟨live, 34447, by decide +kernel⟩,
   ⟨live, 34768, by decide +kernel⟩,
   ⟨{ live with now := 1000000000 }, by decide +kernel⟩,
   ⟨live, by decide +kernel⟩,
   ⟨{ live with alm := { live.alm with xtalFault := true } }, by decide +kernel⟩,
   ⟨{ live with alm := { live.alm with ref156Lost := true } }, by decide +kernel⟩,
   ⟨{ live with alm := { live.alm with ref100Lost := true } }, by decide +kernel⟩,
   ⟨live, by decide +kernel, 1, by decide +kernel⟩,
   ⟨{ live with alm := { live.alm with diodeFault := true } }, by decide +kernel⟩,
   ⟨live, by decide +kernel⟩,
   ⟨live, _, by decide +kernel, by first | decide +kernel | rfl⟩,
   ⟨{ live with alm := { live.alm with wakeAt := 1000000000, calSec := 1 } }, by decide +kernel⟩,
   ⟨live, ⟨0, [], [], true⟩, by decide +kernel⟩,
   ⟨{ live with store := { live.store with acc := live.store.acc.setLife 1 1 } }, by decide +kernel⟩,
   ⟨live, by decide +kernel⟩,
   ⟨{ live with store := { live.store with auxPresent := false } }, by decide +kernel⟩,
   ⟨live, by decide +kernel⟩,
   ⟨{ live with stw := { live.stw with mgmtI3c := true } }, by decide +kernel⟩⟩

/-- What `Obligations.ResetRowsComplete` assumes is met, clause by clause. -/
theorem witness_ResetRowsComplete :
    (∃ (s t : State) (straps : Straps) (lib : TableSet), (s.store.auxPresent = true ∧ s.store.mainPresent = false ∧
      s.alm.ref156Lost = false) ∧
      t = beginSramWipe { resetBlocks s with alm := { (resetBlocks s).alm with dataDead := false }, store := { (resetBlocks s).store with mainPresent := true, codeDigestKept := true, library := some lib, restarting := false, waitStarts := [] } }) ∧
    (∃ (s : State), s.store.mainPresent = true ∧ s.store.perst = false) ∧
    (∃ (s : State) (straps : Straps) (lib : TableSet), s.store.mainPresent = true ∧ s.store.perst = true ∧
      s.alm.ref156Lost = false ∧ s.store.codeDigestKept = true) ∧
    (∃ (s : State) (straps : Straps) (lib : TableSet), s.store.mainPresent = true ∧ s.store.perst = true ∧
      s.alm.ref156Lost = false ∧ s.store.codeDigestKept = true) ∧
    (∃ s : State, s.store.mainPresent = true ∧ s.store.perst = false) ∧
    (∃ s : State, s.dev.sramWiping = true) ∧
    (∃ (s t : State), (s.dev.rldWiping = true ∧ s.dev.sramWiping = false) ∧
      t = { s with dev := { s.dev with rldWiping := false, wipeDone := true }, fwt := { s.fwt with ready := true }, stg := { s.stg with ready := true } }) ∧
    (∃ (s t : State), s.store.mainPresent = true ∧
      t = resetBlocks (commitStore (bumpLife (histAppend (draw s).2 ((Sys2Proof.Config.freeWord (draw s).1).toNat % 256) 0) 22 1))) :=
  ⟨⟨State.reset, _, ⟨true, true⟩, ⟨[], endDecl⟩, by decide +kernel, by first | decide +kernel | rfl⟩,
   ⟨live, by decide +kernel⟩,
   ⟨{ live with store := { live.store with perst := true, codeDigestKept := true } }, ⟨false, true⟩, ⟨[], endDecl⟩,
     by decide +kernel⟩,
   ⟨{ live with store := { live.store with perst := true, codeDigestKept := true } }, ⟨false, true⟩, ⟨[], endDecl⟩,
     by decide +kernel⟩,
   ⟨live, by decide +kernel⟩,
   ⟨{ live with dev := { live.dev with sramWiping := true } }, by decide +kernel⟩,
   ⟨{ live with dev := { live.dev with rldWiping := true } }, _, by decide +kernel, by first | decide +kernel | rfl⟩,
   ⟨live, _, by decide +kernel, by first | decide +kernel | rfl⟩⟩

/-- What `Obligations.StewardRowsComplete` assumes is met, clause by clause. -/
theorem witness_StewardRowsComplete :
    (∃ (s : State) (v : Nat), memReach s 0 = true ∧
      admDoorbellOk s.stw.cmdProd s.stw.cmdCons (BitVec.ofNat 32 v) (2 ^ s.stw.admSizeLog2) = true) ∧
    (∃ (s t : State) (v : Nat), (memReach s 0 = true ∧
      positionBack s.stw.rplProd s.stw.rplCons (BitVec.ofNat 32 v) (2 ^ s.stw.admSizeLog2) = true) ∧
      t = { s with stw := { s.stw with rplCons := BitVec.ofNat 32 v } }) ∧
    (∃ (s : State) (v : Nat), memReach s 0 = true ∧
      positionBack s.dev.logProd s.dev.logCons (BitVec.ofNat 32 v) 4096 = true ∧ (s.dev.lostPending = 0 ∨
      BitVec.ofNat 32 v = s.dev.logCons)) ∧
    (∃ (s : State) (v : Nat), memReach s 0 = true ∧
      positionBack s.dev.logProd s.dev.logCons (BitVec.ofNat 32 v) 4096 = true ∧ s.dev.lostPending ≠ 0 ∧
      BitVec.ofNat 32 v ≠ s.dev.logCons) ∧
    (∃ (s t : State) (fid go n : Nat), (fid = 1 ∨ isVf fid = true) ∧ (memReach s fid = true ∧ go % 2 = 1 ∧
      isFrozen s fid = false) ∧ mbxSubmit s fid = (n, t) ∧ n ≤ (fnOf t fid).mbxPerMs ∧ (fnOf t fid).mbx.st ≠ 1) ∧
    (∃ (s : State) (c : Carrier) (bytes : List Nat), (macLane s 10).fault = 0 ∧ c.port = s.stw.udpPort) ∧
    (∃ (s : State) (c : Carrier) (bytes : List Nat), sessionOpen s .mctp = true ∧ c.inSession = true ∧ c.outer = 0x06 ∧
      c.inner = 0x7E ∧ c.vendor = 0x1EA7) ∧
    (∃ (s : State) (c : Carrier) (bytes : List Nat), (c.inSession = false ∨ c.outer ≠ 0x06 ∨ sessionOpen s .mctp = false)) ∧
    (∃ (s : State) (c : Carrier) (bytes : List Nat), (c.inSession = false ∨ c.outer ≠ 0x06 ∨ sessionOpen s .mctp = false)) ∧
    (∃ (s : State) (c : Carrier) (bytes : List Nat), (c.inSession = false ∨ c.outer ≠ 0x06 ∨ sessionOpen s .mctp = false)) ∧
    (∃ (s : State) (bytes : List Nat) (rd : ReadResult), (s.stw.ready = true ∧ stewardBusy s = false) ∧ nextPos s = some 0) ∧
    (∃ (s : State) (bytes : List Nat) (rd : ReadResult), (s.stw.ready = true ∧ stewardBusy s = false) ∧ nextPos s = some 1) ∧
    (∃ (s : State) (bytes : List Nat) (rd : ReadResult), (s.stw.ready = true ∧ stewardBusy s = false) ∧ nextPos s = some 2) ∧
    (∃ (s : State) (bytes : List Nat) (rd : ReadResult), (s.stw.ready = true ∧ stewardBusy s = false) ∧ nextPos s = some 3) ∧
    (∃ (s : State) (bytes : List Nat) (rd : ReadResult), (s.stw.ready = true ∧ stewardBusy s = false) ∧ nextPos s = some 4) ∧
    (∃ (s : State) (fid : Nat) (bytes : List Nat) (rd : ReadResult), (s.stw.ready = true ∧ stewardBusy s = false ∧
      fid ≠ 1) ∧ nextPos s = some 5 ∧ nextVf s = some fid) ∧
    (∃ (s : State) (slot : Nat) (b : BgCmd) (e : CmdEnd), s.stw.bg[slot]? = some b ∧ b.fin = some e ∧ b.deadline ≤ s.now) :=
  ⟨⟨live, 64, by decide +kernel⟩,
   ⟨{ live with stw := { live.stw with rplProd := 0, rplCons := 0xFFFFFFFF } }, _, 0, by decide +kernel,
     by first | decide +kernel | rfl⟩,
   ⟨{ live with dev := { live.dev with logProd := 4096 } }, 4096, by decide +kernel⟩,
   ⟨{ live with dev := { live.dev with logProd := 2, lostPending := 7 } }, 1, by decide +kernel⟩,
   ⟨live, (mbxSubmit live 2).2, 2, 1, 1, Or.inr (by decide +kernel), by decide +kernel, rfl, by decide +kernel⟩,
   ⟨{ live with fw := { sessions := [.svc] } }, {}, [1], by decide +kernel⟩,
   ⟨{ live with fw := { sessions := [.mctp] } }, {}, [1], by decide +kernel⟩,
   ⟨live, { inSession := false }, [1], Or.inl rfl⟩,
   ⟨live, { outer := 7 }, [1], Or.inr (.inl (by decide))⟩,
   ⟨live, {}, [1], Or.inr (.inr rfl)⟩,
   ⟨{ live with stw := { live.stw with cmdProd := 1 } }, List.replicate 64 0, .ok, by decide +kernel,
     by first | decide +kernel | rfl⟩,
   ⟨{ live with stw := { live.stw with svcQueue := [[1]] } }, [], .ok, by decide +kernel, by first | decide +kernel | rfl⟩,
   ⟨{ live with stw := { live.stw with mctpQueue := [[1]] } }, [], .ok, by decide +kernel, by first | decide +kernel | rfl⟩,
   ⟨{ live with twn := { enabled := true, link := 3, epoch := 4, peer := 9, paired := true, role := roleStandby, rxq := [.command []] } },
     [], .ok, by decide +kernel, by first | decide +kernel | rfl⟩,
   ⟨{ live with fns := [(0, fnFull), (1, { Fn.operator false with mbx := { st := 1 } }), (2, { fnFull with mbx := { st := 0 } })] },
     [], .ok, by decide +kernel, by first | decide +kernel | rfl⟩,
   ⟨{ live with fns := [(0, fnFull), (1, { Fn.operator false with mbx := { st := 0 } }), (2, { fnFull with mbx := { st := 1 } })] },
     2, [], .ok, by decide +kernel, by first | decide +kernel | rfl, by first | decide +kernel | rfl⟩,
   ⟨{ live with stw := { live.stw with bg := [⟨0x0A10, mg, 0, [], none, [.domain 18], some { status := .done }, 0⟩] } }, 0,
     ⟨0x0A10, mg, 0, [], none, [.domain 18], some { status := .done }, 0⟩, { status := .done },
     by first | decide +kernel | rfl, by first | decide +kernel | rfl, by decide +kernel⟩⟩

/-- What `Obligations.SelectorsComplete` assumes is met. -/
theorem witness_SelectorsComplete :
    (∃ (s : State) (v : Nat), memReach s 0 = true) :=
  ⟨live, 2 ^ 32 - 1, by decide +kernel⟩

/-- What `Obligations.RegisterWriteCompletes` assumes is met, clause by clause. -/
theorem witness_RegisterWriteCompletes :
    (∃ (s : State) (fid off size v n : Nat) (r : Reg), (off < 2 ^ 32 ∧ memReach s fid = true ∧ 0 < size ∧ size ≤ 8) ∧
      regAt fid off = some (n, r) ∧ (∀ k o, r ≠ .doorbells k o) ∧ (∀ k o, r ≠ .msix k o) ∧ r ≠ .pba) ∧
    (∃ (s : State) (fid off size v n k o : Nat), (off < 2 ^ 32 ∧ memReach s fid = true ∧ 0 < size ∧ size ≤ 8) ∧
      regAt fid off = some (n, .doorbells k o)) ∧
    (∃ (s : State) (fid off size v n vec w : Nat), (off < 2 ^ 32 ∧ memReach s fid = true ∧ 0 < size ∧ size ≤ 8) ∧
      regAt fid off = some (n, .msix vec w)) ∧
    (∃ (s : State) (fid off size v : Nat), (off < 2 ^ 32 ∧ memReach s fid = true) ∧ regAt fid off = none) ∧
    (∃ (s : State) (fid off size v : Nat), 2 ^ 32 ≤ off ∧ cfgReach s fid = true ∧ 1 ≤ size ∧ off % 4 + size ≤ 4) ∧
    (∃ (s : State) (fid off size v : Nat), off < 2 ^ 32 ∧ memReach s fid = false) :=
  ⟨⟨live, 0, 0x14, 4, 1, 4, .devCtl, by decide +kernel, by first | decide +kernel | rfl, (fun _ _ h => by cases h),
     (fun _ _ h => by cases h), by decide +kernel⟩,
   ⟨live, 2, 0xA04, 4, 1, _, 5, 4, by decide +kernel, by first | decide +kernel | rfl⟩,
   ⟨live, 2, 0xC7FC, 4, 1, _, 127, 3, by decide +kernel, by first | decide +kernel | rfl⟩,
   ⟨live, 2, 0xFFFF, 8, 1, by decide +kernel, by first | decide +kernel | rfl⟩,
   ⟨live, 0, 2 ^ 32 + 7, 1, 255, by decide +kernel⟩,
   ⟨{ live with pci := {} }, 2, 0, 4, 1, by decide +kernel⟩⟩

/-- What `Obligations.SpdmComplete` assumes is met, clause by clause. -/
theorem witness_SpdmComplete :
    (∃ (s : State) (path : SpdmPath), spdmUp s path = true ∧ ∃ (off len : Nat), True) ∧
    (∃ (s : State) (path : SpdmPath), spdmUp s path = true ∧ ∃ (nonce : Nat), True) ∧
    (∃ (s : State) (path : SpdmPath), spdmUp s path = true ∧ ∃ (nonce : Nat), True) ∧
    (∃ (s : State) (path : SpdmPath), spdmUp s path = true ∧ ∃ (index nonce : Nat), (index ∈ measureIndices ∨ index = 255)) ∧
    (∃ (s : State) (path : SpdmPath), spdmUp s path = true ∧ ∃ (index nonce : Nat), (index ∈ measureIndices ∨ index = 255)) ∧
    (∃ (s : State) (path : SpdmPath), spdmUp s path = true ∧ ∃ leaf, pinned s leaf = true ∧
      s.fw.sessions.contains path = false) ∧
    (∃ (s : State) (path : SpdmPath), spdmUp s path = true ∧ ∃ leaf auth, (auth = false ∨ pinned s leaf = false)) :=
  ⟨⟨live, .svc, by decide +kernel, 1, 65535, trivial⟩,
   ⟨live, .mctp, by decide +kernel, 5, trivial⟩,
   ⟨live, .mctp, by decide +kernel, 5, trivial⟩,
   ⟨live, .svc, by decide +kernel, 255, 5, by decide +kernel⟩,
   ⟨live, .svc, by decide +kernel, 18, 5, by decide +kernel⟩,
   ⟨{ live with fw := { pins := [(0, 1)] } }, .svc, by decide +kernel, (pinOf ({ live with fw := { pins := [(0, 1)] } }) 0),
     by decide +kernel⟩,
   ⟨live, .svc, by decide +kernel, [1], false, by decide +kernel⟩⟩

/-- What `Obligations.ChainComplete` assumes is met, clause by clause. -/
theorem witness_ChainComplete :
    (∃ (s t : State), (s.stw.ready = true ∧ s.fw.offeredAt ≠ some s.alm.calSec ∧ pairDown s (chainOut s) = false ∧
      (s.fw.packages.filter (fun p => !p.confirmed) ≠ [])) ∧
      (t = chainState ((s.fw.packages.filter (fun p => !p.confirmed)).foldl (fun s p => chainSend s (chainOut s) 1 0 p.id []) s) 4)) ∧
    (∃ (s t : State) (frm : ChainFrame), t = chainActivity s frm.pair ∧ frameRead t frm (chainIn t) = true) ∧
    (∃ (s : State) (frm : ChainFrame) (p : Package), frameRead s frm (chainOut s) = true ∧
      heldPackage s (frameId frm) = some p) ∧
    (∃ (s t : State) (frm : ChainFrame) (id : PkgId), t = chainActivity s frm.pair ∧ t.fw.rx = some id ∧
      frm.pair = chainIn t ∧ pairDown t frm.pair = false ∧ t.stw.ready = true ∧ frm.crcOk = true ∧ frameId frm = id ∧
      frm.off = t.fw.rxBytes.length ∧ rxWhole id.kind (t.fw.rxBytes ++ frm.payload) = false) ∧
    (∃ (s t : State) (frm : ChainFrame) (id : PkgId), t = chainActivity s frm.pair ∧ t.fw.rx = some id ∧
      frm.pair = chainIn t ∧ pairDown t frm.pair = false ∧ t.stw.ready = true ∧ frm.crcOk = true ∧ frameId frm = id ∧
      frm.off = t.fw.rxBytes.length ∧ rxWhole id.kind (t.fw.rxBytes ++ frm.payload) = true) ∧
    (∃ (s t : State) (frm : ChainFrame) (p : Package), frameRead s frm (chainOut s) = true ∧
      heldPackage s (frameId frm) = some p ∧ p.confirmed = false ∧
      (t = { s with fw := { s.fw with packages := s.fw.packages.map (fun q => if q.id = p.id then { q with confirmed := true } else q), chainConfirmed := s.fw.chainConfirmed + 1 } })) ∧
    (∃ (s : State) (frm : ChainFrame), frameRead s frm (chainOut s) = true) ∧
    (∃ (s : State) (pair : Nat), pair ≤ 1) ∧
    (∃ (s t : State) (pair : Nat), (pair ≤ 1 ∧ tgetD s.fw.chainDown pair 0 = 2 ∧ s.fw.chainFault = 2 ∧
      s.fw.chainPair = pair) ∧
      (t = (if pair = chainIn s then wakeNow { s with fw := { s.fw with chainFault := 0 } } 3 else { s with fw := { s.fw with chainFault := 0 } }))) :=
  ⟨⟨{ live with fw := { packages := [({ id := ⟨7, 3, 9⟩, bytes := [] } : Package)] } }, _, by decide +kernel,
     by first | decide +kernel | rfl⟩,
   ⟨live, _, ({ pair := 0, kind := 7, off := 0, version := 3, digestId := 9, payload := [], crcOk := true } : ChainFrame),
     by first | decide +kernel | rfl, by decide +kernel⟩,
   ⟨{ live with fw := { packages := [({ id := ⟨7, 3, 9⟩, bytes := [] } : Package)] } },
     ({ pair := 1, kind := 7, off := 0, version := 3, digestId := 9, payload := [], crcOk := true } : ChainFrame),
     ({ id := ⟨7, 3, 9⟩, bytes := [] } : Package), by decide +kernel, by first | decide +kernel | rfl⟩,
   ⟨{ live with fw := { rx := some ⟨7, 3, 9⟩, rxBytes := [1] } }, _,
     ({ pair := 0, kind := 7, off := 1, version := 3, digestId := 9, payload := [2], crcOk := true } : ChainFrame), ⟨7, 3,
     9⟩, by first | decide +kernel | rfl, by first | decide +kernel | rfl, by decide +kernel⟩,
   ⟨{ live with fw := { rx := some ⟨7, 3, 9⟩, rxBytes := [1] } }, _,
     ({ pair := 0, kind := 7, off := 1, version := 3, digestId := 9, payload := List.replicate 223 0, crcOk := true } : ChainFrame),
     ⟨7, 3, 9⟩, by first | decide +kernel | rfl, by first | decide +kernel | rfl, by decide +kernel⟩,
   ⟨{ live with fw := { packages := [({ id := ⟨7, 3, 9⟩, bytes := [] } : Package)] } }, _,
     ({ pair := 1, kind := 7, off := 0, version := 3, digestId := 9, payload := [], crcOk := true } : ChainFrame),
     ({ id := ⟨7, 3, 9⟩, bytes := [] } : Package), by decide +kernel, by first | decide +kernel | rfl, by decide +kernel,
     by first | decide +kernel | rfl⟩,
   ⟨live, ({ pair := 1, kind := 7, off := 0, version := 3, digestId := 9, payload := [], crcOk := true } : ChainFrame),
     by decide +kernel⟩,
   ⟨live, 1, by decide +kernel⟩,
   ⟨{ live with fw := { chainDown := [(1, 2)], chainFault := 2, chainPair := 1 } }, _, 1, by decide +kernel,
     by first | decide +kernel | rfl⟩⟩

/-- What `Obligations.TwinRowsComplete` assumes is met, clause by clause. -/
theorem witness_TwinRowsComplete :
    (∃ (s t : State) (unit : Nat), (s.twn.enabled = true ∧ s.twn.link = 2 ∧ twinLanesOk s = true ∧ domainRuns s 9 = true ∧
      s.twn.peer ≠ 0) ∧ unit = s.twn.peer ∧ t = twinLink (draw4 (draw4 s).2).2 3) ∧
    (∃ (s : State) (unit : Nat) (ok : Bool), s.twn.enabled = true ∧ s.twn.link = 2 ∧ twinLanesOk s = true ∧
      domainRuns s 9 = true ∧ (ok = false ∨ unit ≠ s.twn.peer ∨ s.twn.peer = 0)) ∧
    (∃ (s : State) (unit : Nat) (ok : Bool), s.twn.enabled = true ∧ s.twn.link = 2 ∧ twinLanesOk s = true ∧
      domainRuns s 9 = true ∧ (ok = false ∨ unit ≠ s.twn.peer ∨ s.twn.peer = 0)) ∧
    (∃ s : State, s.twn.link ≠ 0) ∧
    (∃ s : State, s.twn.link = 3 ∧ s.twn.hbSent ≠ some (timeNow s / 10000)) ∧
    (∃ (s t : State) (h : TwinHdr) (ok : Bool), (s.twn.link = 3 ∧ h.tagOk = true ∧ s.twn.epoch ≤ h.epoch) ∧
      resolve s h = (ok, t)) ∧
    (∃ s : State, s.twn.hbWatch = true ∧ (s.twn.hbWindow + 1) * 10000 ≤ timeNow s ∧ s.twn.hbInWindow = true) ∧
    (∃ s t : State, (s.twn.hbWatch = true ∧ (s.twn.hbWindow + 1) * 10000 ≤ timeNow s ∧ s.twn.hbInWindow = false) ∧
      t = countDev { s with twn := { s.twn with hbWindow := s.twn.hbWindow + 1, hbInWindow := decide (s.twn.hbLast = some (s.twn.hbWindow + 1)), missedRun := min 3 (s.twn.missedRun + 1) } } cTwinHbMissed) ∧
    (∃ s : State, s.twn.armed = true ∧ s.twn.armDeadline ≤ timeNow s) ∧
    (∃ (s t u : State) (h : TwinHdr) (bytes : List Nat), Applies s h t ∧
      u = twinAck { t with twn := { t.twn with rxq := t.twn.rxq ++ [.command bytes] } } none) ∧
    (∃ (s t : State) (h : TwinHdr) (sa k : Nat) (a : Sa), Applies s h t ∧ (t.twn.rxq = [] ∧ twinRuns t = false) ∧
      saOf t sa = some a) ∧
    (∃ (s t : State) (h : TwinHdr) (sa top : Nat) (a : Sa), Applies s h t ∧ (t.twn.rxq = [] ∧ twinRuns t = false) ∧
      saOf t sa = some a) ∧
    (∃ (s t : State) (h : TwinHdr) (n : Nat) (lines : List (Nat × List Nat)) (c : Conn), Applies s h t ∧ (t.twn.rxq = [] ∧
      twinRuns t = false) ∧ connOf t n = some c) ∧
    (∃ (s t : State) (h : TwinHdr) (steps : List (Nat × Nat)) (decl : Option TableDecl), Applies s h t ∧ t.twn.rxq = [] ∧
      twinRuns t = false) ∧
    (∃ (s t : State) (h : TwinHdr) (sa k n : Nat) (lines : List (Nat × List Nat)) (steps : List (Nat × Nat)) (decl : Option TableDecl),
      Applies s h t ∧ (t.twn.rxq ≠ [] ∨ twinRuns t = true)) ∧
    (∃ (s u : State) (h : TwinHdr) (sa k n : Nat) (lines : List (Nat × List Nat)) (steps : List (Nat × Nat)) (decl : Option TableDecl),
      Accepts s h u ∧ frameBefore h.seq u.twn.rxSeq = true) ∧
    (∃ (s u : State) (h : TwinHdr) (sa k n : Nat) (lines : List (Nat × List Nat)) (steps : List (Nat × Nat)) (decl : Option TableDecl),
      Accepts s h u ∧ frameBefore h.seq u.twn.rxSeq = false ∧ h.seq ≠ u.twn.rxSeq) ∧
    (∃ (s t : State) (h : TwinHdr) (acked : Nat), (s.twn.link = 3 ∧ h.tagOk = true) ∧ resolve s h = (true, t)) ∧
    (∃ (s t : State) (h : TwinHdr) (acked : Nat), (s.twn.link = 3 ∧ h.tagOk = true) ∧ resolve s h = (true, t) ∧
      ∃ (q status : Nat), ((takeAck t acked).twn.waits.find? (fun w => w.seq = q) = none)) ∧
    (∃ (s t : State) (h : TwinHdr) (acked : Nat), (s.twn.link = 3 ∧ h.tagOk = true) ∧ resolve s h = (true, t) ∧
      ∃ q status w, ((takeAck t acked).twn.waits.find? (fun w => w.seq = q) = some w) ∧ w.fin.status.code = status) ∧
    (∃ (s t : State) (h : TwinHdr) (acked : Nat), (s.twn.link = 3 ∧ h.tagOk = true) ∧ resolve s h = (true, t) ∧
      ∃ q status w, ((takeAck t acked).twn.waits.find? (fun w => w.seq = q) = some w) ∧ w.fin.status.code ≠ status) ∧
    (∃ (s t : State) (seq : Nat) (f g : TwinOut), (s.twn.outq.find? (fun f => f.seq = seq) = some f) ∧
      (f.sentAt + 4000 ≤ s.now ∧ s.twn.link = 3 ∧ f.resends < 8) ∧
      g = { f with resends := f.resends + 1, sentAt := s.now } ∧
      (t = { s with twn := { s.twn with outq := s.twn.outq.map (fun x => if x.seq = seq then g else x) } })) ∧
    (∃ (s : State) (seq : Nat) (f : TwinOut), (s.twn.outq.find? (fun f => f.seq = seq) = some f) ∧ f.sentAt + 4000 ≤ s.now ∧
      s.twn.link = 3 ∧ 8 ≤ f.resends) ∧
    (∃ (s : State) (w : MirrorWait), (s.twn.waits.find? (fun w => w.until_ ≤ s.now) = some w)) ∧
    (∃ (s t u : State) (t0 : Nat), s.twn.takeoverAt = some t0 ∧ s.twn.role = roleTaking ∧
      (t = (mirroredConns s).foldl (fun s n => abortSlots s n 3) s) ∧
      (u = (if t.twn.armFlip then (requestFlip t).2 else t))) :=
  ⟨⟨{ live with twn := { enabled := true, link := 2, peer := 9 } },
     twinLink (draw4 (draw4 ({ live with twn := { enabled := true, link := 2, peer := 9 } })).2).2 3, 9, by decide +kernel,
     by first | decide +kernel | rfl, by first | decide +kernel | rfl⟩,
   ⟨{ live with twn := { enabled := true, link := 2, peer := 9 } }, 8, true, by decide +kernel⟩,
   ⟨{ live with twn := { enabled := true, link := 2, peer := 9 } }, 9, false, by decide +kernel⟩,
   ⟨{ live with twn := { enabled := true, link := 3, epoch := 4, peer := 9, paired := true, role := roleStandby } },
     by decide +kernel⟩,
   ⟨{ live with twn := { enabled := true, link := 3, epoch := 4, peer := 9, paired := true, role := roleStandby } },
     by decide +kernel⟩,
   ⟨{ live with twn := { enabled := true, link := 3, epoch := 4, peer := 9, paired := true, role := roleStandby } }, _,
     ({ role := rolePrimary, armed := true, paired := true, inSync := true, epoch := 4, seq := 5, tagOk := true } : TwinHdr),
     _, by decide +kernel, by first | decide +kernel | rfl⟩,
   ⟨{ live with twn := { hbWatch := true, hbInWindow := true } }, by decide +kernel⟩,
   ⟨{ live with twn := { hbWatch := true } }, _, by decide +kernel, by first | decide +kernel | rfl⟩,
   ⟨{ live with twn := { armed := true, armDeadline := 1 } }, by decide +kernel⟩,
   ⟨{ live with twn := { enabled := true, link := 3, epoch := 4, peer := 9, paired := true, role := roleStandby, rxSeq := 5 } },
     { (resolve ({ live with twn := { enabled := true, link := 3, epoch := 4, peer := 9, paired := true, role := roleStandby, rxSeq := 5 } }) ({ role := rolePrimary, armed := true, paired := true, inSync := true, epoch := 4, seq := 5, tagOk := true } : TwinHdr)).2 with twn := { ((resolve ({ live with twn := { enabled := true, link := 3, epoch := 4, peer := 9, paired := true, role := roleStandby, rxSeq := 5 } }) ({ role := rolePrimary, armed := true, paired := true, inSync := true, epoch := 4, seq := 5, tagOk := true } : TwinHdr)).2).twn with rxSeq := 6 } },
     _,
     ({ role := rolePrimary, armed := true, paired := true, inSync := true, epoch := 4, seq := 5, tagOk := true } : TwinHdr),
     [5, 3] ++ List.replicate 62 0, ⟨_, ⟨rfl, rfl, rfl, rfl⟩, by decide +kernel, rfl⟩, by first | decide +kernel | rfl⟩,
   ⟨{ live with twn := { enabled := true, link := 3, epoch := 4, peer := 9, paired := true, role := roleStandby, rxSeq := 5 } },
     { (resolve ({ live with twn := { enabled := true, link := 3, epoch := 4, peer := 9, paired := true, role := roleStandby, rxSeq := 5 } }) ({ role := rolePrimary, armed := true, paired := true, inSync := true, epoch := 4, seq := 5, tagOk := true } : TwinHdr)).2 with twn := { ((resolve ({ live with twn := { enabled := true, link := 3, epoch := 4, peer := 9, paired := true, role := roleStandby, rxSeq := 5 } }) ({ role := rolePrimary, armed := true, paired := true, inSync := true, epoch := 4, seq := 5, tagOk := true } : TwinHdr)).2).twn with rxSeq := 6 } },
     ({ role := rolePrimary, armed := true, paired := true, inSync := true, epoch := 4, seq := 5, tagOk := true } : TwinHdr),
     9, 0, sa9, ⟨_, ⟨rfl, rfl, rfl, rfl⟩, by decide +kernel, rfl⟩, by decide +kernel, by first | decide +kernel | rfl⟩,
   ⟨{ live with twn := { enabled := true, link := 3, epoch := 4, peer := 9, paired := true, role := roleStandby, rxSeq := 5 } },
     { (resolve ({ live with twn := { enabled := true, link := 3, epoch := 4, peer := 9, paired := true, role := roleStandby, rxSeq := 5 } }) ({ role := rolePrimary, armed := true, paired := true, inSync := true, epoch := 4, seq := 5, tagOk := true } : TwinHdr)).2 with twn := { ((resolve ({ live with twn := { enabled := true, link := 3, epoch := 4, peer := 9, paired := true, role := roleStandby, rxSeq := 5 } }) ({ role := rolePrimary, armed := true, paired := true, inSync := true, epoch := 4, seq := 5, tagOk := true } : TwinHdr)).2).twn with rxSeq := 6 } },
     ({ role := rolePrimary, armed := true, paired := true, inSync := true, epoch := 4, seq := 5, tagOk := true } : TwinHdr),
     9, 2 ^ 20, sa9, ⟨_, ⟨rfl, rfl, rfl, rfl⟩, by decide +kernel, rfl⟩, by decide +kernel, by first | decide +kernel | rfl⟩,
   ⟨{ live with twn := { enabled := true, link := 3, epoch := 4, peer := 9, paired := true, role := roleStandby, rxSeq := 5 } },
     { (resolve ({ live with twn := { enabled := true, link := 3, epoch := 4, peer := 9, paired := true, role := roleStandby, rxSeq := 5 } }) ({ role := rolePrimary, armed := true, paired := true, inSync := true, epoch := 4, seq := 5, tagOk := true } : TwinHdr)).2 with twn := { ((resolve ({ live with twn := { enabled := true, link := 3, epoch := 4, peer := 9, paired := true, role := roleStandby, rxSeq := 5 } }) ({ role := rolePrimary, armed := true, paired := true, inSync := true, epoch := 4, seq := 5, tagOk := true } : TwinHdr)).2).twn with rxSeq := 6 } },
     ({ role := rolePrimary, armed := true, paired := true, inSync := true, epoch := 4, seq := 5, tagOk := true } : TwinHdr),
     4, [], conn4, ⟨_, ⟨rfl, rfl, rfl, rfl⟩, by decide +kernel, rfl⟩, by decide +kernel, by first | decide +kernel | rfl⟩,
   ⟨{ live with twn := { enabled := true, link := 3, epoch := 4, peer := 9, paired := true, role := roleStandby, rxSeq := 5 } },
     { (resolve ({ live with twn := { enabled := true, link := 3, epoch := 4, peer := 9, paired := true, role := roleStandby, rxSeq := 5 } }) ({ role := rolePrimary, armed := true, paired := true, inSync := true, epoch := 4, seq := 5, tagOk := true } : TwinHdr)).2 with twn := { ((resolve ({ live with twn := { enabled := true, link := 3, epoch := 4, peer := 9, paired := true, role := roleStandby, rxSeq := 5 } }) ({ role := rolePrimary, armed := true, paired := true, inSync := true, epoch := 4, seq := 5, tagOk := true } : TwinHdr)).2).twn with rxSeq := 6 } },
     ({ role := rolePrimary, armed := true, paired := true, inSync := true, epoch := 4, seq := 5, tagOk := true } : TwinHdr),
     [], none, ⟨_, ⟨rfl, rfl, rfl, rfl⟩, by decide +kernel, rfl⟩, by decide +kernel⟩,
   ⟨{ live with twn := { enabled := true, link := 3, epoch := 4, peer := 9, paired := true, role := roleStandby, rxSeq := 5, rxq := [.lease 9 0] } },
     { (resolve ({ live with twn := { enabled := true, link := 3, epoch := 4, peer := 9, paired := true, role := roleStandby, rxSeq := 5, rxq := [.lease 9 0] } }) ({ role := rolePrimary, armed := true, paired := true, inSync := true, epoch := 4, seq := 5, tagOk := true } : TwinHdr)).2 with twn := { ((resolve ({ live with twn := { enabled := true, link := 3, epoch := 4, peer := 9, paired := true, role := roleStandby, rxSeq := 5, rxq := [.lease 9 0] } }) ({ role := rolePrimary, armed := true, paired := true, inSync := true, epoch := 4, seq := 5, tagOk := true } : TwinHdr)).2).twn with rxSeq := 6 } },
     ({ role := rolePrimary, armed := true, paired := true, inSync := true, epoch := 4, seq := 5, tagOk := true } : TwinHdr),
     9, 0, 4, [], [], none, ⟨_, ⟨rfl, rfl, rfl, rfl⟩, by decide +kernel, rfl⟩, Or.inl (by decide +kernel)⟩,
   ⟨{ live with twn := { enabled := true, link := 3, epoch := 4, peer := 9, paired := true, role := roleStandby, rxSeq := 5 } },
     (resolve ({ live with twn := { enabled := true, link := 3, epoch := 4, peer := 9, paired := true, role := roleStandby, rxSeq := 5 } }) ({ role := rolePrimary, armed := true, paired := true, inSync := true, epoch := 4, seq := 4, tagOk := true } : TwinHdr)).2,
     ({ role := rolePrimary, armed := true, paired := true, inSync := true, epoch := 4, seq := 4, tagOk := true } : TwinHdr),
     9, 0, 4, [], [], none, ⟨rfl, rfl, rfl, rfl⟩, by decide +kernel⟩,
   ⟨{ live with twn := { enabled := true, link := 3, epoch := 4, peer := 9, paired := true, role := roleStandby, rxSeq := 5 } },
     (resolve ({ live with twn := { enabled := true, link := 3, epoch := 4, peer := 9, paired := true, role := roleStandby, rxSeq := 5 } }) ({ role := rolePrimary, armed := true, paired := true, inSync := true, epoch := 4, seq := 6, tagOk := true } : TwinHdr)).2,
     ({ role := rolePrimary, armed := true, paired := true, inSync := true, epoch := 4, seq := 6, tagOk := true } : TwinHdr),
     9, 0, 4, [], [], none, ⟨rfl, rfl, rfl, rfl⟩, by decide +kernel⟩,
   ⟨{ live with twn := { enabled := true, link := 3, epoch := 4, peer := 9, paired := true, role := rolePrimary } },
     (resolve ({ live with twn := { enabled := true, link := 3, epoch := 4, peer := 9, paired := true, role := rolePrimary } }) ({ role := roleStandby, armed := true, paired := true, inSync := true, epoch := 4, seq := 5, tagOk := true } : TwinHdr)).2,
     ({ role := roleStandby, armed := true, paired := true, inSync := true, epoch := 4, seq := 5, tagOk := true } : TwinHdr),
     5, by decide +kernel, rfl⟩,
   ⟨{ live with twn := { enabled := true, link := 3, epoch := 4, peer := 9, paired := true, role := rolePrimary } },
     (resolve ({ live with twn := { enabled := true, link := 3, epoch := 4, peer := 9, paired := true, role := rolePrimary } }) ({ role := roleStandby, armed := true, paired := true, inSync := true, epoch := 4, seq := 5, tagOk := true } : TwinHdr)).2,
     ({ role := roleStandby, armed := true, paired := true, inSync := true, epoch := 4, seq := 5, tagOk := true } : TwinHdr),
     5, by decide +kernel, rfl, 5, 0, by first | decide +kernel | rfl⟩,
   ⟨{ live with twn := { enabled := true, link := 3, epoch := 4, peer := 9, paired := true, waits := [({ seq := 5, opcode := 0x0305, m := mg, ns := 0, compat := none, fin := { status := .done }, until_ := 10 } : MirrorWait)], role := rolePrimary } },
     (resolve ({ live with twn := { enabled := true, link := 3, epoch := 4, peer := 9, paired := true, waits := [({ seq := 5, opcode := 0x0305, m := mg, ns := 0, compat := none, fin := { status := .done }, until_ := 10 } : MirrorWait)], role := rolePrimary } }) ({ role := roleStandby, armed := true, paired := true, inSync := true, epoch := 4, seq := 5, tagOk := true } : TwinHdr)).2,
     ({ role := roleStandby, armed := true, paired := true, inSync := true, epoch := 4, seq := 5, tagOk := true } : TwinHdr),
     5, by decide +kernel, rfl, 5, 0,
     ({ seq := 5, opcode := 0x0305, m := mg, ns := 0, compat := none, fin := { status := .done }, until_ := 10 } : MirrorWait),
     by first | decide +kernel | rfl, by decide +kernel⟩,
   ⟨{ live with twn := { enabled := true, link := 3, epoch := 4, peer := 9, paired := true, waits := [({ seq := 5, opcode := 0x0305, m := mg, ns := 0, compat := none, fin := { status := .done }, until_ := 10 } : MirrorWait)], role := rolePrimary } },
     (resolve ({ live with twn := { enabled := true, link := 3, epoch := 4, peer := 9, paired := true, waits := [({ seq := 5, opcode := 0x0305, m := mg, ns := 0, compat := none, fin := { status := .done }, until_ := 10 } : MirrorWait)], role := rolePrimary } }) ({ role := roleStandby, armed := true, paired := true, inSync := true, epoch := 4, seq := 5, tagOk := true } : TwinHdr)).2,
     ({ role := roleStandby, armed := true, paired := true, inSync := true, epoch := 4, seq := 5, tagOk := true } : TwinHdr),
     5, by decide +kernel, rfl, 5, 3,
     ({ seq := 5, opcode := 0x0305, m := mg, ns := 0, compat := none, fin := { status := .done }, until_ := 10 } : MirrorWait),
     by first | decide +kernel | rfl, by decide +kernel⟩,
   ⟨{ live with twn := { link := 3, outq := [({ seq := 5, type := 2, role := 1, flags := 0, epoch := 4, body := [], sentAt := 0, resends := 7 } : TwinOut)] }, now := 4000 },
     _, 5, ({ seq := 5, type := 2, role := 1, flags := 0, epoch := 4, body := [], sentAt := 0, resends := 7 } : TwinOut),
     { ({ seq := 5, type := 2, role := 1, flags := 0, epoch := 4, body := [], sentAt := 0, resends := 7 } : TwinOut) with resends := 8, sentAt := 4000 },
     by first | decide +kernel | rfl, by decide +kernel, by first | decide +kernel | rfl, by first | decide +kernel | rfl⟩,
   ⟨{ live with twn := { link := 3, outq := [({ seq := 5, type := 2, role := 1, flags := 0, epoch := 4, body := [], sentAt := 0, resends := 8 } : TwinOut)] }, now := 4000 },
     5, ({ seq := 5, type := 2, role := 1, flags := 0, epoch := 4, body := [], sentAt := 0, resends := 8 } : TwinOut),
     by first | decide +kernel | rfl, by decide +kernel⟩,
   ⟨{ live with now := 10, twn := { enabled := true, link := 3, epoch := 4, peer := 9, paired := true, waits := [({ seq := 5, opcode := 0x0305, m := mg, ns := 0, compat := none, fin := { status := .done }, until_ := 10 } : MirrorWait)], role := rolePrimary } },
     ({ seq := 5, opcode := 0x0305, m := mg, ns := 0, compat := none, fin := { status := .done }, until_ := 10 } : MirrorWait),
     by first | decide +kernel | rfl⟩,
   ⟨{ live with twn := { role := roleTaking, takeoverAt := some 0 } }, _, _, 0, by first | decide +kernel | rfl,
     by decide +kernel, by first | decide +kernel | rfl, by first | decide +kernel | rfl⟩⟩

end Sys2Proof.Tests
end

