-- ==== Sys2Proof/Tests/WitnessRules.lean ====
section
/-! SUPPORT. Witnesses for the statements about frames, invariants and refusals: for each statement one theorem with a state and operands that meet
the hypotheses of each of its clauses. -/

set_option maxRecDepth 10000
set_option Elab.async false
set_option linter.unusedVariables false

namespace Sys2Proof.Tests

open Sys2Proof.Machine

/-- What `Obligations.StorageLibraryAnswers` assumes is met, clause by clause. -/
theorem witness_StorageLibraryAnswers :
    (∃ (s : State) (k : Pkt), (bankOf s k.bank).shipped = false) ∧
    (∃ (s : State) (k : Pkt) (bs : List Nat) (e : StgCmd), ((bankOf s k.bank).shipped = true ∧ 16 ≤ k.entry ∧
      k.entry ≤ 23) ∧ k.lib = none ∧ k.conn = none ∧ bs = rawBytes (pktBytes s k) ∧ e = StgCmd.ofBytes bs ∧
      bs.getD 0 0 ≠ 0x40) ∧
    (∃ (s : State) (k : Pkt) (bs : List Nat) (e : StgCmd), ((bankOf s k.bank).shipped = true ∧ 16 ≤ k.entry ∧
      k.entry ≤ 23) ∧ k.lib = none ∧ k.conn = none ∧ bs = rawBytes (pktBytes s k) ∧ e = StgCmd.ofBytes bs ∧
      bs.getD 0 0 = 0x40 ∧ (e.bad (bs.length / 32) = true ∨ xtsBad s k.fid e = true)) ∧
    (∃ (s : State) (k : Pkt) (bs : List Nat) (e : StgCmd), ((bankOf s k.bank).shipped = true ∧ 16 ≤ k.entry ∧
      k.entry ≤ 23) ∧ k.lib = none ∧ k.conn = none ∧ bs = rawBytes (pktBytes s k) ∧ e = StgCmd.ofBytes bs ∧
      bs.getD 0 0 = 0x40 ∧ e.bad (bs.length / 32) = false ∧ xtsBad s k.fid e = false) ∧
    (∃ (s : State) (p : Nat) (k : Pkt) (r : LibRun) (rest : List LibOp) (reason : Nat), r.turn = false ∧
      r.plan = .get :: rest) ∧
    (∃ (s : State) (p : Nat) (k : Pkt) (r : LibRun) (rest : List LibOp) (reason : Nat), r.turn = false ∧
      r.plan = .handoff false :: rest) ∧
    (∃ (a : LibAcc) (dw0 cid sf i : Nat), i = cid % 64 ∧ a.slotSt cid = 0) ∧
    (∃ (a : LibAcc) (dw0 cid sf i : Nat), i = cid % 64 ∧ a.slotSt cid = 1 ∧
      ((tget a.rc.cmds i).map (·.bad)).getD false = false) ∧
    (∃ (a : LibAcc) (dw0 cid sf i : Nat), i = cid % 64 ∧ a.slotSt cid = 2) ∧
    (∃ (a : LibAcc) (dw0 cid sf i : Nat), i = cid % 64 ∧ a.slotSt cid = 3) :=
  ⟨⟨live, stepPkt 5 2, by decide +kernel⟩,
   ⟨{ stepping 0 5 2 with seq := { (stepping 0 5 2).seq with bankA := { endBank .current with decl := some { endDecl with shipped := true } } }, grn := { live.grn with bufs := [(7, { owner := 0xFFF, st := 2 })], data := [(7, ([0] ++ List.replicate 255 0).map (fun b => ⟨BitVec.ofNat 8 b, false⟩))] } },
     ({ ord := 0, words := mkWords (fun i => if i = 24 then 7 + 96 * 2 ^ 40 else if i = 26 then 2 * 2 ^ 24 else 0), entry := 23, chains := [7] } : Pkt),
     rawBytes (pktBytes ({ stepping 0 5 2 with seq := { (stepping 0 5 2).seq with bankA := { endBank .current with decl := some { endDecl with shipped := true } } }, grn := { live.grn with bufs := [(7, { owner := 0xFFF, st := 2 })], data := [(7, ([0] ++ List.replicate 255 0).map (fun b => ⟨BitVec.ofNat 8 b, false⟩))] } }) ({ ord := 0, words := mkWords (fun i => if i = 24 then 7 + 96 * 2 ^ 40 else if i = 26 then 2 * 2 ^ 24 else 0), entry := 23, chains := [7] } : Pkt)),
     StgCmd.ofBytes (rawBytes (pktBytes ({ stepping 0 5 2 with seq := { (stepping 0 5 2).seq with bankA := { endBank .current with decl := some { endDecl with shipped := true } } }, grn := { live.grn with bufs := [(7, { owner := 0xFFF, st := 2 })], data := [(7, ([0] ++ List.replicate 255 0).map (fun b => ⟨BitVec.ofNat 8 b, false⟩))] } }) ({ ord := 0, words := mkWords (fun i => if i = 24 then 7 + 96 * 2 ^ 40 else if i = 26 then 2 * 2 ^ 24 else 0), entry := 23, chains := [7] } : Pkt))),
     by decide +kernel, by first | decide +kernel | rfl, by first | decide +kernel | rfl, by first | decide +kernel | rfl,
     by first | decide +kernel | rfl, by decide +kernel⟩,
   ⟨{ stepping 0 5 2 with seq := { (stepping 0 5 2).seq with bankA := { endBank .current with decl := some { endDecl with shipped := true } } }, grn := { live.grn with bufs := [(7, { owner := 0xFFF, st := 2 })], data := [(7, ([0x40, 0, 0, 0, 0, 0, 0, 0, 0, 0, 2] ++ List.replicate 255 0).map (fun b => ⟨BitVec.ofNat 8 b, false⟩))] } },
     ({ ord := 0, words := mkWords (fun i => if i = 24 then 7 + 96 * 2 ^ 40 else if i = 26 then 2 * 2 ^ 24 else 0), entry := 23, chains := [7] } : Pkt),
     rawBytes (pktBytes ({ stepping 0 5 2 with seq := { (stepping 0 5 2).seq with bankA := { endBank .current with decl := some { endDecl with shipped := true } } }, grn := { live.grn with bufs := [(7, { owner := 0xFFF, st := 2 })], data := [(7, ([0x40, 0, 0, 0, 0, 0, 0, 0, 0, 0, 2] ++ List.replicate 255 0).map (fun b => ⟨BitVec.ofNat 8 b, false⟩))] } }) ({ ord := 0, words := mkWords (fun i => if i = 24 then 7 + 96 * 2 ^ 40 else if i = 26 then 2 * 2 ^ 24 else 0), entry := 23, chains := [7] } : Pkt)),
     StgCmd.ofBytes (rawBytes (pktBytes ({ stepping 0 5 2 with seq := { (stepping 0 5 2).seq with bankA := { endBank .current with decl := some { endDecl with shipped := true } } }, grn := { live.grn with bufs := [(7, { owner := 0xFFF, st := 2 })], data := [(7, ([0x40, 0, 0, 0, 0, 0, 0, 0, 0, 0, 2] ++ List.replicate 255 0).map (fun b => ⟨BitVec.ofNat 8 b, false⟩))] } }) ({ ord := 0, words := mkWords (fun i => if i = 24 then 7 + 96 * 2 ^ 40 else if i = 26 then 2 * 2 ^ 24 else 0), entry := 23, chains := [7] } : Pkt))),
     by decide +kernel, by first | decide +kernel | rfl, by first | decide +kernel | rfl, by first | decide +kernel | rfl,
     by first | decide +kernel | rfl, by decide +kernel⟩,
   ⟨{ stepping 0 5 2 with seq := { (stepping 0 5 2).seq with bankA := { endBank .current with decl := some { endDecl with shipped := true } } }, grn := { live.grn with bufs := [(7, { owner := 0xFFF, st := 2 })], data := [(7, ([0x40] ++ List.replicate 255 0).map (fun b => ⟨BitVec.ofNat 8 b, false⟩))] } },
     ({ ord := 0, words := mkWords (fun i => if i = 24 then 7 + 96 * 2 ^ 40 else if i = 26 then 2 * 2 ^ 24 else 0), entry := 23, chains := [7] } : Pkt),
     rawBytes (pktBytes ({ stepping 0 5 2 with seq := { (stepping 0 5 2).seq with bankA := { endBank .current with decl := some { endDecl with shipped := true } } }, grn := { live.grn with bufs := [(7, { owner := 0xFFF, st := 2 })], data := [(7, ([0x40] ++ List.replicate 255 0).map (fun b => ⟨BitVec.ofNat 8 b, false⟩))] } }) ({ ord := 0, words := mkWords (fun i => if i = 24 then 7 + 96 * 2 ^ 40 else if i = 26 then 2 * 2 ^ 24 else 0), entry := 23, chains := [7] } : Pkt)),
     StgCmd.ofBytes (rawBytes (pktBytes ({ stepping 0 5 2 with seq := { (stepping 0 5 2).seq with bankA := { endBank .current with decl := some { endDecl with shipped := true } } }, grn := { live.grn with bufs := [(7, { owner := 0xFFF, st := 2 })], data := [(7, ([0x40] ++ List.replicate 255 0).map (fun b => ⟨BitVec.ofNat 8 b, false⟩))] } }) ({ ord := 0, words := mkWords (fun i => if i = 24 then 7 + 96 * 2 ^ 40 else if i = 26 then 2 * 2 ^ 24 else 0), entry := 23, chains := [7] } : Pkt))),
     by decide +kernel, by first | decide +kernel | rfl, by first | decide +kernel | rfl, by first | decide +kernel | rfl,
     by first | decide +kernel | rfl, by decide +kernel⟩,
   ⟨live, 0, stepPkt 5 2, ({ conn := 4, fid := 2, turn := false, plan := [.get] } : LibRun), [], 0, by decide +kernel,
     by first | decide +kernel | rfl⟩,
   ⟨live, 0, stepPkt 5 2, ({ conn := 4, fid := 2, turn := false, plan := [.handoff false] } : LibRun), [], 3,
     by decide +kernel, by first | decide +kernel | rfl⟩,
   ⟨({ conn := 4, c := { conn4 with slots := [(5, { tag := 1, cq := 7, st := 1, gen := 15, allocAt := 0 })] }, chan := 0, now := 0, rc := {} } : LibAcc),
     0, 1029, 0, 5, by first | decide +kernel | rfl, by decide +kernel⟩,
   ⟨({ conn := 4, c := { conn4 with slots := [(5, { tag := 1, cq := 7, st := 1, gen := 16, allocAt := 0 })] }, chan := 0, now := 0, rc := {} } : LibAcc),
     0, 1029, 0, 5, by first | decide +kernel | rfl, by decide +kernel⟩,
   ⟨({ conn := 4, c := { conn4 with slots := [(5, { tag := 1, cq := 7, st := 2, gen := 16, allocAt := 0 })] }, chan := 0, now := 0, rc := {} } : LibAcc),
     0, 1029, 0, 5, by first | decide +kernel | rfl, by decide +kernel⟩,
   ⟨({ conn := 4, c := { conn4 with slots := [(5, { tag := 1, cq := 7, st := 3, gen := 16, allocAt := 0 })] }, chan := 0, now := 0, rc := {} } : LibAcc),
     0, 1029, 0, 5, by first | decide +kernel | rfl, by decide +kernel⟩⟩

/-- What `Obligations.CommandsKeepToTheirParts` assumes is met. -/
theorem witness_CommandsKeepToTheirParts :
    (∃ (i : Instr) (s t : State), exec i s = .next t) :=
  ⟨.ppsInputEdge, live, _, rfl⟩

/-- What `Obligations.StepTakesOneCommand` assumes is met. -/
theorem witness_StepTakesOneCommand :
    (∃ s t : State, Machine.step s = .next t) :=
  ⟨{ live with pending := [.ppsInputEdge] }, _, rfl⟩

/-- What `Obligations.IdleStepPassesTime` assumes is met. -/
theorem witness_IdleStepPassesTime :
    (∃ s : State, s.pending = []) :=
  ⟨live, by decide +kernel⟩

/-- What `Obligations.FusesOnlyGrow` assumes is met, clause by clause. -/
theorem witness_FusesOnlyGrow :
    (∃ s t : State, Machine.step s = .next t ∧ ∃ c : Nat, True) ∧
    (∃ s t : State, Machine.step s = .next t ∧ ∃ k : Nat, s.fw.revoked.testBit k = true) ∧
    (∃ s t : State, Machine.step s = .next t ∧ s.fw.ownerKey ≠ []) :=
  ⟨⟨{ live with pending := [.ppsInputEdge], fw := { revoked := 4, ownerKey := [1] } }, _, rfl, 4, trivial⟩,
   ⟨{ live with pending := [.ppsInputEdge], fw := { revoked := 4, ownerKey := [1] } }, _, rfl, 2, by decide +kernel⟩,
   ⟨{ live with pending := [.ppsInputEdge], fw := { revoked := 4, ownerKey := [1] } }, _, rfl, by decide +kernel⟩⟩

/-- What `Obligations.LifeCycleFollowsTable` assumes is met, clause by clause. -/
theorem witness_LifeCycleFollowsTable :
    (∃ s t : State, lifeSound s = true ∧ Machine.step s = .next t) ∧
    (∃ s t : State, lifeSound s = true ∧ Machine.step s = .next t ∧ s.alm.lcState = 4) :=
  ⟨⟨{ live with pending := [.ppsInputEdge] }, _, by decide +kernel, rfl⟩,
   ⟨{ live with pending := [.ppsInputEdge], alm := { live.alm with lcState := 4, lcTarget := 4 } }, _, by decide +kernel,
     rfl, by decide +kernel⟩⟩

/-- What `Obligations.LimitsStayInRange` assumes is met. -/
theorem witness_LimitsStayInRange :
    (∃ s t : State, limitsSound s = true ∧ Machine.step s = .next t) :=
  ⟨{ live with pending := [.ppsInputEdge] }, _, by decide +kernel, rfl⟩

/-- What `Obligations.StewardCommandsRefused` assumes is met, clause by clause. -/
theorem witness_StewardCommandsRefused :
    (∃ (s : State) (m : Meta) (sa : Nat) (prm : SaParams), recordsOn s sa = true ∧ tget s.cip.sas sa = none) ∧
    (∃ (i : Instr) (s : State) (m : Meta) (op : Nat), stewardOf i = some (m, op) ∧ cmdWaits s m op = true) ∧
    (∃ (i : Instr) (s u : State) (m : Meta) (op : Nat), stewardOf i = some (m, op) ∧ cmdWaits s m op = false ∧
      (∀ (sa : Nat) (prm : SaParams), i = .installSa m sa prm → recordsOn s sa = false ∨
      (tget s.cip.sas sa).isSome = true) ∧ (u = (if op = 0x0B01 then stampSnapshot s m else s)) ∧ issuerOk m = false) ∧
    (∃ (i : Instr) (s u : State) (m : Meta) (op : Nat), stewardOf i = some (m, op) ∧ cmdWaits s m op = false ∧
      (∀ (sa : Nat) (prm : SaParams), i = .installSa m sa prm → recordsOn s sa = false ∨
      (tget s.cip.sas sa).isSome = true) ∧ (u = (if op = 0x0B01 then stampSnapshot s m else s)) ∧ issuerOk m = true ∧
      opcodeOpen s m op = false) ∧
    (∃ (i : Instr) (s u : State) (m : Meta) (op : Nat), stewardOf i = some (m, op) ∧ cmdWaits s m op = false ∧
      (∀ (sa : Nat) (prm : SaParams), i = .installSa m sa prm → recordsOn s sa = false ∨
      (tget s.cip.sas sa).isSome = true) ∧ (u = (if op = 0x0B01 then stampSnapshot s m else s)) ∧ issuerOk m = true ∧
      opcodeOpen s m op = true ∧ s.stw.lcChange = true) ∧
    (∃ (i : Instr) (s u : State) (m : Meta) (op : Nat), stewardOf i = some (m, op) ∧ cmdWaits s m op = false ∧
      (∀ (sa : Nat) (prm : SaParams), i = .installSa m sa prm → recordsOn s sa = false ∨
      (tget s.cip.sas sa).isSome = true) ∧ (u = (if op = 0x0B01 then stampSnapshot s m else s)) ∧ issuerOk m = true ∧
      opcodeOpen s m op = true ∧ s.stw.lcChange = true) ∧
    (∃ (i : Instr) (s u : State) (m : Meta) (op : Nat), stewardOf i = some (m, op) ∧ cmdWaits s m op = false ∧
      (∀ (sa : Nat) (prm : SaParams), i = .installSa m sa prm → recordsOn s sa = false ∨
      (tget s.cip.sas sa).isSome = true) ∧ (u = (if op = 0x0B01 then stampSnapshot s m else s)) ∧ issuerOk m = true ∧
      opcodeOpen s m op = true ∧ s.stw.lcChange = true) :=
  ⟨⟨{ live with cip := { live.cip with sas := [], records := [({ id := 5, lane := 31, p := 0, c := 0, fid := 2, sa := 9, saSnap := sa9, seq := 1, off := 0, aad := 8, payload := 240, decrypt := false, hold := false, dun := 0, dst := 2, poison := false } : Rec)] } },
     mg, 9,
     ({ owner := 2, dir := 0, mode := 1, esn := false, mirrored := false, replayWindow := 64, seq := 1, unitLog2 := 9, key := List.replicate 32 7, activate := true } : SaParams),
     by decide +kernel, by first | decide +kernel | rfl⟩,
   ⟨.readIdentity mg, { live with stw := {} }, mg, 0x0101, by first | decide +kernel | rfl, by decide +kernel⟩,
   ⟨.readIdentity ⟨.admin, 5, 1, false⟩, live, _, ⟨.admin, 5, 1, false⟩, 0x0101, by first | decide +kernel | rfl,
     by decide +kernel, (fun _ _ h => by cases h), by first | decide +kernel | rfl, by decide +kernel⟩,
   ⟨.flip ⟨.svc, 0, 1, false⟩, live, _, ⟨.svc, 0, 1, false⟩, 0x0111, by first | decide +kernel | rfl, by decide +kernel,
     (fun _ _ h => by cases h), by first | decide +kernel | rfl, by decide +kernel⟩,
   ⟨.readIdentity mg, { live with stw := { live.stw with lcChange := true } }, _, mg, 0x0101,
     by first | decide +kernel | rfl, by decide +kernel, (fun _ _ h => by cases h), by first | decide +kernel | rfl,
     by decide +kernel⟩,
   ⟨.changeLifeCycleState mg 2 [], { live with stw := { live.stw with lcChange := true } }, _, mg, 0x0A05,
     by first | decide +kernel | rfl, by decide +kernel, (fun _ _ h => by cases h), by first | decide +kernel | rfl,
     by decide +kernel⟩,
   ⟨.snapshotCounters mg 2, { live with stw := { live.stw with lcChange := true } },
     stampSnapshot ({ live with stw := { live.stw with lcChange := true } }) mg, mg, 0x0B01,
     by first | decide +kernel | rfl, by decide +kernel, (fun _ _ h => by cases h), by first | decide +kernel | rfl,
     by decide +kernel⟩⟩

/-- What `Obligations.OnlyTheManagerCommands` assumes is met. -/
theorem witness_OnlyTheManagerCommands :
    (∃ (i : Instr) (s : State) (m : Meta) (op : Nat), stewardOf i = some (m, op) ∧ (m.path = .mailbox ∧ issuerOk m = true ∧
      cmdWaits s m op = false ∧ op ∉ [0x0101, 0x0309, 0x0904, 0x0B01]) ∧ (∀ (sa : Nat) (prm : SaParams),
      i = .installSa m sa prm → recordsOn s sa = false ∨ (tget s.cip.sas sa).isSome = true)) :=
  ⟨.flip ⟨.mailbox, 2, 1, false⟩, live, ⟨.mailbox, 2, 1, false⟩, 0x0111, by first | decide +kernel | rfl, by decide +kernel,
    (fun _ _ h => by cases h)⟩

/-- What `Obligations.DestroyNeedsStopped` assumes is met, clause by clause. -/
theorem witness_DestroyNeedsStopped :
    (∃ (s b : State) (m : Meta) (type ring : Nat), Starts s b m 0x0304 [.ring type ring] false ∧ ring < 16384 ∧ ∃ r,
      type = 1 ∧ ringOf b false ring = some r ∧ r.st ≠ .stopped) ∧
    (∃ (s b : State) (m : Meta) (type ring : Nat), Starts s b m 0x0304 [.ring type ring] false ∧ ring < 16384 ∧ ∃ r,
      type = 2 ∧ ringOf b true ring = some r ∧ r.st ≠ .stopped) ∧
    (∃ (s b : State) (m : Meta) (type ring : Nat), Starts s b m 0x0304 [.ring type ring] false ∧ ring < 16384 ∧ ∃ c,
      type = 3 ∧ cqOf b ring = some c ∧ c.st ≠ .stopped) :=
  ⟨⟨live, began live mg 0x0304, mg, 1, 5, ⟨by decide +kernel, rfl⟩, by decide +kernel, txRing,
     by first | decide +kernel | rfl, by first | decide +kernel | rfl, by decide +kernel⟩,
   ⟨live, began live mg 0x0304, mg, 2, 6, ⟨by decide +kernel, rfl⟩, by decide +kernel, rxRing,
     by first | decide +kernel | rfl, by first | decide +kernel | rfl, by decide +kernel⟩,
   ⟨live, began live mg 0x0304, mg, 3, 7, ⟨by decide +kernel, rfl⟩, by decide +kernel, cqRing,
     by first | decide +kernel | rfl, by first | decide +kernel | rfl, by decide +kernel⟩⟩

/-- What `Obligations.MisshapenRingRefused` assumes is met, clause by clause. -/
theorem witness_MisshapenRingRefused :
    (∃ (s : State) (m : Meta) (fid window base sizeLog2 cq pipeline program weight burst : Nat),
      cmdWaits s m 0x0301 = false ∧ issuerOk m = true ∧ opcodeOpen s m 0x0301 = true ∧ (sizeLog2 < 6 ∨ 16 < sizeLog2 ∨
      base % min (2 ^ sizeLog2 * 32) 4096 ≠ 0)) ∧
    (∃ (s : State) (m : Meta) (fid window base sizeLog2 cq : Nat) (ts : Bool), cmdWaits s m 0x0302 = false ∧
      issuerOk m = true ∧ opcodeOpen s m 0x0302 = true ∧ (sizeLog2 < 6 ∨ 16 < sizeLog2 ∨
      base % min (2 ^ sizeLog2 * 32) 4096 ≠ 0)) ∧
    (∃ (s : State) (m : Meta) (fid window base sizeLog2 ctrAddr msix : Nat), cmdWaits s m 0x0303 = false ∧
      issuerOk m = true ∧ opcodeOpen s m 0x0303 = true ∧ (sizeLog2 < 6 ∨ 16 < sizeLog2 ∨
      base % min (2 ^ sizeLog2 * 16) 4096 ≠ 0 ∨ ctrAddr % 4 ≠ 0)) :=
  ⟨⟨live, mg, 2, 9, 0, 17, 7, 0, 0, 1, 1, by decide +kernel⟩,
   ⟨live, mg, 2, 9, 32, 6, 7, false, by decide +kernel⟩,
   ⟨live, mg, 2, 9, 0, 6, 2, 0, by decide +kernel⟩⟩

/-- What `Obligations.NamedTableIsKept` assumes is met. -/
theorem witness_NamedTableIsKept :
    (∃ (s b : State) (m : Meta) (table : Nat), Starts s b m 0x0502 [.table table] true ∧ (table < 16 ∧
      (tget b.fwt.tables table).isSome = true) ∧ (bankNames b.seq.bankA table = true ∨ bankNames b.seq.bankB table = true ∨
      ∃ p ∈ [0, 1, 2, 3], ∃ e ∈ (fpOf b p).locks, e.1 / 2 ^ 23 = table)) :=
  ⟨{ live with fwt := { live.fwt with p3 := { locks := [(bktKey 1 5, ⟨2, 0⟩)] } } },
    began ({ live with fwt := { live.fwt with p3 := { locks := [(bktKey 1 5, ⟨2, 0⟩)] } } }) mg 0x0502, mg, 1,
    ⟨by decide +kernel, rfl⟩, by decide +kernel, Or.inr (Or.inr ⟨3, by decide, (bktKey 1 5, ⟨2, 0⟩), by decide +kernel,
    by decide +kernel⟩)⟩

/-- What `Obligations.ConsumerWriteMovesC` assumes is met, clause by clause. -/
theorem witness_ConsumerWriteMovesC :
    (∃ (s : State) (fid w n : Nat) (v : W32) (c : CqRing), (memReach s fid = true ∧ isFrozen s fid = false ∧
      w < windowsOf fid) ∧ atWindow s fid w = some (.cq n c) ∧ ((c.pc - v).toNat ≤ (c.pc - c.c).toNat ∧
      (c.pc - v).toNat ≤ 2 ^ c.sizeLog2)) ∧
    (∃ (s : State) (fid w n : Nat) (v : W32) (c : CqRing), (memReach s fid = true ∧ isFrozen s fid = false ∧
      w < windowsOf fid) ∧ atWindow s fid w = some (.cq n c) ∧ (¬ ((c.pc - v).toNat ≤ (c.pc - c.c).toNat ∧
      (c.pc - v).toNat ≤ 2 ^ c.sizeLog2))) :=
  ⟨⟨{ live with qm := { live.qm with cq := [(7, ({ cqRing with pc := 1, c := 0xFFFFFFFE } : CqRing))] } }, 2, 7, 7, 1,
     ({ cqRing with pc := 1, c := 0xFFFFFFFE } : CqRing), by decide +kernel, by first | decide +kernel | rfl,
     by decide +kernel⟩,
   ⟨{ live with qm := { live.qm with cq := [(7, ({ cqRing with pc := 1, c := 0xFFFFFFFE } : CqRing))] } }, 2, 7, 7, 2,
     ({ cqRing with pc := 1, c := 0xFFFFFFFE } : CqRing), by decide +kernel, by first | decide +kernel | rfl,
     by decide +kernel⟩⟩

/-- What `Obligations.MailboxRateHolds` assumes is met, clause by clause. -/
theorem witness_MailboxRateHolds :
    (∃ (s : State) (fid used : Nat), (mbxReach s fid = true ∧ isFrozen s fid = false) ∧
      (used = (if (fnOf s fid).mbx.window = timeNow s / 1000000 then (fnOf s fid).mbx.count else 0)) ∧
      (fnOf s fid).mbxPerMs ≤ used) ∧
    (∃ (s : State) (fid used : Nat), (mbxReach s fid = true ∧ isFrozen s fid = false) ∧
      (used = (if (fnOf s fid).mbx.window = timeNow s / 1000000 then (fnOf s fid).mbx.count else 0)) ∧
      used < (fnOf s fid).mbxPerMs ∧ (fnOf s fid).mbx.st ≠ 1) :=
  ⟨⟨{ live with fns := [(2, { fnFull with mbxPerMs := 1, mbx := { window := 1, count := 1 } })], mac := { live.mac with timeNs := 1000000 } },
     2, 1, by decide +kernel, by first | decide +kernel | rfl, by decide +kernel⟩,
   ⟨live, 2, 0, by decide +kernel, by first | decide +kernel | rfl, by decide +kernel⟩⟩

/-- What `Obligations.FrozenFunctionGetsNothing` assumes is met, clause by clause. -/
theorem witness_FrozenFunctionGetsNothing :
    (∃ (s : State) (p c : Nat) (x : StepIn) (i : Instr), isFrozen s (bits 11 0 x.bv) = true ∧ ((Issues s p c 8 1 x ∧
      i = .grnFree p c) ∨ (Issues s p c 10 0 x ∧ i = .dmawDeliver p c) ∨ (Issues s p c 13 0 x ∧ i = .haulStart p c))) ∧
    (∃ (s : State) (p c : Nat) (x : StepIn) (i : Instr), isFrozen s (bits 11 0 x.bv) = true ∧ ((Issues s p c 8 1 x ∧
      i = .grnFree p c) ∨ (Issues s p c 10 0 x ∧ i = .dmawDeliver p c) ∨ (Issues s p c 13 0 x ∧ i = .haulStart p c))) ∧
    (∃ (s : State) (p c : Nat) (x : StepIn) (i : Instr), isFrozen s (bits 11 0 x.bv) = true ∧ ((Issues s p c 8 1 x ∧
      i = .grnFree p c) ∨ (Issues s p c 10 0 x ∧ i = .dmawDeliver p c) ∨ (Issues s p c 13 0 x ∧ i = .haulStart p c))) ∧
    (∃ (s : State) (p c : Nat) (x : StepIn) (i : Instr), isFrozen s (bits 43 32 x.bv) = true ∧ ((Issues s p c 4 0 x ∧
      i = .lkpHotLookup p c) ∨ (Issues s p c 5 0 x ∧ i = .lkpRldLookup p c) ∨ (Issues s p c 6 0 x ∧ i = .fwtLearn p c) ∨
      (Issues s p c 6 1 x ∧ i = .fwtRefresh p c) ∨ (Issues s p c 6 2 x ∧ i = .fwtWriteFlow p c))) ∧
    (∃ (s : State) (p c : Nat) (x : StepIn) (i : Instr), isFrozen s (bits 43 32 x.bv) = true ∧ ((Issues s p c 4 0 x ∧
      i = .lkpHotLookup p c) ∨ (Issues s p c 5 0 x ∧ i = .lkpRldLookup p c) ∨ (Issues s p c 6 0 x ∧ i = .fwtLearn p c) ∨
      (Issues s p c 6 1 x ∧ i = .fwtRefresh p c) ∨ (Issues s p c 6 2 x ∧ i = .fwtWriteFlow p c))) ∧
    (∃ (s : State) (p c : Nat) (x : StepIn) (i : Instr), isFrozen s (bits 43 32 x.bv) = true ∧ ((Issues s p c 4 0 x ∧
      i = .lkpHotLookup p c) ∨ (Issues s p c 5 0 x ∧ i = .lkpRldLookup p c) ∨ (Issues s p c 6 0 x ∧ i = .fwtLearn p c) ∨
      (Issues s p c 6 1 x ∧ i = .fwtRefresh p c) ∨ (Issues s p c 6 2 x ∧ i = .fwtWriteFlow p c))) ∧
    (∃ (s : State) (p c : Nat) (x : StepIn) (i : Instr), isFrozen s (bits 43 32 x.bv) = true ∧ ((Issues s p c 4 0 x ∧
      i = .lkpHotLookup p c) ∨ (Issues s p c 5 0 x ∧ i = .lkpRldLookup p c) ∨ (Issues s p c 6 0 x ∧ i = .fwtLearn p c) ∨
      (Issues s p c 6 1 x ∧ i = .fwtRefresh p c) ∨ (Issues s p c 6 2 x ∧ i = .fwtWriteFlow p c))) ∧
    (∃ (s : State) (p c : Nat) (x : StepIn) (i : Instr), isFrozen s (bits 43 32 x.bv) = true ∧ ((Issues s p c 4 0 x ∧
      i = .lkpHotLookup p c) ∨ (Issues s p c 5 0 x ∧ i = .lkpRldLookup p c) ∨ (Issues s p c 6 0 x ∧ i = .fwtLearn p c) ∨
      (Issues s p c 6 1 x ∧ i = .fwtRefresh p c) ∨ (Issues s p c 6 2 x ∧ i = .fwtWriteFlow p c))) ∧
    (∃ (s : State) (p c : Nat) (x : StepIn), isFrozen s (bits 43 32 x.av) = true ∧ Issues s p c 7 0 x) ∧
    (∃ (s : State) (p c : Nat) (x : StepIn), isFrozen s (bits 51 40 x.bv) = true ∧ Issues s p c 11 0 x) ∧
    (∃ (s : State) (p c : Nat) (x : StepIn) (i : Instr), isFrozen s (bits 35 24 (x.k.val 26)) = true ∧
      ((Issues s p c 12 0 x ∧ i = .xmitClass p c) ∨ (Issues s p c 12 1 x ∧ i = .xmitLoop p c) ∨ (Issues s p c 12 2 x ∧
      i = .xmitMirror p c))) ∧
    (∃ (s : State) (p c : Nat) (x : StepIn) (i : Instr), isFrozen s (bits 35 24 (x.k.val 26)) = true ∧
      ((Issues s p c 12 0 x ∧ i = .xmitClass p c) ∨ (Issues s p c 12 1 x ∧ i = .xmitLoop p c) ∨ (Issues s p c 12 2 x ∧
      i = .xmitMirror p c))) ∧
    (∃ (s : State) (p c : Nat) (x : StepIn) (i : Instr), isFrozen s (bits 35 24 (x.k.val 26)) = true ∧
      ((Issues s p c 12 0 x ∧ i = .xmitClass p c) ∨ (Issues s p c 12 1 x ∧ i = .xmitLoop p c) ∨ (Issues s p c 12 2 x ∧
      i = .xmitMirror p c))) ∧
    (∃ (s : State) (p c : Nat) (x : StepIn), isFrozen s (bits 11 0 x.bv) = true ∧ Issues s p c 8 0 x) ∧
    (∃ (s : State) (p c : Nat) (x : StepIn), isFrozen s (recOp x).fid = true ∧ Issues s p c 9 0 x) ∧
    (∃ (s : State) (p c : Nat) (x : StepIn), isFrozen s (bits 11 0 x.bv) = true ∧ Issues s p c 15 0 x) :=
  ⟨⟨{ (stepping (stepWord 8 1 0xFF 0 1 (0)) (5) (2)) with fns := [(0, fnFull), (2, { fnFull with frozen := true })] }, 0, 0,
     stepIn ({ (stepping (stepWord 8 1 0xFF 0 1 (0)) (5) (2)) with fns := [(0, fnFull), (2, { fnFull with frozen := true })] }) 0 0 (stepPkt (5) (2)),
     .grnFree 0 0, by decide +kernel, Or.inl ⟨⟨stepPkt (5) (2), by decide +kernel, by decide +kernel, rfl,
     by decide +kernel, by decide +kernel⟩, rfl⟩⟩,
   ⟨{ (stepping (stepWord 10 0 0xFF 0 1 (0)) (5) (2)) with fns := [(0, fnFull), (2, { fnFull with frozen := true })] }, 0,
     0,
     stepIn ({ (stepping (stepWord 10 0 0xFF 0 1 (0)) (5) (2)) with fns := [(0, fnFull), (2, { fnFull with frozen := true })] }) 0 0 (stepPkt (5) (2)),
     .dmawDeliver 0 0, by decide +kernel, Or.inr (Or.inl ⟨⟨stepPkt (5) (2), by decide +kernel, by decide +kernel, rfl,
     by decide +kernel, by decide +kernel⟩, rfl⟩)⟩,
   ⟨{ (stepping (stepWord 13 0 0xFF 0 1 (0)) (5) (2)) with fns := [(0, fnFull), (2, { fnFull with frozen := true })] }, 0,
     0,
     stepIn ({ (stepping (stepWord 13 0 0xFF 0 1 (0)) (5) (2)) with fns := [(0, fnFull), (2, { fnFull with frozen := true })] }) 0 0 (stepPkt (5) (2)),
     .haulStart 0 0, by decide +kernel, Or.inr (Or.inr (⟨⟨stepPkt (5) (2), by decide +kernel, by decide +kernel, rfl,
     by decide +kernel, by decide +kernel⟩, rfl⟩))⟩,
   ⟨{ (stepping (stepWord 4 0 2 0 1 (0)) (5) (5 + 2 * 2 ^ 32)) with fns := [(0, fnFull), (2, { fnFull with frozen := true })] },
     0, 0,
     stepIn ({ (stepping (stepWord 4 0 2 0 1 (0)) (5) (5 + 2 * 2 ^ 32)) with fns := [(0, fnFull), (2, { fnFull with frozen := true })] }) 0 0 (stepPkt (5) (5 + 2 * 2 ^ 32)),
     .lkpHotLookup 0 0, by decide +kernel, Or.inl ⟨⟨stepPkt (5) (5 + 2 * 2 ^ 32), by decide +kernel, by decide +kernel, rfl,
     by decide +kernel, by decide +kernel⟩, rfl⟩⟩,
   ⟨{ (stepping (stepWord 5 0 2 0 1 (0)) (5) (5 + 2 * 2 ^ 32)) with fns := [(0, fnFull), (2, { fnFull with frozen := true })] },
     0, 0,
     stepIn ({ (stepping (stepWord 5 0 2 0 1 (0)) (5) (5 + 2 * 2 ^ 32)) with fns := [(0, fnFull), (2, { fnFull with frozen := true })] }) 0 0 (stepPkt (5) (5 + 2 * 2 ^ 32)),
     .lkpRldLookup 0 0, by decide +kernel, Or.inr (Or.inl ⟨⟨stepPkt (5) (5 + 2 * 2 ^ 32), by decide +kernel,
     by decide +kernel, rfl, by decide +kernel, by decide +kernel⟩, rfl⟩)⟩,
   ⟨{ (stepping (stepWord 6 0 2 0 1 (0)) (5) (5 + 2 * 2 ^ 32)) with fns := [(0, fnFull), (2, { fnFull with frozen := true })] },
     0, 0,
     stepIn ({ (stepping (stepWord 6 0 2 0 1 (0)) (5) (5 + 2 * 2 ^ 32)) with fns := [(0, fnFull), (2, { fnFull with frozen := true })] }) 0 0 (stepPkt (5) (5 + 2 * 2 ^ 32)),
     .fwtLearn 0 0, by decide +kernel, Or.inr (Or.inr (Or.inl ⟨⟨stepPkt (5) (5 + 2 * 2 ^ 32), by decide +kernel,
     by decide +kernel, rfl, by decide +kernel, by decide +kernel⟩, rfl⟩))⟩,
   ⟨{ (stepping (stepWord 6 1 2 0 1 (0)) (5) (5 + 2 * 2 ^ 32)) with fns := [(0, fnFull), (2, { fnFull with frozen := true })] },
     0, 0,
     stepIn ({ (stepping (stepWord 6 1 2 0 1 (0)) (5) (5 + 2 * 2 ^ 32)) with fns := [(0, fnFull), (2, { fnFull with frozen := true })] }) 0 0 (stepPkt (5) (5 + 2 * 2 ^ 32)),
     .fwtRefresh 0 0, by decide +kernel, Or.inr (Or.inr (Or.inr (Or.inl ⟨⟨stepPkt (5) (5 + 2 * 2 ^ 32), by decide +kernel,
     by decide +kernel, rfl, by decide +kernel, by decide +kernel⟩, rfl⟩)))⟩,
   ⟨{ (stepping (stepWord 6 2 2 0 1 (0)) (5) (5 + 2 * 2 ^ 32)) with fns := [(0, fnFull), (2, { fnFull with frozen := true })] },
     0, 0,
     stepIn ({ (stepping (stepWord 6 2 2 0 1 (0)) (5) (5 + 2 * 2 ^ 32)) with fns := [(0, fnFull), (2, { fnFull with frozen := true })] }) 0 0 (stepPkt (5) (5 + 2 * 2 ^ 32)),
     .fwtWriteFlow 0 0, by decide +kernel, Or.inr (Or.inr (Or.inr (Or.inr (⟨⟨stepPkt (5) (5 + 2 * 2 ^ 32),
     by decide +kernel, by decide +kernel, rfl, by decide +kernel, by decide +kernel⟩, rfl⟩))))⟩,
   ⟨{ (stepping (stepWord 7 0 2 0 1 (0)) (5 + 2 * 2 ^ 32) (2)) with fns := [(0, fnFull), (2, { fnFull with frozen := true })] },
     0, 0,
     stepIn ({ (stepping (stepWord 7 0 2 0 1 (0)) (5 + 2 * 2 ^ 32) (2)) with fns := [(0, fnFull), (2, { fnFull with frozen := true })] }) 0 0 (stepPkt (5 + 2 * 2 ^ 32) (2)),
     by decide +kernel, ⟨stepPkt (5 + 2 * 2 ^ 32) (2), by decide +kernel, by decide +kernel, rfl, by decide +kernel,
     by decide +kernel⟩⟩,
   ⟨{ (stepping (stepWord 11 0 2 0 1 (0)) (5) (2 * 2 ^ 40)) with fns := [(0, fnFull), (2, { fnFull with frozen := true })] },
     0, 0,
     stepIn ({ (stepping (stepWord 11 0 2 0 1 (0)) (5) (2 * 2 ^ 40)) with fns := [(0, fnFull), (2, { fnFull with frozen := true })] }) 0 0 (stepPkt (5) (2 * 2 ^ 40)),
     by decide +kernel, ⟨stepPkt (5) (2 * 2 ^ 40), by decide +kernel, by decide +kernel, rfl, by decide +kernel,
     by decide +kernel⟩⟩,
   ⟨{ (stepping (stepWord 12 0 2 0 1 (0)) (5) (2)) with fns := [(0, fnFull), (2, { fnFull with frozen := true })] }, 0, 0,
     stepIn ({ (stepping (stepWord 12 0 2 0 1 (0)) (5) (2)) with fns := [(0, fnFull), (2, { fnFull with frozen := true })] }) 0 0 (stepPkt (5) (2)),
     .xmitClass 0 0, by decide +kernel, Or.inl ⟨⟨stepPkt (5) (2), by decide +kernel, by decide +kernel, rfl,
     by decide +kernel, by decide +kernel⟩, rfl⟩⟩,
   ⟨{ (stepping (stepWord 12 1 2 0 1 (0)) (5) (2)) with fns := [(0, fnFull), (2, { fnFull with frozen := true })] }, 0, 0,
     stepIn ({ (stepping (stepWord 12 1 2 0 1 (0)) (5) (2)) with fns := [(0, fnFull), (2, { fnFull with frozen := true })] }) 0 0 (stepPkt (5) (2)),
     .xmitLoop 0 0, by decide +kernel, Or.inr (Or.inl ⟨⟨stepPkt (5) (2), by decide +kernel, by decide +kernel, rfl,
     by decide +kernel, by decide +kernel⟩, rfl⟩)⟩,
   ⟨{ (stepping (stepWord 12 2 2 0 1 (0)) (5) (2)) with fns := [(0, fnFull), (2, { fnFull with frozen := true })] }, 0, 0,
     stepIn ({ (stepping (stepWord 12 2 2 0 1 (0)) (5) (2)) with fns := [(0, fnFull), (2, { fnFull with frozen := true })] }) 0 0 (stepPkt (5) (2)),
     .xmitMirror 0 0, by decide +kernel, Or.inr (Or.inr (⟨⟨stepPkt (5) (2), by decide +kernel, by decide +kernel, rfl,
     by decide +kernel, by decide +kernel⟩, rfl⟩))⟩,
   ⟨{ (stepping (stepWord 8 0 2 0 1 (0)) (5) (2)) with fns := [(0, fnFull), (2, { fnFull with frozen := true })] }, 0, 0,
     stepIn ({ (stepping (stepWord 8 0 2 0 1 (0)) (5) (2)) with fns := [(0, fnFull), (2, { fnFull with frozen := true })] }) 0 0 (stepPkt (5) (2)),
     by decide +kernel, ⟨stepPkt (5) (2), by decide +kernel, by decide +kernel, rfl, by decide +kernel, by decide +kernel⟩⟩,
   ⟨{ (stepping (stepWord 9 0 2 0 1 (0)) (5) (5 + 2 * 2 ^ 32)) with fns := [(0, fnFull), (2, { fnFull with frozen := true })] },
     0, 0,
     stepIn ({ (stepping (stepWord 9 0 2 0 1 (0)) (5) (5 + 2 * 2 ^ 32)) with fns := [(0, fnFull), (2, { fnFull with frozen := true })] }) 0 0 (stepPkt (5) (5 + 2 * 2 ^ 32)),
     by decide +kernel, ⟨stepPkt (5) (5 + 2 * 2 ^ 32), by decide +kernel, by decide +kernel, rfl, by decide +kernel,
     by decide +kernel⟩⟩,
   ⟨{ (stepping (stepWord 15 0 2 0 1 (0)) (5) (2)) with fns := [(0, fnFull), (2, { fnFull with frozen := true })] }, 0, 0,
     stepIn ({ (stepping (stepWord 15 0 2 0 1 (0)) (5) (2)) with fns := [(0, fnFull), (2, { fnFull with frozen := true })] }) 0 0 (stepPkt (5) (2)),
     by decide +kernel, ⟨stepPkt (5) (2), by decide +kernel, by decide +kernel, rfl, by decide +kernel, by decide +kernel⟩⟩⟩

/-- What `Obligations.PoisonedOperandIsRefused` assumes is met, clause by clause. -/
theorem witness_PoisonedOperandIsRefused :
    (∃ (s : State) (p c : Nat) (x : StepIn) (i : Instr), (x.w.poisonOk = false ∧ (x.a.p || x.bOrImm.p) = true) ∧
      ((Issues s p c 1 1 x ∧ i = .aluAdd p c) ∨ (Issues s p c 1 2 x ∧ i = .aluSub p c) ∨ (Issues s p c 1 3 x ∧
      i = .aluAnd p c) ∨ (Issues s p c 1 4 x ∧ i = .aluOr p c) ∨ (Issues s p c 1 5 x ∧ i = .aluXor p c) ∨
      (Issues s p c 1 7 x ∧ i = .aluCmpEq p c) ∨ (Issues s p c 1 8 x ∧ i = .aluCmpLt p c))) ∧
    (∃ (s : State) (p c : Nat) (x : StepIn) (i : Instr), (x.w.poisonOk = false ∧ (x.a.p || x.bOrImm.p) = true) ∧
      ((Issues s p c 1 1 x ∧ i = .aluAdd p c) ∨ (Issues s p c 1 2 x ∧ i = .aluSub p c) ∨ (Issues s p c 1 3 x ∧
      i = .aluAnd p c) ∨ (Issues s p c 1 4 x ∧ i = .aluOr p c) ∨ (Issues s p c 1 5 x ∧ i = .aluXor p c) ∨
      (Issues s p c 1 7 x ∧ i = .aluCmpEq p c) ∨ (Issues s p c 1 8 x ∧ i = .aluCmpLt p c))) ∧
    (∃ (s : State) (p c : Nat) (x : StepIn) (i : Instr), (x.w.poisonOk = false ∧ (x.a.p || x.bOrImm.p) = true) ∧
      ((Issues s p c 1 1 x ∧ i = .aluAdd p c) ∨ (Issues s p c 1 2 x ∧ i = .aluSub p c) ∨ (Issues s p c 1 3 x ∧
      i = .aluAnd p c) ∨ (Issues s p c 1 4 x ∧ i = .aluOr p c) ∨ (Issues s p c 1 5 x ∧ i = .aluXor p c) ∨
      (Issues s p c 1 7 x ∧ i = .aluCmpEq p c) ∨ (Issues s p c 1 8 x ∧ i = .aluCmpLt p c))) ∧
    (∃ (s : State) (p c : Nat) (x : StepIn) (i : Instr), (x.w.poisonOk = false ∧ (x.a.p || x.bOrImm.p) = true) ∧
      ((Issues s p c 1 1 x ∧ i = .aluAdd p c) ∨ (Issues s p c 1 2 x ∧ i = .aluSub p c) ∨ (Issues s p c 1 3 x ∧
      i = .aluAnd p c) ∨ (Issues s p c 1 4 x ∧ i = .aluOr p c) ∨ (Issues s p c 1 5 x ∧ i = .aluXor p c) ∨
      (Issues s p c 1 7 x ∧ i = .aluCmpEq p c) ∨ (Issues s p c 1 8 x ∧ i = .aluCmpLt p c))) ∧
    (∃ (s : State) (p c : Nat) (x : StepIn) (i : Instr), (x.w.poisonOk = false ∧ (x.a.p || x.bOrImm.p) = true) ∧
      ((Issues s p c 1 1 x ∧ i = .aluAdd p c) ∨ (Issues s p c 1 2 x ∧ i = .aluSub p c) ∨ (Issues s p c 1 3 x ∧
      i = .aluAnd p c) ∨ (Issues s p c 1 4 x ∧ i = .aluOr p c) ∨ (Issues s p c 1 5 x ∧ i = .aluXor p c) ∨
      (Issues s p c 1 7 x ∧ i = .aluCmpEq p c) ∨ (Issues s p c 1 8 x ∧ i = .aluCmpLt p c))) ∧
    (∃ (s : State) (p c : Nat) (x : StepIn) (i : Instr), (x.w.poisonOk = false ∧ (x.a.p || x.bOrImm.p) = true) ∧
      ((Issues s p c 1 1 x ∧ i = .aluAdd p c) ∨ (Issues s p c 1 2 x ∧ i = .aluSub p c) ∨ (Issues s p c 1 3 x ∧
      i = .aluAnd p c) ∨ (Issues s p c 1 4 x ∧ i = .aluOr p c) ∨ (Issues s p c 1 5 x ∧ i = .aluXor p c) ∨
      (Issues s p c 1 7 x ∧ i = .aluCmpEq p c) ∨ (Issues s p c 1 8 x ∧ i = .aluCmpLt p c))) ∧
    (∃ (s : State) (p c : Nat) (x : StepIn) (i : Instr), (x.w.poisonOk = false ∧ (x.a.p || x.bOrImm.p) = true) ∧
      ((Issues s p c 1 1 x ∧ i = .aluAdd p c) ∨ (Issues s p c 1 2 x ∧ i = .aluSub p c) ∨ (Issues s p c 1 3 x ∧
      i = .aluAnd p c) ∨ (Issues s p c 1 4 x ∧ i = .aluOr p c) ∨ (Issues s p c 1 5 x ∧ i = .aluXor p c) ∨
      (Issues s p c 1 7 x ∧ i = .aluCmpEq p c) ∨ (Issues s p c 1 8 x ∧ i = .aluCmpLt p c))) ∧
    (∃ (s : State) (p c : Nat) (x : StepIn) (i : Instr), (x.w.poisonOk = false ∧ x.a.p = true) ∧ ((Issues s p c 1 0 x ∧
      i = .aluMove p c) ∨ (Issues s p c 1 6 x ∧ i = .aluShift p c) ∨ (Issues s p c 14 0 x ∧ i = .cntInc p c) ∨
      (Issues s p c 14 1 x ∧ i = .cntAdd p c))) ∧
    (∃ (s : State) (p c : Nat) (x : StepIn) (i : Instr), (x.w.poisonOk = false ∧ x.a.p = true) ∧ ((Issues s p c 1 0 x ∧
      i = .aluMove p c) ∨ (Issues s p c 1 6 x ∧ i = .aluShift p c) ∨ (Issues s p c 14 0 x ∧ i = .cntInc p c) ∨
      (Issues s p c 14 1 x ∧ i = .cntAdd p c))) ∧
    (∃ (s : State) (p c : Nat) (x : StepIn) (i : Instr), (x.w.poisonOk = false ∧ x.a.p = true) ∧ ((Issues s p c 1 0 x ∧
      i = .aluMove p c) ∨ (Issues s p c 1 6 x ∧ i = .aluShift p c) ∨ (Issues s p c 14 0 x ∧ i = .cntInc p c) ∨
      (Issues s p c 14 1 x ∧ i = .cntAdd p c))) ∧
    (∃ (s : State) (p c : Nat) (x : StepIn) (i : Instr), (x.w.poisonOk = false ∧ x.a.p = true) ∧ ((Issues s p c 1 0 x ∧
      i = .aluMove p c) ∨ (Issues s p c 1 6 x ∧ i = .aluShift p c) ∨ (Issues s p c 14 0 x ∧ i = .cntInc p c) ∨
      (Issues s p c 14 1 x ∧ i = .cntAdd p c))) ∧
    (∃ (s : State) (p c : Nat) (x : StepIn), (x.w.poisonOk = false ∧ hdrOk x = true) ∧ Issues s p c 1 0x10 x ∧
      anyPoison (slice (window s x.k) (hdrRange x).1 (hdrRange x).2) = true) ∧
    (∃ (s : State) (p c : Nat) (x : StepIn), x.w.poisonOk = false ∧ Issues s p c 1 0x11 x ∧ (x.a.p = true ∨
      (hdrOk x = true ∧ anyPoison (slice (window s x.k) (hdrRange x).1 (hdrRange x).2) = true))) ∧
    (∃ (s : State) (p c : Nat) (x : StepIn) (i : Instr), (x.w.poisonOk = false ∧
      wordsPoisoned x.k x.w.srcA ((bits 5 0 x.imm + 7) / 8) = true) ∧ ((Issues s p c 3 0 x ∧ i = .hashCrc32c p c) ∨
      (Issues s p c 3 1 x ∧ i = .hashCrc32 p c) ∨ (Issues s p c 3 2 x ∧ i = .hashToeplitz p c))) ∧
    (∃ (s : State) (p c : Nat) (x : StepIn) (i : Instr), (x.w.poisonOk = false ∧
      wordsPoisoned x.k x.w.srcA ((bits 5 0 x.imm + 7) / 8) = true) ∧ ((Issues s p c 3 0 x ∧ i = .hashCrc32c p c) ∨
      (Issues s p c 3 1 x ∧ i = .hashCrc32 p c) ∨ (Issues s p c 3 2 x ∧ i = .hashToeplitz p c))) ∧
    (∃ (s : State) (p c : Nat) (x : StepIn) (i : Instr), (x.w.poisonOk = false ∧
      wordsPoisoned x.k x.w.srcA ((bits 5 0 x.imm + 7) / 8) = true) ∧ ((Issues s p c 3 0 x ∧ i = .hashCrc32c p c) ∨
      (Issues s p c 3 1 x ∧ i = .hashCrc32 p c) ∨ (Issues s p c 3 2 x ∧ i = .hashToeplitz p c))) ∧
    (∃ (s : State) (p c : Nat) (x : StepIn) (i : Instr), (x.w.poisonOk = false ∧ (x.a.p || x.b.p) = true) ∧
      ((Issues s p c 8 1 x ∧ i = .grnFree p c ∧ isFrozen s (bits 11 0 x.bv) = false) ∨ (Issues s p c 11 0 x ∧
      i = .dmarRead p c ∧ isFrozen s (bits 51 40 x.bv) = false) ∨ (Issues s p c 13 0 x ∧ i = .haulStart p c ∧
      isFrozen s (bits 11 0 x.bv) = false) ∨ (Issues s p c 7 0 x ∧ i = .policeMeter p c ∧
      isFrozen s (bits 43 32 x.av) = false))) ∧
    (∃ (s : State) (p c : Nat) (x : StepIn) (i : Instr), (x.w.poisonOk = false ∧ (x.a.p || x.b.p) = true) ∧
      ((Issues s p c 8 1 x ∧ i = .grnFree p c ∧ isFrozen s (bits 11 0 x.bv) = false) ∨ (Issues s p c 11 0 x ∧
      i = .dmarRead p c ∧ isFrozen s (bits 51 40 x.bv) = false) ∨ (Issues s p c 13 0 x ∧ i = .haulStart p c ∧
      isFrozen s (bits 11 0 x.bv) = false) ∨ (Issues s p c 7 0 x ∧ i = .policeMeter p c ∧
      isFrozen s (bits 43 32 x.av) = false))) ∧
    (∃ (s : State) (p c : Nat) (x : StepIn) (i : Instr), (x.w.poisonOk = false ∧ (x.a.p || x.b.p) = true) ∧
      ((Issues s p c 8 1 x ∧ i = .grnFree p c ∧ isFrozen s (bits 11 0 x.bv) = false) ∨ (Issues s p c 11 0 x ∧
      i = .dmarRead p c ∧ isFrozen s (bits 51 40 x.bv) = false) ∨ (Issues s p c 13 0 x ∧ i = .haulStart p c ∧
      isFrozen s (bits 11 0 x.bv) = false) ∨ (Issues s p c 7 0 x ∧ i = .policeMeter p c ∧
      isFrozen s (bits 43 32 x.av) = false))) ∧
    (∃ (s : State) (p c : Nat) (x : StepIn) (i : Instr), (x.w.poisonOk = false ∧ (x.a.p || x.b.p) = true) ∧
      ((Issues s p c 8 1 x ∧ i = .grnFree p c ∧ isFrozen s (bits 11 0 x.bv) = false) ∨ (Issues s p c 11 0 x ∧
      i = .dmarRead p c ∧ isFrozen s (bits 51 40 x.bv) = false) ∨ (Issues s p c 13 0 x ∧ i = .haulStart p c ∧
      isFrozen s (bits 11 0 x.bv) = false) ∨ (Issues s p c 7 0 x ∧ i = .policeMeter p c ∧
      isFrozen s (bits 43 32 x.av) = false))) :=
  ⟨⟨{ (stepping (stepWord 1 1 2 0 1 (0)) (5) (2)) with seq := { (stepping (stepWord 1 1 2 0 1 (0)) (5) (2)).seq with pipe0 := { ctxs := [(0, ({ stepPkt 5 2 with words := (stepPkt 5 2).words.set 0 ⟨5, true⟩ } : Pkt))] } } },
     0, 0,
     stepIn ({ (stepping (stepWord 1 1 2 0 1 (0)) (5) (2)) with seq := { (stepping (stepWord 1 1 2 0 1 (0)) (5) (2)).seq with pipe0 := { ctxs := [(0, ({ stepPkt 5 2 with words := (stepPkt 5 2).words.set 0 ⟨5, true⟩ } : Pkt))] } } }) 0 0 (({ stepPkt 5 2 with words := (stepPkt 5 2).words.set 0 ⟨5, true⟩ } : Pkt)),
     .aluAdd 0 0, by decide +kernel, Or.inl ⟨⟨({ stepPkt 5 2 with words := (stepPkt 5 2).words.set 0 ⟨5, true⟩ } : Pkt),
     by decide +kernel, by decide +kernel, rfl, by decide +kernel, by decide +kernel⟩, rfl⟩⟩,
   ⟨{ (stepping (stepWord 1 2 2 0 1 (0)) (5) (2)) with seq := { (stepping (stepWord 1 2 2 0 1 (0)) (5) (2)).seq with pipe0 := { ctxs := [(0, ({ stepPkt 5 2 with words := (stepPkt 5 2).words.set 0 ⟨5, true⟩ } : Pkt))] } } },
     0, 0,
     stepIn ({ (stepping (stepWord 1 2 2 0 1 (0)) (5) (2)) with seq := { (stepping (stepWord 1 2 2 0 1 (0)) (5) (2)).seq with pipe0 := { ctxs := [(0, ({ stepPkt 5 2 with words := (stepPkt 5 2).words.set 0 ⟨5, true⟩ } : Pkt))] } } }) 0 0 (({ stepPkt 5 2 with words := (stepPkt 5 2).words.set 0 ⟨5, true⟩ } : Pkt)),
     .aluSub 0 0, by decide +kernel,
     Or.inr (Or.inl ⟨⟨({ stepPkt 5 2 with words := (stepPkt 5 2).words.set 0 ⟨5, true⟩ } : Pkt), by decide +kernel,
     by decide +kernel, rfl, by decide +kernel, by decide +kernel⟩, rfl⟩)⟩,
   ⟨{ (stepping (stepWord 1 3 2 0 1 (0)) (5) (2)) with seq := { (stepping (stepWord 1 3 2 0 1 (0)) (5) (2)).seq with pipe0 := { ctxs := [(0, ({ stepPkt 5 2 with words := (stepPkt 5 2).words.set 0 ⟨5, true⟩ } : Pkt))] } } },
     0, 0,
     stepIn ({ (stepping (stepWord 1 3 2 0 1 (0)) (5) (2)) with seq := { (stepping (stepWord 1 3 2 0 1 (0)) (5) (2)).seq with pipe0 := { ctxs := [(0, ({ stepPkt 5 2 with words := (stepPkt 5 2).words.set 0 ⟨5, true⟩ } : Pkt))] } } }) 0 0 (({ stepPkt 5 2 with words := (stepPkt 5 2).words.set 0 ⟨5, true⟩ } : Pkt)),
     .aluAnd 0 0, by decide +kernel,
     Or.inr (Or.inr (Or.inl ⟨⟨({ stepPkt 5 2 with words := (stepPkt 5 2).words.set 0 ⟨5, true⟩ } : Pkt), by decide +kernel,
     by decide +kernel, rfl, by decide +kernel, by decide +kernel⟩, rfl⟩))⟩,
   ⟨{ (stepping (stepWord 1 4 2 0 1 (0)) (5) (2)) with seq := { (stepping (stepWord 1 4 2 0 1 (0)) (5) (2)).seq with pipe0 := { ctxs := [(0, ({ stepPkt 5 2 with words := (stepPkt 5 2).words.set 0 ⟨5, true⟩ } : Pkt))] } } },
     0, 0,
     stepIn ({ (stepping (stepWord 1 4 2 0 1 (0)) (5) (2)) with seq := { (stepping (stepWord 1 4 2 0 1 (0)) (5) (2)).seq with pipe0 := { ctxs := [(0, ({ stepPkt 5 2 with words := (stepPkt 5 2).words.set 0 ⟨5, true⟩ } : Pkt))] } } }) 0 0 (({ stepPkt 5 2 with words := (stepPkt 5 2).words.set 0 ⟨5, true⟩ } : Pkt)),
     .aluOr 0 0, by decide +kernel,
     Or.inr (Or.inr (Or.inr (Or.inl ⟨⟨({ stepPkt 5 2 with words := (stepPkt 5 2).words.set 0 ⟨5, true⟩ } : Pkt),
     by decide +kernel, by decide +kernel, rfl, by decide +kernel, by decide +kernel⟩, rfl⟩)))⟩,
   ⟨{ (stepping (stepWord 1 5 2 0 1 (0)) (5) (2)) with seq := { (stepping (stepWord 1 5 2 0 1 (0)) (5) (2)).seq with pipe0 := { ctxs := [(0, ({ stepPkt 5 2 with words := (stepPkt 5 2).words.set 0 ⟨5, true⟩ } : Pkt))] } } },
     0, 0,
     stepIn ({ (stepping (stepWord 1 5 2 0 1 (0)) (5) (2)) with seq := { (stepping (stepWord 1 5 2 0 1 (0)) (5) (2)).seq with pipe0 := { ctxs := [(0, ({ stepPkt 5 2 with words := (stepPkt 5 2).words.set 0 ⟨5, true⟩ } : Pkt))] } } }) 0 0 (({ stepPkt 5 2 with words := (stepPkt 5 2).words.set 0 ⟨5, true⟩ } : Pkt)),
     .aluXor 0 0, by decide +kernel,
     Or.inr (Or.inr (Or.inr (Or.inr (Or.inl ⟨⟨({ stepPkt 5 2 with words := (stepPkt 5 2).words.set 0 ⟨5, true⟩ } : Pkt),
     by decide +kernel, by decide +kernel, rfl, by decide +kernel, by decide +kernel⟩, rfl⟩))))⟩,
   ⟨{ (stepping (stepWord 1 7 2 0 1 (0)) (5) (2)) with seq := { (stepping (stepWord 1 7 2 0 1 (0)) (5) (2)).seq with pipe0 := { ctxs := [(0, ({ stepPkt 5 2 with words := (stepPkt 5 2).words.set 0 ⟨5, true⟩ } : Pkt))] } } },
     0, 0,
     stepIn ({ (stepping (stepWord 1 7 2 0 1 (0)) (5) (2)) with seq := { (stepping (stepWord 1 7 2 0 1 (0)) (5) (2)).seq with pipe0 := { ctxs := [(0, ({ stepPkt 5 2 with words := (stepPkt 5 2).words.set 0 ⟨5, true⟩ } : Pkt))] } } }) 0 0 (({ stepPkt 5 2 with words := (stepPkt 5 2).words.set 0 ⟨5, true⟩ } : Pkt)),
     .aluCmpEq 0 0, by decide +kernel,
     Or.inr (Or.inr (Or.inr (Or.inr (Or.inr (Or.inl ⟨⟨({ stepPkt 5 2 with words := (stepPkt 5 2).words.set 0 ⟨5, true⟩ } : Pkt),
     by decide +kernel, by decide +kernel, rfl, by decide +kernel, by decide +kernel⟩, rfl⟩)))))⟩,
   ⟨{ (stepping (stepWord 1 8 2 0 1 (0)) (5) (2)) with seq := { (stepping (stepWord 1 8 2 0 1 (0)) (5) (2)).seq with pipe0 := { ctxs := [(0, ({ stepPkt 5 2 with words := (stepPkt 5 2).words.set 0 ⟨5, true⟩ } : Pkt))] } } },
     0, 0,
     stepIn ({ (stepping (stepWord 1 8 2 0 1 (0)) (5) (2)) with seq := { (stepping (stepWord 1 8 2 0 1 (0)) (5) (2)).seq with pipe0 := { ctxs := [(0, ({ stepPkt 5 2 with words := (stepPkt 5 2).words.set 0 ⟨5, true⟩ } : Pkt))] } } }) 0 0 (({ stepPkt 5 2 with words := (stepPkt 5 2).words.set 0 ⟨5, true⟩ } : Pkt)),
     .aluCmpLt 0 0, by decide +kernel,
     Or.inr (Or.inr (Or.inr (Or.inr (Or.inr (Or.inr (⟨⟨({ stepPkt 5 2 with words := (stepPkt 5 2).words.set 0 ⟨5, true⟩ } : Pkt),
     by decide +kernel, by decide +kernel, rfl, by decide +kernel, by decide +kernel⟩, rfl⟩))))))⟩,
   ⟨{ (stepping (stepWord 1 0 2 0 1 (0)) (5) (2)) with seq := { (stepping (stepWord 1 0 2 0 1 (0)) (5) (2)).seq with pipe0 := { ctxs := [(0, ({ stepPkt 5 2 with words := (stepPkt 5 2).words.set 0 ⟨5, true⟩ } : Pkt))] } } },
     0, 0,
     stepIn ({ (stepping (stepWord 1 0 2 0 1 (0)) (5) (2)) with seq := { (stepping (stepWord 1 0 2 0 1 (0)) (5) (2)).seq with pipe0 := { ctxs := [(0, ({ stepPkt 5 2 with words := (stepPkt 5 2).words.set 0 ⟨5, true⟩ } : Pkt))] } } }) 0 0 (({ stepPkt 5 2 with words := (stepPkt 5 2).words.set 0 ⟨5, true⟩ } : Pkt)),
     .aluMove 0 0, by decide +kernel, Or.inl ⟨⟨({ stepPkt 5 2 with words := (stepPkt 5 2).words.set 0 ⟨5, true⟩ } : Pkt),
     by decide +kernel, by decide +kernel, rfl, by decide +kernel, by decide +kernel⟩, rfl⟩⟩,
   ⟨{ (stepping (stepWord 1 6 2 0 1 (0)) (5) (2)) with seq := { (stepping (stepWord 1 6 2 0 1 (0)) (5) (2)).seq with pipe0 := { ctxs := [(0, ({ stepPkt 5 2 with words := (stepPkt 5 2).words.set 0 ⟨5, true⟩ } : Pkt))] } } },
     0, 0,
     stepIn ({ (stepping (stepWord 1 6 2 0 1 (0)) (5) (2)) with seq := { (stepping (stepWord 1 6 2 0 1 (0)) (5) (2)).seq with pipe0 := { ctxs := [(0, ({ stepPkt 5 2 with words := (stepPkt 5 2).words.set 0 ⟨5, true⟩ } : Pkt))] } } }) 0 0 (({ stepPkt 5 2 with words := (stepPkt 5 2).words.set 0 ⟨5, true⟩ } : Pkt)),
     .aluShift 0 0, by decide +kernel,
     Or.inr (Or.inl ⟨⟨({ stepPkt 5 2 with words := (stepPkt 5 2).words.set 0 ⟨5, true⟩ } : Pkt), by decide +kernel,
     by decide +kernel, rfl, by decide +kernel, by decide +kernel⟩, rfl⟩)⟩,
   ⟨{ (stepping (stepWord 14 0 2 0 1 (0)) (5) (2)) with seq := { (stepping (stepWord 14 0 2 0 1 (0)) (5) (2)).seq with pipe0 := { ctxs := [(0, ({ stepPkt 5 2 with words := (stepPkt 5 2).words.set 0 ⟨5, true⟩ } : Pkt))] } } },
     0, 0,
     stepIn ({ (stepping (stepWord 14 0 2 0 1 (0)) (5) (2)) with seq := { (stepping (stepWord 14 0 2 0 1 (0)) (5) (2)).seq with pipe0 := { ctxs := [(0, ({ stepPkt 5 2 with words := (stepPkt 5 2).words.set 0 ⟨5, true⟩ } : Pkt))] } } }) 0 0 (({ stepPkt 5 2 with words := (stepPkt 5 2).words.set 0 ⟨5, true⟩ } : Pkt)),
     .cntInc 0 0, by decide +kernel,
     Or.inr (Or.inr (Or.inl ⟨⟨({ stepPkt 5 2 with words := (stepPkt 5 2).words.set 0 ⟨5, true⟩ } : Pkt), by decide +kernel,
     by decide +kernel, rfl, by decide +kernel, by decide +kernel⟩, rfl⟩))⟩,
   ⟨{ (stepping (stepWord 14 1 2 0 1 (0)) (5) (2)) with seq := { (stepping (stepWord 14 1 2 0 1 (0)) (5) (2)).seq with pipe0 := { ctxs := [(0, ({ stepPkt 5 2 with words := (stepPkt 5 2).words.set 0 ⟨5, true⟩ } : Pkt))] } } },
     0, 0,
     stepIn ({ (stepping (stepWord 14 1 2 0 1 (0)) (5) (2)) with seq := { (stepping (stepWord 14 1 2 0 1 (0)) (5) (2)).seq with pipe0 := { ctxs := [(0, ({ stepPkt 5 2 with words := (stepPkt 5 2).words.set 0 ⟨5, true⟩ } : Pkt))] } } }) 0 0 (({ stepPkt 5 2 with words := (stepPkt 5 2).words.set 0 ⟨5, true⟩ } : Pkt)),
     .cntAdd 0 0, by decide +kernel,
     Or.inr (Or.inr (Or.inr (⟨⟨({ stepPkt 5 2 with words := (stepPkt 5 2).words.set 0 ⟨5, true⟩ } : Pkt), by decide +kernel,
     by decide +kernel, rfl, by decide +kernel, by decide +kernel⟩, rfl⟩)))⟩,
   ⟨{ (stepping (stepWord 1 16 2 0xFF 0xFF (248 + 7 * 2 ^ 9)) (5) (2)) with grn := { (stepping 0 0 0).grn with data := [(7, List.replicate 256 ⟨0, true⟩)] } },
     0, 0,
     stepIn ({ (stepping (stepWord 1 16 2 0xFF 0xFF (248 + 7 * 2 ^ 9)) (5) (2)) with grn := { (stepping 0 0 0).grn with data := [(7, List.replicate 256 ⟨0, true⟩)] } }) 0 0 (stepPkt (5) (2)),
     by decide +kernel, ⟨stepPkt (5) (2), by decide +kernel, by decide +kernel, rfl, by decide +kernel, by decide +kernel⟩,
     by decide +kernel⟩,
   ⟨{ (stepping (stepWord 1 17 2 0 1 (0)) (5) (2)) with seq := { (stepping (stepWord 1 17 2 0 1 (0)) (5) (2)).seq with pipe0 := { ctxs := [(0, ({ stepPkt 5 2 with words := (stepPkt 5 2).words.set 0 ⟨5, true⟩ } : Pkt))] } } },
     0, 0,
     stepIn ({ (stepping (stepWord 1 17 2 0 1 (0)) (5) (2)) with seq := { (stepping (stepWord 1 17 2 0 1 (0)) (5) (2)).seq with pipe0 := { ctxs := [(0, ({ stepPkt 5 2 with words := (stepPkt 5 2).words.set 0 ⟨5, true⟩ } : Pkt))] } } }) 0 0 (({ stepPkt 5 2 with words := (stepPkt 5 2).words.set 0 ⟨5, true⟩ } : Pkt)),
     by decide +kernel, ⟨({ stepPkt 5 2 with words := (stepPkt 5 2).words.set 0 ⟨5, true⟩ } : Pkt), by decide +kernel,
     by decide +kernel, rfl, by decide +kernel, by decide +kernel⟩, by decide +kernel⟩,
   ⟨{ (stepping (stepWord 3 0 2 0 1 (63)) (5) (2)) with seq := { (stepping (stepWord 3 0 2 0 1 (63)) (5) (2)).seq with pipe0 := { ctxs := [(0, ({ stepPkt 5 2 with words := (stepPkt 5 2).words.set 7 ⟨5, true⟩ } : Pkt))] } } },
     0, 0,
     stepIn ({ (stepping (stepWord 3 0 2 0 1 (63)) (5) (2)) with seq := { (stepping (stepWord 3 0 2 0 1 (63)) (5) (2)).seq with pipe0 := { ctxs := [(0, ({ stepPkt 5 2 with words := (stepPkt 5 2).words.set 7 ⟨5, true⟩ } : Pkt))] } } }) 0 0 (({ stepPkt 5 2 with words := (stepPkt 5 2).words.set 7 ⟨5, true⟩ } : Pkt)),
     .hashCrc32c 0 0, by decide +kernel, Or.inl ⟨⟨({ stepPkt 5 2 with words := (stepPkt 5 2).words.set 7 ⟨5, true⟩ } : Pkt),
     by decide +kernel, by decide +kernel, rfl, by decide +kernel, by decide +kernel⟩, rfl⟩⟩,
   ⟨{ (stepping (stepWord 3 1 2 0 1 (63)) (5) (2)) with seq := { (stepping (stepWord 3 1 2 0 1 (63)) (5) (2)).seq with pipe0 := { ctxs := [(0, ({ stepPkt 5 2 with words := (stepPkt 5 2).words.set 7 ⟨5, true⟩ } : Pkt))] } } },
     0, 0,
     stepIn ({ (stepping (stepWord 3 1 2 0 1 (63)) (5) (2)) with seq := { (stepping (stepWord 3 1 2 0 1 (63)) (5) (2)).seq with pipe0 := { ctxs := [(0, ({ stepPkt 5 2 with words := (stepPkt 5 2).words.set 7 ⟨5, true⟩ } : Pkt))] } } }) 0 0 (({ stepPkt 5 2 with words := (stepPkt 5 2).words.set 7 ⟨5, true⟩ } : Pkt)),
     .hashCrc32 0 0, by decide +kernel,
     Or.inr (Or.inl ⟨⟨({ stepPkt 5 2 with words := (stepPkt 5 2).words.set 7 ⟨5, true⟩ } : Pkt), by decide +kernel,
     by decide +kernel, rfl, by decide +kernel, by decide +kernel⟩, rfl⟩)⟩,
   ⟨{ (stepping (stepWord 3 2 2 0 1 (63)) (5) (2)) with seq := { (stepping (stepWord 3 2 2 0 1 (63)) (5) (2)).seq with pipe0 := { ctxs := [(0, ({ stepPkt 5 2 with words := (stepPkt 5 2).words.set 7 ⟨5, true⟩ } : Pkt))] } } },
     0, 0,
     stepIn ({ (stepping (stepWord 3 2 2 0 1 (63)) (5) (2)) with seq := { (stepping (stepWord 3 2 2 0 1 (63)) (5) (2)).seq with pipe0 := { ctxs := [(0, ({ stepPkt 5 2 with words := (stepPkt 5 2).words.set 7 ⟨5, true⟩ } : Pkt))] } } }) 0 0 (({ stepPkt 5 2 with words := (stepPkt 5 2).words.set 7 ⟨5, true⟩ } : Pkt)),
     .hashToeplitz 0 0, by decide +kernel,
     Or.inr (Or.inr (⟨⟨({ stepPkt 5 2 with words := (stepPkt 5 2).words.set 7 ⟨5, true⟩ } : Pkt), by decide +kernel,
     by decide +kernel, rfl, by decide +kernel, by decide +kernel⟩, rfl⟩))⟩,
   ⟨{ (stepping (stepWord 8 1 2 0 1 (0)) (5) (2)) with seq := { (stepping (stepWord 8 1 2 0 1 (0)) (5) (2)).seq with pipe0 := { ctxs := [(0, ({ stepPkt 5 2 with words := (stepPkt 5 2).words.set 0 ⟨5, true⟩ } : Pkt))] } } },
     0, 0,
     stepIn ({ (stepping (stepWord 8 1 2 0 1 (0)) (5) (2)) with seq := { (stepping (stepWord 8 1 2 0 1 (0)) (5) (2)).seq with pipe0 := { ctxs := [(0, ({ stepPkt 5 2 with words := (stepPkt 5 2).words.set 0 ⟨5, true⟩ } : Pkt))] } } }) 0 0 (({ stepPkt 5 2 with words := (stepPkt 5 2).words.set 0 ⟨5, true⟩ } : Pkt)),
     .grnFree 0 0, by decide +kernel, Or.inl ⟨⟨({ stepPkt 5 2 with words := (stepPkt 5 2).words.set 0 ⟨5, true⟩ } : Pkt),
     by decide +kernel, by decide +kernel, rfl, by decide +kernel, by decide +kernel⟩, rfl, by decide +kernel⟩⟩,
   ⟨{ (stepping (stepWord 11 0 2 0 1 (0)) (5) (2)) with seq := { (stepping (stepWord 11 0 2 0 1 (0)) (5) (2)).seq with pipe0 := { ctxs := [(0, ({ stepPkt 5 2 with words := (stepPkt 5 2).words.set 0 ⟨5, true⟩ } : Pkt))] } } },
     0, 0,
     stepIn ({ (stepping (stepWord 11 0 2 0 1 (0)) (5) (2)) with seq := { (stepping (stepWord 11 0 2 0 1 (0)) (5) (2)).seq with pipe0 := { ctxs := [(0, ({ stepPkt 5 2 with words := (stepPkt 5 2).words.set 0 ⟨5, true⟩ } : Pkt))] } } }) 0 0 (({ stepPkt 5 2 with words := (stepPkt 5 2).words.set 0 ⟨5, true⟩ } : Pkt)),
     .dmarRead 0 0, by decide +kernel,
     Or.inr (Or.inl ⟨⟨({ stepPkt 5 2 with words := (stepPkt 5 2).words.set 0 ⟨5, true⟩ } : Pkt), by decide +kernel,
     by decide +kernel, rfl, by decide +kernel, by decide +kernel⟩, rfl, by decide +kernel⟩)⟩,
   ⟨{ (stepping (stepWord 13 0 2 0 1 (0)) (5) (2)) with seq := { (stepping (stepWord 13 0 2 0 1 (0)) (5) (2)).seq with pipe0 := { ctxs := [(0, ({ stepPkt 5 2 with words := (stepPkt 5 2).words.set 0 ⟨5, true⟩ } : Pkt))] } } },
     0, 0,
     stepIn ({ (stepping (stepWord 13 0 2 0 1 (0)) (5) (2)) with seq := { (stepping (stepWord 13 0 2 0 1 (0)) (5) (2)).seq with pipe0 := { ctxs := [(0, ({ stepPkt 5 2 with words := (stepPkt 5 2).words.set 0 ⟨5, true⟩ } : Pkt))] } } }) 0 0 (({ stepPkt 5 2 with words := (stepPkt 5 2).words.set 0 ⟨5, true⟩ } : Pkt)),
     .haulStart 0 0, by decide +kernel,
     Or.inr (Or.inr (Or.inl ⟨⟨({ stepPkt 5 2 with words := (stepPkt 5 2).words.set 0 ⟨5, true⟩ } : Pkt), by decide +kernel,
     by decide +kernel, rfl, by decide +kernel, by decide +kernel⟩, rfl, by decide +kernel⟩))⟩,
   ⟨{ (stepping (stepWord 7 0 2 0 1 (0)) (5) (2)) with seq := { (stepping (stepWord 7 0 2 0 1 (0)) (5) (2)).seq with pipe0 := { ctxs := [(0, ({ stepPkt 5 2 with words := (stepPkt 5 2).words.set 0 ⟨5, true⟩ } : Pkt))] } } },
     0, 0,
     stepIn ({ (stepping (stepWord 7 0 2 0 1 (0)) (5) (2)) with seq := { (stepping (stepWord 7 0 2 0 1 (0)) (5) (2)).seq with pipe0 := { ctxs := [(0, ({ stepPkt 5 2 with words := (stepPkt 5 2).words.set 0 ⟨5, true⟩ } : Pkt))] } } }) 0 0 (({ stepPkt 5 2 with words := (stepPkt 5 2).words.set 0 ⟨5, true⟩ } : Pkt)),
     .policeMeter 0 0, by decide +kernel,
     Or.inr (Or.inr (Or.inr (⟨⟨({ stepPkt 5 2 with words := (stepPkt 5 2).words.set 0 ⟨5, true⟩ } : Pkt), by decide +kernel,
     by decide +kernel, rfl, by decide +kernel, by decide +kernel⟩, rfl, by decide +kernel⟩)))⟩⟩

/-- What `Obligations.ClassOutsideMaskRefused` assumes is met, clause by clause. -/
theorem witness_ClassOutsideMaskRefused :
    (∃ (s : State) (p c : Nat) (x : StepIn), Issues s p c 12 0 x ∧ isFrozen s x.k.fid = false ∧
      Clean x (x.a.p || x.b.p || (x.k.word 26).p || anyPoison (pktBytes s x.k)) ∧
      mustWait s p x.k (.port (bits 7 0 x.imm) (bits 2 0 x.av)) = false ∧ (bits 15 8 x.imm).testBit (bits 2 0 x.av) = false) ∧
    (∃ (s : State) (p c : Nat) (x : StepIn), Issues s p c 12 0 x ∧ (isFrozen s x.k.fid = false ∧
      Clean x (x.a.p || x.b.p || (x.k.word 26).p || anyPoison (pktBytes s x.k)) ∧
      mustWait s p x.k (.port (bits 7 0 x.imm) (bits 2 0 x.av)) = false ∧
      (bits 15 8 x.imm).testBit (bits 2 0 x.av) = false) ∧ x.k.lib = none) :=
  ⟨⟨stepping (stepWord 12 0 0xFF 0 0xFF (0x7F00 + 2 ^ 16)) (7) (2), 0, 0,
     stepIn (stepping (stepWord 12 0 0xFF 0 0xFF (0x7F00 + 2 ^ 16)) (7) (2)) 0 0 (stepPkt (7) (2)), ⟨stepPkt (7) (2),
     by decide +kernel, by decide +kernel, rfl, by decide +kernel, by decide +kernel⟩, by decide +kernel⟩,
   ⟨stepping (stepWord 12 0 0xFF 0 0xFF (0x7F00 + 2 ^ 16)) (7) (2), 0, 0,
     stepIn (stepping (stepWord 12 0 0xFF 0 0xFF (0x7F00 + 2 ^ 16)) (7) (2)) 0 0 (stepPkt (7) (2)), ⟨stepPkt (7) (2),
     by decide +kernel, by decide +kernel, rfl, by decide +kernel, by decide +kernel⟩, by decide +kernel,
     by first | decide +kernel | rfl⟩⟩

/-- What `Obligations.StepKeepsToItsContext` assumes is met, clause by clause. -/
theorem witness_StepKeepsToItsContext :
    (∃ (s : State) (p c : Nat) (x : StepIn) (i : Instr), p < 4 ∧ ((Issues s p c 1 0 x ∧ i = .aluMove p c) ∨
      (Issues s p c 1 1 x ∧ i = .aluAdd p c) ∨ (Issues s p c 1 2 x ∧ i = .aluSub p c) ∨ (Issues s p c 1 3 x ∧
      i = .aluAnd p c) ∨ (Issues s p c 1 4 x ∧ i = .aluOr p c) ∨ (Issues s p c 1 5 x ∧ i = .aluXor p c) ∨
      (Issues s p c 1 6 x ∧ i = .aluShift p c) ∨ (Issues s p c 1 7 x ∧ i = .aluCmpEq p c) ∨ (Issues s p c 1 8 x ∧
      i = .aluCmpLt p c) ∨ (Issues s p c 1 0x10 x ∧ i = .loadHdr p c) ∨ (Issues s p c 1 0x14 x ∧ i = .readTime p c) ∨
      (Issues s p c 2 0 x ∧ i = .parseL2 p c) ∨ (Issues s p c 2 1 x ∧ i = .parseL3 p c) ∨ (Issues s p c 2 2 x ∧
      i = .parseL4 p c) ∨ (Issues s p c 2 3 x ∧ i = .parseTunnel p c) ∨ (Issues s p c 2 4 x ∧ i = .parseStoragePdu p c) ∨
      (Issues s p c 3 0 x ∧ i = .hashCrc32c p c) ∨ (Issues s p c 3 1 x ∧ i = .hashCrc32 p c) ∨ (Issues s p c 3 2 x ∧
      i = .hashToeplitz p c))) ∧
    (∃ (s : State) (p c : Nat) (x : StepIn) (i : Instr), p < 4 ∧ ((Issues s p c 1 0 x ∧ i = .aluMove p c) ∨
      (Issues s p c 1 1 x ∧ i = .aluAdd p c) ∨ (Issues s p c 1 2 x ∧ i = .aluSub p c) ∨ (Issues s p c 1 3 x ∧
      i = .aluAnd p c) ∨ (Issues s p c 1 4 x ∧ i = .aluOr p c) ∨ (Issues s p c 1 5 x ∧ i = .aluXor p c) ∨
      (Issues s p c 1 6 x ∧ i = .aluShift p c) ∨ (Issues s p c 1 7 x ∧ i = .aluCmpEq p c) ∨ (Issues s p c 1 8 x ∧
      i = .aluCmpLt p c) ∨ (Issues s p c 1 0x10 x ∧ i = .loadHdr p c) ∨ (Issues s p c 1 0x14 x ∧ i = .readTime p c) ∨
      (Issues s p c 2 0 x ∧ i = .parseL2 p c) ∨ (Issues s p c 2 1 x ∧ i = .parseL3 p c) ∨ (Issues s p c 2 2 x ∧
      i = .parseL4 p c) ∨ (Issues s p c 2 3 x ∧ i = .parseTunnel p c) ∨ (Issues s p c 2 4 x ∧ i = .parseStoragePdu p c) ∨
      (Issues s p c 3 0 x ∧ i = .hashCrc32c p c) ∨ (Issues s p c 3 1 x ∧ i = .hashCrc32 p c) ∨ (Issues s p c 3 2 x ∧
      i = .hashToeplitz p c))) ∧
    (∃ (s : State) (p c : Nat) (x : StepIn) (i : Instr), p < 4 ∧ ((Issues s p c 1 0 x ∧ i = .aluMove p c) ∨
      (Issues s p c 1 1 x ∧ i = .aluAdd p c) ∨ (Issues s p c 1 2 x ∧ i = .aluSub p c) ∨ (Issues s p c 1 3 x ∧
      i = .aluAnd p c) ∨ (Issues s p c 1 4 x ∧ i = .aluOr p c) ∨ (Issues s p c 1 5 x ∧ i = .aluXor p c) ∨
      (Issues s p c 1 6 x ∧ i = .aluShift p c) ∨ (Issues s p c 1 7 x ∧ i = .aluCmpEq p c) ∨ (Issues s p c 1 8 x ∧
      i = .aluCmpLt p c) ∨ (Issues s p c 1 0x10 x ∧ i = .loadHdr p c) ∨ (Issues s p c 1 0x14 x ∧ i = .readTime p c) ∨
      (Issues s p c 2 0 x ∧ i = .parseL2 p c) ∨ (Issues s p c 2 1 x ∧ i = .parseL3 p c) ∨ (Issues s p c 2 2 x ∧
      i = .parseL4 p c) ∨ (Issues s p c 2 3 x ∧ i = .parseTunnel p c) ∨ (Issues s p c 2 4 x ∧ i = .parseStoragePdu p c) ∨
      (Issues s p c 3 0 x ∧ i = .hashCrc32c p c) ∨ (Issues s p c 3 1 x ∧ i = .hashCrc32 p c) ∨ (Issues s p c 3 2 x ∧
      i = .hashToeplitz p c))) :=
  ⟨⟨stepping (stepWord 1 0 2 0 1 (0)) (5) (2), 0, 0,
     stepIn (stepping (stepWord 1 0 2 0 1 (0)) (5) (2)) 0 0 (stepPkt (5) (2)), .aluMove 0 0, by decide +kernel,
     Or.inl ⟨⟨stepPkt (5) (2), by decide +kernel, by decide +kernel, rfl, by decide +kernel, by decide +kernel⟩, rfl⟩⟩,
   ⟨stepping (stepWord 1 0x10 2 0 1 (0)) (5) (2), 0, 0,
     stepIn (stepping (stepWord 1 0x10 2 0 1 (0)) (5) (2)) 0 0 (stepPkt (5) (2)), .loadHdr 0 0, by decide +kernel,
     Or.inr (Or.inr (Or.inr (Or.inr (Or.inr (Or.inr (Or.inr (Or.inr (Or.inr (Or.inl ⟨⟨stepPkt (5) (2), by decide +kernel,
     by decide +kernel, rfl, by decide +kernel, by decide +kernel⟩, rfl⟩)))))))))⟩,
   ⟨stepping (stepWord 3 2 2 0 1 (0)) (5) (2), 0, 0,
     stepIn (stepping (stepWord 3 2 2 0 1 (0)) (5) (2)) 0 0 (stepPkt (5) (2)), .hashToeplitz 0 0, by decide +kernel,
     Or.inr (Or.inr (Or.inr (Or.inr (Or.inr (Or.inr (Or.inr (Or.inr (Or.inr (Or.inr (Or.inr (Or.inr (Or.inr (Or.inr (Or.inr (Or.inr (Or.inr (Or.inr (⟨⟨stepPkt (5) (2),
     by decide +kernel, by decide +kernel, rfl, by decide +kernel, by decide +kernel⟩, rfl⟩))))))))))))))))))⟩⟩

/-- What `Obligations.StoreHdrWritesItsBytes` assumes is met. -/
theorem witness_StoreHdrWritesItsBytes :
    (∃ (s : State) (p c o n : Nat) (x : StepIn), Issues s p c 1 0x11 x ∧ Clean x x.a.p ∧ o = bits 8 0 x.imm ∧
      n = bits 11 9 x.imm + 1 ∧ o + n ≤ x.k.len ∧ o + n ≤ 512 ∧ Clean x (anyPoison (slice (window s x.k) o n))) :=
  ⟨stepping (stepWord 1 17 0xFF 0 0xFF (248 + 7 * 2 ^ 9 + 2 ^ 12)) (5) (2), 0, 0, 248, 8,
    stepIn (stepping (stepWord 1 17 0xFF 0 0xFF (248 + 7 * 2 ^ 9 + 2 ^ 12)) (5) (2)) 0 0 (stepPkt (5) (2)),
    ⟨stepPkt (5) (2), by decide +kernel, by decide +kernel, rfl, by decide +kernel, by decide +kernel⟩, by decide +kernel,
    by first | decide +kernel | rfl, by first | decide +kernel | rfl, by decide +kernel⟩

/-- What `Obligations.ResetLeavesTheMapsValues` assumes is met. -/
theorem witness_ResetLeavesTheMapsValues : ∃ fid : Nat, fid ≤ 1 := ⟨1, by decide⟩

/-- What `Obligations.ReadsReturnRegisterBytes` assumes is met, clause by clause. -/
theorem witness_ReadsReturnRegisterBytes :
    (∃ (s : State) (fid off v i n : Nat), (memReach s fid = true ∧ off % 8 = 0) ∧ regRead s fid off = some (8, v) ∧ 1 ≤ n ∧
      i + n ≤ 8) ∧
    (∃ (s : State) (fid off v i n : Nat), (memReach s fid = true ∧ off % 4 = 0) ∧ regRead s fid off = some (4, v) ∧ (∀ x,
      regRead s fid (off / 8 * 8) ≠ some (8, x)) ∧ 1 ≤ n ∧ i + n ≤ 4) ∧
    (∃ (s : State) (fid a : Nat), memReach s fid = true ∧ regRead s fid (a / 8 * 8) = none ∧
      regRead s fid (a / 4 * 4) = none) ∧
    (∃ (s : State) (fid off n : Nat), (memReach s fid = false ∨ n = 0 ∨ 8 < n)) ∧
    (∃ (s : State) (fid off n : Nat), (memReach s fid = false ∨ n = 0 ∨ 8 < n)) ∧
    (∃ (s : State) (fid off n : Nat), (memReach s fid = false ∨ n = 0 ∨ 8 < n)) :=
  ⟨⟨live, 0, 0x900000, _, 5, 3, by decide +kernel, rfl, by decide +kernel⟩,
   ⟨live, 0, 0x100044, _, 0, 4, by decide +kernel, rfl, (fun x h => by cases h), by decide +kernel⟩,
   ⟨live, 0, 0x3FFFFFF, by decide +kernel, by first | decide +kernel | rfl, by first | decide +kernel | rfl⟩,
   ⟨live, 0, 0, 9, by decide +kernel⟩,
   ⟨live, 0, 0, 0, by decide +kernel⟩,
   ⟨State.reset, 0, 0, 4, by decide +kernel⟩⟩

/-- What `Obligations.RegistersReadBack` assumes is met, clause by clause. -/
theorem witness_RegistersReadBack :
    (∃ (s : State) (v : Nat), memReach s 0 = true ∧ v < 2 ^ 32) ∧
    (∃ (s : State) (v : Nat), memReach s 0 = true ∧ v < 2 ^ 32) ∧
    (∃ (s : State) (v : Nat), memReach s 0 = true ∧ v < 2 ^ 32 ∧ v % 2 ^ 16 ≤ 400) ∧
    (∃ (s : State) (v : Nat), memReach s 0 = true ∧ v < 2 ^ 32 ∧ 400 < v % 2 ^ 16) ∧
    (∃ (s : State) (v : Nat), memReach s 0 = true ∧ v < 2 ^ 32 ∧ 400 < v % 2 ^ 16) ∧
    (∃ (s : State) (v : Nat), memReach s 0 = true ∧ v < 2 ^ 32 ∧ 10 ≤ v % 2 ^ 10 ∧ v % 2 ^ 10 ≤ 1000) ∧
    (∃ (s : State) (v : Nat), memReach s 0 = true ∧ v < 2 ^ 32 ∧ 10 ≤ v % 2 ^ 10 ∧ v % 2 ^ 10 ≤ 1000) ∧
    (∃ (s : State) (v : Nat), memReach s 0 = true ∧ v < 2 ^ 32 ∧ (v % 2 ^ 10 < 10 ∨ 1000 < v % 2 ^ 10)) ∧
    (∃ (s : State) (v : Nat), memReach s 0 = true ∧ v < 2 ^ 32 ∧ (v % 2 ^ 10 < 10 ∨ 1000 < v % 2 ^ 10)) ∧
    (∃ (s : State) (v : Nat), memReach s 0 = true ∧ v < 2 ^ 32 ∧ (v ≤ 2147483 ∨ 2 ^ 32 - 2147483 ≤ v)) ∧
    (∃ (s : State) (v : Nat), memReach s 0 = true ∧ v < 2 ^ 32 ∧ (v ≤ 2147483 ∨ 2 ^ 32 - 2147483 ≤ v)) ∧
    (∃ (s : State) (v : Nat), memReach s 0 = true ∧ v < 2 ^ 32 ∧ 2147483 < v ∧ v < 2 ^ 32 - 2147483) ∧
    (∃ (s : State) (v : Nat), memReach s 0 = true ∧ v < 2 ^ 32 ∧ 2147483 < v ∧ v < 2 ^ 32 - 2147483) ∧
    (∃ (s : State) (v : Nat), memReach s 0 = true ∧ v < 2 ^ 32 ∧ 10 ≤ v % 2 ^ 10 ∧ v % 2 ^ 10 ≤ 1000) ∧
    (∃ (s : State) (v : Nat), memReach s 0 = true ∧ v < 2 ^ 32 ∧ 10 ≤ v % 2 ^ 10 ∧ v % 2 ^ 10 ≤ 1000) ∧
    (∃ (s : State) (v : Nat), memReach s 0 = true ∧ v < 2 ^ 32 ∧ (v % 2 ^ 16 ≤ 20000 ∨ 2 ^ 16 - 20000 ≤ v % 2 ^ 16)) ∧
    (∃ (s : State) (v : Nat), memReach s 0 = true ∧ v < 2 ^ 32 ∧ (v % 2 ^ 16 ≤ 20000 ∨ 2 ^ 16 - 20000 ≤ v % 2 ^ 16)) :=
  ⟨⟨live, 0, by decide +kernel⟩,
   ⟨live, 2 ^ 32 - 1, by decide +kernel⟩,
   ⟨live, 400, by decide +kernel⟩,
   ⟨live, 401, by decide +kernel⟩,
   ⟨live, 65535, by decide +kernel⟩,
   ⟨live, 10, by decide +kernel⟩,
   ⟨live, 1000, by decide +kernel⟩,
   ⟨live, 9, by decide +kernel⟩,
   ⟨live, 1001, by decide +kernel⟩,
   ⟨live, 2147483, by decide +kernel⟩,
   ⟨live, 2 ^ 32 - 2147483, by decide +kernel⟩,
   ⟨live, 2147484, by decide +kernel⟩,
   ⟨live, 2 ^ 32 - 2147484, by decide +kernel⟩,
   ⟨live, 10, by decide +kernel⟩,
   ⟨live, 1000, by decide +kernel⟩,
   ⟨live, 20000, by decide +kernel⟩,
   ⟨live, 45536, by decide +kernel⟩⟩

end Sys2Proof.Tests
end

