-- ==== Sys2Proof/Tests/WitnessSteps.lean ====
section
/-! SUPPORT. Witnesses for the statements about the steps: for each statement one theorem with a state and operands that meet
the hypotheses of each of its clauses. -/

set_option maxRecDepth 10000
set_option Elab.async false
set_option linter.unusedVariables false

namespace Sys2Proof.Tests

open Sys2Proof.Machine

/-- What `Obligations.ControlStepsComplete` assumes is met, clause by clause. -/
theorem witness_ControlStepsComplete :
    (∃ (s : State) (p c : Nat) (x : StepIn), Issues s p c 0 0 x) ∧
    (∃ (s : State) (p c : Nat) (x : StepIn), Issues s p c 0 1 x) ∧
    (∃ (s : State) (p c : Nat) (x : StepIn), Issues s p c 0 2 x) ∧
    (∃ (s : State) (p c : Nat) (x : StepIn), Issues s p c 0 3 x ∧ Clean x (x.k.word 26).p) ∧
    (∃ (s : State) (p c h : Nat) (x : StepIn), Issues s p c 0 4 x ∧ x.k.hookRet = some h) ∧
    (∃ (s : State) (p c : Nat) (x : StepIn), Issues s p c 0 5 x) ∧
    (∃ (s : State) (p c : Nat) (x : StepIn) (bs : List Nat) (m : Bool), Issues s p c 3 0 x ∧
      bs = (keyWords x.k x.w.srcA).take (bits 5 0 x.imm) ∧ m = wordsPoisoned x.k x.w.srcA ((bits 5 0 x.imm + 7) / 8) ∧
      Clean x m) ∧
    (∃ (s : State) (p c : Nat) (x : StepIn) (bs : List Nat) (m : Bool), Issues s p c 3 1 x ∧
      bs = (keyWords x.k x.w.srcA).take (bits 5 0 x.imm) ∧ m = wordsPoisoned x.k x.w.srcA ((bits 5 0 x.imm + 7) / 8) ∧
      Clean x m) ∧
    (∃ (s : State) (p c : Nat) (x : StepIn) (bs : List Nat) (m : Bool), Issues s p c 3 2 x ∧
      bs = (keyWords x.k x.w.srcA).take (bits 5 0 x.imm) ∧
      m = (wordsPoisoned x.k x.w.srcA ((bits 5 0 x.imm + 7) / 8) || wordsPoisoned x.k x.w.srcB 5) ∧ Clean x m) ∧
    (∃ (s : State) (p c : Nat) (x : StepIn), Issues s p c 14 0 x ∧ Clean x x.a.p) ∧
    (∃ (s : State) (p c : Nat) (x : StepIn), Issues s p c 14 1 x ∧ Clean x (x.a.p || x.b.p)) ∧
    (∃ (s : State) (p c : Nat) (x : StepIn) (z : Policer), Issues s p c 7 0 x ∧ (isFrozen s (bits 43 32 x.av) = false ∧
      Clean x (x.a.p || x.b.p)) ∧ tget s.sw.policers (bits 13 0 x.av) = some z ∧ z.fid = bits 43 32 x.av ∧
      hookMismatch x (bits 43 32 x.av) = false) :=
  ⟨⟨(stepping (stepWord 0 0 0xFF 0xFF 0xFF (0)) (5) (2)), 0, 0,
     stepIn (stepping (stepWord 0 0 0xFF 0xFF 0xFF (0)) (5) (2)) 0 0 (stepPkt (5) (2)), ⟨stepPkt (5) (2), by decide +kernel,
     by decide +kernel, rfl, by decide +kernel, by decide +kernel⟩⟩,
   ⟨(stepping (stepWord 0 1 0xFF 0xFF 0xFF (0)) (5) (2)), 0, 0,
     stepIn (stepping (stepWord 0 1 0xFF 0xFF 0xFF (0)) (5) (2)) 0 0 (stepPkt (5) (2)), ⟨stepPkt (5) (2), by decide +kernel,
     by decide +kernel, rfl, by decide +kernel, by decide +kernel⟩⟩,
   ⟨(stepping (stepWord 0 2 0xFF 0xFF 0xFF (0xFF)) (5) (2)), 0, 0,
     stepIn (stepping (stepWord 0 2 0xFF 0xFF 0xFF (0xFF)) (5) (2)) 0 0 (stepPkt (5) (2)), ⟨stepPkt (5) (2),
     by decide +kernel, by decide +kernel, rfl, by decide +kernel, by decide +kernel⟩⟩,
   ⟨(stepping (stepWord 0 3 0xFF 0xFF 0xFF (0)) (5) (2)), 0, 0,
     stepIn (stepping (stepWord 0 3 0xFF 0xFF 0xFF (0)) (5) (2)) 0 0 (stepPkt (5) (2)), ⟨stepPkt (5) (2), by decide +kernel,
     by decide +kernel, rfl, by decide +kernel, by decide +kernel⟩, by decide +kernel⟩,
   ⟨{ (stepping (stepWord 0 4 0xFF 0xFF 0xFF (15)) (5) (2)) with seq := { (stepping (stepWord 0 4 0xFF 0xFF 0xFF (15)) (5) (2)).seq with pipe0 := { ctxs := [(0, { stepPkt 5 2 with hookRet := some 65 })] } } },
     0, 0, 65,
     stepIn ({ (stepping (stepWord 0 4 0xFF 0xFF 0xFF (15)) (5) (2)) with seq := { (stepping (stepWord 0 4 0xFF 0xFF 0xFF (15)) (5) (2)).seq with pipe0 := { ctxs := [(0, { stepPkt 5 2 with hookRet := some 65 })] } } }) 0 0 { stepPkt 5 2 with hookRet := some 65 },
     ⟨{ stepPkt 5 2 with hookRet := some 65 }, by decide +kernel, by decide +kernel, rfl, by decide +kernel,
     by decide +kernel⟩, by first | decide +kernel | rfl⟩,
   ⟨(stepping (stepWord 0 5 0xFF 0xFF 0xFF (0xFFFF)) (5) (2)), 0, 0,
     stepIn (stepping (stepWord 0 5 0xFF 0xFF 0xFF (0xFFFF)) (5) (2)) 0 0 (stepPkt (5) (2)), ⟨stepPkt (5) (2),
     by decide +kernel, by decide +kernel, rfl, by decide +kernel, by decide +kernel⟩⟩,
   ⟨(stepping (stepWord 3 0 2 0 0xFF (32)) (5) (2)), 0, 0,
     stepIn (stepping (stepWord 3 0 2 0 0xFF (32)) (5) (2)) 0 0 (stepPkt (5) (2)), _, _, ⟨stepPkt (5) (2),
     by decide +kernel, by decide +kernel, rfl, by decide +kernel, by decide +kernel⟩, by first | decide +kernel | rfl,
     by first | decide +kernel | rfl, by decide +kernel⟩,
   ⟨(stepping (stepWord 3 1 2 0 0xFF (1 + (2 ^ 32 - 1) * 64)) (5) (2)), 0, 0,
     stepIn (stepping (stepWord 3 1 2 0 0xFF (1 + (2 ^ 32 - 1) * 64)) (5) (2)) 0 0 (stepPkt (5) (2)), _, _,
     ⟨stepPkt (5) (2), by decide +kernel, by decide +kernel, rfl, by decide +kernel, by decide +kernel⟩,
     by first | decide +kernel | rfl, by first | decide +kernel | rfl, by decide +kernel⟩,
   ⟨(stepping (stepWord 3 2 2 0 3 (32)) (5) (2)), 0, 0,
     stepIn (stepping (stepWord 3 2 2 0 3 (32)) (5) (2)) 0 0 (stepPkt (5) (2)), _, _, ⟨stepPkt (5) (2), by decide +kernel,
     by decide +kernel, rfl, by decide +kernel, by decide +kernel⟩, by first | decide +kernel | rfl,
     by first | decide +kernel | rfl, by decide +kernel⟩,
   ⟨(stepping (stepWord 14 0 0xFF 0 0xFF (0xF7)) (2) (2)), 0, 0,
     stepIn (stepping (stepWord 14 0 0xFF 0 0xFF (0xF7)) (2) (2)) 0 0 (stepPkt (2) (2)), ⟨stepPkt (2) (2),
     by decide +kernel, by decide +kernel, rfl, by decide +kernel, by decide +kernel⟩, by decide +kernel⟩,
   ⟨(stepping (stepWord 14 1 0xFF 0 1 (0xF7)) (2) (2 ^ 64 - 1)), 0, 0,
     stepIn (stepping (stepWord 14 1 0xFF 0 1 (0xF7)) (2) (2 ^ 64 - 1)) 0 0 (stepPkt (2) (2 ^ 64 - 1)),
     ⟨stepPkt (2) (2 ^ 64 - 1), by decide +kernel, by decide +kernel, rfl, by decide +kernel, by decide +kernel⟩,
     by decide +kernel⟩,
   ⟨(stepping (stepWord 7 0 2 0 1 (0)) (3 + 2 * 2 ^ 32) (100)), 0, 0,
     stepIn (stepping (stepWord 7 0 2 0 1 (0)) (3 + 2 * 2 ^ 32) (100)) 0 0 (stepPkt (3 + 2 * 2 ^ 32) (100)), _,
     ⟨stepPkt (3 + 2 * 2 ^ 32) (100), by decide +kernel, by decide +kernel, rfl, by decide +kernel, by decide +kernel⟩,
     by decide +kernel, by first | decide +kernel | rfl, by decide +kernel⟩⟩

/-- What `Obligations.AluStepsComplete` assumes is met, clause by clause. -/
theorem witness_AluStepsComplete :
    (∃ (s : State) (p c : Nat) (x : StepIn), Issues s p c 1 0 x ∧ Clean x x.a.p) ∧
    (∃ (s : State) (p c : Nat) (x : StepIn) (m : Bool), m = (x.a.p || x.bOrImm.p) ∧ Clean x m ∧ Issues s p c 1 1 x) ∧
    (∃ (s : State) (p c : Nat) (x : StepIn) (m : Bool), m = (x.a.p || x.bOrImm.p) ∧ Clean x m ∧ Issues s p c 1 2 x) ∧
    (∃ (s : State) (p c : Nat) (x : StepIn) (m : Bool), m = (x.a.p || x.bOrImm.p) ∧ Clean x m ∧ Issues s p c 1 3 x) ∧
    (∃ (s : State) (p c : Nat) (x : StepIn) (m : Bool), m = (x.a.p || x.bOrImm.p) ∧ Clean x m ∧ Issues s p c 1 4 x) ∧
    (∃ (s : State) (p c : Nat) (x : StepIn) (m : Bool), m = (x.a.p || x.bOrImm.p) ∧ Clean x m ∧ Issues s p c 1 5 x) ∧
    (∃ (s : State) (p c : Nat) (x : StepIn) (m : Bool), m = (x.a.p || x.bOrImm.p) ∧ Clean x m ∧ Issues s p c 1 7 x) ∧
    (∃ (s : State) (p c : Nat) (x : StepIn) (m : Bool), m = (x.a.p || x.bOrImm.p) ∧ Clean x m ∧ Issues s p c 1 8 x) ∧
    (∃ (s : State) (p c : Nat) (x : StepIn), Issues s p c 1 6 x ∧ Clean x x.a.p) ∧
    (∃ (s : State) (p c : Nat) (x : StepIn) (bs : List PByte), Issues s p c 1 0x10 x ∧
      (bits 8 0 x.imm + (bits 11 9 x.imm + 1) ≤ x.k.len ∧ bits 8 0 x.imm + (bits 11 9 x.imm + 1) ≤ 512) ∧
      bs = slice (window s x.k) (bits 8 0 x.imm) (bits 11 9 x.imm + 1) ∧ Clean x (anyPoison bs)) ∧
    (∃ (s : State) (p c : Nat) (x : StepIn), Issues s p c 1 0x11 x ∧ bits 8 0 x.imm + (bits 11 9 x.imm + 1) ≤ x.k.len ∧
      bits 8 0 x.imm + (bits 11 9 x.imm + 1) ≤ 512 ∧ Clean x x.a.p ∧
      Clean x (anyPoison (slice (window s x.k) (bits 8 0 x.imm) (bits 11 9 x.imm + 1)))) ∧
    (∃ (s : State) (p c n : Nat) (x : StepIn), Issues s p c 1 0x12 x ∧ n = bits 8 0 x.imm ∧ 1 ≤ n ∧ n ≤ 384 ∧
      n + 14 ≤ x.k.len) ∧
    (∃ (s : State) (p c n : Nat) (x : StepIn), Issues s p c 1 0x13 x ∧ n = bits 8 0 x.imm ∧ 1 ≤ n ∧ n ≤ 384 ∧
      x.k.len + n ≤ 65535) ∧
    (∃ (s : State) (p c : Nat) (x : StepIn), Issues s p c 1 0x14 x) :=
  ⟨⟨(stepping (stepWord 1 0 2 0xFF 0xFF (2 ^ 40 - 1)) (5) (2)), 0, 0,
     stepIn (stepping (stepWord 1 0 2 0xFF 0xFF (2 ^ 40 - 1)) (5) (2)) 0 0 (stepPkt (5) (2)), ⟨stepPkt (5) (2),
     by decide +kernel, by decide +kernel, rfl, by decide +kernel, by decide +kernel⟩, by decide +kernel⟩,
   ⟨(stepping (stepWord 1 1 2 0 0xFF (7)) (2 ^ 64 - 1) (2)), 0, 0,
     stepIn (stepping (stepWord 1 1 2 0 0xFF (7)) (2 ^ 64 - 1) (2)) 0 0 (stepPkt (2 ^ 64 - 1) (2)), _,
     by first | decide +kernel | rfl, by decide +kernel, ⟨stepPkt (2 ^ 64 - 1) (2), by decide +kernel, by decide +kernel,
     rfl, by decide +kernel, by decide +kernel⟩⟩,
   ⟨(stepping (stepWord 1 2 2 0 1 (0)) (0) (2)), 0, 0,
     stepIn (stepping (stepWord 1 2 2 0 1 (0)) (0) (2)) 0 0 (stepPkt (0) (2)), _, by first | decide +kernel | rfl,
     by decide +kernel, ⟨stepPkt (0) (2), by decide +kernel, by decide +kernel, rfl, by decide +kernel, by decide +kernel⟩⟩,
   ⟨(stepping (stepWord 1 3 2 0 1 (0)) (5) (2)), 0, 0,
     stepIn (stepping (stepWord 1 3 2 0 1 (0)) (5) (2)) 0 0 (stepPkt (5) (2)), _, by first | decide +kernel | rfl,
     by decide +kernel, ⟨stepPkt (5) (2), by decide +kernel, by decide +kernel, rfl, by decide +kernel, by decide +kernel⟩⟩,
   ⟨(stepping (stepWord 1 4 2 0 1 (0)) (5) (2)), 0, 0,
     stepIn (stepping (stepWord 1 4 2 0 1 (0)) (5) (2)) 0 0 (stepPkt (5) (2)), _, by first | decide +kernel | rfl,
     by decide +kernel, ⟨stepPkt (5) (2), by decide +kernel, by decide +kernel, rfl, by decide +kernel, by decide +kernel⟩⟩,
   ⟨(stepping (stepWord 1 5 2 0 1 (0)) (5) (2)), 0, 0,
     stepIn (stepping (stepWord 1 5 2 0 1 (0)) (5) (2)) 0 0 (stepPkt (5) (2)), _, by first | decide +kernel | rfl,
     by decide +kernel, ⟨stepPkt (5) (2), by decide +kernel, by decide +kernel, rfl, by decide +kernel, by decide +kernel⟩⟩,
   ⟨(stepping (stepWord 1 7 2 0 1 (0)) (5) (2)), 0, 0,
     stepIn (stepping (stepWord 1 7 2 0 1 (0)) (5) (2)) 0 0 (stepPkt (5) (2)), _, by first | decide +kernel | rfl,
     by decide +kernel, ⟨stepPkt (5) (2), by decide +kernel, by decide +kernel, rfl, by decide +kernel, by decide +kernel⟩⟩,
   ⟨(stepping (stepWord 1 8 2 0 1 (0)) (5) (2)), 0, 0,
     stepIn (stepping (stepWord 1 8 2 0 1 (0)) (5) (2)) 0 0 (stepPkt (5) (2)), _, by first | decide +kernel | rfl,
     by decide +kernel, ⟨stepPkt (5) (2), by decide +kernel, by decide +kernel, rfl, by decide +kernel, by decide +kernel⟩⟩,
   ⟨(stepping (stepWord 1 6 2 0 0xFF (127)) (5) (2)), 0, 0,
     stepIn (stepping (stepWord 1 6 2 0 0xFF (127)) (5) (2)) 0 0 (stepPkt (5) (2)), ⟨stepPkt (5) (2), by decide +kernel,
     by decide +kernel, rfl, by decide +kernel, by decide +kernel⟩, by decide +kernel⟩,
   ⟨(stepping (stepWord 1 16 2 0xFF 0xFF (248 + 7 * 2 ^ 9)) (5) (2)), 0, 0,
     stepIn (stepping (stepWord 1 16 2 0xFF 0xFF (248 + 7 * 2 ^ 9)) (5) (2)) 0 0 (stepPkt (5) (2)), _, ⟨stepPkt (5) (2),
     by decide +kernel, by decide +kernel, rfl, by decide +kernel, by decide +kernel⟩, by decide +kernel,
     by first | decide +kernel | rfl, by decide +kernel⟩,
   ⟨(stepping (stepWord 1 17 0xFF 0 0xFF (248 + 7 * 2 ^ 9 + 2 ^ 12)) (5) (2)), 0, 0,
     stepIn (stepping (stepWord 1 17 0xFF 0 0xFF (248 + 7 * 2 ^ 9 + 2 ^ 12)) (5) (2)) 0 0 (stepPkt (5) (2)),
     ⟨stepPkt (5) (2), by decide +kernel, by decide +kernel, rfl, by decide +kernel, by decide +kernel⟩, by decide +kernel⟩,
   ⟨(stepping (stepWord 1 18 0xFF 0xFF 0xFF (242)) (5) (2)), 0, 0, _,
     stepIn (stepping (stepWord 1 18 0xFF 0xFF 0xFF (242)) (5) (2)) 0 0 (stepPkt (5) (2)), ⟨stepPkt (5) (2),
     by decide +kernel, by decide +kernel, rfl, by decide +kernel, by decide +kernel⟩, by first | decide +kernel | rfl,
     by decide +kernel⟩,
   ⟨(stepping (stepWord 1 19 0xFF 0xFF 0xFF (384)) (5) (2)), 0, 0, _,
     stepIn (stepping (stepWord 1 19 0xFF 0xFF 0xFF (384)) (5) (2)) 0 0 (stepPkt (5) (2)), ⟨stepPkt (5) (2),
     by decide +kernel, by decide +kernel, rfl, by decide +kernel, by decide +kernel⟩, by first | decide +kernel | rfl,
     by decide +kernel⟩,
   ⟨(stepping (stepWord 1 20 2 0xFF 0xFF (1)) (5) (2)), 0, 0,
     stepIn (stepping (stepWord 1 20 2 0xFF 0xFF (1)) (5) (2)) 0 0 (stepPkt (5) (2)), ⟨stepPkt (5) (2), by decide +kernel,
     by decide +kernel, rfl, by decide +kernel, by decide +kernel⟩⟩⟩

/-- What `Obligations.ParseStepsComplete` assumes is met, clause by clause. -/
theorem witness_ParseStepsComplete :
    (∃ (s : State) (p c lim : Nat) (x : StepIn) (d : List Nat), d = rawBytes (pktBytes s x.k) ∧
      lim = min (pktBytes s x.k).length 512 ∧ ∃ r, Issues s p c 2 0 x ∧ r = parseEth d (bits 8 0 x.imm) lim ∧
      (x.a.p = false ∧ anyPoison (slice (pktBytes s x.k) r.lo (min r.hi lim - r.lo)) = false)) ∧
    (∃ (s : State) (p c lim : Nat) (x : StepIn) (d : List Nat), d = rawBytes (pktBytes s x.k) ∧
      lim = min (pktBytes s x.k).length 512 ∧ ∃ r, Issues s p c 2 1 x ∧ r = parseIp d (bits 8 0 x.imm) lim ∧
      (x.a.p = false ∧ anyPoison (slice (pktBytes s x.k) r.lo (min r.hi lim - r.lo)) = false)) ∧
    (∃ (s : State) (p c lim : Nat) (x : StepIn) (d : List Nat), d = rawBytes (pktBytes s x.k) ∧
      lim = min (pktBytes s x.k).length 512 ∧ ∃ r, Issues s p c 2 2 x ∧ r = parsePorts d x.av lim ∧ (x.a.p = false ∧
      anyPoison (slice (pktBytes s x.k) r.lo (min r.hi lim - r.lo)) = false)) ∧
    (∃ (s : State) (p c lim : Nat) (x : StepIn) (d : List Nat), d = rawBytes (pktBytes s x.k) ∧
      lim = min (pktBytes s x.k).length 512 ∧ ∃ r, Issues s p c 2 3 x ∧
      r = parseTun d (bits 8 0 x.imm) lim (bits 11 9 x.imm) ∧ (x.a.p = false ∧
      anyPoison (slice (pktBytes s x.k) r.lo (min r.hi lim - r.lo)) = false)) ∧
    (∃ (s : State) (p c lim : Nat) (x : StepIn) (d : List Nat), d = rawBytes (pktBytes s x.k) ∧
      lim = min (pktBytes s x.k).length 512 ∧ ∃ r, Issues s p c 2 4 x ∧ r = parsePdu d (bits 8 0 x.imm) lim ∧
      (x.a.p = false ∧ anyPoison (slice (pktBytes s x.k) r.lo (min r.hi lim - r.lo)) = false)) :=
  ⟨⟨(stepping (stepWord 2 0 2 0xFF 0xFF (0)) (5) (2)), 0, 0, _,
     stepIn (stepping (stepWord 2 0 2 0xFF 0xFF (0)) (5) (2)) 0 0 (stepPkt (5) (2)), _, by first | decide +kernel | rfl,
     by first | decide +kernel | rfl, _, ⟨stepPkt (5) (2), by decide +kernel, by decide +kernel, rfl, by decide +kernel,
     by decide +kernel⟩, by first | decide +kernel | rfl, by decide +kernel⟩,
   ⟨(stepping (stepWord 2 1 2 0xFF 0xFF (0)) (5) (2)), 0, 0, _,
     stepIn (stepping (stepWord 2 1 2 0xFF 0xFF (0)) (5) (2)) 0 0 (stepPkt (5) (2)), _, by first | decide +kernel | rfl,
     by first | decide +kernel | rfl, _, ⟨stepPkt (5) (2), by decide +kernel, by decide +kernel, rfl, by decide +kernel,
     by decide +kernel⟩, by first | decide +kernel | rfl, by decide +kernel⟩,
   ⟨(stepping (stepWord 2 2 2 0 0xFF (0)) (5) (2)), 0, 0, _,
     stepIn (stepping (stepWord 2 2 2 0 0xFF (0)) (5) (2)) 0 0 (stepPkt (5) (2)), _, by first | decide +kernel | rfl,
     by first | decide +kernel | rfl, _, ⟨stepPkt (5) (2), by decide +kernel, by decide +kernel, rfl, by decide +kernel,
     by decide +kernel⟩, by first | decide +kernel | rfl, by decide +kernel⟩,
   ⟨(stepping (stepWord 2 3 2 0xFF 0xFF (2 ^ 9)) (5) (2)), 0, 0, _,
     stepIn (stepping (stepWord 2 3 2 0xFF 0xFF (2 ^ 9)) (5) (2)) 0 0 (stepPkt (5) (2)), _, by first | decide +kernel | rfl,
     by first | decide +kernel | rfl, _, ⟨stepPkt (5) (2), by decide +kernel, by decide +kernel, rfl, by decide +kernel,
     by decide +kernel⟩, by first | decide +kernel | rfl, by decide +kernel⟩,
   ⟨(stepping (stepWord 2 4 2 0xFF 0xFF (0)) (5) (2)), 0, 0, _,
     stepIn (stepping (stepWord 2 4 2 0xFF 0xFF (0)) (5) (2)) 0 0 (stepPkt (5) (2)), _, by first | decide +kernel | rfl,
     by first | decide +kernel | rfl, _, ⟨stepPkt (5) (2), by decide +kernel, by decide +kernel, rfl, by decide +kernel,
     by decide +kernel⟩, by first | decide +kernel | rfl, by decide +kernel⟩⟩

/-- What `Obligations.TableStepsComplete` assumes is met, clause by clause. -/
theorem witness_TableStepsComplete :
    (∃ (s : State) (p c u : Nat) (x : StepIn) (tb : FTable) (i : Instr), ((i = .lkpHotLookup p c ∧ u = 4 ∧ tb.hot = true) ∨
      (i = .lkpRldLookup p c ∧ u = 5 ∧ tb.hot = false)) ∧ Issues s p c u 0 x ∧ (isFrozen s (tblFid x) = false ∧
      x.b.p = false ∧ keyPoisoned s x (tblNo x) = false) ∧ tget s.fwt.tables (tblNo x) = some tb ∧ (tb.ready = true ∧
      (tblFid x = 0xFFF ∨ (grantOf s (tblFid x) (tblNo x) p).isSome = true) ∧ hookMismatch x (tblFid x) = false ∧
      bucketMarked (fpOf s p) (tblNo x) (bucketOfHash tb (bits 31 0 x.bv)) = false) ∧ ∃ a : State,
      (a = (if tb.hot then s else touchRld s p))) ∧
    (∃ (s : State) (p c u : Nat) (x : StepIn) (tb : FTable) (i : Instr), ((i = .lkpHotLookup p c ∧ u = 4 ∧ tb.hot = true) ∨
      (i = .lkpRldLookup p c ∧ u = 5 ∧ tb.hot = false)) ∧ Issues s p c u 0 x ∧ (isFrozen s (tblFid x) = false ∧
      x.b.p = false ∧ keyPoisoned s x (tblNo x) = false) ∧ tget s.fwt.tables (tblNo x) = some tb ∧ (tb.ready = true ∧
      (tblFid x = 0xFFF ∨ (grantOf s (tblFid x) (tblNo x) p).isSome = true) ∧ hookMismatch x (tblFid x) = false ∧
      bucketMarked (fpOf s p) (tblNo x) (bucketOfHash tb (bits 31 0 x.bv)) = false) ∧ ∃ a : State,
      (a = (if tb.hot then s else touchRld s p))) ∧
    (∃ (s : State) (p c kind op : Nat) (x : StepIn) (tb : FTable) (g : FGrant) (result : List Nat) (i : Instr) (w : PendWrite),
      ((i = .fwtLearn p c ∧ kind = 1 ∧ op = 0 ∧ result = leBytes 4 (bits 39 8 x.imm) ++ List.replicate 20 0) ∨
      (i = .fwtWriteFlow p c ∧ kind = 2 ∧ op = 2 ∧ wordsPoisoned x.k x.w.dst 3 = false ∧ result = [0, 1,
      2].flatMap (fun j => leBytes 8 (x.k.val (x.w.dst + j))))) ∧ Issues s p c 6 op x ∧ (isFrozen s (tblFid x) = false ∧
      x.b.p = false ∧ keyPoisoned s x (tblNo x) = false) ∧ tget s.fwt.tables (tblNo x) = some tb ∧ (tb.ready = true ∧
      tb.hot = false ∧ tb.kind = kind) ∧ grantOf s (tblFid x) (tblNo x) p = some g ∧
      (ownedIn (fpOf s p) (tblNo x) (tblFid x) + pendIn (fpOf s p) (tblNo x) (tblFid x) < g.maxEntries ∧
      ovfAvail s p (tblNo x) (tblFid x) = true ∧ (fpOf s p).pend.length < 64) ∧
      w = { table := tblNo x, bucket := bucketOf tb (normKey tb (keyWords x.k x.w.srcA)), owner := tblFid x, key := normKey tb (keyWords x.k x.w.srcA), result := result }) ∧
    (∃ (s : State) (p c kind op : Nat) (x : StepIn) (tb : FTable) (g : FGrant) (result : List Nat) (i : Instr) (w : PendWrite),
      ((i = .fwtLearn p c ∧ kind = 1 ∧ op = 0 ∧ result = leBytes 4 (bits 39 8 x.imm) ++ List.replicate 20 0) ∨
      (i = .fwtWriteFlow p c ∧ kind = 2 ∧ op = 2 ∧ wordsPoisoned x.k x.w.dst 3 = false ∧ result = [0, 1,
      2].flatMap (fun j => leBytes 8 (x.k.val (x.w.dst + j))))) ∧ Issues s p c 6 op x ∧ (isFrozen s (tblFid x) = false ∧
      x.b.p = false ∧ keyPoisoned s x (tblNo x) = false) ∧ tget s.fwt.tables (tblNo x) = some tb ∧ (tb.ready = true ∧
      tb.hot = false ∧ tb.kind = kind) ∧ grantOf s (tblFid x) (tblNo x) p = some g ∧
      (ownedIn (fpOf s p) (tblNo x) (tblFid x) + pendIn (fpOf s p) (tblNo x) (tblFid x) < g.maxEntries ∧
      ovfAvail s p (tblNo x) (tblFid x) = true ∧ (fpOf s p).pend.length < 64) ∧
      w = { table := tblNo x, bucket := bucketOf tb (normKey tb (keyWords x.k x.w.srcA)), owner := tblFid x, key := normKey tb (keyWords x.k x.w.srcA), result := result }) ∧
    (∃ (s : State) (p c : Nat) (x : StepIn) (tb : FTable), Issues s p c 6 1 x ∧ (isFrozen s (tblFid x) = false ∧
      x.b.p = false ∧ keyPoisoned s x (tblNo x) = false) ∧ tget s.fwt.tables (tblNo x) = some tb ∧ tb.ready = true ∧
      tb.hot = false ∧ (grantOf s (tblFid x) (tblNo x) p).isSome = true ∧
      isLocked (fpOf s p) (tblNo x) (bucketOf tb (normKey tb (keyWords x.k x.w.srcA))) = false) ∧
    (∃ (s : State) (p n : Nat) (y : PendWrite), p < 4 ∧ (fpOf s p).cycle = []) ∧
    (∃ (s : State) (p t b o n : Nat) (key : List Nat), p < 4 ∧ (fpOf s p).cycle = []) ∧
    (∃ (s : State) (p m n : Nat) (y z : PendWrite), p < 4 ∧ (fpOf s p).cycle = [.learn m y, .learn n z] ∧ n < m) ∧
    (∃ (s : State) (p t b : Nat) (l : Lock), p < 4 ∧ tget (fpOf s p).locks (bktKey t b) = some l ∧ lockOver s l = true) :=
  ⟨⟨{ (stepping (stepWord 4 0 4 0 1 (2)) (5) (0xFFFFFFFF + 2 * 2 ^ 32)) with fwt := { live.fwt with grants := [(132, ⟨100, 10⟩), (136, ⟨100, 10⟩)], tables := [(2, { hot := true, kind := 0, bucketsLog2 := 4, keyLen := 8, ageLimit := 0, seed := 0 })] } },
     0, 0, 4,
     stepIn ({ (stepping (stepWord 4 0 4 0 1 (2)) (5) (0xFFFFFFFF + 2 * 2 ^ 32)) with fwt := { live.fwt with grants := [(132, ⟨100, 10⟩), (136, ⟨100, 10⟩)], tables := [(2, { hot := true, kind := 0, bucketsLog2 := 4, keyLen := 8, ageLimit := 0, seed := 0 })] } }) 0 0 (stepPkt (5) (0xFFFFFFFF + 2 * 2 ^ 32)),
     ({ hot := true, kind := 0, bucketsLog2 := 4, keyLen := 8, ageLimit := 0, seed := 0 } : FTable), .lkpHotLookup 0 0,
     Or.inl ⟨rfl, rfl, rfl⟩, ⟨stepPkt (5) (0xFFFFFFFF + 2 * 2 ^ 32), by decide +kernel, by decide +kernel, rfl,
     by decide +kernel, by decide +kernel⟩, by decide +kernel, by first | decide +kernel | rfl, by decide +kernel, _,
     by first | decide +kernel | rfl⟩,
   ⟨{ (stepping (stepWord 5 0 4 0 1 (17)) (5) (0xFFFFFFFF + 2 * 2 ^ 32)) with fwt := { live.fwt with grants := [(132, ⟨100, 10⟩), (136, ⟨100, 10⟩)] } },
     0, 0, 5,
     stepIn ({ (stepping (stepWord 5 0 4 0 1 (17)) (5) (0xFFFFFFFF + 2 * 2 ^ 32)) with fwt := { live.fwt with grants := [(132, ⟨100, 10⟩), (136, ⟨100, 10⟩)] } }) 0 0 (stepPkt (5) (0xFFFFFFFF + 2 * 2 ^ 32)),
     ({ hot := false, kind := 1, bucketsLog2 := 4, keyLen := 8, ageLimit := 100, seed := 0 } : FTable), .lkpRldLookup 0 0,
     Or.inr ⟨rfl, rfl, rfl⟩, ⟨stepPkt (5) (0xFFFFFFFF + 2 * 2 ^ 32), by decide +kernel, by decide +kernel, rfl,
     by decide +kernel, by decide +kernel⟩, by decide +kernel, by first | decide +kernel | rfl, by decide +kernel, _,
     by first | decide +kernel | rfl⟩,
   ⟨{ (stepping (stepWord 6 0 0xFF 0 1 (1 + 5 * 2 ^ 8)) (5) (0xFFFFFFFF + 2 * 2 ^ 32)) with fwt := { live.fwt with grants := [(132, ⟨100, 10⟩), (136, ⟨100, 10⟩)] } },
     0, 0, 1, 0,
     stepIn ({ (stepping (stepWord 6 0 0xFF 0 1 (1 + 5 * 2 ^ 8)) (5) (0xFFFFFFFF + 2 * 2 ^ 32)) with fwt := { live.fwt with grants := [(132, ⟨100, 10⟩), (136, ⟨100, 10⟩)] } }) 0 0 (stepPkt (5) (0xFFFFFFFF + 2 * 2 ^ 32)),
     ({ hot := false, kind := 1, bucketsLog2 := 4, keyLen := 8, ageLimit := 100, seed := 0 } : FTable), _,
     leBytes 4 5 ++ List.replicate 20 0, .fwtLearn 0 0, _, Or.inl ⟨rfl, rfl, rfl, by decide +kernel⟩,
     ⟨stepPkt (5) (0xFFFFFFFF + 2 * 2 ^ 32), by decide +kernel, by decide +kernel, rfl, by decide +kernel,
     by decide +kernel⟩, by decide +kernel, by first | decide +kernel | rfl, by decide +kernel,
     by first | decide +kernel | rfl, by decide +kernel, by first | decide +kernel | rfl⟩,
   ⟨{ (stepping (stepWord 6 2 4 0 1 (1)) (5) (0xFFFFFFFF + 2 * 2 ^ 32)) with fwt := { live.fwt with grants := [(132, ⟨100, 10⟩), (136, ⟨100, 10⟩)], tables := [(1, ({ hot := false, kind := 2, bucketsLog2 := 4, keyLen := 8, ageLimit := 100, seed := 0 } : FTable))] } },
     0, 0, 2, 2,
     stepIn ({ (stepping (stepWord 6 2 4 0 1 (1)) (5) (0xFFFFFFFF + 2 * 2 ^ 32)) with fwt := { live.fwt with grants := [(132, ⟨100, 10⟩), (136, ⟨100, 10⟩)], tables := [(1, ({ hot := false, kind := 2, bucketsLog2 := 4, keyLen := 8, ageLimit := 100, seed := 0 } : FTable))] } }) 0 0 (stepPkt (5) (0xFFFFFFFF + 2 * 2 ^ 32)),
     ({ hot := false, kind := 2, bucketsLog2 := 4, keyLen := 8, ageLimit := 100, seed := 0 } : FTable), _,
     List.replicate 24 0, .fwtWriteFlow 0 0, _, Or.inr ⟨rfl, rfl, rfl, by decide +kernel, by decide +kernel⟩,
     ⟨stepPkt (5) (0xFFFFFFFF + 2 * 2 ^ 32), by decide +kernel, by decide +kernel, rfl, by decide +kernel,
     by decide +kernel⟩, by decide +kernel, by first | decide +kernel | rfl, by decide +kernel,
     by first | decide +kernel | rfl, by decide +kernel, by first | decide +kernel | rfl⟩,
   ⟨{ (stepping (stepWord 6 1 0xFF 0 1 (1)) (5) (0xFFFFFFFF + 2 * 2 ^ 32)) with fwt := { live.fwt with grants := [(132, ⟨100, 10⟩), (136, ⟨100, 10⟩)] } },
     0, 0,
     stepIn ({ (stepping (stepWord 6 1 0xFF 0 1 (1)) (5) (0xFFFFFFFF + 2 * 2 ^ 32)) with fwt := { live.fwt with grants := [(132, ⟨100, 10⟩), (136, ⟨100, 10⟩)] } }) 0 0 (stepPkt (5) (0xFFFFFFFF + 2 * 2 ^ 32)),
     ({ hot := false, kind := 1, bucketsLog2 := 4, keyLen := 8, ageLimit := 100, seed := 0 } : FTable),
     ⟨stepPkt (5) (0xFFFFFFFF + 2 * 2 ^ 32), by decide +kernel, by decide +kernel, rfl, by decide +kernel,
     by decide +kernel⟩, by decide +kernel, by first | decide +kernel | rfl, by decide +kernel⟩,
   ⟨live, 3, 0, ⟨1, 3, 2, [1], [2], false, false⟩, by decide +kernel⟩,
   ⟨live, 3, 1, 3, 2, 0, [1], by decide +kernel⟩,
   ⟨{ live with fwt := { live.fwt with p3 := { cycle := [.learn 1 ⟨1, 3, 2, [1], [2], false, false⟩, .learn 0 ⟨1, 3, 2, [1], [3], false, false⟩] } } },
     3, 1, 0, ⟨1, 3, 2, [1], [2], false, false⟩, ⟨1, 3, 2, [1], [3], false, false⟩, by decide +kernel⟩,
   ⟨{ live with now := 100000, fwt := { live.fwt with p3 := { locks := [(bktKey 15 5, ⟨2, 0⟩)] } } }, 3, 15, 5, _,
     by decide +kernel, by first | decide +kernel | rfl, by decide +kernel⟩⟩

/-- What `Obligations.GranaryStepsComplete` assumes is met, clause by clause. -/
theorem witness_GranaryStepsComplete :
    (∃ (s t : State) (p c : Nat) (x : StepIn) (used : List Nat) (g : Grant), Issues s p c 8 0 x ∧
      (isFrozen s (bits 11 0 x.bv) = false ∧ x.a.p = false ∧ x.b.p = false ∧ bits 16 0 x.av ≠ 0 ∧ bits 3 0 x.imm ≠ 0 ∧
      bits 3 0 x.imm ≠ 2 ∧ hookMismatch x (bits 11 0 x.bv) = false) ∧
      refusedEarly s (bits 11 0 x.bv) (bits 3 0 x.imm) (bits 16 0 x.av) = none ∧ retryWaiting s s.grn.waiting = (t, used) ∧
      (attempt t (bits 11 0 x.bv) (bits 3 0 x.imm) (bits 16 0 x.av) (fun q => used.count q) = .ok g) ∧ g.scrub = false) ∧
    (∃ (s t : State) (p c h a : Nat) (x : StepIn), Issues s p c 8 1 x ∧ (isFrozen s (bits 11 0 x.bv) = false ∧
      Clean x (x.a.p || x.b.p) ∧ hookMismatch x (bits 11 0 x.bv) = false) ∧ h = bits 39 0 x.av ∧
      freeHandle s h (bits 11 0 x.bv) (bitOf 0 x.imm) = (none, a, t)) ∧
    (∃ (s : State) (id : Nat), (waitOf s id).isSome = true) ∧
    (∃ (s : State) (id : Nat) (r : WaitReq), waitOf s id = some r ∧ r.scrub = none ∧ r.deadline ≤ s.now) ∧
    (∃ (s : State) (id : Nat) (r : WaitReq) (j : ScrubJob), waitOf s id = some r ∧ r.scrub = some j ∧
      scrubPosts s r.owner j = true) ∧
    (∃ (s : State) (h : Nat), (s.grn.scrubRate ≠ 0 ∧ domainRuns s 17 = true) ∧ nextDirty s s.grn.scrubAt = some h ∧ ∃ x n u,
      x = poolOf s (hPool h) ∧ n = 2 ^ x.sizeLog2 ∧
      u = countN (emit s (.hostWrite x.spaceFid (x.base + hIdx h * n) (List.replicate n PByte.zero))) 0xFFF cGrnScrubBytes n) ∧
    (∃ (s : State) (v : Nat), memReach s 0 = true) ∧
    (∃ (s : State), s.grn.queryDone = false) :=
  ⟨⟨{ (stepping (stepWord 8 0 2 0 1 (4)) (4096) (2)) with grn := { live.grn with shares := [(0x4002, ⟨0, 16, 1⟩)], bufs := [(4 * 2 ^ 34, { owner := 0xFFE, st := 0 })] } },
     _, 0, 0,
     stepIn ({ (stepping (stepWord 8 0 2 0 1 (4)) (4096) (2)) with grn := { live.grn with shares := [(0x4002, ⟨0, 16, 1⟩)], bufs := [(4 * 2 ^ 34, { owner := 0xFFE, st := 0 })] } }) 0 0 (stepPkt (4096) (2)),
     _, _, ⟨stepPkt (4096) (2), by decide +kernel, by decide +kernel, rfl, by decide +kernel, by decide +kernel⟩,
     by decide +kernel, by first | decide +kernel | rfl, by first | decide +kernel | rfl, by first | decide +kernel | rfl,
     by decide +kernel⟩,
   ⟨{ (stepping (stepWord 8 1 0xFF 0 1 (0)) (4 * 2 ^ 34) (2)) with grn := { live.grn with bufs := [(4 * 2 ^ 34, { owner := 2, st := 2 })] } },
     _, 0, 0, _, _,
     stepIn ({ (stepping (stepWord 8 1 0xFF 0 1 (0)) (4 * 2 ^ 34) (2)) with grn := { live.grn with bufs := [(4 * 2 ^ 34, { owner := 2, st := 2 })] } }) 0 0 (stepPkt (4 * 2 ^ 34) (2)),
     ⟨stepPkt (4 * 2 ^ 34) (2), by decide +kernel, by decide +kernel, rfl, by decide +kernel, by decide +kernel⟩,
     by decide +kernel, by first | decide +kernel | rfl, by first | decide +kernel | rfl⟩,
   ⟨{ live with grn := { live.grn with waiting := [({ id := 3, who := .haul 0, owner := 2, set := 4, len := 100, came := 0, deadline := 0, dst := 0 } : WaitReq)] } },
     3, by decide +kernel⟩,
   ⟨{ live with grn := { live.grn with waiting := [({ id := 3, who := .haul 0, owner := 2, set := 4, len := 100, came := 0, deadline := 0, dst := 0 } : WaitReq)] } },
     3, _, by first | decide +kernel | rfl, by first | decide +kernel | rfl, by decide +kernel⟩,
   ⟨{ live with grn := { live.grn with waiting := [({ id := 3, who := .haul 0, owner := 2, set := 4, len := 100, came := 0, deadline := 0, dst := 0, scrub := some ⟨[(4 * 2 ^ 34, { owner := 0xFFE, st := 1 })], none, false, 0⟩ } : WaitReq)] } },
     3, _, ⟨[(4 * 2 ^ 34, { owner := 0xFFE, st := 1 })], none, false, 0⟩, by first | decide +kernel | rfl,
     by first | decide +kernel | rfl, by decide +kernel⟩,
   ⟨live, 4 * 2 ^ 34, by decide +kernel, by first | decide +kernel | rfl, _, _, _, by first | decide +kernel | rfl,
     by first | decide +kernel | rfl, by first | decide +kernel | rfl⟩,
   ⟨live, 2 ^ 64, by decide +kernel⟩,
   ⟨live, by decide +kernel⟩⟩

/-- What `Obligations.DeliveryStepsComplete` assumes is met, clause by clause. -/
theorem witness_DeliveryStepsComplete :
    (∃ (s t : State) (p c n lane : Nat) (x : StepIn) (o : RecOp) (a : Sa), Issues s p c 9 0 x ∧ o = recOp x ∧
      (isFrozen s o.fid = false ∧ x.a.p = false ∧ x.b.p = false) ∧ saOf s o.sa = some a ∧ (a.st ≠ .dormant ∧
      a.owner = o.fid ∧ saErased s a = false ∧ (o.decrypt = true ↔ a.dir = 1) ∧ o.reserved = false ∧
      recLengthBad x.k a o = false ∧ anyPoison (recordBytes s x.k a o) = false ∧ (x.k.opnd x.w.dst).p = false) ∧
      recSeq s a (wireSeq a (rawBytes ((recordBytes s x.k a o).take o.aad))) = .ok n ∧ domainClosed s 18 = false ∧
      laneFor s x o.fid = (some lane, t)) ∧
    (∃ (s t : State) (id : Nat) (r : Rec) (k : Pkt) (x : StepIn), (s.cip.records.find? (fun y => y.id = id) = some r) ∧
      firstOnLane s r = true ∧ recPkt s r = some k ∧ t = takeRecord s r ∧ x = stepIn t r.p r.c k) ∧
    (∃ (s t : State) (lane : Nat) (l : CLane), (laneOf s lane = l ∧ l.owner ≠ 0xFFE ∧ l.held.isSome = true ∧
      l.claimAt + 1000 * s.cip.claimLimitUs ≤ s.now) ∧ t = setLane s lane l.wipe.release) ∧
    (∃ (s : State) (p c q : Nat) (x : StepIn) (r : Ring) (hs : List Nat) (fixed : List PByte), Issues s p c 10 0 x ∧
      (isFrozen s (bits 11 0 x.bv) = false ∧
      Clean x (x.a.p || x.b.p || anyPoison ((pktBytes s x.k).drop (bits 15 0 x.imm))) ∧ deliverWaits s x = false) ∧
      rxAtWindow s (bits 11 0 x.bv) (bits 19 12 x.bv) = some (q, r) ∧ deliverBufs s x.av (bits 11 0 x.bv) = some hs ∧
      fixUp x.k.fix (pktBytes s x.k) = some fixed ∧ bits 63 20 x.bv = 0 ∧ bits 39 16 x.imm = 0 ∧
      fixed.drop (bits 15 0 x.imm) ≠ [] ∧ (fixed.drop (bits 15 0 x.imm)).length ≤ (hs.map (bufSize s)).sum ∧
      destOpen s (bits 11 0 x.bv) r ((fillBufs s hs (fixed.drop (bits 15 0 x.imm))).length + b2n r.ts) = true) ∧
    (∃ (s : State) (p c : Nat) (x : StepIn), Issues s p c 11 0 x ∧ isFrozen s (bits 51 40 x.bv) = false ∧
      Clean x (x.a.p || x.b.p) ∧ dmarBad s x = false ∧ inWindows s (bits 51 40 x.bv) x.av (bits 13 0 x.imm) false = true ∧
      (pipeOf s p).parked.length < 2048) ∧
    (∃ (s t : State) (p c port cls : Nat) (x : StepIn) (b : List PByte), Issues s p c 12 0 x ∧ (isFrozen s x.k.fid = false ∧
      Clean x (x.a.p || x.b.p || (x.k.word 26).p || anyPoison (pktBytes s x.k))) ∧ port = bits 7 0 x.imm ∧
      cls = bits 2 0 x.av ∧ (mustWait s p x.k (.port port cls) = false ∧ (portBlock s port).isSome = true ∧
      bitOf (8 + cls) x.imm = true) ∧ fixUp x.k.fix (pktBytes s x.k) = some b ∧
      (queueFrame s port cls (({ bytes := b, chain := ownChain x.k, spilled := false, stampTag := if bitOf 16 x.imm then some (bits 47 16 (x.k.val 27)) else none, stomp := x.a.p || (x.k.word 26).p, meas := x.k.measPort s } : TxFrame)) = (.done,
      t))) ∧
    (∃ (s t : State) (p c : Nat) (x : StepIn) (b : List PByte), Issues s p c 12 1 x ∧ (isFrozen s x.k.fid = false ∧
      Clean x (x.a.p || x.b.p || (x.k.word 26).p || anyPoison (pktBytes s x.k)) ∧ x.imm = 0) ∧
      fixUp x.k.fix (pktBytes s x.k) = some b ∧
      placeLoop s p x.k (markBytes (leBytes 8 x.av) x.a.p ++ markBytes (leBytes 8 x.bv) x.b.p) b x.k.handle (loopChain s x.k) = (.done,
      t)) ∧
    (∃ (s : State) (p c : Nat) (x : StepIn) (z : Session), Issues s p c 12 2 x ∧ isFrozen s x.k.fid = false ∧
      Clean x (x.a.p || x.b.p || (x.k.word 26).p || anyPoison (pktBytes s x.k)) ∧
      (fixUp x.k.fix (pktBytes s x.k)).isNone = true) ∧
    (∃ (s : State) (p c : Nat) (x : StepIn) (z : Session), Issues s p c 12 2 x ∧ (isFrozen s x.k.fid = false ∧
      Clean x (x.a.p || x.b.p || (x.k.word 26).p || anyPoison (pktBytes s x.k)) ∧
      (fixUp x.k.fix (pktBytes s x.k)).isSome = true ∧ bitOf 0 x.imm = true) ∧ tget s.sw.sessions (bits 6 1 x.imm) = some z) ∧
    (∃ (s : State) (p c : Nat) (x : StepIn) (z : Session), Issues s p c 12 2 x ∧ isFrozen s x.k.fid = false ∧
      Clean x (x.a.p || x.b.p || (x.k.word 26).p || anyPoison (pktBytes s x.k)) ∧
      (fixUp x.k.fix (pktBytes s x.k)).isSome = true ∧ bitOf 0 x.imm = false ∧ wordsPoisoned x.k x.w.srcA 3 = false ∧
      (members x).all memberValid = true ∧ (targets x).any (targetWaits s p x.k) = false) ∧
    (∃ (s s0 t : State) (p c n : Nat) (cell : Option Nat) (x : StepIn) (ch : Chan), Issues s p c 13 0 x ∧
      (isFrozen s (bits 11 0 x.bv) = false ∧ Clean x (x.a.p || x.b.p) ∧ startsRefused s (bits 11 0 x.bv) = false) ∧
      n = bits 3 0 x.imm ∧ ch = chanOf s n ∧ (ch.mode = 2 ∧ ch.st ≠ .ungranted ∧ (ch.owner = bits 11 0 x.bv ∨
      ch.owner = 0xFFF) ∧ ch.lists.length < 64 ∧ bits 63 43 x.av = 0 ∧ bits 39 4 x.imm = 0 ∧ domainClosed s 23 = false ∧
      (pipeOf s p).parked.length < 2048) ∧ takeParkCell s p = (cell, s0) ∧
      (t = modPipe (issued s0 p c) p (fun y => { y with ctxs := tdel y.ctxs c, parked := y.parked ++ [{ x.k with trace := x.k.trace.map (fun u => { u with parked := true }), parkCell := cell }] })) ∧
      ∃ c1 : Chan,
      c1 = { ch with lists := ch.lists ++ [ { p := p, ord := x.k.ord, fid := bits 11 0 x.bv, cell := bits 39 0 x.av, count := bits 42 40 x.av + 1 }] }) :=
  ⟨⟨stepping (stepWord 9 0 2 0 1 (0)) (8 * 2 ^ 16 + 240 * 2 ^ 32) (9 + 2 * 2 ^ 32), _, 0, 0, _, _,
     stepIn (stepping (stepWord 9 0 2 0 1 (0)) (8 * 2 ^ 16 + 240 * 2 ^ 32) (9 + 2 * 2 ^ 32)) 0 0 (stepPkt (8 * 2 ^ 16 + 240 * 2 ^ 32) (9 + 2 * 2 ^ 32)),
     _, _, ⟨stepPkt (8 * 2 ^ 16 + 240 * 2 ^ 32) (9 + 2 * 2 ^ 32), by decide +kernel, by decide +kernel, rfl,
     by decide +kernel, by decide +kernel⟩, by first | decide +kernel | rfl, by decide +kernel,
     by first | decide +kernel | rfl, by decide +kernel, by first | decide +kernel | rfl, by decide +kernel,
     by first | decide +kernel | rfl⟩,
   ⟨{ live with seq := { live.seq with pipe0 := { ctxs := [(0, ({ stepPkt 5 2 with st := .wait } : Pkt))] } }, cip := { live.cip with lanes := [(31, { owner := 2 })], records := [({ id := 5, lane := 31, p := 0, c := 0, fid := 2, sa := 9, saSnap := sa9, seq := 1, off := 0, aad := 8, payload := 240, decrypt := false, hold := false, dun := 0, dst := 2, poison := false } : Rec)] } },
     _, 5, _, _, _, by first | decide +kernel | rfl, by decide +kernel, by first | decide +kernel | rfl,
     by first | decide +kernel | rfl, by first | decide +kernel | rfl⟩,
   ⟨{ live with cip := { live.cip with lanes := [(31, { owner := 2, held := some (0, 0) })] }, now := 100000 }, _, 31,
     { owner := 2, held := some (0, 0) }, by decide +kernel, by first | decide +kernel | rfl⟩,
   ⟨{ (stepping (stepWord 10 0 0xFF 0 1 (255)) (4 * 2 ^ 34) (2 + 6 * 2 ^ 12)) with grn := { (stepping 0 0 0).grn with bufs := [(7, { owner := 0xFFF, st := 2 }), (4 * 2 ^ 34, { owner := 2, st := 2 })] } },
     0, 0, _,
     stepIn ({ (stepping (stepWord 10 0 0xFF 0 1 (255)) (4 * 2 ^ 34) (2 + 6 * 2 ^ 12)) with grn := { (stepping 0 0 0).grn with bufs := [(7, { owner := 0xFFF, st := 2 }), (4 * 2 ^ 34, { owner := 2, st := 2 })] } }) 0 0 (stepPkt (4 * 2 ^ 34) (2 + 6 * 2 ^ 12)),
     _, _, _, ⟨stepPkt (4 * 2 ^ 34) (2 + 6 * 2 ^ 12), by decide +kernel, by decide +kernel, rfl, by decide +kernel,
     by decide +kernel⟩, by decide +kernel, by first | decide +kernel | rfl, by first | decide +kernel | rfl,
     by first | decide +kernel | rfl, by decide +kernel⟩,
   ⟨{ (stepping (stepWord 11 0 0xFF 0 1 (256)) (0x1000) (2 ^ 34 + 65536 + 2 * 2 ^ 40)) with grn := { (stepping 0 0 0).grn with bufs := [(7, { owner := 0xFFF, st := 2 }), (2 ^ 34 + 65536, { owner := 2, st := 2 })] } },
     0, 0,
     stepIn ({ (stepping (stepWord 11 0 0xFF 0 1 (256)) (0x1000) (2 ^ 34 + 65536 + 2 * 2 ^ 40)) with grn := { (stepping 0 0 0).grn with bufs := [(7, { owner := 0xFFF, st := 2 }), (2 ^ 34 + 65536, { owner := 2, st := 2 })] } }) 0 0 (stepPkt (0x1000) (2 ^ 34 + 65536 + 2 * 2 ^ 40)),
     ⟨stepPkt (0x1000) (2 ^ 34 + 65536 + 2 * 2 ^ 40), by decide +kernel, by decide +kernel, rfl, by decide +kernel,
     by decide +kernel⟩, by decide +kernel⟩,
   ⟨{ (stepping (stepWord 12 0 0xFF 0 0xFF (0x8000 + 2 ^ 16)) (7) (2)) with mac := { live.mac with ports := [(0, { enabled := true, link := true })] } },
     _, 0, 0, 0, 7,
     stepIn ({ (stepping (stepWord 12 0 0xFF 0 0xFF (0x8000 + 2 ^ 16)) (7) (2)) with mac := { live.mac with ports := [(0, { enabled := true, link := true })] } }) 0 0 (stepPkt (7) (2)),
     _, ⟨stepPkt (7) (2), by decide +kernel, by decide +kernel, rfl, by decide +kernel, by decide +kernel⟩,
     by decide +kernel, by first | decide +kernel | rfl, by first | decide +kernel | rfl, by decide +kernel,
     by first | decide +kernel | rfl, by first | decide +kernel | rfl⟩,
   ⟨stepping (stepWord 12 1 0xFF 0 1 (0)) (5) (2), _, 0, 0,
     stepIn (stepping (stepWord 12 1 0xFF 0 1 (0)) (5) (2)) 0 0 (stepPkt (5) (2)), _, ⟨stepPkt (5) (2), by decide +kernel,
     by decide +kernel, rfl, by decide +kernel, by decide +kernel⟩, by decide +kernel, by first | decide +kernel | rfl,
     by first | decide +kernel | rfl⟩,
   ⟨{ (stepping (stepWord 12 2 0xFF 0xFF 1 (5)) (5) (2)) with seq := { (stepping (stepWord 12 2 0xFF 0xFF 1 5) 5 2).seq with pipe0 := { ctxs := [(0, ({ stepPkt 5 2 with fix := some ⟨16, 0x1FF⟩ } : Pkt))] } } },
     0, 0,
     stepIn ({ (stepping (stepWord 12 2 0xFF 0xFF 1 (5)) (5) (2)) with seq := { (stepping (stepWord 12 2 0xFF 0xFF 1 5) 5 2).seq with pipe0 := { ctxs := [(0, ({ stepPkt 5 2 with fix := some ⟨16, 0x1FF⟩ } : Pkt))] } } }) 0 0 (({ stepPkt 5 2 with fix := some ⟨16, 0x1FF⟩ } : Pkt)),
     ⟨2, 6, 0, 1, false, 0, 0⟩, ⟨({ stepPkt 5 2 with fix := some ⟨16, 0x1FF⟩ } : Pkt), by decide +kernel, by decide +kernel,
     rfl, by decide +kernel, by decide +kernel⟩, by decide +kernel⟩,
   ⟨stepping (stepWord 12 2 0xFF 0xFF 1 (5)) (5) (2), 0, 0,
     stepIn (stepping (stepWord 12 2 0xFF 0xFF 1 (5)) (5) (2)) 0 0 (stepPkt (5) (2)), _, ⟨stepPkt (5) (2),
     by decide +kernel, by decide +kernel, rfl, by decide +kernel, by decide +kernel⟩, by decide +kernel,
     by first | decide +kernel | rfl⟩,
   ⟨stepping (stepWord 12 2 0xFF 2 1 (0)) (5) (2), 0, 0,
     stepIn (stepping (stepWord 12 2 0xFF 2 1 (0)) (5) (2)) 0 0 (stepPkt (5) (2)), ⟨2, 6, 0, 1, false, 0, 0⟩,
     ⟨stepPkt (5) (2), by decide +kernel, by decide +kernel, rfl, by decide +kernel, by decide +kernel⟩, by decide +kernel⟩,
   ⟨{ (stepping (stepWord 13 0 0xFF 0 1 (1)) (7 * 2 ^ 40) (2)) with haul := { chans := [(1, { owner := 0xFFF, mode := 2, st := .idle })] } },
     _, _, 0, 0, _, _,
     stepIn ({ (stepping (stepWord 13 0 0xFF 0 1 (1)) (7 * 2 ^ 40) (2)) with haul := { chans := [(1, { owner := 0xFFF, mode := 2, st := .idle })] } }) 0 0 (stepPkt (7 * 2 ^ 40) (2)),
     _, ⟨stepPkt (7 * 2 ^ 40) (2), by decide +kernel, by decide +kernel, rfl, by decide +kernel, by decide +kernel⟩,
     by decide +kernel, by first | decide +kernel | rfl, by first | decide +kernel | rfl, by decide +kernel,
     by first | decide +kernel | rfl, by first | decide +kernel | rfl, _, by first | decide +kernel | rfl⟩⟩

/-- What `Obligations.StorageStepsComplete` assumes is met, clause by clause. -/
theorem witness_StorageStepsComplete :
    (∃ (s : State) (p c : Nat) (x : StepIn) (cn : Conn), Issues s p c 15 0 x ∧ (isFrozen s (bits 11 0 x.bv) = false ∧
      x.a.p = false ∧ x.b.p = false) ∧ connOf s (bits 15 0 x.av) = some cn ∧ stgFrozen s (bits 11 0 x.bv) cn = false ∧
      stgTwinIdle s cn = false ∧ stgOwns cn (bits 11 0 x.bv) = true ∧ cn.pipeline = p) ∧
    (∃ (s : State) (p c : Nat) (x : StepIn) (cn : Conn), Issues s p c 15 1 x ∧ isFrozen s (putFid x) = false ∧
      connOf s (putConn x) = some cn ∧ stgFrozen s (putFid x) cn = false ∧ cn.pipeline = p ∧ stgTwinIdle s cn = false ∧
      bits 2 0 x.imm = 0 ∧ wordsPoisoned x.k x.w.srcA 8 = false ∧ x.b.p = false ∧ holdsTurn x = true ∧ 7 ≤ bits 7 3 x.imm) ∧
    (∃ (s : State) (p c : Nat) (x : StepIn) (cn : Conn), Issues s p c 15 1 x ∧ isFrozen s (putFid x) = false ∧
      connOf s (putConn x) = some cn ∧ (stgFrozen s (putFid x) cn = false ∧ cn.pipeline = p ∧ stgTwinIdle s cn = false) ∧
      ∃ i q cq cn1, (bits 2 0 x.imm = 1 ∧ x.a.p = false ∧ mustWait s p x.k (.turn (putConn x)) = false ∧
      holdsTurn x = false ∧ cn.st = .active ∧ stgOwns cn (putFid x) = true ∧ cn.outstanding < cn.cmdMax) ∧
      freeSlotOf cn = some i ∧ submitRing s x.k = some (q, cq) ∧ turnRoom s cn = true ∧
      cn1 = cn.setSlot i { tag := bits 47 16 (x.k.val 27), cq := q, st := 1, gen := ((cn.slot i).gen + 1) % 1024, allocAt := s.now }) ∧
    (∃ (s : State) (p c : Nat) (x : StepIn) (cn : Conn), Issues s p c 15 1 x ∧ isFrozen s (putFid x) = false ∧
      connOf s (putConn x) = some cn ∧ stgFrozen s (putFid x) cn = false ∧ cn.pipeline = p ∧ stgTwinIdle s cn = false ∧
      bits 2 0 x.imm = 2 ∧ x.a.p = false ∧ mustWait s p x.k (.turn (putConn x)) = false ∧ holdsTurn x = false ∧
      cn.st = .active ∧ turnRoom s cn = true) ∧
    (∃ (s : State) (p c : Nat) (x : StepIn) (cn : Conn), Issues s p c 15 1 x ∧ isFrozen s (putFid x) = false ∧
      connOf s (putConn x) = some cn ∧ (stgFrozen s (putFid x) cn = false ∧ cn.pipeline = p ∧ stgTwinIdle s cn = false) ∧
      ∃ i y, (bits 2 0 x.imm = 3 ∧ x.a.p = false ∧ x.b.p = false ∧ holdsTurn x = true) ∧ i = bits 8 3 x.imm ∧
      y = cn.slot i ∧ (y.st = 1 ∨ y.st = 2) ∧ mustWait s p x.k (.ring y.cq) = false) ∧
    (∃ (s : State) (p c : Nat) (x : StepIn) (cn : Conn), Issues s p c 15 1 x ∧ isFrozen s (putFid x) = false ∧
      connOf s (putConn x) = some cn ∧ (stgFrozen s (putFid x) cn = false ∧ cn.pipeline = p ∧ stgTwinIdle s cn = false) ∧
      ∃ i y, (bits 2 0 x.imm = 4 ∧ holdsTurn x = true) ∧ i = bits 8 3 x.imm ∧ y = cn.slot i ∧ y.st = 3) ∧
    (∃ (s : State) (p c : Nat) (x : StepIn) (cn : Conn), Issues s p c 15 1 x ∧ isFrozen s (putFid x) = false ∧
      connOf s (putConn x) = some cn ∧ stgFrozen s (putFid x) cn = false ∧ cn.pipeline = p ∧ stgTwinIdle s cn = false ∧
      bits 2 0 x.imm = 5 ∧ holdsTurn x = true) ∧
    (∃ (s : State) (conn : Nat) (c : Conn) (k : Pkt) (rest : List Pkt), connOf s conn = some c ∧ c.turn = k :: rest ∧
      c.turnHeld = false) ∧
    (∃ (s : State) (conn slot : Nat) (c : Conn), connOf s conn = some c ∧ ((c.slot slot).st = 1 ∧
      (c.slot slot).allocAt + 1000000 * c.timeoutMs ≤ s.now ∧ stgTwinIdle s c = false) ∧ ∃ c1,
      c1 = c.setSlot slot { c.slot slot with st := 2 }) ∧
    (∃ (s : State) (conn : Nat) (c c1 : Conn), connOf s conn = some c ∧ (c.timer ≠ 0 ∧ c.timer ≤ timeNow s ∧
      stgTwinIdle s c = false) ∧ c1 = { c with timer := 0, dirty := (c.dirty ++ [0]).eraseDups }) ∧
    (∃ (s : State) (conn kind slot cid ns : Nat) (c c1 : Conn) (rest : List (Nat × Nat × Nat × Nat)),
      connOf s conn = some c ∧ c.timerCells = (kind, slot, cid, ns) :: rest ∧ c1 = { c with timerCells := rest }) :=
  ⟨⟨stepping (stepWord 15 0 16 0 1 (31)) (4) (2), 0, 0,
     stepIn (stepping (stepWord 15 0 16 0 1 (31)) (4) (2)) 0 0 (stepPkt (4) (2)), conn4, ⟨stepPkt (4) (2),
     by decide +kernel, by decide +kernel, rfl, by decide +kernel, by decide +kernel⟩, by decide +kernel,
     by first | decide +kernel | rfl, by decide +kernel⟩,
   ⟨{ (stepping (stepWord 15 1 0xFF 0 1 (2 * 2 ^ 12 + 4 * 2 ^ 24 + 7 * 8)) (5) (2)) with seq := { (stepping (stepWord 15 1 0xFF 0 1 (2 * 2 ^ 12 + 4 * 2 ^ 24 + 7 * 8)) (5) (2)).seq with pipe0 := { ctxs := [(0, ({ stepPkt (5) (2) with conn := some 4 } : Pkt))] } } },
     0, 0,
     stepIn ({ (stepping (stepWord 15 1 0xFF 0 1 (2 * 2 ^ 12 + 4 * 2 ^ 24 + 7 * 8)) (5) (2)) with seq := { (stepping (stepWord 15 1 0xFF 0 1 (2 * 2 ^ 12 + 4 * 2 ^ 24 + 7 * 8)) (5) (2)).seq with pipe0 := { ctxs := [(0, ({ stepPkt (5) (2) with conn := some 4 } : Pkt))] } } }) 0 0 (({ stepPkt (5) (2) with conn := some 4 } : Pkt)),
     conn4, ⟨({ stepPkt (5) (2) with conn := some 4 } : Pkt), by decide +kernel, by decide +kernel, rfl, by decide +kernel,
     by decide +kernel⟩, by decide +kernel, by first | decide +kernel | rfl, by decide +kernel⟩,
   ⟨{ (stepping (stepWord 15 1 0xFF 0 1 (2 * 2 ^ 12 + 4 * 2 ^ 24 + 1)) (5) (2)) with seq := { (stepping (stepWord 15 1 0xFF 0 1 (2 * 2 ^ 12 + 4 * 2 ^ 24 + 1)) (5) (2)).seq with pipe0 := { ctxs := [(0, ({ stepPkt 5 2 with words := mkWords (fun i => if i = 27 then 5 + 9 * 2 ^ 16 else pktWords 5 2 i) } : Pkt))] } } },
     0, 0,
     stepIn ({ (stepping (stepWord 15 1 0xFF 0 1 (2 * 2 ^ 12 + 4 * 2 ^ 24 + 1)) (5) (2)) with seq := { (stepping (stepWord 15 1 0xFF 0 1 (2 * 2 ^ 12 + 4 * 2 ^ 24 + 1)) (5) (2)).seq with pipe0 := { ctxs := [(0, ({ stepPkt 5 2 with words := mkWords (fun i => if i = 27 then 5 + 9 * 2 ^ 16 else pktWords 5 2 i) } : Pkt))] } } }) 0 0 (({ stepPkt 5 2 with words := mkWords (fun i => if i = 27 then 5 + 9 * 2 ^ 16 else pktWords 5 2 i) } : Pkt)),
     conn4, ⟨({ stepPkt 5 2 with words := mkWords (fun i => if i = 27 then 5 + 9 * 2 ^ 16 else pktWords 5 2 i) } : Pkt),
     by decide +kernel, by decide +kernel, rfl, by decide +kernel, by decide +kernel⟩, by decide +kernel,
     by first | decide +kernel | rfl, by decide +kernel, 0, 7, cqRing,
     conn4.setSlot 0 { tag := 9, cq := 7, st := 1, gen := 1, allocAt := 0 }, by decide +kernel,
     by first | decide +kernel | rfl, by first | decide +kernel | rfl, by decide +kernel, by first | decide +kernel | rfl⟩,
   ⟨stepping (stepWord 15 1 0xFF 0 1 (2 * 2 ^ 12 + 4 * 2 ^ 24 + 2)) (5) (2), 0, 0,
     stepIn (stepping (stepWord 15 1 0xFF 0 1 (2 * 2 ^ 12 + 4 * 2 ^ 24 + 2)) (5) (2)) 0 0 (stepPkt (5) (2)), conn4,
     ⟨stepPkt (5) (2), by decide +kernel, by decide +kernel, rfl, by decide +kernel, by decide +kernel⟩, by decide +kernel,
     by first | decide +kernel | rfl, by decide +kernel⟩,
   ⟨{ (stepping (stepWord 15 1 0xFF 0 1 (2 * 2 ^ 12 + 4 * 2 ^ 24 + 3 + 5 * 2 ^ 3)) (5) (2)) with seq := { (stepping (stepWord 15 1 0xFF 0 1 (2 * 2 ^ 12 + 4 * 2 ^ 24 + 3 + 5 * 2 ^ 3)) (5) (2)).seq with pipe0 := { ctxs := [(0, ({ stepPkt (5) (2) with conn := some 4 } : Pkt))] } }, stg := { (stepping (stepWord 15 1 0xFF 0 1 (2 * 2 ^ 12 + 4 * 2 ^ 24 + 3 + 5 * 2 ^ 3)) (5) (2)).stg with conns := [(4, { conn4 with slots := [(5, { tag := 9, cq := 7, st := 1, gen := 1, allocAt := 0 })] })] } },
     0, 0,
     stepIn ({ (stepping (stepWord 15 1 0xFF 0 1 (2 * 2 ^ 12 + 4 * 2 ^ 24 + 3 + 5 * 2 ^ 3)) (5) (2)) with seq := { (stepping (stepWord 15 1 0xFF 0 1 (2 * 2 ^ 12 + 4 * 2 ^ 24 + 3 + 5 * 2 ^ 3)) (5) (2)).seq with pipe0 := { ctxs := [(0, ({ stepPkt (5) (2) with conn := some 4 } : Pkt))] } }, stg := { (stepping (stepWord 15 1 0xFF 0 1 (2 * 2 ^ 12 + 4 * 2 ^ 24 + 3 + 5 * 2 ^ 3)) (5) (2)).stg with conns := [(4, { conn4 with slots := [(5, { tag := 9, cq := 7, st := 1, gen := 1, allocAt := 0 })] })] } }) 0 0 (({ stepPkt (5) (2) with conn := some 4 } : Pkt)),
     ({ conn4 with slots := [(5, { tag := 9, cq := 7, st := 1, gen := 1, allocAt := 0 })] }),
     ⟨({ stepPkt (5) (2) with conn := some 4 } : Pkt), by decide +kernel, by decide +kernel, rfl, by decide +kernel,
     by decide +kernel⟩, by decide +kernel, by first | decide +kernel | rfl, by decide +kernel, 5,
     ({ tag := 9, cq := 7, st := 1, gen := 1, allocAt := 0 } : CSlot), by decide +kernel, by first | decide +kernel | rfl,
     by first | decide +kernel | rfl, by decide +kernel⟩,
   ⟨{ (stepping (stepWord 15 1 0xFF 0 1 (2 * 2 ^ 12 + 4 * 2 ^ 24 + 4 + 5 * 2 ^ 3)) (5) (2)) with seq := { (stepping (stepWord 15 1 0xFF 0 1 (2 * 2 ^ 12 + 4 * 2 ^ 24 + 4 + 5 * 2 ^ 3)) (5) (2)).seq with pipe0 := { ctxs := [(0, ({ stepPkt (5) (2) with conn := some 4 } : Pkt))] } }, stg := { (stepping (stepWord 15 1 0xFF 0 1 (2 * 2 ^ 12 + 4 * 2 ^ 24 + 4 + 5 * 2 ^ 3)) (5) (2)).stg with conns := [(4, { conn4 with slots := [(5, { tag := 9, cq := 7, st := 3, gen := 1, allocAt := 0 })] })] } },
     0, 0,
     stepIn ({ (stepping (stepWord 15 1 0xFF 0 1 (2 * 2 ^ 12 + 4 * 2 ^ 24 + 4 + 5 * 2 ^ 3)) (5) (2)) with seq := { (stepping (stepWord 15 1 0xFF 0 1 (2 * 2 ^ 12 + 4 * 2 ^ 24 + 4 + 5 * 2 ^ 3)) (5) (2)).seq with pipe0 := { ctxs := [(0, ({ stepPkt (5) (2) with conn := some 4 } : Pkt))] } }, stg := { (stepping (stepWord 15 1 0xFF 0 1 (2 * 2 ^ 12 + 4 * 2 ^ 24 + 4 + 5 * 2 ^ 3)) (5) (2)).stg with conns := [(4, { conn4 with slots := [(5, { tag := 9, cq := 7, st := 3, gen := 1, allocAt := 0 })] })] } }) 0 0 (({ stepPkt (5) (2) with conn := some 4 } : Pkt)),
     ({ conn4 with slots := [(5, { tag := 9, cq := 7, st := 3, gen := 1, allocAt := 0 })] }),
     ⟨({ stepPkt (5) (2) with conn := some 4 } : Pkt), by decide +kernel, by decide +kernel, rfl, by decide +kernel,
     by decide +kernel⟩, by decide +kernel, by first | decide +kernel | rfl, by decide +kernel, 5,
     ({ tag := 9, cq := 7, st := 3, gen := 1, allocAt := 0 } : CSlot), by decide +kernel, by first | decide +kernel | rfl,
     by first | decide +kernel | rfl, by decide +kernel⟩,
   ⟨{ (stepping (stepWord 15 1 0xFF 0 1 (2 * 2 ^ 12 + 4 * 2 ^ 24 + 5 + 255 * 2 ^ 3)) (5) (2)) with seq := { (stepping (stepWord 15 1 0xFF 0 1 (2 * 2 ^ 12 + 4 * 2 ^ 24 + 5 + 255 * 2 ^ 3)) (5) (2)).seq with pipe0 := { ctxs := [(0, ({ stepPkt (5) (2) with conn := some 4 } : Pkt))] } } },
     0, 0,
     stepIn ({ (stepping (stepWord 15 1 0xFF 0 1 (2 * 2 ^ 12 + 4 * 2 ^ 24 + 5 + 255 * 2 ^ 3)) (5) (2)) with seq := { (stepping (stepWord 15 1 0xFF 0 1 (2 * 2 ^ 12 + 4 * 2 ^ 24 + 5 + 255 * 2 ^ 3)) (5) (2)).seq with pipe0 := { ctxs := [(0, ({ stepPkt (5) (2) with conn := some 4 } : Pkt))] } } }) 0 0 (({ stepPkt (5) (2) with conn := some 4 } : Pkt)),
     conn4, ⟨({ stepPkt (5) (2) with conn := some 4 } : Pkt), by decide +kernel, by decide +kernel, rfl, by decide +kernel,
     by decide +kernel⟩, by decide +kernel, by first | decide +kernel | rfl, by decide +kernel⟩,
   ⟨{ live with now := 10000000, stg := { live.stg with conns := [(4, { conn4 with turn := [stepPkt 5 2] })] } }, 4,
     { conn4 with turn := [stepPkt 5 2] }, stepPkt 5 2, [], by first | decide +kernel | rfl,
     by first | decide +kernel | rfl, by decide +kernel⟩,
   ⟨{ live with now := 10000000, stg := { live.stg with conns := [(4, { conn4 with slots := [(5, { tag := 9, cq := 7, st := 1, gen := 1, allocAt := 0 })] })] } },
     4, 5, { conn4 with slots := [(5, { tag := 9, cq := 7, st := 1, gen := 1, allocAt := 0 })] },
     by first | decide +kernel | rfl, by decide +kernel,
     Conn.setSlot ({ conn4 with slots := [(5, { tag := 9, cq := 7, st := 1, gen := 1, allocAt := 0 })] }) 5 { tag := 9, cq := 7, st := 2, gen := 1, allocAt := 0 },
     by first | decide +kernel | rfl⟩,
   ⟨{ live with now := 10000000, stg := { live.stg with conns := [(4, { conn4 with timer := 7 })] } }, 4,
     { conn4 with timer := 7 }, { conn4 with dirty := [0] }, by first | decide +kernel | rfl, by decide +kernel,
     by first | decide +kernel | rfl⟩,
   ⟨{ live with now := 10000000, stg := { live.stg with conns := [(4, { conn4 with timerCells := [(3, 5, 1029, 100)] })] } },
     4, 3, 5, 1029, 100, { conn4 with timerCells := [(3, 5, 1029, 100)] }, conn4, [], by first | decide +kernel | rfl,
     by first | decide +kernel | rfl, by first | decide +kernel | rfl⟩⟩

end Sys2Proof.Tests
end

/-! PROOFS. Memory requests to the registers: what a write of a BAR or of configuration space does (O33), what a BAR reads
as (O59), and what a writable register reads as after a write (O60). -/

namespace Sys2Proof.Machine

/-! ## What REGISTER_WRITE does (R12, R38, R356) -/

section RegisterWrite

variable {s : State} {fid off size v n : Nat} {r : Reg}

/-- The areas that have rules of their own instead of one register of a fixed width. -/
def Reg.isArea : Reg → Bool
  | .doorbells _ _ | .msix _ _ | .pba => true
  | _ => false

theorem Reg.isArea_eq_false_of_ne (hd : ∀ k o, r ≠ .doorbells k o) (hm : ∀ k o, r ≠ .msix k o) (hp : r ≠ .pba) :
    r.isArea = false := by
  cases r with
  | doorbells k o => exact absurd rfl (hd k o)
  | msix k o => exact absurd rfl (hm k o)
  | pba => exact absurd rfl hp
  | _ => rfl

/-- The dispatch hands a register write to its meaning. -/
theorem exec_registerWrite (s : State) (fid off size v : Nat) :
    exec (.registerWrite fid off size v) s = execRegisterWrite fid off size v s := rfl

/-- Below 2^32 a write is a memory request (log entry 109). -/
theorem exec_registerWrite_memory (hoff : off < 2 ^ 32) : exec (.registerWrite fid off size v) s = .next (
    if !memReach s fid then s else if size = 0 || 8 < size then denyWrite s fid else barWrite s fid off size v) := by
  rw [exec_registerWrite, execRegisterWrite, if_neg (Nat.not_le.mpr hoff)]

/-- A write of 1 to 8 bytes that reaches a BAR acts there. -/
theorem exec_registerWrite_bar (hoff : off < 2 ^ 32) (hreach : memReach s fid = true) (hpos : 0 < size)
    (hle : size ≤ 8) : exec (.registerWrite fid off size v) s = .next (barWrite s fid off size v) := by
  have hsize : ¬ (size = 0 ∨ 8 < size) := by omega
  simp [exec_registerWrite_memory hoff, hreach, hsize]

/-- A write of a BAR that memory requests do not reach does nothing. -/
theorem exec_registerWrite_unreached (hoff : off < 2 ^ 32) (hreach : memReach s fid = false) :
    exec (.registerWrite fid off size v) s = .next s := by
  simp [exec_registerWrite_memory hoff, hreach]

/-- A write within one dword of configuration space acts where configuration requests are served. -/
theorem exec_registerWrite_config (hoff : 2 ^ 32 ≤ off) (hreach : cfgReach s fid = true) (hpos : 1 ≤ size)
    (hfits : off % 4 + size ≤ 4) :
    exec (.registerWrite fid off size v) s = .next (writeConfig s fid (off - 2 ^ 32) size v) := by
  rw [exec_registerWrite, execRegisterWrite, if_pos hoff]
  simp [hreach, hpos, hfits]

/-- A write that lies in one register acts on it when its size is the register's, and is otherwise discarded and counted. -/
theorem barWrite_register (hreg : regAt fid off = some (n, r)) (harea : r.isArea = false) :
    barWrite s fid off size v = if size = n then writeReg s fid r (v % 2 ^ (8 * n)) else denyWrite s fid := by
  unfold barWrite
  rw [hreg]
  cases r with
  | doorbells k o | msix k o | pba => simp [Reg.isArea] at harea
  | _ => rfl

theorem barWrite_of_none (hreg : regAt fid off = none) : barWrite s fid off size v = denyWrite s fid := by
  unfold barWrite
  rw [hreg]

/-- A write to a place without a register is discarded and counted, whatever its size. -/
theorem exec_registerWrite_of_none (hoff : off < 2 ^ 32) (hreach : memReach s fid = true)
    (hreg : regAt fid off = none) : exec (.registerWrite fid off size v) s = .next (denyWrite s fid) := by
  simp [exec_registerWrite_memory hoff, hreach, barWrite_of_none hreg]

/-- A write to a doorbell window is the DOORBELL of that window. -/
theorem barWrite_doorbells {k o : Nat} (hreg : regAt fid off = some (n, .doorbells k o)) :
    .next (barWrite s fid off size v) = exec (.doorbell fid k o size v) s := by
  unfold barWrite
  rw [hreg]
  rfl

theorem barWrite_msix {vec w : Nat} (hreg : regAt fid off = some (n, .msix vec w)) :
    barWrite s fid off size v = writeMsix s fid vec w size v := by
  unfold barWrite
  rw [hreg]

end RegisterWrite

/-- Settles O33: by the place that the write names, a register, an area with rules of its own, no register, configuration
space, or a function that is not reached. -/
theorem registerWriteCompletes : Obligations.RegisterWriteCompletes := by
  unfold Obligations.RegisterWriteCompletes
  refine ⟨?register, ?doorbells, ?msix, ?none, ?config, ?unreached⟩
  case register =>
    intro s fid off size v n r hoff hreach hpos hle hreg hd hm hp
    rw [exec_registerWrite_bar hoff hreach hpos hle, barWrite_register hreg (Reg.isArea_eq_false_of_ne hd hm hp)]
  case doorbells =>
    intro s fid off size v n k o hoff hreach hpos hle hreg
    rw [exec_registerWrite_bar hoff hreach hpos hle, barWrite_doorbells hreg]
  case msix =>
    intro s fid off size v n vec w hoff hreach hpos hle hreg
    rw [exec_registerWrite_bar hoff hreach hpos hle, barWrite_msix hreg]
  case none => exact fun s fid off size v => exec_registerWrite_of_none
  case config => exact fun s fid off size v => exec_registerWrite_config
  case unreached => exact fun s fid off size v => exec_registerWrite_unreached

/-! ## What a BAR reads as (R9, R11, R356) -/

section BarRead

variable {s : State} {fid off v k n : Nat}

/-- A byte within an 8-byte register is that byte of its value. -/
theorem barByte_wide (halign : off % 8 = 0) (hreg : regRead s fid off = some (8, v)) (hk : k < 8) :
    barByte s fid (off + k) = v / 256 ^ k % 256 := by
  have hstart : (off + k) / 8 * 8 = off := by omega
  have hbyte : (off + k) % 8 = k := by omega
  simp [barByte, hstart, hbyte, hreg]

/-- A byte within a 4-byte register that no 8-byte register covers is that byte of its value. -/
theorem barByte_narrow (halign : off % 4 = 0) (hreg : regRead s fid off = some (4, v))
    (hwide : ∀ x, regRead s fid (off / 8 * 8) ≠ some (8, x)) (hk : k < 4) :
    barByte s fid (off + k) = v / 256 ^ k % 256 := by
  have hstart8 : (off + k) / 8 * 8 = off / 8 * 8 := by omega
  have hstart4 : (off + k) / 4 * 4 = off := by omega
  have hbyte : (off + k) % 4 = k := by omega
  unfold barByte
  rw [hstart8, hstart4, hbyte, hreg]
  split
  next x hx => exact absurd hx (hwide x)
  next heq _ => cases heq; rfl
  next h => exact absurd rfl (h v)

/-- A byte where no register lies is zero. -/
theorem barByte_of_none {a : Nat} (hwide : regRead s fid (a / 8 * 8) = none)
    (hnarrow : regRead s fid (a / 4 * 4) = none) : barByte s fid a = 0 := by
  simp [barByte, hwide, hnarrow]

/-- A read of 1 to 8 bytes of a BAR that memory requests reach returns the bytes there. -/
theorem barRead_reached (hreach : memReach s fid = true) (hpos : 1 ≤ n) (hle : n ≤ 8) :
    barRead s fid off n = some ((List.range n).map (fun j => barByte s fid (off + j))) := by
  simp [barRead, hreach, hpos, hle]

/-- No data comes from a function that is not reached, nor for a read of no byte or of more than 8. -/
theorem barRead_eq_none (h : memReach s fid = false ∨ n = 0 ∨ 8 < n) : barRead s fid off n = none := by
  unfold barRead
  rw [if_neg]
  simp only [Bool.and_eq_true, decide_eq_true_eq]
  rintro ⟨⟨hreach, hpos⟩, hle⟩
  obtain hreach' | hsize := h
  · simp [hreach'] at hreach
  · omega

/-- A read that lies in one register whose bytes from `i` on are known returns those bytes. -/
theorem barRead_within {i : Nat} (hreach : memReach s fid = true) (hpos : 1 ≤ n) (hle : n ≤ 8)
    (hbyte : ∀ k, k < i + n → barByte s fid (off + k) = v / 256 ^ k % 256) :
    barRead s fid (off + i) n = some ((List.range n).map (fun j => v / 256 ^ (i + j) % 256)) := by
  rw [barRead_reached hreach hpos hle]
  refine congrArg some (List.map_congr_left fun j hj => ?_)
  rw [Nat.add_assoc]
  exact hbyte (i + j) (by have := List.mem_range.mp hj; omega)

end BarRead

/-- Settles O59: byte by byte, from what covers the byte addressed. -/
theorem readsReturnRegisterBytes : Obligations.ReadsReturnRegisterBytes := by
  unfold Obligations.ReadsReturnRegisterBytes
  refine ⟨?wide, ?narrow, ?empty, ?noData⟩
  case wide =>
    intro s fid off v i n hreach halign hreg hpos hfits
    exact barRead_within hreach hpos (by omega) fun k hk => barByte_wide halign hreg (by omega)
  case narrow =>
    intro s fid off v i n hreach halign hreg hwide hpos hfits
    exact barRead_within hreach hpos (by omega) fun k hk => barByte_narrow halign hreg hwide (by omega)
  case empty =>
    intro s fid a hreach hwide hnarrow
    rw [barRead_reached hreach (by omega) (by omega)]
    simp [barByte_of_none hwide hnarrow]
  case noData => exact fun s fid off n => barRead_eq_none

/-! ## Fields of a register word -/

/-- A field that begins at bit 0 is a remainder. -/
theorem bits_zero (hi v : Nat) : bits hi 0 v = v % 2 ^ (hi + 1) := by simp [bits]

/-- A word with one field at bit 0 is the field's value. -/
theorem word_field (w x : Nat) : word [(0, w, x)] = x % 2 ^ w := by simp [word]

/-! ## What a writable register reads as after a write (R12) -/

/-- What a discarded write leaves of the units whose registers have a range: it acts on the counters alone (R38). -/
@[simp] theorem denyWrite_grn (s : State) (fid : Nat) : (denyWrite s fid).grn = s.grn := countN_grn s fid _ 1
@[simp] theorem denyWrite_fwt (s : State) (fid : Nat) : (denyWrite s fid).fwt = s.fwt := countN_fwt s fid _ 1
@[simp] theorem denyWrite_mac (s : State) (fid : Nat) : (denyWrite s fid).mac = s.mac := countN_mac s fid _ 1
@[simp] theorem denyWrite_cip (s : State) (fid : Nat) : (denyWrite s fid).cip = s.cip := countN_cip s fid _ 1
@[simp] theorem denyWrite_alm (s : State) (fid : Nat) : (denyWrite s fid).alm = s.alm := countN_alm s fid _ 1

section ReadBack

variable {s : State} {v : Nat}

/-- A full-width write of a register of PF0's BAR acts on that register. -/
theorem exec_registerWrite_full {off n : Nat} {r : Reg} (hreach : memReach s 0 = true)
    (hreg : regAt 0 off = some (n, r)) (harea : r.isArea = false) (hoff : off < 2 ^ 32) (hpos : 0 < n) (hle : n ≤ 8) :
    exec (.registerWrite 0 off n v) s = .next (writeReg s 0 r (v % 2 ^ (8 * n))) := by
  rw [exec_registerWrite_bar hoff hreach hpos hle, barWrite_register hreg harea, if_pos rfl]

/-- The same of a 4-byte register at a given offset, with a value of 32 bits. -/
theorem exec_registerWrite_dword {off : Nat} {r : Reg} (hreach : memReach s 0 = true) (hv : v < 2 ^ 32)
    (hreg : regAt 0 off = some (4, r) := by rfl) (harea : r.isArea = false := by rfl) (hoff : off < 2 ^ 32 := by decide) :
    exec (.registerWrite 0 off 4 v) s = .next (writeReg s 0 r v) := by
  rw [exec_registerWrite_full hreach hreg harea hoff (by decide) (by decide), Nat.mod_eq_of_lt hv]

section Reads

/-! The 4-byte registers of the statement, each by its map. -/

variable (s)

theorem regRead_svcPort : regRead s 0 0x100044 = some (4, word [(0, 16, s.stw.udpPort)]) := rfl
theorem regRead_mbxSel : regRead s 0 0x100048 = some (4, word [(0, 12, s.stw.mbxSel)]) := rfl
theorem regRead_seqWindow : regRead s 0 0x20000C = some (4, seqWindow s) := rfl
theorem regRead_scrub : regRead s 0 0x60000C = some (4, word [(0, 16, s.grn.scrubRate)]) := rfl
theorem regRead_lockLimit : regRead s 0 0x700010 = some (4, word [(0, 10, s.fwt.lockLimitUs)]) := rfl
theorem regRead_timeAdj : regRead s 0 0x800030 = some (4, s.mac.freqAdj.toNat) := rfl
theorem regRead_claimLimit : regRead s 0 0x90000C = some (4, word [(0, 10, s.cip.claimLimitUs)]) := rfl
theorem regRead_fnSel : regRead s 0 0xC00040 = some (4, word [(0, 12, s.fmg.sel.fid)]) := rfl
theorem regRead_fnState : regRead s 0 0xC00048 = some (8, fnState s.fmg.sel.fn s.fmg.sel.vfEnabled) := rfl
theorem regRead_fnViol : regRead s 0 0xC00050 = some (8, fnViol s.fmg.sel.fn) := rfl
theorem regRead_calTrim : regRead s 0 0xE0001C = some (4, word [(0, 16, s.alm.trim)]) := rfl
theorem regRead_almFault : regRead s 0 0xE00040 = some (4, almFault s) := rfl

end Reads

/-- STW_SVC_PORT holds 16 bits. -/
theorem svcPort_writeReads (hreach : memReach s 0 = true) (hv : v < 2 ^ 32) :
    WriteReads s 0x100044 4 v (v % 2 ^ 16) := by
  refine ⟨_, exec_registerWrite_dword hreach hv, ?_⟩
  simp [regRead_svcPort, writeReg, writeStw, word_field, bits_zero]

/-- STW_MBX_SEL holds a FID. -/
theorem mbxSel_writeReads (hreach : memReach s 0 = true) (hv : v < 2 ^ 32) :
    WriteReads s 0x100048 4 v (v % 2 ^ 12) := by
  refine ⟨_, exec_registerWrite_dword hreach hv, ?_⟩
  simp [regRead_mbxSel, writeReg, writeStw, word_field, bits_zero]

/-- SEQ_WINDOW holds a bank and a cluster; the latch of a first half shows beside them and takes no write. -/
theorem seqWindow_writeReads (hreach : memReach s 0 = true) (hv : v < 2 ^ 32) :
    WriteReads s 0x20000C 4 v (v % 2 ^ 3 + b2n s.seq.loLatched.isSome * 8) := by
  refine ⟨_, exec_registerWrite_dword hreach hv, ?_⟩
  have hlatch : b2n s.seq.loLatched.isSome < 2 := by unfold b2n; split <;> decide
  simp [regRead_seqWindow, seqWindow, writeReg, writeSeq, word, bits]
  omega

/-- GRN_SCRUB takes a rate of at most 400; a higher one leaves it as it was (R152). -/
theorem writeReg_scrub_scrubRate :
    (writeReg s 0 .scrub v).grn.scrubRate = if 400 < v % 2 ^ 16 then s.grn.scrubRate else v % 2 ^ 16 := by
  simp only [writeReg, writeStore, bits_zero]
  split
  · rw [denyWrite_grn]
  · rfl

theorem scrub_writeReads (hreach : memReach s 0 = true) (hv : v < 2 ^ 32) :
    WriteReads s 0x60000C 4 v ((if 400 < v % 2 ^ 16 then s.grn.scrubRate else v % 2 ^ 16) % 2 ^ 16) := by
  refine ⟨_, exec_registerWrite_dword hreach hv, ?_⟩
  rw [regRead_scrub, writeReg_scrub_scrubRate, word_field]

/-- FWT_LOCK_LIMIT takes 10 to 1,000 microseconds; any other value leaves it as it was (R183). -/
theorem writeReg_lockLimit_lockLimitUs : (writeReg s 0 .lockLimit v).fwt.lockLimitUs
    = if v % 2 ^ 10 < 10 ∨ 1000 < v % 2 ^ 10 then s.fwt.lockLimitUs else v % 2 ^ 10 := by
  simp only [writeReg, writeStore, bits_zero, Bool.or_eq_true, decide_eq_true_eq]
  split
  · rw [denyWrite_fwt]
  · rfl

theorem lockLimit_writeReads (hreach : memReach s 0 = true) (hv : v < 2 ^ 32) : WriteReads s 0x700010 4 v
    ((if v % 2 ^ 10 < 10 ∨ 1000 < v % 2 ^ 10 then s.fwt.lockLimitUs else v % 2 ^ 10) % 2 ^ 10) := by
  refine ⟨_, exec_registerWrite_dword hreach hv, ?_⟩
  rw [regRead_lockLimit, writeReg_lockLimit_lockLimitUs, word_field]

/-- MAC_TIME_ADJ takes an adjustment in its range; any other value leaves it as it was (R217). -/
theorem writeReg_timeAdj_freqAdj :
    (writeReg s 0 .timeAdj v).mac.freqAdj = if freqOk v then BitVec.ofNat 32 v else s.mac.freqAdj := by
  simp only [writeReg, writeMac]
  split
  · rfl
  · rw [denyWrite_mac]

/-- Of 32-bit values, those within 2,147,483 of zero either way are in the range of an adjustment. -/
theorem freqOk_iff (hv : v < 2 ^ 32) : freqOk v = true ↔ v ≤ 2147483 ∨ 2 ^ 32 - 2147483 ≤ v := by
  simp only [freqOk, Bool.or_eq_true, Bool.and_eq_true, decide_eq_true_eq]
  omega

theorem timeAdj_writeReads (hreach : memReach s 0 = true) (hv : v < 2 ^ 32) :
    WriteReads s 0x800030 4 v (if v ≤ 2147483 ∨ 2 ^ 32 - 2147483 ≤ v then v else s.mac.freqAdj.toNat) := by
  refine ⟨_, exec_registerWrite_dword hreach hv, ?_⟩
  simp only [regRead_timeAdj, writeReg_timeAdj_freqAdj, freqOk_iff hv]
  split
  · rw [BitVec.toNat_ofNat, Nat.mod_eq_of_lt hv]
  · rfl

/-- CIP_CLAIM_LIMIT takes 10 to 1,000 microseconds; any other value leaves it as it was (R267). -/
theorem writeReg_claimLimit_claimLimitUs : (writeReg s 0 .claimLimit v).cip.claimLimitUs
    = if v % 2 ^ 10 < 10 ∨ 1000 < v % 2 ^ 10 then s.cip.claimLimitUs else v % 2 ^ 10 := by
  simp only [writeReg, writeUnits, bits_zero, Bool.or_eq_true, decide_eq_true_eq]
  split
  · rw [denyWrite_cip]
  · rfl

theorem claimLimit_writeReads (hreach : memReach s 0 = true) (hv : v < 2 ^ 32) : WriteReads s 0x90000C 4 v
    ((if v % 2 ^ 10 < 10 ∨ 1000 < v % 2 ^ 10 then s.cip.claimLimitUs else v % 2 ^ 10) % 2 ^ 10) := by
  refine ⟨_, exec_registerWrite_dword hreach hv, ?_⟩
  rw [regRead_claimLimit, writeReg_claimLimit_claimLimitUs, word_field]

/-- ALM_CAL_TRIM takes a trim in its range; any other value leaves it as it was (R472). -/
theorem writeReg_calTrim_trim :
    (writeReg s 0 .calTrim v).alm.trim = if trimOk (v % 2 ^ 16) then v % 2 ^ 16 else s.alm.trim := by
  simp only [writeReg, writeAlm, bits_zero]
  split
  · rfl
  · rw [denyWrite_alm]

/-- Of 16-bit values, those within 20,000 of zero either way are in the range of a trim. -/
theorem trimOk_iff (hv : v < 2 ^ 16) : trimOk v = true ↔ v ≤ 20000 ∨ 2 ^ 16 - 20000 ≤ v := by
  simp only [trimOk, Bool.or_eq_true, Bool.and_eq_true, decide_eq_true_eq]
  omega

theorem calTrim_writeReads (hreach : memReach s 0 = true) (hv : v < 2 ^ 32) : WriteReads s 0xE0001C 4 v
    ((if v % 2 ^ 16 ≤ 20000 ∨ 2 ^ 16 - 20000 ≤ v % 2 ^ 16 then v % 2 ^ 16 else s.alm.trim) % 2 ^ 16) := by
  refine ⟨_, exec_registerWrite_dword hreach hv, ?_⟩
  simp only [regRead_calTrim, writeReg_calTrim_trim, trimOk_iff (Nat.mod_lt v (by decide : 0 < 2 ^ 16)), word_field]

/-- A write of FN_SEL takes the snapshot of the function that it names (R346). -/
theorem exec_registerWrite_fnSel (hreach : memReach s 0 = true) (hv : v < 2 ^ 32) :
    exec (.registerWrite 0 0xC00040 4 v) s = .next { s with fmg := { s.fmg with
      sel := { fid := v % 2 ^ 12, fn := fnOf s (v % 2 ^ 12), vfEnabled := vfShown s (v % 2 ^ 12) } } } := by
  rw [exec_registerWrite_dword hreach hv]
  simp [writeReg, writeUnits, execFnSelWrite, memWrite, hreach, bits_zero]

theorem fnSel_writeReads (hreach : memReach s 0 = true) (hv : v < 2 ^ 32) :
    WriteReads s 0xC00040 4 v (v % 2 ^ 12) := by
  refine ⟨_, exec_registerWrite_fnSel hreach hv, ?_⟩
  simp [regRead_fnSel, word_field]

/-- ALM_FAULT.fault_seen is cleared by a 1 and left alone by a 0; the other bits take no write. -/
theorem almFault_writeReg : almFault s
    = almFault (writeReg s 0 .almFault v) + (if bitOf 8 v then b2n s.alm.faultSeen else 0) * 2 ^ 8 := by
  by_cases hclear : bitOf 8 v = true
  · simp [writeReg, writeAlm, hclear, almFault, b2n]
  · simp [writeReg, writeAlm, hclear]

end ReadBack

/-- Settles O60: what each register reads as after a write is said once; inside a range it is the bits of the write, outside
it what the register held. -/
theorem registersReadBack : Obligations.RegistersReadBack := by
  unfold Obligations.RegistersReadBack
  intro s v hreach hv
  have hscrub := scrub_writeReads hreach hv
  have hlock := lockLimit_writeReads hreach hv
  have hadj := timeAdj_writeReads hreach hv
  have hclaim := claimLimit_writeReads hreach hv
  have htrim := calTrim_writeReads hreach hv
  refine ⟨svcPort_writeReads hreach hv, mbxSel_writeReads hreach hv, seqWindow_writeReads hreach hv,
    ?scrubIn, ?scrubOut, ?lockIn, ?lockOut, ?adjIn, ?adjOut, ?claimIn, ?trimIn, fnSel_writeReads hreach hv,
    ?selected, ?cleared⟩
  case scrubIn => intro hin; rwa [if_neg (by omega), Nat.mod_mod] at hscrub
  case scrubOut => intro hout; rwa [if_pos hout] at hscrub
  case lockIn => intro hlo hhi; rwa [if_neg (by omega), Nat.mod_mod] at hlock
  case lockOut => intro hout; rwa [if_pos hout] at hlock
  case adjIn => intro hin; rwa [if_pos hin] at hadj
  case adjOut => intro hlo hhi; rwa [if_neg (by omega)] at hadj
  case claimIn => intro hlo hhi; rwa [if_neg (by omega), Nat.mod_mod] at hclaim
  case trimIn => intro hin; rwa [if_pos hin, Nat.mod_mod] at htrim
  case selected => exact ⟨_, exec_registerWrite_fnSel hreach hv, regRead_fnState _, regRead_fnViol _⟩
  case cleared =>
    exact ⟨_, exec_registerWrite_dword hreach hv, _, _, regRead_almFault s, regRead_almFault _, almFault_writeReg⟩

end Sys2Proof.Machine

/-! PROOFS. No state of a step engine goes from one packet to another (O55): a step of ALU, PARSE or HASH does no more than
move its own packet on, and what moving a packet on leaves alone is said once. -/

namespace Sys2Proof.Machine

/-! ## Pipelines beside the one written -/

section Pipelines

variable {s : State} {p q c : Nat}

/-- A pipeline is not where another of the four was written. -/
theorem pipeOf_setPipe_ne (y : Pipe) (hp : p < 4) (hq : q < 4) (hne : q ≠ p) : pipeOf (setPipe s p y) q = pipeOf s q := by
  have four : ∀ n, n < 4 → n = 0 ∨ n = 1 ∨ n = 2 ∨ n = 3 := by omega
  obtain rfl | rfl | rfl | rfl := four p hp <;> obtain rfl | rfl | rfl | rfl := four q hq <;>
    simp only [setPipe, pipeOf, ne_eq, not_true_eq_false] at hne ⊢

/-- A change that leaves the step engines alone leaves every pipeline as it is. -/
theorem pipeOf_congr {t : State} (h : t.seq = s.seq) (q : Nat) : pipeOf t q = pipeOf s q := by
  simp only [pipeOf, h]

theorem pipeOf_logPoison (k : Pkt) (cause idx q : Nat) : pipeOf (logPoison s p k cause idx) q = pipeOf s q :=
  pipeOf_congr (Only.eq (m := 0x11) (by simp) .seq) q

end Pipelines

/-! ## What a step that moves its packet on leaves alone (R17, R55) -/

/-- From `s` to `t` no context changes but context `c` of pipeline `p`, which holds a packet of the place and chains of `k`;
no packet is parked or taken up again. -/
def KeepsToContext (s t : State) (p c : Nat) (k : Pkt) : Prop :=
  (∀ q d : Nat, q < 4 → (q ≠ p ∨ d ≠ c) → tget (pipeOf t q).ctxs d = tget (pipeOf s q).ctxs d) ∧
  (∃ j : Pkt, tget (pipeOf t p).ctxs c = some j ∧ j.ord = k.ord ∧ j.chains = k.chains) ∧
  ∀ q : Nat, q < 4 → (pipeOf t q).parked = (pipeOf s q).parked

section KeepsToContext

variable {s t u : State} {p c : Nat} {k j : Pkt} {x : StepIn} {cc : Cc}

/-- Only contexts and parked packets matter for a step keeping to its context. -/
theorem KeepsToContext.trans_same (h : KeepsToContext s t p c k) (hp : p < 4)
    (hsame : ∀ q, q < 4 → (pipeOf u q).ctxs = (pipeOf t q).ctxs ∧ (pipeOf u q).parked = (pipeOf t q).parked) :
    KeepsToContext s u p c k := by
  obtain ⟨hctx, hown, hparked⟩ := h
  refine ⟨fun q d hq hne => ?_, ?_, fun q hq => ?_⟩
  · rw [(hsame q hq).1, hctx q d hq hne]
  · rwa [(hsame p hp).1]
  · rw [(hsame q hq).2, hparked q hq]

/-- Writing a context changes that context. -/
theorem keepsToContext_setCtx (hp : p < 4) (hord : j.ord = k.ord) (hchains : j.chains = k.chains) :
    KeepsToContext s (setCtx s p c j) p c k := by
  unfold setCtx modPipe
  refine ⟨fun q d hq hne => ?_, ⟨j, by simp, hord, hchains⟩, fun q hq => ?_⟩
  · by_cases hqp : q = p
    · subst hqp
      rw [pipeOf_setPipe, tget_tset_ne _ _ (by omega)]
    · rw [pipeOf_setPipe_ne _ hp hq hqp]
  · by_cases hqp : q = p
    · subst hqp; rw [pipeOf_setPipe]
    · rw [pipeOf_setPipe_ne _ hp hq hqp]

/-- Noting which context issued last changes no context and parks no packet. -/
theorem pipeOf_noteIssue_same (hp : x.p < 4) {q : Nat} (hq : q < 4) :
    (pipeOf (noteIssue s x) q).ctxs = (pipeOf s q).ctxs ∧ (pipeOf (noteIssue s x) q).parked = (pipeOf s q).parked := by
  unfold noteIssue issued modPipe
  split
  · by_cases hqp : q = x.p
    · subst hqp; rw [pipeOf_setPipe]; exact ⟨rfl, rfl⟩
    · rw [pipeOf_setPipe_ne _ hp hq hqp]; exact ⟨rfl, rfl⟩
  · exact ⟨rfl, rfl⟩

/-- Logging an entry to the poison handler changes no context and parks no packet. -/
theorem KeepsToContext.logPoison {n cause idx : Nat} (hp : p < 4) (h : KeepsToContext s t p c k) :
    KeepsToContext s (logPoison t n j cause idx) p c k :=
  h.trans_same hp fun q _ => by rw [pipeOf_logPoison]; exact ⟨rfl, rfl⟩

/-- A step of a bank that moves its packet on keeps to its context. -/
theorem keepsToContext_advance (hp : x.p < 4) (hlib : j.lib = none) (hord : j.ord = k.ord) (hchains : j.chains = k.chains) :
    KeepsToContext s (advance s x j cc) x.p x.c k := by
  have hnoted : ∀ i : Pkt, i.ord = k.ord → i.chains = k.chains →
      KeepsToContext s (noteIssue (setCtx s x.p x.c i) x) x.p x.c k := fun i ho hc =>
    (keepsToContext_setCtx hp ho hc).trans_same hp fun q hq => pipeOf_noteIssue_same hp hq
  rw [advance_own j cc hlib]
  dsimp only
  split
  · split
    · exact hnoted _ hord hchains
    · exact KeepsToContext.logPoison hp (hnoted _ hord hchains)
  · exact hnoted _ hord hchains

end KeepsToContext

/-! ## Steps that do no more than move their packet on -/

/-- `t` is `s` with the packet of a step moved on by a code: its place, its chains and the library's run are as they were. -/
def MovesOn (s : State) (x : StepIn) (t : State) : Prop :=
  ∃ (k : Pkt) (cc : Cc), t = advance s x k cc ∧ k.ord = x.k.ord ∧ k.chains = x.k.chains ∧ k.lib = x.k.lib

section MovesOn

variable {s t : State} {p c unit op : Nat} {x : StepIn}

theorem movesOn_done (s : State) (x : StepIn) (cc : Cc) : MovesOn s x (done s x cc) := ⟨x.k, cc, rfl, rfl, rfl, rfl⟩

theorem movesOn_doneW (s : State) (x : StepIn) (cc : Cc) (v : Nat) (mark : Bool) : MovesOn s x (doneW s x cc v mark) := by
  refine ⟨_, cc, rfl, ?_⟩
  unfold putDst
  split <;> exact ⟨rfl, rfl, rfl⟩

/-- The poison rule ends the step with FAILED_PARITY or leaves it to the operation (R67). -/
theorem movesOn_poisonGate {mark : Bool} (h : MovesOn s x t) : MovesOn s x (poisonGate s x mark t) := by
  unfold poisonGate
  split
  · exact movesOn_done s x _
  · exact h

/-- So a step whose one effect is a result word moves its packet on, whichever mark the word takes. -/
theorem movesOn_gatedWord {gate mark : Bool} {cc : Cc} {v : Nat} :
    MovesOn s x (poisonGate s x gate (doneW s x cc v mark)) := movesOn_poisonGate (movesOn_doneW ..)

/-- A step that issues and moves its packet on changes its context, and counts and logs an entry to the poison handler. -/
theorem Issues.keeps {i : Instr} {f : StepIn → State} (h : Issues s p c unit op x) (hp : p < 4)
    (hexec : exec i s = .next (withStep unit op p c s f)) (hf : MovesOn s x (f x))
    (hunit : unit ∉ [0, 8, 9, 12, 13, 14, 15] := by decide) :
    ∃ t : State, exec i s = .next t ∧ ChangesOnly [.dev, .cnt, .seq] s t ∧ KeepsToContext s t p c x.k := by
  obtain ⟨rfl, rfl⟩ := h.place
  obtain ⟨k, cc, ht, hord, hchains, hlib⟩ := hf
  have hown : k.lib = none := hlib.trans (h.own hunit)
  rw [withStep_issues h, ht] at hexec
  exact ⟨_, hexec, (advance_own_only k cc hown).changes (by decide), keepsToContext_advance hp hown hord hchains⟩

/-- LOAD_HDR ends with MALFORMED or moves its packet on with the bytes. -/
theorem movesOn_loadHdr {gate mark : Bool} {v : Nat} : MovesOn s x
    (if !hdrOk x then done s x .malformed else poisonGate s x gate (doneW s x .done v mark)) := by
  split
  · exact movesOn_done s x _
  · exact movesOn_gatedWord

end MovesOn

/-- Settles O55: each of the steps moves its packet on and does no more (`MovesOn`), and moving a packet on keeps to its
context. -/
theorem stepKeepsToItsContext : Obligations.StepKeepsToItsContext := by
  unfold Obligations.StepKeepsToItsContext
  intro s p c x i hp h
  rcases h with ⟨h, rfl⟩ | ⟨h, rfl⟩ | ⟨h, rfl⟩ | ⟨h, rfl⟩ | ⟨h, rfl⟩ | ⟨h, rfl⟩ | ⟨h, rfl⟩ | ⟨h, rfl⟩ | ⟨h, rfl⟩ |
    ⟨h, rfl⟩ | ⟨h, rfl⟩ | ⟨h, rfl⟩ | ⟨h, rfl⟩ | ⟨h, rfl⟩ | ⟨h, rfl⟩ | ⟨h, rfl⟩ | ⟨h, rfl⟩ | ⟨h, rfl⟩ | ⟨h, rfl⟩
  -- ALU MOVE, ADD, SUB, AND, OR, XOR, SHIFT
  · exact h.keeps hp rfl movesOn_gatedWord
  · exact h.keeps hp rfl movesOn_gatedWord
  · exact h.keeps hp rfl movesOn_gatedWord
  · exact h.keeps hp rfl movesOn_gatedWord
  · exact h.keeps hp rfl movesOn_gatedWord
  · exact h.keeps hp rfl movesOn_gatedWord
  · exact h.keeps hp rfl movesOn_gatedWord
  -- ALU CMP_EQ, CMP_LT
  · exact h.keeps hp rfl (movesOn_poisonGate (movesOn_done ..))
  · exact h.keeps hp rfl (movesOn_poisonGate (movesOn_done ..))
  -- ALU LOAD_HDR, READ_TIME
  · exact h.keeps hp rfl movesOn_loadHdr
  · exact h.keeps hp rfl (movesOn_doneW ..)
  -- PARSE L2, L3, L4, TUNNEL, STORAGE_PDU
  · exact h.keeps hp rfl movesOn_gatedWord
  · exact h.keeps hp rfl movesOn_gatedWord
  · exact h.keeps hp rfl movesOn_gatedWord
  · exact h.keeps hp rfl movesOn_gatedWord
  · exact h.keeps hp rfl movesOn_gatedWord
  -- HASH CRC32C, CRC32, TOEPLITZ
  · exact h.keeps hp rfl movesOn_gatedWord
  · exact h.keeps hp rfl movesOn_gatedWord
  · exact h.keeps hp rfl movesOn_gatedWord

end Sys2Proof.Machine

/-! PROOFS. The storage commands of class 0x07 (O10): each is accepted and in range, so that its own rules decide (Laws/Reply),
and these say what the statement says. -/

namespace Sys2Proof.Machine

/-! ## The ends of a close (R314, R178) -/

/-- A close that starts and is in range is refused for a locked bucket, ends at once, or begins to drain. -/
theorem exec_closeConnection_ends {s b : State} {m : Meta} {conn drainMs : Nat} {force : Bool} {c : Conn}
    (h : Starts s b m 0x0702 [.conn conn] true) (hconn : conn < 65536) (hdrain : drainMs ≤ 10000)
    (hc : connOf b conn = some c) :
    exec (.closeConnection m conn drainMs force) s =
      if steerLocked b c then endsIn s m 0x0702 b { status := .refusedBusy }
      else if force || c.st ≠ .active then doneIn s m 0x0702 (closeConn b conn) [.num 4 c.inFlight]
      else bgIn s m 0x0702 [.conn conn] (setConn b conn { c with
        st := .closing, dirty := (c.dirty ++ [0]).eraseDups }) none (b.now + 1000000 * drainMs) := by
  have hrange : firstBad [(0, conn < 65536), (1, drainMs ≤ 10000)] = none := firstBad_all (by simp [hconn, hdrain])
  split
  next hlocked => exact cmd_no h hrange (by simp [hc, hlocked]) (by decide)
  next hopen =>
    split
    next hatOnce => exact cmd_ok h hrange (by simp only [hc, hopen, hatOnce, if_true]; rfl)
    next hdrains => exact cmd_bgOpen h hrange (by simp only [hc, hopen, hdrains]; rfl)

/-- The end of a drain, when nothing is in flight or at its limit, closes the connection unless its bucket is locked. -/
theorem exec_closeDrainEnd_ends {s : State} {conn : Nat} {g : BgCmd} {c : Conn}
    (hg : bgOf s [0x0702] (.conn conn) = some g) (hc : connOf s conn = some c)
    (hend : c.inFlight = 0 ∨ g.deadline ≤ s.now) :
    exec (.closeDrainEnd conn) s
      = .next (if steerLocked s c then endBg s g { status := .refusedBusy } false
        else endBg (closeConn s conn) g { status := .done, results := [.num 4 c.inFlight] } false) := by
  have hends : ¬ (c.inFlight ≠ 0 ∧ s.now < g.deadline) := by omega
  change execCloseDrainEnd conn s = _
  simp [execCloseDrainEnd, hg, hc, closeEnd, hends]

/-! ## The choices of CONFIGURE_STORAGE (R312) -/

/-- Four channels below 15 and two tables below 16 are in range. -/
theorem configureStorage_inRange {c0 c1 c2 c3 tcp roce : Nat} (h0 : c0 < 15) (h1 : c1 < 15) (h2 : c2 < 15) (h3 : c3 < 15)
    (htcp : tcp < 16) (hroce : roce < 16) :
    firstBad ((pipes.map (fun p => (p, (decide ([c0, c1, c2, c3].length = 4) &&
        decide ([c0, c1, c2, c3].getD p 16 < 15) : Bool)))) ++ [(4, decide (tcp < 16)), (5, decide (roce < 16))]) = none :=
  firstBad_all (by simp [pipes, h0, h1, h2, h3, htcp, hroce])

/-- Four channels and two tables that storage may use name no item. -/
theorem configureStorage_allowed {s : State} {c0 c1 c2 c3 tcp roce : Nat} (h0 : stgChannelOk s c0 = true)
    (h1 : stgChannelOk s c1 = true) (h2 : stgChannelOk s c2 = true) (h3 : stgChannelOk s c3 = true)
    (htcp : steerTableOk s tcp = true) (hroce : steerTableOk s roce = true) :
    firstBad ((pipes.map (fun p => (p, stgChannelOk s ([c0, c1, c2, c3].getD p 16)))) ++
      [(4, steerTableOk s tcp), (5, steerTableOk s roce)]) = none :=
  firstBad_all (by simp [pipes, h0, h1, h2, h3, htcp, hroce])

/-- Settles O10: what stands before a command's own rules is passed (`cmd_done` and its kin); the rules' checks hold by the
hypotheses. -/
theorem storageCommandsComplete : Obligations.StorageCommandsComplete := by
  unfold Obligations.StorageCommandsComplete
  refine ⟨?create, ?close, ?drainEnd, ?read, ?configure, ?grant⟩
  case create =>
    intro s b m q h hbad hcfg hfree hover hsteer
    exact cmd_ok h hbad (by simp [hcfg, hfree, hover, hsteer])
  case close => exact fun s b m conn drainMs force c => exec_closeConnection_ends
  case drainEnd => exact fun s conn g c => exec_closeDrainEnd_ends
  case read =>
    intro s b m conn c h hconn hc
    exact cmd_ok h (firstBad_all (by simp [hconn])) (by simp [hc])
  case configure =>
    intro s b m c0 c1 c2 c3 tcp roce h h0 h1 h2 h3 htcp hroce hc0 hc1 hc2 hc3 htcpOk hroceOk hnone
    refine cmd_done h (configureStorage_inRange h0 h1 h2 h3 htcp hroce) ?_
    simp only [configureStorage_allowed hc0 hc1 hc2 hc3 htcpOk hroceOk, hnone]
    rfl
  case grant =>
    intro s b m fid connMax h hfid hmax hheld
    exact cmd_done h (firstBad_all (by simp [hfid, hmax])) (by simp [Nat.not_lt.mpr hheld, putConnMax])

end Sys2Proof.Machine

/-! PROOFS. The events of the Almanac (O29): each acts where its own condition holds, which the statement's hypotheses give. -/

namespace Sys2Proof.Machine

/-! ## Clock domains (R33 to R36, R374, R443) -/

section Domains

variable {s : State} {d : Nat}

/-- A domain that is demanded starts, or waits for the end of an Almanac restart (R451). -/
theorem exec_domainStart_demanded (haux : s.store.auxPresent = true) (hdem : demanded s d = true) :
    exec (.domainStart d) s = .next (if s.store.restarting = true then
      (if s.store.waitStarts.contains d = true then s
        else { s with store := { s.store with waitStarts := s.store.waitStarts ++ [d] } })
      else startDom s d) := by
  change execDomainStart d s = _
  rw [execDomainStart, if_pos (by rw [haux, hdem]; rfl)]
  rfl

/-- A drain that finds nothing left ends DONE, the domain held down. -/
theorem exec_powerDownDrainEnd_drained {g : BgCmd} (hg : bgOf s [0x0A10] (.domain d) = some g)
    (hleft : drainLeft s d g.deadline = 0) :
    exec (.powerDownDrainEnd d) s = .next (endBg (holdDom s d) g { status := .done } false) := by
  change execPowerDownDrainEnd d s = _
  simp only [execPowerDownDrainEnd, hg, hleft, if_true]

/-- A drain that finds work left at its limit ends REFUSED_BUSY with the count. -/
theorem exec_powerDownDrainEnd_limit {g : BgCmd} (hg : bgOf s [0x0A10] (.domain d) = some g)
    (hleft : drainLeft s d g.deadline ≠ 0) (hlimit : g.deadline ≤ s.now) :
    exec (.powerDownDrainEnd d) s = .next (endBg (setDom s d { domOf s d with draining := none }) g
      { status := .refusedBusy, results := [.num 4 (drainLeft s d g.deadline)] } false) := by
  change execPowerDownDrainEnd d s = _
  simp only [execPowerDownDrainEnd, hg, if_neg hleft, if_pos hlimit]

end Domains

/-! ## Restarts of the Steward and of the Almanac (R450, R451) -/

section Restarts

variable {s : State}

/-- A write that PF0's memory requests reach acts. -/
theorem memWrite_reached {fid : Nat} {t : State} (h : memReach s fid = true) : memWrite s fid t = t := if_pos h

/-- The recheck of a reload passes, or its image came from flash, with event 0x010C (R448). -/
theorem recheckEnd_cases (s : State) : recheckEnd s = { s with draws := s.draws + 1 } ∨
    recheckEnd s = almEvent { s with draws := s.draws + 1 } 0x010C [] := by
  by_cases hfailed : (Sys2Proof.Config.freeWord (draw s).1).toNat % 2 = 1
  · exact .inr (if_pos hfailed)
  · exact .inl (if_neg hfailed)

/-- A restart of the Almanac that may begin commits the store first. -/
theorem restartAlmanac_begins {cause : Nat} (hidle : s.store.restarting = false) (haux : s.store.auxPresent = true) :
    restartAlmanac s cause = { commitStore s with store := { (commitStore s).store with
      restarting := true, restartCause := cause } } := by
  simp [restartAlmanac, hidle, haux]

theorem exec_stewardRestart_begins (hreach : memReach s 0 = true) (hidle : s.stw.restarting = false)
    (hruns : s.stw.ready = true ∨ s.fw.activation ≠ 0) :
    exec .stewardRestart s
      = .next (beginRestart { s with stw := { s.stw with restarting := true, ready := false } }) := by
  change execStewardRestart s = _
  have hmay : (s.stw.restarting || (!s.stw.ready && s.fw.activation = 0)) = false := by
    rcases hruns with h | h <;> simp [hidle, h]
  simp only [execStewardRestart, memWrite_reached hreach, hmay, Bool.false_eq_true, if_false]

theorem exec_stewardRestartComplete_ends {u : State} {t : Nat} (hat : (beginRestart s).stw.restartAt = some t)
    (hu : u = { beginRestart s with
      stw := { (beginRestart s).stw with ready := true, restarting := false, restartAt := none } }) :
    exec .stewardRestartComplete s
      = .next (resumeResets (almEvent (recheckEnd u) 0x010A [.num 1 0, .num 8 (s.now - t)])) := by
  change execStewardRestartComplete s = _
  simp only [execStewardRestartComplete, hat, hu]

theorem exec_almanacRestart_begins (hreach : memReach s 0 = true) (hidle : s.store.restarting = false)
    (haux : s.store.auxPresent = true) :
    ∃ t, exec .almanacRestart s = .next t ∧ t.store.restarting = true ∧ t.store.restartCause = 0 ∧
      t.store.saved = t.store.acc := by
  refine ⟨_, rfl, ?_⟩
  rw [memWrite_reached hreach, restartAlmanac_begins hidle haux]
  exact ⟨rfl, rfl, commitStore_saved s⟩

theorem exec_almanacRestartComplete_ends {t : State} (hrestarting : s.store.restarting = true)
    (ht : t = s.store.waitStarts.foldl startDom
      (stopHeld { s with store := { s.store with restarting := false, waitStarts := [] } })) :
    exec .almanacRestartComplete s = .next (resumeResets
      (almEvent (if wakeDue t = true then fireWake t else t) 0x010B [.num 1 s.store.restartCause])) := by
  change execAlmanacRestartComplete s = _
  simp only [execAlmanacRestartComplete, hrestarting, Bool.not_true, Bool.false_eq_true, if_false, ht]

end Restarts

/-! ## Alarms and temperature (R263, R264, R459, R460) -/

section Alarms

variable {s : State}

/-- An alarm that is armed and whose cause is absent erases the vault and is recorded. -/
theorem raiseAlarm_armed {cause value : Nat} (harmed : alarmArmed s cause = true) (habsent : causeOn s cause = false) :
    raiseAlarm s cause value = wakeNow (almEvent (eraseVault { s with alm := { s.alm with
      causes := s.alm.causes + 2 ^ (cause - 1), alarmSeen := true, raised := (s.alm.raised + 1) % 65536
      causeSince := tset s.alm.causeSince cause s.now } } cause (if cause = 1 ∨ cause = 3 then value % 65536 else 0))
      0x0100 [.num 1 cause, .num 4 (if cause = 1 ∨ cause = 3 then value % 65536 else 0)]) 2 := by
  simp [raiseAlarm, harmed, habsent]

theorem exec_alarmClear_clears {t : State} {cause : Nat} (hlo : 1 ≤ cause) (hhi : cause ≤ 4)
    (hon : causeOn s cause = true) (haux : s.store.auxPresent = true)
    (habsent : 10000000 ≤ s.now - tgetD s.alm.causeSince cause 0)
    (ht : t = almEvent { s with alm := { s.alm with
      causes := s.alm.causes - 2 ^ (cause - 1), causeSince := tdel s.alm.causeSince cause } } 0x0101
      [.num 1 cause, .num 4 ((s.now - tgetD s.alm.causeSince cause s.now) / 1000000)]) :
    exec (.alarmClear cause) s = .next
      (if t.alm.causes = 0 ∧ t.alm.wipePending = false ∧ t.store.mainPresent = true ∧ t.cip.kek = none
        then drawKek t else t) := by
  change execAlarmClear cause s = _
  have hzero : cause ≠ 0 := by omega
  have hfour : ¬ 4 < cause := by omega
  have hlong : ¬ s.now - tgetD s.alm.causeSince cause 0 < 10000000 := by omega
  simp [execAlarmClear, hzero, hfour, hon, haux, hlong, ← ht, and_assoc]

/-- Sensing a temperature takes no time. -/
theorem sensed_now {tj : Nat} : (sensed s tj).now = s.now := by simp only [sensed]

/-- At or above 125 C the trip output is driven. -/
theorem tripAbove_high {tj : Nat} (h : 34768 ≤ tj) :
    tripAbove s tj = { s with alm := { s.alm with thermtrip := true, tripAt := s.now } } := if_neg (by omega)

end Alarms

/-- Settles O29: each event's condition holds by its clause's hypotheses, so that what the event does is its effect. -/
theorem almanacRowsComplete : Obligations.AlmanacRowsComplete := by
  unfold Obligations.AlmanacRowsComplete
  refine ⟨?startIdle, ?start, ?ready, ?idleStop, ?drainEnd, ?stewardRestart, ?stewardReloaded, ?almanacRestart,
    ?almanacRestarted, ?calRead, ?alarm, ?alarmClear, ?temperature, ?tripRelease, ?faults, ?ref156, ?ref100, ?wake, ?sample,
    ?commit, ?auxLoss, ?auxUp, ?smbus, ?i3c⟩
  case startIdle =>
    intro s d hdem
    change execDomainStart d s = _
    simp [execDomainStart, hdem]
  case start => exact fun s d => exec_domainStart_demanded
  case ready =>
    intro s d t hstarting
    change execDomainReady d s = _
    simp [execDomainReady, hstarting]
  case idleStop =>
    intro s d hstop
    change execDomainIdleStop d s = _
    rw [execDomainIdleStop, if_pos hstop]
  case drainEnd => exact fun s d g hg => ⟨exec_powerDownDrainEnd_drained hg, exec_powerDownDrainEnd_limit hg⟩
  case stewardRestart => exact fun s => exec_stewardRestart_begins
  case stewardReloaded => exact fun s u t hat hu => ⟨_, exec_stewardRestartComplete_ends hat hu, recheckEnd_cases u⟩
  case almanacRestart => exact fun s => exec_almanacRestart_begins
  case almanacRestarted => exact fun s t => exec_almanacRestartComplete_ends
  case calRead => exact fun s hreach => congrArg Host.Outcome.next (memWrite_reached hreach)
  case alarm => exact fun s cause value harmed habsent => congrArg Host.Outcome.next (raiseAlarm_armed harmed habsent)
  case alarmClear => exact fun s t cause => exec_alarmClear_clears
  case temperature =>
    intro s tj haux
    refine ⟨fun hwarm hquiet => ?_, fun hcool => ?_, fun hhot => ?_⟩
    · change execThermalWarning tj s = _
      have hsensed : ¬ (!s.store.auxPresent || decide (tj < 34528)) = true := by simpa [haux] using hwarm
      simp only [execThermalWarning, if_neg hsensed, hquiet, Bool.false_eq_true, if_false]
    · change execThermalWarningClear tj s = _
      rw [execThermalWarningClear, if_pos (by simp [haux, hcool])]
    · change execThermtrip tj s = _
      simp only [execThermtrip, haux, if_true, tripAbove_high hhot, sensed_now]
  case tripRelease => exact fun s hcool => congrArg Host.Outcome.next (if_pos (by omega))
  case faults =>
    intro s haux
    refine ⟨fun hgood => ?_, fun hbad => ?_, fun hlost => ?_, fun hlost => ?_, fun kind hkind hgood => ?_, fun hbad => ?_⟩
    · change execCrystalFault s = _
      simp [execCrystalFault, haux, hgood]
    · change execCrystalRecovery s = _
      simp [execCrystalRecovery, haux, hbad]
    · change execReferenceClockRecovery 0 s = _
      simp [execReferenceClockRecovery, haux, hlost]
    · change execReferenceClockRecovery 1 s = _
      simp [execReferenceClockRecovery, haux, hlost]
    · change execThermalDiodeFault kind s = _
      simp [execThermalDiodeFault, haux, hgood, Nat.not_lt.mpr hkind]
    · change execThermalDiodeFaultClear s = _
      simp [execThermalDiodeFaultClear, haux, hbad]
  case ref156 =>
    intro s hrun
    change execReferenceClockFault 0 s = _
    simp [execReferenceClockFault, hrun]
  case ref100 =>
    intro s t hrun ht
    change execReferenceClockFault 1 s = _
    simp [execReferenceClockFault, hrun, ← ht]
  case wake =>
    intro s haux hidle hdue
    change execWakeTimerFire s = _
    rw [execWakeTimerFire, if_pos (by simp [haux, hidle, hdue])]
    rfl
  case sample =>
    intro s x haux hidle
    change execLifetimeSample x s = _
    rw [execLifetimeSample, if_neg (by simp [haux, hidle])]
  case commit =>
    intro s haux hhour
    refine ⟨_, congrArg Host.Outcome.next (if_pos ?_), commitStore_saved s, rfl⟩
    simp [haux, hhour]
  case auxLoss => exact fun s haux => ⟨_, congrArg Host.Outcome.next (if_neg (by simp [haux])), rfl, rfl, rfl, rfl, rfl, rfl⟩
  case auxUp => exact fun s haux => ⟨_, congrArg Host.Outcome.next (if_neg (by simp [haux])), rfl, rfl, rfl, rfl, rfl⟩
  case smbus => exact fun s hsmbus => congrArg Host.Outcome.next (if_neg (by simp [hsmbus]))
  case i3c => exact fun s hi3c => congrArg Host.Outcome.next (if_pos hi3c)

end Sys2Proof.Machine

/-! PROOFS. The steps of CTL, ALU, PARSE, HASH, CNT and POLICE (O16 to O18, O53, O54, O56): a step that issues does what its own
rules say (`Issues.ends`), a poisoned operand stops it at its gate, and what STORE_HDR writes is said once. -/

namespace Sys2Proof.Machine

section StepEngines

variable {s t : State} {p c unit op : Nat} {x : StepIn} {i : Instr} {f : StepIn → State}

/-! ## What a step that issues ends with -/

/-- A step that issues ends in the state that its own rules give. -/
theorem Issues.ends (h : Issues s p c unit op x) (hexec : exec i s = .next (withStep unit op p c s f)) (hf : f x = t) :
    exec i s = .next t := by
  rw [hexec, withStep_issues h, hf]

/-- A step that a unit takes for a function outside the stocks, with a poisoned operand that it does not allow, ends with
FAILED_PARITY (R67). -/
theorem unitGate_poisoned {fid : Nat} {mark : Bool} (hfrozen : isFrozen s fid = false) (hmark : mark = true)
    (hstrict : x.w.poisonOk = false) (u : State) : unitGate s x fid mark u = done s x .failedParity := by
  rw [unitGate, hfrozen, if_neg (by decide), poisonGate_poisoned hmark hstrict]

/-- A PARSE step whose result word and header bytes are clean ends with what its parser finds (R81). -/
theorem Issues.parses {g : StepIn → List Nat → Nat → PRes} {r : PRes} (h : Issues s p c 2 op x)
    (hexec : exec i s = .next (parseStep op p c s g))
    (hr : r = g x (rawBytes (pktBytes s x.k)) (min (pktBytes s x.k).length 512))
    (hclean : x.a.p = false ∧
      anyPoison (slice (pktBytes s x.k) r.lo (min r.hi (min (pktBytes s x.k).length 512) - r.lo)) = false) :
    exec i s = .next (doneW s x r.cc r.w false) := by
  subst hr
  refine h.ends hexec ?_
  simp only [hclean, Bool.or_false]
  exact poisonGate_clean (.inl rfl) _

/-- A HASH step whose key words are clean ends with its hash, which takes their mark (R67, R82). -/
theorem Issues.hashes {g : StepIn → List Nat → Nat} {more : Nat} {mark : Bool} (h : Issues s p c 3 op x)
    (hexec : exec i s = .next (hashStep op p c s more g))
    (hmark : mark = (wordsPoisoned x.k x.w.srcA ((bits 5 0 x.imm + 7) / 8) ||
      (decide (0 < more) && wordsPoisoned x.k x.w.srcB more)))
    (hclean : Clean x mark) :
    exec i s = .next (doneW s x .done (g x ((keyWords x.k x.w.srcA).take (bits 5 0 x.imm))) mark) := by
  subst hmark
  exact h.ends hexec (poisonGate_clean hclean _)

/-! ## Counters and policers (R237, R429) -/

/-- The hook's FID counts in a hook region, else the one in src_a[11:0]. -/
theorem cntFid_eq (x : StepIn) : cntFid x = (x.hook.map (·.fid)).getD (bits 11 0 x.av) := by
  unfold cntFid; cases x.hook <;> rfl

/-- A policer of the FID named, in a step that may name it, is refreshed and then charged or not (R237). -/
theorem exec_policeMeter_owned {z : Policer} (h : Issues s p c 7 0 x) (hfrozen : isFrozen s (bits 43 32 x.av) = false)
    (hclean : Clean x (x.a.p || x.b.p)) (hz : tget s.sw.policers (bits 13 0 x.av) = some z) (howner : z.fid = bits 43 32 x.av)
    (hhook : hookMismatch x (bits 43 32 x.av) = false) :
    exec (.policeMeter p c) s = .next (
      if bits 16 0 x.bv ≤ (z.refresh (timeNow s)).tokens then
        done (setPolicer s (bits 13 0 x.av) { z.refresh (timeNow s) with
          tokens := (z.refresh (timeNow s)).tokens - bits 16 0 x.bv }) x .done
      else done (setPolicer s (bits 13 0 x.av) (z.refresh (timeNow s))) x .refusedLimit) := by
  refine h.ends rfl ((unitGate_clean hfrozen hclean _).trans ?_)
  simp only [hz, howner, hhook, ne_eq, not_true_eq_false, decide_false, Bool.or_self, Bool.false_eq_true, if_false]

/-! ## Header bytes (R80, Table 2.21) -/

/-- The bytes that STORE_HDR stores: the low bytes of A in the order that imm[12] names, with the mark of A. -/
def hdrBytes (x : StepIn) (n : Nat) : List PByte :=
  (if bitOf 12 x.imm then leBytes n x.av else beBytes n x.av).map (fun b => ⟨BitVec.ofNat 8 b, x.a.p⟩)

@[simp] theorem leBytes_length (n v : Nat) : (leBytes n v).length = n := by
  induction n generalizing v with
  | zero => rfl
  | succ n ih => rw [leBytes, List.length_cons, ih]

@[simp] theorem hdrBytes_length (x : StepIn) (n : Nat) : (hdrBytes x n).length = n := by
  unfold hdrBytes
  split <;> simp [beBytes]

/-- The addressed bytes of the packet. -/
def hdrSlice (s : State) (x : StepIn) : List PByte := slice (window s x.k) (hdrRange x).1 (hdrRange x).2

theorem hdrOk_of_le (hlen : bits 8 0 x.imm + (bits 11 9 x.imm + 1) ≤ x.k.len)
    (hwin : bits 8 0 x.imm + (bits 11 9 x.imm + 1) ≤ 512) : hdrOk x = true := by
  simp [hdrOk, hdrRange, hlen, hwin]

/-- LOAD_HDR of bytes in the packet and the window loads them, marked or not, unless a mark stops it. -/
theorem exec_loadHdr_inside (h : Issues s p c 1 0x10 x) (hok : hdrOk x = true) :
    exec (.loadHdr p c) s = .next (poisonGate s x (anyPoison (hdrSlice s x)) (doneW s x .done
      (if bitOf 12 x.imm = true then leNat (rawBytes (hdrSlice s x)) else beNat (rawBytes (hdrSlice s x)))
      (anyPoison (hdrSlice s x)))) :=
  h.ends rfl (if_neg (by rw [hok]; decide))

/-- STORE_HDR of a marked word that it does not allow stores nothing. -/
theorem exec_storeHdr_poisoned (h : Issues s p c 1 0x11 x) (hmark : x.a.p = true) (hstrict : x.w.poisonOk = false) :
    exec (.storeHdr p c) s = .next (done s x .failedParity) :=
  h.ends rfl (poisonGate_poisoned hmark hstrict _)

/-- STORE_HDR over bytes in the packet and the window stores its bytes, unless a mark of those it overwrites stops it. -/
theorem exec_storeHdr_inside (h : Issues s p c 1 0x11 x) (hok : hdrOk x = true) (hclean : Clean x x.a.p) :
    exec (.storeHdr p c) s = .next (poisonGate s x (anyPoison (hdrSlice s x))
      (done (writeChain s x.k.handle (hdrRange x).1 (hdrBytes x (hdrRange x).2)) x .done)) :=
  h.ends rfl ((poisonGate_clean hclean _).trans (if_neg (by rw [hok]; decide)))

/-- STORE_HDR over clean bytes stores its bytes. -/
theorem exec_storeHdr_clean (h : Issues s p c 1 0x11 x) (hlen : bits 8 0 x.imm + (bits 11 9 x.imm + 1) ≤ x.k.len)
    (hwin : bits 8 0 x.imm + (bits 11 9 x.imm + 1) ≤ 512) (hword : Clean x x.a.p)
    (hbytes : Clean x (anyPoison (slice (window s x.k) (bits 8 0 x.imm) (bits 11 9 x.imm + 1)))) :
    exec (.storeHdr p c) s
      = .next (done (writeChain s x.k.handle (bits 8 0 x.imm) (hdrBytes x (bits 11 9 x.imm + 1))) x .done) :=
  (exec_storeHdr_inside h (hdrOk_of_le hlen hwin) hword).trans (congrArg _ (poisonGate_clean hbytes _))

/-! ## What a write into a chain leaves (R134) -/

theorem tgetD_spread_of_notMem {cells : List Nat} {cell : Nat} (hout : cell ∉ cells) (data : Tbl (List PByte))
    (bs : List PByte) : tgetD (spread data cells bs) cell [] = tgetD data cell [] := by
  induction cells generalizing data bs with
  | nil => rfl
  | cons first rest ih =>
    obtain ⟨hfirst, hrest⟩ := List.ne_and_not_mem_of_not_mem_cons hout
    cases rest with
    | nil => exact tgetD_tput_ne _ _ _ _ hfirst
    | cons second rest => exact (ih hrest _ _).trans (tgetD_tput_ne _ _ _ _ hfirst)

theorem cellBytes_congr (h : t.grn = s.grn) (cell : Nat) : cellBytes t cell = cellBytes s cell := by simp only [cellBytes, h]

/-- A write into a chain changes no cell outside it. -/
theorem cellBytes_writeChain_of_notMem {h cell : Nat} (hout : cell ∉ chainOf s h) (off : Nat) (bs : List PByte) :
    cellBytes (writeChain s h off bs) cell = cellBytes s cell := by
  simp only [cellBytes, writeChain, setChain, tgetD_spread_of_notMem hout]

/-- Bytes laid over bytes from an offset within them. -/
theorem overlay_of_le {old new : List PByte} {off : Nat} (hoff : off ≤ old.length) :
    overlay old off new = old.take off ++ new ++ old.drop (off + new.length) := by
  simp [overlay, Nat.sub_eq_zero_of_le hoff]

/-- A write within the one full cell of a chain replaces its bytes and leaves those before and behind. -/
theorem cellBytes_writeChain_single {h cell off : Nat} {bs : List PByte} (hchain : chainOf s h = [cell])
    (hfull : (cellBytes s cell).length = 256) (hfit : off + bs.length ≤ 256) :
    cellBytes (writeChain s h off bs) cell
      = (cellBytes s cell).take off ++ bs ++ (cellBytes s cell).drop (off + bs.length) := by
  have hnew := overlay_of_le (new := bs) (show off ≤ (cellBytes s cell).length by omega)
  have hlen : (overlay (cellBytes s cell) off bs).length = 256 := by
    simp only [hnew, List.length_append, List.length_take, List.length_drop, hfull]
    omega
  have hsome : overlay (cellBytes s cell) off bs ≠ [] := by
    intro hnil
    simp [hnil] at hlen
  have hdata : tgetD (writeChain s h off bs).grn.data cell [] = overlay (cellBytes s cell) off bs := by
    simp [writeChain, setChain, chainBytes, hchain, spread, tput, hsome, tgetD]
  rw [← hnew, cellBytes, hdata, hlen]
  exact List.append_nil _

/-! ## The class mask of XMIT CLASS (R46) -/

/-- A bit of a field is the bit of the number at the field's place. -/
theorem testBit_bits (hi lo v n : Nat) : (bits hi lo v).testBit n = (decide (n < hi + 1 - lo) && bitOf (lo + n) v) := by
  rw [bits, Nat.testBit_mod_two_pow, Nat.testBit_div_two_pow, Nat.testBit_eq_decide_div_mod_eq, bitOf, Nat.add_comm n lo]

/-- The class of imm[15:8] at src_a[2:0] is not permitted. -/
theorem bitOf_class_eq_false {imm av : Nat} (hmask : (bits 15 8 imm).testBit (bits 2 0 av) = false) :
    bitOf (8 + bits 2 0 av) imm = false := by
  have hclass : bits 2 0 av < 15 + 1 - 8 := Nat.mod_lt _ (by decide)
  simpa [testBit_bits, hclass] using hmask

end StepEngines

/-- Settles O16: each step issues, its operands are clean, and what is left is its own rule. -/
theorem controlStepsComplete : Obligations.ControlStepsComplete := by
  unfold Obligations.ControlStepsComplete
  refine ⟨?jump, ?stop, ?drop, ?hook, ?ret, ?mark, ?crc32c, ?crc32, ?toeplitz, ?inc, ?add, ?police⟩
  case jump => exact fun s p c x h => h.ends rfl rfl
  case stop => exact fun s p c x h => h.ends rfl rfl
  case drop =>
    intro s p c x h
    refine h.ends rfl ?_
    cases x.hook <;> rfl
  case hook => exact fun s p c x h hclean => h.ends rfl (poisonGate_clean hclean _)
  case ret =>
    intro s p c call x h hret
    refine h.ends rfl ?_
    simp only [hret]
  case mark => exact fun s p c x h => h.ends rfl rfl
  case crc32c =>
    rintro s p c x bs m h rfl rfl hclean
    exact h.hashes (i := .hashCrc32c p c) rfl (Bool.or_false _).symm hclean
  case crc32 =>
    rintro s p c x bs m h rfl rfl hclean
    exact h.hashes (i := .hashCrc32 p c) rfl (Bool.or_false _).symm hclean
  case toeplitz =>
    rintro s p c x bs m h rfl rfl hclean
    exact h.hashes (i := .hashToeplitz p c) rfl rfl hclean
  case inc =>
    intro s p c x h hclean
    rw [← cntFid_eq]
    exact h.ends rfl (poisonGate_clean hclean _)
  case add =>
    intro s p c x h hclean
    rw [← cntFid_eq]
    exact h.ends rfl (poisonGate_clean hclean _)
  case police => exact fun s p c x z => exec_policeMeter_owned

/-- Settles O17: behind the gate each operation on words is that of `BitVec`, whose value is the statement's, and each move of
bytes is in its bounds. -/
theorem aluStepsComplete : Obligations.AluStepsComplete := by
  unfold Obligations.AluStepsComplete
  refine ⟨?move, ?binary, ?shift, ?load, ?store, ?strip, ?prepend, ?time⟩
  case move => exact fun s p c x h hclean => h.ends rfl (poisonGate_clean hclean _)
  case binary =>
    rintro s p c x m rfl hclean
    refine ⟨fun h => ?add, fun h => ?sub, fun h => ?and, fun h => ?or, fun h => ?xor, fun h => ?eq, fun h => ?lt⟩
    case add =>
      rw [StepIn.av, ← BitVec.toNat_add]
      exact h.ends rfl (poisonGate_clean hclean _)
    case sub =>
      rw [StepIn.av, Nat.add_comm, ← BitVec.toNat_sub]
      exact h.ends rfl (poisonGate_clean hclean _)
    case and =>
      rw [StepIn.av, ← BitVec.toNat_and]
      exact h.ends rfl (poisonGate_clean hclean _)
    case or =>
      rw [StepIn.av, ← BitVec.toNat_or]
      exact h.ends rfl (poisonGate_clean hclean _)
    case xor =>
      rw [StepIn.av, ← BitVec.toNat_xor]
      exact h.ends rfl (poisonGate_clean hclean _)
    case eq =>
      refine h.ends rfl ((poisonGate_clean hclean _).trans (congrArg (done s x) ?_))
      exact ite_congr (propext (beq_iff_eq.trans BitVec.toNat_inj.symm)) (fun _ => rfl) (fun _ => rfl)
    case lt =>
      refine h.ends rfl ((poisonGate_clean hclean _).trans (congrArg (done s x) ?_))
      exact ite_congr (propext decide_eq_true_iff) (fun _ => rfl) (fun _ => rfl)
  case shift =>
    intro s p c x h hclean
    refine h.ends rfl ((poisonGate_clean hclean _).trans ?_)
    rw [apply_ite BitVec.toNat, BitVec.toNat_ushiftRight, BitVec.toNat_shiftLeft, Nat.shiftRight_eq_div_pow, Nat.shiftLeft_eq]
    rfl
  case load =>
    rintro s p c x bs h hlen hwin rfl hclean
    rw [exec_loadHdr_inside h (hdrOk_of_le hlen hwin)]
    exact congrArg _ (poisonGate_clean hclean _)
  case store => exact fun s p c x => exec_storeHdr_clean
  case strip =>
    rintro s p c n x h rfl hpos hmax hlen
    refine h.ends rfl (if_neg ?_)
    simp only [Bool.or_eq_true, decide_eq_true_eq]
    omega
  case prepend =>
    rintro s p c n x h rfl hpos hmax hlen
    refine h.ends rfl (if_neg ?_)
    simp only [Bool.or_eq_true, decide_eq_true_eq]
    omega
  case time => exact fun s p c x h => h.ends rfl rfl

/-- Settles O18: all five are one step over their parsers (`Issues.parses`). -/
theorem parseStepsComplete : Obligations.ParseStepsComplete := by
  unfold Obligations.ParseStepsComplete
  rintro s p c lim x d rfl rfl
  exact ⟨fun r h hr hclean => h.parses rfl hr hclean, fun r h hr hclean => h.parses rfl hr hclean,
    fun r h hr hclean => h.parses rfl hr hclean, fun r h hr hclean => h.parses rfl hr hclean,
    fun r h hr hclean => h.parses rfl hr hclean⟩

/-- Settles O53: each step's gate is its first rule, and the poisoned operand ends it there. -/
theorem poisonedOperandIsRefused : Obligations.PoisonedOperandIsRefused := by
  unfold Obligations.PoisonedOperandIsRefused
  refine ⟨?binary, ?unary, ?load, ?store, ?hash, ?units⟩
  case binary =>
    intro s p c x i hstrict hmark h
    rcases h with ⟨h, rfl⟩ | ⟨h, rfl⟩ | ⟨h, rfl⟩ | ⟨h, rfl⟩ | ⟨h, rfl⟩ | ⟨h, rfl⟩ | ⟨h, rfl⟩ <;>
      exact h.ends rfl (poisonGate_poisoned hmark hstrict _)
  case unary =>
    intro s p c x i hstrict hmark h
    rcases h with ⟨h, rfl⟩ | ⟨h, rfl⟩ | ⟨h, rfl⟩ | ⟨h, rfl⟩
    · exact h.ends rfl (poisonGate_poisoned hmark hstrict _)
    · exact h.ends rfl (poisonGate_poisoned hmark hstrict _)
    · exact h.ends rfl (poisonGate_poisoned hmark hstrict _)
    · exact h.ends rfl (poisonGate_poisoned (by rw [hmark, Bool.true_or]) hstrict _)
  case load =>
    intro s p c x hstrict hok h hmark
    rw [exec_loadHdr_inside h hok]
    exact congrArg _ (poisonGate_poisoned hmark hstrict _)
  case store =>
    rintro s p c x hstrict h (hword | ⟨hok, hbytes⟩)
    · exact exec_storeHdr_poisoned h hword hstrict
    · by_cases hword : x.a.p = true
      · exact exec_storeHdr_poisoned h hword hstrict
      · rw [exec_storeHdr_inside h hok (.inl (by simpa using hword))]
        exact congrArg _ (poisonGate_poisoned hbytes hstrict _)
  case hash =>
    intro s p c x i hstrict hmark h
    rcases h with ⟨h, rfl⟩ | ⟨h, rfl⟩ | ⟨h, rfl⟩ <;>
      exact h.ends rfl (poisonGate_poisoned (by rw [hmark, Bool.true_or]) hstrict _)
  case units =>
    intro s p c x i hstrict hmark h
    rcases h with ⟨h, rfl, hfrozen⟩ | ⟨h, rfl, hfrozen⟩ | ⟨h, rfl, hfrozen⟩ | ⟨h, rfl, hfrozen⟩ <;>
      exact h.ends rfl (unitGate_poisoned hfrozen hmark hstrict _)

/-- Settles O54: the class is not in the mask, and a step that ends with a code touches no port, and no cell where its bank names
it. -/
theorem classOutsideMaskRefused : Obligations.ClassOutsideMaskRefused := by
  unfold Obligations.ClassOutsideMaskRefused
  intro s p c x h hfrozen hclean hturn hmask
  refine ⟨h.ends rfl ((unitGate_clean hfrozen hclean _).trans ?_), Only.eq (m := 0xb1) (by simp) .mac, fun hown =>
    (done_own_only _ hown).eq .grn⟩
  dsimp only
  rw [if_neg (by rw [hturn]; decide), if_pos (by rw [bitOf_class_eq_false hmask, Bool.not_false, Bool.or_true])]

/-- Settles O56: STORE_HDR writes into its chain (`exec_storeHdr_clean`), and moving its packet on touches no cell. -/
theorem storeHdrWritesItsBytes : Obligations.StoreHdrWritesItsBytes := by
  unfold Obligations.StoreHdrWritesItsBytes
  rintro s p c o n x h hword rfl rfl hlen hwin hbytes
  have hgrn : (done (writeChain s x.k.handle (bits 8 0 x.imm) (hdrBytes x (bits 11 9 x.imm + 1))) x .done).grn
      = (writeChain s x.k.handle (bits 8 0 x.imm) (hdrBytes x (bits 11 9 x.imm + 1))).grn :=
    (done_own_only _ h.own).eq .grn
  refine ⟨_, exec_storeHdr_clean h hlen hwin hword hbytes, fun cell hout => ?outside, fun cell hchain hfull hfit => ?inside,
    ?ledger, ?frame⟩
  case outside => rw [cellBytes_congr hgrn, cellBytes_writeChain_of_notMem hout]
  case inside =>
    rw [cellBytes_congr hgrn, cellBytes_writeChain_single hchain hfull (by rwa [hdrBytes_length]), hdrBytes_length]
    rfl
  case ledger => rw [hgrn]; rfl
  case frame => exact Only.changes (m := 0xb1) (by simp) (by decide)

end Sys2Proof.Machine

/-! PROOFS. The queue commands of class 0x03: what each does when its rules allow it (O1), the destroy of a ring that is not
STOPPED (O47), and a create whose ring is misshapen (O48). -/

namespace Sys2Proof.Machine

/-! ## What stands before a queue command's own rules (R86, Table 14.8) -/

section QueueParameters

variable {s b : State} {m : Meta} {op fid cq ring type : Nat} {objs : List Obj} {rld : Bool}

/-- A ring type and number that a queue command may name. -/
theorem ringBad_eq_none (htype : ringTypeOk type = true) (hring : ring < 16384) : ringBad type ring = none :=
  firstBad_all (by simp [htype, hring])

/-- The type of a transmit or receive ring is in range. -/
theorem ringBad_queue (rx : Bool) (hring : ring < 16384) : ringBad (if rx then 2 else 1) ring = none :=
  ringBad_eq_none (by cases rx <;> rfl) hring

/-- A transmit or receive ring is no completion ring. -/
theorem queueType_ne_three (rx : Bool) : (if rx then 2 else 1) ≠ 3 := by cases rx <;> decide

/-- A create that names a completion ring of its own function goes on (R87). -/
theorem cqFor_own {c : CqRing} (hc : cqOf s cq = some c) (hown : c.fid = fid) (f : State → CmdOut) :
    cqFor s fid cq f = f s := by
  simp [cqFor, hc, hown]

/-- Where a check fails, some item is at fault. -/
theorem exists_firstBad {l : List (Nat × Bool)} {e : Nat × Bool} (hmem : e ∈ l) (hbad : e.2 = false) :
    ∃ k, firstBad l = some k := by
  cases hfind : l.find? (fun e => !e.2) with
  | none => exact absurd hbad (by simpa using List.find?_eq_none.mp hfind e hmem)
  | some x => exact ⟨x.1, by rw [firstBad, hfind]; rfl⟩

/-- A command that may be sent and has a parameter at fault is refused by check 8 (R404). -/
theorem runCmd_badParam {bad : Option Nat} {k : Nat} (f : State → CmdOut) (hruns : cmdWaits s m op = false)
    (hissuer : issuerOk m = true) (hopen : opcodeOpen s m op = true) (hbad : bad = some k) :
    runCmd m op objs rld bad f s = denyCheck (began s m op) m op (packetOf s m op) 8 k .badParam cStwBadPacket := by
  have hopen' : opcodeOpen (takeAccepted s m op).2 m op = true := opcodeOpen_began.trans hopen
  simp only [runCmd, hruns, hissuer, hopen', hbad]
  rfl

end QueueParameters

/-! ## A refusal touches no ring (R398, R400 to R404) -/

section Refusals

variable {s : State} {m : Meta} {op : Nat}

/-- A write for the device is posted, or is a violation of the device, which never enters the stocks (R337). -/
theorem hostWrite_device_only (addr : Nat) (bytes : List PByte) : Only 0x80011 s (hostWrite s 0xFFF addr bytes).2 := by
  unfold hostWrite
  repeat' split
  · simp
  · simp [dmaViolation, violate]
  · simp
  · simp

theorem rplWrite_qm (bytes : List Nat) : (rplWrite s bytes).qm = s.qm := (hostWrite_device_only _ _).eq .qm

theorem adminReply_qm (st : Status) (bytes : List Nat) : (adminReply s m op st bytes).qm = s.qm := by
  have hcounter : ∀ (u : State) (a : Nat) (bs : List PByte), (hostWrite u 0xFFF a bs).2.qm = u.qm := fun u a bs =>
    (hostWrite_device_only a bs).eq .qm
  have hevent : ∀ (u : State) (d : List Fld), (logEvent u 0x0001 0 d).qm = u.qm := fun u d =>
    Only.eq (m := 0x11) (by simp) .qm
  unfold adminReply
  dsimp only
  split <;> split <;> simp [hcounter, hevent, rplWrite_qm]

theorem sendReply_qm (st : Status) (bytes : List Nat) : (sendReply s m op st bytes).qm = s.qm := by
  unfold sendReply
  split
  · exact adminReply_qm st bytes
  · exact Only.eq (m := 0x84004) (by simp) .qm
  · exact Only.eq (m := 0x88000) (by simp) .qm
  · rfl

theorem denyCheck_qm (i : PktInfo) (check item : Nat) (st : Status) (counter : Nat) :
    (denyCheck s m op i check item st counter).qm = s.qm := by
  unfold denyCheck answer
  exact (sendReply_qm _ _).trans (Only.eq (m := 0x10) (by simp) .qm)

theorem began_qm : (began s m op).qm = s.qm := by
  obtain ⟨l, r, h⟩ := began_eq s m op
  rw [h]

end Refusals

/-- Settles O1: each command's parameters are in range and its rules' checks hold by its clause's hypotheses, so that it does
its effect; a create finds a free number (`freeRing_some`). -/
theorem queueCommandsComplete : Obligations.QueueCommandsComplete := by
  unfold Obligations.QueueCommandsComplete
  refine ⟨?createTx, ?createRx, ?createCq, ?destroyTx, ?destroyRx, ?destroyCq, ?start, ?startCq, ?stop, ?stopCq, ?resume,
    ?weight, ?read, ?readCq⟩
  case createTx =>
    intro s b m fid window base sizeLog2 cq pipeline program weight burst c h hfid hwindow hsize hbase hbase64 hcq hpipe
      hprog hw1 hw2 hb1 hb2 hc hown hin hfree hgrant hsome
    obtain ⟨n, hn, hnone, hpick⟩ := freeRing_some b b.qm.tx hsome
    refine ⟨n, hn, hnone, cmd_ok h (firstBad_all ?_) ?_⟩
    · simpa [hfid, hwindow, hsize, hbase, hcq, hpipe, hprog, hw1, hw2, hb1, hb2] using hbase64
    · simp [cqFor_own hc hown, hin, hfree, Nat.not_le.mpr hgrant, hpick, newState]
  case createRx =>
    intro s b m fid window base sizeLog2 cq ts c h hfid hwindow hsize hbase hbase64 hcq hc hown hin hfree hgrant hsome
    obtain ⟨n, hn, hnone, hpick⟩ := freeRing_some b b.qm.rx hsome
    refine ⟨n, hn, hnone, cmd_ok h (firstBad_all ?_) ?_⟩
    · simpa [hfid, hwindow, hsize, hbase, hcq] using hbase64
    · simp [cqFor_own hc hown, hin, hfree, Nat.not_le.mpr hgrant, hpick, newState]
  case createCq =>
    intro s b m fid window base sizeLog2 ctrAddr msix h hfid hwindow hsize hbase hbase64 halign hctr64 hmsix hvec hin hctr
      hfree hgrant hsome
    obtain ⟨n, hn, hnone, hpick⟩ := freeRing_some b b.qm.cq hsome
    have hvec' : ¬ (fid ≠ 0 ∧ (fnOf b fid).msix ≤ msix) := by omega
    refine ⟨n, hn, hnone, cmd_ok h (firstBad_all ?_) ?_⟩
    · simpa [hfid, hwindow, hsize, hbase, halign, hmsix] using And.intro hbase64 hctr64
    · simp [hvec', hin, hctr, hfree, Nat.not_le.mpr hgrant, hpick, newState]
  case destroyTx =>
    intro s b m ring h hring r hr hst
    exact cmd_done h (ringBad_queue false hring) (by simp [hr, hst])
  case destroyRx =>
    intro s b m ring h hring r hr hst
    exact cmd_done h (ringBad_queue true hring) (by simp [hr, hst])
  case destroyCq =>
    intro s b m ring h hring r hr hst hbound
    exact cmd_done h (ringBad_eq_none rfl hring) (by simp [hr, hst, hbound])
  case start =>
    intro s b m rx ring r r1 h hring hr hst hbme hr1
    refine ⟨fun hcover => by simp [coverStocks, hcover], cmd_done h (ringBad_queue rx hring) ?_⟩
    rcases hst with hst | hst <;> simp [queueType_ne_three, hr, hst, hbme, hr1]
  case startCq =>
    intro s b m ring c h hring hc hst hbme
    refine cmd_done h (ringBad_eq_none rfl hring) ?_
    rcases hst with hst | hst <;> simp [hc, hst, hbme]
  case stop =>
    intro s b m rx ring r h hring hr hst
    refine cmd_done h (ringBad_queue rx hring) ?_
    simp [queueType_ne_three, hr, RingState.stoppable, or_assoc, hst]
  case stopCq =>
    intro s b m ring c h hring hc hst
    exact cmd_done h (ringBad_eq_none rfl hring) (by simp [hc, RingState.stoppable, or_assoc, hst])
  case resume =>
    intro s b m fid h hfid hbme hhalted
    exact cmd_done h (firstBad_all (by simp [hfid])) (by simp [hbme, hhalted])
  case weight =>
    intro s b m ring weight burst r h hring hw1 hw2 hb1 hb2 hr
    exact cmd_done h (firstBad_all (by simp [hring, hw1, hw2, hb1, hb2])) (by simp [hr])
  case read =>
    intro s b m rx ring r h hring hr hown
    have hallowed : ¬ (m.fid ≠ 0 ∧ r.fid ≠ m.fid) := by omega
    refine cmd_ok h (ringBad_queue rx hring) ?_
    simp [queueType_ne_three, hr, hallowed]
  case readCq =>
    intro s b m ring c h hring hc hown
    have hallowed : ¬ (m.fid ≠ 0 ∧ c.fid ≠ m.fid) := by omega
    exact cmd_ok h (ringBad_eq_none rfl hring) (by simp [hc, hallowed])

/-- Settles O47: the rule of a destroy for the state of the ring comes first, whatever the ring's type. -/
theorem destroyNeedsStopped : Obligations.DestroyNeedsStopped := by
  unfold Obligations.DestroyNeedsStopped
  refine fun s b m type ring h hring => ⟨?tx, ?rx, ?cq⟩
  case tx =>
    rintro r rfl hr hst
    exact cmd_no h (ringBad_queue false hring) (by simp [hr, hst]) (by decide)
  case rx =>
    rintro r rfl hr hst
    exact cmd_no h (ringBad_queue true hring) (by simp [hr, hst]) (by decide)
  case cq =>
    rintro c rfl hc hst
    exact cmd_no h (ringBad_eq_none rfl hring) (by simp [hc, hst]) (by decide)

/-! ## A misshapen ring (R86) -/

section Misshapen

variable {s : State} {m : Meta} {op sizeLog2 base unit : Nat} {objs : List Obj} {rld : Bool} {bad : Option Nat}
  {a c : Nat × Bool} {rest : List (Nat × Bool)}

/-- Of a misshapen ring, item 3 is at fault where its size is no power of two from 64 to 65,536 units, and item 2, the base
address, where its size is right. -/
theorem misshapen_firstBad (h : sizeLog2 < 6 ∨ 16 < sizeLog2 ∨ base % min (2 ^ sizeLog2 * unit) 4096 ≠ 0) :
    ∃ k, firstBad (a :: c :: (2, !sizeOk sizeLog2 || (baseOk base sizeLog2 unit && decide (base < 2 ^ 64))) ::
      (3, sizeOk sizeLog2) :: rest) = some k := by
  by_cases hsize : sizeOk sizeLog2 = true
  · have hrange : 6 ≤ sizeLog2 ∧ sizeLog2 ≤ 16 := by simpa [sizeOk] using hsize
    have hbase : base % min (2 ^ sizeLog2 * unit) 4096 ≠ 0 := by omega
    exact exists_firstBad (.tail _ (.tail _ (.head _))) (by simp [hsize, baseOk, hbase])
  · exact exists_firstBad (.tail _ (.tail _ (.tail _ (.head _)))) (by simpa using hsize)

/-- A command with a parameter at fault is refused by check 8 and leaves every ring as it was. -/
theorem badParam_refused (f : State → CmdOut) (hruns : cmdWaits s m op = false) (hissuer : issuerOk m = true)
    (hopen : opcodeOpen s m op = true) (hbad : ∃ k, bad = some k) :
    ∃ (k : Nat) (t : State), Host.Outcome.next (runCmd m op objs rld bad f s) = (.next t : Res) ∧
      t = denyCheck (began s m op) m op (packetOf s m op) 8 k .badParam cStwBadPacket ∧ t.qm = s.qm := by
  obtain ⟨k, hk⟩ := hbad
  exact ⟨k, _, congrArg _ (runCmd_badParam f hruns hissuer hopen hk), rfl, (denyCheck_qm ..).trans began_qm⟩

end Misshapen

/-- Settles O48: the item of the size, of the base address or of the counter address is at fault, and a refusal touches no
ring. -/
theorem misshapenRingRefused : Obligations.MisshapenRingRefused := by
  unfold Obligations.MisshapenRingRefused
  refine ⟨?tx, ?rx, ?cq⟩
  case tx =>
    intro s m fid window base sizeLog2 cq pipeline program weight burst hruns hissuer hopen hshape
    exact badParam_refused _ hruns hissuer hopen (misshapen_firstBad hshape)
  case rx =>
    intro s m fid window base sizeLog2 cq ts hruns hissuer hopen hshape
    exact badParam_refused _ hruns hissuer hopen (misshapen_firstBad hshape)
  case cq =>
    intro s m fid window base sizeLog2 ctrAddr msix hruns hissuer hopen hshape
    refine badParam_refused _ hruns hissuer hopen ?_
    by_cases hctr : ctrAddr % 4 = 0
    · exact misshapen_firstBad (by simpa [hctr] using hshape)
    · exact exists_firstBad (.tail _ (.tail _ (.tail _ (.tail _ (.head _))))) (by simp [hctr])

end Sys2Proof.Machine

/-! PROOFS. The queue manager's events (O25), and what a consumer write leaves in its ring (O50): a ring's C is moved by consumer
writes alone, through the completions, violations and signals that one sets off. -/

namespace Sys2Proof.Machine

/-! ## Writes into doorbell windows (R96 to R101, R113, R114) -/

section Windows

variable {s : State} {fid w v q n : Nat} {rx : Bool} {r : Ring} {c : CqRing}

/-- A write that reaches a function outside the stocks acts. -/
theorem windowWrite_reached (hreach : memReach s fid = true) (hfree : isFrozen s fid = false) (f : State) :
    windowWrite s fid f = f := by
  simp [windowWrite, memWrite, hreach, hfree]

theorem exec_doorbell_position (hreach : memReach s fid = true) (hfree : isFrozen s fid = false) (hw : w < windowsOf fid) :
    exec (.doorbell fid w 0 4 v) s = .next (windowPos s fid w (BitVec.ofNat 32 v)) := by
  change execDoorbell fid w 0 4 v s = _
  simp [execDoorbell, windowWrite_reached hreach hfree, Nat.not_le.mpr hw]

theorem exec_completionConsumerWrite_position (hreach : memReach s fid = true) (hfree : isFrozen s fid = false)
    (hw : w < windowsOf fid) :
    exec (.completionConsumerWrite fid w v) s = .next (windowPos s fid w (BitVec.ofNat 32 v)) := by
  change execCompletionConsumerWrite fid w v s = _
  simp [execCompletionConsumerWrite, windowWrite_reached hreach hfree, Nat.not_le.mpr hw]

theorem windowPos_ring (hat : atWindow s fid w = some (.ring rx q r)) (x : W32) :
    windowPos s fid w x = ringDoorbell s fid rx q r x := by
  simp [windowPos, hat]

theorem windowPos_cq (hat : atWindow s fid w = some (.cq n c)) (x : W32) :
    windowPos s fid w x = cqConsume s fid n c x false := by
  simp [windowPos, hat]

theorem exec_completionArm_cq (hreach : memReach s fid = true) (hfree : isFrozen s fid = false) (hw : w < windowsOf fid)
    (hat : atWindow s fid w = some (.cq n c)) :
    exec (.completionArm fid w v) s = .next (cqConsume s fid n c (BitVec.ofNat 32 v) true) := by
  change execCompletionArm fid w v s = _
  simp [execCompletionArm, windowWrite_reached hreach hfree, Nat.not_le.mpr hw, hat]

/-- A push of 32 to 512 bytes in whole slots reaches its ring. -/
theorem exec_inlinePush_ring {bytes : List Nat} (hreach : memReach s fid = true) (hfree : isFrozen s fid = false)
    (hw : w < windowsOf fid) (hat : atWindow s fid w = some (.ring rx q r)) (hsome : bytes ≠ [])
    (hslots : bytes.length % 32 = 0) (hle : bytes.length ≤ 512) :
    exec (.inlinePush fid w bytes) s = .next (pushEntry s rx q r bytes) := by
  change execInlinePush fid w bytes s = _
  simp [execInlinePush, windowWrite_reached hreach hfree, Nat.not_le.mpr hw, hat, hsome, hslots, Nat.not_lt.mpr hle]

/-- A pushed entry of its own length, with the push flag and room, goes into staging or falls back (R99, R101). -/
theorem pushEntry_fits {bytes : List Nat} (hlen : bytes.length = 32 * bytes.getD 2 0)
    (hflag : bitOf 2 (bytes.getD 1 0) = true) (hroom : doorbellOk r (r.p + BitVec.ofNat 32 (bytes.getD 2 0)) = true) :
    pushEntry s rx q r bytes = if stagedAll s < 4096
      then holdUpdate (setRing s rx q { r with
        p := r.p + BitVec.ofNat 32 (bytes.getD 2 0), staged := r.staged ++ [(r.p, timeNow s, bytes)] }) r.cq
      else holdUpdate (count (setRing s rx q { r with
        p := r.p + BitVec.ofNat 32 (bytes.getD 2 0), marks := r.marks ++ [r.p] }) r.fid cPushFallback) r.cq := by
  have hgood : (decide (32 * bytes.getD 2 0 ≠ bytes.length) || !bitOf 2 (bytes.getD 1 0)) = false := by
    rw [hflag, hlen, decide_eq_false (not_not_intro rfl)]
    rfl
  simp only [pushEntry, hgood, hroom, Bool.not_true, Bool.false_eq_true, if_false]

end Windows

/-! ## Fetches (R92, R101 to R103) -/

section Fetches

variable {s t : State} {rx : Bool} {n q : Nat} {r x : Ring}

theorem exec_queueFetch_receive (hr : ringOf s true n = some r) (helig : eligible s r = true) :
    exec (.queueFetch true n) s = .next (startFetch s true n r) := by
  change execQueueFetch true n s = _
  simp [execQueueFetch, hr, helig]

theorem exec_queueFetch_transmit (hr : ringOf s false n = some r) (hvisit : nextVisit s r.pipeline = (some n, t))
    (hx : ringOf t false n = some x) : exec (.queueFetch false n) s = .next (startFetch t false n x) := by
  change execQueueFetch false n s = _
  simp [execQueueFetch, hr, hvisit, hx]

theorem exec_entryFetchComplete_staged {ns : Nat} {pos : W32} {bs : List Nat} (hr : ringOf s rx q = some r)
    (hfetch : r.fetching = true) (hstaged : r.staged.find? (fun e => e.1 = r.f) = some (pos, ns, bs)) :
    exec (.entryFetchComplete rx q) s = .next (arriveEntry s rx q r bs (some ns)) := by
  change execEntryFetchComplete rx q s = _
  simp only [execEntryFetchComplete, hr, hfetch, hstaged, Bool.not_true, Bool.false_eq_true, if_false]

theorem exec_entryFetchComplete_read {i : Nat} {rd : Read} (hr : ringOf s rx q = some r) (hfetch : r.fetching = true)
    (hstaged : r.staged.find? (fun e => e.1 = r.f) = none) (hready : fetchReady s rx q = some (i, rd))
    (hfin : rd.fin = some .ok) :
    exec (.entryFetchComplete rx q) s = .next
      (arriveEntry (releaseReads ((dropRead s i).pci.reads.length + 1) (dropRead s i)) rx q r rd.data none) := by
  change execEntryFetchComplete rx q s = _
  simp only [execEntryFetchComplete, hr, hfetch, hstaged, hready, hfin, Bool.not_true, Bool.false_eq_true, if_false]

end Fetches

/-- Settles O25: each write reaches its ring, and each visit and arrival its queue, by its clause's hypotheses. -/
theorem queueRowsComplete : Obligations.QueueRowsComplete := by
  unfold Obligations.QueueRowsComplete
  refine ⟨?doorbell, ?push, ?consumer, ?fetchRx, ?fetchTx, ?staged, ?read⟩
  case doorbell =>
    intro s fid w v q rx r hreach hfree hw hat hok
    rw [exec_doorbell_position hreach hfree hw, windowPos_ring hat, ringDoorbell, if_pos hok]
  case push =>
    intro s fid w q bytes rx r hreach hfree hw hat hsome hlen hle hflag hroom
    rw [exec_inlinePush_ring hreach hfree hw hat hsome (by omega) hle, pushEntry_fits hlen hflag hroom]
  case consumer =>
    intro s fid w v n c hreach hfree hw hat _
    exact ⟨by rw [exec_completionConsumerWrite_position hreach hfree hw, windowPos_cq hat],
      exec_completionArm_cq hreach hfree hw hat⟩
  case fetchRx => exact fun s n r => exec_queueFetch_receive
  case fetchTx => exact fun s t n r x => exec_queueFetch_transmit
  case staged => exact fun s rx q ns r pos bs => exec_entryFetchComplete_staged
  case read =>
    rintro s t rx q i r rd hr hfetch hstaged hready hfin rfl
    exact exec_entryFetchComplete_read hr hfetch hstaged hready hfin

/-! ## The consumer position of a completion ring (R111, R114) -/

/-- C of completion ring `n`. -/
def consumedOf (s : State) (n : Nat) : Option W32 := (cqOf s n).map (·.c)

section Consumed

variable {s t : State} {n k : Nat} {c d : CqRing}

theorem consumedOf_of_cqOf (h : cqOf s n = some c) : consumedOf s n = some c.c := congrArg _ h

theorem consumedOf_eq_some {v : W32} (h : consumedOf s n = some v) : ∃ d, cqOf s n = some d ∧ d.c = v :=
  Option.map_eq_some_iff.mp h

/-- Only the completion rings matter. -/
theorem consumedOf_congr (h : t.qm.cq = s.qm.cq) (n : Nat) : consumedOf t n = consumedOf s n := by
  rw [consumedOf, cqOf, h]
  rfl

/-- What leaves the queue manager alone leaves every C. -/
theorem Only.consumedOf {m : Nat} (h : Only m s t) (n : Nat) (hqm : Blk.qm.mask &&& m ≠ Blk.qm.mask := by decide) :
    Machine.consumedOf t n = Machine.consumedOf s n :=
  consumedOf_congr (congrArg (·.cq) (h.eq .qm hqm)) n

theorem consumedOf_count (fid i : Nat) : consumedOf (count s fid i) n = consumedOf s n :=
  Only.consumedOf (m := 0x10) (by simp) n

theorem consumedOf_measure (x : Option Meas) : consumedOf (measure s x) n = consumedOf s n :=
  Only.consumedOf (m := 0x10) (by simp) n

theorem consumedOf_cqSignal : consumedOf (cqSignal s k c) n = consumedOf s n :=
  Only.consumedOf (m := 0x84011) (by simp) n

theorem consumedOf_setCq (s : State) (n : Nat) (c : CqRing) : consumedOf (setCq s n c) n = some c.c :=
  consumedOf_of_cqOf (cqOf_setCq s n c)

/-- A change of every listed element is a change of the one read. -/
theorem tget_tmap {α : Type} (t : Tbl α) (f : Nat → α → α) (i : Nat) : tget (tmap t f) i = (tget t i).map (f i) := by
  induction t with
  | nil => rfl
  | cons e t ih =>
    obtain ⟨j, v⟩ := e
    simp only [tmap, List.map_cons, tget]
    split
    · next h => subst h; rfl
    · exact ih

/-- Freezing a function's rings moves no C (R118). -/
theorem consumedOf_freezeRings (fid : Nat) : consumedOf (freezeRings s fid) n = consumedOf s n := by
  unfold consumedOf cqOf freezeRings
  dsimp only
  rw [tget_tmap, Option.map_map]
  congr 1
  funext c
  dsimp only [Function.comp]
  split <;> rfl

theorem consumedOf_enterStocks (fid : Nat) : consumedOf (enterStocks s fid) n = consumedOf s n := by
  have hafter : ∀ u : State, consumedOf (clearLocksOf (freezeHaul (freezeCipher (freezeRequests u fid) fid) fid) fid) n
      = consumedOf u n := fun u => Only.consumedOf (m := 0x1bb1) (by simp) n
  have hbefore : ∀ f : Fn → Fn, consumedOf (dropPending (modFn s fid f) fid) n = consumedOf s n := fun f =>
    Only.consumedOf (m := 0x104) (by simp) n
  exact (hafter _).trans ((consumedOf_freezeRings fid).trans (hbefore _))

theorem consumedOf_violate (fid code detail target : Nat) :
    consumedOf (violate s fid code detail target) n = consumedOf s n := by
  have hrecord : consumedOf (recordViol s fid code detail target) n = consumedOf s n :=
    Only.consumedOf (m := 0x1c) (by simp) n
  unfold violate
  dsimp only
  split
  · exact Only.consumedOf (m := 0x11) (by simp) n
  · split
    · split
      · exact hrecord
      · rfl
    · split
      · exact hrecord
      · rw [consumedOf_enterStocks, hrecord]

theorem consumedOf_hostWrite (fid addr : Nat) (bytes : List PByte) :
    consumedOf (hostWrite s fid addr bytes).2 n = consumedOf s n := by
  unfold hostWrite
  split
  · rfl
  · split
    · exact consumedOf_violate ..
    · split <;> rfl

theorem consumedOf_holdUpdate : consumedOf (holdUpdate s n) n = consumedOf s n := by
  unfold holdUpdate
  split
  · rfl
  · next c hc =>
    dsimp only
    split
    · rw [consumedOf_count, consumedOf_of_cqOf hc]
      exact congrArg (Option.map _) (tget_tset_self ..)
    · rw [consumedOf_of_cqOf hc]
      exact congrArg (Option.map _) (tget_tset_self ..)

theorem consumedOf_setRing {rx : Bool} {q : Nat} {r : Ring} : consumedOf (setRing s rx q r) n = consumedOf s n := by
  unfold setRing
  split <;> rfl

/-- An entry written into the ring moves Pc, and of its queue C (R95), but not the ring's own C. -/
theorem consumedOf_cqPut {it : BackItem} (hd : consumedOf s n = some d.c) :
    consumedOf (cqPut s n d it) n = consumedOf s n := by
  have hput : ∀ u : State, consumedOf (measure (setCq u n { d with pc := d.pc + 1 }) it.meas) n = consumedOf s n :=
    fun u => by rw [consumedOf_measure, consumedOf_setCq, hd]
  unfold cqPut
  dsimp only
  split
  · split
    · split
      · rw [consumedOf_setRing, hput]
      · exact hput _
    · exact hput _
  · exact consumedOf_hostWrite ..

theorem consumedOf_drainItems (items : List BackItem) : consumedOf (drainItems s n items) n = consumedOf s n := by
  induction items generalizing s with
  | nil => rfl
  | cons it items ih =>
    unfold drainItems
    split
    · rfl
    · next c hc =>
      have hconsumed : consumedOf s n = some c.c := consumedOf_of_cqOf hc
      split
      · exact ih.trans (consumedOf_cqPut hconsumed)
      · rfl

/-- Writing the counter, disarming and signalling move no C (R112, R113). -/
theorem consumedOf_cqCounter : consumedOf (cqCounter s n) n = consumedOf s n := by
  unfold cqCounter
  split
  · rfl
  · next c hc =>
    rw [consumedOf_of_cqOf hc]
    split
    · exact consumedOf_of_cqOf hc
    · split
      · exact consumedOf_setCq ..
      · dsimp only
        split
        · rw [consumedOf_cqSignal, consumedOf_setCq]
        · rw [consumedOf_hostWrite, consumedOf_setCq]

theorem consumedOf_cqDrain : consumedOf (cqDrain s n) n = consumedOf s n := by
  unfold cqDrain
  split
  · rfl
  · dsimp only
    split
    · rw [consumedOf_holdUpdate, consumedOf_cqCounter, consumedOf_drainItems]
    · rw [consumedOf_holdUpdate, consumedOf_drainItems]

/-- A position that R114 allows becomes the ring's C. -/
theorem consumedOf_cqConsume {fid : Nat} {v : W32} {arm : Bool} (hok : consumerOk c v = true) :
    consumedOf (cqConsume s fid n c v arm) n = some v := by
  have hdrain : ∀ x : CqRing, x.c = v → consumedOf (cqDrain (setCq s n x) n) n = some v := fun x hx => by
    rw [consumedOf_cqDrain, consumedOf_setCq, hx]
  unfold cqConsume
  simp only [hok, Bool.not_true, Bool.false_eq_true, if_false]
  split
  · split
    · rw [consumedOf_holdUpdate, consumedOf_cqCounter, hdrain _ rfl]
    · rw [consumedOf_holdUpdate, hdrain _ rfl]
  · exact hdrain _ rfl

end Consumed

/-- Settles O50: a legal write sets C, which nothing that it sets off moves (`consumedOf_cqConsume`); any other is the
violation. -/
theorem consumerWriteMovesC : Obligations.ConsumerWriteMovesC := by
  unfold Obligations.ConsumerWriteMovesC
  intro s fid w n v c hreach hfree hw hat
  have hexec : exec (.completionConsumerWrite fid w v.toNat) s = .next (cqConsume s fid n c v false) := by
    rw [exec_completionConsumerWrite_position hreach hfree hw, windowPos_cq hat, BitVec.ofNat_toNat, BitVec.setWidth_eq]
  have hlegal : consumerOk c v = true ↔ (c.pc - v).toNat ≤ (c.pc - c.c).toNat ∧ (c.pc - v).toNat ≤ 2 ^ c.sizeLog2 := by
    rw [consumerOk, Bool.and_eq_true, decide_eq_true_eq, decide_eq_true_eq, CqRing.used]
  refine ⟨fun h => ?legal, fun h => ?violation⟩
  case legal =>
    obtain ⟨d, hd, hc⟩ := consumedOf_eq_some (consumedOf_cqConsume (hlegal.mpr h))
    exact ⟨_, d, hexec, hd, hc⟩
  case violation =>
    have hbad : consumerOk c v = false := Bool.eq_false_iff.mpr (mt hlegal.mp h)
    rw [hexec, cqConsume, hbad]
    rfl

end Sys2Proof.Machine

/-! PROOFS. Every limit stays in its range (O44): of the commands, ten may set a limit, and each checks the range or leaves the
limits at their reset values. What reset leaves (O57), and that it is sound (O58). -/

namespace Sys2Proof.Machine

/-! ## What keeps every limit in its range (R152, R183, R223, R267, R472) -/

/-- Every limit that was in its range still is. -/
def KeepsLimits (s t : State) : Prop := limitsSound s = true → limitsSound t = true

section Limits

variable {s t u : State}

theorem limitsSound_iff : limitsSound s = true ↔ trimOk s.alm.trim = true ∧ s.sw.loopMax ≤ 4096 ∧ s.grn.scrubRate ≤ 400 ∧
    (1 ≤ s.fwt.agerRate ∧ s.fwt.agerRate ≤ 64) ∧ (10 ≤ s.fwt.lockLimitUs ∧ s.fwt.lockLimitUs ≤ 1000) ∧
    10 ≤ s.cip.claimLimitUs ∧ s.cip.claimLimitUs ≤ 1000 := by
  simp [limitsSound, and_assoc]

theorem limitsSound_congr (h : t.limits = s.limits) : limitsSound t = limitsSound s := by
  simp only [State.limits, Limits.mk.injEq] at h
  simp only [limitsSound, h]

theorem KeepsLimits.refl (s : State) : KeepsLimits s s := id

theorem KeepsLimits.trans (h : KeepsLimits s t) (h' : KeepsLimits t u) : KeepsLimits s u :=
  h' ∘ h

/-- What changes anything but the limits keeps them in their ranges. -/
theorem Only.keepsLimits (h : Only 0x1ffffff s t) : KeepsLimits s t :=
  (limitsSound_congr (h.eq .limits (by decide))).trans

/-- A command whose frame leaves the limits out keeps them in their ranges. -/
theorem keepsLimits_of_only (h : Only 0x1ffffff s t ↔ Only 0x1ffffff s s) : KeepsLimits s t :=
  (h.mpr (Only.refl _ _)).keepsLimits

theorem KeepsLimits.only (h : KeepsLimits s t) (h' : Only 0x1ffffff t u) : KeepsLimits s u := h.trans h'.keepsLimits

/-! ## Steward commands: the share of looped frames (R223) -/

variable {m : Meta} {op : Nat} {objs : List Obj} {rld : Bool} {bad : Option Nat} {f : State → CmdOut}

/-- What stands before and behind a command's own rules sets no limit. -/
theorem settleCmd_keepsLimits (i : PktInfo) {o : CmdOut} (h : KeepsLimits s o.s) :
    KeepsLimits s (settleCmd s m op i objs o) := by
  unfold settleCmd
  split
  · exact h.only (by simp)
  · split
    · exact Only.keepsLimits (by simp)
    · split
      · exact h.only (by simp)
      · split
        · exact h.only (by simp)
        · exact h.only (by simp)

/-- A command keeps the limits in their ranges where its own rules do, on parameters that are in theirs. -/
theorem runCmd_keepsLimits (hf : bad = none → ∀ y, KeepsLimits y (f y).s) :
    KeepsLimits s (runCmd m op objs rld bad f s) := by
  have hbegan : KeepsLimits s (takeAccepted s m op).2 := Only.keepsLimits (by simp)
  unfold runCmd
  split
  · exact KeepsLimits.refl s
  · dsimp only
    split
    · exact hbegan.only (by simp)
    · split
      · exact hbegan.only (by simp)
      · split
        · exact hbegan.only (by simp)
        · split
          · exact hbegan.only (by simp)
          · split
            · exact hbegan.only (by simp)
            · exact hbegan.trans (settleCmd_keepsLimits _ (hf rfl _))

/-- A share of looped frames in its range is taken, and another is refused. -/
theorem execSetLoopShare_keepsLimits (m : Meta) (cells : Nat) (s : State) :
    KeepsLimits s ((execSetLoopShare m cells s).after s) := by
  simp only [execSetLoopShare, Res_next_after]
  refine runCmd_keepsLimits (fun hrange y hy => ?_)
  have hcells : cells ≤ 4096 := by simpa [firstBad] using hrange
  rw [limitsSound_iff] at hy ⊢
  obtain ⟨htrim, -, hrest⟩ := hy
  exact ⟨htrim, hcells, hrest⟩

/-! ## Mirrored commands (R384, R393, R421) -/

theorem runClass5_keepsLimits (m : Meta) (op : Nat) (vs : List Val) (s : State) : KeepsLimits s (runClass5 m op vs s) := by
  unfold runClass5
  split
  -- SET_LOOP_SHARE is the only one that sets a limit.
  case h_10 => exact execSetLoopShare_keepsLimits _ _ _
  all_goals exact Only.keepsLimits (by simp)

theorem runMirrored_keepsLimits (m : Meta) (op : Nat) (params : List Nat) (s : State) :
    KeepsLimits s (runMirrored m op params s) := by
  unfold runMirrored
  split
  · exact KeepsLimits.refl s
  · dsimp only
    split
    · exact Only.keepsLimits (by simp)
    · split
      · exact Only.keepsLimits (by simp)
      · split
        · exact Only.keepsLimits (by simp)
        · split
          · exact runClass5_keepsLimits _ _ _ _
          · exact Only.keepsLimits (by simp)

theorem visitTwin_keepsLimits (s : State) (bad : Bool) : KeepsLimits s (visitTwin s bad) := by
  unfold visitTwin
  split
  · dsimp only
    refine KeepsLimits.only ?_ (drainTwin_only rfl |>.mpr (Only.refl _ _))
    split
    · exact (Only.keepsLimits (by simp)).trans (runMirrored_keepsLimits _ _ _ _)
    · exact Only.keepsLimits (by simp)
  · exact KeepsLimits.refl s

theorem runNative_keepsLimits (a : Accepted) (s : State) : KeepsLimits s (runNative a s) := by
  unfold runNative
  split
  -- Three old opcodes read; every other runs as a mirrored command does.
  case h_4 => exact runMirrored_keepsLimits _ _ _ _
  all_goals exact Only.keepsLimits (by simp [execReadVersions_only])

theorem execAcceptPacket_keepsLimits (path : Path) (fid : Nat) (bytes : List Nat) (rd : ReadResult) (s : State) :
    KeepsLimits s ((execAcceptPacket path fid bytes rd s).after s) := by
  simp only [execAcceptPacket, Res_next_after]
  split
  · exact KeepsLimits.refl s
  · split
    · exact Only.keepsLimits (by simp)
    · cases path <;> dsimp only
      case twin => exact (Only.keepsLimits (by simp)).trans (visitTwin_keepsLimits _ _)
      all_goals exact Only.keepsLimits (by simp)

theorem execCompatibilityPacket_keepsLimits (path : Path) (fid : Nat) (bytes : List Nat) (s : State) :
    KeepsLimits s ((execCompatibilityPacket path fid bytes s).after s) := by
  simp only [execCompatibilityPacket, Res_next_after]
  have harrives : KeepsLimits s (compatArrives s path bytes) := Only.keepsLimits (by simp)
  split
  · exact KeepsLimits.refl s
  · split
    · exact harrives
    · have haccepted := harrives.trans (execAcceptPacket_keepsLimits path fid bytes .ok _)
      split
      · split
        · exact haccepted.trans (runNative_keepsLimits _ _)
        · exact haccepted
      · exact haccepted

theorem execMirroredCommand_keepsLimits (hdr : TwinHdr) (bytes : List Nat) (s : State) :
    KeepsLimits s ((execMirroredCommand hdr bytes s).after s) := by
  simp only [execMirroredCommand, Res_next_after]
  have htaken : KeepsLimits s (takeFrame s hdr (.command bytes)) := Only.keepsLimits (by simp)
  split
  · exact htaken.trans (visitTwin_keepsLimits _ _)
  · exact htaken

theorem applyWaiting_keepsLimits (n : Nat) (s : State) : KeepsLimits s (applyWaiting n s) := by
  induction n generalizing s with
  | zero => exact KeepsLimits.refl s
  | succ n ih =>
    have hdrained : KeepsLimits s (drainTwin s) := Only.keepsLimits (by simp)
    unfold applyWaiting
    split
    · exact (hdrained.trans (visitTwin_keepsLimits _ _)).trans (ih _)
    · exact hdrained

theorem startTakeover_keepsLimits (s : State) : KeepsLimits s (startTakeover s) :=
  (applyWaiting_keepsLimits s.twn.rxq.length s).only (by simp [startTakeover])

theorem declareLoss_keepsLimits (s : State) (at_ : Nat) : KeepsLimits s (declareLoss s at_) := by
  unfold declareLoss
  dsimp only
  split
  · exact (Only.keepsLimits (by simp)).trans (startTakeover_keepsLimits _)
  · exact Only.keepsLimits (by simp)

theorem execHeartbeatWindowEnd_keepsLimits (s : State) : KeepsLimits s ((execHeartbeatWindowEnd s).after s) := by
  simp only [execHeartbeatWindowEnd, Res_next_after]
  split
  · exact KeepsLimits.refl s
  · split
    · exact Only.keepsLimits (by simp)
    · split
      · exact (Only.keepsLimits (by simp)).trans (declareLoss_keepsLimits _ _)
      · exact Only.keepsLimits (by simp)

/-! ## Registers (R152, R183, R267, R472) -/

theorem writeStore_keepsLimits (s : State) (r : Reg) (v : Nat) : KeepsLimits s (writeStore s r v) := by
  cases r <;> dsimp only [writeStore]
  case scrub =>
    split
    next => exact Only.keepsLimits (by simp)
    next hrange =>
      intro hs
      rw [limitsSound_iff] at hs ⊢
      obtain ⟨htrim, hloop, -, hrest⟩ := hs
      exact ⟨htrim, hloop, Nat.not_lt.mp hrange, hrest⟩
  case ager =>
    split
    next => exact Only.keepsLimits (by simp)
    next hrange =>
      intro hs
      rw [limitsSound_iff] at hs ⊢
      obtain ⟨htrim, hloop, hscrub, -, hrest⟩ := hs
      simp only [Bool.or_eq_true, decide_eq_true_eq, not_or, Nat.not_lt] at hrange
      exact ⟨htrim, hloop, hscrub, hrange, hrest⟩
  case lockLimit =>
    split
    next => exact Only.keepsLimits (by simp)
    next hrange =>
      intro hs
      rw [limitsSound_iff] at hs ⊢
      obtain ⟨htrim, hloop, hscrub, hager, -, hclaim⟩ := hs
      simp only [Bool.or_eq_true, decide_eq_true_eq, not_or, Nat.not_lt] at hrange
      exact ⟨htrim, hloop, hscrub, hager, hrange, hclaim⟩
  all_goals exact Only.keepsLimits (by simp)

theorem writeUnits_keepsLimits (s : State) (r : Reg) (v : Nat) : KeepsLimits s (writeUnits s r v) := by
  cases r <;> dsimp only [writeUnits]
  case claimLimit =>
    split
    next => exact Only.keepsLimits (by simp)
    next hrange =>
      intro hs
      rw [limitsSound_iff] at hs ⊢
      obtain ⟨htrim, hloop, hscrub, hager, hlock, -⟩ := hs
      simp only [Bool.or_eq_true, decide_eq_true_eq, not_or, Nat.not_lt] at hrange
      exact ⟨htrim, hloop, hscrub, hager, hlock, hrange⟩
  all_goals exact Only.keepsLimits (by simp)

theorem writeAlm_keepsLimits (s : State) (r : Reg) (v : Nat) : KeepsLimits s (writeAlm s r v) := by
  cases r <;> dsimp only [writeAlm]
  case calTrim =>
    split
    next hrange =>
      intro hs
      rw [limitsSound_iff] at hs ⊢
      exact ⟨hrange, hs.2⟩
    next => exact Only.keepsLimits (by simp)
  all_goals exact Only.keepsLimits (by simp)

theorem writeReg_keepsLimits (s : State) (fid : Nat) (r : Reg) (v : Nat) : KeepsLimits s (writeReg s fid r v) := by
  cases r <;> dsimp only [writeReg]
  case scrub | shareSel | query | ager | lockLimit | lockViol | parity | grantSel | ovfSel =>
    exact writeStore_keepsLimits _ _ _
  case claimLimit | cipAlarm | laneViol | saSel | cipGrantSel | connSel | stgGrantSel | fnSel | twnStatus | cntSnap =>
    exact writeUnits_keepsLimits _ _ _
  case almCtl | calTrim | almAlarm | almFault => exact writeAlm_keepsLimits _ _ _
  all_goals exact Only.keepsLimits (by simp)

theorem execRegisterWrite_keepsLimits (fid off size v : Nat) (s : State) :
    KeepsLimits s ((execRegisterWrite fid off size v s).after s) := by
  have hbar : KeepsLimits s (barWrite s fid off size v) := by
    unfold barWrite
    split
    -- A register, beside the doorbells, the vector tables and the places without one.
    case h_4 =>
      split
      · exact writeReg_keepsLimits _ _ _ _
      · exact Only.keepsLimits (by simp)
    all_goals exact Only.keepsLimits (by simp)
  simp only [execRegisterWrite, Res_next_after]
  split
  · exact Only.keepsLimits (by simp)
  · split
    · exact KeepsLimits.refl s
    · split
      · exact Only.keepsLimits (by simp)
      · exact hbar

/-! ## Resets (R449, R458, R503) -/

/-- A reset leaves the trim, and every other limit at its reset value. -/
theorem resetBlocks_keepsLimits (s : State) : KeepsLimits s (resetBlocks s) := by
  intro hs
  rw [limitsSound_iff] at hs ⊢
  exact ⟨hs.1, by dsimp only [resetBlocks]; decide⟩

theorem lcReset_keepsLimits (s : State) : KeepsLimits s (lcReset s) := by
  intro hs
  rw [limitsSound_iff] at hs ⊢
  exact ⟨hs.1, by dsimp only [lcReset, resetBlocks]; decide⟩

theorem endLcChange_keepsLimits (s : State) (b : BgCmd) : KeepsLimits s (endLcChange s b) := by
  simp only [endLcChange]
  split <;> exact (lcReset_keepsLimits s).only (by simp)

theorem execPerstAssert_keepsLimits (s : State) : KeepsLimits s ((execPerstAssert s).after s) := by
  simp only [execPerstAssert, Res_next_after]
  split
  · exact KeepsLimits.refl s
  · exact (resetBlocks_keepsLimits s).only (by simp)

theorem execColdReset_keepsLimits (imageOk : Bool) (straps : Straps) (lib : TableSet) (s : State) :
    KeepsLimits s ((execColdReset imageOk straps lib s).after s) := by
  simp only [execColdReset, Res_next_after]
  split
  · exact KeepsLimits.refl s
  · exact (resetBlocks_keepsLimits s).only (by simp)

theorem execMainSupplyLoss_keepsLimits (s : State) : KeepsLimits s ((execMainSupplyLoss s).after s) := by
  have hrecorded : KeepsLimits s (commitStore (bumpLife (histAppend (draw s).2
      ((Sys2Proof.Config.freeWord (draw s).1).toNat % 256) 0) 22 1)) := Only.keepsLimits (by simp)
  simp only [execMainSupplyLoss, Res_next_after]
  split
  · exact KeepsLimits.refl s
  · exact (hrecorded.trans (resetBlocks_keepsLimits _)).only (by simp)

theorem execRldramWipeEnd_keepsLimits (s : State) : KeepsLimits s ((execRldramWipeEnd s).after s) := by
  simp only [execRldramWipeEnd, Res_next_after]
  split
  · exact KeepsLimits.refl s
  · split
    · exact (Only.keepsLimits (by simp)).trans (endLcChange_keepsLimits _ _)
    · exact Only.keepsLimits (by simp)

end Limits

/-- No command takes a limit out of its range: all but ten set none. -/
theorem exec_keepsLimits (s : State) (i : Instr) : KeepsLimits s (Res.after (exec i s) s) :=
  match i with
  | .readIdentity _ => keepsLimits_of_only (execReadIdentity_only _ rfl)
  | .loadTableSet _ _ _ _ _ _ => keepsLimits_of_only (execLoadTableSet_only _ _ _ _ _ _ rfl)
  | .flip _ => keepsLimits_of_only (execFlip_only _ rfl)
  | .discardBank _ _ => keepsLimits_of_only (execDiscardBank_only _ _ rfl)
  | .loadHook _ _ _ _ _ _ _ _ _ => keepsLimits_of_only (execLoadHook_only _ _ _ _ _ _ _ _ _ rfl)
  | .setPortLayout _ _ => keepsLimits_of_only (execSetPortLayout_only _ _ rfl)
  | .setPortParameters _ _ => keepsLimits_of_only (execSetPortParameters_only _ _ rfl)
  | .withdrawStagedConfiguration _ => keepsLimits_of_only (execWithdrawStagedConfiguration_only _ rfl)
  | .enablePort _ _ => keepsLimits_of_only (execEnablePort_only _ _ rfl)
  | .disablePort _ _ _ _ => keepsLimits_of_only (execDisablePort_only _ _ _ _ rfl)
  | .portDrainEnd _ => keepsLimits_of_only (execPortDrainEnd_only _ rfl)
  | .writeGroupFilter _ _ _ _ => keepsLimits_of_only (execWriteGroupFilter_only _ _ _ _ rfl)
  | .writeSelectTable _ _ _ _ => keepsLimits_of_only (execWriteSelectTable_only _ _ _ _ rfl)
  | .moduleTransfer _ _ _ _ _ _ _ _ => keepsLimits_of_only (execModuleTransfer_only _ _ _ _ _ _ _ _ rfl)
  | .createInstance _ _ _ => keepsLimits_of_only (execCreateInstance_only _ _ _ rfl)
  | .quiesce _ _ _ => keepsLimits_of_only (execQuiesce_only _ _ _ rfl)
  | .quiesceEnd _ => keepsLimits_of_only (execQuiesceEnd_only _ rfl)
  | .resume _ _ => keepsLimits_of_only (execResume_only _ _ rfl)
  | .resetInstance _ _ _ => keepsLimits_of_only (execResetInstance_only _ _ _ rfl)
  | .removeInstance _ _ _ => keepsLimits_of_only (execRemoveInstance_only _ _ _ rfl)
  | .resetComplete _ => keepsLimits_of_only (execResetComplete_only _ rfl)
  | .release _ _ => keepsLimits_of_only (execRelease_only _ _ rfl)
  | .setDmaWindow _ _ _ => keepsLimits_of_only (execSetDmaWindow_only _ _ _ rfl)
  | .setExpertGrant _ _ _ _ => keepsLimits_of_only (execSetExpertGrant_only _ _ _ _ rfl)
  | .setInstanceGrant _ _ _ => keepsLimits_of_only (execSetInstanceGrant_only _ _ _ rfl)
  | .readInstance _ _ => keepsLimits_of_only (execReadInstance_only _ _ rfl)
  | .declareConfinement _ _ => keepsLimits_of_only (execDeclareConfinement_only _ _ rfl)
  | .createTransmitRing _ _ _ _ _ _ _ _ _ _ => keepsLimits_of_only (execCreateTransmitRing_only _ _ _ _ _ _ _ _ _ _ rfl)
  | .createReceiveRing _ _ _ _ _ _ _ => keepsLimits_of_only (execCreateReceiveRing_only _ _ _ _ _ _ _ rfl)
  | .createCompletionRing _ _ _ _ _ _ _ => keepsLimits_of_only (execCreateCompletionRing_only _ _ _ _ _ _ _ rfl)
  | .destroyRing _ _ _ => keepsLimits_of_only (execDestroyRing_only _ _ _ rfl)
  | .startRing _ _ _ => keepsLimits_of_only (execStartRing_only _ _ _ rfl)
  | .stopRing _ _ _ => keepsLimits_of_only (execStopRing_only _ _ _ rfl)
  | .resumeRings _ _ => keepsLimits_of_only (execResumeRings_only _ _ rfl)
  | .setWeightAndBurst _ _ _ _ => keepsLimits_of_only (execSetWeightAndBurst_only _ _ _ _ rfl)
  | .readRing _ _ _ => keepsLimits_of_only (execReadRing_only _ _ _ rfl)
  | .registerPool _ _ _ _ _ _ _ _ => keepsLimits_of_only (execRegisterPool_only _ _ _ _ _ _ _ _ rfl)
  | .unregisterPool _ _ => keepsLimits_of_only (execUnregisterPool_only _ _ rfl)
  | .setShare _ _ _ _ _ _ => keepsLimits_of_only (execSetShare_only _ _ _ _ _ _ rfl)
  | .sizeOnchipPools _ _ _ _ => keepsLimits_of_only (execSizeOnchipPools_only _ _ _ _ rfl)
  | .setPressure _ _ _ => keepsLimits_of_only (execSetPressure_only _ _ _ rfl)
  | .queryHandle _ _ => keepsLimits_of_only (execQueryHandle_only _ _ rfl)
  | .createTable _ _ _ _ _ _ _ _ => keepsLimits_of_only (execCreateTable_only _ _ _ _ _ _ _ _ rfl)
  | .destroyTable _ _ => keepsLimits_of_only (execDestroyTable_only _ _ rfl)
  | .insertOrReplaceEntry _ _ _ _ _ _ => keepsLimits_of_only (execInsertOrReplaceEntry_only _ _ _ _ _ _ rfl)
  | .deleteEntry _ _ _ _ => keepsLimits_of_only (execDeleteEntry_only _ _ _ _ rfl)
  | .readEntry _ _ _ _ _ => keepsLimits_of_only (execReadEntry_only _ _ _ _ _ rfl)
  | .setAgeLimit _ _ _ => keepsLimits_of_only (execSetAgeLimit_only _ _ _ rfl)
  | .setTableGrant _ _ _ _ _ _ => keepsLimits_of_only (execSetTableGrant_only _ _ _ _ _ _ rfl)
  | .flush _ _ _ _ => keepsLimits_of_only (execFlush_only _ _ _ _ rfl)
  | .createOrReplacePolicer _ _ _ _ _ _ => keepsLimits_of_only (execCreateOrReplacePolicer_only _ _ _ _ _ _ rfl)
  | .destroyPolicer _ _ => keepsLimits_of_only (execDestroyPolicer_only _ _ rfl)
  | .readPolicer _ _ => keepsLimits_of_only (execReadPolicer_only _ _ rfl)
  | .setLoopShare _ _ => execSetLoopShare_keepsLimits _ _ s
  | .installSa _ _ _ => keepsLimits_of_only (execInstallSa_only _ _ _ rfl)
  | .removeSa _ _ => keepsLimits_of_only (execRemoveSa_only _ _ rfl)
  | .activateSa _ _ => keepsLimits_of_only (execActivateSa_only _ _ rfl)
  | .deactivateSa _ _ => keepsLimits_of_only (execDeactivateSa_only _ _ rfl)
  | .rekeySa _ _ _ _ => keepsLimits_of_only (execRekeySa_only _ _ _ _ rfl)
  | .readSa _ _ => keepsLimits_of_only (execReadSa_only _ _ rfl)
  | .setCipherGrant _ _ _ _ _ => keepsLimits_of_only (execSetCipherGrant_only _ _ _ _ _ rfl)
  | .eraseVault _ => keepsLimits_of_only (execEraseVault_only _ rfl)
  | .createConnection _ _ => keepsLimits_of_only (execCreateConnection_only _ _ rfl)
  | .closeConnection _ _ _ _ => keepsLimits_of_only (execCloseConnection_only _ _ _ _ rfl)
  | .closeDrainEnd _ => keepsLimits_of_only (execCloseDrainEnd_only _ rfl)
  | .readConnection _ _ => keepsLimits_of_only (execReadConnection_only _ _ rfl)
  | .configureStorage _ _ _ _ => keepsLimits_of_only (execConfigureStorage_only _ _ _ _ rfl)
  | .setStorageGrant _ _ _ => keepsLimits_of_only (execSetStorageGrant_only _ _ _ rfl)
  | .pinPeer _ _ => keepsLimits_of_only (execPinPeer_only _ _ rfl)
  | .setLink _ _ _ => keepsLimits_of_only (execSetLink_only _ _ _ rfl)
  | .setRole _ _ _ => keepsLimits_of_only (execSetRole_only _ _ _ rfl)
  | .pair _ => keepsLimits_of_only (execPair_only _ rfl)
  | .armTakeover _ _ _ _ => keepsLimits_of_only (execArmTakeover_only _ _ _ _ rfl)
  | .disarm _ => keepsLimits_of_only (execDisarm_only _ rfl)
  | .unpair _ => keepsLimits_of_only (execUnpair_only _ rfl)
  | .readTwin _ => keepsLimits_of_only (execReadTwin_only _ rfl)
  | .stageComponentImage _ _ _ _ _ _ _ => keepsLimits_of_only (execStageComponentImage_only _ _ _ _ _ _ _ rfl)
  | .stageManifest _ _ _ _ _ => keepsLimits_of_only (execStageManifest_only _ _ _ _ _ rfl)
  | .activate _ => keepsLimits_of_only (execActivate_only _ rfl)
  | .activationStewardReady _ => keepsLimits_of_only (execActivationStewardReady_only _ rfl)
  | .readVersions _ => keepsLimits_of_only (execReadVersions_only _ rfl)
  | .rewrapToUnit _ _ => keepsLimits_of_only (execRewrapToUnit_only _ _ rfl)
  | .readChainStatus _ => keepsLimits_of_only (execReadChainStatus_only _ rfl)
  | .compatibilityUpdate _ _ _ _ _ _ _ => keepsLimits_of_only (execCompatibilityUpdate_only _ _ _ _ _ _ _ rfl)
  | .readAlmanac _ => keepsLimits_of_only (execReadAlmanac_only _ rfl)
  | .setCalendar _ _ _ => keepsLimits_of_only (execSetCalendar_only _ _ _ rfl)
  | .setWakeTimer _ _ => keepsLimits_of_only (execSetWakeTimer_only _ _ rfl)
  | .readLifetimeCounters _ => keepsLimits_of_only (execReadLifetimeCounters_only _ rfl)
  | .changeLifeCycleState _ _ _ => keepsLimits_of_only (execChangeLifeCycleState_only _ _ _ rfl)
  | .setIdleLimit _ _ _ => keepsLimits_of_only (execSetIdleLimit_only _ _ _ rfl)
  | .wake _ => keepsLimits_of_only (execWake_only _ rfl)
  | .powerDown _ _ _ _ => keepsLimits_of_only (execPowerDown_only _ _ _ _ rfl)
  | .powerDownDrainEnd _ => keepsLimits_of_only (execPowerDownDrainEnd_only _ rfl)
  | .powerUp _ _ => keepsLimits_of_only (execPowerUp_only _ _ rfl)
  | .snapshotCounters _ _ => keepsLimits_of_only (execSnapshotCounters_only _ _ rfl)
  | .setTraceSampling _ _ _ => keepsLimits_of_only (execSetTraceSampling_only _ _ _ rfl)
  | .configureCrier _ _ _ _ _ _ _ => keepsLimits_of_only (execConfigureCrier_only _ _ _ _ _ _ _ rfl)
  | .startOrStopExport _ _ => keepsLimits_of_only (execStartOrStopExport_only _ _ rfl)
  | .createOrReplaceMirrorSession _ _ _ _ _ _ _ => keepsLimits_of_only (execCreateOrReplaceMirrorSession_only _ _ _ _ _ _ _ rfl)
  | .destroyMirrorSession _ _ => keepsLimits_of_only (execDestroyMirrorSession_only _ _ rfl)
  | .setPortMirror _ _ _ _ => keepsLimits_of_only (execSetPortMirror_only _ _ _ _ rfl)
  | .grantChannel _ _ _ _ _ => keepsLimits_of_only (execGrantChannel_only _ _ _ _ _ rfl)
  | .configureChannel _ _ _ => keepsLimits_of_only (execConfigureChannel_only _ _ _ rfl)
  | .stopChannel _ _ => keepsLimits_of_only (execStopChannel_only _ _ rfl)
  | .resetChannel _ _ => keepsLimits_of_only (execResetChannel_only _ _ rfl)
  | .compatibilityPacket _ _ _ => execCompatibilityPacket_keepsLimits _ _ _ s
  | .adminDoorbell _ => keepsLimits_of_only (execAdminDoorbell_only _ rfl)
  | .adminReplyConsumerWrite _ => keepsLimits_of_only (execAdminReplyConsumerWrite_only _ rfl)
  | .mailboxDoorbell _ _ => keepsLimits_of_only (execMailboxDoorbell_only _ _ rfl)
  | .securedPacketReceived _ _ _ => keepsLimits_of_only (execSecuredPacketReceived_only _ _ _ rfl)
  | .acceptPacket _ _ _ _ => execAcceptPacket_keepsLimits _ _ _ _ s
  | .backgroundCommandEnd _ => keepsLimits_of_only (execBackgroundCommandEnd_only _ rfl)
  | .devLogConsWrite _ => keepsLimits_of_only (execDevLogConsWrite_only _ rfl)
  | .intaUpdate => keepsLimits_of_only (execIntaUpdate_only rfl)
  | .registerWrite _ _ _ _ => execRegisterWrite_keepsLimits _ _ _ _ s
  | .seqFlipGo _ => keepsLimits_of_only (execSeqFlipGo_only _ rfl)
  | .sealRequest _ => keepsLimits_of_only (execSealRequest_only _ rfl)
  | .sealComplete _ => keepsLimits_of_only (execSealComplete_only _ rfl)
  | .discardRequest _ => keepsLimits_of_only (execDiscardRequest_only _ rfl)
  | .stepLoWrite _ _ => keepsLimits_of_only (execStepLoWrite_only _ _ rfl)
  | .stepHiWrite _ _ => keepsLimits_of_only (execStepHiWrite_only _ _ rfl)
  | .residencyPeakRead _ _ _ => keepsLimits_of_only (execResidencyPeakRead_only _ _ _ rfl)
  | .stepScrub => keepsLimits_of_only (execStepScrub_only rfl)
  | .dispatch _ => keepsLimits_of_only (execDispatch_only _ rfl)
  | .parkedResume _ _ => keepsLimits_of_only (execParkedResume_only _ _ rfl)
  | .ctlJump _ _ => keepsLimits_of_only (execCtlJump_only _ _ rfl)
  | .ctlEnd _ _ => keepsLimits_of_only (execCtlEnd_only _ _ rfl)
  | .ctlDrop _ _ => keepsLimits_of_only (execCtlDrop_only _ _ rfl)
  | .ctlHook _ _ => keepsLimits_of_only (execCtlHook_only _ _ rfl)
  | .ctlReturn _ _ => keepsLimits_of_only (execCtlReturn_only _ _ rfl)
  | .ctlMark _ _ => keepsLimits_of_only (execCtlMark_only _ _ rfl)
  | .aluMove _ _ => keepsLimits_of_only (execAluMove_only _ _ rfl)
  | .aluAdd _ _ => keepsLimits_of_only (execAluAdd_only _ _ rfl)
  | .aluSub _ _ => keepsLimits_of_only (execAluSub_only _ _ rfl)
  | .aluAnd _ _ => keepsLimits_of_only (execAluAnd_only _ _ rfl)
  | .aluOr _ _ => keepsLimits_of_only (execAluOr_only _ _ rfl)
  | .aluXor _ _ => keepsLimits_of_only (execAluXor_only _ _ rfl)
  | .aluShift _ _ => keepsLimits_of_only (execAluShift_only _ _ rfl)
  | .aluCmpEq _ _ => keepsLimits_of_only (execAluCmpEq_only _ _ rfl)
  | .aluCmpLt _ _ => keepsLimits_of_only (execAluCmpLt_only _ _ rfl)
  | .loadHdr _ _ => keepsLimits_of_only (execLoadHdr_only _ _ rfl)
  | .storeHdr _ _ => keepsLimits_of_only (execStoreHdr_only _ _ rfl)
  | .strip _ _ => keepsLimits_of_only (execStrip_only _ _ rfl)
  | .prepend _ _ => keepsLimits_of_only (execPrepend_only _ _ rfl)
  | .readTime _ _ => keepsLimits_of_only (execReadTime_only _ _ rfl)
  | .parseL2 _ _ => keepsLimits_of_only (execParseL2_only _ _ rfl)
  | .parseL3 _ _ => keepsLimits_of_only (execParseL3_only _ _ rfl)
  | .parseL4 _ _ => keepsLimits_of_only (execParseL4_only _ _ rfl)
  | .parseTunnel _ _ => keepsLimits_of_only (execParseTunnel_only _ _ rfl)
  | .parseStoragePdu _ _ => keepsLimits_of_only (execParseStoragePdu_only _ _ rfl)
  | .hashCrc32c _ _ => keepsLimits_of_only (execHashCrc32c_only _ _ rfl)
  | .hashCrc32 _ _ => keepsLimits_of_only (execHashCrc32_only _ _ rfl)
  | .hashToeplitz _ _ => keepsLimits_of_only (execHashToeplitz_only _ _ rfl)
  | .lkpHotLookup _ _ => keepsLimits_of_only (execLkpHotLookup_only _ _ rfl)
  | .lkpRldLookup _ _ => keepsLimits_of_only (execLkpRldLookup_only _ _ rfl)
  | .fwtLearn _ _ => keepsLimits_of_only (execFwtLearn_only _ _ rfl)
  | .fwtRefresh _ _ => keepsLimits_of_only (execFwtRefresh_only _ _ rfl)
  | .fwtWriteFlow _ _ => keepsLimits_of_only (execFwtWriteFlow_only _ _ rfl)
  | .policeMeter _ _ => keepsLimits_of_only (execPoliceMeter_only _ _ rfl)
  | .grnAlloc _ _ => keepsLimits_of_only (execGrnAlloc_only _ _ rfl)
  | .grnFree _ _ => keepsLimits_of_only (execGrnFree_only _ _ rfl)
  | .grnWaitRetry _ => keepsLimits_of_only (execGrnWaitRetry_only _ rfl)
  | .grnWaitExpiry _ => keepsLimits_of_only (execGrnWaitExpiry_only _ rfl)
  | .inlineScrubComplete _ => keepsLimits_of_only (execInlineScrubComplete_only _ rfl)
  | .backgroundScrub => keepsLimits_of_only (execBackgroundScrub_only rfl)
  | .grnQueryWrite _ => keepsLimits_of_only (execGrnQueryWrite_only _ rfl)
  | .grnQueryComplete => keepsLimits_of_only (execGrnQueryComplete_only rfl)
  | .cipRecord _ _ => keepsLimits_of_only (execCipRecord_only _ _ rfl)
  | .recordFinish _ => keepsLimits_of_only (execRecordFinish_only _ rfl)
  | .claimExpiry _ => keepsLimits_of_only (execClaimExpiry_only _ rfl)
  | .dmawDeliver _ _ => keepsLimits_of_only (execDmawDeliver_only _ _ rfl)
  | .dmarRead _ _ => keepsLimits_of_only (execDmarRead_only _ _ rfl)
  | .xmitClass _ _ => keepsLimits_of_only (execXmitClass_only _ _ rfl)
  | .xmitLoop _ _ => keepsLimits_of_only (execXmitLoop_only _ _ rfl)
  | .xmitMirror _ _ => keepsLimits_of_only (execXmitMirror_only _ _ rfl)
  | .haulStart _ _ => keepsLimits_of_only (execHaulStart_only _ _ rfl)
  | .cntInc _ _ => keepsLimits_of_only (execCntInc_only _ _ rfl)
  | .cntAdd _ _ => keepsLimits_of_only (execCntAdd_only _ _ rfl)
  | .connGet _ _ => keepsLimits_of_only (execConnGet_only _ _ rfl)
  | .connPutWrite _ _ => keepsLimits_of_only (execConnPutWrite_only _ _ rfl)
  | .handoffSubmission _ _ => keepsLimits_of_only (execHandoffSubmission_only _ _ rfl)
  | .handoffInbound _ _ => keepsLimits_of_only (execHandoffInbound_only _ _ rfl)
  | .connPutComplete _ _ => keepsLimits_of_only (execConnPutComplete_only _ _ rfl)
  | .connPutRelease _ _ => keepsLimits_of_only (execConnPutRelease_only _ _ rfl)
  | .connPutFail _ _ => keepsLimits_of_only (execConnPutFail_only _ _ rfl)
  | .turnDispatch _ => keepsLimits_of_only (execTurnDispatch_only _ rfl)
  | .slotExpiry _ _ => keepsLimits_of_only (execSlotExpiry_only _ _ rfl)
  | .connectionTimerExpiry _ => keepsLimits_of_only (execConnectionTimerExpiry_only _ rfl)
  | .timerCellRetry _ => keepsLimits_of_only (execTimerCellRetry_only _ rfl)
  | .doorbell _ _ _ _ _ => keepsLimits_of_only (execDoorbell_only _ _ _ _ _ rfl)
  | .inlinePush _ _ _ => keepsLimits_of_only (execInlinePush_only _ _ _ rfl)
  | .completionConsumerWrite _ _ _ => keepsLimits_of_only (execCompletionConsumerWrite_only _ _ _ rfl)
  | .completionArm _ _ _ => keepsLimits_of_only (execCompletionArm_only _ _ _ rfl)
  | .queueFetch _ _ => keepsLimits_of_only (execQueueFetch_only _ _ rfl)
  | .entryFetchComplete _ _ => keepsLimits_of_only (execEntryFetchComplete_only _ _ rfl)
  | .frameReceived _ _ _ _ => keepsLimits_of_only (execFrameReceived_only _ _ _ _ rfl)
  | .pfcPauseEnd _ _ => keepsLimits_of_only (execPfcPauseEnd_only _ _ rfl)
  | .pfcSend _ _ => keepsLimits_of_only (execPfcSend_only _ _ rfl)
  | .pfcResend _ _ => keepsLimits_of_only (execPfcResend_only _ _ rfl)
  | .transmitFrameStart _ => keepsLimits_of_only (execTransmitFrameStart_only _ rfl)
  | .txtsTagRead _ _ _ => keepsLimits_of_only (execTxtsTagRead_only _ _ _ rfl)
  | .macTimeStepWrite _ => keepsLimits_of_only (execMacTimeStepWrite_only _ rfl)
  | .macTimeNsRead => keepsLimits_of_only (execMacTimeNsRead_only rfl)
  | .ppsInputEdge => keepsLimits_of_only (execPpsInputEdge_only rfl)
  | .ppsOutput => keepsLimits_of_only (execPpsOutput_only rfl)
  | .linkDown _ => keepsLimits_of_only (execLinkDown_only _ rfl)
  | .laneFault _ _ => keepsLimits_of_only (execLaneFault_only _ _ rfl)
  | .cageFault _ _ => keepsLimits_of_only (execCageFault_only _ _ rfl)
  | .agerVisit _ => keepsLimits_of_only (execAgerVisit_only _ rfl)
  | .homingMove _ _ _ => keepsLimits_of_only (execHomingMove_only _ _ _ rfl)
  | .homingOverflowRemove _ _ _ => keepsLimits_of_only (execHomingOverflowRemove_only _ _ _ rfl)
  | .lockExpiry _ _ _ => keepsLimits_of_only (execLockExpiry_only _ _ _ rfl)
  | .haulStartWrite _ _ _ => keepsLimits_of_only (execHaulStartWrite_only _ _ _ rfl)
  | .haulAckWrite _ _ _ _ => keepsLimits_of_only (execHaulAckWrite_only _ _ _ _ rfl)
  | .haulStopWrite _ _ => keepsLimits_of_only (execHaulStopWrite_only _ _ rfl)
  | .watermarkHigh _ => keepsLimits_of_only (execWatermarkHigh_only _ rfl)
  | .runStart _ => keepsLimits_of_only (execRunStart_only _ rfl)
  | .haulNop _ _ => keepsLimits_of_only (execHaulNop_only _ _ rfl)
  | .haulCopy _ _ => keepsLimits_of_only (execHaulCopy_only _ _ rfl)
  | .haulZero _ _ => keepsLimits_of_only (execHaulZero_only _ _ rfl)
  | .tblRead _ _ => keepsLimits_of_only (execTblRead_only _ _ rfl)
  | .tblLockRead _ _ => keepsLimits_of_only (execTblLockRead_only _ _ rfl)
  | .tblWriteUnlock _ _ => keepsLimits_of_only (execTblWriteUnlock_only _ _ rfl)
  | .tblUnlock _ _ => keepsLimits_of_only (execTblUnlock_only _ _ rfl)
  | .readCompletion _ _ _ _ _ => keepsLimits_of_only (execReadCompletion_only _ _ _ _ _ rfl)
  | .completionTimeout _ _ => keepsLimits_of_only (execCompletionTimeout_only _ _ rfl)
  | .tagQuarantineEnd _ _ => keepsLimits_of_only (execTagQuarantineEnd_only _ _ rfl)
  | .busMasterEnableClear _ => keepsLimits_of_only (execBusMasterEnableClear_only _ rfl)
  | .interruptDisableWrite _ => keepsLimits_of_only (execInterruptDisableWrite_only _ rfl)
  | .msixUnmask _ _ => keepsLimits_of_only (execMsixUnmask_only _ _ rfl)
  | .functionLevelReset _ => keepsLimits_of_only (execFunctionLevelReset_only _ rfl)
  | .flrComplete _ => keepsLimits_of_only (execFlrComplete_only _ rfl)
  | .sriovVfEnableSet _ => keepsLimits_of_only (execSriovVfEnableSet_only _ rfl)
  | .sriovVfDisable _ _ => keepsLimits_of_only (execSriovVfDisable_only _ _ rfl)
  | .powerStateWrite _ _ => keepsLimits_of_only (execPowerStateWrite_only _ _ rfl)
  | .pmeTurnOff => keepsLimits_of_only (execPmeTurnOff_only rfl)
  | .wakeEvent _ => keepsLimits_of_only (execWakeEvent_only _ rfl)
  | .dlUp _ _ _ _ => keepsLimits_of_only (execDlUp_only _ _ _ _ rfl)
  | .hotReset => keepsLimits_of_only (execHotReset_only rfl)
  | .perstAssert => execPerstAssert_keepsLimits s
  | .perstRelease _ _ _ => keepsLimits_of_only (execPerstRelease_only _ _ _ rfl)
  | .coldReset _ _ _ => execColdReset_keepsLimits _ _ _ s
  | .sramWipeEnd => keepsLimits_of_only (execSramWipeEnd_only rfl)
  | .rldramWipeEnd => execRldramWipeEnd_keepsLimits s
  | .mainSupplyLoss => execMainSupplyLoss_keepsLimits s
  | .auxPowerUp => keepsLimits_of_only (execAuxPowerUp_only rfl)
  | .domainStart _ => keepsLimits_of_only (execDomainStart_only _ rfl)
  | .domainReady _ => keepsLimits_of_only (execDomainReady_only _ rfl)
  | .domainIdleStop _ => keepsLimits_of_only (execDomainIdleStop_only _ rfl)
  | .stewardRestart => keepsLimits_of_only (execStewardRestart_only rfl)
  | .almanacRestart => keepsLimits_of_only (execAlmanacRestart_only rfl)
  | .alarm _ _ => keepsLimits_of_only (execAlarm_only _ _ rfl)
  | .alarmClear _ => keepsLimits_of_only (execAlarmClear_only _ rfl)
  | .thermalWarning _ => keepsLimits_of_only (execThermalWarning_only _ rfl)
  | .thermtrip _ => keepsLimits_of_only (execThermtrip_only _ rfl)
  | .crystalFault => keepsLimits_of_only (execCrystalFault_only rfl)
  | .crystalRecovery => keepsLimits_of_only (execCrystalRecovery_only rfl)
  | .referenceClockFault _ => keepsLimits_of_only (execReferenceClockFault_only _ rfl)
  | .thermalDiodeFault _ => keepsLimits_of_only (execThermalDiodeFault_only _ rfl)
  | .wakeTimerFire => keepsLimits_of_only (execWakeTimerFire_only rfl)
  | .lifetimeSample _ => keepsLimits_of_only (execLifetimeSample_only _ rfl)
  | .storeCommit => keepsLimits_of_only (execStoreCommit_only rfl)
  | .cntSnapWrite _ => keepsLimits_of_only (execCntSnapWrite_only _ rfl)
  | .snapshotCopyComplete => keepsLimits_of_only (execSnapshotCopyComplete_only rfl)
  | .crierExport => keepsLimits_of_only (execCrierExport_only rfl)
  | .fnSelWrite _ => keepsLimits_of_only (execFnSelWrite_only _ rfl)
  | .fwtGrantSelWrite _ => keepsLimits_of_only (execFwtGrantSelWrite_only _ rfl)
  | .fwtOvfSelWrite _ => keepsLimits_of_only (execFwtOvfSelWrite_only _ rfl)
  | .cipSaSelWrite _ => keepsLimits_of_only (execCipSaSelWrite_only _ rfl)
  | .cipGrantSelWrite _ => keepsLimits_of_only (execCipGrantSelWrite_only _ rfl)
  | .stgConnSelWrite _ => keepsLimits_of_only (execStgConnSelWrite_only _ rfl)
  | .stgGrantSelWrite _ => keepsLimits_of_only (execStgGrantSelWrite_only _ rfl)
  | .twinLinkAuthenticated _ _ => keepsLimits_of_only (execTwinLinkAuthenticated_only _ _ rfl)
  | .heartbeatSend => keepsLimits_of_only (execHeartbeatSend_only rfl)
  | .heartbeatReceived _ => keepsLimits_of_only (execHeartbeatReceived_only _ rfl)
  | .heartbeatWindowEnd => execHeartbeatWindowEnd_keepsLimits s
  | .armDeadline => keepsLimits_of_only (execArmDeadline_only rfl)
  | .mirroredCommand _ _ => execMirroredCommand_keepsLimits _ _ s
  | .leaseRecord _ _ _ => keepsLimits_of_only (execLeaseRecord_only _ _ _ rfl)
  | .replaySnapshot _ _ _ => keepsLimits_of_only (execReplaySnapshot_only _ _ _ rfl)
  | .storageRecord _ _ _ => keepsLimits_of_only (execStorageRecord_only _ _ _ rfl)
  | .bankImagePart _ _ _ => keepsLimits_of_only (execBankImagePart_only _ _ _ rfl)
  | .twinAcknowledgement _ _ _ => keepsLimits_of_only (execTwinAcknowledgement_only _ _ _ rfl)
  | .twinResend _ => keepsLimits_of_only (execTwinResend_only _ rfl)
  | .mirrorReplyTimeout => keepsLimits_of_only (execMirrorReplyTimeout_only rfl)
  | .chainOfferSend => keepsLimits_of_only (execChainOfferSend_only rfl)
  | .chainOfferReceived _ => keepsLimits_of_only (execChainOfferReceived_only _ rfl)
  | .chainRequestReceived _ => keepsLimits_of_only (execChainRequestReceived_only _ rfl)
  | .chainDataReceived _ => keepsLimits_of_only (execChainDataReceived_only _ rfl)
  | .chainConfirmReceived _ => keepsLimits_of_only (execChainConfirmReceived_only _ rfl)
  | .chainRefuseReceived _ => keepsLimits_of_only (execChainRefuseReceived_only _ rfl)
  | .chainFault _ _ => keepsLimits_of_only (execChainFault_only _ _ rfl)
  | .spdmGetCertificate _ _ _ => keepsLimits_of_only (execSpdmGetCertificate_only _ _ _ rfl)
  | .spdmChallenge _ _ => keepsLimits_of_only (execSpdmChallenge_only _ _ rfl)
  | .getMeasurements _ _ _ => keepsLimits_of_only (execGetMeasurements_only _ _ _ rfl)
  | .keyExchange _ _ _ => keepsLimits_of_only (execKeyExchange_only _ _ _ rfl)
  | .putImage _ _ _ _ => keepsLimits_of_only (execPutImage_only _ _ _ _ rfl)
  | .linkUp _ _ => keepsLimits_of_only (execLinkUp_only _ _ rfl)
  | .laneFaultClear _ _ => keepsLimits_of_only (execLaneFaultClear_only _ _ rfl)
  | .cageFaultClear _ _ => keepsLimits_of_only (execCageFaultClear_only _ _ rfl)
  | .cageInterrupt _ => keepsLimits_of_only (execCageInterrupt_only _ rfl)
  | .twinLinkDown => keepsLimits_of_only (execTwinLinkDown_only rfl)
  | .takeoverComplete => keepsLimits_of_only (execTakeoverComplete_only rfl)
  | .referenceClockRecovery _ => keepsLimits_of_only (execReferenceClockRecovery_only _ rfl)
  | .thermalWarningClear _ => keepsLimits_of_only (execThermalWarningClear_only _ rfl)
  | .thermtripRelease => keepsLimits_of_only (execThermtripRelease_only rfl)
  | .thermalDiodeFaultClear => keepsLimits_of_only (execThermalDiodeFaultClear_only rfl)
  | .chainFaultClear _ _ => keepsLimits_of_only (execChainFaultClear_only _ _ rfl)
  | .auxPowerLoss => keepsLimits_of_only (execAuxPowerLoss_only rfl)
  | .busMasterEnableSet _ => keepsLimits_of_only (execBusMasterEnableSet_only _ rfl)
  | .smbusClockLowTimeout => keepsLimits_of_only (execSmbusClockLowTimeout_only rfl)
  | .stewardRestartComplete => keepsLimits_of_only (execStewardRestartComplete_only rfl)
  | .almanacRestartComplete => keepsLimits_of_only (execAlmanacRestartComplete_only rfl)
  | .almCalSecRead => keepsLimits_of_only (execAlmCalSecRead_only rfl)

/-- Settles O44: a step is a command's execution (`exec_keepsLimits`), or a nanosecond, which sets no limit. -/
theorem limitsStayInRange : Obligations.LimitsStayInRange := by
  unfold Obligations.LimitsStayInRange
  intro s t hs hstep
  rcases hpending : s.pending with _ | ⟨c, rest⟩
  case nil =>
    have ht : Machine.step s = .next (tickNs s) := by rw [Machine.step, hpending]
    rw [← Host.Outcome.next.inj (ht.symm.trans hstep)]
    exact Only.keepsLimits (by simp) hs
  case cons =>
    have hexec : Machine.step s = exec c { s with pending := rest } := by rw [Machine.step, hpending]
    have hkeeps := exec_keepsLimits { s with pending := rest } c
    rw [hexec.symm.trans hstep] at hkeeps
    exact hkeeps hs

/-! ## What reset leaves (R289, R346, R472) -/

theorem fnOf_reset_st (fid : Nat) : (fnOf State.reset fid).st = if fid ≤ 1 then .active else .absent :=
  match fid with
  | 0 => rfl
  | 1 => rfl
  | n + 2 => by rw [if_neg (by omega)]; rfl

theorem fnOf_reset_window0 {fid : Nat} (hfid : fid ≤ 1) : tget (fnOf State.reset fid).windows 0 = some Win.whole :=
  match fid with
  | 0 => rfl
  | 1 => rfl
  | _ + 2 => absurd hfid (by omega)

theorem chanOf_reset_st (c : Nat) : (chanOf State.reset c).st = if c = 15 then .idle else .ungranted := by
  split
  next h => subst h; rfl
  next h => simp [chanOf, tgetD, State.reset, Haul.resetChans, tget, Ne.symm h]

/-- What holds of every element of a table and of its default holds of what is read. -/
theorem tgetD_of_all {α : Type} {p : α → Bool} {t : Tbl α} {d : α} (ht : t.all (fun e => p e.2) = true)
    (hd : p d = true) (i : Nat) : p (tgetD t i d) = true := by
  induction t with
  | nil => exact hd
  | cons e t ih =>
    obtain ⟨k, x⟩ := e
    simp only [List.all_cons, Bool.and_eq_true] at ht
    unfold tgetD tget
    split
    · exact ht.1
    · exact ih ht.2

/-- Two domains run, and the others are listed for their idle limits alone. -/
theorem domains_reset_running (d : Nat) :
    (tgetD State.reset.alm.domains d {}).running = decide (d = 1 ∨ d = 2) :=
  match d with
  | 0 => rfl
  | 1 => rfl
  | 2 => rfl
  | n + 3 => by
    have hstopped := tgetD_of_all (p := fun x : Domain => !x.running) (t := Alm.resetDomains.drop 2) (d := {}) rfl rfl (n + 3)
    rw [decide_eq_false (by omega)]
    exact (Bool.not_eq_true' _).mp hstopped

/-- Settles O57: each register holds its map's value, and the tables of functions, channels and domains list what reset
gives (`fnOf_reset_st`, `fnOf_reset_window0`, `chanOf_reset_st`, `domains_reset_running`). -/
theorem resetLeavesTheMapsValues : Obligations.ResetLeavesTheMapsValues := by
  unfold Obligations.ResetLeavesTheMapsValues
  exact ⟨rfl, rfl, rfl, rfl, rfl, rfl, rfl, rfl, rfl, rfl, rfl, fnOf_reset_st, fun _ => fnOf_reset_window0, chanOf_reset_st,
    domains_reset_running⟩

/-- Settles O58: reset's values are in their ranges, nothing is under way or burned, and no command waits. -/
theorem resetIsSound : Obligations.ResetIsSound := by
  unfold Obligations.ResetIsSound
  exact ⟨rfl, rfl, rfl, rfl, rfl, rfl, fun c => rfl, rfl, rfl⟩

end Sys2Proof.Machine

/-! PROOFS. What a mailbox may not send (O46): the check of a command's opcode stands before all of its own rules, and its
refusal touches the mailbox alone. -/

namespace Sys2Proof.Machine

/-! ## Commands that a mailbox may not send (R151, R238, R265, R288, R314, R394, R403) -/

section NotOpen

variable {i : Instr} {s : State} {m : Meta} {op : Nat} {objs : List Obj} {rld : Bool} {bad : Option Nat}

/-- A refusal by check 6: the opcode is not open to the issuer and the path (R403, R404, R408). -/
def notOpen (s : State) (m : Meta) (op : Nat) : State :=
  denyCheck (began s m op) m op (packetOf s m op) 6 0xFFFF .refusedPermission cStwDenied

/-- A mailbox opens four opcodes (Table 14.6). -/
theorem opcodeOpen_mailbox (hpath : m.path = .mailbox) (hop : op ∉ [0x0101, 0x0309, 0x0904, 0x0B01]) :
    opcodeOpen s m op = false := by
  simpa [opcodeOpen, hpath] using hop

/-- A command that may run but is not open is refused by check 6, whatever its parameters and its own rules. -/
theorem runCmd_notOpen (f : State → CmdOut) (hruns : cmdWaits s m op = false) (hissuer : issuerOk m = true)
    (hopen : opcodeOpen s m op = false) : runCmd m op objs rld bad f s = notOpen s m op := by
  have hopen' : opcodeOpen (takeAccepted s m op).2 m op = false := opcodeOpen_began.trans hopen
  simp only [runCmd, hruns, hissuer, hopen']
  rfl

/-- An image command that is not open reads no image, and so waits for no unit. -/
theorem stageWaits_notOpen (source : Nat) (hopen : opcodeOpen s m op = false) : stageWaits s m op source bad = false := by
  simp [stageWaits, imageCmdRuns, hopen]

/-- A refusal by check 6 touches its path alone; a mailbox's, the function that sent it and its signal. -/
theorem notOpen_mailbox_only (hpath : m.path = .mailbox) : Only 0x84016 s (notOpen s m op) := by
  simp [notOpen, denyCheck, answer, sendReply, hpath]

/-- The refused change of the life cycle changes nothing but the nonce (R456). -/
theorem exec_changeLifeCycleState_notOpen {target : Nat} {sig : List Nat} (hpath : m.path = .mailbox)
    (hruns : cmdWaits s m 0x0A05 = false) (hissuer : issuerOk m = true) (hopen : opcodeOpen s m 0x0A05 = false) :
    exec (.changeLifeCycleState m target sig) s = .next (freshNonce (notOpen s m 0x0A05)) := by
  have hlife : (notOpen s m 0x0A05).stw.lcChange = s.stw.lcChange :=
    congrArg Life.change ((notOpen_mailbox_only hpath).eq .life (by decide))
  change execChangeLifeCycleState m target sig s = _
  simp only [execChangeLifeCycleState, runCmd_notOpen _ hruns hissuer hopen, hlife, hruns]
  simp

theorem exec_notOpen (h : stewardOf i = some (m, op)) (hpath : m.path = .mailbox) (hruns : cmdWaits s m op = false)
    (hissuer : issuerOk m = true) (hopen : opcodeOpen s m op = false) (hsnapshot : op ≠ 0x0B01)
    (hrecords : ∀ (sa : Nat) (prm : SaParams), i = .installSa m sa prm →
      recordsOn s sa = false ∨ (tget s.cip.sas sa).isSome = true) :
    exec i s = .next (if op = 0x0A05 then freshNonce (notOpen s m op) else notOpen s m op) := by
  cases i <;> cases h
  case snapshotCounters => exact absurd rfl hsnapshot
  case changeLifeCycleState => exact exec_changeLifeCycleState_notOpen hpath hruns hissuer hopen
  case installSa sa prm =>
    have hgoes : ¬ (recordsOn s sa && (tget s.cip.sas sa).isNone) = true := by
      rcases hrecords sa prm rfl with hended | hlisted
      · simp [hended]
      · simp [Option.isNone_eq_false_iff.mpr hlisted]
    exact congrArg _ ((if_neg hgoes).trans (runCmd_notOpen _ hruns hissuer hopen))
  case stageComponentImage =>
    exact congrArg _ ((if_neg (by rw [stageWaits_notOpen _ hopen]; decide)).trans (runCmd_notOpen _ hruns hissuer hopen))
  case compatibilityUpdate =>
    exact congrArg _ ((if_neg (by rw [stageWaits_notOpen _ hopen]; simp)).trans (runCmd_notOpen _ hruns hissuer hopen))
  all_goals exact congrArg _ (runCmd_notOpen _ hruns hissuer hopen)

end NotOpen

/-- Settles O46: a mailbox opens four opcodes, every command stands behind the check of its opcode, and the refusal
touches no more than its mailbox. -/
theorem onlyTheManagerCommands : Obligations.OnlyTheManagerCommands := by
  unfold Obligations.OnlyTheManagerCommands
  intro i s m op h hpath hissuer hruns hop hrecords
  have hanswer : notOpen s m op = answer (count (began s m op) m.fid cStwDenied) m op (packetOf s m op) 6
      { status := .refusedPermission, item := 0xFFFF } := by
    simp only [notOpen, denyCheck, pathSet, hpath]
  refine ⟨notOpen s m op, hanswer, ?_, ?_⟩
  · exact exec_notOpen h hpath hruns hissuer (opcodeOpen_mailbox hpath hop) (by simp at hop; omega) hrecords
  · exact (notOpen_mailbox_only hpath).changes (by decide)

end Sys2Proof.Machine

/-! PROOFS. The Granary: the commands of class 0x04 (O3), and its steps and events (O20). -/

namespace Sys2Proof.Machine

/-! ## The Granary's commands (Table 4.7) -/

/-- The parameters of a host pool in their ranges (R129). -/
theorem registerPool_inRange {pool set kind sizeLog2 count base spaceFid : Nat} (hpool : 4 ≤ pool ∧ pool ≤ 63)
    (hset : 4 ≤ set ∧ set ≤ 15) (hkind : kind = 1 ∨ (kind = 2 ∧ sizeLog2 = 8)) (hsize : 8 ≤ sizeLog2 ∧ sizeLog2 ≤ 16)
    (hcount : 0 < count) (hbase : base % 4096 = 0 ∧ base < 2 ^ 64) (hfid : isFn spaceFid = true) :
    firstBad [(0, 4 ≤ pool && pool ≤ 63), (1, 4 ≤ set && set ≤ 15), (2, kind = 1 || kind = 2),
      (3, 8 ≤ sizeLog2 && sizeLog2 ≤ 16 && (kind ≠ 2 || sizeLog2 = 8)), (4, decide (0 < count)),
      (5, base % 4096 = 0 && base < 2 ^ 64), (6, isFn spaceFid)] = none := by
  refine firstBad_all ?_
  rcases hkind with rfl | ⟨rfl, rfl⟩ <;> simp [hpool, hset, hsize, hcount, hfid, hbase.1] <;> exact hbase.2

/-- The parameters of a share in their ranges (R136). -/
theorem setShare_inRange {pool fid mn mx weight : Nat} (hpool : pool ≤ 63) (hfid : isFn fid = true ∨ fid = 0xFFF)
    (hmn : mn ≤ mx) (hw1 : 1 ≤ weight) (hw2 : weight ≤ 255) :
    firstBad [(0, pool ≤ 63), (1, isFn fid || fid = 0xFFF), (3, mn ≤ mx), (4, 1 ≤ weight && weight ≤ 255)] = none :=
  firstBad_all (by simpa [hpool, hmn, hw1, hw2] using hfid)

/-! ## Numbering the on-chip pools anew (R125) -/

/-- Each on-chip pool has its new size. -/
theorem sizePools_counts (s : State) (c0 c1 c3 : Nat) : (poolOf (sizePools s c0 c1 c3) 0).count = c0 ∧
    (poolOf (sizePools s c0 c1 c3) 1).count = c1 ∧ (poolOf (sizePools s c0 c1 c3) 3).count = c3 := by
  obtain ⟨x0, x1, x3, hpools, h0, h1, h3⟩ : ∃ x0 x1 x3, (sizePools s c0 c1 c3).grn.pools
      = tset (tset (tset s.grn.pools 0 x0) 1 x1) 3 x3 ∧ x0.count = c0 ∧ x1.count = c1 ∧ x3.count = c3 :=
    ⟨_, _, _, rfl, rfl, rfl, rfl⟩
  simp [poolOf, hpools, tgetD, tget_tset_ne, h0, h1, h3]


/-- Settles O3: each command's parameters are in range and its rules' checks hold by its clause's hypotheses, so that it does its
effect. -/
theorem granaryCommandsComplete : Obligations.GranaryCommandsComplete := by
  unfold Obligations.GranaryCommandsComplete
  refine ⟨?register, ?unregister, ?share, ?fixedShare, ?size, ?pressure, ?query⟩
  case register =>
    intro s b m pool set kind sizeLog2 count base spaceFid h hpool hpool' hset hset' hkind hsize hsize' hcount hbase hbase'
      hfid hfree hother hsame hpools hbuffers hbytes hwindows
    refine cmd_done h (registerPool_inRange ⟨hpool, hpool'⟩ ⟨hset, hset'⟩ hkind ⟨hsize, hsize'⟩ hcount ⟨hbase, hbase'⟩
      hfid) ?_
    have hlimits : ¬ (8 ≤ (poolsOfSet b set).length ∨ 2 ^ 28 < hostBuffers b + count ∨
        2 ^ 42 < hostBufferBytes b + count * 2 ^ sizeLog2) := by omega
    have hdistinct : (decide (kind = 1) && sameSize b set sizeLog2) = false := by
      rcases hkind with hsized | ⟨hlisted, -⟩
      · rw [hsame hsized, Bool.and_false]
      · simp [hlisted]
    simp only [Bool.or_eq_true, decide_eq_true_eq, or_assoc]
    rw [if_neg (by simp [hfree]), if_neg (by simp [hother]), if_neg (by simp [hdistinct]), if_neg hlimits,
      if_neg (by simp [hwindows])]
  case unregister =>
    intro s b m pool h hlo hhi hkind hheld hawaited
    refine cmd_done h (firstBad_all (by simp [hhi])) ?_
    simp [Nat.not_lt.mpr hlo, hkind, hheld, hawaited, dropPool]
  case share =>
    intro s b m pool fid mn mx weight h hpool hfid hmn hw1 hw2 h0 h2 hkind hmax hreserve hempty
    have hstock : ¬ ((shareOf b pool fid).mn < mn ∧
        freeOf (setShare b pool fid ⟨mn, mx, weight⟩) pool < reserveOut (setShare b pool fid ⟨mn, mx, weight⟩) pool) := by
      omega
    refine cmd_done h (setShare_inRange hpool hfid hmn hw1 hw2) ?_
    simp [h0, h2, hkind, Nat.not_lt.mpr hmax, Nat.not_lt.mpr hreserve, hstock]
  case fixedShare =>
    intro s b m pool fid mn mx weight h hpool hfid hmn hw1 hw2
    refine cmd_noItem h (setShare_inRange (by omega) hfid hmn hw1 hw2) ?_ (by decide)
    simp [hpool]
  case size =>
    intro s b m c0 c1 c3 h h0 h1 h3 hsum hports hqueues hheld0 hheld1 hheld3
    refine ⟨cmd_done h (firstBad_all (by simp [h0, h1, h3, hsum])) ?_, sizePools_counts b c0 c1 c3⟩
    simp [hports, hqueues, hheld0, hheld1, hheld3]
  case pressure =>
    intro s b m pool eighths h hpool heighths h2 hkind
    exact cmd_done h (firstBad_all (by simp [hpool, heighths])) (by simp [h2, hkind])
  case query =>
    intro s b m handle h hrange hvalid
    exact cmd_ok h (firstBad_all (by simpa using hrange)) (by simp [hvalid])

/-! ## ALLOC and FREE (R138 to R148, R150) -/

section GranarySteps

variable {s t : State} {p c : Nat} {x : StepIn}

/-- An ALLOC that goes on to its pools: no stocks, no poisoned operand, a length, a set that it may name, and a share in it
(R132, R137, R144, R150). -/
theorem exec_grnAlloc_tries (h : Issues s p c 8 0 x) (hfrozen : isFrozen s (bits 11 0 x.bv) = false)
    (hclean : (x.a.p || x.b.p) = false) (hlen : bits 16 0 x.av ≠ 0) (hset0 : bits 3 0 x.imm ≠ 0) (hset2 : bits 3 0 x.imm ≠ 2)
    (hhook : hookMismatch x (bits 11 0 x.bv) = false)
    (hearly : refusedEarly s (bits 11 0 x.bv) (bits 3 0 x.imm) (bits 16 0 x.av) = none) :
    exec (.grnAlloc p c) s
      = .next (allocStep s x (bits 11 0 x.bv) (bits 3 0 x.imm) (bits 16 0 x.av) (bits 19 8 x.imm) false) := by
  refine h.ends rfl ?_
  dsimp only
  rw [hclean, if_neg (by rw [hfrozen]; decide), poisonGate_clean (.inl rfl), if_neg hlen, if_neg (by simp [hset0, hset2, hhook]),
    hearly]

/-- An ALLOC that its pools serve without a scrub ends with its handle (R140, R145). -/
theorem allocStep_granted {o set len lim : Nat} {used : List Nat} {g : Grant} {mark : Bool}
    (hretry : retryWaiting s s.grn.waiting = (t, used)) (hgrant : attempt t o set len (fun q => used.count q) = .ok g)
    (hposted : g.scrub = false) :
    allocStep s x o set len lim mark = doneW (countGrn g.s o (if g.fallback then .doneFallback else .done)) x
      (if g.fallback then Status.doneFallback else Status.done).cc
      (allocWord g.handle false false g.fallback g.list.isSome g.bufs.length) mark := by
  simp only [allocStep, hretry, hgrant, hposted, Bool.false_eq_true, if_false]

/-- A legal FREE gives its buffers back, and its packet no longer owns their chain (R146, R147). -/
theorem exec_grnFree_legal {at_ : Nat} (h : Issues s p c 8 1 x) (hfrozen : isFrozen s (bits 11 0 x.bv) = false)
    (hclean : Clean x (x.a.p || x.b.p)) (hhook : hookMismatch x (bits 11 0 x.bv) = false)
    (hfree : freeHandle s (bits 39 0 x.av) (bits 11 0 x.bv) (bitOf 0 x.imm) = (none, at_, t)) :
    exec (.grnFree p c) s
      = .next (advance t x { x.k with chains := x.k.chains.filter (fun g => g ≠ bits 39 0 x.av) } .done) := by
  refine h.ends rfl ((unitGate_clean hfrozen hclean _).trans ?_)
  dsimp only
  rw [if_neg (by rw [hhook]; decide), hfree]

end GranarySteps

/-- Settles O20: each step and event meets its condition by its clause's hypotheses, so that what it does is its effect. -/
theorem granaryStepsComplete : Obligations.GranaryStepsComplete := by
  unfold Obligations.GranaryStepsComplete
  refine ⟨?alloc, ?free, ?retry, ?expiry, ?scrubbed, ?background, ?query, ?queryEnd⟩
  case alloc =>
    intro s t p c x used g h hfrozen ha hb hlen hset0 hset2 hhook hearly hretry hgrant hposted
    rw [exec_grnAlloc_tries h hfrozen (by rw [ha, hb]; rfl) hlen hset0 hset2 hhook hearly,
      allocStep_granted hretry hgrant hposted]
  case free =>
    rintro s t p c _ at_ x h hfrozen hclean hhook rfl hfree
    exact exec_grnFree_legal h hfrozen hclean hhook hfree
  case retry =>
    intro s id hwaits
    obtain ⟨r, hr⟩ := Option.isSome_iff_exists.mp hwaits
    change execGrnWaitRetry id s = _
    simp only [execGrnWaitRetry, hr]
  case expiry =>
    intro s id r hr hscrub hlimit
    change execGrnWaitExpiry id s = _
    simp [execGrnWaitExpiry, hr, hscrub, hlimit, WaitReq.refusal]
  case scrubbed =>
    intro s id r j hr hscrub hposts
    change execInlineScrubComplete id s = _
    simp only [execInlineScrubComplete, hr, hscrub, hposts, if_true]
  case background =>
    rintro s h hrate hruns hdirty x n u rfl rfl rfl
    change execBackgroundScrub s = _
    simp [execBackgroundScrub, hrate, hruns, hdirty]
  case query => exact fun s v hreach => congrArg _ (memWrite_reached hreach)
  case queryEnd =>
    intro s hrunning
    change execGrnQueryComplete s = _
    simp [execGrnQueryComplete, hrunning]

end Sys2Proof.Machine

/-! PROOFS. The bucket cycle of the forwarding tables: its writes apply in their ranks as it ends, and what the ager and the
homing unit put into it (O5). -/

namespace Sys2Proof.Machine

/-! ## One pipeline's tables -/

section Pipelines

variable {s t : State}

theorem fpOf_congr (h : t.fwt = s.fwt) (p : Nat) : fpOf t p = fpOf s p := by simp only [fpOf, h]

/-- To write back what is there changes nothing. -/
theorem setFp_eq_self {p : Nat} {x : FPipe} (h : x = fpOf s p) : setFp s p x = s := by
  subst h
  match p with
  | 0 | 1 | 2 | _ + 3 => rfl

@[simp] theorem setFp_setFp (s : State) (p : Nat) (x y : FPipe) : setFp (setFp s p x) p y = setFp s p y := by
  match p with
  | 0 | 1 | 2 | _ + 3 => rfl

/-- A pipeline is the one that was written, or not touched. -/
theorem fpOf_setFp_cases (s : State) (p q : Nat) (x : FPipe) :
    (fpOf s q = fpOf s p ∧ fpOf (setFp s p x) q = x) ∨ fpOf (setFp s p x) q = fpOf s q := by
  match p, q with
  | 0, 0 | 1, 1 | 2, 2 | _ + 3, _ + 3 => exact .inl ⟨rfl, rfl⟩
  | 0, 1 | 0, 2 | 0, _ + 3 | 1, 0 | 1, 2 | 1, _ + 3 | 2, 0 | 2, 1 | 2, _ + 3 | _ + 3, 0 | _ + 3, 1 | _ + 3, 2 => exact .inr rfl

@[simp] theorem fpOf_touchRld (s : State) (p q : Nat) : fpOf (touchRld s p) q = fpOf s q := rfl

@[simp] theorem fpOf_count (s : State) (fid i q : Nat) : fpOf (count s fid i) q = fpOf s q := fpOf_congr (countN_fwt ..) q

@[simp] theorem tableOf_setFp (s : State) (p : Nat) (x : FPipe) (t : Nat) : tableOf (setFp s p x) t = tableOf s t := by
  match p with
  | 0 | 1 | 2 | _ + 3 => rfl

@[simp] theorem setFp_tick (s : State) (p : Nat) (x : FPipe) : (setFp s p x).fwt.tick = s.fwt.tick := by
  match p with
  | 0 | 1 | 2 | _ + 3 => rfl

end Pipelines

/-! ## The end of a bucket cycle (R169, Table 5.5) -/

/-- The writes of a bucket cycle in the order in which they apply: by rank, and within a rank by engine and port. -/
def inRanks (ws : List CycleWrite) : List CycleWrite := [2, 4, 5, 6].flatMap (fun r => inOrder (ws.filter (fun w => w.rank = r)))

section Cycles

variable {s : State} {p q : Nat}

/-- The cycle of a pipeline ends with its writes applied in order. -/
theorem endCycle_eq_foldl (s : State) (p : Nat) : endCycle s p =
    (inRanks (fpOf s p).cycle).foldl (fun s w => applyWrite s p w) (setFp s p { fpOf s p with cycle := [] }) := by
  rw [inRanks, List.foldl_flatMap, endCycle]
  dsimp only
  split
  next hempty =>
    have hnil : (fpOf s p).cycle = [] := List.isEmpty_iff.mp hempty
    rw [hnil, setFp_eq_self (by rw [← hnil])]
    rfl
  next => rfl

theorem inRanks_single (w : CycleWrite) : inRanks [w] = [w] := by cases w <;> rfl

/-- Of two LEARNs, that of the lower engine, then of the lower port, comes first. -/
theorem inRanks_learns {m n : Nat} (y z : PendWrite) (h : n < m) :
    inRanks [.learn m y, .learn n z] = inRanks [.learn n z, .learn m y] := by
  have hback : ¬ m < n := by omega
  simp [inRanks, inOrder, insertWrite, CycleWrite.rank, CycleWrite.ord, h, hback]

/-- A write that is alone in its cycle applies as the cycle ends. -/
theorem endCycle_addCycle (h : (fpOf s p).cycle = []) (w : CycleWrite) : endCycle (addCycle s p w) p = applyWrite s p w := by
  rw [endCycle_eq_foldl]
  simp only [addCycle, fpOf_setFp, setFp_setFp, h, List.nil_append, inRanks_single, List.foldl_cons, List.foldl_nil]
  rw [setFp_eq_self (by rw [← h])]

/-- Which of a cycle's writes came first changes nothing, where they apply in the same order. -/
theorem endCycle_reordered {ws : List CycleWrite} (h : inRanks (fpOf s p).cycle = inRanks ws) :
    endCycle s p = endCycle (setFp s p { fpOf s p with cycle := ws }) p := by
  simp only [endCycle_eq_foldl, fpOf_setFp, setFp_setFp, h]

/-! ### The writes of a cycle leave the cycles alone -/

/-- A write of a pipeline's tables that keeps its cycle keeps every cycle. -/
theorem setFp_cycle {x : FPipe} (h : x.cycle = (fpOf s p).cycle) (q : Nat) :
    (fpOf (setFp s p x) q).cycle = (fpOf s q).cycle := by
  rcases fpOf_setFp_cases s p q x with ⟨hsame, hnew⟩ | hold
  · rw [hnew, hsame, h]
  · rw [hold]

theorem placeEntry_cycle (fp : FPipe) (t b : Nat) (hot : Bool) (e : FEntry) : (placeEntry fp t b hot e).cycle = fp.cycle := by
  unfold placeEntry
  repeat' split
  all_goals rfl

theorem applyLearn_cycle (fp : FPipe) (w : PendWrite) (tick : W32) : (applyLearn fp w tick).cycle = fp.cycle := by
  unfold applyLearn
  dsimp only
  split
  · rfl
  · rw [placeEntry_cycle]; rfl

theorem homeBucket_cycle (fp : FPipe) (t b : Nat) : (homeBucket fp t b).cycle = fp.cycle := by
  unfold homeBucket
  split <;> rfl

/-- The counts of an ager's removal leave the tables as the removal does. -/
theorem fpOf_countAged (s : State) (l : List (Nat × List Nat)) (q : Nat) :
    fpOf (l.foldl (fun s e => count s e.1 cFwtAged) s) q = fpOf s q :=
  foldl_inv (fun s => fpOf s q) _ (fun s e => fpOf_count s e.1 cFwtAged q) l s

theorem applyWrite_cycle (s : State) (p : Nat) (w : CycleWrite) (q : Nat) :
    (fpOf (applyWrite s p w) q).cycle = (fpOf s q).cycle := by
  cases w with
  | age t b =>
    unfold applyWrite
    dsimp only
    split
    · unfold ageBucket
      dsimp only
      rw [fpOf_countAged]
      exact setFp_cycle (by rfl) q
    · rfl
  | home t b => exact setFp_cycle (homeBucket_cycle ..) q
  | learn n y => exact setFp_cycle (applyLearn_cycle ..) q
  | refresh n t b o key =>
    unfold applyWrite applyRefresh
    dsimp only
    split
    · exact setFp_cycle (by rfl) q
    · repeat' split
      all_goals simp only [fpOf_count]

theorem endCycle_cycle (s : State) (p q : Nat) :
    (fpOf (endCycle s p) q).cycle = (fpOf (setFp s p { fpOf s p with cycle := [] }) q).cycle := by
  rw [endCycle_eq_foldl]
  exact foldl_inv (fun s => (fpOf s q).cycle) _ (fun s w => applyWrite_cycle s p w q) _ _

theorem endCycle_closes (s : State) (p : Nat) : (fpOf (endCycle s p) p).cycle = [] := by
  rw [endCycle_cycle, fpOf_setFp]

/-- A cycle that is empty stays empty as another ends. -/
theorem endCycle_keepsClosed (h : (fpOf s q).cycle = []) : (fpOf (endCycle s p) q).cycle = [] := by
  rw [endCycle_cycle]
  rcases fpOf_setFp_cases s p q { fpOf s p with cycle := [] } with ⟨-, hnew⟩ | hold
  · rw [hnew]
  · rw [hold, h]

theorem endCycles_closes (s : State) (h : q < 4) : (fpOf (endCycles s) q).cycle = [] := by
  simp only [endCycles, pipes, List.foldl_cons, List.foldl_nil]
  match q with
  | 0 => exact endCycle_keepsClosed (endCycle_keepsClosed (endCycle_keepsClosed (endCycle_closes ..)))
  | 1 => exact endCycle_keepsClosed (endCycle_keepsClosed (endCycle_closes ..))
  | 2 => exact endCycle_keepsClosed (endCycle_closes ..)
  | 3 => exact endCycle_closes ..

theorem fpOf_runTime (s : State) (q : Nat) : fpOf (runTime s) q = fpOf s q := by
  unfold runTime
  split <;> rfl

/-- A change of every part but the tables leaves the tables. -/
theorem fpOf_of_only {t : State} (h : Only 0x3fffeff s t) (q : Nat) : fpOf t q = fpOf s q :=
  fpOf_congr ((h.same .fwt).resolve_left (of_decide_eq_false rfl)) q

/-- A nanosecond with no command waiting ends every bucket cycle (log entry 122), and nothing in it after that adds a write. -/
theorem tickNs_closes (s : State) (h : q < 4) : (fpOf (tickNs s) q).cycle = [] := by
  have hbefore (u : State) (n : Nat) :
      fpOf { watchIdle (logStocks (watchDrains (watchQuiesces u))) with now := n } q = fpOf u q := fpOf_of_only (by simp) q
  have hafter (u v : State) : fpOf (beginRestart (drainTwin (renewKek (drainSvc (noteExport v (calRun u)))))) q = fpOf u q :=
    fpOf_of_only (by simp) q
  rw [tickNs, hafter, fpOf_runTime, hbefore]
  exact endCycles_closes _ h

end Cycles

/-! ## The ager's removal, and a refresh behind it (R168, R170, R175) -/

section Ageing

variable {s : State} {p t b o : Nat} {key : List Nat} {x : FTable} {fp : FPipe} {e : FEntry}

/-- The entries of a bucket, in its slots and in the overflow store. -/
def bucketEntries (fp : FPipe) (t b : Nat) : List FEntry := (bucketSlots fp t b).map (·.2) ++ (bucketOvf fp t b).map (·.2.e)

theorem hasCopy_iff : hasCopy fp t b o key = true ↔ ∃ e ∈ bucketEntries fp t b, e.isFor t key o = true := by
  simp only [hasCopy, bucketEntries, Bool.or_eq_true, List.any_eq_true, List.mem_append, List.mem_map]
  constructor
  · rintro (⟨v, hv, hfor⟩ | ⟨v, hv, hfor⟩)
    · exact ⟨_, .inl ⟨v, hv, rfl⟩, hfor⟩
    · exact ⟨_, .inr ⟨v, hv, rfl⟩, hfor⟩
  · rintro ⟨_, ⟨v, hv, rfl⟩ | ⟨v, hv, rfl⟩, hfor⟩
    · exact .inl ⟨v, hv, hfor⟩
    · exact .inr ⟨v, hv, hfor⟩

theorem mem_of_tget {α : Type} {l : Tbl α} {i : Nat} {v : α} (h : tget l i = some v) : (i, v) ∈ l := by
  induction l with
  | nil => simp at h
  | cons a l ih =>
    obtain ⟨k, w⟩ := a
    unfold tget at h
    split at h
    next hk =>
      obtain rfl := Option.some.inj h
      exact hk ▸ List.mem_cons_self
    next => exact List.mem_cons_of_mem _ (ih h)

/-- An entry of a bucket is listed in one of the bucket's slots, or in the overflow store for the bucket. -/
theorem mem_bucketEntries (h : e ∈ bucketEntries fp t b) :
    (∃ k, (k, e) ∈ fp.slots ∧ k / 4 = bktKey t b) ∨ ∃ v ∈ fp.ovf, v.2.e = e ∧ e.table = t ∧ v.2.bucket = b := by
  simp only [bucketEntries, List.mem_append, List.mem_map] at h
  rcases h with ⟨v, hv, rfl⟩ | ⟨v, hv, rfl⟩
  · simp only [bucketSlots, List.mem_filterMap, Option.map_eq_some_iff] at hv
    obtain ⟨i, hi, e, he, rfl⟩ := hv
    have hlt : i < 4 := by simp at hi; omega
    exact .inl ⟨_, mem_of_tget he, by unfold slotKey; omega⟩
  · simp only [bucketOvf, List.mem_filter, Bool.and_eq_true, decide_eq_true_eq] at hv
    exact .inr ⟨v, hv.1, rfl, hv.2⟩

/-- Every copy of a key and owner in a bucket has expired. -/
def AllExpired (s : State) (p t b o : Nat) (key : List Nat) (x : FTable) : Prop :=
  (∀ e ∈ (fpOf s p).slots, e.1 / 4 = bktKey t b → e.2.isFor t key o = true → e.2.expired x s.fwt.tick = true) ∧
    ∀ e ∈ (fpOf s p).ovf, e.2.bucket = b → e.2.e.isFor t key o = true → e.2.e.expired x s.fwt.tick = true

/-- Where all copies have expired, so has each that a search of the bucket meets. -/
theorem AllExpired.of_mem (h : AllExpired s p t b o key x) (he : e ∈ bucketEntries (fpOf s p) t b)
    (hfor : e.isFor t key o = true) : e.expired x s.fwt.tick = true := by
  rcases mem_bucketEntries he with ⟨k, hk, hkey⟩ | ⟨v, hv, rfl, -, hbucket⟩
  · exact h.1 _ hk hkey hfor
  · exact h.2 _ hv hbucket hfor

/-- What the ager's removal leaves in the slots. -/
theorem ageBucket_slots (s : State) (p t b : Nat) (x : FTable) : (fpOf (ageBucket s p t b x) p).slots
    = tfilter (fpOf s p).slots (fun k e => !(k / 4 = bktKey t b && e.expired x s.fwt.tick)) := by
  simp only [ageBucket, fpOf_countAged, fpOf_setFp]

/-- What the ager's removal leaves in the overflow store. -/
theorem ageBucket_ovf (s : State) (p t b : Nat) (x : FTable) : (fpOf (ageBucket s p t b x) p).ovf
    = tfilter (fpOf s p).ovf (fun _ e => !(e.bucket = b && e.e.table = t && e.e.expired x s.fwt.tick)) := by
  simp only [ageBucket, fpOf_countAged, fpOf_setFp]

/-- The ager's removal notes the keys that it removes (R168). -/
theorem mem_ageBucket_aged (he : e ∈ bucketEntries (fpOf s p) t b) (hexpired : e.expired x s.fwt.tick = true) :
    (t, e.owner, e.key) ∈ (fpOf (ageBucket s p t b x) p).aged := by
  simp only [ageBucket, fpOf_countAged, fpOf_setFp]
  refine List.mem_append_right _ (List.mem_map.mpr ⟨(e.owner, e.key), List.mem_eraseDups.mpr ?_, rfl⟩)
  exact List.mem_map.mpr ⟨e, List.mem_filter.mpr ⟨he, hexpired⟩, rfl⟩

/-- The ager's removal leaves no expired entry in its bucket, and adds none. -/
theorem hasCopy_ageBucket (h : AllExpired s p t b o key x) : hasCopy (fpOf (ageBucket s p t b x) p) t b o key = false := by
  refine Bool.eq_false_iff.mpr (fun hcopy => ?_)
  obtain ⟨e, he, hfor⟩ := hasCopy_iff.mp hcopy
  rcases mem_bucketEntries he with ⟨k, hk, hkey⟩ | ⟨v, hv, rfl, htable, hbucket⟩
  · rw [ageBucket_slots, tfilter, List.mem_filter] at hk
    simp [hkey, h.1 _ hk.1 hkey hfor] at hk
  · rw [ageBucket_ovf, tfilter, List.mem_filter] at hv
    simp [htable, hbucket, h.2 _ hv.1 hbucket hfor] at hv

/-- Of an entry whose copies have all expired, the ager's removal leaves none, so that a refresh behind it finds none, and is
counted (R168, R170). -/
theorem applyRefresh_aged (hcopy : hasCopy (fpOf s p) t b o key = true) (h : AllExpired s p t b o key x) :
    applyRefresh (ageBucket s p t b x) p t b o key = count (ageBucket s p t b x) o cHitOnExpiry := by
  obtain ⟨e, he, hfor⟩ := hasCopy_iff.mp hcopy
  obtain ⟨⟨-, rfl⟩, rfl⟩ : (e.table = t ∧ e.key = key) ∧ e.owner = o := by simpa [FEntry.isFor] using hfor
  have haged := mem_ageBucket_aged he (h.of_mem he hfor)
  rw [applyRefresh, hasCopy_ageBucket h, if_neg (by decide), if_pos (List.contains_iff_mem.mpr haged)]

/-- The ager's removal comes before a refresh, whichever of the two came first (Table 5.5). -/
theorem inRanks_age_refresh {n : Nat} {ws : List CycleWrite}
    (h : ws = [.refresh n t b o key, .age t b] ∨ ws = [.age t b, .refresh n t b o key]) :
    inRanks ws = [.age t b, .refresh n t b o key] := by
  rcases h with rfl | rfl <;> rfl

/-- The end of a cycle of a refresh and an ager's removal of a bucket. -/
theorem endCycle_age_refresh {n : Nat} (hx : tableOf s t = some x)
    (h : inRanks (fpOf s p).cycle = [.age t b, .refresh n t b o key]) :
    endCycle s p = applyRefresh (ageBucket (setFp s p { fpOf s p with cycle := [] }) p t b x) p t b o key := by
  rw [endCycle_eq_foldl, h]
  simp only [List.foldl_cons, List.foldl_nil, applyWrite, tableOf_setFp, hx]

end Ageing

/-! ## The ager's visits (R175, R176) -/

section AgerVisits

variable {s : State} {p k t b : Nat} {x : FTable}

@[simp] theorem markReady_touchRld (s : State) (p q : Nat) : markReady (touchRld s p) q = markReady s q := rfl
@[simp] theorem ageingTables_touchRld (s : State) (p : Nat) : ageingTables (touchRld s p) = ageingTables s := rfl
@[simp] theorem agerNext_touchRld (s : State) (p t b : Nat) : agerNext (touchRld s p) t b = agerNext s t b := rfl

/-- With a bucket to visit there is a table that ages. -/
theorem ageingTables_of_agerNext {i j : Nat} (h : agerNext s i j = some (t, b, x)) : (ageingTables s).isEmpty = false := by
  cases hl : ageingTables s with
  | nil => simp [agerNext, hl] at h
  | cons => rfl

theorem ageingTables_of_find {f : Nat × FTable → Bool} {e : Nat × FTable} (h : (ageingTables s).find? f = some e) :
    (ageingTables s).isEmpty = false := by
  cases hl : ageingTables s with
  | nil => simp [hl] at h
  | cons => rfl

/-- An enabled ager whose tables are ready makes its visits. -/
theorem ager_enabled (hp : p < 4) (henabled : s.fwt.agerEnable = true) (hready : s.fwt.ready = true) :
    (decide (4 ≤ p) || !s.fwt.agerEnable || !s.fwt.ready) = false := by simp [Nat.not_le.mpr hp, henabled, hready]

variable (hp : p < 4) (henabled : s.fwt.agerEnable = true) (hready : s.fwt.ready = true)
  (hruns : domainRuns s (19 + p / 2) = true)
include hp henabled hready hruns

/-- The ager visits a marked bucket whose lock has gone, of a table that ages (R176). -/
theorem exec_agerVisit_marked {e : Nat × FTable} (hmark : markReady s p = some k)
    (hfind : (ageingTables s).find? (fun e => e.1 = k / 2 ^ 23) = some e) :
    exec (.agerVisit p) s = .next
      (agerVisitBucket (setFp (touchRld s p) p { fpOf s p with agerMarks := (fpOf s p).agerMarks.erase k }) p e.1
        (k % 2 ^ 23)) := by
  change execAgerVisit p s = _
  simp only [execAgerVisit, ager_enabled hp henabled hready, hruns, ageingTables_of_find hfind, markReady_touchRld, hmark,
    ageingTables_touchRld, fpOf_touchRld, hfind, Bool.not_true, Bool.false_eq_true, if_false]

/-- A marked bucket of a table that ages no more loses its mark (R176). -/
theorem exec_agerVisit_unmarks (hmark : markReady s p = some k)
    (hfind : (ageingTables s).find? (fun e => e.1 = k / 2 ^ 23) = none) :
    exec (.agerVisit p) s = .next (setFp (if (ageingTables s).isEmpty then s else touchRld s p) p
      { fpOf s p with agerMarks := (fpOf s p).agerMarks.erase k }) := by
  change execAgerVisit p s = _
  cases hages : (ageingTables s).isEmpty <;>
    simp only [execAgerVisit, ager_enabled hp henabled hready, hruns, hages, markReady_touchRld, hmark,
      ageingTables_touchRld, fpOf_touchRld, hfind, Bool.not_true, Bool.false_eq_true, if_false, if_true]

/-- The ager visits the next bucket in order, which is not locked (R175). -/
theorem exec_agerVisit_next (hmark : markReady s p = none)
    (hnext : agerNext s (fpOf s p).agerTable (fpOf s p).agerBucket = some (t, b, x)) (hfree : isLocked (fpOf s p) t b = false) :
    exec (.agerVisit p) s = .next
      (agerVisitBucket (setFp (touchRld s p) p { fpOf s p with agerTable := t, agerBucket := b + 1 }) p t b) := by
  change execAgerVisit p s = _
  have hfree' : isLocked { fpOf s p with agerTable := t, agerBucket := b + 1 } t b = false := hfree
  simp [execAgerVisit, Nat.not_le.mpr hp, henabled, hready, hruns, ageingTables_of_agerNext hnext, hmark, hnext, hfree']

/-- The ager skips a locked bucket and marks it (R176). -/
theorem exec_agerVisit_locked (hmark : markReady s p = none)
    (hnext : agerNext s (fpOf s p).agerTable (fpOf s p).agerBucket = some (t, b, x)) (hlocked : isLocked (fpOf s p) t b = true)
    (hnew : bktKey t b ∉ (fpOf s p).agerMarks) :
    exec (.agerVisit p) s = .next (setFp (touchRld s p) p { fpOf s p with
      agerTable := t, agerBucket := b + 1, agerMarks := (fpOf s p).agerMarks ++ [bktKey t b] }) := by
  change execAgerVisit p s = _
  have hlocked' : isLocked { fpOf s p with agerTable := t, agerBucket := b + 1 } t b = true := hlocked
  simp [execAgerVisit, Nat.not_le.mpr hp, henabled, hready, hruns, ageingTables_of_agerNext hnext, hmark, hnext, hlocked', hnew]

end AgerVisits

/-! ## The homing unit (R171 to R173) -/

section Homing

variable {s : State} {p t b i j : Nat} {x : FTable} {e : OvfEntry}

/-- A homing move that finds a free slot, an overflow entry and no lock joins the bucket cycle (R171, R173). -/
theorem exec_homingMove_joins (hp : p < 4) (hx : tableOf s t = some x) (hrld : x.hot = false)
    (hruns : domainRuns s (19 + p / 2) = true) (hfree : isLocked (fpOf s p) t b = false)
    (hidle : ∀ h ∈ (fpOf s p).homing, ¬ (h.1 = t ∧ h.2.1 = b)) (hnew : .home t b ∉ (fpOf s p).cycle)
    (hslot : freeSlot (fpOf s p) t b = some i) (hold : oldestOvf (fpOf s p) t b = some (j, e)) :
    exec (.homingMove p t b) s = .next (addCycle (touchRld s p) p (.home t b)) := by
  change execHomingMove p t b s = _
  have hnone : (fpOf s p).homing.any (fun h => h.1 = t && h.2.1 = b) = false :=
    List.any_eq_false.mpr (by simpa using hidle)
  simp only [execHomingMove, hx, hrld, hfree, hnone, List.contains_eq_mem, hnew, hslot, hold, hruns, Nat.not_le.mpr hp]
  rfl

/-- A homing move alone in its cycle writes the bucket copy of the oldest overflow entry (R171). -/
theorem endCycle_home (hempty : (fpOf s p).cycle = []) (hslot : freeSlot (fpOf s p) t b = some i)
    (hold : oldestOvf (fpOf s p) t b = some (j, e)) :
    endCycle (addCycle s p (.home t b)) p = setFp s p { fpOf s p with
      slots := tset (fpOf s p).slots (slotKey t b i) e.e
      rawSlots := tdel (fpOf s p).rawSlots (slotKey t b i)
      ovf := tset (fpOf s p).ovf j { e with homed := true }
      homing := (fpOf s p).homing ++ [(t, b, j)] } := by
  rw [endCycle_addCycle hempty, applyWrite, homeBucket, hslot, hold]

/-- The overflow copy goes once the bucket copy is there; the move is counted unless an image made the copy (R171, R179). -/
theorem exec_homingOverflowRemove_removes {h : Nat × Nat × Nat} (hp : p < 4)
    (hfind : (fpOf s p).homing.find? (fun h => h.1 = t && h.2.1 = b) = some h) (he : tget (fpOf s p).ovf h.2.2 = some e)
    (hhomed : e.homed = true) (htable : e.e.table = t) (hbucket : e.bucket = b) :
    exec (.homingOverflowRemove p t b) s = .next (setFp s p { fpOf s p with
      homing := (fpOf s p).homing.erase h, ovf := tdel (fpOf s p).ovf h.2.2
      homeMoves := if e.byImage then (fpOf s p).homeMoves else (fpOf s p).homeMoves + 1 }) := by
  change execHomingOverflowRemove p t b s = _
  simp [execHomingOverflowRemove, hfind, Nat.not_le.mpr hp, he, hhomed, htable, hbucket]

end Homing

/-- Settles O5: a visit acts on the bucket that the marks or the order name, a move and a removal by the homing unit meet their
conditions, and a cycle ends with its writes in their ranks (`endCycle_eq_foldl`). -/
theorem agerAndHomingAct : Obligations.AgerAndHomingAct := by
  unfold Obligations.AgerAndHomingAct
  refine ⟨?marked, ?next, ?locked, ?home, ?remove, ?refresh, ?closes⟩
  case marked =>
    intro s p k hp henabled hready hruns hmark
    cases hfind : (ageingTables s).find? (fun e => e.1 = k / 2 ^ 23) with
    | some e => exact exec_agerVisit_marked hp henabled hready hruns hmark hfind
    | none => exact exec_agerVisit_unmarks hp henabled hready hruns hmark hfind
  case next => exact fun s p t b x => exec_agerVisit_next
  case locked => exact fun s p t b x => exec_agerVisit_locked
  case home =>
    intro s p t b i j x e hp hx hrld hruns hfree hidle hnew hslot hold
    exact ⟨exec_homingMove_joins hp hx hrld hruns hfree hidle hnew hslot hold,
      fun hempty => endCycle_home (s := touchRld s p) hempty hslot hold⟩
  case remove => exact fun s p t b h e => exec_homingOverflowRemove_removes
  case refresh =>
    intro s p t b o n key x hp hx hcycle hcopy hslots hovf
    have hexpired : AllExpired (setFp s p { fpOf s p with cycle := [] }) p t b o key x := by
      simpa only [AllExpired, fpOf_setFp, setFp_tick] using ⟨hslots, hovf⟩
    rw [endCycle_age_refresh hx (inRanks_age_refresh hcycle),
      applyRefresh_aged (by rw [fpOf_setFp]; exact hcopy) hexpired]
    exact ⟨by rw [fpOf_count]; exact hasCopy_ageBucket hexpired, _, rfl, (fpOf_count ..).symm⟩
  case closes =>
    intro s t hidle hstep p hp
    rw [step, hidle] at hstep
    obtain rfl := Host.Outcome.next.inj hstep
    exact tickNs_closes s hp

end Sys2Proof.Machine

/-! PROOFS. The steps of LKP_HOT, LKP_RLD and FWT_UPD, and the end of a lock at its limit (O19). -/

namespace Sys2Proof.Machine

/-! ## Lookups (R160 to R163) -/

section Lookups

variable {s a : State} {p c unit : Nat} {x : StepIn} {tb : FTable} {hot refresh : Bool}

/-- A lookup of a ready table of its unit's kind, for a function that may read it, reads the key's bucket (R161, R162). -/
theorem lookupStep_reads (h : Issues s p c unit 0 x) (hfrozen : isFrozen s (tblFid x) = false) (hb : x.b.p = false)
    (hkey : keyPoisoned s x (tblNo x) = false) (htb : tget s.fwt.tables (tblNo x) = some tb) (hready : tb.ready = true)
    (hhot : tb.hot = hot) (hgrant : tblFid x = 0xFFF ∨ (grantOf s (tblFid x) (tblNo x) p).isSome = true)
    (hhook : hookMismatch x (tblFid x) = false) :
    lookupStep unit p c hot s = lookupBucket s x (tblNo x) tb (tblFid x) (!hot && bitOf 4 x.imm) false := by
  have hmay : (decide (tblFid x ≠ 0xFFF) && (grantOf s (tblFid x) (tblNo x) p).isNone) = false := by
    rcases hgrant with hdevice | hheld
    · simp [hdevice]
    · rw [Option.isNone_eq_false_iff.mpr hheld, Bool.and_false]
  have hadmits : (!tb.ready || decide (tb.hot ≠ hot) || (decide (tblFid x ≠ 0xFFF) &&
      (grantOf s (tblFid x) (tblNo x) p).isNone) || hookMismatch x (tblFid x)) = false := by
    rw [hmay, hhook, hready, hhot]; simp
  rw [lookupStep, withStep_issues h]
  dsimp only
  rw [hb, hkey, Bool.or_self, unitGate_clean hfrozen (.inl rfl), htb]
  dsimp only
  rw [hadmits, if_neg (by decide)]

variable (hclean : bucketMarked (fpOf s x.p) (tblNo x) (bucketOfHash tb (bits 31 0 x.bv)) = false)
include hclean

/-- A search that finds no match answers MISS with zeros (R160). -/
theorem lookupBucket_miss (ha : a = if tb.hot then s else touchRld s x.p)
    (hfind : findHit (fpOf s x.p) (tblNo x) (bucketOfHash tb (bits 31 0 x.bv)) (normKey tb (keyWords x.k x.w.srcA)) (tblFid x)
      = none) :
    lookupBucket s x (tblNo x) tb (tblFid x) refresh false = advance a x (putWords x x.k [0, 0, 0, 0] false) .miss := by
  subst ha
  simp only [lookupBucket, hclean, hfind, poisonGate_clean (.inl rfl), Bool.false_eq_true, if_false, Bool.or_self]

/-- A search that finds a match answers its words, and refreshes the entry where the step asks for it (R160, R168). -/
theorem lookupBucket_hit {h : Hit} (ha : a = if tb.hot then s else touchRld s x.p)
    (hfind : findHit (fpOf s x.p) (tblNo x) (bucketOfHash tb (bits 31 0 x.bv)) (normKey tb (keyWords x.k x.w.srcA)) (tblFid x)
      = some h) :
    lookupBucket s x (tblNo x) tb (tblFid x) refresh false =
      let t := advance a x (putWords x x.k (h.words (h.e.expired tb s.fwt.tick)) h.e.resMark) (if h.ovf then .alt else .done)
      if refresh then hitRefresh t x (tblNo x) (bucketOfHash tb (bits 31 0 x.bv)) h.e else t := by
  subst ha
  simp only [lookupBucket, hclean, hfind, poisonGate_clean (.inl rfl), Bool.false_eq_true, if_false, Bool.or_self, Bool.false_or]

end Lookups

/-! ## Updates (R164 to R168) -/

section Updates

variable {s : State} {p c kind o t op : Nat} {x : StepIn} {tb : FTable} {g : FGrant} {result : List Nat} {w : PendWrite}

/-- A FWT_UPD step may act on a ready RLDRAM table of its kind on which its function holds a grant (Table 5.4). -/
theorem updTable_ok {kind : Option Nat} (htb : tget s.fwt.tables t = some tb) (hready : tb.ready = true) (hrld : tb.hot = false)
    (hkind : kind = none ∨ kind = some tb.kind) (hgrant : (grantOf s o t p).isSome = true) :
    updTable s p t o kind = .ok tb := by
  have hgrant' := Option.isNone_eq_false_iff.mpr hgrant
  rcases hkind with rfl | rfl <;> simp [updTable, htb, hready, hrld, hgrant']

/-- A LEARN with clean operands on a table that it may write tries its write (R164). -/
theorem exec_fwtLearn_tries (h : Issues s p c 6 0 x) (hfrozen : isFrozen s (tblFid x) = false)
    (hmark : (x.b.p || keyPoisoned s x (tblNo x)) = false) (hupd : updTable s p (tblNo x) (tblFid x) (some 1) = .ok tb) :
    exec (.fwtLearn p c) s = .next (learnWrite s x (tblNo x) (tblFid x) tb (leBytes 4 (bits 39 8 x.imm) ++ List.replicate 20 0)
      false cLearnFail) := by
  refine h.ends rfl ((unitGate_clean hfrozen (.inl hmark) _).trans ?_)
  rw [hupd]

/-- A WRITE_FLOW with clean operands on a table that it may write tries its write (R164). -/
theorem exec_fwtWriteFlow_tries (h : Issues s p c 6 2 x) (hfrozen : isFrozen s (tblFid x) = false)
    (hmark : (x.b.p || keyPoisoned s x (tblNo x)) = false) (hwords : wordsPoisoned x.k x.w.dst 3 = false)
    (hupd : updTable s p (tblNo x) (tblFid x) (some 2) = .ok tb) :
    exec (.fwtWriteFlow p c) s = .next (learnWrite s x (tblNo x) (tblFid x) tb
      ([0, 1, 2].flatMap (fun j => leBytes 8 (x.k.val (x.w.dst + j)))) false cFlowWriteFail) := by
  refine h.ends rfl ((unitGate_clean hfrozen (.inl (by rw [hmark, hwords]; rfl)) _).trans ?_)
  rw [hupd]
  dsimp only
  rw [hwords]

/-- A LEARN or WRITE_FLOW within its quota and with an overflow entry to reserve joins the bucket cycle, or waits for the lock of
its bucket where the queue has room (R164 to R167). -/
theorem learnWrite_admitted {fail : Nat} (hmark : (x.b.p || keyPoisoned s x t) = false) (hgrant : grantOf s o t x.p = some g)
    (hquota : ownedIn (fpOf s x.p) t o + pendIn (fpOf s x.p) t o < g.maxEntries) (havail : ovfAvail s x.p t o = true)
    (hroom : (fpOf s x.p).pend.length < 64)
    (hw : w = { table := t, bucket := bucketOf tb (normKey tb (keyWords x.k x.w.srcA)), owner := o
                key := normKey tb (keyWords x.k x.w.srcA), result := result }) :
    learnWrite s x t o tb result false fail =
      if isLocked (fpOf s x.p) t w.bucket = true
      then done (count (setFp s x.p { fpOf s x.p with pend := (fpOf s x.p).pend ++ [w] }) o cLearnDeferred) x .deferred
      else done (addCycle (touchRld s x.p) x.p (.learn x.writeOrd w)) x .done := by
  subst hw
  simp only [learnWrite, hmark, hgrant, Option.getD_some, Nat.not_le.mpr hquota, havail, Nat.not_le.mpr hroom, Bool.not_true,
    Bool.false_eq_true, if_false]

end Updates

/-- Settles O19: a step that issues passes the checks before its own rule (`Issues.ends`); a write alone in its cycle applies
as the cycle ends (`endCycle_addCycle`), and two of one rank in their order (`inRanks_learns`). -/
theorem tableStepsComplete : Obligations.TableStepsComplete := by
  unfold Obligations.TableStepsComplete
  refine ⟨?lookup, ?learn, ?refresh, ?endLearn, ?endRefresh, ?order, ?expiry⟩
  case lookup =>
    rintro s p c u x tb i hi h hfrozen hb hkey htb hready hgrant hhook hclean a ha
    obtain ⟨rfl, -⟩ := h.place
    have hexec : exec i s = .next (lookupBucket s x (tblNo x) tb (tblFid x) (!tb.hot && bitOf 4 x.imm) false) := by
      rcases hi with ⟨rfl, rfl, hhot⟩ | ⟨rfl, rfl, hrld⟩
      · rw [hhot]; exact congrArg _ (lookupStep_reads h hfrozen hb hkey htb hready hhot hgrant hhook)
      · rw [hrld]; exact congrArg _ (lookupStep_reads h hfrozen hb hkey htb hready hrld hgrant hhook)
    have hrefresh : (!tb.hot && bitOf 4 x.imm) = true ↔ u = 5 ∧ bitOf 4 x.imm = true := by
      rcases hi with ⟨-, rfl, hhot⟩ | ⟨-, rfl, hrld⟩
      · simp [hhot]
      · simp [hrld]
    rw [hexec]
    cases hfind : findHit (fpOf s x.p) (tblNo x) (bucketOfHash tb (bits 31 0 x.bv)) (normKey tb (keyWords x.k x.w.srcA))
      (tblFid x)
    case none => rw [lookupBucket_miss hclean ha hfind]
    case some hit =>
      rw [lookupBucket_hit hclean ha hfind]
      simp only [hrefresh]
  case learn =>
    rintro s p c kind op x tb g result i w hi h hfrozen hb hkey htb hready hrld hkind hgrant hquota havail hroom hw
    obtain ⟨rfl, -⟩ := h.place
    have hmark : (x.b.p || keyPoisoned s x (tblNo x)) = false := by rw [hb, hkey]; rfl
    have hupd : updTable s x.p (tblNo x) (tblFid x) (some kind) = .ok tb :=
      updTable_ok htb hready hrld (.inr (by rw [hkind])) (by rw [hgrant]; rfl)
    rcases hi with ⟨rfl, rfl, rfl, rfl⟩ | ⟨rfl, rfl, rfl, hwords, rfl⟩
    · rw [exec_fwtLearn_tries h hfrozen hmark hupd, learnWrite_admitted hmark hgrant hquota havail hroom hw]
    · rw [exec_fwtWriteFlow_tries h hfrozen hmark hwords hupd, learnWrite_admitted hmark hgrant hquota havail hroom hw]
  case refresh =>
    intro s p c x tb h hfrozen hb hkey htb hready hrld hgrant hfree
    refine h.ends rfl ?_
    dsimp only
    rw [hb, hkey, Bool.or_self, unitGate_clean hfrozen (.inl rfl), updTable_ok htb hready hrld (.inl rfl) hgrant]
    dsimp only
    rw [hfree, if_neg (by decide)]
  case endLearn => exact fun s p n y _ hempty => endCycle_addCycle hempty _
  case endRefresh => exact fun s p t b o n key _ hempty => endCycle_addCycle hempty _
  case order =>
    intro s p m n y z _ hcycle hlt
    exact endCycle_reordered (by rw [hcycle, inRanks_learns y z hlt])
  case expiry =>
    intro s p t b l hp hl hover
    change execLockExpiry p t b s = _
    simp [execLockExpiry, hl, hp, hover]

end Sys2Proof.Machine

/-! PROOFS. The table commands of class 0x05 (O4), and the table that a destroy command leaves (O49). -/

namespace Sys2Proof.Machine

/-! ## The table commands (R154, R158, R181, R182, Table 5.7) -/

section TableCommands

variable {s b c : State} {m : Meta} {table owner pmask : Nat} {key : List Nat} {x : FTable}

/-- The parameters of a table in their ranges (R154). -/
theorem createTable_inRange {location kind bucketsLog2 keyLen ageLimit : Nat} (htable : table < 16) (hlog : 4 ≤ bucketsLog2)
    (hkey : 1 ≤ keyLen) (hkey' : keyLen ≤ 32)
    (hplace : (location = 0 ∧ kind ≤ 2 ∧ bucketsLog2 ≤ 23 ∧ ageLimit < 2 ^ 31) ∨
      (location = 1 ∧ kind = 0 ∧ bucketsLog2 ≤ 13 ∧ ageLimit = 0)) :
    firstBad [(0, table < 16), (1, location ≤ 1), (2, kind ≤ 2 && (location = 0 || kind = 0)),
      (3, 4 ≤ bucketsLog2 && bucketsLog2 ≤ (if location = 1 then 13 else 23)), (4, 1 ≤ keyLen && keyLen ≤ 32),
      (5, ageLimit < 2 ^ 31 && (location = 0 || ageLimit = 0))] = none := by
  refine firstBad_all ?_
  rcases hplace with ⟨rfl, hkind, hmax, hage⟩ | ⟨rfl, rfl, hmax, rfl⟩
  · simp [htable, hlog, hkey, hkey', hkind, hmax]
    exact hage
  · simp [htable, hlog, hkey, hkey', hmax]

/-- A command on a key of a ready table, whose bytes from key_len on are zero, acts on the key's bucket (R182). -/
theorem withKey_ready (htable : tableOf s table = some x) (hzero : (key.drop x.keyLen).all (fun v => v = 0) = true)
    (f : FTable → Nat → List Nat → CmdOut) :
    withKey s table key f = f x (bucketOf x (normKey x key)) (normKey x key) := by
  have hrest : (key.drop x.keyLen).any (fun v => v ≠ 0) = false := by simpa using hzero
  simp only [withKey, htable, hrest, Bool.false_eq_true, if_false]

/-- A lock on one of a table's buckets, in one of the pipelines named, locks the table. -/
theorem tableLocked_of_mem {ps : List Nat} {p : Nat} {e : Nat × Lock} (hp : p ∈ ps) (he : e ∈ (fpOf s p).locks)
    (htable : e.1 / 2 ^ 23 = table) : tableLocked s table ps = true :=
  List.any_eq_true.mpr ⟨p, hp, List.any_eq_true.mpr ⟨e, he, decide_eq_true htable⟩⟩

end TableCommands

/-- Settles O49: a bank that names the table, or a lock on one of its buckets, is what the command's own rules refuse for. -/
theorem namedTableIsKept : Obligations.NamedTableIsKept := by
  unfold Obligations.NamedTableIsKept
  intro s b m table h htable hthere hkept
  have hbusy : (bankNames b.seq.bankA table || bankNames b.seq.bankB table || tableLocked b table pipes) = true := by
    rcases hkept with hA | hB | ⟨p, hp, e, he, hkey⟩
    · simp [hA]
    · simp [hB]
    · rw [tableLocked_of_mem (ps := pipes) hp he hkey, Bool.or_true]
  refine cmd_no h (firstBad_all (by simp [htable])) ?_ (by decide)
  rw [Option.isNone_eq_false_iff.mpr hthere, if_neg (by decide), if_pos hbusy]

/-- Settles O4: each command's parameters are in range, and its own rules' checks hold by its clause's hypotheses. -/
theorem tableCommandsComplete : Obligations.TableCommandsComplete := by
  unfold Obligations.TableCommandsComplete
  refine ⟨?create, ?destroy, ?insert, ?delete, ?read, ?ageLimit, ?grant, ?flush⟩
  case create =>
    intro s b m table location kind bucketsLog2 keyLen ageLimit seed h htable hlog hkey hkey' hplace hfree
    have hrange : (location = 0 ∧ kind ≤ 2 ∧ bucketsLog2 ≤ 23 ∧ ageLimit < 2 ^ 31) ∨
        (location = 1 ∧ kind = 0 ∧ bucketsLog2 ≤ 13 ∧ ageLimit = 0) := by
      rcases hplace with ⟨hloc, hkind, hmax, hage, -⟩ | ⟨hloc, hkind, hmax, hage, -⟩
      · exact .inl ⟨hloc, hkind, hmax, hage⟩
      · exact .inr ⟨hloc, hkind, hmax, hage⟩
    refine cmd_bgUntil h (createTable_inRange htable hlog hkey hkey' hrange) ?_
    rcases hplace with ⟨rfl, -, -, -, hroom⟩ | ⟨rfl, -, -, -, hroom⟩
    · rw [hfree, if_neg (by decide), if_neg (by simpa using hroom), if_neg (by simp)]
    · rw [hfree, if_neg (by decide), if_neg (by simp), if_neg (by simpa using hroom)]
  case destroy =>
    intro s b m table x h htable hx hA hB hfree
    exact cmd_done h (firstBad_all (by simp [htable])) (by simp [hx, hA, hB, hfree])
  case insert =>
    rintro s b c m table owner key result noAge x h rfl htable howner hkey hresult hx hzero hroom hfree
    refine cmd_done h (firstBad_all (by simp [htable, howner, hkey, hresult])) ?_
    dsimp only
    rw [withKey_ready hx hzero, hroom, hfree]
    rfl
  case delete =>
    rintro s b c m table owner key x h rfl htable howner hkey hx hzero hfree
    refine cmd_ok h (firstBad_all (by simp [htable, howner, hkey])) ?_
    dsimp only
    rw [withKey_ready hx hzero, hfree]
    rfl
  case read =>
    intro s b m table owner key pmask x h htable howner hkey hmask hx hzero
    exact cmd_ok h (firstBad_all (by simp [htable, howner, hkey, hmask])) (withKey_ready hx hzero _)
  case ageLimit =>
    intro s b m table ageLimit x h htable hage hx hages
    refine cmd_done h (firstBad_all (by simpa [htable] using hage)) ?_
    have hok : (x.hot && decide (ageLimit ≠ 0)) = false := by
      rcases hages with hrld | hzero
      · rw [hrld, Bool.false_and]
      · simp [hzero]
    simp only [hx, hok, Bool.false_eq_true, if_false]
  case grant =>
    intro s b m fid table pmask maxEntries ovfReserve h hfid htable hmask hmax hreserve hfits
    refine cmd_done h (firstBad_all (by simpa [hfid, htable, hmask, hreserve] using hmax)) ?_
    simp only [hfits]
  case flush =>
    rintro s b c m table owner pmask x h rfl htable howner hmask hx hfree
    refine cmd_bgUntil h (firstBad_all (by simpa [htable, hmask] using howner)) ?_
    simp only [hx, hfree, Bool.false_eq_true, if_false]

end Sys2Proof.Machine

/-! PROOFS. The descriptors of a haul run, on memory and on tables (O24), and the selectors (O32). -/

namespace Sys2Proof.Machine

/-- Settles O32: each selector is a register of PF0, whose write acts where memory requests reach it. -/
theorem selectorsComplete : Obligations.SelectorsComplete := by
  unfold Obligations.SelectorsComplete
  intro s v hreach
  have hacts (t : State) : (.next (memWrite s 0 t) : Res) = .next t := congrArg _ (memWrite_reached hreach)
  exact ⟨hacts _, hacts _, ⟨_, hacts _⟩, hacts _, hacts _, hacts _, hacts _⟩

/-! ## The table operations of a run (R177 to R180) -/

section TableRuns

variable {s b c : State} {n fid p t k : Nat} {inp : HaulIn} {d : HDesc} {tb : FTable}

/-- A COPY whose source has been read writes it (R280, R281). -/
theorem exec_haulCopy_read (h : Hauls s b n 0x01 inp fid d) (htimeout : (copySource b d inp).2 ≠ .timeout)
    (herror : (copySource b d inp).2 ≠ .error) :
    exec (.haulCopy n inp) s = .next (afterOp
      (readObserver (haulWrite (readSource b fid d inp) n fid d.dst (copySource b d inp).1) d.src d.len) n fid d
      (if anyPoison (copySource b d inp).1 then .poisoned else .ok)) := by
  refine congrArg _ (runDesc_ends h ?_ (fun p => by split <;> simp))
  dsimp only
  rw [if_neg (by simp [htimeout, herror])]

/-- A TBL_READ of a clean bucket copies it (R177). -/
theorem exec_tblRead_copies (h : Hauls s b n 0x10 inp fid d) (haddr : tblAddr d.src.2 = (p, t, k))
    (hreach : tblReach b fid p t k = some tb) (hc : Reaches b c p t) (hclean : anyPoison (bucketImage c p t k) = false) :
    exec (.tblRead n inp) s = .next (afterOp (haulWrite c n fid d.dst (bucketImage c p t k)) n fid d .ok) := by
  refine congrArg _ (runDesc_ends h ?_ (by simp))
  simp only [haddr, hreach, withBucket_reaches hc, hclean, Bool.false_eq_true, if_false]

/-- A TBL_READ in a stopped RLDRAM domain waits for it (R35). -/
theorem exec_tblRead_waits {x : FTable} (h : Hauls s b n 0x10 inp fid d) (haddr : tblAddr d.src.2 = (p, t, k))
    (hreach : tblReach b fid p t k = some tb) (hx : tableOf b t = some x) (hrld : x.hot = false)
    (hstopped : domainRuns b (19 + p / 2) = false) : exec (.tblRead n inp) s = .next (touchRld s p) := by
  refine congrArg _ (runDesc_waits h (c := b) ?_)
  simp only [haddr, hreach, withBucket_stopped hx hrld hstopped]

/-- A TBL_LOCK_READ of an unlocked bucket locks and copies it, where the pipeline has room for a lock (R178). -/
theorem exec_tblLockRead_locks (h : Hauls s b n 0x11 inp fid d) (haddr : tblAddr d.src.2 = (p, t, k))
    (hreach : tblReach b fid p t k = some tb) (hc : Reaches b c p t) (hfree : isLocked (fpOf c p) t k = false)
    (hroom : (fpOf c p).locks.length < 256) :
    exec (.tblLockRead n inp) s = .next (afterOp (haulWrite (setFp c p { fpOf c p with
        locks := tset (fpOf c p).locks (bktKey t k) { holder := fid, at_ := c.now } }) n fid d.dst (bucketImage c p t k))
      n fid d (if anyPoison (bucketImage c p t k) then .poisoned else .ok)) := by
  refine congrArg _ (runDesc_ends h ?_ (fun p => by split <;> simp))
  have hadmits : ¬ (isLocked (fpOf c p) t k || decide (256 ≤ (fpOf c p).locks.length)) = true := by
    simp [hfree, Nat.not_le.mpr hroom]
  simp only [haddr, hreach, withBucket_reaches hc, if_neg hadmits]

/-- A TBL_WRITE_UNLOCK by the holder within its limit, whose image was read clean and passes its checks, writes it (R179). -/
theorem exec_tblWriteUnlock_writes {l : Lock} {fp : FPipe} (h : Hauls s b n 0x12 inp fid d)
    (haddr : tblAddr d.dst.2 = (p, t, k)) (hreach : tblReach b fid p t k = some tb) (hl : lockHeld b fid p t k = some l)
    (hin : lockOver b l = false) (hc : Reaches (endCycles b) c p t) (htimeout : (copySource c d inp).2 ≠ .timeout)
    (herror : (copySource c d inp).2 ≠ .error) (hclean : anyPoison (copySource c d inp).1 = false)
    (himage : writeImage (readSource c fid d inp) fid p t k tb (rawBytes (copySource c d inp).1) = .ok fp) :
    exec (.tblWriteUnlock n inp) s
      = .next (afterOp (unlockBucket (setFp (readSource c fid d inp) p fp) p t k) n fid d .ok) := by
  refine congrArg _ (runDesc_ends h ?_ (by simp))
  have hread : ¬ ((copySource c d inp).2 = .timeout ∨ (copySource c d inp).2 = .error) := by simp [htimeout, herror]
  simp only [haddr, hreach, hl, hin, withBucket_reaches hc, Bool.or_eq_true, decide_eq_true_eq, if_neg hread, hclean,
    himage, Bool.false_eq_true, if_false]

/-- A TBL_UNLOCK by the holder within its limit clears the lock (R180). -/
theorem exec_tblUnlock_clears {l : Lock} (h : Hauls s b n 0x13 inp fid d) (haddr : tblAddr d.dst.2 = (p, t, k))
    (hl : lockHeld b fid p t k = some l) (hin : lockOver b l = false) (hc : Reaches (endCycles b) c p t) :
    exec (.tblUnlock n inp) s = .next (afterOp (unlockBucket c p t k) n fid d .ok) := by
  refine congrArg _ (runDesc_ends h ?_ (by simp))
  simp only [haddr, hl, hin, withBucket_reaches hc, Bool.false_eq_true, if_false]

/-- A TBL_UNLOCK at the lock's limit or later is an overstay (R180). -/
theorem exec_tblUnlock_overstays {l : Lock} (h : Hauls s b n 0x13 inp fid d) (haddr : tblAddr d.dst.2 = (p, t, k))
    (hl : lockHeld b fid p t k = some l) (hover : lockOver b l = true) :
    exec (.tblUnlock n inp) s
      = .next (afterOp (lockOverstay b p t k l) n fid d (.fail .refusedState cHaulTblRefused)) := by
  refine congrArg _ (runDesc_ends h ?_ (by simp))
  simp only [haddr, hl, hover, if_true]

end TableRuns

/-- Settles O24: a descriptor that passes its checks does its operation (`runDesc_ends`), or waits for its memory. -/
theorem haulDescriptorsComplete : Obligations.HaulDescriptorsComplete := by
  unfold Obligations.HaulDescriptorsComplete
  intro s b n fid inp d
  refine ⟨?nop, exec_haulCopy_read, ?zero, ?read, ?wait, ?lockRead, ?writeUnlock, ?unlock⟩
  case nop => exact fun h => congrArg _ (runDesc_ends h rfl (by simp))
  case zero => exact fun h => congrArg _ (runDesc_ends h rfl (by simp))
  case read => exact fun p t k tb c => exec_tblRead_copies
  case wait => exact fun p t k tb x => exec_tblRead_waits
  case lockRead => exact fun p t k tb c => exec_tblLockRead_locks
  case writeUnlock => exact fun p t k tb l fp c => exec_tblWriteUnlock_writes
  case unlock => exact fun p t k l c h haddr hl => ⟨exec_tblUnlock_clears h haddr hl, exec_tblUnlock_overstays h haddr hl⟩

end Sys2Proof.Machine

/-! PROOFS. The port commands of class 0x01 (O9): each is accepted and in range, so that its own rules decide (Laws/Reply), and
a table that a command writes word by word reads back as it was written. -/

namespace Sys2Proof.Machine

/-! ## Tables written entry by entry -/

section TableWrites

variable {α β : Type} [DecidableEq α] {d : α} {key : β → Nat} {val : β → α} {l : List β} {t : Tbl α}

/-- Writes at other indices leave an index alone. -/
theorem tgetD_foldl_tput_of_notMem {i : Nat} (hi : i ∉ l.map key) :
    tgetD (l.foldl (fun t e => tput d t (key e) (val e)) t) i d = tgetD t i d := by
  induction l generalizing t with
  | nil => rfl
  | cons e l ih =>
    obtain ⟨hne, hrest⟩ : i ≠ key e ∧ i ∉ l.map key := by simpa using hi
    rw [List.foldl_cons, ih hrest, tgetD_tput_ne _ _ _ _ hne]

/-- After writes at different indices, each index holds what was written there. -/
theorem tgetD_foldl_tput {e : β} (ht : twf d t = true) (hkeys : (l.map key).Nodup) (he : e ∈ l) :
    tgetD (l.foldl (fun t e => tput d t (key e) (val e)) t) (key e) d = val e := by
  induction l generalizing t with
  | nil => exact absurd he List.not_mem_nil
  | cons a l ih =>
    obtain ⟨hfresh, hrest⟩ := List.nodup_cons.mp hkeys
    rw [List.foldl_cons]
    rcases List.mem_cons.mp he with rfl | hmem
    · rw [tgetD_foldl_tput_of_notMem hfresh, tgetD_tput_self (Bool.and_eq_true_iff.mp ht).1]
    · exact ih (twf_tput ht ..) hrest hmem

/-- Numbered words are their numbers with the words read by number. -/
theorem range_zip_eq_map {n : Nat} {words : List Nat} (h : words.length = n) :
    (List.range n).zip words = (List.range n).map (fun w => (w, words.getD w 0)) := by
  refine List.ext_getElem (by simp [h]) fun i hzip hmap => ?_
  have hi : i < words.length := by simpa [h] using hmap
  simp [hi]

/-- The words of a group filter read back (R196). -/
theorem tgetD_numberedWords {n w : Nat} {words : List Nat} (hlen : words.length = n) (hw : w < n) :
    tgetD (((List.range n).zip words).foldl (fun t e => tput 0 t e.1 (BitVec.ofNat 64 e.2)) ([] : Tbl W64)) w 0
      = BitVec.ofNat 64 (words.getD w 0) := by
  have hmem : (w, words.getD w 0) ∈ (List.range n).zip words := by
    rw [range_zip_eq_map hlen]
    exact List.mem_map_of_mem (f := fun w => (w, words.getD w 0)) (List.mem_range.mpr hw)
  have hkeys : (((List.range n).zip words).map Prod.fst).Nodup := by
    rw [List.map_fst_zip (by simp [hlen])]
    exact List.nodup_range
  exact tgetD_foldl_tput (key := Prod.fst) (val := fun e => BitVec.ofNat 64 e.2) rfl hkeys hmem

/-- The words of a table written in the order of their numbers read back. -/
theorem tgetD_foldl_range {n w : Nat} {val : Nat → α} (hw : w < n) :
    tgetD ((List.range n).foldl (fun t w => tput d t w (val w)) ([] : Tbl α)) w d = val w :=
  tgetD_foldl_tput (key := id) rfl (by simpa using List.nodup_range) (List.mem_range.mpr hw)

end TableWrites

/-! ## The port commands (R185 to R189, R196, R19, R214) -/

section PortCommands

variable {s b : State} {m : Meta} {port : Nat} {x : Block}

theorem withPort_of_block (h : portBlock s port = some x) (f : Block → CmdOut) : withPort s port f = f x := by
  rw [withPort, h]

theorem portOf_enablePort_enabled : (portOf (enablePort s port x) port).enabled = true := by simp [enablePort]

/-- A disable is in range for a port number, one of the three options, and a limit of 1 to 100 ms where it drains. -/
theorem disablePort_inRange {option limitMs : Nat} (hport : port < 8) (hoption : option ≤ 2)
    (hlimit : option ≠ 1 ∨ 1 ≤ limitMs ∧ limitMs ≤ 100) :
    firstBad [(0, port < 8), (1, option ≤ 2), (2, option ≠ 1 || (1 ≤ limitMs && limitMs ≤ 100))] = none :=
  firstBad_all (by simpa [hport, hoption] using hlimit)

/-- A select table of 128 entries below 4, whose field masks name fields that there are, is in range (Table 14.19). -/
theorem selectTable_inRange {fields : Nat} {entries : List Nat} (hport : port < 8) (hfields : fields < 2 ^ 32)
    (hip : bits 15 10 fields = 0) (hnonIp : bits 31 20 fields = 0) (hlen : entries.length = 128)
    (hentries : entries.all (fun v => v < 4) = true) :
    firstBad [(0, port < 8), (1, fields < 2 ^ 32 && bits 15 10 fields = 0 && bits 31 20 fields = 0),
      (2, entries.length = 128 && entries.all (fun v => v < 4))] = none := by
  simp only [hport, hfields, hip, hnonIp, hlen, hentries]
  rfl

/-- A drain that finds no frame left, and none on the wire, disables the port. -/
theorem exec_portDrainEnd_drained {c : BgCmd} (hc : bgOf s [0x0124] (.port port) = some c)
    (hempty : (portOf s port).queued = []) (hend : (portOf s port).txEnd ≤ s.now) :
    exec (.portDrainEnd port) s = .next (endBg (disablePort s port) c { status := .done } false) := by
  change execPortDrainEnd port s = _
  simp [execPortDrainEnd, hc, hempty, hend]

/-- A drain that finds frames left at its limit ends REFUSED_BUSY with their number and bytes. -/
theorem exec_portDrainEnd_limit {c : BgCmd} (hc : bgOf s [0x0124] (.port port) = some c) (hlimit : c.deadline ≤ s.now)
    (hleft : (portOf s port).queued ≠ [] ∨ s.now < (portOf s port).txEnd) :
    exec (.portDrainEnd port) s = .next (endBg s c { status := .refusedBusy, results :=
      [.num 4 (portOf s port).queued.length,
        .num 4 ((portOf s port).queued.map (fun f => f.bytes.length)).sum] } false) := by
  have hgoes : ¬ ((portOf s port).queued = [] ∧ (portOf s port).txEnd ≤ s.now) := by
    rintro ⟨hempty, hend⟩
    rcases hleft with hqueued | hflies
    · exact hqueued hempty
    · omega
  change execPortDrainEnd port s = _
  simp [execPortDrainEnd, hc, hlimit, hgoes]

/-- A module transfer fails on a bus that is down, or by its module, or ends with the module's bytes (R214). -/
theorem exec_moduleTransfer_ends {cage dir dev off len : Nat} {data : List Nat} {ack : Bool}
    (h : Starts s b m 0x0127 [.cage cage] false) (hcage : cage < 2) (hdir : dir ≤ 1) (hdev : dev < 128) (hoff : off < 256)
    (hpos : 1 ≤ len) (hlen : len ≤ 128) :
    exec (.moduleTransfer m cage dir dev off len data ack) s =
      if (cageOf b cage).busDown then bgIn s m 0x0127 [.cage cage] b (some { status := .failedTimeout }) b.now
      else if ack then
        bgIn s m 0x0127 [.cage cage]
          (setCage (emit b (.sideband cage dir dev off len (if dir = 1 then data.take len else []))) cage
            { cageOf b cage with noAck := false })
          (some { status := .done, results := if dir = 0 then [.bytes (data.take len)] else [] }) b.now
      else
        bgIn s m 0x0127 [.cage cage]
          (cageEvent (emit b (.sideband cage dir dev off len (if dir = 1 then data.take len else []))) cage
            { cageOf b cage with noAck := true })
          (some { status := .failedTimeout }) b.now := by
  have hrange : firstBad [(0, cage < 2), (1, dir ≤ 1), (2, dev < 128), (3, off < 256), (4, 1 ≤ len && len ≤ 128)] = none :=
    firstBad_all (by simp [hcage, hdir, hdev, hoff, hpos, hlen])
  split
  next hdown => exact cmd_bgUntil h hrange (if_pos hdown)
  next hup =>
    split
    next hack => exact cmd_bgUntil h hrange (by simp only [hup, hack]; rfl)
    next hnoAck => exact cmd_bgUntil h hrange (by simp only [hup, hnoAck]; rfl)

end PortCommands

/-- Settles O9: each command's parameters are in range, and its own rules' checks hold by its clause's hypotheses. -/
theorem portCommandsComplete : Obligations.PortCommandsComplete := by
  unfold Obligations.PortCommandsComplete
  refine ⟨?layout, ?paramsStaged, ?params, ?withdraw, ?enable, ?enableNoBank, ?disable, ?flush, ?drain, ?drained, ?limit,
    ?filter, ?select, ?transfer⟩
  case layout =>
    intro s b m types h htypes
    refine cmd_done h (firstBad_all (by simp [htypes])) ?_
    split <;> rfl
  case paramsStaged =>
    intro s b m q h hbad hin hstage hlive
    rw [hstage] at hin
    exact cmd_done h hbad (by simp [hin, hstage, hlive])
  case params =>
    intro s b m q h hbad hin hnow hraises
    have hnotStaged : ¬ (q.stage = 1 ∧ bankLive b = true) := fun ⟨hstage, hlive⟩ => by simp [hstage, hlive] at hnow
    exact cmd_done h hbad (by simp [hin, hnotStaged, hraises])
  case withdraw =>
    intro s b m h hstaged
    have hsome : ¬ (b.mac.staged.isNone && b.mac.stagedParams.isEmpty) = true := by
      rcases hstaged with hlayout | hparams
      · simp [Option.isSome_iff_ne_none.mp hlayout]
      · simp [hparams]
    exact cmd_done h rfl (if_neg hsome)
  case enable =>
    intro s b m port x h hport hx hbank
    exact ⟨cmd_done h (firstBad_all (by simp [hport])) (by simp [withPort_of_block hx, Option.isSome_iff_ne_none.mp hbank]),
      portOf_enablePort_enabled⟩
  case enableNoBank =>
    intro s b m port x h hport hx hbank
    exact cmd_no h (firstBad_all (by simp [hport])) (by simp [withPort_of_block hx, hbank]) (by decide)
  case disable =>
    intro s b m port limitMs x h hport hx hempty
    exact cmd_done h (disablePort_inRange hport (by decide) (.inl (by decide))) (by simp [withPort_of_block hx, hempty])
  case flush =>
    intro s b m port limitMs x h hport hx
    exact cmd_done h (disablePort_inRange hport (by decide) (.inl (by decide))) (by simp [withPort_of_block hx])
  case drain =>
    intro s b m port limitMs x h hport hpos hmax hx
    exact cmd_bgOpen h (disablePort_inRange hport (by decide) (.inr ⟨hpos, hmax⟩)) (by simp [withPort_of_block hx])
  case drained => exact fun s port c => exec_portDrainEnd_drained
  case limit => exact fun s port c => exec_portDrainEnd_limit
  case filter =>
    intro s b m port words grpAll x h hport hlen hall hx
    exact ⟨_, cmd_done h (firstBad_all (by simp [hport, hlen, hall])) (withPort_of_block hx _),
      fun w => tgetD_numberedWords hlen⟩
  case select =>
    intro s b m port fields entries x h hport hfields hip hnonIp hlen hentries hx
    exact ⟨_, cmd_done h (selectTable_inRange hport hfields hip hnonIp hlen hentries) (withPort_of_block hx _),
      fun w => tgetD_foldl_range⟩
  case transfer => exact fun s b m cage dir dev off len data ack => exec_moduleTransfer_ends

end Sys2Proof.Machine

/-! PROOFS. The events of ports, TIME and cages (O26), and those of lanes and links (O27): each acts where its own condition
holds, which the statement's hypotheses give. -/

namespace Sys2Proof.Machine

/-! ## Frames and flow control (R190 to R206) -/

section Ports

variable {s t : State} {port prio : Nat} {b : Block}

/-- A frame at a port that is enabled, with its link up, goes the first way of Table 6.3 that is its. -/
theorem exec_frameReceived_goes {bytes : List Nat} {pcsError : Bool} {fec : Fec} (hb : portBlock s port = some b)
    (henabled : (portOf s port).enabled = true) (hlink : (portOf s port).link = true)
    (ht : t = countRx (countFec s port fec) port bytes pcsError) :
    exec (.frameReceived port bytes pcsError fec) s = .next (
      if bytes.length < 64 then count t 0xFFF (if pcsError then cRxAborted port else cRxRunt port)
      else if groupRejected (portOf s port) bytes = true then count t 0xFFF (cRxGroupFiltered port)
      else if beAt bytes 12 2 = 0x8808 then controlFrame t port b.gbps bytes
      else storeFrame t port b.gbps bytes pcsError) := by
  subst ht
  change execFrameReceived port bytes pcsError fec s = _
  simp only [execFrameReceived, hb, henabled, hlink]
  rfl

theorem exec_pfcPauseEnd_unpauses {e : Nat} (he : tget (portOf s port).pauseEnd prio = some e) (hover : e ≤ s.now) :
    exec (.pfcPauseEnd port prio) s = .next (setPort s port ((portOf s port).unpause prio e)) := by
  change execPfcPauseEnd port prio s = _
  simp only [execPfcPauseEnd, he, if_pos hover]

theorem exec_pfcSend_sends {time : Nat} (hprio : prio < 8) (hb : pfcOpen s port = some b)
    (hdue : pfcDue s port prio = some time) :
    exec (.pfcSend port prio) s = .next (sendPfc s port prio time b) := by
  change execPfcSend port prio s = _
  simp only [execPfcSend, hb, hdue, if_pos hprio]

/-- A PFC frame that went is due again while the count is at xon or above and half of quanta has elapsed (R206). -/
theorem resendDue_of_sent {sent : Nat} (hsent : tget (portOf s port).pfcSent prio = some sent)
    (hxon : (portOf s port).xon ≤ prioCells s port prio)
    (hhalf : (portOf s port).quanta * 256 ≤ (s.now - sent) * b.gbps) : resendDue s port prio b = true := by
  simp [resendDue, hsent, hxon, hhalf]

theorem exec_pfcResend_sends (hb : pfcOpen s port = some b) (hdue : resendDue s port prio b = true) :
    exec (.pfcResend port prio) s = .next (sendPfc s port prio (portOf s port).quanta b) := by
  change execPfcResend port prio s = _
  simp only [execPfcResend, hb, if_pos hdue]

/-- At a frame boundary with no PFC frame due, the oldest frame of the class that is next leaves (R200, R206). -/
theorem exec_transmitFrameStart_starts {c : Nat} {f : TxFrame} {rest : List TxFrame} (hb : portBlock s port = some b)
    (henabled : (portOf s port).enabled = true) (hlink : (portOf s port).link = true)
    (hboundary : (portOf s port).txEnd ≤ s.now)
    (hpfc : (portOf s port).fcMode ≠ 1 ∨ ∀ p < 8, pfcDue s port p = none ∧ resendDue s port p b = false)
    (hnext : (portOf s port).nextClass s.now = some c) (hq : ((portOf s port).cls c).q = f :: rest) :
    exec (.transmitFrameStart port) s = .next (startFrame s port c b f) := by
  have hnoPfc : ¬ ((portOf s port).fcMode = 1 ∧
      (List.range 8).any (fun p => (pfcDue s port p).isSome || resendDue s port p b) = true) := by
    rintro ⟨hmode, hany⟩
    obtain ⟨p, hp, hdue⟩ := List.any_eq_true.mp hany
    obtain ⟨hnone, hfalse⟩ := hpfc.resolve_left (not_not_intro hmode) p (List.mem_range.mp hp)
    simp [hnone, hfalse] at hdue
  have hstarts : (!(portOf s port).enabled || !(portOf s port).link || decide (s.now < (portOf s port).txEnd) ||
      (decide ((portOf s port).fcMode = 1) &&
        (List.range 8).any (fun p => (pfcDue s port p).isSome || resendDue s port p b))) = false := by
    simpa [henabled, hlink, Nat.not_lt.mpr hboundary] using hnoPfc
  change execTransmitFrameStart port s = _
  simp only [execTransmitFrameStart, hb, hstarts, hnext, hq, Bool.false_eq_true, if_false]

theorem exec_txtsTagRead_removes {off size : Nat} {e : TxStamp} {rest : List TxStamp} (hreach : memReach s 0 = true)
    (hstamps : (portOf s port).txts = e :: rest) (hb : (portBlock s port).isSome = true) (hoff : off ≤ 6)
    (hcovers : 6 < off + size) (hsize : size ≤ 8) :
    exec (.txtsTagRead port off size) s
      = .next (setPort s port { portOf s port with txts := rest, txtsNs := e.ns }) := by
  change execTxtsTagRead port off size s = _
  simp [execTxtsTagRead, memWrite_reached hreach, hstamps, hb, hoff, hcovers, hsize]

end Ports

/-! ## TIME (R209, R211, R511) -/

section Time

variable {s : State}

theorem exec_macTimeStepWrite_steps {v : Nat} (hreach : memReach s 0 = true) (hruns : s.mac.timeRunning = true) :
    exec (.macTimeStepWrite v) s = .next (logEvent { s with mac := { s.mac with
      timeNs := s.mac.timeNs + BitVec.ofNat 64 v, stepCount := (s.mac.stepCount + 1) % 65536 } }
      0x0042 0xFFF [.num 8 (v % 2 ^ 64)]) := by
  change execMacTimeStepWrite v s = _
  simp [execMacTimeStepWrite, memWrite_reached hreach, hruns]

/-- An edge is captured where none was captured within the 100 ms before it (R511). -/
theorem exec_ppsInputEdge_captures (hlast : ∀ t, s.mac.ppsAt = some t → 100000000 ≤ s.now - t) :
    exec .ppsInputEdge s = .next { s with mac := { s.mac with
      ppsNs := timeNow s, ppsFrac := timeFrac s, ppsSeen := true, ppsAt := some s.now } } := by
  have hfar : s.mac.ppsAt.any (fun t => s.now - t < 100000000) = false := by
    cases hat : s.mac.ppsAt with
    | none => rfl
    | some t => simpa using hlast t hat
  change execPpsInputEdge s = _
  simp only [execPpsInputEdge, hfar, Bool.false_eq_true, if_false]

theorem exec_ppsInputEdge_early {t : Nat} (hat : s.mac.ppsAt = some t) (hnear : s.now - t < 100000000) :
    exec .ppsInputEdge s = .next s := by
  change execPpsInputEdge s = _
  simp [execPpsInputEdge, hat, hnear]

theorem exec_ppsOutput_goesHigh (hruns : s.mac.timeRunning = true) (hsecond : timeNow s % 1000000000 = 0) :
    exec .ppsOutput s = .next { s with mac := { s.mac with ppsOutUntil := s.now + 100000000 } } := by
  change execPpsOutput s = _
  simp [execPpsOutput, hruns, hsecond]

end Time

/-! ## Cages (R214, Table 6.7) -/

section Cages

variable {s : State} {cage : Nat}

/-- An interrupt is counted where INT_N is not stuck, or none was counted before. -/
theorem exec_cageInterrupt_counts (hcage : cage < 2)
    (hfree : (cageOf s cage).intStuck = false ∨ (cageOf s cage).lastInt = none) :
    exec (.cageInterrupt cage) s = .next (setCage s cage { cageOf s cage with
      intAsserted := true, intEvents := (cageOf s cage).intEvents + 1, lastInt := some s.now }) := by
  change execCageInterrupt cage s = _
  have hin : ¬ 2 ≤ cage := Nat.not_le.mpr hcage
  rcases hfree with hstuck | hnone
  · cases hlast : (cageOf s cage).lastInt <;> simp [execCageInterrupt, hin, hstuck, hlast]
  · simp [execCageInterrupt, hin, hnone]

end Cages

/-- Settles O26: each event's condition holds by its clause's hypotheses, so that what the event does is its effect. -/
theorem portRowsComplete : Obligations.PortRowsComplete := by
  unfold Obligations.PortRowsComplete
  refine ⟨fun s t port bytes pcsError fec b => exec_frameReceived_goes, fun s port prio e => exec_pfcPauseEnd_unpauses,
    fun s port prio t b => exec_pfcSend_sends, ?resend, fun s port c b f rest => exec_transmitFrameStart_starts,
    fun s port off size e rest => exec_txtsTagRead_removes, fun s v => exec_macTimeStepWrite_steps, ?latch,
    fun s => exec_ppsInputEdge_captures, fun s t => exec_ppsInputEdge_early, fun s => exec_ppsOutput_goesHigh, ?fault,
    ?clear, fun s cage => exec_cageInterrupt_counts⟩
  case resend => exact fun s port prio t b hb hsent hxon hhalf => exec_pfcResend_sends hb (resendDue_of_sent hsent hxon hhalf)
  case latch => exact fun s hreach => congrArg _ (memWrite_reached hreach)
  -- Every kind of fault, and of its end, stands behind the check that the part has the cage.
  case fault =>
    intro s cage hcage
    and_intros <;> exact congrArg _ (if_neg (Nat.not_le.mpr hcage))
  case clear =>
    intro s cage hcage
    and_intros <;> exact congrArg _ (if_neg (Nat.not_le.mpr hcage))

/-! ## Lanes and links (R184, R204, R212, R213, Table 6.6) -/

section Lanes

variable {s t u : State} {lane code port : Nat} {b : Block} {lanes : List LaneStart}

/-- A fault of a lane that is watched is recorded and logged, and what the lane serves goes down (R212). -/
theorem exec_laneFault_records (hlane : lane ≤ 10) (hpos : 1 ≤ code) (hmax : code ≤ 3)
    (hwatched : 8 ≤ lane ∨ (portOfLane s lane).isSome = true)
    (ht : t = setLaneReg s lane ((macLane s lane).withFault code))
    (hreports : ∀ n, portOfLane t lane = some n → code ≠ 3 → u = reportFault t n true)
    (hsilent : portOfLane t lane = none ∨ code = 3 → u = t) :
    exec (.laneFault lane code) s = .next (logEvent (laneDown u lane) 0x0040 0xFFF [.num 1 lane, .num 1 code]) := by
  have hacts : (!isLane lane || decide (code = 0) || decide (3 < code) ||
      (decide (lane < 8) && (portOfLane s lane).isNone)) = false := by
    have hcode : code ≠ 0 ∧ ¬ 3 < code := by omega
    rcases hwatched with htwin | hport
    · simp [isLane, hlane, hcode, Nat.not_lt.mpr htwin]
    · simp [isLane, hlane, hcode, Option.isNone_eq_false_iff.mpr hport]
  change execLaneFault lane code s = _
  simp only [execLaneFault, hacts, ← ht, Bool.false_eq_true, if_false]
  cases hport : portOfLane t lane with
  | none => simp only [hsilent (.inl hport)]
  | some n =>
    by_cases hcode : code = 3
    · simp only [if_pos hcode, hsilent (.inr hcode)]
    · simp only [if_neg hcode, hreports n hport hcode]

/-- A lane in no port is powered down and finds no fault (R184). -/
theorem exec_laneFault_unwatched (hlane : lane < 8) (hport : portOfLane s lane = none) :
    exec (.laneFault lane code) s = .next s := by
  change execLaneFault lane code s = _
  simp [execLaneFault, hlane, hport]

theorem exec_laneFaultClear_clears (hlane : lane ≤ 10) (hcode : code = 1 ∨ code = 2)
    (hfault : (macLane s lane).fault = code) :
    exec (.laneFaultClear lane code) s = .next (setLaneReg s lane { macLane s lane with
      fault := if (macLane s lane).driverOff then 3 else 0, signal := (macLane s lane).signal || code = 1 }) := by
  change execLaneFaultClear lane code s = _
  rcases hcode with rfl | rfl <;> simp [execLaneFaultClear, isLane, hlane, hfault]

/-- A port trains that is enabled, without a link and without a fault on its lanes. -/
theorem exec_linkUp_startsPort (hport : port < 8) (hb : portBlock s port = some b)
    (henabled : (portOf s port).enabled = true) (hdown : (portOf s port).link = false)
    (hlanes : ∀ l ∈ blockLanes b, (macLane s l).fault = 0) :
    exec (.linkUp port lanes) s = .next (startPort s port b lanes) := by
  have hnetwork : port ≠ 8 := by omega
  change execLinkUp port lanes s = _
  simpa [execLinkUp, hnetwork, hb, henabled, hdown] using fun l hl hfault => absurd (hlanes l hl) hfault

theorem exec_linkUp_startsTwin (henabled : s.twn.enabled = true) (hdown : s.twn.link ≤ 1) (hruns : domainRuns s 9 = true)
    (hlanes : twinLanesOk s = true) : exec (.linkUp 8 lanes) s = .next (startTwin s lanes) := by
  change execLinkUp 8 lanes s = _
  simp [execLinkUp, henabled, hdown, hruns, hlanes]

theorem exec_linkDown_loses (hb : (portBlock s port).isSome = true) (hup : (portOf s port).link = true) :
    exec (.linkDown port) s = .next (linkChanged (linkDownPort s port) port) := by
  change execLinkDown port s = _
  simp only [execLinkDown, hb, hup, Bool.and_self, if_true]

end Lanes

/-- Settles O27: each event's condition holds by its clause's hypotheses, so that what the event does is its effect. -/
theorem laneRowsComplete : Obligations.LaneRowsComplete := by
  unfold Obligations.LaneRowsComplete
  exact ⟨fun s t u lane code => exec_laneFault_records, fun s lane code => exec_laneFault_unwatched,
    fun s lane code => exec_laneFaultClear_clears, fun s port b lanes => exec_linkUp_startsPort,
    fun s lanes => exec_linkUp_startsTwin, fun s port => exec_linkDown_loses⟩

end Sys2Proof.Machine

/-! PROOFS. An idle step (O41): what a nanosecond of the part's clocks leaves of TIME, the rings and the cipher SAs. -/

namespace Sys2Proof.Machine

/-! ## The clock domain of TIME (R33, R34, R209) -/

section TimeDomain

variable {s t : State} {d : Nat}

theorem domOf_of_only (h : Only 0x3feffff s t) (d : Nat) : domOf t d = domOf s d := by
  rw [domOf, (h.same .alm).resolve_left (of_decide_eq_false rfl), domOf]

/-- No domain depends on that of TIME. -/
theorem notMem_domDeps_time (d : Nat) : 24 ∉ domDeps d := by
  unfold domDeps
  repeat' split
  all_goals decide

/-- The start of another domain, and of what that depends on, leaves the domain of TIME as it is. -/
theorem domOf_time_startDeps (n : Nat) (s : State) (hd : d ≠ 24) : domOf (startDeps n s d) 24 = domOf s 24 := by
  induction n generalizing s d with
  | zero => rfl
  | succ n ih =>
    rw [startDeps]
    repeat' split
    · rfl
    · exact domOf_setDom_ne _ _ hd.symm
    · refine List.foldlRecOn _ _ (motive := fun u => domOf u 24 = domOf s 24) (domOf_setDom_ne _ _ hd.symm) ?_
      intro u hu e he
      have hne : e ≠ 24 := fun h => notMem_domDeps_time d (h ▸ he)
      rw [ih u hne, hu]

theorem domOf_time_askStart (s : State) (hd : d ≠ 24) : domOf (askStart s d) 24 = domOf s 24 := by
  rw [askStart]
  repeat' split
  · rfl
  · rfl
  · exact domOf_time_startDeps 3 s hd

/-- The domain of TIME is none of those with an idle limit. -/
theorem domOf_time_watchIdle (s : State) : domOf (watchIdle s) 24 = domOf s 24 := by
  refine List.foldlRecOn _ _ (motive := fun u => domOf u 24 = domOf s 24) rfl fun u hu d hd => ?_
  have hne : d ≠ 24 := fun h => absurd (h ▸ hd) (by decide)
  rw [← hu]
  dsimp only
  repeat' split
  · exact domOf_time_askStart u hne
  · rfl
  · rfl
  · exact domOf_setDom_ne _ _ hne.symm
  · exact domOf_setDom_ne _ _ hne.symm
  · rfl

/-- The domain of TIME is none of those that may be powered down. -/
theorem domOf_time_watchDrains (s : State) : domOf (watchDrains s) 24 = domOf s 24 := by
  refine List.foldlRecOn _ _ (motive := fun u => domOf u 24 = domOf s 24) rfl fun u hu d hd => ?_
  have hne : d ≠ 24 := fun h => absurd (h ▸ hd) (by decide)
  rw [← hu]
  dsimp only
  repeat' split
  · exact domOf_setDom_ne _ _ hne.symm
  · rfl

/-- What comes before the advance of TIME in a nanosecond leaves the domain of TIME as it is. -/
theorem domOf_time_watched (u : State) (n : Nat) :
    domOf { watchIdle (logStocks (watchDrains (watchQuiesces (endCycles u)))) with now := n } 24 = domOf u 24 := by
  calc domOf { watchIdle (logStocks (watchDrains (watchQuiesces (endCycles u)))) with now := n } 24
      = domOf (watchIdle (logStocks (watchDrains (watchQuiesces (endCycles u))))) 24 := domOf_of_only (by simp) 24
    _ = domOf (logStocks (watchDrains (watchQuiesces (endCycles u)))) 24 := domOf_time_watchIdle _
    _ = domOf (watchDrains (watchQuiesces (endCycles u))) 24 := domOf_of_only (by simp) 24
    _ = domOf (watchQuiesces (endCycles u)) 24 := domOf_time_watchDrains _
    _ = domOf u 24 := domOf_of_only (by simp) 24

end TimeDomain

/-! ## The advance of TIME (R209) -/

section Advance

variable {s t : State}

/-- TIME advances by what it was, and by whether its domain runs. -/
theorem runTime_mac_congr (hmac : t.mac = s.mac) (hdom : domOf t 24 = domOf s 24) : (runTime t).mac = (runTime s).mac := by
  unfold runTime
  rw [hmac, hdom]
  split
  · exact hmac
  · rfl

theorem runTime_mac_runs (hruns : s.mac.timeRunning = true) (hdom : (domOf s 24).running = true) :
    (runTime s).mac = { s.mac with
      timeNs := s.mac.timeNs + BitVec.ofNat 64 ((s.mac.timeSub + timeGain s.mac.freqAdj) / 2 ^ 32)
      timeSub := (s.mac.timeSub + timeGain s.mac.freqAdj) % 2 ^ 32 } := by
  simp [runTime, hruns, hdom]

theorem runTime_of_stopped (h : s.mac.timeRunning = false ∨ (domOf s 24).running = false) : runTime s = s := by
  refine if_pos ?_
  rcases h with h | h <;> simp [h]

end Advance

/-! ## The cipher SAs (R264, R379) -/

section Sas

variable {s v : State}

theorem drainTwin_of_empty (h : s.twn.rxq = []) : drainTwin s = s := by rw [drainTwin, h]

theorem drawKek_sas (s : State) : (drawKek s).cip.sas = s.cip.sas := by
  unfold drawKek
  split <;> rfl

theorem renewKek_sas (s : State) : (renewKek s).cip.sas = s.cip.sas := by
  unfold renewKek
  split
  · exact drawKek_sas s
  · rfl

/-- Where no frame waits behind a mirrored command, nothing after the advance of TIME touches an SA. -/
theorem sas_afterTime (h : v.twn.rxq = []) :
    (beginRestart (drainTwin (renewKek (drainSvc (noteExport s (calRun v)))))).cip.sas = v.cip.sas := by
  have hcounted : (drainSvc (noteExport s (calRun v))).cip = v.cip := Only.eq (m := 0x90011) (by simp) .cip (by decide)
  have htwin : (renewKek (drainSvc (noteExport s (calRun v)))).twn = v.twn :=
    Only.eq (m := 0x290811) (by simp) .twn (by decide)
  have hrestart (w : State) : (beginRestart w).cip = w.cip := Only.eq (m := 0x40002) (by simp) .cip (by decide)
  rw [hrestart, drainTwin_of_empty (by rw [htwin, h]), renewKek_sas, hcounted]

end Sas

/-! ## A nanosecond with no command waiting -/

section Nanosecond

variable {s : State}

/-- The ports and TIME after a nanosecond are as the advance of TIME leaves them. -/
theorem tickNs_mac (s : State) : (tickNs s).mac = (runTime (endSaWaits s)).mac := by
  have hafter (u : State) : (beginRestart (drainTwin (renewKek (drainSvc (noteExport s (calRun u)))))).mac = u.mac :=
    Only.eq (m := 0x2da833) (by simp) .mac (by decide)
  rw [tickNs, hafter]
  exact runTime_mac_congr (Only.eq (m := 0x13011d) (by simp) .mac (by decide)) (domOf_time_watched _ _)

/-- The cipher SAs after a nanosecond in which no frame waits behind a mirrored command. -/
theorem tickNs_sas (h : (endSaWaits s).twn.rxq = []) : (tickNs s).cip.sas = (endSaWaits s).cip.sas := by
  have hbefore (u : State) (n : Nat) : Only 0x13031d u
      (runTime { watchIdle (logStocks (watchDrains (watchQuiesces (endCycles u)))) with now := n }) := by simp
  rw [tickNs, sas_afterTime (by rw [(hbefore _ _).eq .twn (by decide), h]), (hbefore _ _).eq .cip (by decide)]

theorem tickNs_qm (s : State) : (tickNs s).qm = (endSaWaits s).qm :=
  Only.eq (m := 0x3fffbf) (by simp [tickNs]) .qm (by decide)

theorem tickNs_now (s : State) : (tickNs s).now = s.now + 1 := by
  have hafter (u : State) : (beginRestart (drainTwin (renewKek (drainSvc (noteExport s (calRun (runTime u))))))).now = u.now :=
    Only.eq (m := 0x2dab33) (by simp) .now (by decide)
  have hbefore : (logStocks (watchDrains (watchQuiesces (endCycles (endSaWaits s))))).now = s.now :=
    Only.eq (m := 0x2efffff) (by simp) .now (by decide)
  rw [tickNs, hafter, hbefore]

/-- A reply waits for records only where a command is in the foreground. -/
theorem endSaWaits_of_none (h : s.stw.fore = []) : endSaWaits s = s := by rw [endSaWaits, h, List.foldl_nil]

end Nanosecond

/-- Settles O41: TIME advances in its own step of the nanosecond, and what comes before and after it touches neither TIME nor
its domain (`tickNs_mac`). -/
theorem idleStepPassesTime : Obligations.IdleStepPassesTime := by
  unfold Obligations.IdleStepPassesTime
  intro s hidle
  have honly : Only 0x3ffbff s (tickNs s) := by simp
  refine ⟨tickNs s, endSaWaits s, by rw [Machine.step, hidle], tickNs_now s, (honly.eq .pending (by decide)).trans hidle,
    honly.eq .fuses (by decide), rfl, endSaWaits_of_none, ?runs, ?stands, tickNs_qm s, tickNs_sas⟩
  case runs =>
    intro hruns hdomain
    rw [tickNs_mac, runTime_mac_runs hruns hdomain]
    exact ⟨rfl, rfl⟩
  case stands => exact fun hstopped => by rw [tickNs_mac, runTime_of_stopped hstopped]

end Sys2Proof.Machine

/-! PROOFS. The switching commands of Table 7.8 (O8): each is accepted and in range, so that its own rules decide
(Laws/Reply). -/

namespace Sys2Proof.Machine

/-! ## Policers (R236) and mirror sessions (R233) -/

section SwitchCommands

variable {b : State} {fid policer rate ilog burst session window snapLen sampleN : Nat} {crossTenant : Bool}

/-- A policer's number, owner, rate, interval and burst are in range as Table 7.8 has them. -/
theorem policer_inRange (hpolicer : policer < 16384) (hfid : isFn fid = true ∨ fid = 0xFFF) (hrate : rate < 2 ^ 24)
    (hilog : 8 ≤ ilog ∧ ilog ≤ 20) (hburst : 64 ≤ burst) (hburst' : burst < 2 ^ 24) :
    firstBad [(0, policer < 16384), (1, isFn fid || fid = 0xFFF), (2, rate < 2 ^ 24), (3, 8 ≤ ilog && ilog ≤ 20),
      (4, 64 ≤ burst && burst < 2 ^ 24)] = none :=
  firstBad_all (by simpa [hpolicer, hilog, hburst] using ⟨hfid, hrate, hburst'⟩)

/-- The part's own policers, of FID 0xFFF, have no cap (log entry 64), and a function has room below its own. -/
theorem policerCap_leaves_room (h : fid = 0xFFF ∨ policersOf b fid policer < (fnOf b fid).policers) :
    (isFn fid && decide ((fnOf b fid).policers ≤ policersOf b fid policer)) = false := by
  rcases h with rfl | hroom
  · rfl
  · rw [decide_eq_false (Nat.not_le.mpr hroom), Bool.and_false]

/-- A mirror session's number, target, window, snap length and sampling are in range as Table 7.8 has them. -/
theorem mirrorSession_inRange (hsession : session < 64) (hfid : isFn fid = true) (hwindow : window < 256)
    (hsnap : snapLen = 0 ∨ (64 ≤ snapLen ∧ snapLen ≤ 9216)) (hsample : 1 ≤ sampleN ∧ sampleN ≤ 65535) :
    firstBad [(0, session < 64), (1, isFn fid), (2, window < 256), (3, snapLen = 0 || (64 ≤ snapLen && snapLen ≤ 9216)),
      (4, 1 ≤ sampleN && sampleN ≤ 65535)] = none :=
  firstBad_all (by simpa [hsession, hfid, hwindow, hsample] using hsnap)

/-- A target that is neither PF0 nor PF1 is permitted with cross_tenant (R233). -/
theorem mirrorTarget_permitted (h : isVf fid = false ∨ crossTenant = true) : (isVf fid && !crossTenant) = false := by
  rcases h with hpf | hcross
  · rw [hpf, Bool.false_and]
  · rw [hcross, Bool.not_true, Bool.and_false]

end SwitchCommands

/-- Settles O8: each command's parameters are in range, and its own rules' checks hold by its clause's hypotheses. A replaced
session's fresh calls and counts, the FID of event 0x0051 and the absent cap of FID 0xFFF are the model's (log entry 64). -/
theorem switchCommandsComplete : Obligations.SwitchCommandsComplete := by
  unfold Obligations.SwitchCommandsComplete
  refine ⟨?policer, ?destroyPolicer, ?readPolicer, ?loopShare, ?session, ?destroySession, ?portMirror⟩
  case policer =>
    intro s b m policer fid rate ilog burst h hpolicer hfid hrate hilog hilog' hburst hburst' hroom
    refine cmd_done h (policer_inRange hpolicer hfid hrate ⟨hilog, hilog'⟩ hburst hburst') ?_
    rw [policerCap_leaves_room hroom, if_neg Bool.false_ne_true]
  case destroyPolicer =>
    intro s b m policer x h hpolicer hx
    exact cmd_done h (firstBad_all (by simp [hpolicer])) (by simp [hx])
  case readPolicer =>
    intro s b m policer x h hpolicer hx
    exact cmd_ok h (firstBad_all (by simp [hpolicer])) (by rw [hx])
  case loopShare =>
    intro s b m cells h hcells
    exact cmd_done h (firstBad_all (by simp [hcells])) rfl
  case session =>
    intro s b m session fid window snapLen sampleN crossTenant h hsession hfid hwindow hsnap hsample hsample' htarget
    refine ⟨_, rfl, cmd_done h (mirrorSession_inRange hsession hfid hwindow hsnap ⟨hsample, hsample'⟩) ?_⟩
    rw [mirrorTarget_permitted htarget, if_neg Bool.false_ne_true]
  case destroySession =>
    intro s b m session x h hsession hx hunused
    exact cmd_done h (firstBad_all (by simp [hsession])) (by simp [hx, hunused])
  case portMirror =>
    intro s b m port rx tx h hport hrx htx hblock hrxThere htxThere
    exact cmd_done h (firstBad_all (by simp [hport, hrx, htx]))
      (by simp [Option.isSome_iff_ne_none.mp hblock, hrxThere, htxThere])

end Sys2Proof.Machine

/-! PROOFS. The cipher commands of Table 8.9 (O6): each is accepted and in range, so that its own rules decide (Laws/Reply), and
an activation finds free key-cache slots wherever some lie free (R241). -/

namespace Sys2Proof.Machine

/-! ## Key-cache slots (R241, R243) -/

section KeySlots

variable {s : State} {mode sa : Nat} {a : Sa}

/-- The slots that an ACTIVE SA of a mode would hold from `n` on lie in the key cache, and all are free. -/
def SlotsFree (s : State) (mode n : Nat) : Prop :=
  n + modeSlots mode ≤ keySlots ∧ ∀ j, j < modeSlots mode → slotFree s (n + j) = true

theorem slotsFree_iff (s : State) (mode n : Nat) : SlotsFree s mode n ↔ (decide (n + modeSlots mode ≤ keySlots) &&
    (List.range (modeSlots mode)).all (fun j => slotFree s (n + j))) = true := by
  simp [SlotsFree]

/-- A search that steps round the key cache from any slot comes to every slot. -/
theorem rotation_reaches {k : Nat} (d : Nat) (hk : k < keySlots) : ∃ i, i < keySlots ∧ (d + i) % keySlots = k := by
  unfold keySlots at hk ⊢
  exact ⟨(k + (57344 - d % 57344)) % 57344, by omega, by omega⟩

/-- The search for slots finds free ones wherever some lie free. -/
theorem findSlot_finds (h : ∃ k, SlotsFree s mode k) :
    ∃ n, SlotsFree s mode n ∧ findSlot s mode = (some n, { s with draws := s.draws + 1 }) := by
  obtain ⟨k, hk⟩ := h
  have hslots : 0 < modeSlots mode := by unfold modeSlots; split <;> decide
  obtain ⟨i, hi, hrotated⟩ := rotation_reaches (Sys2Proof.Config.slotPick s.draws) (k := k) (by have := hk.1; omega)
  obtain ⟨n, j, hscan, -, hfound⟩ := scanFrom_some (fun i =>
    let n := (Sys2Proof.Config.slotPick s.draws + i) % keySlots
    if n + modeSlots mode ≤ keySlots && (List.range (modeSlots mode)).all (fun j => slotFree s (n + j)) then some n
    else none) keySlots 0 i (Nat.zero_le _) (by omega) (by
      dsimp only; rw [hrotated, if_pos ((slotsFree_iff s mode k).mp hk)]; rfl)
  dsimp only at hfound
  split at hfound
  next hfree =>
    obtain rfl := Option.some.inj hfound
    exact ⟨_, (slotsFree_iff s mode _).mpr hfree, congrArg (·, _) hscan⟩
  next => cases hfound

/-- An activation within the grant takes free slots wherever some lie free. -/
theorem activate_takes (hroom : activeOver s a.owner = false) (hfree : ∃ k, SlotsFree s a.mode k) :
    ∃ n, SlotsFree s a.mode n ∧
      activate s sa a = ok (setSa { s with draws := s.draws + 1 } sa { a with st := .active, slot := n }) := by
  obtain ⟨n, hn, hfound⟩ := findSlot_finds hfree
  exact ⟨n, hn, by rw [activate, hroom, if_neg Bool.false_ne_true, hfound]⟩

end KeySlots

/-! ## Installing, removing and rekeying (R244, R258 to R260, R264, R266) -/

section CipherCommands

variable {s b : State} {m : Meta} {sa : Nat} {a : Sa} {q : SaParams}

/-- The standby's form of an SA past a lease has its mode and owner. -/
theorem leaseRecord_names (a : Sa) (k : Nat) : (a.leaseRecord k).mode = a.mode ∧ (a.leaseRecord k).owner = a.owner := by
  unfold Sa.leaseRecord; split <;> exact ⟨rfl, rfl⟩

/-- An installed SA, in whichever form the device keeps it, has the mode and the owner that its parameters name. -/
theorem installedSa_names (s : State) (m : Meta) (q : SaParams) :
    (installedSa s m q).mode = q.mode ∧ (installedSa s m q).owner = q.owner := by
  unfold installedSa
  split
  · exact ⟨rfl, rfl⟩
  · split
    · exact leaseRecord_names (newSa s q) _
    · split <;> exact ⟨rfl, rfl⟩

/-- An SA index alone in range (R265). -/
theorem saIndex_inRange (hsa : sa < 2 ^ 22) : firstBad [(0, decide (sa < 2 ^ 22))] = none :=
  firstBad_all (by simpa using hsa)

/-- The removal of an SA leaves its records in progress on it (R259). -/
theorem recordsOn_dropSa (s : State) (sa : Nat) (a : Sa) (n : Nat) : recordsOn (dropSa s sa a) n = recordsOn s n := by
  simp only [recordsOn, dropSa, List.any_map]
  refine congrArg (List.any _) (funext fun r => ?_)
  dsimp only [Function.comp_apply]
  split <;> rfl

/-- A command that waits for an SA's records ends at once where there are none, and else stays in the foreground (R266). -/
theorem cmd_afterRecords {op : Nat} {objs : List Obj} {rld : Bool} {bad : Option Nat} {f : State → CmdOut} {t : State}
    (h : Starts s b m op objs rld) (hbad : bad = none) (hf : f b = afterRecords t sa)
    (hrecords : recordsOn t sa = recordsOn b sa) :
    Host.Outcome.next (runCmd m op objs rld bad f s)
      = if recordsOn b sa then foreIn s m op objs t else doneIn s m op t [] := by
  rw [afterRecords, hrecords] at hf
  split
  next hon => exact cmd_fore h hbad (by rw [hf, if_pos hon])
  next hoff => exact cmd_done h hbad (by rw [hf, if_neg hoff])

/-- An install that is not held back by records of the index, for a free index and an owner with room, makes the SA and activates
it where that is asked (R244, R266). -/
theorem exec_installSa_makes {t : State} (h : Starts s b m 0x0601 [.fid q.owner] true)
    (hrecords : recordsOn s sa = false ∨ (tget s.cip.sas sa).isSome = true) (hbad : badSa sa q = none)
    (hfree : tget b.cip.sas sa = none) (hkek : b.cip.kek.isSome = true)
    (hroom : q.owner = 0xFFF ∨ sasOf b q.owner < (cgrantOf b q.owner).saMax)
    (hmade : (if q.activate then activate { b with cip := { b.cip with nextId := b.cip.nextId + 1 } } sa
        { installedSa b m q with uid := b.cip.nextId }
      else ok (setSa { b with cip := { b.cip with nextId := b.cip.nextId + 1 } } sa
        { installedSa b m q with uid := b.cip.nextId })) = ok t) :
    exec (.installSa m sa q) s = doneIn s m 0x0601 (wrapLane t) [] := by
  have hnow : (recordsOn s sa && (tget s.cip.sas sa).isNone) = false := by
    rcases hrecords with hnone | hsome
    · rw [hnone, Bool.false_and]
    · rw [Option.isNone_eq_false_iff.mpr hsome, Bool.and_false]
  have hcap : (decide (q.owner ≠ 0xFFF) && decide ((cgrantOf b q.owner).saMax ≤ sasOf b q.owner)) = false := by
    rcases hroom with hdevice | hbelow
    · rw [decide_eq_false (not_not_intro hdevice), Bool.false_and]
    · rw [decide_eq_false (Nat.not_le.mpr hbelow), Bool.and_false]
  change execInstallSa m sa q s = _
  rw [execInstallSa, hnow, if_neg Bool.false_ne_true]
  refine cmd_done h hbad ?_
  dsimp only
  rw [hfree, vaultReady, hkek, if_neg (by decide), hcap, if_neg Bool.false_ne_true, hmade]
  rfl

/-- A rekey of an installed SA with key material of its mode's length writes the material's blob, in the state that was asked
(R264). -/
theorem exec_rekeySa_rewraps {key : List Nat} {act : Bool} {t : State} (h : Starts s b m 0x0605 [] true) (hsa : sa < 2 ^ 22)
    (ha : saOf b sa = some a) (hkek : b.cip.kek.isSome = true) (hlen : key.length = materialLen a.mode)
    (hstate : (let y := { a with kekGen := b.cip.kekGen.toNat % 65536, blob := wrapKey ((kekBytes b).getD []) key
                                 blobMark := false }
      if !act then ok (setSa b sa { y with st := .dormant, slot := 0 })
      else if a.st = .active then ok (setSa b sa y)
      else activate b sa { y with st := .dormant, slot := 0 }) = ok t) :
    exec (.rekeySa m sa key act) s = doneIn s m 0x0605 (wrapLane t) [] := by
  refine cmd_done h (saIndex_inRange hsa) ?_
  dsimp only at hstate ⊢
  rw [ha]
  dsimp only
  rw [vaultReady, hkek, if_neg (by decide), if_neg (not_not_intro hlen), hstate]
  rfl

end CipherCommands

/-- Settles O6: each command's parameters are in range and its rules' checks hold by its clause's hypotheses; where it activates,
the slots that lie free are found (`activate_takes`). The lane of a wrap is the model's (log entry 115), and a removal or
deactivation acts at once and then waits for the records in the foreground (log entry 92). -/
theorem cipherCommandsComplete : Obligations.CipherCommandsComplete := by
  unfold Obligations.CipherCommandsComplete
  refine ⟨?install, ?installActive, ?remove, ?activates, ?deactivate, ?rekey, ?rekeyActive, ?rekeyActivates, ?read, ?grant,
    ?erase⟩
  case install =>
    intro s b m sa q h hrecords hbad hfree hkek hroom hdormant
    exact exec_installSa_makes h hrecords hbad hfree hkek hroom (by rw [hdormant]; rfl)
  case installActive =>
    intro s b m sa q h hrecords hbad hfree hkek hroom hactive hover hslots
    obtain ⟨hmode, howner⟩ := installedSa_names b m q
    obtain ⟨n, hn, htaken⟩ := activate_takes (s := { b with cip := { b.cip with nextId := b.cip.nextId + 1 } }) (sa := sa)
      (a := { installedSa b m q with uid := b.cip.nextId }) (by rw [howner]; exact hover) (by rw [hmode]; exact hslots)
    rw [hmode] at hn
    exact ⟨n, hn.1, hn.2, exec_installSa_makes h hrecords hbad hfree hkek hroom (by rw [hactive]; exact htaken)⟩
  case remove =>
    intro s b m sa a h hsa ha
    exact cmd_afterRecords h (saIndex_inRange hsa) (by rw [ha]) (recordsOn_dropSa b sa a sa)
  case activates =>
    intro s b m sa a h hsa ha hdormant herased hover hslots
    obtain ⟨n, hn, htaken⟩ := activate_takes (sa := sa) hover hslots
    refine ⟨n, hn.1, hn.2, cmd_done h (saIndex_inRange hsa) ?_⟩
    simp only [ha, hdormant, herased, ← htaken]
    rfl
  case deactivate =>
    intro s b m sa a h hsa ha hactive
    exact cmd_afterRecords h (saIndex_inRange hsa) (by simp only [ha, hactive, ne_eq, not_true_eq_false, if_false]) rfl
  case rekey => exact fun s b m sa key a h hsa ha hkek hlen => exec_rekeySa_rewraps h hsa ha hkek hlen rfl
  case rekeyActive =>
    exact fun s b m sa key a h hsa ha hkek hlen hactive => exec_rekeySa_rewraps h hsa ha hkek hlen (if_pos hactive)
  case rekeyActivates =>
    intro s b m sa key a h hsa ha hkek hlen hinactive hover hslots
    obtain ⟨n, hn, htaken⟩ := activate_takes (s := b) (sa := sa) (a := { a with
      kekGen := b.cip.kekGen.toNat % 65536, blob := wrapKey ((kekBytes b).getD []) key, blobMark := false
      st := .dormant, slot := 0 }) hover hslots
    exact ⟨n, hn.1, hn.2, exec_rekeySa_rewraps h hsa ha hkek hlen ((if_neg hinactive).trans htaken)⟩
  case read =>
    intro s b m sa a h hsa ha
    exact cmd_ok h (saIndex_inRange hsa) (by rw [ha])
  case grant =>
    intro s b m fid lanes saMax activeMax h hfid hlanes hsaMax hactiveMax hdedicated hsas hactive
    refine cmd_done h (firstBad_all (by simpa [hfid, hlanes, hactiveMax] using hsaMax)) ?_
    simp only [Nat.not_lt.mpr hdedicated, Nat.not_lt.mpr hsas, Nat.not_lt.mpr hactive, decide_false, Bool.or_self,
      Bool.false_eq_true, if_false]
  case erase => exact fun s b m h => cmd_done h rfl rfl

end Sys2Proof.Machine

/-! PROOFS. The steps of CIP, DMAW, DMAR, XMIT and HAUL, the end of a record, and the end of a claim at its limit (O21): a step
that issues with clean operands passes its gate (`Issues.ends`, `unitGate_clean`), so that its own checks decide. -/

namespace Sys2Proof.Machine

section Delivery

variable {s t : State} {p c : Nat} {x : StepIn}

/-! ## Cipher records (R246 to R262) -/

section Records

variable {n lane : Nat} {o : RecOp} {a : Sa}

/-- A record that rows 2 to 6 of Table 8.5 let pass, with clean bytes, is refused where its key cannot be read (row 7), and else
judged by its number (row 8). -/
theorem recCheck_passes (ha : saOf s o.sa = some a) (hstate : a.st ≠ .dormant) (howner : a.owner = o.fid)
    (herased : saErased s a = false) (hdir : o.decrypt = true ↔ a.dir = 1) (hreserved : o.reserved = false)
    (hlen : recLengthBad x.k a o = false) (hbytes : anyPoison (recordBytes s x.k a o) = false)
    (hdun : (x.k.opnd x.w.dst).p = false) :
    recCheck s x o = if (unwrapKey s a).isSome = true then
        (recSeq s a (wireSeq a (rawBytes ((recordBytes s x.k a o).take o.aad)))).map (fun n => (a, n))
      else .error ⟨.failedParity, 0, some cCipKeyParity⟩ := by
  have hmode : o.decrypt = decide (a.dir = 1) := Bool.eq_iff_iff.mpr (hdir.trans decide_eq_true_iff.symm)
  rw [recCheck, ha]
  dsimp only
  rw [if_neg hstate, if_neg (not_not_intro howner), herased, if_neg Bool.false_ne_true, if_neg (by simp [hmode, hreserved]), hlen,
    if_neg Bool.false_ne_true, hbytes, hdun]
  cases unwrapKey s a <;> simp

/-- A record with clean operands that a check refuses is refused for its reason (Table 8.5). -/
theorem exec_cipRecord_refused {r : RecRefusal} (h : Issues s p c 9 0 x) (hfrozen : isFrozen s (recOp x).fid = false)
    (hclean : (x.a.p || x.b.p) = false) (hcheck : recCheck s x (recOp x) = .error r) (hreason : r.reason ≠ 0x06) :
    exec (.cipRecord p c) s = .next (refuseRecord s x (recOp x).fid false r) := by
  refine h.ends rfl ?_
  dsimp only
  rw [hfrozen, if_neg Bool.false_ne_true, hclean, Bool.false_and, if_neg Bool.false_ne_true, hcheck]
  dsimp only
  rw [if_neg hreason]

/-- A record with clean operands that the checks let pass, and that finds a lane, is accepted on it (R250 to R252). -/
theorem exec_cipRecord_accepted (h : Issues s p c 9 0 x) (hfrozen : isFrozen s (recOp x).fid = false)
    (hclean : (x.a.p || x.b.p) = false) (hcheck : recCheck s x (recOp x) = .ok (a, n)) (hclock : domainClosed s 18 = false)
    (hlane : laneFor s x (recOp x).fid = (some lane, t)) :
    exec (.cipRecord p c) s = .next (acceptRecord t x (recOp x) a n lane false) := by
  refine h.ends rfl ?_
  dsimp only
  rw [hfrozen, if_neg Bool.false_ne_true, hclean, Bool.false_and, if_neg Bool.false_ne_true, hcheck]
  dsimp only
  rw [hclock, if_neg Bool.false_ne_true, hlane]

end Records

/-! ## Transmission (R197, R221, R226, R234) -/

/-- An XMIT step whose packet's function is outside the stocks, and whose operands and frame are clean, runs (R67, R335). -/
theorem Issues.transmits {op : Nat} {i : Instr} {f : StepIn → List PByte → State} (h : Issues s p c 12 op x)
    (hexec : exec i s = .next (xmitStep op p c s f)) (hfrozen : isFrozen s x.k.fid = false)
    (hclean : Clean x (x.a.p || x.b.p || (x.k.word 26).p || anyPoison (pktBytes s x.k))) (hf : f x (pktBytes s x.k) = t) :
    exec i s = .next t :=
  h.ends hexec ((unitGate_clean hfrozen hclean _).trans hf)

end Delivery

/-- Settles O21: each step passes the checks of its own rules by its clause's hypotheses, so that what it does is its effect; what
is left of a record's checks is whether its key can be read (`recCheck_passes`). -/
theorem deliveryStepsComplete : Obligations.DeliveryStepsComplete := by
  unfold Obligations.DeliveryStepsComplete
  refine ⟨?record, ?finish, ?claim, ?deliver, ?read, ?queue, ?loop, ?mirror, ?haul⟩
  case record =>
    rintro s t p c n lane x _ a h rfl hfrozen ha hb hsa hstate howner herased hdir hreserved hlen hbytes hdun hseq hclock hlane
    have hclean : (x.a.p || x.b.p) = false := by rw [ha, hb]; rfl
    have hcheck := recCheck_passes hsa hstate howner herased hdir hreserved hlen hbytes hdun
    rw [hseq] at hcheck
    split at hcheck
    next hkey => rw [exec_cipRecord_accepted h hfrozen hclean hcheck hclock hlane, if_pos hkey]
    next hkey => rw [exec_cipRecord_refused h hfrozen hclean hcheck (by decide), if_neg hkey]
  case finish =>
    rintro s _ id r k _ hr hfirst hk rfl rfl
    change execRecordFinish id s = _
    simp only [execRecordFinish, hr, hfirst, hk, Bool.not_true, Bool.false_eq_true, if_false]
    cases unwrapKey (takeRecord s r) r.saSnap <;> rfl
  case claim =>
    rintro s _ lane _ rfl howner hheld hlimit rfl
    change execClaimExpiry lane s = _
    simp [execClaimExpiry, howner, Option.isSome_iff_ne_none.mp hheld, Nat.not_lt.mpr hlimit]
  case deliver =>
    intro s p c q x r hs fixed h hfrozen hclean hturn hring hbufs hfix hbv himm hsome hfits hopen
    have hgood : (decide (bits 63 20 x.bv ≠ 0) || decide (bits 39 16 x.imm ≠ 0) || (fixed.drop (bits 15 0 x.imm)).isEmpty ||
        decide ((hs.map (bufSize s)).sum < (fixed.drop (bits 15 0 x.imm)).length)) = false := by
      simp only [hbv, himm, ne_eq, not_true_eq_false, decide_false, List.isEmpty_eq_false_iff.mpr hsome, Nat.not_lt.mpr hfits,
        Bool.or_self]
    refine h.ends rfl ((unitGate_clean hfrozen hclean _).trans ?_)
    dsimp only
    rw [hturn, if_neg Bool.false_ne_true, hring, hbufs, hfix]
    dsimp only
    rw [hgood, if_neg Bool.false_ne_true, if_pos hopen]
  case read =>
    intro s p c x h hfrozen hclean hgood hwindow hroom
    refine h.ends rfl ((unitGate_clean hfrozen hclean _).trans ?_)
    rw [hgood, if_neg Bool.false_ne_true, hwindow, if_neg (by decide), if_neg (Nat.not_le.mpr hroom)]
  case queue =>
    rintro s t p c _ _ x b h hfrozen hclean rfl rfl hturn hport hmask hfix hqueue
    refine h.transmits rfl hfrozen hclean ?_
    dsimp only
    rw [hturn, if_neg Bool.false_ne_true, Option.isNone_eq_false_iff.mpr hport, hmask, if_neg (by decide), hfix]
    dsimp only
    rw [hqueue, if_pos rfl]
  case loop =>
    intro s t p c x b h hfrozen hclean himm hfix hplace
    refine h.transmits rfl hfrozen hclean ?_
    dsimp only
    rw [if_neg (not_not_intro himm), hfix]
    dsimp only
    rw [hplace, if_pos rfl]
  case mirror =>
    intro s p c x z h hfrozen hclean
    refine ⟨fun hunfixed => h.transmits rfl hfrozen hclean (if_pos hunfixed), ?session, ?list⟩
    case session =>
      intro hfix hmode hz
      refine h.transmits rfl hfrozen hclean ?_
      dsimp only
      rw [Option.isNone_eq_false_iff.mpr hfix, if_neg Bool.false_ne_true, if_pos hmode, hz]
    case list =>
      intro hfix hmode hwords hvalid hturn
      refine h.transmits rfl hfrozen hclean ?_
      dsimp only
      rw [Option.isNone_eq_false_iff.mpr hfix, if_neg Bool.false_ne_true, hmode, if_neg Bool.false_ne_true, hwords,
        Bool.and_false, if_neg Bool.false_ne_true, hvalid, if_neg (by decide), hturn, if_neg Bool.false_ne_true]
  case haul =>
    rintro s s0 _ p c _ cell x _ h hfrozen hclean hstarts rfl rfl hmode hgranted howner hlists hav himm hclock hroom hcell rfl
      _ rfl
    have hgood : (decide ((chanOf s (bits 3 0 x.imm)).mode ≠ 2) || decide ((chanOf s (bits 3 0 x.imm)).st = .ungranted) ||
        (decide ((chanOf s (bits 3 0 x.imm)).owner ≠ bits 11 0 x.bv) && decide ((chanOf s (bits 3 0 x.imm)).owner ≠ 0xFFF)) ||
        decide (64 ≤ (chanOf s (bits 3 0 x.imm)).lists.length) || decide (bits 63 43 x.av ≠ 0) ||
        decide (bits 39 4 x.imm ≠ 0) || domainClosed s 23 || decide (2048 ≤ (pipeOf s p).parked.length)) = false := by
      simpa [hmode, hgranted, Nat.not_le.mpr hlists, hav, himm, hclock, Nat.not_le.mpr hroom]
        using howner.resolve_left
    refine h.ends rfl ((unitGate_clean hfrozen hclean _).trans ?_)
    dsimp only
    rw [hstarts, if_neg Bool.false_ne_true, hgood, if_neg Bool.false_ne_true, hcell]

end Sys2Proof.Machine

/-! PROOFS. The haul commands of class 0x0C (O7), and the register writes and events of the haul engine (O23): each acts where its
own rules let it, which the statements' hypotheses give. -/

namespace Sys2Proof.Machine

/-! ## Grants and configurations (R268, R269, R278) -/

section HaulCommands

variable {ch owner prio descLimit : Nat} {g : ChanCfg}

/-- The parameters of a grant are in range (Table 9.9). -/
theorem grantChannel_inRange (hch : ch < 15) (howner : chanOwnerOk owner = true) (hprio : prio ≤ 3) (hpos : 1 ≤ descLimit)
    (hmax : descLimit ≤ 4096) :
    firstBad [(0, ch < 15), (1, chanOwnerOk owner), (2, prio ≤ 3), (3, 1 ≤ descLimit && descLimit ≤ 4096)] = none :=
  firstBad_all (by simp [hch, howner, hprio, hpos, hmax])

/-- A function or the device can own a channel. -/
theorem chanOwnerOk_of_owner (h : isFn owner = true ∨ owner = 0xFFF) : chanOwnerOk owner = true := by
  rcases h with hfn | rfl
  · simp [chanOwnerOk, hfn]
  · rfl

/-- A function or the device is no revocation. -/
theorem owner_ne_revocation (h : isFn owner = true ∨ owner = 0xFFF) : owner ≠ 0xFFE := by
  rintro rfl
  exact absurd h (by decide)

/-- A channel that is ungranted or IDLE is not in use, so that a grant may take it. -/
theorem not_inUse {c : Chan} (h : c.st = .ungranted ∨ c.st = .idle) :
    (decide (c.st ≠ .ungranted) && decide (c.st ≠ .idle)) = false := by
  rcases h with hst | hst <;> rw [hst] <;> rfl

/-- The parameters of a configuration are in range (Table 9.9). -/
theorem configureChannel_inRange (hch : ch < 15) (hmode : g.mode ≤ 2)
    (hstatus : g.statusAddr % 16 = 0 ∧ g.statusAddr < 2 ^ 64) (hmsix : g.msix < 128)
    (hhead : g.head % 32 = 0 ∧ g.head < 2 ^ 64) (htype : g.queueType ≤ 2) (hqueue : g.queue < 16384)
    (hhigh : g.high < 2 ^ 17) (hlow : g.mode ≠ 1 ∨ g.low < g.high) :
    firstBad [(0, ch < 15), (1, g.mode ≤ 2), (2, g.statusAddr % 16 = 0 && g.statusAddr < 2 ^ 64), (3, g.msix < 128),
      (4, g.head % 32 = 0 && g.head < 2 ^ 64), (5, g.queueType ≤ 2), (6, g.queue < 16384), (7, g.high < 2 ^ 17),
      (8, g.mode ≠ 1 || g.low < g.high)] = none :=
  firstBad_all (by simpa [hch, hmode, hstatus.1, hmsix, hhead.1, htype, hqueue] using ⟨hstatus.2, hhead.2, hhigh, hlow⟩)

end HaulCommands

/-- Settles O7: each command's parameters are in range, and its own rules' checks hold by its clause's hypotheses. That the same
owner keeps the configuration and another finds reset values, and that stop and reset reach channel 15, are the model's (log
entry 77). -/
theorem haulCommandsComplete : Obligations.HaulCommandsComplete := by
  unfold Obligations.HaulCommandsComplete
  refine ⟨?grant, ?revoke, ?configure, ?stop, ?reset⟩
  case grant =>
    intro s b m ch owner prio descLimit h hch howner hprio hpos hmax hfree hroom
    refine cmd_done h (grantChannel_inRange hch (chanOwnerOk_of_owner howner) hprio hpos hmax) ?_
    dsimp only
    rw [not_inUse hfree, if_neg Bool.false_ne_true, if_neg (owner_ne_revocation howner), hroom, if_neg Bool.false_ne_true]
  case revoke =>
    intro s b m ch prio descLimit h hch hprio hpos hmax hfree
    refine cmd_done h (grantChannel_inRange hch (by decide) hprio hpos hmax) ?_
    dsimp only
    rw [not_inUse hfree, if_neg Bool.false_ne_true, if_pos rfl]
  case configure =>
    intro s b m ch g h hch hmode hstatus hstatus' hmsix hhead hhead' htype hqueue hhigh hlow hidle hvector hstatusOk hheadOk
      hwatermark
    refine cmd_done h (configureChannel_inRange hch hmode ⟨hstatus, hstatus'⟩ hmsix ⟨hhead, hhead'⟩ htype hqueue hhigh hlow) ?_
    change _ = ok (setChan b ch ((chanOf b ch).configure g))
    dsimp only
    rw [if_neg (not_not_intro hidle), hvector, hstatusOk, hheadOk, if_neg (by decide), if_neg (by decide)]
    by_cases hmark : g.mode = 1
    · obtain ⟨cap, hcap, hnamed⟩ := hwatermark hmark
      rw [if_neg (not_not_intro hmark), hnamed]
      dsimp only
      rw [if_neg (not_not_intro rfl), if_neg (Nat.not_lt.mpr hcap)]
    · rw [if_pos hmark]
  case stop =>
    intro s b m ch h hch hactive
    refine cmd_done h (firstBad_all (by simp [hch])) (if_pos ?_)
    simpa [or_assoc] using hactive
  case reset =>
    intro s b m ch h hch hhalted
    exact cmd_done h (firstBad_all (by simp [hch])) (if_pos hhalted)

/-! ## Starts, acknowledgements, stops, watermarks and runs (R273, R274, R275, R278, R283) -/

section HaulRows

variable {s : State} {fid j n : Nat}

/-- A start of a channel that can take it makes the channel READY at its head (R273). -/
theorem exec_haulStartWrite_readies {head : Nat} (hreach : memReach s fid = true) (hn : regChan s fid j = some n)
    (hidle : (chanOf s n).st = .idle) (hmode : (chanOf s n).mode = 0) (hhead : head % 32 = 0)
    (hstarts : startsRefused s fid = false) (hclock : domainClosed s 23 = false) :
    exec (.haulStartWrite fid j head) s = .next (makeReady s n { chanOf s n with head := head } true) := by
  change execHaulStartWrite fid j head s = _
  rw [execHaulStartWrite, memWrite_reached hreach, hn]
  simp [hidle, hmode, hhead, hstarts, hclock]

/-- An acknowledgement of counts that were posted is taken, and releases a channel that waited for it (R283). -/
theorem exec_haulAckWrite_takes {half full : Nat} (hreach : memReach s fid = true) (hn : regChan s fid j = some n)
    (hhalf : half < 65536) (hfull : full < 65536) (hhalfOk : ackOk (chanOf s n).halfPosted (chanOf s n).halfAcked half = true)
    (hfullOk : ackOk (chanOf s n).fullPosted (chanOf s n).fullAcked full = true) :
    exec (.haulAckWrite fid j half full) s
      = .next (ackRelease (setChan s n { chanOf s n with halfAcked := half, fullAcked := full }) n) := by
  change execHaulAckWrite fid j half full s = _
  rw [execHaulAckWrite, memWrite_reached hreach, hn, Nat.mod_eq_of_lt hhalf, Nat.mod_eq_of_lt hfull]
  dsimp only
  rw [hhalfOk, hfullOk, Bool.and_self, if_pos rfl]

/-- A stop that another function than PF0 writes stops the channel it reaches (R274). -/
theorem exec_haulStopWrite_stops (hreach : memReach s fid = true) (hfid : fid ≠ 0) (hn : regChan s fid j = some n) :
    exec (.haulStopWrite fid j) s = .next (stopChan s n) := by
  change execHaulStopWrite fid j s = _
  rw [execHaulStopWrite, memWrite_reached hreach, if_neg hfid, hn]

/-- An ARMED channel whose queue is filled to its high mark becomes READY (R278). -/
theorem exec_watermarkHigh_readies (harmed : (chanOf s n).st = .armed) (hhigh : (chanOf s n).high ≤ chanFill s (chanOf s n))
    (hstarts : startsRefused s (chanOf s n).acting = false) (hclock : domainClosed s 23 = false) :
    exec (.watermarkHigh n) s = .next (makeReady s n { chanOf s n with fill := chanFill s (chanOf s n) } true) := by
  change execWatermarkHigh n s = _
  simp [execWatermarkHigh, harmed, hhigh, hstarts, hclock]

/-- A free unit takes the channel that is next (R275). -/
theorem exec_runStart_takes {unit : Nat} (hunit : unit < 4) (hfree : tany s.haul.chans (fun _ c => c.unit = some unit) = false)
    (hruns : domainRuns s 23 = true) (hn : nextChan s = some n) :
    exec (.runStart unit) s = .next (setChan s n ((chanOf s n).take unit)) := by
  change execRunStart unit s = _
  rw [execRunStart, hfree, hruns, hn, if_neg (by simp [hunit])]

end HaulRows

/-- Settles O23: each row's own condition holds by its clause's hypotheses, so that what the row does is its effect. -/
theorem haulRowsComplete : Obligations.HaulRowsComplete := by
  unfold Obligations.HaulRowsComplete
  exact ⟨fun s fid j head n => exec_haulStartWrite_readies, fun s fid j half full n => exec_haulAckWrite_takes,
    fun s fid j n => exec_haulStopWrite_stops, fun s n => exec_watermarkHigh_readies, fun s unit n => exec_runStart_takes⟩

end Sys2Proof.Machine

/-! PROOFS. The steps of STG, the turns and the timers of connections (O22): every action of CONN_PUT passes the same checks before
its own (`connPut_acts`), and each event's condition holds where its clause says. -/

namespace Sys2Proof.Machine

section StorageSteps

variable {s t : State} {p c conn slot : Nat} {x : StepIn} {cn c1 : Conn}

/-! ## What comes before the own rules of an STG step (R300, R301, R335) -/

/-- A step for a function outside the stocks with no poisoned operand passes the gate of STG. -/
theorem stgGate_clean {fid : Nat} (hfrozen : isFrozen s fid = false) (f : State) : stgGate s x fid false f = f := by
  rw [stgGate, hfrozen, if_neg Bool.false_ne_true, poisonGate_clean (.inl rfl)]

/-- A CONN_GET with clean operands, of a connection that it may read, returns the line that it names (R300). -/
theorem exec_connGet_reads (h : Issues s p c 15 0 x) (hfrozen : isFrozen s (bits 11 0 x.bv) = false) (ha : x.a.p = false)
    (hb : x.b.p = false) (hcn : connOf s (bits 15 0 x.av) = some cn) (hstocks : stgFrozen s (bits 11 0 x.bv) cn = false)
    (htwin : stgTwinIdle s cn = false) (howns : stgOwns cn (bits 11 0 x.bv) = true) (hpipe : cn.pipeline = p) :
    exec (.connGet p c) s = .next (advance s x (putWords x x.k ((List.range 8).map (fun i =>
      leNat (slice (cn.line (bits 4 0 x.imm)) (8 * i) 8))) false) .done) := by
  refine h.ends rfl ?_
  dsimp only
  rw [ha, hb, Bool.or_self, stgGate_clean hfrozen, hcn]
  dsimp only
  rw [hstocks, htwin, howns, if_neg Bool.false_ne_true, if_neg Bool.false_ne_true, if_neg (by decide),
    if_neg (not_not_intro hpipe)]

/-! ## The actions of CONN_PUT (R301, Table 10.7) -/

section Puts

/-! A CONN_PUT step acts on a connection where it issues, neither its function nor the connection's owner is in the stocks, the
connection is of its pipeline, and no idle twin mirrors it (R313, R335, R382). -/

variable (h : Issues s p c 15 1 x) (hfrozen : isFrozen s (putFid x) = false) (hcn : connOf s (putConn x) = some cn)
  (hstocks : stgFrozen s (putFid x) cn = false) (hpipe : cn.pipeline = p) (htwin : stgTwinIdle s cn = false)

include h hfrozen hcn hstocks hpipe htwin

/-- With clean operands such a step ends in the state that its action's own rules give. -/
theorem connPut_acts {action : Nat} {i : Instr} {mark : StepIn → Bool} {f : StepIn → Conn → State}
    (hexec : exec i s = .next (connPut action p c s mark f)) (haction : bits 2 0 x.imm = action) (hclean : mark x = false)
    (hf : f x cn = t) : exec i s = .next t := by
  refine h.ends hexec ?_
  rw [if_neg (not_not_intro haction), hclean, stgGate_clean hfrozen, hcn]
  dsimp only
  rw [hstocks, if_neg Bool.false_ne_true, if_neg (not_not_intro hpipe), htwin, if_neg Bool.false_ne_true, hf]

/-- WRITE by the turn holder writes a program line, and sets the timer where imm[8] is 1. -/
theorem exec_connPutWrite_writes (haction : bits 2 0 x.imm = 0) (hwords : wordsPoisoned x.k x.w.srcA 8 = false)
    (hb : x.b.p = false) (hturn : holdsTurn x = true) (hline : 7 ≤ bits 7 3 x.imm) :
    exec (.connPutWrite p c) s = .next (doneW (setConn s (putConn x) { cn with
      lines := tset cn.lines (bits 7 3 x.imm) ((List.range 8).flatMap (fun i => leBytes 8 (x.k.val (x.w.srcA + i))))
      timer := if bitOf 8 x.imm then x.bv else cn.timer
      lib := (match x.k.lib with
        | some r => r.draft
        | none => cn.lib)
      dirty := (cn.dirty ++ (if bitOf 8 x.imm then [0, bits 7 3 x.imm] else [bits 7 3 x.imm])).eraseDups }) x .done 0 false) := by
  have hclean : (wordsPoisoned x.k x.w.srcA 8 || x.b.p) = false := by rw [hwords, hb]; rfl
  refine connPut_acts h hfrozen hcn hstocks hpipe htwin rfl haction hclean ?_
  dsimp only
  rw [hturn, if_neg (by decide), hclean]
  exact if_neg (Nat.not_lt.mpr hline)

/-- HANDOFF of a submission takes the lowest FREE slot and a credit of the queue's completion ring, and hands the packet over
(R297, R299). -/
theorem exec_handoffSubmission_handsOver {i q : Nat} {cq : CqRing} (haction : bits 2 0 x.imm = 1)
    (ha : x.a.p = false) (horder : mustWait s p x.k (.turn (putConn x)) = false) (hturn : holdsTurn x = false)
    (hactive : cn.st = .active) (howns : stgOwns cn (putFid x) = true) (hlimit : cn.outstanding < cn.cmdMax)
    (hslot : freeSlotOf cn = some i) (hring : submitRing s x.k = some (q, cq)) (hroom : turnRoom s cn = true)
    (hc1 : c1 = cn.setSlot i { tag := bits 47 16 (x.k.val 27), cq := q, st := 1, gen := ((cn.slot i).gen + 1) % 1024
                               allocAt := s.now }) :
    exec (.handoffSubmission p c) s = .next (handOver
      (setConn (setCq s q { cq with reserved := cq.reserved + 1 }) (putConn x) c1) x (putConn x) c1
      { kind := 1, slot := i, cid := slotCid c1 i, conn := putConn x, data := x.av, origNs := x.k.val 25
        tag := bits 47 16 (x.k.val 27), queue := bits 15 0 (x.k.val 27), fid := x.k.fid }
      (i + slotCid c1 i * 2 ^ 16) false) := by
  subst hc1
  refine connPut_acts h hfrozen hcn hstocks hpipe htwin rfl haction ha ?_
  dsimp only
  rw [horder, hturn, if_neg Bool.false_ne_true, if_neg Bool.false_ne_true, if_neg (not_not_intro hactive), howns,
    if_neg (by decide), if_neg (Nat.not_le.mpr hlimit), hslot, hring]
  dsimp only
  rw [hroom, if_neg (by decide), ha]

/-- HANDOFF of an inbound packet hands it over for the connection's owner (R298, R299). -/
theorem exec_handoffInbound_handsOver (haction : bits 2 0 x.imm = 2) (ha : x.a.p = false)
    (horder : mustWait s p x.k (.turn (putConn x)) = false) (hturn : holdsTurn x = false) (hactive : cn.st = .active)
    (hroom : turnRoom s cn = true) :
    exec (.handoffInbound p c) s = .next (handOver s x (putConn x) cn
      { kind := 2, conn := putConn x, data := x.av, origNs := x.k.val 25, fid := cn.owner } 0 false) := by
  refine connPut_acts h hfrozen hcn hstocks hpipe htwin rfl haction ha ?_
  dsimp only
  rw [horder, hturn, if_neg Bool.false_ne_true, if_neg Bool.false_ne_true, if_neg (not_not_intro hactive), hroom,
    if_neg (by decide), ha]

/-- COMPLETE of a slot in flight by the turn holder posts the storage completion and frees or quarantines the slot (R303). -/
theorem exec_connPutComplete_completes {i : Nat} {y : CSlot} (haction : bits 2 0 x.imm = 3) (ha : x.a.p = false)
    (hb : x.b.p = false) (hturn : holdsTurn x = true) (hi : i = bits 8 3 x.imm) (hy : y = cn.slot i)
    (hflight : y.st = 1 ∨ y.st = 2) (horder : mustWait s p x.k (.ring y.cq) = false) :
    exec (.connPutComplete p c) s = .next (doneW (cqPost
      (setConn s (putConn x) (cn.setSlot i { y with st := if bitOf 9 x.imm then 3 else 0 })) y.cq
      [{ bytes := stgEntry (bits 7 0 x.av) (x.k.ep || y.ep) y.tag (bits 23 8 x.av) (bits 39 24 x.av) (bits 31 0 x.bv) }] 1)
      x .done 0 false) := by
  subst hi hy
  have hclean : (x.a.p || x.b.p) = false := by rw [ha, hb]; rfl
  have hslot : (decide ((cn.slot (bits 8 3 x.imm)).st ≠ 1) && decide ((cn.slot (bits 8 3 x.imm)).st ≠ 2)) = false := by
    rcases hflight with hst | hst <;> rw [hst] <;> rfl
  refine connPut_acts h hfrozen hcn hstocks hpipe htwin rfl haction hclean ?_
  dsimp only
  rw [hturn, if_neg (by decide), hslot, if_neg Bool.false_ne_true, horder, if_neg Bool.false_ne_true, hclean]

/-- RELEASE of a QUARANTINED slot by the turn holder frees it. -/
theorem exec_connPutRelease_releases {i : Nat} {y : CSlot} (haction : bits 2 0 x.imm = 4) (hturn : holdsTurn x = true)
    (hi : i = bits 8 3 x.imm) (hy : y = cn.slot i) (hst : y.st = 3) :
    exec (.connPutRelease p c) s
      = .next (doneW (setConn s (putConn x) (cn.setSlot i { y with st := 0 })) x .done 0 false) := by
  subst hi hy
  refine connPut_acts h hfrozen hcn hstocks hpipe htwin rfl haction rfl ?_
  dsimp only
  rw [hturn, if_neg (by decide), if_neg (not_not_intro hst)]

/-- FAIL by the turn holder fails the connection with the cause named (R309). -/
theorem exec_connPutFail_fails (haction : bits 2 0 x.imm = 5) (hturn : holdsTurn x = true) :
    exec (.connPutFail p c) s = .next (doneW (failConn s (putConn x) cn (bits 10 3 x.imm)) x .done 0 false) := by
  refine connPut_acts h hfrozen hcn hstocks hpipe htwin rfl haction rfl ?_
  rw [hturn, if_neg (by decide)]

end Puts

/-! ## Turns and timers (R298, R302, R305) -/

/-- A free turn goes to the oldest work packet that waits for it. -/
theorem exec_turnDispatch_admits {k : Pkt} {rest : List Pkt} (hcn : connOf s conn = some cn) (hturn : cn.turn = k :: rest)
    (hfree : cn.turnHeld = false) :
    exec (.turnDispatch conn) s = .next (admitPkt (setConn s conn { cn with turn := rest, turnHeld := true, turnAt := s.now })
      cn.pipeline { k with conn := some conn }) := by
  change execTurnDispatch conn s = _
  rw [execTurnDispatch, hcn]
  dsimp only
  rw [hturn]
  dsimp only
  rw [hfree, if_neg Bool.false_ne_true]

/-- An ACTIVE slot at the end of its life becomes EXPIRED and is worked on (R305). -/
theorem exec_slotExpiry_expires (hcn : connOf s conn = some cn) (hst : (cn.slot slot).st = 1)
    (hend : (cn.slot slot).allocAt + 1000000 * cn.timeoutMs ≤ s.now) (htwin : stgTwinIdle s cn = false)
    (hc1 : c1 = cn.setSlot slot { cn.slot slot with st := 2 }) :
    exec (.slotExpiry conn slot) s = .next (timerWork (setConn s conn c1) conn c1 3 slot (slotCid c1 slot) (timeNow s)) := by
  subst hc1
  change execSlotExpiry conn slot s = _
  rw [execSlotExpiry, hcn]
  dsimp only
  rw [if_pos (by simp [hst, hend, htwin])]

/-- A connection timer whose deadline has come clears and is worked on (R302). -/
theorem exec_connectionTimerExpiry_expires (hcn : connOf s conn = some cn) (hset : cn.timer ≠ 0) (hdue : cn.timer ≤ timeNow s)
    (htwin : stgTwinIdle s cn = false) (hc1 : c1 = { cn with timer := 0, dirty := (cn.dirty ++ [0]).eraseDups }) :
    exec (.connectionTimerExpiry conn) s = .next (timerWork (setConn s conn c1) conn c1 4 0xFF 0 cn.timer) := by
  subst hc1
  change execConnectionTimerExpiry conn s = _
  rw [execConnectionTimerExpiry, hcn]
  dsimp only
  rw [if_pos (by simp [hset, hdue, htwin])]

/-- The oldest timer packet whose cell was refused is built again (R302). -/
theorem exec_timerCellRetry_retries {kind cid ns : Nat} {rest : List (Nat × Nat × Nat × Nat)} (hcn : connOf s conn = some cn)
    (hcells : cn.timerCells = (kind, slot, cid, ns) :: rest) (hc1 : c1 = { cn with timerCells := rest }) :
    exec (.timerCellRetry conn) s = .next (timerWork (setConn s conn c1) conn c1 kind slot cid ns) := by
  subst hc1
  change execTimerCellRetry conn s = _
  rw [execTimerCellRetry, hcn]
  dsimp only
  rw [hcells]

end StorageSteps

/-- Settles O22: a CONN_PUT step passes the checks before its action's own (`connPut_acts`), and each action and event meets its
condition by its clause's hypotheses. -/
theorem storageStepsComplete : Obligations.StorageStepsComplete := by
  unfold Obligations.StorageStepsComplete
  refine ⟨fun s p c x cn => exec_connGet_reads, ?put, fun s conn cn k rest => exec_turnDispatch_admits, ?slot,
    fun s conn cn c1 => exec_connectionTimerExpiry_expires,
    fun s conn kind slot cid ns cn c1 rest => exec_timerCellRetry_retries⟩
  case put =>
    intro s p c x cn h hfrozen hcn hstocks hpipe htwin
    exact ⟨exec_connPutWrite_writes h hfrozen hcn hstocks hpipe htwin,
      fun i q cq cn1 => exec_handoffSubmission_handsOver h hfrozen hcn hstocks hpipe htwin,
      exec_handoffInbound_handsOver h hfrozen hcn hstocks hpipe htwin,
      fun i y => exec_connPutComplete_completes h hfrozen hcn hstocks hpipe htwin,
      fun i y => exec_connPutRelease_releases h hfrozen hcn hstocks hpipe htwin,
      exec_connPutFail_fails h hfrozen hcn hstocks hpipe htwin⟩
  case slot => exact fun s conn slot cn hcn hst hend htwin c1 => exec_slotExpiry_expires hcn hst hend htwin

end Sys2Proof.Machine

/-! PROOFS. The shipped storage library (O37): what it takes on, what follows a step's code, and what an entry of the completion
queue does to a slot, each said once of `libStart`, `libAfter` and `LibAcc.cqe`. -/

namespace Sys2Proof.Machine

/-! ## Submissions (R296, Table 10.6) -/

section Submissions

variable {s : State} {fid : Nat} {bs : List Nat}

/-- Check 1: the opcode. -/
theorem entryFault_opcode (hop : bs.getD 0 0 ≠ 0x40) : entryFault s fid bs = some 0x20 := if_pos hop

/-- Checks 2 and 3 of an entry of opcode 0x40. -/
theorem entryFault_fields (hop : bs.getD 0 0 = 0x40) :
    entryFault s fid bs = if (StgCmd.ofBytes bs).bad (bs.length / 32) = true ∨ xtsBad s fid (StgCmd.ofBytes bs) = true
      then some 0x21 else none := by
  rw [entryFault, if_neg (not_not_intro hop)]
  simp only [Bool.or_eq_true]

/-- In another table set the library takes nothing on. -/
theorem libStart_unshipped {k : Pkt} (hbank : (bankOf s k.bank).shipped = false) : libStart s k = none :=
  if_pos (by rw [hbank]; rfl)

/-- A new packet at a storage entry is a submission, whose entry says what the library plans (log entry 125). -/
theorem libStart_submission {k : Pkt} (hbank : (bankOf s k.bank).shipped = true) (hlo : 16 ≤ k.entry) (hhi : k.entry ≤ 23)
    (hlib : k.lib = none) (hconn : k.conn = none) (hbs : bs = rawBytes (pktBytes s k)) :
    libStart s k = some { conn := (StgCmd.ofBytes bs).conn, fid := k.fid, turn := false
                          plan := (entryFault s k.fid bs).elim [.get, .handoff false, .finish]
                            (fun st => [.drop cStgBadEntry st]) } := by
  subst hbs
  rw [libStart, hbank, hlib, if_neg (by decide), if_neg (by decide), if_pos (by simp [hlo, hhi]), hconn]
  dsimp only
  cases entryFault s k.fid (rawBytes (pktBytes s k)) <;> rfl

end Submissions

/-! ## What follows CONN_GET and the hand-off of a submission (R297, Table 10.6) -/

section After

variable {s : State} {p : Nat} {k : Pkt} {r : LibRun} {rest : List LibOp} {reason : Nat}

/-- A FREE connection is absent. -/
theorem libAfter_get_miss (hturn : r.turn = false) (hplan : r.plan = .get :: rest) :
    libAfter s p k r .miss reason = { r with plan := [.drop cStgConnAbsent 0x13] } := by
  cases r with
  | mk => subst hturn hplan; rfl

theorem libAfter_handoff_done (hplan : r.plan = .handoff false :: rest) :
    libAfter s p k r .done reason = { r with plan := rest } := by
  cases r with
  | mk => subst hplan; rfl

/-- A refused hand-off drops the submission with the counter and the status of its reason. -/
theorem libAfter_handoff_refused (hplan : r.plan = .handoff false :: rest) :
    libAfter s p k r .refusedState reason
      = { r with plan := [.drop (handoffFault .refusedState reason).1 (handoffFault .refusedState reason).2] } := by
  cases r with
  | mk => subst hplan; rfl

end After

/-! ## Completion queue entries (R295, R305, R306) -/

section Cqes

variable {a : LibAcc} {dw0 cid sf : Nat}

/-- An identifier that names no command is counted, and nothing else. -/
theorem LibAcc.cqe_unnamed (hst : a.slotSt cid = 0) : a.cqe dw0 cid sf = a.add [.count a.c.owner cStgBadCid] := by
  delta LibAcc.cqe LibAcc.stale
  rw [hst, if_pos rfl]
  rfl

/-- An ACTIVE command whose data had no bad digest ends with its status and result. -/
theorem LibAcc.cqe_active (hst : a.slotSt cid = 1) (hgood : ((tget a.rc.cmds (cid % 64)).map (·.bad)).getD false = false) :
    a.cqe dw0 cid sf
      = a.finish (cid % 64) false 0x00 (sf % 32768 + 32768) cid dw0 (if sf % 32768 = 0 then [] else [cStgNvmeError]) := by
  delta LibAcc.cqe
  rw [hst]
  exact if_neg (by rw [hgood]; decide)

/-- An EXPIRED command ends with FAILED_TIMEOUT. -/
theorem LibAcc.cqe_expired (hst : a.slotSt cid = 2) :
    a.cqe dw0 cid sf = a.finish (cid % 64) false 0x31 0 cid 0 [cStgCmdTimeout] := by
  delta LibAcc.cqe
  rw [hst]
  rfl

/-- A QUARANTINED slot is released. -/
theorem LibAcc.cqe_quarantined (hst : a.slotSt cid = 3) :
    a.cqe dw0 cid sf = (a.putSlot (cid % 64) 0).add [.release (cid % 64), .count a.c.owner cStgLateResponse] := by
  delta LibAcc.cqe
  rw [hst]
  rfl

end Cqes

/-- Settles O37: a submission's plan follows its first failed check (`libStart_submission`), a hand-off's its code, and a
completion queue entry acts by the state of the slot that it names. The plan of steps is the model's (log entry 125). -/
theorem storageLibraryAnswers : Obligations.StorageLibraryAnswers := by
  unfold Obligations.StorageLibraryAnswers
  refine ⟨fun s k => libStart_unshipped, ?submission, ?after, ?cqe⟩
  case submission =>
    rintro s k bs _ hbank hlo hhi hlib hconn hbs rfl
    rw [libStart_submission hbank hlo hhi hlib hconn hbs]
    refine ⟨fun hop => ?opcode, fun hop hbad => ?fields, fun hop hgood hsa => ?fit⟩
    case opcode =>
      rw [entryFault_opcode hop]
      rfl
    case fields =>
      rw [entryFault_fields hop, if_pos hbad]
      rfl
    case fit =>
      rw [entryFault_fields hop, if_neg (by simp [hgood, hsa])]
      rfl
  case after =>
    intro s p k r rest reason hturn
    refine ⟨libAfter_get_miss hturn, fun hplan => ⟨libAfter_handoff_done hplan, fun e he => ?_⟩⟩
    have hfault : handoffFault .refusedState e.1 = e.2 := by
      revert e
      decide
    rw [libAfter_handoff_refused hplan, hfault]
  case cqe =>
    rintro a dw0 cid sf _ rfl
    refine ⟨LibAcc.cqe_unnamed, fun hst hgood => ?active, fun hst => ?expired, fun hst => ?quarantined⟩
    case active =>
      rw [LibAcc.cqe_active hst hgood]
      refine ⟨rfl, ?_⟩
      split <;> rfl
    case expired =>
      rw [LibAcc.cqe_expired hst]
      exact ⟨rfl, rfl⟩
    case quarantined =>
      rw [LibAcc.cqe_quarantined hst]
      exact ⟨rfl, rfl⟩

end Sys2Proof.Machine

/-! PROOFS. What the list of parts of a command, `touches`, holds of the parts that few commands change. -/

namespace Sys2Proof.Machine

/-- What the list of each command holds: no command changes the commands that wait, two may burn fuses and five may change the
life cycle. -/
theorem touches_table (i : Instr) : Blk.pending ∉ touches i ∧
    (Blk.fuses ∈ touches i → (∃ ready, i = .activationStewardReady ready) ∨ ∃ frm, i = .chainDataReceived frm) ∧
    (Blk.life ∈ touches i → (∃ m target sig, i = .changeLifeCycleState m target sig) ∨ i = .perstAssert ∨
      (∃ imageOk straps lib, i = .coldReset imageOk straps lib) ∨ i = .rldramWipeEnd ∨ i = .mainSupplyLoss) := by
  have hrest : ∀ {l : List Blk} {p q : Prop}, decide (Blk.pending ∈ l) = false → decide (Blk.fuses ∈ l) = false →
      decide (Blk.life ∈ l) = false → Blk.pending ∉ l ∧ (Blk.fuses ∈ l → p) ∧ (Blk.life ∈ l → q) :=
    fun hpending hfuses hlife => ⟨of_decide_eq_false hpending, fun h => absurd h (of_decide_eq_false hfuses),
      fun h => absurd h (of_decide_eq_false hlife)⟩
  cases i
  case activationStewardReady ready =>
    exact ⟨of_decide_eq_true rfl, fun _ => .inl ⟨ready, rfl⟩, fun h => absurd h (of_decide_eq_false rfl)⟩
  case chainDataReceived frm =>
    exact ⟨of_decide_eq_true rfl, fun _ => .inr ⟨frm, rfl⟩, fun h => absurd h (of_decide_eq_false rfl)⟩
  case changeLifeCycleState m target sig =>
    exact ⟨of_decide_eq_true rfl, fun h => absurd h (of_decide_eq_false rfl), fun _ => .inl ⟨m, target, sig, rfl⟩⟩
  case perstAssert =>
    exact ⟨of_decide_eq_true rfl, fun h => absurd h (of_decide_eq_false rfl), fun _ => .inr (.inl rfl)⟩
  case coldReset imageOk straps lib =>
    exact ⟨of_decide_eq_true rfl, fun h => absurd h (of_decide_eq_false rfl),
      fun _ => .inr (.inr (.inl ⟨imageOk, straps, lib, rfl⟩))⟩
  case rldramWipeEnd =>
    exact ⟨of_decide_eq_true rfl, fun h => absurd h (of_decide_eq_false rfl), fun _ => .inr (.inr (.inr (.inl rfl)))⟩
  case mainSupplyLoss =>
    exact ⟨of_decide_eq_true rfl, fun h => absurd h (of_decide_eq_false rfl), fun _ => .inr (.inr (.inr (.inr rfl)))⟩
  all_goals exact hrest rfl rfl rfl

end Sys2Proof.Machine

/-! PROOFS. The mailbox rate (O51), and what a function in the stocks gets (O52). -/

namespace Sys2Proof.Machine

section Mailboxes

variable {s : State} {fid : Nat}

/-! ## The record of a function -/

/-- A record that is not the one of an absent function is read where it was written. -/
theorem fnOf_setFn_of_ne (s : State) (fid : Nat) {f : Fn} (hf : f ≠ {}) : fnOf (setFn s fid f) fid = f := by
  simp only [fnOf, setFn, tput, if_neg hf, tgetD, tget_tset_self, Option.getD_some]

theorem fnOf_congr {t : State} (h : t.fns = s.fns) (fid : Nat) : fnOf t fid = fnOf s fid := by
  rw [fnOf, h, fnOf]

/-- A violation in a function's record is not the record of an absent function. -/
theorem Fn.viol_ne (f : Fn) (s : State) (code detail target : Nat) : f.viol s code detail target ≠ {} := by
  have hat : (f.viol s code detail target).violAt = some s.now := by
    unfold Fn.viol
    split
    next h => split <;> exact h
    next => rfl
  intro h
  rw [h] at hat
  cases hat

theorem Fn.viol_mbx (f : Fn) (s : State) (code detail target : Nat) : (f.viol s code detail target).mbx = f.mbx := by
  unfold Fn.viol
  split
  · split <;> rfl
  · rfl

/-- A violation is recorded beside the mailbox (R334). -/
theorem recordViol_mbx (s : State) (fid code detail target : Nat) :
    (fnOf (recordViol s fid code detail target) fid).mbx = (fnOf s fid).mbx := by
  have hcounted : fnOf (count s fid code) fid = fnOf s fid :=
    fnOf_congr (((count_only fid code rfl).mpr (Only.refl 0x10 s)).eq .fns (by decide)) fid
  have hrecorded : fnOf (recordViol s fid code detail target) fid = (fnOf s fid).viol s code detail target := by
    have hset := fnOf_setFn_of_ne (count s fid code) fid (Fn.viol_ne (fnOf s fid) s code detail target)
    simp only [recordViol, modFn, hcounted]
    split <;> exact hset
  rw [hrecorded, Fn.viol_mbx]

/-- The stocks leave the mailbox as it is (R335). -/
theorem enterStocks_mbx (s : State) (fid : Nat) : (fnOf (enterStocks s fid) fid).mbx = (fnOf s fid).mbx := by
  have hframe : Only 0x1bf1 (modFn s fid (fun f => { f with
      frozen := true, releaseOk := false, frozenDuring := f.frozenDuring || f.st = .quiescing })) (enterStocks s fid) := by
    simp [enterStocks]
  rw [fnOf_congr (hframe.eq .fns (by decide)), modFn, fnOf_setFn_of_ne]
  exact fun h => Bool.noConfusion (congrArg Fn.frozen h)

/-- A violation leaves the mailbox of its function as it is. -/
theorem violate_mbx (s : State) (fid code detail target : Nat) :
    (fnOf (violate s fid code detail target) fid).mbx = (fnOf s fid).mbx := by
  unfold violate
  split
  · exact congrArg Fn.mbx (fnOf_congr (Only.eq (m := 0x11) (by simp) .fns (by decide)) fid)
  · split
    · split
      · exact recordViol_mbx _ _ _ _ _
      · rfl
    · dsimp only
      split
      · exact recordViol_mbx _ _ _ _ _
      · rw [enterStocks_mbx, recordViol_mbx]

/-- The record of a function that has submitted in a window. -/
def Fn.submits (f : Fn) (window count : Nat) : Fn := { f with mbx := { f.mbx with window := window, count := count } }

theorem Fn.submits_ne (f : Fn) (window count : Nat) : f.submits window (count + 1) ≠ {} :=
  fun h => Nat.succ_ne_zero count (congrArg (fun g => g.mbx.count) h)

/-- A doorbell of a function that is not in the stocks, where `used` submissions of the window came before it (R339, R401). -/
theorem mbxDoorbell_eq {used : Nat} (hfrozen : isFrozen s fid = false)
    (hused : used = (if (fnOf s fid).mbx.window = timeNow s / 1000000 then (fnOf s fid).mbx.count else 0)) :
    let f := (fnOf s fid).submits (timeNow s / 1000000) (used + 1)
    mbxDoorbell s fid =
      if f.mbxPerMs < used + 1 then violate (setFn s fid f) fid 0x08 (used + 1) 0
      else if f.mbx.st = 1 then
        count (setFn (setFn s fid f) fid { f with mbx := { f.mbx with busyRefused := f.mbx.busyRefused + 1 } }) fid cMbxBusy
      else setFn (setFn s fid f) fid { f with mbx := { f.mbx with st := 1, taken := f.mbx.cmd } } := by
  subst hused
  intro f
  have hsubmit : mbxSubmit s fid = (_, setFn s fid f) := rfl
  have hread : fnOf (setFn s fid f) fid = f := fnOf_setFn_of_ne s fid (Fn.submits_ne _ _ _)
  simp only [mbxDoorbell, hsubmit, hread, hfrozen, Bool.false_eq_true, if_false]

theorem execMailboxDoorbell_one (hreach : mbxReach s fid = true) :
    exec (.mailboxDoorbell fid 1) s = .next (mbxDoorbell s fid) := by
  change Host.Outcome.next (if mbxReach s fid && 1 % 2 = 1 then mbxDoorbell s fid else s) = _
  simp [hreach]

end Mailboxes

/-- Settles O51: `mbxDoorbell` counts a submission, and what it then does turns on the count. -/
theorem mailboxRateHolds : Obligations.MailboxRateHolds := by
  unfold Obligations.MailboxRateHolds
  intro s fid used hreach hfrozen hused
  have hexec := execMailboxDoorbell_one hreach
  have hdoorbell := mbxDoorbell_eq hfrozen hused
  refine ⟨fun hover => ⟨_, rfl, ?_, ?_⟩, fun hwithin hbusy => ⟨mbxDoorbell s fid, hexec, ?_⟩⟩
  · exact hexec.trans (congrArg _ (hdoorbell.trans (if_pos (Nat.lt_succ_of_le hover))))
  · rw [violate_mbx]
    exact congrArg (fun f => f.mbx.st) (fnOf_setFn_of_ne s fid (Fn.submits_ne _ _ used))
  · rw [hdoorbell.trans ((if_neg (Nat.not_lt.mpr hwithin)).trans (if_neg hbusy)), fnOf_setFn_of_ne]
    · exact ⟨rfl, rfl, rfl⟩
    · exact fun h => Nat.succ_ne_zero used (congrArg (fun g => g.mbx.count) h)

section Stocks

variable {s : State} {p c unit op fid : Nat} {x : StepIn} {i : Instr} {f : StepIn → State}

/-! ## The gate of the units that act for a function (R335, R336) -/

/-- A step whose gate is for a function in the stocks ends with FROZEN. -/
theorem Issues.frozen {mark : Bool} {u : State} (h : Issues s p c unit op x) (hfrozen : isFrozen s fid = true)
    (hexec : exec i s = .next (withStep unit op p c s f)) (hgate : f x = unitGate s x fid mark u) :
    ∃ u, Joins s fid u ∧ exec i s = .next (done u x .frozen) :=
  ⟨(joinOnly s u fid).2, joinOnly_joins s u fid, h.ends hexec (hgate.trans (unitGate_frozen hfrozen u))⟩

end Stocks

/-- Settles O52: in each of these steps the stocks stand before everything else (`Issues.frozen`); GRN ALLOC, CIP and STG look
at the flag themselves. -/
theorem frozenFunctionGetsNothing : Obligations.FrozenFunctionGetsNothing := by
  unfold Obligations.FrozenFunctionGetsNothing
  refine ⟨fun s p c x i hfrozen h => ?_, fun s p c x i hfrozen h => ?_, fun s p c x hfrozen h => h.frozen hfrozen rfl rfl,
    fun s p c x hfrozen h => h.frozen hfrozen rfl rfl, fun s p c x i hfrozen h => ?_, fun s p c x hfrozen h => ?_,
    fun s p c x hfrozen h => ?_, fun s p c x hfrozen h => ?_⟩
  · rcases h with ⟨h, rfl⟩ | ⟨h, rfl⟩ | ⟨h, rfl⟩ <;> exact h.frozen hfrozen rfl rfl
  · rcases h with ⟨h, rfl⟩ | ⟨h, rfl⟩ | ⟨h, rfl⟩ | ⟨h, rfl⟩ | ⟨h, rfl⟩ <;> exact h.frozen hfrozen rfl rfl
  · rcases h with ⟨h, rfl⟩ | ⟨h, rfl⟩ | ⟨h, rfl⟩ <;> exact h.frozen hfrozen rfl rfl
  · exact h.ends rfl (if_pos hfrozen)
  · exact h.ends rfl (if_pos hfrozen)
  · exact h.ends rfl (if_pos hfrozen)

end Sys2Proof.Machine

/-! PROOFS. The function commands of class 0x02, and the events that end a quiesce and a reset (O2). -/

namespace Sys2Proof.Machine

section FunctionCommands

variable {s b : State} {fid : Nat} {kind : ResetKind} {force : Bool}

/-! ## Resets (R329, R330, R332) -/

/-- A quiesced function enters RESETTING with no quiesce to end (R329). -/
theorem enterReset_quiesced (h : (fnOf b fid).st = .quiesced) :
    enterReset b fid kind force =
      if force then abortWork (setFn b fid { fnOf b fid with st := .resetting, resetKind := some kind }) fid
      else setFn b fid { fnOf b fid with st := .resetting, resetKind := some kind } := by
  have hquiet : (fnOf b fid).st ≠ .quiescing := by rw [h]; decide
  simp only [enterReset, if_neg hquiet, modFn]

/-- Neither force nor a quiet function is refused for what goes on (R329). -/
theorem notForced_blocking (h : force = true ∨ (reportOf b fid).blocking = 0) :
    (!force && decide ((reportOf b fid).blocking ≠ 0)) = false := by
  rcases h with h | h <;> simp [h]

/-! ## Windows (R321, R324) -/

/-- A window record in its ranges, for a function. -/
theorem setDmaWindow_inRange {w : WinRec} (hfid : isFn fid = true) (hwin : w.win ≤ 15) (hpage : w.base % 4096 = 0)
    (hbase : w.base < 2 ^ 64) (hpages : w.pages ≤ 2 ^ 52) (hend : w.base + 4096 * w.pages ≤ 2 ^ 64) :
    firstBad ((0, isFn fid) :: winChecks 1 w) = none :=
  firstBad_all (by simpa [winChecks, hfid, hwin, hpage] using ⟨hbase, hpages, hend⟩)

end FunctionCommands

/-- Settles O2: each command's parameters are in range, and its own rules' checks hold by its clause's hypotheses. -/
theorem functionCommandsComplete : Obligations.FunctionCommandsComplete := by
  unfold Obligations.FunctionCommandsComplete
  refine ⟨?create, ?quiesce, ?quiesceEnd, ?resume, ?reset, ?remove, ?removeEnd, ?resetEnd, ?release, ?releaseRefused,
    ?window, ?windowRefused, ?expert, ?grant, ?read, ?declare⟩
  case create =>
    intro s b m fid rec h hrange hshares hst hhook hvf hlimit hempty
    refine cmd_done h hrange ?_
    simp only [hshares, hst, hhook, hvf, hlimit, hempty, reduceCtorEq, decide_false, Bool.or_self, Bool.false_eq_true,
      if_false, ne_eq, not_true_eq_false, Bool.not_true]
  case quiesce =>
    intro s b m fid limitMs h hfid h0 hmin hmax hst
    refine cmd_bgOpen h (firstBad_all (by simp [hfid, h0, hmin, hmax])) ?_
    rcases hst with hst | hst <;> simp [hst, modFn]
  case quiesceEnd =>
    intro s fid t huntil hst hdue
    refine congrArg Host.Outcome.next ?_
    simp only [huntil]
    rw [if_pos (by simpa [hst] using hdue)]
  case resume =>
    intro s b m fid h hfid h0 hst hfrozen
    exact cmd_done h (firstBad_all (by simp [hfid, h0])) (by simp [hst, hfrozen])
  case reset =>
    intro s b m fid force h hfid h0 hst hlock hquiet
    refine cmd_bgOpen h (firstBad_all (by simp [hfid, h0])) ?_
    simp only [hst, ne_eq, not_true_eq_false, if_false, notForced_blocking hquiet, hlock, Bool.or_self, Bool.false_eq_true,
      enterReset_quiesced hst]
  case remove =>
    intro s b m fid force h hfid hst hbarred hlock hquiet
    refine cmd_bgOpen h (firstBad_all (by simp [hfid])) ?_
    simp only [hst, ne_eq, not_true_eq_false, if_false, notForced_blocking hquiet, hlock, hbarred, Bool.or_self,
      Bool.false_eq_true, enterReset_quiesced hst]
  case removeEnd =>
    intro s fid hst hkind hlock
    refine congrArg Host.Outcome.next ?_
    simp [hst, hkind, hlock]
  case resetEnd =>
    intro s fid hst hkind hflr hlock
    refine congrArg Host.Outcome.next ?_
    simp [hst, hkind, hlock, hflr]
  case release =>
    intro s b m fid h hfid h0 hfrozen hok hst
    refine cmd_done h (firstBad_all (by simp [hfid, h0])) (if_pos ?_)
    simpa [releaseOpen, releasable, hfrozen, hok] using hst
  case releaseRefused =>
    intro s b m fid h hfid h0 hactive hquiesced
    refine cmd_no h (firstBad_all (by simp [hfid, h0])) (if_neg ?_) (by decide)
    simp [releaseOpen, releasable, hactive, hquiesced]
  case window =>
    intro s b m fid w h hfid hwin hpage hbase hpages hend hcover
    refine cmd_done h (setDmaWindow_inRange hfid hwin hpage hbase hpages hend) (if_neg ?_)
    simpa using hcover
  case windowRefused =>
    intro s b m fid w r h hfid hwin hpage hbase hpages hend hr hold hnew
    refine cmd_no h (setDmaWindow_inRange hfid hwin hpage hbase hpages hend) (if_pos ?_) (by decide)
    exact List.any_eq_true.mpr ⟨r, hr, by simp [hold, hnew]⟩
  case expert =>
    intro s b m fid rawTable rawHook h hfid h0 hlocks
    refine cmd_done h (firstBad_all (by simp [hfid, h0])) (if_neg ?_)
    rcases hlocks with hlocks | hlocks | hlocks <;> simp [hlocks]
  case grant =>
    intro s b m fid items h hrange habsent hresetting hfits
    refine cmd_done h hrange ?_
    simp only [habsent, hresetting, decide_false, Bool.or_self, Bool.false_eq_true, if_false, hfits]
  case read =>
    intro s b m fid h hfid habsent
    refine ⟨_, cmd_ok h (firstBad_all (by simp [hfid])) (if_neg habsent), rfl, ⟨_, rfl⟩⟩
  case declare =>
    intro s b m v h hv
    exact cmd_done h (firstBad_all (by simp [hv])) rfl

end Sys2Proof.Machine

/-! PROOFS. The events of the PCI Express endpoint (O28). -/

namespace Sys2Proof.Machine

/-- A write of another power state reaches PF0 or PF1 (R367, R368). -/
theorem powerState_admits {s : State} {fid d : Nat} (hfid : fid ≤ 1) (hd : d ∈ [0, 1, 3]) (hreach : cfgReach s fid = true)
    (hnew : (pciOf s fid).dstate ≠ d) :
    ¬(decide (1 < fid) || (decide (d ≠ 0) && decide (d ≠ 1) && decide (d ≠ 3)) || !cfgReach s fid ||
      decide ((pciOf s fid).dstate = d)) = true := by
  have hd : d = 0 ∨ d = 1 ∨ d = 3 := by simpa using hd
  simp only [hreach, hnew, decide_eq_false (Nat.not_lt.mpr hfid), Bool.not_true, decide_false, Bool.or_false, Bool.false_or]
  rcases hd with rfl | rfl | rfl <;> decide

/-- Settles O28: each event finds the function reachable and its own condition met, and acts. -/
theorem pciRowsComplete : Obligations.PciRowsComplete := by
  unfold Obligations.PciRowsComplete
  refine ⟨?completion, ?timeout, ?quarantineEnd, ?inta, ?disable, ?unmask, ?bmeClear, ?bmeSet, ?flr, ?flrEnd, ?sriov,
    ?power0, ?power1, ?pme, ?wake, ?linkUp, ?linkUpB⟩
  case completion =>
    intro s link tag i ok ep data r hread hintime
    refine congrArg Host.Outcome.next ?_
    simp only [hread, if_neg (Nat.not_le.mpr hintime)]
  case timeout =>
    intro s link tag i r hread hlate
    refine congrArg Host.Outcome.next ?_
    simp only [hread, if_pos hlate]
  case quarantineEnd =>
    intro s link tag t fid hheld hdue
    refine congrArg Host.Outcome.next ?_
    simp only [hheld, if_pos hdue]
  case inta =>
    intro s hup hl23 hchanged
    refine congrArg Host.Outcome.next ?_
    simp [intaSync, hup, hl23, hchanged]
  case disable =>
    intro s v hreach
    exact congrArg Host.Outcome.next (if_pos hreach)
  case unmask =>
    intro s fid vec hfid hreach
    exact congrArg Host.Outcome.next (if_neg (by simpa [hfid] using hreach))
  case bmeClear =>
    intro s fid hreach hbme
    exact congrArg Host.Outcome.next (if_pos (by simp [hreach, hbme]))
  case bmeSet =>
    intro s fid hreach
    exact congrArg Host.Outcome.next (if_pos hreach)
  case flr =>
    intro s fid hreach
    exact congrArg Host.Outcome.next (if_neg (by simp [hreach]))
  case flrEnd =>
    intro s fid t hflr
    exact congrArg Host.Outcome.next (if_pos (by simp [hflr]))
  case sriov =>
    intro s numVfs hnum hreach
    refine ⟨congrArg Host.Outcome.next ?_, congrArg Host.Outcome.next ?_, congrArg Host.Outcome.next ?_⟩
    · cases hari : s.pci.ari <;> simp [hreach, hnum, hari]
    · simp [hreach, hnum]
    · simp [hreach]
  case power0 =>
    intro s d hd hreach hnew
    exact congrArg Host.Outcome.next (if_neg (powerState_admits (by decide) hd hreach hnew))
  case power1 =>
    rintro s t d hd hreach hnew rfl
    exact congrArg Host.Outcome.next (if_neg (powerState_admits (by decide) hd hreach hnew))
  case pme =>
    intro s hup hl23
    exact congrArg Host.Outcome.next (if_pos (by simp [hup, hl23]))
  case wake =>
    intro s row
    rfl
  case linkUp =>
    rintro s t rate width flit hmain hperst hrate hwidth rfl
    refine congrArg Host.Outcome.next ?_
    simp only [hmain, hperst, Nat.mod_eq_of_lt hrate, Nat.mod_eq_of_lt hwidth, Bool.not_true, ne_eq, not_true_eq_false,
      decide_false, Bool.false_and, Bool.or_self, Bool.false_eq_true, if_false]
  case linkUpB =>
    intro s rate width flit hmain hperst hrate hwidth hbif
    refine congrArg Host.Outcome.next ?_
    simp only [hmain, hperst, hbif, Nat.mod_eq_of_lt hrate, Nat.mod_eq_of_lt hwidth, Bool.not_true, ne_eq, Nat.one_ne_zero,
      not_false_eq_true, decide_true, Bool.true_and, Bool.or_self, Bool.false_eq_true, if_false, if_true]

end Sys2Proof.Machine

/-! PROOFS. The step-table banks (O12): their commands and register writes, verification, the step window, the scrubber,
dispatch, and the return of parked packets. -/

namespace Sys2Proof.Machine

section Banks

variable {s b : State} {bank t : Nat} {d : TableDecl}

/-! ## Reads of a bank (R62, R69, R77) -/

/-- What a filter drops is not read. -/
theorem tget_tfilter_eq_none {α : Type} {f : Nat → α → Bool} {i : Nat} (hf : ∀ x, f i x = false) (l : Tbl α) :
    tget (tfilter l f) i = none := by
  induction l with
  | nil => rfl
  | cons e l ih =>
    obtain ⟨k, v⟩ := e
    by_cases hk : k = i
    · subst hk
      simpa [tfilter, hf] using ih
    · cases hv : f k v
      · simpa [tfilter, hv] using ih
      · simpa [tfilter, hv, tget, hk] using ih

/-- What is read from a filtered table passes the filter. -/
theorem tget_tfilter_some {α : Type} {f : Nat → α → Bool} {i : Nat} {x : α} {l : Tbl α}
    (h : tget (tfilter l f) i = some x) :
    f i x = true := by
  induction l with
  | nil => cases h
  | cons e l ih =>
    obtain ⟨k, v⟩ := e
    cases hv : f k v
    · exact ih (by simpa [tfilter, hv] using h)
    · by_cases hk : k = i
      · subst hk
        have hx : v = x := by simpa [tfilter, hv, tget] using h
        exact hx ▸ hv
      · exact ih (by simpa [tfilter, hv, tget, hk] using h)

/-- A LOADING or SEALED bank is discarded (R62). -/
theorem discard_taken (h : (bankOf b bank).st = .loading ∨ (bankOf b bank).st = .sealed) :
    Machine.discard b bank = (true, setBank b bank { failIndex := (bankOf b bank).failIndex }) :=
  if_pos (by simpa using h)

theorem bankOf_discard (h : (bankOf b bank).st = .loading ∨ (bankOf b bank).st = .sealed) :
    bankOf (Machine.discard b bank).2 bank = { failIndex := (bankOf b bank).failIndex } := by
  rw [discard_taken h]
  exact bankOf_setBank _ _ _

/-- A flip with a target whose ports fit is done (R63). -/
theorem requestFlip_done (htarget : flipTarget b = some t) (hdecl : (bankOf b t).decl = some d)
    (hports : portsMatch b d = true) : requestFlip b = (true, flipTo b t) := by
  simp only [requestFlip, htarget, hdecl, hports, if_true]

/-- A read of host memory in the device's windows brings its data (R322, R420). -/
theorem imageRead_ok {addr len : Nat} (hwin : inWindows b 0xFFF addr len false = true) (hissue : mayIssue b 0xFFF = true) :
    imageRead b addr len .ok = (none, rowRead b 0xFFF addr len .ok) := by
  simp only [imageRead, hwin, hissue, Bool.not_true, Bool.false_eq_true, if_false]

/-- No command in the background waits for a bank that none of them holds. -/
theorem sealCommand_none (h : ∀ g ∈ b.stw.bg, g.objs.contains (.bank bank) = false) : sealCommand b bank = none :=
  List.find?_eq_none.mpr (fun g hg => by rw [h g hg, Bool.and_false]; decide)

/-- After its pass over a bank the scrubber finds no error there that it could correct (R69). -/
theorem scrubBank_corrects (s : State) (bank i : Nat) : tget (bankOf (scrubBank s bank) bank).ecc i ≠ some 1 := by
  have hbank : bankOf (scrubBank s bank) bank =
      { bankOf s bank with ecc := tfilter (bankOf s bank).ecc (fun _ k => k ≠ 1) } := bankOf_setBank _ _ _
  rw [hbank]
  intro h
  have hpass := tget_tfilter_some (f := fun _ k => decide (k ≠ 1)) (l := (bankOf s bank).ecc) h
  exact absurd hpass (by decide)

/-- The pass over bank B leaves bank A as it is. -/
theorem scrubBank_one_bankA (s : State) : (scrubBank s 1).seq.bankA = s.seq.bankA := by
  have hseq : ∀ s : State, (countDev s cStepEccCorrected).seq = s.seq := fun s =>
    ((countDev_only cStepEccCorrected (m := 0x10) rfl).mpr (Only.refl _ s)).eq .seq (by decide)
  have hcounted : ∀ (s : State) (e : Nat × Nat),
      (countDev { s with seq := { s.seq with eccCorrected := e.1 % 65536 } } cStepEccCorrected).seq.bankA = s.seq.bankA :=
    fun s e => (congrArg Seq.bankA (hseq _)).trans rfl
  exact foldl_inv (fun s : State => s.seq.bankA) _ hcounted _ s

/-- A write of the high half, after one of the low half of the same step, commits both (R77). -/
theorem stepHi_commits {i v lo : Nat} (hreach : memReach s 0 = true) (hi : i < 65536)
    (hwritable : (bankOf s s.seq.winBank).st.writable = true) (hlatched : s.seq.loLatched = some (i, lo)) :
    exec (.stepHiWrite i v) s = .next (
      let s1 := setBank s s.seq.winBank { bankOf s s.seq.winBank with
        st := .loading
        steps := tset (bankOf s s.seq.winBank).steps i (BitVec.ofNat 128 (lo + v % 2 ^ 64 * 2 ^ 64))
        ecc := tfilter (bankOf s s.seq.winBank).ecc (fun k _ => k % 65536 ≠ i) }
      { s1 with seq := { s1.seq with loLatched := none } }) := by
  refine congrArg Host.Outcome.next ((memWrite_reached hreach).trans ?_)
  simp only [hlatched]
  exact if_neg (by simp [hi, hwritable])

end Banks

/-- Settles O12: each command's parameters are in range, and its own rules' checks hold by its clause's hypotheses. -/
theorem bankRowsComplete : Obligations.BankRowsComplete := by
  unfold Obligations.BankRowsComplete
  refine ⟨?load, ?flip, ?flipGo, ?discard, ?discardRequest, ?sealRequest, ?sealed, ?unsealed, ?hook, ?stepLo, ?stepHi,
    ?peak, ?peakPart, ?scrub, ?dispatch, ?resume⟩
  case load =>
    intro s b m bank addr len img h hbank haddr hmin hmax hwritable hwin hissue himg
    refine cmd_bgOpen h (firstBad_all (by simpa [hbank, hmin] using ⟨haddr, hmax⟩)) ?_
    simp only [hwritable, imageRead_ok hwin hissue, himg, Bool.not_true, Bool.false_eq_true, if_false, if_true]
  case flip =>
    intro s b m t d h htarget hdecl hports
    refine cmd_done h rfl ?_
    simp only [requestFlip_done htarget hdecl hports]
  case flipGo =>
    intro s v t d hreach hgo htarget hdecl hports
    refine congrArg Host.Outcome.next ((memWrite_reached hreach).trans ?_)
    have hbit : bitOf 0 v = true := by simpa [bitOf] using hgo
    simp only [hbit, if_true, requestFlip_done htarget hdecl hports]
  case discard =>
    intro s b m bank h hbank hst
    refine ⟨cmd_done h (firstBad_all (by simp [hbank])) ?_, bankOf_discard hst⟩
    simp only [discard_taken hst]
  case discardRequest =>
    intro s bank hreach hbank hst
    exact ⟨congrArg Host.Outcome.next ((memWrite_reached hreach).trans (if_neg (Nat.not_lt.mpr hbank))), bankOf_discard hst⟩
  case sealRequest =>
    intro s bank hreach hbank hst
    refine congrArg Host.Outcome.next ((memWrite_reached hreach).trans ?_)
    exact (if_neg (Nat.not_lt.mpr hbank)).trans (if_pos hst)
  case sealed =>
    intro s bank hbank hst hchecks hfree
    refine congrArg Host.Outcome.next ?_
    have hsent : (sendBank (setBank s bank { bankOf s bank with
        st := .sealed, sealStatus := 0, bMax := sealedBMax (bankOf s bank) }) bank).stw = s.stw := by
      rw [((sendBank_only bank (m := 0x88000) rfl).mpr (Only.refl _ _)).eq .stw (by decide), setBank_stw]
    simp only [if_neg (Nat.not_lt.mpr hbank), hst, ne_eq, not_true_eq_false, if_false, sealBank, hchecks, sealCommand_none hfree,
      Option.any_none, Option.isSome_none, Bool.or_self, Bool.false_eq_true,
      sealCommand_none (bank := bank) (b := sendBank _ bank) (hsent ▸ hfree)]
  case unsealed =>
    intro s bank i st hbank hst hchecks hfree
    refine congrArg Host.Outcome.next ?_
    have hkept : sealCommand (setBank s bank { bankOf s bank with
        st := .loading, sealStatus := st.code, failIndex := i }) bank = none :=
      sealCommand_none (by rw [setBank_stw]; exact hfree)
    simp only [if_neg (Nat.not_lt.mpr hbank), hst, ne_eq, not_true_eq_false, if_false, sealBank, hchecks, Option.isSome_some,
      Bool.true_or, if_true, hkept]
  case hook =>
    intro s b m region fid addr len cur shares steps h hregion hfid hsteps haccess hlatency haddr hmin hmax hmod hheld hcur
      hwithin hown hshares hidle hwin hissue
    refine cmd_bgOpen h (firstBad_all ?_) ?_
    · simpa [hregion, hfid, hsteps, haccess, hlatency, hmin, hmax, hmod] using haddr
    · simp only [hheld, hcur, hwithin, hown, hshares, hidle, imageRead_ok hwin hissue, Bool.false_and, ne_eq,
        not_true_eq_false, Bool.not_true, Bool.or_self, Bool.false_eq_true, if_false]
  case stepLo =>
    intro s i v hreach hi hwritable
    refine ⟨_, congrArg Host.Outcome.next ((memWrite_reached hreach).trans (if_neg ?_)), rfl, bankOf_setBank _ _ _⟩
    simp [hi, hwritable]
  case stepHi =>
    intro s i v lo hreach hi hwritable hlatched
    have hbank : ∀ x : Bank, bankOf { setBank s s.seq.winBank x with
        seq := { (setBank s s.seq.winBank x).seq with loLatched := none } } s.seq.winBank = x := bankOf_setBank s _
    refine ⟨_, stepHi_commits hreach hi hwritable hlatched, rfl, ?_, ?_⟩
    · rw [hbank]
      exact tget_tset_self _ _ _
    · rw [hbank]
      exact tget_tfilter_eq_none (f := fun k _ => decide (k % 65536 ≠ i)) (by simp [Nat.mod_eq_of_lt hi]) _
  case peak =>
    intro s p off size hp hreach hoff hend hsize
    exact congrArg Host.Outcome.next (if_pos (by simp [hp, hreach, hoff, hend, hsize]))
  case peakPart =>
    intro s p off size hpart
    refine congrArg Host.Outcome.next (if_neg ?_)
    simp only [Bool.and_eq_true, decide_eq_true_eq, not_and]
    omega
  case scrub =>
    intro s hdue
    refine ⟨_, congrArg Host.Outcome.next (if_neg (Nat.not_lt.mpr hdue)), rfl, fun b i => ?_⟩
    by_cases hb : b = 0
    · subst hb
      have hA := scrubBank_corrects s 0 i
      rw [bankOf, if_pos rfl] at hA ⊢
      change tget (scrubBank (scrubBank s 0) 1).seq.bankA.ecc i ≠ some 1
      rwa [scrubBank_one_bankA]
    · have hB := scrubBank_corrects (scrubBank s 0) 1 i
      rw [bankOf, if_neg (by decide)] at hB
      rwa [bankOf, if_neg hb]
  case dispatch =>
    intro s p c b k rest hp hruns hhead hctx hcur hpath
    refine congrArg Host.Outcome.next ?_
    simp only [hhead, hctx, hcur]
    rw [if_pos (by simp [hp, hruns, hpath])]
  case resume =>
    intro s p ord c k cc hp hruns hk hctx hresult hturn
    refine congrArg Host.Outcome.next ?_
    simp only [hk, hctx, hresult]
    rw [if_pos (by simp [hp, hruns, hturn])]

end Sys2Proof.Machine

/-! PROOFS. The identity, counter and Almanac commands (O13), and the registers and events of the counters (O14). -/

namespace Sys2Proof.Machine

section StewardCommands

variable {s b : State} {m : Meta} {op : Nat} {objs : List Obj} {rld : Bool}

/-- An accepted command's packet does not wait on its path. -/
theorem accepts_cmdWaits (h : accepts s m op objs rld = true) : cmdWaits s m op = false := by
  simp only [accepts, Bool.and_eq_true, Bool.not_eq_true'] at h
  exact h.1.1.1.1.1.1

/-- No life-cycle change is under way where a command is accepted (R457). -/
theorem accepts_lcChange (h : accepts s m op objs rld = true) : s.stw.lcChange = false := by
  simp only [accepts, Bool.and_eq_true, Bool.not_eq_true'] at h
  exact h.1.1.1.1.1.2

/-! ## Life-cycle changes (R456 to R458) -/

theorem lcChange_of_life {t : State} (h : t.life = s.life) : t.stw.lcChange = s.stw.lcChange := congrArg Life.change h

theorem flashErase_beginWipes_lcChange (s : State) : (flashErase (beginWipes s)).stw.lcChange = s.stw.lcChange :=
  lcChange_of_life (((flashErase_only rfl).mpr ((beginWipes_only rfl).mpr (Only.refl 0x2221d1 s))).eq .life (by decide))

theorem beginLcChange_lcChange (s : State) (target : Nat) : (beginLcChange s target).stw.lcChange = true :=
  flashErase_beginWipes_lcChange _

theorem endCommand_lcChange (s : State) (m : Meta) (op : Nat) (i : PktInfo) (e : CmdEnd) (quiet : Bool) :
    (endCommand s m op i e quiet).stw.lcChange = s.stw.lcChange :=
  lcChange_of_life (((endCommand_only m op i e quiet rfl).mpr (Only.refl 0x8dbff s)).eq .life (by decide))

theorem began_lcChange (s : State) (m : Meta) (op : Nat) : (began s m op).stw.lcChange = s.stw.lcChange := by
  obtain ⟨l, r, hb⟩ := began_eq s m op
  rw [hb]

/-- An accepted command finds no life-cycle change under way. -/
theorem starts_lcChange {m : Meta} {op : Nat} {objs : List Obj} (h : Starts s b m op objs rld) : b.stw.lcChange = false := by
  obtain ⟨hacc, rfl⟩ := h
  exact (began_lcChange s m op).trans (accepts_lcChange hacc)

/-- The own rules of CHANGE_LIFE_CYCLE_STATE (R456, R457). -/
def lcRules (target : Nat) (sig : List Nat) (s : State) : CmdOut :=
  match lcAuthority s.alm.lcState target with
  | none => no s .refusedState
  | some owner =>
    if !lcQuiet s then no s .refusedState
    else if !authoritySigOk owner s.fw.ownerKey (lcDigest s target) sig then no s .failedAuth
    else bgOpen (beginLcChange s target) (s.now + 60000000000)

/-- CHANGE_LIFE_CYCLE_STATE runs by its own rules, and draws a nonce unless it waits or has begun the change (R456). -/
theorem changeLifeCycleState_eq (s : State) (m : Meta) (target : Nat) (sig : List Nat) :
    exec (.changeLifeCycleState m target sig) s = .next (
      let t := runCmd m 0x0A05 [] false (firstBad [(0, target ≤ 4), (1, sig.length = 96)]) (lcRules target sig) s
      if t.stw.lcChange && !s.stw.lcChange then t else if cmdWaits s m 0x0A05 then t else freshNonce t) := rfl

/-- A command that an authority has signed begins the change, and its nonce stays until the change ends (R456). -/
theorem changeLifeCycleState_begins {target : Nat} {sig : List Nat} {owner : Bool} (h : Starts s b m 0x0A05 [] false)
    (htarget : target ≤ 4) (hsig : sig.length = 96) (hauth : lcAuthority b.alm.lcState target = some owner)
    (hquiet : lcQuiet b = true) (hok : authoritySigOk owner b.fw.ownerKey (lcDigest b target) sig = true) :
    exec (.changeLifeCycleState m target sig) s
      = bgIn s m 0x0A05 [] (beginLcChange b target) none (b.now + 60000000000) := by
  have hran := cmd_bgOpen (bad := firstBad [(0, target ≤ 4), (1, sig.length = 96)]) (f := lcRules target sig)
    (t := beginLcChange b target) (d := b.now + 60000000000) h
    (firstBad_all (by simp [htarget, hsig])) (by simp [lcRules, hauth, hquiet, hok])
  have hnow : (beginLcChange b target).stw.lcChange = true := beginLcChange_lcChange b target
  rw [changeLifeCycleState_eq, Host.Outcome.next.inj hran]
  exact congrArg Host.Outcome.next (if_pos (by simp [hnow, accepts_lcChange h.1]))

/-- A command whose signature is not its authority's fails, and a new nonce is drawn at once (R456). -/
theorem changeLifeCycleState_fails {target : Nat} {sig : List Nat} {owner : Bool} (h : Starts s b m 0x0A05 [] false)
    (htarget : target ≤ 4) (hsig : sig.length = 96) (hauth : lcAuthority b.alm.lcState target = some owner)
    (hquiet : lcQuiet b = true) (hbad : authoritySigOk owner b.fw.ownerKey (lcDigest b target) sig = false) :
    ∃ t, endsIn s m 0x0A05 b { status := .failedAuth } = .next t ∧
      exec (.changeLifeCycleState m target sig) s = .next (freshNonce t) := by
  have hran := cmd_no (bad := firstBad [(0, target ≤ 4), (1, sig.length = 96)]) (f := lcRules target sig)
    (t := b) (st := .failedAuth) h
    (firstBad_all (by simp [htarget, hsig])) (by simp [lcRules, hauth, hquiet, hbad]) (by decide)
  refine ⟨_, rfl, ?_⟩
  rw [changeLifeCycleState_eq, Host.Outcome.next.inj hran]
  simp [endCommand_lcChange, starts_lcChange h, accepts_cmdWaits h.1]

end StewardCommands

/-- Settles O13: each command's parameters are in range, and its own rules' checks hold by its clause's hypotheses. -/
theorem stewardCommandsComplete : Obligations.StewardCommandsComplete := by
  unfold Obligations.StewardCommandsComplete
  refine ⟨?identity, ?snapshot, ?trace, ?crier, ?stop, ?start, ?almanac, ?calendar, ?wakeClear, ?wakeNow, ?wakeAccepted,
    ?lifetime, ?lifeCycle, ?idle, ?wake, ?powerDown, ?powerUp⟩
  case identity =>
    intro s b m h
    exact cmd_ok h rfl rfl
  case snapshot =>
    intro s b m fid h hset hmbx
    refine cmd_ok h (firstBad_all (by simp [hset])) (if_neg ?_)
    simpa using fun hpath hne => (hmbx hpath).resolve_left hne
  case trace =>
    intro s b m n mask h hn hmask
    exact cmd_done h (firstBad_all (by simpa using ⟨hn, hmask⟩)) rfl
  case crier =>
    intro s b m interval dest addr port channel templates h hmin hmax hdest haddr hport hchan htmpl hidle hobs
    refine cmd_done h (firstBad_all ?_) ?_
    · simpa [hmin, hmax, hdest, hport, hchan, htmpl] using haddr
    · simp only [hidle, Bool.false_eq_true, if_false]
      exact if_neg (by simpa [observerOk] using hobs)
  case stop =>
    intro s b m h
    exact cmd_done h rfl rfl
  case start =>
    intro s b m h hdest hidle
    refine cmd_done h rfl ?_
    simp only [hdest, hidle, Nat.one_ne_zero, Bool.false_eq_true, if_false]
    rfl
  case almanac =>
    intro s b m h
    exact cmd_ok h rfl rfl
  case calendar =>
    intro s b m sec ns h hmin hsec hns
    exact cmd_done h (firstBad_all (by simpa [hmin, hns] using hsec)) rfl
  case wakeClear =>
    intro s b m h
    exact cmd_done h rfl rfl
  case wakeNow =>
    intro s b m instant h hnone hlater hrange
    have hbase : wakeBase s m = (timeNow s, calNs s) := by simp only [wakeBase, hnone]
    refine cmd_done h (firstBad_all (by simpa using hrange)) ?_
    simp only [hbase]
    rw [if_neg (by omega), if_neg (by omega)]
  case wakeAccepted =>
    intro s b m instant a h hsome hlater hrange
    have hbase : wakeBase s m = (a.ns, a.cal) := by simp only [wakeBase, hsome]
    refine cmd_done h (firstBad_all (by simpa using hrange)) ?_
    simp only [hbase]
    rw [if_neg (by omega), if_neg (by omega)]
  case lifetime =>
    intro s b m h
    exact cmd_ok h rfl rfl
  case lifeCycle =>
    intro s b m target sig owner h htarget hsig hauth hquiet
    split
    next hok =>
      exact ⟨beginLcChange_lcChange b target, changeLifeCycleState_begins h htarget hsig hauth hquiet hok⟩
    next hbad =>
      exact changeLifeCycleState_fails h htarget hsig hauth hquiet (Bool.eq_false_of_not_eq_true hbad)
  case idle =>
    intro s b m domain limitUs h hdomain hmin hmax
    exact cmd_done h (firstBad_all (by simpa [idleDomains, hmin, hmax] using hdomain)) rfl
  case wake =>
    intro s b m h
    exact cmd_done h rfl rfl
  case powerDown =>
    intro s b m domain limitMs h hdomain
    have hheld : domain ∈ holdDomains := by simpa [holdDomains] using hdomain
    refine ⟨fun hidle => ?_, fun hmin hmax => ?_, ?_⟩
    · refine cmd_done h (firstBad_all (by simp [hheld])) ?_
      simp [hidle]
    · exact cmd_bgOpen h (firstBad_all (by simp [hheld, hmin, hmax])) rfl
    · exact cmd_done h (firstBad_all (by simp [hheld])) rfl
  case powerUp =>
    intro s b m domain h hdomain hheld
    have hdomain : domain ∈ holdDomains := by simpa [holdDomains] using hdomain
    refine ⟨fun hstopped => ?_, fun hruns => ?_⟩
    · refine cmd_fore h (firstBad_all (by simp [hdomain])) ?_
      simp [hheld, hstopped]
    · refine cmd_done h (firstBad_all (by simp [hdomain])) ?_
      simp [hheld, hruns]

/-! ## Counters and the Crier -/

theorem keepValues_dueExports (s : State) (fid n : Nat) : (keepValues s fid n).cnt.dueExports = s.cnt.dueExports := rfl

theorem keepAll_dueExports (sets : List (Nat × Nat)) (s : State) :
    (sets.foldl (fun s e => keepValues s e.1 e.2) s).cnt.dueExports = s.cnt.dueExports := by
  induction sets generalizing s with
  | nil => rfl
  | cons e t ih => exact (ih _).trans (keepValues_dueExports s e.1 e.2)

/-- TIME passes a boundary beyond the last one exported in the nanosecond since `old` (R436, R437). -/
theorem boundaryReached_of_passed {old s : State} {l k : Nat} (hexp : s.cnt.exporting = true)
    (hruns : s.mac.timeRunning = true) (hlast : s.cnt.lastExport = some l) (hk : boundaryNow s = k) (hl : l < k)
    (hold : boundaryNow old < k) : boundaryReached old s = true := by
  simp only [boundaryReached, hexp, hruns, hlast, hk, hl, hold, decide_true, Bool.true_or, Bool.and_true]

/-- Settles O14: each row's clause is the branch of its definition that the clause's hypotheses choose. -/
theorem counterRowsComplete : Obligations.CounterRowsComplete := by
  unfold Obligations.CounterRowsComplete
  refine ⟨?snap, ?copied, ?sent, ?boundary⟩
  case snap =>
    intro s v hreach hidle hslot hset
    refine congrArg Host.Outcome.next ((memWrite_reached hreach).trans ?_)
    simp only [hidle, hset, show ¬ 239 < bits 7 0 v by omega, decide_false, Bool.not_true, Bool.or_false,
      Bool.false_eq_true, if_false]
    cases bitOf 31 v <;> rfl
  case copied =>
    intro s x hgo hx
    subst hx
    exact congrArg Host.Outcome.next (if_neg (by simp [hgo]))
  case sent =>
    intro s recs t hdue
    refine congrArg Host.Outcome.next ?_
    simp only [hdue]
  case boundary =>
    intro old s l k hexp hruns hlast hk hl hold hinterval
    have hreached : boundaryReached old s = true :=
      boundaryReached_of_passed hexp hruns hlast hk.symm hl (by simpa only [boundaryNow, ← hinterval] using hold)
    have hdue := keepAll_dueExports (exportSets s) s
    rw [show noteExport old s = _ from if_neg (by simp [hreached])]
    exact ⟨congrArg some hk.symm, congrArg (· ++ _) hdue⟩

end Sys2Proof.Machine

/-! PROOFS. The twin commands (O11): each is DONE, or goes on in the background, with its effect. -/

namespace Sys2Proof.Machine

theorem twinLink_link (s : State) (l : Nat) : (twinLink s l).twn.link = l := by
  unfold twinLink
  split
  next h => exact h
  next => rfl

theorem twinDown_link (s : State) : (twinDown s).twn.link = 0 := twinLink_link s 0

/-- A link in another state than before counts the change (R377). -/
theorem twinLink_of_ne {s : State} {l : Nat} (h : s.twn.link ≠ l) :
    twinLink s l = { s with twn := { s.twn with link := l, linkChanges := s.twn.linkChanges + 1 } } := if_neg h

/-- A role under a higher epoch is taken; out of FENCED only STANDBY, at the peer's epoch or above (R380, R383). -/
theorem roleOk_of {s : State} {role epoch : Nat} (htaking : s.twn.role ≠ roleTaking) (hepoch : s.twn.epoch < epoch)
    (hfenced : s.twn.role = roleFenced → role = roleStandby ∧ s.twn.peerEpoch ≤ epoch) : roleOk s role epoch = true := by
  by_cases h : s.twn.role = roleFenced
  · simp [roleOk, htaking, hepoch, hfenced h]
  · simp [roleOk, htaking, hepoch, h]

/-- A disarm logs the end of the arm with its cause (R392). -/
theorem endArm_armed {s : State} (cause : Nat) (h : s.twn.armed = true) :
    endArm s cause = logEvent { s with twn := { s.twn with armed := false } } 0x0078 0xFFF [.num 1 cause] := if_pos h

/-- Settles O11: each command's own checks hold by its clause's hypotheses. -/
theorem twinCommandsComplete : Obligations.TwinCommandsComplete := by
  unfold Obligations.TwinCommandsComplete
  refine ⟨?pin, ?disable, ?train, ?trainRestored, ?enabled, ?role, ?pair, ?arm, ?disarm, ?unpair, ?read⟩
  case pin =>
    intro s b m unit h hunit hlink
    exact cmd_done h (firstBad_all (by simpa using hunit)) (if_neg (not_not.mpr hlink))
  case disable =>
    intro s b m policy h hpolicy hpeer
    refine ⟨cmd_done h (firstBad_all (by simpa using hpolicy)) ?_, twinDown_link _⟩
    exact if_neg hpeer
  case train =>
    intro s b m policy h hpolicy hpeer hlink hon
    refine cmd_done h (firstBad_all (by simpa using hpolicy)) ((if_neg hpeer).trans ?_)
    simp only [hon, hlink, isOne]
    exact congrArg ok (twinLink_of_ne (by simp [hlink]))
  case trainRestored =>
    intro s b m policy h hpolicy hpeer hlink hoff
    refine cmd_done h (firstBad_all (by simpa using hpolicy)) ((if_neg hpeer).trans ?_)
    have hkept : (restoreTwin b).twn = b.twn := ((restoreTwin_only rfl).mpr (Only.refl 0x200 b)).eq .twn (by decide)
    simp only [hoff, hlink, isOne]
    exact congrArg ok (twinLink_of_ne (by simp [hkept, hlink]))
  case enabled =>
    intro s b m policy h hpolicy hpeer hlink hon
    refine cmd_done h (firstBad_all (by simpa using hpolicy)) ((if_neg hpeer).trans ?_)
    simp [hon, hlink, isOne]
  case role =>
    intro s b m role epoch h hrole hepoch htaking hmore hfenced
    exact cmd_done h (firstBad_all (by simpa [hrole] using hepoch)) (if_pos (roleOk_of htaking hmore hfenced))
  case pair =>
    intro s b m h hrole hlink hpeer
    exact ⟨_, rfl, cmd_bgOpen h rfl (if_neg (by simp [hrole, hlink, hpeer]))⟩
  case arm =>
    intro s b m epoch deadline flip h hepoch hdeadline hlater hrole hpaired hlink hsync hown hpeer hflip
    refine cmd_done h (firstBad_all (by simpa using ⟨hepoch, hdeadline⟩)) ((if_neg (by omega)).trans (if_pos ?_))
    cases flip <;> simp_all
  case disarm =>
    intro s b m h harmed
    exact cmd_done h rfl ((if_pos harmed).trans (congrArg ok (endArm_armed 2 harmed)))
  case unpair =>
    intro s b m h hpaired
    exact cmd_done h rfl (if_neg (by simp [hpaired]))
  case read =>
    intro s b m h
    exact cmd_ok h rfl rfl

end Sys2Proof.Machine

/-! PROOFS. The events of the twin link (O36): the link, heartbeats, what a standby applies and the primary takes back. -/

namespace Sys2Proof.Machine

section TwinRows

variable {s t u : State} {h : TwinHdr}

/-! ## What a standby applies (R379, R384, R386 to R388) -/

/-- With no command before it, a frame that is no command is applied at once and acknowledged. -/
theorem takeFrame_applied {w : TwinWork} (a : Applies s h t) (hw : w.isCommand = false) (hq : t.twn.rxq = [])
    (hruns : twinRuns t = false) : takeFrame s h w = twinAck (applyWork t w) none := by
  simp [takeFrame_applies a, hw, hq, hruns]

/-- A frame waits behind a command that has not ended (R384). -/
theorem takeFrame_waits (a : Applies s h t) (hwait : t.twn.rxq ≠ [] ∨ twinRuns t = true) (w : TwinWork) :
    takeFrame s h w = twinAck { t with twn := { t.twn with rxq := t.twn.rxq ++ [w] } } none := by
  rw [takeFrame_applies a]
  refine if_pos ?_
  rcases hwait with hq | hruns
  · simp [hq]
  · simp [hruns]

/-- A mirrored command waits in the order of the frames, and is taken as far as the Steward's turn has come to it. -/
theorem mirroredCommand_waits {bytes : List Nat} (a : Applies s h t)
    (hu : u = twinAck { t with twn := { t.twn with rxq := t.twn.rxq ++ [.command bytes] } } none) :
    exec (.mirroredCommand h bytes) s
      = .next (if u.stw.ready && !stewardBusy u && nextPos u = some 3 then visitTwin u false else u) := by
  have htaken : takeFrame s h (.command bytes) = u := by
    rw [takeFrame_applies a, hu]
    exact if_pos rfl
  have hmoved : u.twn.rxSeq ≠ s.twn.rxSeq := htaken ▸ takeFrame_moves a bytes
  refine congrArg Host.Outcome.next ?_
  simp only [htaken, hmoved, ne_eq, not_false_eq_true, decide_true, Bool.true_and]

theorem applyWork_lease {sa k : Nat} {a : Sa} (hsa : saOf t sa = some a) :
    applyWork t (.lease sa k) = setSa t sa (a.leaseRecord k) := by simp only [applyWork, hsa]

theorem applyWork_snapshot {sa top : Nat} {a : Sa} (hsa : saOf t sa = some a) :
    applyWork t (.snapshot sa top) = setSa t sa (a.jump top) := by simp only [applyWork, hsa]

theorem applyWork_storage {n : Nat} {lines : List (Nat × List Nat)} {c : Conn} (hc : connOf t n = some c) :
    applyWork t (.storage n lines)
      = setConn t n ((lines.filter (fun l => l.1 < 32)).foldl (fun c l => c.withLine t.now l) c) := by
  simp only [applyWork, putLines, hc]

/-! ## Acknowledgements (R379, R385, R386) -/

/-- An accepted frame acts on the state that its sender's role and epoch leave. -/
theorem twinReceive_accepted (hlink : s.twn.link = 3) (htag : h.tagOk = true) (hres : resolve s h = (true, t))
    (f : State → State) : twinReceive s h f = f t := by
  simp [twinReceive, hlink, htag, hres]

/-- The result of a mirrored command that no reply waits for is noted where it belongs to a full copy. -/
theorem takeResult_of_none {q status : Nat} (hw : t.twn.waits.find? (fun w => w.seq = q) = none) :
    takeResult t q status = if t.twn.copies.contains q then
      { t with twn := { t.twn with copies := t.twn.copies.erase q, copyBad := t.twn.copyBad || !copyTaken status } }
      else t := by
  simp only [takeResult, hw]

theorem takeResult_same {q status : Nat} {w : MirrorWait} (hw : t.twn.waits.find? (fun w => w.seq = q) = some w)
    (hsame : w.fin.status.code = status) : takeResult t q status = releaseWait t w := by
  simp only [takeResult, hw, hsame, if_true]

theorem takeResult_differs {q status : Nat} {w : MirrorWait} (hw : t.twn.waits.find? (fun w => w.seq = q) = some w)
    (hdiff : w.fin.status.code ≠ status) :
    takeResult t q status = diverged (releaseWait t w) w.opcode w.fin.status.code status := by
  simp only [takeResult, hw, hdiff.symm, if_false]

/-! ## Resends (R379) -/

/-- A frame that is due for a resend goes out again, or ends the link after its eighth resend. -/
theorem twinResend_due {seq : Nat} {f : TwinOut} (hf : s.twn.outq.find? (fun f => f.seq = seq) = some f)
    (hdue : f.sentAt + 4000 ≤ s.now) (hlink : s.twn.link = 3) : exec (.twinResend seq) s = .next (
      if 8 ≤ f.resends then isoCheck (twinDown s) 5
      else
        let g : TwinOut := { f with resends := f.resends + 1, sentAt := s.now }
        let s1 := { s with twn := { s.twn with outq := s.twn.outq.map (fun x => if x.seq = seq then g else x) } }
        countDev (emit s1 (.twin (twinDir s) (twinBytes f.type f.role f.flags f.epoch f.seq f.body))) cTwinLinkResend) := by
  refine congrArg Host.Outcome.next ?_
  simp only [hf]
  exact if_neg (by simp [hlink, hdue])

end TwinRows

/-- Settles O36: what each event does is the branch that its clause's hypotheses choose. -/
theorem twinRowsComplete : Obligations.TwinRowsComplete := by
  unfold Obligations.TwinRowsComplete
  refine ⟨?comesUp, ?otherPeer, ?goesDown, ?sent, ?received, ?marked, ?missed, ?deadline, ?command, ?lease, ?snapshot,
    ?storage, ?image, ?waits, ?again, ?gap, ?acked, ?resent, ?resendsOut, ?timeout, ?takeover⟩
  case comesUp =>
    intro s t unit hon hlink hlanes hdom hpinned hpeer ht
    subst ht
    refine congrArg Host.Outcome.next ((if_neg (by simp [hon, hlink, hlanes, hdom])).trans ?_)
    exact if_neg (by simp [← hpeer, hpeer ▸ hpinned])
  case otherPeer =>
    intro s unit ok hon hlink hlanes hdom hother
    refine congrArg Host.Outcome.next ((if_neg (by simp [hon, hlink, hlanes, hdom])).trans ?_)
    exact if_pos (by simpa [or_assoc] using hother)
  case goesDown =>
    intro s hlink
    exact congrArg Host.Outcome.next (if_neg hlink)
  case sent =>
    intro s hlink hnot
    exact congrArg Host.Outcome.next (if_neg (by simp [hlink, hnot]))
  case received =>
    intro s t h ok hlink htag hepoch hres
    refine congrArg Host.Outcome.next ?_
    simp only [hlink, htag, hres, ne_eq, not_true_eq_false, Bool.not_true, Bool.false_eq_true, if_false,
      show ¬ h.epoch < s.twn.epoch by omega]
  case marked =>
    intro s hwatch hended hin
    exact congrArg Host.Outcome.next ((if_neg (by simpa [hwatch] using hended)).trans (if_pos hin))
  case missed =>
    intro s t hwatch hended hout ht
    subst ht
    exact congrArg Host.Outcome.next ((if_neg (by simpa [hwatch] using hended)).trans (if_neg (by simp [hout])))
  case deadline =>
    intro s harmed hdeadline
    exact congrArg Host.Outcome.next (if_pos (by simp [harmed, hdeadline]))
  case command =>
    intro s t u h bytes a hu
    exact mirroredCommand_waits a hu
  case lease =>
    intro s t h sa k a happlies hq hruns hsa
    exact congrArg Host.Outcome.next
      ((takeFrame_applied happlies rfl hq hruns).trans (congrArg (twinAck · none) (applyWork_lease hsa)))
  case snapshot =>
    intro s t h sa top a happlies hq hruns hsa
    exact congrArg Host.Outcome.next
      ((takeFrame_applied happlies rfl hq hruns).trans (congrArg (twinAck · none) (applyWork_snapshot hsa)))
  case storage =>
    intro s t h n lines c happlies hq hruns hc
    exact congrArg Host.Outcome.next
      ((takeFrame_applied happlies rfl hq hruns).trans (congrArg (twinAck · none) (applyWork_storage hc)))
  case image =>
    intro s t h steps decl happlies hq hruns
    exact congrArg Host.Outcome.next (takeFrame_applied happlies rfl hq hruns)
  case waits =>
    intro s t h sa k n lines steps decl happlies hwait
    have htaken := takeFrame_waits happlies hwait
    exact ⟨congrArg Host.Outcome.next (htaken _), congrArg Host.Outcome.next (htaken _),
      congrArg Host.Outcome.next (htaken _), congrArg Host.Outcome.next (htaken _)⟩
  case again =>
    intro s u h sa k n lines steps decl haccepts hbefore
    have htaken := takeFrame_repeat haccepts hbefore
    exact ⟨congrArg Host.Outcome.next (htaken _), congrArg Host.Outcome.next (htaken _),
      congrArg Host.Outcome.next (htaken _), congrArg Host.Outcome.next (htaken _)⟩
  case gap =>
    intro s u h sa k n lines steps decl haccepts hbefore hseq
    have htaken := takeFrame_gap haccepts hbefore hseq
    exact ⟨congrArg Host.Outcome.next (htaken _), congrArg Host.Outcome.next (htaken _),
      congrArg Host.Outcome.next (htaken _), congrArg Host.Outcome.next (htaken _)⟩
  case acked =>
    intro s t h acked hlink htag hres
    have hreceived := twinReceive_accepted hlink htag hres
    refine ⟨congrArg Host.Outcome.next (hreceived _), fun q status hw => ?_, fun q status w hw hsame => ?_,
      fun q status w hw hdiff => ?_⟩
    · exact congrArg Host.Outcome.next ((hreceived _).trans (congrArg (endPair · acked) (takeResult_of_none hw)))
    · exact congrArg Host.Outcome.next ((hreceived _).trans (congrArg (endPair · acked) (takeResult_same hw hsame)))
    · exact congrArg Host.Outcome.next ((hreceived _).trans (congrArg (endPair · acked) (takeResult_differs hw hdiff)))
  case resent =>
    intro s t seq f g hf hdue hlink hfew hg ht
    subst hg ht
    exact (twinResend_due hf hdue hlink).trans (congrArg Host.Outcome.next (if_neg (by omega)))
  case resendsOut =>
    intro s seq f hf hdue hlink hmany
    exact (twinResend_due hf hdue hlink).trans (congrArg Host.Outcome.next (if_pos hmany))
  case timeout =>
    intro s w hw
    refine congrArg Host.Outcome.next ?_
    simp only [hw]
  case takeover =>
    intro s t u t0 hbegun hrole ht hu
    subst hu ht
    refine congrArg Host.Outcome.next ?_
    simp only [hbegun]
    exact if_neg (not_not.mpr hrole)

end Sys2Proof.Machine

/-! PROOFS. What stands before every Steward command's own rules (O45): its path, its issuer, its opcode and a life-cycle
change. -/

namespace Sys2Proof.Machine

section Refused

variable {i : Instr} {s u t : State} {m : Meta} {op : Nat}

/-! ## The snapshot's instant (R430) -/

/-- The instant of a snapshot leaves the accepted packets that are the command's. -/
theorem acceptedOf_stampSnapshot (s : State) (m : Meta) : (acceptedOf (stampSnapshot s m) m 0x0B01).isNone
    = (acceptedOf s m 0x0B01).isNone := by
  simp only [acceptedOf, stampSnapshot, List.find?_map, Option.isNone_map]
  congr 2
  funext a
  simp only [Function.comp]
  split <;> rfl

theorem cmdWaits_stampSnapshot (s : State) (m : Meta) : cmdWaits (stampSnapshot s m) m 0x0B01 = cmdWaits s m 0x0B01 := by
  simp only [cmdWaits, acceptedOf_stampSnapshot]
  rfl

/-- A packet that waits has no accepted packet whose instant a snapshot would note. -/
theorem stampSnapshot_of_waits (h : cmdWaits s m 0x0B01 = true) : stampSnapshot s m = s := by
  have hnone : acceptedOf s m 0x0B01 = none := by
    simp only [cmdWaits, Bool.and_eq_true, Option.isNone_iff_eq_none] at h
    exact h.2
  have hsame : s.stw.accepted.map (fun a =>
      if a.path = m.path && a.fid = m.fid && a.tag = m.tag && a.opcode = 0x0B01 then { a with ns := timeNow s } else a)
        = s.stw.accepted :=
    (List.map_congr_left (fun a ha => if_neg (List.find?_eq_none.mp hnone a ha))).trans (List.map_id _)
  simp only [stampSnapshot, hsame]

/-- The state in which a command meets its checks: SNAPSHOT_COUNTERS has noted its instant. -/
def noted (s : State) (m : Meta) (op : Nat) : State := if op = 0x0B01 then stampSnapshot s m else s

theorem cmdWaits_noted (s : State) (m : Meta) (op : Nat) : cmdWaits (noted s m op) m op = cmdWaits s m op := by
  unfold noted
  split
  next hop => rw [hop, cmdWaits_stampSnapshot]
  next => rfl

theorem noted_of_waits (h : cmdWaits s m op = true) : noted s m op = s := by
  unfold noted
  split
  next hop => exact stampSnapshot_of_waits (hop ▸ h)
  next => rfl

theorem opcodeOpen_noted (s : State) (m : Meta) (op : Nat) : opcodeOpen (noted s m op) m op = opcodeOpen s m op := by
  unfold noted
  split <;> rfl

theorem noted_lcChange (s : State) (m : Meta) (op : Nat) : (noted s m op).stw.lcChange = s.stw.lcChange := by
  unfold noted
  split <;> rfl

/-! ## What a Steward command is -/

/-- What a command leaves of the state that its rules have left: CHANGE_LIFE_CYCLE_STATE draws a nonce unless it waits or has
begun the change (R456). -/
def afterRules (op : Nat) (s : State) (m : Meta) (t : State) : State :=
  if op = 0x0A05 then
    if t.stw.lcChange && !s.stw.lcChange then t else if cmdWaits s m 0x0A05 then t else freshNonce t
  else t

/-- A Steward command runs by the checks that stand before its own rules, from the state in which a snapshot has noted its
instant. -/
def RunsChecks (i : Instr) (s : State) (m : Meta) (op : Nat) : Prop :=
  ∃ objs rld bad f, exec i s = .next (afterRules op s m (runCmd m op objs rld bad f (noted s m op)))

variable {objs : List Obj} {rld : Bool} {bad : Option Nat} {f : State → CmdOut}

theorem runsChecks_of_runCmd (hlife : op ≠ 0x0A05) (hsnapshot : op ≠ 0x0B01)
    (h : exec i s = .next (runCmd m op objs rld bad f s)) : RunsChecks i s m op :=
  ⟨objs, rld, bad, f, by rw [h, afterRules, if_neg hlife, noted, if_neg hsnapshot]⟩

theorem runsChecks_of_stamped (h : exec i s = .next (runCmd m 0x0B01 objs rld bad f (stampSnapshot s m))) :
    RunsChecks i s m 0x0B01 :=
  ⟨objs, rld, bad, f, h⟩

/-- An image command that does not run reads no image, and so waits for no unit (R275). -/
theorem stageWaits_of_stopped (source : Nat) (bad : Option Nat) (h : imageCmdRuns s m op = false) :
    stageWaits s m op source bad = false := by
  simp [stageWaits, h]

/-- Every Steward command runs by the checks, but an image command that waits for a unit and an installation that waits for
records. -/
theorem exec_runsChecks (h : stewardOf i = some (m, op)) (himage : imageCmdRuns s m op = false)
    (hrecords : ∀ (sa : Nat) (prm : SaParams), i = .installSa m sa prm →
      recordsOn s sa = false ∨ (tget s.cip.sas sa).isSome = true) : RunsChecks i s m op := by
  cases i <;> cases h
  case installSa sa prm =>
    have hgoes : ¬ (recordsOn s sa && (tget s.cip.sas sa).isNone) = true := by
      rcases hrecords sa prm rfl with hended | hlisted
      · simp [hended]
      · simp [Option.isNone_eq_false_iff.mpr hlisted]
    exact runsChecks_of_runCmd (by decide) (by decide) (congrArg Host.Outcome.next (if_neg hgoes))
  case stageComponentImage comp source addr len img rd =>
    have hgoes := stageWaits_of_stopped source (stageBad comp source addr len) himage
    exact runsChecks_of_runCmd (by decide) (by decide) (congrArg Host.Outcome.next (if_neg (by simp [hgoes])))
  case compatibilityUpdate comp source addr len img rd =>
    have hgoes := stageWaits_of_stopped source (updateBad comp source addr len) himage
    exact runsChecks_of_runCmd (by decide) (by decide) (congrArg Host.Outcome.next (if_neg (by simp [hgoes])))
  case changeLifeCycleState => exact ⟨_, _, _, _, rfl⟩
  case snapshotCounters => exact runsChecks_of_stamped rfl
  all_goals exact runsChecks_of_runCmd (by decide) (by decide) rfl

/-! ## The checks (Table 14.5) -/

/-- A refusal by a check leaves a life-cycle change as it stands. -/
theorem denyCheck_lcChange (i : PktInfo) (check item : Nat) (st : Status) (counter : Nat) :
    (denyCheck (began s m op) m op i check item st counter).stw.lcChange = s.stw.lcChange := by
  have hframe := (denyCheck_only m op i check item st counter rfl).mpr (Only.refl 0x8dbff (began s m op))
  exact (lcChange_of_life (hframe.eq .life (by decide))).trans (began_lcChange s m op)

/-- A refusal by a check draws a nonce for CHANGE_LIFE_CYCLE_STATE and does nothing more for the others (R456). -/
theorem afterRules_refused (hruns : cmdWaits s m op = false) (ht : t.stw.lcChange = s.stw.lcChange) :
    afterRules op s m t = if op = 0x0A05 then freshNonce t else t := by
  unfold afterRules
  split
  next hop =>
    subst hop
    simp [ht, hruns]
  next => rfl

/-- A packet that waits on its path changes nothing. -/
theorem RunsChecks.waits (h : RunsChecks i s m op) (hwaits : cmdWaits s m op = true) : exec i s = .next s := by
  obtain ⟨objs, rld, bad, f, hexec⟩ := h
  have hstays : runCmd m op objs rld bad f s = s := if_pos hwaits
  have hkeeps : afterRules op s m s = s := by
    unfold afterRules
    split
    next hop =>
      subst hop
      simp [hwaits]
    next => rfl
  rw [hexec, noted_of_waits hwaits, hstays, hkeeps]

/-- A command that its checks refuse, whatever its parameters and its own rules. -/
theorem RunsChecks.refused {P : State → Prop} (h : RunsChecks i s m op) (hruns : cmdWaits s m op = false)
    (hkept : ∀ t, P t → t.stw.lcChange = s.stw.lcChange)
    (hrefused : ∀ objs rld bad f, P (runCmd m op objs rld bad f (noted s m op))) :
    ∃ t, P t ∧ exec i s = .next (if op = 0x0A05 then freshNonce t else t) := by
  obtain ⟨objs, rld, bad, f, hexec⟩ := h
  have ht := hrefused objs rld bad f
  exact ⟨_, ht, hexec.trans (congrArg Host.Outcome.next (afterRules_refused hruns (hkept _ ht)))⟩

/-- Check 4: the issuer does not fit the path (R404). -/
theorem runCmd_badIssuer (hruns : cmdWaits u m op = false) (hissuer : issuerOk m = false) : runCmd m op objs rld bad f u
    = denyCheck (began u m op) m op (packetOf u m op) 4 0xFFFF .refusedPermission cStwDenied := by
  simp only [runCmd, hruns, hissuer]
  rfl

/-- During a life-cycle change a packet that may be sent is refused by check 8 or 9 (R404, R457). -/
theorem runCmd_lcChange (hruns : cmdWaits u m op = false) (hissuer : issuerOk m = true) (hopen : opcodeOpen u m op = true)
    (hlc : u.stw.lcChange = true) :
    runCmd m op objs rld bad f u = denyCheck (began u m op) m op (packetOf u m op) 9 0xFFFF .refusedBusy cStwBusy ∨
      ∃ k, runCmd m op objs rld bad f u
        = denyCheck (began u m op) m op (packetOf u m op) 8 k .badParam cStwBadPacket := by
  cases hbad : bad with
  | some k => exact .inr ⟨k, runCmd_badParam f hruns hissuer hopen rfl⟩
  | none =>
    have hopen' : opcodeOpen (takeAccepted u m op).2 m op = true := opcodeOpen_began.trans hopen
    refine .inl ?_
    simp only [runCmd, hruns, hissuer, hopen', hlc]
    rfl

/-- An installation of a free number that has unfinished records waits for them. -/
theorem installSa_waits {sa : Nat} {prm : SaParams} (hon : recordsOn s sa = true) (hfree : tget s.cip.sas sa = none) :
    exec (.installSa m sa prm) s = .next s :=
  congrArg Host.Outcome.next (if_pos (by simp [hon, hfree]))

end Refused

/-- Settles O45: every command runs by the checks (`exec_runsChecks`), which refuse it in their order. -/
theorem stewardCommandsRefused : Obligations.StewardCommandsRefused := by
  unfold Obligations.StewardCommandsRefused
  refine ⟨?records, ?waits, ?refused⟩
  case records =>
    intro s m sa prm hon hfree
    exact installSa_waits hon hfree
  case waits =>
    intro i s m op h hwaits
    by_cases hrecords : ∀ (sa : Nat) (prm : SaParams), i = .installSa m sa prm →
        recordsOn s sa = false ∨ (tget s.cip.sas sa).isSome = true
    · exact (exec_runsChecks h (by simp [imageCmdRuns, hwaits]) hrecords).waits hwaits
    · push Not at hrecords
      obtain ⟨sa, prm, rfl, hon, hfree⟩ := hrecords
      exact installSa_waits (by simpa using hon) (by simpa using hfree)
  case refused =>
    intro i s u m op h hruns hrecords hu
    change u = noted s m op at hu
    subst hu
    have hruns' : cmdWaits (noted s m op) m op = false := (cmdWaits_noted s m op).trans hruns
    have hkept : ∀ (info : PktInfo) (check item : Nat) (st : Status) (counter : Nat),
        (denyCheck (began (noted s m op) m op) m op info check item st counter).stw.lcChange = s.stw.lcChange :=
      fun _ _ _ _ _ => (denyCheck_lcChange _ _ _ _ _).trans (noted_lcChange s m op)
    refine ⟨fun hissuer => ?issuer, fun hissuer hclosed => ?opcode, fun hissuer hopen hlc => ?lifeCycle⟩
    case issuer =>
      refine (exec_runsChecks h (by simp [imageCmdRuns, hissuer]) hrecords).refused hruns ?_ fun _ _ _ _ =>
        runCmd_badIssuer hruns' hissuer
      rintro t rfl
      exact hkept _ _ _ _ _
    case opcode =>
      refine (exec_runsChecks h (by simp [imageCmdRuns, hclosed]) hrecords).refused hruns ?_ fun _ _ _ f =>
        runCmd_notOpen f hruns' hissuer ((opcodeOpen_noted s m op).trans hclosed)
      rintro t rfl
      exact hkept _ _ _ _ _
    case lifeCycle =>
      refine (exec_runsChecks h (by simp [imageCmdRuns, hlc]) hrecords).refused hruns ?_ fun _ _ _ _ =>
        runCmd_lcChange hruns' hissuer ((opcodeOpen_noted s m op).trans hopen) ((noted_lcChange s m op).trans hlc)
      rintro t (rfl | ⟨k, rfl⟩) <;> exact hkept _ _ _ _ _

end Sys2Proof.Machine

/-! PROOFS. The events on the Steward's paths (O31). -/

namespace Sys2Proof.Machine

section StewardRows

variable {s : State}

/-- A consumer position that moves past a loss reports it first (R416). -/
theorem logConsume_lost {v : W32} (hlost : s.dev.lostPending ≠ 0) (hv : v ≠ s.dev.logCons) :
    logConsume s v = appendEvent { s with dev := { s.dev with logCons := v, lostPending := 0 } } 0x0080 0xFFF
      [.num 4 s.dev.lostPending] := if_neg (by simp [hlost, hv])

theorem logConsume_plain {v : W32} (hplain : s.dev.lostPending = 0 ∨ v = s.dev.logCons) :
    logConsume s v = { s with dev := { s.dev with logCons := v } } := if_pos (by simpa using hplain.symm)

/-- What the visit to a path at its position does (R405). -/
def visitPath (s : State) (path : Path) (fid : Nat) (bytes : List Nat) (rd : ReadResult) : State :=
  match path with
  | .admin => visitAdmin s bytes rd
  | .mailbox =>
    if fid = 1 || nextVf s = some fid then visitMailbox (holdAdmin s) fid (decide (rd = .poisoned)) else holdAdmin s
  | .twin => visitTwin (holdAdmin s) (decide (rd = .poisoned))
  | p => visitQueue (holdAdmin s) p (decide (rd = .poisoned))

/-- A Steward that is ready and idle visits the path at its position (R405). -/
theorem acceptPacket_visits (path : Path) (fid : Nat) {bytes : List Nat} {rd : ReadResult} (hready : s.stw.ready = true)
    (hidle : stewardBusy s = false) (hpos : nextPos s = some (posOf path fid)) :
    exec (.acceptPacket path fid bytes rd) s = .next (visitPath s path fid bytes rd) := by
  refine congrArg Host.Outcome.next ((if_neg (by simp [hready, hidle])).trans ((if_neg (not_not.mpr hpos)).trans ?_))
  cases path <;> rfl

end StewardRows

/-- Settles O31: each event's clause is the branch that the clause's hypotheses choose. -/
theorem stewardRowsComplete : Obligations.StewardRowsComplete := by
  unfold Obligations.StewardRowsComplete
  refine ⟨?doorbell, ?replies, ?log, ?logLost, ?mailbox, ?service, ?mctp, ?outside, ?admin, ?paths, ?vf, ?background⟩
  case doorbell =>
    intro s v hreach hok
    exact congrArg Host.Outcome.next ((memWrite_reached hreach).trans (if_pos hok))
  case replies =>
    intro s t v hreach hok ht
    subst ht
    exact congrArg Host.Outcome.next ((memWrite_reached hreach).trans (if_pos hok))
  case log =>
    intro s v hreach hok hplain
    exact congrArg Host.Outcome.next ((memWrite_reached hreach).trans ((if_pos hok).trans (logConsume_plain hplain)))
  case logLost =>
    intro s v hreach hok hlost hv
    exact congrArg Host.Outcome.next ((memWrite_reached hreach).trans ((if_pos hok).trans (logConsume_lost hlost hv)))
  case mailbox =>
    intro s t fid go n hfid hreach hgo hthawed hcounted hwithin hfree
    have hreached : mbxReach s fid = true := by simpa [mbxReach, hreach] using hfid
    refine congrArg Host.Outcome.next ((if_pos (by simp [hreached, hgo])).trans ?_)
    simp only [mbxDoorbell, hcounted, hthawed, hfree, Nat.not_lt.mpr hwithin, Bool.false_eq_true, if_false]
  case service =>
    intro s c bytes hlane hport
    refine congrArg Host.Outcome.next ((if_neg (by simp [hlane, hport])).trans ?_)
    simp only [Bool.and_eq_true]
  case mctp =>
    intro s c bytes hopen hin houter hinner hvendor
    exact congrArg Host.Outcome.next
      ((if_neg (by simp [hopen, hin, houter])).trans (if_pos (by simp [hinner, hvendor])))
  case outside =>
    intro s c bytes hout
    exact congrArg Host.Outcome.next (if_pos (by simpa [or_assoc] using hout))
  case admin =>
    intro s bytes rd hready hidle hpos
    exact acceptPacket_visits .admin 0 hready hidle hpos
  case paths =>
    intro s bytes rd hready hidle
    refine ⟨fun hpos => ?_, fun hpos => ?_, fun hpos => ?_, fun hpos => ?_⟩
    · exact acceptPacket_visits .svc 0 hready hidle hpos
    · exact acceptPacket_visits .mctp 0 hready hidle hpos
    · exact acceptPacket_visits .twin 0 hready hidle hpos
    · exact acceptPacket_visits .mailbox 1 hready hidle hpos
  case vf =>
    intro s fid bytes rd hready hidle hfid hpos hnext
    have hvisited := acceptPacket_visits .mailbox fid (bytes := bytes) (rd := rd) hready hidle
      (hpos.trans (by simp [posOf, hfid]))
    exact hvisited.trans (congrArg Host.Outcome.next (if_pos (by simp [hnext])))
  case background =>
    intro s slot b e hslot hfin hended
    refine congrArg Host.Outcome.next ?_
    simp only [hslot, hfin]
    exact if_pos hended

end Sys2Proof.Machine

/-! PROOFS. The reset and start-up events (O30). -/

namespace Sys2Proof.Machine

section Resets

variable {s : State}

/-- A release of PERST# starts the Steward with its library, after the recheck of its image (R446, R448). -/
theorem perstRelease_starts {recheckOk : Bool} {straps : Straps} {lib : TableSet} (hmain : s.store.mainPresent = true)
    (hperst : s.store.perst = true) (hclock : s.alm.ref156Lost = false) (hcode : s.store.codeDigestKept = true) :
    exec (.perstRelease recheckOk straps lib) s = .next (
      if recheckOk then startUp (beginWipes (releasePerst (beginSramWipe s) straps)) lib
      else almEvent (startUp (beginWipes (releasePerst (beginSramWipe s) straps)) lib) 0x010C []) :=
  congrArg Host.Outcome.next ((if_neg (by simp [hmain, hperst, hclock])).trans (if_neg (by simp [hcode])))

end Resets

/-- Settles O30: each event's clause is the branch that the clause's hypotheses choose. -/
theorem resetRowsComplete : Obligations.ResetRowsComplete := by
  unfold Obligations.ResetRowsComplete
  refine ⟨?cold, ?assert, ?release, ?reload, ?hot, ?sram, ?rldram, ?supplies⟩
  case cold =>
    intro s t straps lib haux hmain hclock ht
    subst ht
    exact congrArg Host.Outcome.next ((if_neg (by simp [haux, hmain, hclock])).trans (if_neg (by decide)))
  case assert =>
    intro s hmain hperst
    exact congrArg Host.Outcome.next (if_neg (by simp [hmain, hperst]))
  case release =>
    intro s straps lib hmain hperst hclock hcode
    exact perstRelease_starts hmain hperst hclock hcode
  case reload =>
    intro s straps lib hmain hperst hclock hcode
    exact perstRelease_starts hmain hperst hclock hcode
  case hot =>
    intro s hmain hperst
    exact congrArg Host.Outcome.next (if_neg (by simp [hmain, hperst]))
  case sram =>
    intro s hwiping
    exact congrArg Host.Outcome.next (if_neg (by simp [hwiping]))
  case rldram =>
    intro s t hwiping hsram ht
    subst ht
    exact congrArg Host.Outcome.next (if_neg (by simp [hwiping, hsram]))
  case supplies =>
    intro s t hmain ht
    subst ht
    exact congrArg Host.Outcome.next (if_neg (by simp [hmain]))

end Sys2Proof.Machine

/-! PROOFS. The firmware commands (O15): staging, activation and the compatible update, with an end for each outcome of their
checks. -/

namespace Sys2Proof.Machine

section FirmwareCommands

variable {s b t : State} {m : Meta} {op : Nat} {objs : List Obj} {rld : Bool}

/-! ## Images and their checks (R477, R483) -/

theorem checkStatus_ne_done (k : Nat) : checkStatus k ≠ .done := by
  unfold checkStatus
  split <;> decide

/-- The parameters of a staging command in their ranges. -/
theorem stageBad_none {comp source addr len : Nat} (hcomp1 : 1 ≤ comp) (hcomp6 : comp ≤ 6) (hsource : source ≤ 1)
    (haddr : addr < 2 ^ 64) (hlen1 : 1 ≤ len) (hlen : len < 2 ^ 32) : stageBad comp source addr len = none :=
  firstBad_all (by simpa [hcomp1, hcomp6, hsource, hlen1] using ⟨haddr, hlen⟩)

theorem updateBad_none {comp source addr len : Nat} (hcomp : comp ∈ [1, 2, 3, 5]) (hsource : source ≤ 1)
    (haddr : addr < 2 ^ 64) (hlen1 : 1 ≤ len) (hlen : len < 2 ^ 32) : updateBad comp source addr len = none :=
  firstBad_all (by simpa [hsource, hlen1] using ⟨by simpa using hcomp, haddr, hlen⟩)

/-- The own rules of STAGE_COMPONENT_IMAGE (R481). -/
def stageRules (comp source addr len : Nat) (img : List Nat) (rd : ReadResult) (s : State) : CmdOut :=
  if stagingBusy s then no s .refusedBusy
  else if stewardHalted s source then no s .refusedState
  else
    match fetchImage s comp 2 source addr len img rd with
    | (.error k, s1) => no (refuseImage s1 comp k) (checkStatus k)
    | (.ok (i, _), s1) =>
      let s2 := logEvent (putStaged s1 comp i) 0x0200 0xFFF [.num 2 comp, .num 4 i.version]
      bgUntil s2 s2.now { status := .done }

/-- A staging command whose parameters are in range and that waits for no unit runs by its own rules. -/
theorem stageComponentImage_runs {comp source addr len : Nat} {img : List Nat} {rd : ReadResult}
    (hbad : stageBad comp source addr len = none) (hunit : stageWaits s m 0x0901 source none = false) :
    exec (.stageComponentImage m comp source addr len img rd) s
      = .next (runCmd m 0x0901 [.component comp] false none (stageRules comp source addr len img rd) s) := by
  refine congrArg Host.Outcome.next ?_
  simp only [hbad, hunit, Bool.false_eq_true, if_false]
  rfl

theorem putImageStatus_done {comp off : Nat} {bytes : List Nat} (hbusy : stagingBusy s = false) (hcomp1 : 1 ≤ comp)
    (hcomp6 : comp ≤ 6) (hlen1 : 1 ≤ bytes.length) (hlen : bytes.length ≤ 1024)
    (hroom : off + bytes.length ≤ plainLimit comp + 256) : putImageStatus s comp off bytes = .done := by
  have hfits : ¬ (comp < 1 || 6 < comp || bytes.length < 1 || 1024 < bytes.length
      || slotSize comp < off + bytes.length) = true := by
    rw [slotSize]
    simp only [Bool.or_eq_true, decide_eq_true_eq]
    omega
  exact (if_neg (by simp [hbusy])).trans (if_neg hfits)

/-- The own rules of STAGE_MANIFEST (R478, R479). -/
def manifestRules (addr len : Nat) (man : List Nat) (rd : ReadResult) (s : State) : CmdOut :=
  match imageRead s addr len rd with
  | (some st, s1) => no s1 st
  | (none, s1) =>
    let bs := man.take len
    let body := bs.take 512
    if !manifestOk bs then no s1 .badParam
    else if !keyOk s1 (bs.getD 6 0) then no s1 .failedAuth
    else if !vendorSigOk (bs.getD 6 0) (sha384 body) (slice bs 512 96) then no s1 .failedAuth
    else
      let x : Manifest := { setVersion := imgField bs 8 4, entries := manEntries bs, digest := sha384 bs }
      ok (logEvent { s1 with fw := { s1.fw with manifest := some x } } 0x0202 0xFFF [.num 4 x.setVersion])

/-- A manifest that was read and is well formed turns on its key and its signature. -/
theorem manifestRules_ok {addr : Nat} {man : List Nat} {rd : ReadResult} (hread : imageRead b addr 608 rd = (none, t))
    (hman : manifestOk (man.take 608) = true) : manifestRules addr 608 man rd b =
      if keyOk t ((man.take 608).getD 6 0) = true ∧ vendorSigOk ((man.take 608).getD 6 0)
          (sha384 ((man.take 608).take 512)) (slice (man.take 608) 512 96) = true
      then ok (logEvent { t with fw := { t.fw with manifest := (some
          { setVersion := imgField (man.take 608) 8 4, entries := manEntries (man.take 608)
            digest := sha384 (man.take 608) }) } } 0x0202 0xFFF [.num 4 (imgField (man.take 608) 8 4)])
      else no t .failedAuth := by
  simp only [manifestRules, hread, hman]
  cases keyOk t ((man.take 608).getD 6 0)
  · rfl
  · cases vendorSigOk ((man.take 608).getD 6 0) (sha384 ((man.take 608).take 512)) (slice (man.take 608) 512 96) <;> rfl

/-! ## Activation (R485, R486) -/

theorem staleImage_cons {fmt c : Nat} {image : Image} {l : List (Nat × Image)} {i : Image × List Nat}
    (hok : checkImage s c fmt image.bytes.length image.bytes = .ok i) :
    staleImage s fmt ((c, image) :: l) = staleImage s fmt l := by
  rw [staleImage.eq_def]
  dsimp only
  rw [hok]

/-- No image is stale where every one still passes its checks. -/
theorem staleImage_none {fmt : Nat} {fresh : List (Nat × Image)}
    (h : ∀ e ∈ fresh, ∃ i, checkImage s e.1 fmt e.2.bytes.length e.2.bytes = .ok i) : staleImage s fmt fresh = none := by
  induction fresh with
  | nil => rfl
  | cons e l ih =>
    obtain ⟨i, hok⟩ := h e List.mem_cons_self
    exact (staleImage_cons hok).trans (ih (fun e he => h e (List.mem_cons_of_mem _ he)))

/-- An activation fails with a status, or goes on in the background. -/
theorem beginActivation_cases (s : State) (comp fmt label : Nat) (fresh : List (Nat × Image)) :
    (∃ t st, st ≠ .done ∧ beginActivation s comp fmt label fresh = no t st) ∨
      ∃ t d, beginActivation s comp fmt label fresh = bgOpen t d := by
  unfold beginActivation
  dsimp only
  split
  · exact .inl ⟨_, _, by decide, rfl⟩
  · split
    · exact .inl ⟨_, _, by decide, rfl⟩
    · exact .inr ⟨_, _, rfl⟩

/-- An activation whose images pass and whose bank seals starts the trial of the new Steward (R486). -/
theorem beginActivation_trial {comp fmt label : Nat} {fresh : List (Nat × Image)} (hfresh : staleImage s fmt fresh = none)
    (hbank : shadowBank (logEvent s 0x0203 0xFFF [.num 4 label]) (freshLibrary s fmt fresh) = (true, t)) :
    beginActivation s comp fmt label fresh = bgOpen (loseWorking { t with
      stw := { t.stw with ready := false }
      fw := { t.fw with activation := 4, actComp := comp, actStart := t.now, actDeadline := t.now + 200000000
                        actFresh := fresh.map (·.1) } }) (t.now + 200000000) := by
  simp only [beginActivation, hfresh, hbank]

/-- The own rules of COMPATIBILITY_UPDATE (R487 to R489). -/
def updateRules (comp source addr len : Nat) (img : List Nat) (rd : ReadResult) (s : State) : CmdOut :=
  if !mayActivate s || stewardHalted s source then no s .refusedState
  else
    match fetchImage s comp 1 source addr len img rd with
    | (.error k, s1) => no (refuseImage s1 comp k) (if k = 3 then .refusedState else checkStatus k)
    | (.ok (i, _), s1) =>
      if !setCompatible s1 comp i then no s .refusedState
      else
        let s2 := logEvent (putStaged s1 comp i) 0x0200 0xFFF [.num 2 comp, .num 4 i.version]
        beginActivation s2 comp 1 comp [(comp, i)]

/-- A compatible update whose parameters are in range and that waits for no unit runs by its own rules. -/
theorem compatibilityUpdate_runs {comp source addr len : Nat} {img : List Nat} {rd : ReadResult}
    (hbad : updateBad comp source addr len = none) (hunit : stageWaits s m 0x0910 source none = false) :
    exec (.compatibilityUpdate m comp source addr len img rd) s
      = .next (runCmd m 0x0910 actObjs false none (updateRules comp source addr len img rd) s) := by
  refine congrArg Host.Outcome.next ?_
  simp only [hbad, hunit, Bool.and_false, Bool.false_eq_true, if_false]
  rfl

/-- A command that starts and ends as an activation does, at once or in the background. -/
theorem cmd_activation {bad : Option Nat} {f : State → CmdOut} {comp fmt label : Nat} {fresh : List (Nat × Image)}
    (h : Starts s b m op objs rld) (hb : bad = none) (hf : f b = beginActivation t comp fmt label fresh) :
    Host.Outcome.next (runCmd m op objs rld bad f s) =
      match beginActivation t comp fmt label fresh with
      | o => if o.bg = true then bgIn s m op objs o.s none o.deadline else endsIn s m op o.s o.fin := by
  rcases beginActivation_cases t comp fmt label fresh with ⟨u, st, hst, hout⟩ | ⟨u, d, hout⟩
  · rw [hout] at hf ⊢
    exact cmd_no h hb hf hst
  · rw [hout] at hf ⊢
    exact cmd_bgOpen h hb hf

end FirmwareCommands

/-- Settles O15: each command's own checks hold by its clause's hypotheses, and its end follows the outcome of the others. -/
theorem firmwareCommandsComplete : Obligations.FirmwareCommandsComplete := by
  unfold Obligations.FirmwareCommandsComplete
  refine ⟨?stage, ?stageBusy, ?manifest, ?put, ?rewrap, ?versions, ?chain, ?activate, ?trialEnds, ?trialFails, ?update,
    ?compat⟩
  case stage =>
    intro s b m comp source addr len img rd h hcomp1 hcomp6 hsource haddr hlen1 hlen hunit hbusy hhalted
    rw [stageComponentImage_runs (stageBad_none hcomp1 hcomp6 hsource haddr hlen1 hlen) hunit]
    have hrules : stageRules comp source addr len img rd b = _ :=
      (if_neg (by simp [hbusy])).trans (if_neg (by simp [hhalted]))
    split
    next k t hfetch => exact cmd_no h rfl (hrules.trans (by simp only [hfetch])) (checkStatus_ne_done k)
    next i plain t hfetch => exact cmd_bgUntil h rfl (hrules.trans (by simp only [hfetch]))
  case stageBusy =>
    intro s b m comp source addr len img rd h hcomp1 hcomp6 hsource haddr hlen1 hlen hunit hbusy
    rw [stageComponentImage_runs (stageBad_none hcomp1 hcomp6 hsource haddr hlen1 hlen) hunit]
    exact cmd_no h rfl (if_pos hbusy) (by decide)
  case manifest =>
    intro s b c m addr man h hc haddr hwin hissue hman
    subst hc
    have hrange : firstBad [(0, addr < 2 ^ 64), (1, 608 = 608)] = none := firstBad_all (by simpa using haddr)
    have hread := imageRead_ok hwin hissue
    have hrules := manifestRules_ok (man := man) hread hman
    split
    next hsigned => exact cmd_done h hrange (hrules.trans (if_pos hsigned))
    next hunsigned => exact cmd_no h hrange (hrules.trans (if_neg hunsigned)) (by decide)
  case put =>
    intro s comp off bytes hready hsession hlane hbusy hcomp1 hcomp6 hlen1 hlen hroom
    have hstatus := putImageStatus_done hbusy hcomp1 hcomp6 hlen1 hlen hroom
    refine congrArg Host.Outcome.next ((if_neg (by simpa [hready, hlane] using hsession)).trans ?_)
    simp only [hstatus, if_true]
    rfl
  case rewrap =>
    intro s b m comp i h hcomp1 hcomp9 hstaged hbinding
    have hrange : firstBad [(0, 1 ≤ comp && comp ≤ 9)] = none := firstBad_all (by simp [hcomp1, hcomp9])
    split
    next hwrap =>
      refine cmd_no h hrange ?_ (by decide)
      simp only [hstaged, hbinding, if_false, hwrap]
    next cek hwrap =>
      refine cmd_done h hrange ?_
      simp only [hstaged, hbinding, if_false, hwrap]
  case versions =>
    intro s b m h
    exact cmd_ok h rfl rfl
  case chain =>
    intro s b m h
    exact cmd_ok h rfl rfl
  case activate =>
    intro s b t m x fresh h hman hfresh hpass hbank
    refine cmd_bgOpen h rfl ?_
    simp only [hman, hfresh]
    exact beginActivation_trial (staleImage_none hpass) hbank
  case trialEnds =>
    intro s g t d hcmd hphase htime htarget hdecl hports
    refine congrArg Host.Outcome.next ?_
    simp only [hcmd, requestFlip_done htarget hdecl hports]
    exact (if_neg (not_not.mpr hphase)).trans (if_neg (by simpa using htime))
  case trialFails =>
    intro s g ready hcmd hphase hfails
    refine congrArg Host.Outcome.next ?_
    simp only [hcmd]
    refine (if_neg (not_not.mpr hphase)).trans (if_pos ?_)
    simpa using hfails
  case update =>
    intro s b m comp source addr len img rd h hcomp hsource haddr hlen1 hlen hmay hunit hhalted
    rw [compatibilityUpdate_runs (updateBad_none hcomp hsource haddr hlen1 hlen) hunit]
    have hrules : updateRules comp source addr len img rd b = _ := if_neg (by simp [hmay, hhalted])
    split
    next k t hfetch =>
      refine cmd_no h rfl (hrules.trans (by simp only [hfetch])) ?_
      split
      · decide
      · exact checkStatus_ne_done k
    next i plain t hfetch =>
      split
      next hok => exact cmd_activation h rfl (hrules.trans (by simp [hfetch, hok]))
      next hbad => exact cmd_no h rfl (hrules.trans (by simp [hfetch, hbad])) (by decide)
  case compat =>
    intro s b t path fid bytes a hversion hb hhead hidle haccept htaken hcompat
    subst hb
    refine congrArg Host.Outcome.next ((if_neg (not_not.mpr hversion)).trans ((if_neg (by simp [hhead])).trans ?_))
    have htaken' : execAcceptPacket path fid bytes .ok (compatArrives s path bytes) = .next t := haccept
    simp only [htaken', Res.after, htaken, hcompat, hidle]
    rfl

end Sys2Proof.Machine

/-! PROOFS. The SPDM responder (O34), and the bucket chain (O35). -/

namespace Sys2Proof.Machine

section Spdm

variable {s : State}

/-- Each index of Table 17.7 has its measurement. -/
theorem measureOf_isSome (s : State) {i : Nat} (h : i ∈ measureIndices) : (measureOf s i).isSome = true := by
  simp only [measureIndices, List.mem_cons, List.not_mem_nil, or_false] at h
  rcases h with rfl | rfl | rfl | rfl | rfl | rfl | rfl | rfl | rfl | rfl <;> rfl

theorem mem_measureBlocks {index i : Nat} {v : List Nat} (hi : i ∈ (if index = 255 then measureIndices else [index]))
    (hv : measureOf s i = some v) : measureBlock i v ∈ measureBlocks s index :=
  List.mem_filterMap.mpr ⟨i, hi, by rw [hv]; rfl⟩

/-- A request that names a measurement, or all of them, has blocks to answer with. -/
theorem measureBlocks_ne_nil (s : State) {index : Nat} (h : index ∈ measureIndices ∨ index = 255) :
    measureBlocks s index ≠ [] := by
  obtain ⟨i, hnamed, hi⟩ : ∃ i ∈ (if index = 255 then measureIndices else [index]), i ∈ measureIndices := by
    by_cases hall : index = 255
    · exact ⟨1, by rw [if_pos hall]; decide, by decide⟩
    · exact ⟨index, by rw [if_neg hall]; exact List.mem_singleton_self _, h.resolve_right hall⟩
  obtain ⟨v, hv⟩ := Option.isSome_iff_exists.mp (measureOf_isSome s hi)
  exact List.ne_nil_of_mem (mem_measureBlocks hnamed hv)

theorem ne_zero_of_index {index : Nat} (h : index ∈ measureIndices ∨ index = 255) : index ≠ 0 := by
  rintro rfl
  revert h
  decide

theorem spdmNonce_sessions (s : State) : (spdmNonce s).2.fw.sessions = s.fw.sessions := rfl

end Spdm

/-- Settles O34: a responder that is up answers by the branch that its clause's hypotheses choose. -/
theorem spdmComplete : Obligations.SpdmComplete := by
  unfold Obligations.SpdmComplete
  intro s path hup
  have hdown : ¬ (!spdmUp s path) = true := by rw [hup]; decide
  refine ⟨fun off len => ?certificate, fun nonce => ?challenge, fun nonce => ?count, fun index nonce hindex => ?blocks,
    fun leaf hpinned hclosed => ?session, fun leaf auth hother => ?refused⟩
  case certificate => exact congrArg Host.Outcome.next (if_neg hdown)
  case challenge => exact congrArg Host.Outcome.next (if_neg hdown)
  case count =>
    have hempty : [([] : List (List Nat)).length] ++ leBytes 3 ([] : List (List Nat)).flatten.length ++ [].flatten
      = [0, 0, 0, 0] := by decide
    refine congrArg Host.Outcome.next ((if_neg hdown).trans ?_)
    simp only [if_true, ne_eq, not_true_eq_false, decide_false, Bool.false_and, Bool.false_eq_true, if_false, hempty]
    rfl
  case blocks =>
    have hsome := measureBlocks_ne_nil s hindex
    refine congrArg Host.Outcome.next ((if_neg hdown).trans ?_)
    simp only [ne_zero_of_index hindex, if_false]
    exact if_neg (by simp [hsome])
  case session =>
    refine congrArg Host.Outcome.next ((if_neg hdown).trans ((if_pos (by simp [hpinned])).trans ?_))
    simp only [spdmNonce_sessions, hclosed, Bool.false_eq_true, if_false]
  case refused =>
    exact congrArg Host.Outcome.next ((if_neg hdown).trans (if_neg (by simpa [imp_iff_not_or] using hother)))

section Chain

variable {s t : State}

/-- A fault of a pair that Table 17.11 names. -/
theorem chainFault_taken {pair code : Nat} (hpair : pair ≤ 1) (hcode0 : code ≠ 0) (hcode5 : code ≤ 5) :
    exec (.chainFault pair code) s = .next (
      let s1 := chainFaulted s pair code
      if code = 1 then chainState s1 (if pair = chainOut s then 5 else 0)
      else if code = 2 || code = 3 then holdPair s1 pair code 0
      else if code = 4 then { s1 with fw := { s1.fw with polarityFixed := true } }
      else { s1 with fw := { s1.fw with swapFixed := true, chainSwap := !s1.fw.chainSwap } }) :=
  congrArg Host.Outcome.next (if_neg (by simp [hcode0, hpair, hcode5]))

/-- Data that follows on is kept, and a whole package is verified (R491). -/
theorem chainDataReceived_follows {frm : ChainFrame} {id : PkgId} (ht : t = chainActivity s frm.pair)
    (hrx : t.fw.rx = some id) (hpair : frm.pair = chainIn t) (hup : pairDown t frm.pair = false) (hready : t.stw.ready = true)
    (hcrc : frm.crcOk = true) (hid : frameId frm = id) (hoff : frm.off = t.fw.rxBytes.length) :
    exec (.chainDataReceived frm) s = .next (
      let s2 : State := { t with fw := { t.fw with rxBytes := t.fw.rxBytes ++ frm.payload } }
      if rxWhole id.kind s2.fw.rxBytes then verifyRx s2 id else s2) := by
  subst ht
  refine congrArg Host.Outcome.next ?_
  simp only [hrx]
  exact (if_neg (by simp [← hpair, hup, hready])).trans (if_neg (by simp [hcrc, hid, hoff]))

end Chain

/-- Settles O35: each event's clause is the branch that the clause's hypotheses choose. -/
theorem chainComplete : Obligations.ChainComplete := by
  unfold Obligations.ChainComplete
  refine ⟨?offers, ?offered, ?requested, ?data, ?confirmed, ?refused, ?faults, ?clears⟩
  case offers =>
    intro s t hready hdue hup hsome ht
    subst ht
    refine congrArg Host.Outcome.next ((if_neg (by simp [hready, hdue, hup])).trans ?_)
    simp only [List.isEmpty_eq_false_iff.mpr hsome, Bool.false_eq_true, if_false]
  case offered =>
    intro s t frm ht hread
    subst ht
    exact congrArg Host.Outcome.next (if_pos hread)
  case requested =>
    intro s frm p hread hheld
    refine congrArg Host.Outcome.next ((if_neg (by simp [hread])).trans ?_)
    simp only [hheld]
  case data =>
    intro s t frm id ht hrx hpair hup hready hcrc hid hoff
    have hfollows := chainDataReceived_follows ht hrx hpair hup hready hcrc hid hoff
    exact ⟨fun hpart => hfollows.trans (congrArg Host.Outcome.next (if_neg (by simp [hpart]))),
      fun hwhole => hfollows.trans (congrArg Host.Outcome.next (if_pos hwhole))⟩
  case confirmed =>
    intro s t frm p hread hheld hopen ht
    subst ht
    refine congrArg Host.Outcome.next ((if_neg (by simp [hread])).trans ?_)
    simp only [hheld]
    exact if_neg (by simp [hopen])
  case refused =>
    intro s frm hread
    exact congrArg Host.Outcome.next (if_pos hread)
  case faults =>
    intro s pair hpair
    exact ⟨chainFault_taken hpair (by decide) (by decide), chainFault_taken hpair (by decide) (by decide),
      chainFault_taken hpair (by decide) (by decide), chainFault_taken hpair (by decide) (by decide),
      chainFault_taken hpair (by decide) (by decide)⟩
  case clears =>
    intro s t pair hpair hdown hfault hlast ht
    subst ht
    refine congrArg Host.Outcome.next ?_
    simp only [hfault, hlast, decide_true, Bool.and_self, if_true]
    refine (if_neg (Nat.not_lt.mpr hpair)).trans ((if_neg (by decide)).trans (if_pos (by simp [hdown])))

end Sys2Proof.Machine

/-! PROOFS. What a command leaves alone (O38): the frame of each command, by its mask, is the list of parts that `touches`
gives for it. -/

namespace Sys2Proof.Machine

/-! ## The mask of a list of parts -/

/-- The bits of the parts of a list. -/
def Blk.maskOf (l : List Blk) : Nat := l.foldr (fun b n => b.mask ||| n) 0

theorem Blk.mask_ne_zero (b : Blk) : b.mask ≠ 0 := by cases b <;> decide

/-- Two parts share no bit. -/
theorem Blk.mask_disjoint {b c : Blk} (h : b ≠ c) : b.mask &&& c.mask = 0 := by
  revert h
  cases b <;> cases c <;> decide

/-- A part that a list does not name shares no bit with the list. -/
theorem Blk.mask_maskOf {b : Blk} {l : List Blk} (h : b ∉ l) : b.mask &&& Blk.maskOf l = 0 := by
  induction l with
  | nil => exact Nat.and_zero _
  | cons c l ih =>
    obtain ⟨hc, hl⟩ := not_or.mp (mt List.mem_cons.mpr h)
    calc b.mask &&& (c.mask ||| Blk.maskOf l)
        = b.mask &&& c.mask ||| b.mask &&& Blk.maskOf l := Nat.and_or_distrib_left _ _ _
      _ = 0 := by rw [Blk.mask_disjoint hc, ih hl]; rfl

/-- A frame by a mask is a frame by every mask that holds it. -/
theorem Only.widen {k m : Nat} {s t : State} (h : Only k s t) (hk : k &&& m = k) : Only m s t :=
  (h.iff hk).mpr (Only.refl _ _)

/-- A command whose frame stands within the mask of a list changes only the parts of the list. -/
theorem changesOnly_of_only {k : Nat} {s t : State} (l : List Blk) (h : Only k s t ↔ Only k s s)
    (hl : k &&& Blk.maskOf l = k) : ChangesOnly l s t := by
  intro b hb
  have hframe : Only (Blk.maskOf l) s t := (h.mpr (Only.refl _ _)).widen hl
  exact hframe.eq b (by rw [Blk.mask_maskOf hb]; exact (Blk.mask_ne_zero b).symm)

/-- Each command changes only the parts listed for it. -/
theorem exec_changesOnly (s : State) (i : Instr) : ChangesOnly (touches i) s (Res.after (exec i s) s) :=
  match i with
  | .readIdentity _ => changesOnly_of_only replyParts (execReadIdentity_only _ (Nat.and_self _)) (by decide)
  | .loadTableSet _ _ _ _ _ _ => changesOnly_of_only
      (replyParts ++ ([.draws] : List Blk))
      (execLoadTableSet_only _ _ _ _ _ _ (Nat.and_self _)) (by decide)
  | .flip _ => changesOnly_of_only replyParts (execFlip_only _ (Nat.and_self _)) (by decide)
  | .discardBank _ _ => changesOnly_of_only replyParts (execDiscardBank_only _ _ (Nat.and_self _)) (by decide)
  | .loadHook _ _ _ _ _ _ _ _ _ => changesOnly_of_only
      (replyParts ++ ([.draws] : List Blk))
      (execLoadHook_only _ _ _ _ _ _ _ _ _ (Nat.and_self _)) (by decide)
  | .setPortLayout _ _ => changesOnly_of_only replyParts (execSetPortLayout_only _ _ (Nat.and_self _)) (by decide)
  | .setPortParameters _ _ => changesOnly_of_only replyParts (execSetPortParameters_only _ _ (Nat.and_self _)) (by decide)
  | .withdrawStagedConfiguration _ => changesOnly_of_only replyParts
      (execWithdrawStagedConfiguration_only _ (Nat.and_self _)) (by decide)
  | .enablePort _ _ => changesOnly_of_only replyParts (execEnablePort_only _ _ (Nat.and_self _)) (by decide)
  | .disablePort _ _ _ _ => changesOnly_of_only replyParts (execDisablePort_only _ _ _ _ (Nat.and_self _)) (by decide)
  | .portDrainEnd _ => changesOnly_of_only replyParts (execPortDrainEnd_only _ (Nat.and_self _)) (by decide)
  | .writeGroupFilter _ _ _ _ => changesOnly_of_only replyParts (execWriteGroupFilter_only _ _ _ _ (Nat.and_self _)) (by decide)
  | .writeSelectTable _ _ _ _ => changesOnly_of_only replyParts (execWriteSelectTable_only _ _ _ _ (Nat.and_self _)) (by decide)
  | .moduleTransfer _ _ _ _ _ _ _ _ => changesOnly_of_only replyParts
      (execModuleTransfer_only _ _ _ _ _ _ _ _ (Nat.and_self _)) (by decide)
  | .createInstance _ _ _ => changesOnly_of_only
      (replyParts ++ ([.stg] : List Blk))
      (execCreateInstance_only _ _ _ (Nat.and_self _)) (by decide)
  | .quiesce _ _ _ => changesOnly_of_only replyParts (execQuiesce_only _ _ _ (Nat.and_self _)) (by decide)
  | .quiesceEnd _ => changesOnly_of_only replyParts (execQuiesceEnd_only _ (Nat.and_self _)) (by decide)
  | .resume _ _ => changesOnly_of_only replyParts (execResume_only _ _ (Nat.and_self _)) (by decide)
  | .resetInstance _ _ _ => changesOnly_of_only
      (replyParts ++ ([.stg] : List Blk))
      (execResetInstance_only _ _ _ (Nat.and_self _)) (by decide)
  | .removeInstance _ _ _ => changesOnly_of_only
      (replyParts ++ ([.stg] : List Blk))
      (execRemoveInstance_only _ _ _ (Nat.and_self _)) (by decide)
  | .resetComplete _ => changesOnly_of_only (replyParts ++ ([.sw, .stg] : List Blk))
      (execResetComplete_only _ (Nat.and_self _)) (by decide)
  | .release _ _ => changesOnly_of_only replyParts (execRelease_only _ _ (Nat.and_self _)) (by decide)
  | .setDmaWindow _ _ _ => changesOnly_of_only replyParts (execSetDmaWindow_only _ _ _ (Nat.and_self _)) (by decide)
  | .setExpertGrant _ _ _ _ => changesOnly_of_only replyParts (execSetExpertGrant_only _ _ _ _ (Nat.and_self _)) (by decide)
  | .setInstanceGrant _ _ _ => changesOnly_of_only replyParts (execSetInstanceGrant_only _ _ _ (Nat.and_self _)) (by decide)
  | .readInstance _ _ => changesOnly_of_only replyParts (execReadInstance_only _ _ (Nat.and_self _)) (by decide)
  | .declareConfinement _ _ => changesOnly_of_only replyParts (execDeclareConfinement_only _ _ (Nat.and_self _)) (by decide)
  | .createTransmitRing _ _ _ _ _ _ _ _ _ _ => changesOnly_of_only
      (replyParts ++ ([.draws] : List Blk))
      (execCreateTransmitRing_only _ _ _ _ _ _ _ _ _ _ (Nat.and_self _)) (by decide)
  | .createReceiveRing _ _ _ _ _ _ _ => changesOnly_of_only
      (replyParts ++ ([.draws] : List Blk))
      (execCreateReceiveRing_only _ _ _ _ _ _ _ (Nat.and_self _)) (by decide)
  | .createCompletionRing _ _ _ _ _ _ _ => changesOnly_of_only
      (replyParts ++ ([.draws] : List Blk))
      (execCreateCompletionRing_only _ _ _ _ _ _ _ (Nat.and_self _)) (by decide)
  | .destroyRing _ _ _ => changesOnly_of_only replyParts (execDestroyRing_only _ _ _ (Nat.and_self _)) (by decide)
  | .startRing _ _ _ => changesOnly_of_only replyParts (execStartRing_only _ _ _ (Nat.and_self _)) (by decide)
  | .stopRing _ _ _ => changesOnly_of_only replyParts (execStopRing_only _ _ _ (Nat.and_self _)) (by decide)
  | .resumeRings _ _ => changesOnly_of_only replyParts (execResumeRings_only _ _ (Nat.and_self _)) (by decide)
  | .setWeightAndBurst _ _ _ _ => changesOnly_of_only replyParts
      (execSetWeightAndBurst_only _ _ _ _ (Nat.and_self _)) (by decide)
  | .readRing _ _ _ => changesOnly_of_only replyParts (execReadRing_only _ _ _ (Nat.and_self _)) (by decide)
  | .registerPool _ _ _ _ _ _ _ _ => changesOnly_of_only replyParts
      (execRegisterPool_only _ _ _ _ _ _ _ _ (Nat.and_self _)) (by decide)
  | .unregisterPool _ _ => changesOnly_of_only replyParts (execUnregisterPool_only _ _ (Nat.and_self _)) (by decide)
  | .setShare _ _ _ _ _ _ => changesOnly_of_only replyParts (execSetShare_only _ _ _ _ _ _ (Nat.and_self _)) (by decide)
  | .sizeOnchipPools _ _ _ _ => changesOnly_of_only replyParts (execSizeOnchipPools_only _ _ _ _ (Nat.and_self _)) (by decide)
  | .setPressure _ _ _ => changesOnly_of_only replyParts (execSetPressure_only _ _ _ (Nat.and_self _)) (by decide)
  | .queryHandle _ _ => changesOnly_of_only replyParts (execQueryHandle_only _ _ (Nat.and_self _)) (by decide)
  | .createTable _ _ _ _ _ _ _ _ => changesOnly_of_only replyParts
      (execCreateTable_only _ _ _ _ _ _ _ _ (Nat.and_self _)) (by decide)
  | .destroyTable _ _ => changesOnly_of_only replyParts (execDestroyTable_only _ _ (Nat.and_self _)) (by decide)
  | .insertOrReplaceEntry _ _ _ _ _ _ => changesOnly_of_only
      replyParts
      (execInsertOrReplaceEntry_only _ _ _ _ _ _ (Nat.and_self _)) (by decide)
  | .deleteEntry _ _ _ _ => changesOnly_of_only replyParts (execDeleteEntry_only _ _ _ _ (Nat.and_self _)) (by decide)
  | .readEntry _ _ _ _ _ => changesOnly_of_only replyParts (execReadEntry_only _ _ _ _ _ (Nat.and_self _)) (by decide)
  | .setAgeLimit _ _ _ => changesOnly_of_only replyParts (execSetAgeLimit_only _ _ _ (Nat.and_self _)) (by decide)
  | .setTableGrant _ _ _ _ _ _ => changesOnly_of_only replyParts
      (execSetTableGrant_only _ _ _ _ _ _ (Nat.and_self _)) (by decide)
  | .flush _ _ _ _ => changesOnly_of_only replyParts (execFlush_only _ _ _ _ (Nat.and_self _)) (by decide)
  | .createOrReplacePolicer _ _ _ _ _ _ => changesOnly_of_only
      (replyParts ++ ([.sw] : List Blk))
      (execCreateOrReplacePolicer_only _ _ _ _ _ _ (Nat.and_self _)) (by decide)
  | .destroyPolicer _ _ => changesOnly_of_only (replyParts ++ ([.sw] : List Blk))
      (execDestroyPolicer_only _ _ (Nat.and_self _)) (by decide)
  | .readPolicer _ _ => changesOnly_of_only replyParts (execReadPolicer_only _ _ (Nat.and_self _)) (by decide)
  | .setLoopShare _ _ => changesOnly_of_only
      (replyParts ++ ([.sw, .limits] : List Blk))
      (execSetLoopShare_only _ _ (Nat.and_self _)) (by decide)
  | .installSa _ _ _ => changesOnly_of_only (replyParts ++ ([.draws] : List Blk))
      (execInstallSa_only _ _ _ (Nat.and_self _)) (by decide)
  | .removeSa _ _ => changesOnly_of_only replyParts (execRemoveSa_only _ _ (Nat.and_self _)) (by decide)
  | .activateSa _ _ => changesOnly_of_only (replyParts ++ ([.draws] : List Blk))
      (execActivateSa_only _ _ (Nat.and_self _)) (by decide)
  | .deactivateSa _ _ => changesOnly_of_only replyParts (execDeactivateSa_only _ _ (Nat.and_self _)) (by decide)
  | .rekeySa _ _ _ _ => changesOnly_of_only (replyParts ++ ([.draws] : List Blk))
      (execRekeySa_only _ _ _ _ (Nat.and_self _)) (by decide)
  | .readSa _ _ => changesOnly_of_only replyParts (execReadSa_only _ _ (Nat.and_self _)) (by decide)
  | .setCipherGrant _ _ _ _ _ => changesOnly_of_only replyParts (execSetCipherGrant_only _ _ _ _ _ (Nat.and_self _)) (by decide)
  | .eraseVault _ => changesOnly_of_only (replyParts ++ ([.store] : List Blk))
      (execEraseVault_only _ (Nat.and_self _)) (by decide)
  | .createConnection _ _ => changesOnly_of_only
      (replyParts ++ ([.stg] : List Blk))
      (execCreateConnection_only _ _ (Nat.and_self _)) (by decide)
  | .closeConnection _ _ _ _ => changesOnly_of_only
      (replyParts ++ ([.stg] : List Blk))
      (execCloseConnection_only _ _ _ _ (Nat.and_self _)) (by decide)
  | .closeDrainEnd _ => changesOnly_of_only (replyParts ++ ([.stg] : List Blk))
      (execCloseDrainEnd_only _ (Nat.and_self _)) (by decide)
  | .readConnection _ _ => changesOnly_of_only replyParts (execReadConnection_only _ _ (Nat.and_self _)) (by decide)
  | .configureStorage _ _ _ _ => changesOnly_of_only
      (replyParts ++ ([.stg] : List Blk))
      (execConfigureStorage_only _ _ _ _ (Nat.and_self _)) (by decide)
  | .setStorageGrant _ _ _ => changesOnly_of_only
      (replyParts ++ ([.stg] : List Blk))
      (execSetStorageGrant_only _ _ _ (Nat.and_self _)) (by decide)
  | .pinPeer _ _ => changesOnly_of_only replyParts (execPinPeer_only _ _ (Nat.and_self _)) (by decide)
  | .setLink _ _ _ => changesOnly_of_only replyParts (execSetLink_only _ _ _ (Nat.and_self _)) (by decide)
  | .setRole _ _ _ => changesOnly_of_only replyParts (execSetRole_only _ _ _ (Nat.and_self _)) (by decide)
  | .pair _ => changesOnly_of_only replyParts (execPair_only _ (Nat.and_self _)) (by decide)
  | .armTakeover _ _ _ _ => changesOnly_of_only replyParts (execArmTakeover_only _ _ _ _ (Nat.and_self _)) (by decide)
  | .disarm _ => changesOnly_of_only replyParts (execDisarm_only _ (Nat.and_self _)) (by decide)
  | .unpair _ => changesOnly_of_only replyParts (execUnpair_only _ (Nat.and_self _)) (by decide)
  | .readTwin _ => changesOnly_of_only replyParts (execReadTwin_only _ (Nat.and_self _)) (by decide)
  | .stageComponentImage _ _ _ _ _ _ _ => changesOnly_of_only
      (replyParts ++ ([.store, .fw, .draws] : List Blk))
      (execStageComponentImage_only _ _ _ _ _ _ _ (Nat.and_self _)) (by decide)
  | .stageManifest _ _ _ _ _ => changesOnly_of_only
      (replyParts ++ ([.fw, .draws] : List Blk))
      (execStageManifest_only _ _ _ _ _ (Nat.and_self _)) (by decide)
  | .activate _ => changesOnly_of_only (replyParts ++ ([.fw] : List Blk)) (execActivate_only _ (Nat.and_self _)) (by decide)
  | .activationStewardReady _ => changesOnly_of_only
      (replyParts ++ ([.stg, .alm, .store, .fw, .draws, .fuses] : List Blk))
      (execActivationStewardReady_only _ (Nat.and_self _)) (by decide)
  | .readVersions _ => changesOnly_of_only replyParts (execReadVersions_only _ (Nat.and_self _)) (by decide)
  | .rewrapToUnit _ _ => changesOnly_of_only (replyParts ++ ([.fw] : List Blk))
      (execRewrapToUnit_only _ _ (Nat.and_self _)) (by decide)
  | .readChainStatus _ => changesOnly_of_only replyParts (execReadChainStatus_only _ (Nat.and_self _)) (by decide)
  | .compatibilityUpdate _ _ _ _ _ _ _ => changesOnly_of_only
      (replyParts ++ ([.store, .fw, .draws] : List Blk))
      (execCompatibilityUpdate_only _ _ _ _ _ _ _ (Nat.and_self _)) (by decide)
  | .readAlmanac _ => changesOnly_of_only replyParts (execReadAlmanac_only _ (Nat.and_self _)) (by decide)
  | .setCalendar _ _ _ => changesOnly_of_only (replyParts ++ ([.alm] : List Blk))
      (execSetCalendar_only _ _ _ (Nat.and_self _)) (by decide)
  | .setWakeTimer _ _ => changesOnly_of_only (replyParts ++ ([.alm] : List Blk))
      (execSetWakeTimer_only _ _ (Nat.and_self _)) (by decide)
  | .readLifetimeCounters _ => changesOnly_of_only replyParts (execReadLifetimeCounters_only _ (Nat.and_self _)) (by decide)
  | .changeLifeCycleState _ _ _ => changesOnly_of_only
      (replyParts ++ ([.stg, .alm, .store, .fw, .draws, .life] : List Blk))
      (execChangeLifeCycleState_only _ _ _ (Nat.and_self _)) (by decide)
  | .setIdleLimit _ _ _ => changesOnly_of_only
      (replyParts ++ ([.alm] : List Blk))
      (execSetIdleLimit_only _ _ _ (Nat.and_self _)) (by decide)
  | .wake _ => changesOnly_of_only replyParts (execWake_only _ (Nat.and_self _)) (by decide)
  | .powerDown _ _ _ _ => changesOnly_of_only
      (replyParts ++ ([.stg, .alm] : List Blk))
      (execPowerDown_only _ _ _ _ (Nat.and_self _)) (by decide)
  | .powerDownDrainEnd _ => changesOnly_of_only
      (replyParts ++ ([.alm] : List Blk))
      (execPowerDownDrainEnd_only _ (Nat.and_self _)) (by decide)
  | .powerUp _ _ => changesOnly_of_only (replyParts ++ ([.alm, .store] : List Blk))
      (execPowerUp_only _ _ (Nat.and_self _)) (by decide)
  | .snapshotCounters _ _ => changesOnly_of_only replyParts (execSnapshotCounters_only _ _ (Nat.and_self _)) (by decide)
  | .setTraceSampling _ _ _ => changesOnly_of_only replyParts (execSetTraceSampling_only _ _ _ (Nat.and_self _)) (by decide)
  | .configureCrier _ _ _ _ _ _ _ => changesOnly_of_only replyParts
      (execConfigureCrier_only _ _ _ _ _ _ _ (Nat.and_self _)) (by decide)
  | .startOrStopExport _ _ => changesOnly_of_only replyParts (execStartOrStopExport_only _ _ (Nat.and_self _)) (by decide)
  | .createOrReplaceMirrorSession _ _ _ _ _ _ _ => changesOnly_of_only
      (replyParts ++ ([.sw] : List Blk))
      (execCreateOrReplaceMirrorSession_only _ _ _ _ _ _ _ (Nat.and_self _)) (by decide)
  | .destroyMirrorSession _ _ => changesOnly_of_only
      (replyParts ++ ([.sw] : List Blk))
      (execDestroyMirrorSession_only _ _ (Nat.and_self _)) (by decide)
  | .setPortMirror _ _ _ _ => changesOnly_of_only replyParts (execSetPortMirror_only _ _ _ _ (Nat.and_self _)) (by decide)
  | .grantChannel _ _ _ _ _ => changesOnly_of_only replyParts (execGrantChannel_only _ _ _ _ _ (Nat.and_self _)) (by decide)
  | .configureChannel _ _ _ => changesOnly_of_only replyParts (execConfigureChannel_only _ _ _ (Nat.and_self _)) (by decide)
  | .stopChannel _ _ => changesOnly_of_only replyParts (execStopChannel_only _ _ (Nat.and_self _)) (by decide)
  | .resetChannel _ _ => changesOnly_of_only replyParts (execResetChannel_only _ _ (Nat.and_self _)) (by decide)
  | .compatibilityPacket _ _ _ => changesOnly_of_only
      (replyParts ++ ([.sw, .stg, .store, .draws, .limits] : List Blk))
      (execCompatibilityPacket_only _ _ _ (Nat.and_self _)) (by decide)
  | .adminDoorbell _ => changesOnly_of_only (stocksParts ++ ([.stw] : List Blk))
      (execAdminDoorbell_only _ (Nat.and_self _)) (by decide)
  | .adminReplyConsumerWrite _ => changesOnly_of_only
      (stocksParts ++ ([.stw] : List Blk))
      (execAdminReplyConsumerWrite_only _ (Nat.and_self _)) (by decide)
  | .mailboxDoorbell _ _ => changesOnly_of_only stocksParts (execMailboxDoorbell_only _ _ (Nat.and_self _)) (by decide)
  | .securedPacketReceived _ _ _ => changesOnly_of_only [.stw, .cnt]
      (execSecuredPacketReceived_only _ _ _ (Nat.and_self _)) (by decide)
  | .acceptPacket _ _ _ _ => changesOnly_of_only
      (replyParts ++ ([.sw, .stg, .store, .draws, .limits] : List Blk))
      (execAcceptPacket_only _ _ _ _ (Nat.and_self _)) (by decide)
  | .backgroundCommandEnd _ => changesOnly_of_only replyParts (execBackgroundCommandEnd_only _ (Nat.and_self _)) (by decide)
  | .devLogConsWrite _ => changesOnly_of_only stocksParts (execDevLogConsWrite_only _ (Nat.and_self _)) (by decide)
  | .intaUpdate => changesOnly_of_only [.pci, .out] (execIntaUpdate_only (Nat.and_self _)) (by decide)
  | .registerWrite _ _ _ _ => changesOnly_of_only
      (replyParts ++ ([.stg, .alm, .store, .fw, .draws, .limits] : List Blk))
      (execRegisterWrite_only _ _ _ _ (Nat.and_self _)) (by decide)
  | .seqFlipGo _ => changesOnly_of_only
      [.dev, .cnt, .seq, .qm, .grn, .mac, .haul, .twn, .out]
      (execSeqFlipGo_only _ (Nat.and_self _)) (by decide)
  | .sealRequest _ => changesOnly_of_only [.seq] (execSealRequest_only _ (Nat.and_self _)) (by decide)
  | .sealComplete _ => changesOnly_of_only replyParts (execSealComplete_only _ (Nat.and_self _)) (by decide)
  | .discardRequest _ => changesOnly_of_only [.seq] (execDiscardRequest_only _ (Nat.and_self _)) (by decide)
  | .stepLoWrite _ _ => changesOnly_of_only [.cnt, .seq] (execStepLoWrite_only _ _ (Nat.and_self _)) (by decide)
  | .stepHiWrite _ _ => changesOnly_of_only [.cnt, .seq] (execStepHiWrite_only _ _ (Nat.and_self _)) (by decide)
  | .residencyPeakRead _ _ _ => changesOnly_of_only [.seq] (execResidencyPeakRead_only _ _ _ (Nat.and_self _)) (by decide)
  | .stepScrub => changesOnly_of_only [.cnt, .seq] (execStepScrub_only (Nat.and_self _)) (by decide)
  | .dispatch _ => changesOnly_of_only [.seq] (execDispatch_only _ (Nat.and_self _)) (by decide)
  | .parkedResume _ _ => changesOnly_of_only [.dev, .cnt, .seq, .grn] (execParkedResume_only _ _ (Nat.and_self _)) (by decide)
  | .ctlJump _ _ => changesOnly_of_only stepParts (execCtlJump_only _ _ (Nat.and_self _)) (by decide)
  | .ctlEnd _ _ => changesOnly_of_only stepParts (execCtlEnd_only _ _ (Nat.and_self _)) (by decide)
  | .ctlDrop _ _ => changesOnly_of_only stepParts (execCtlDrop_only _ _ (Nat.and_self _)) (by decide)
  | .ctlHook _ _ => changesOnly_of_only stepParts (execCtlHook_only _ _ (Nat.and_self _)) (by decide)
  | .ctlReturn _ _ => changesOnly_of_only stepParts (execCtlReturn_only _ _ (Nat.and_self _)) (by decide)
  | .ctlMark _ _ => changesOnly_of_only stepParts (execCtlMark_only _ _ (Nat.and_self _)) (by decide)
  | .aluMove _ _ => changesOnly_of_only stepParts (execAluMove_only _ _ (Nat.and_self _)) (by decide)
  | .aluAdd _ _ => changesOnly_of_only stepParts (execAluAdd_only _ _ (Nat.and_self _)) (by decide)
  | .aluSub _ _ => changesOnly_of_only stepParts (execAluSub_only _ _ (Nat.and_self _)) (by decide)
  | .aluAnd _ _ => changesOnly_of_only stepParts (execAluAnd_only _ _ (Nat.and_self _)) (by decide)
  | .aluOr _ _ => changesOnly_of_only stepParts (execAluOr_only _ _ (Nat.and_self _)) (by decide)
  | .aluXor _ _ => changesOnly_of_only stepParts (execAluXor_only _ _ (Nat.and_self _)) (by decide)
  | .aluShift _ _ => changesOnly_of_only stepParts (execAluShift_only _ _ (Nat.and_self _)) (by decide)
  | .aluCmpEq _ _ => changesOnly_of_only stepParts (execAluCmpEq_only _ _ (Nat.and_self _)) (by decide)
  | .aluCmpLt _ _ => changesOnly_of_only stepParts (execAluCmpLt_only _ _ (Nat.and_self _)) (by decide)
  | .loadHdr _ _ => changesOnly_of_only stepParts (execLoadHdr_only _ _ (Nat.and_self _)) (by decide)
  | .storeHdr _ _ => changesOnly_of_only stepParts (execStoreHdr_only _ _ (Nat.and_self _)) (by decide)
  | .strip _ _ => changesOnly_of_only stepParts (execStrip_only _ _ (Nat.and_self _)) (by decide)
  | .prepend _ _ => changesOnly_of_only stepParts (execPrepend_only _ _ (Nat.and_self _)) (by decide)
  | .readTime _ _ => changesOnly_of_only stepParts (execReadTime_only _ _ (Nat.and_self _)) (by decide)
  | .parseL2 _ _ => changesOnly_of_only stepParts (execParseL2_only _ _ (Nat.and_self _)) (by decide)
  | .parseL3 _ _ => changesOnly_of_only stepParts (execParseL3_only _ _ (Nat.and_self _)) (by decide)
  | .parseL4 _ _ => changesOnly_of_only stepParts (execParseL4_only _ _ (Nat.and_self _)) (by decide)
  | .parseTunnel _ _ => changesOnly_of_only stepParts (execParseTunnel_only _ _ (Nat.and_self _)) (by decide)
  | .parseStoragePdu _ _ => changesOnly_of_only stepParts (execParseStoragePdu_only _ _ (Nat.and_self _)) (by decide)
  | .hashCrc32c _ _ => changesOnly_of_only stepParts (execHashCrc32c_only _ _ (Nat.and_self _)) (by decide)
  | .hashCrc32 _ _ => changesOnly_of_only stepParts (execHashCrc32_only _ _ (Nat.and_self _)) (by decide)
  | .hashToeplitz _ _ => changesOnly_of_only stepParts (execHashToeplitz_only _ _ (Nat.and_self _)) (by decide)
  | .lkpHotLookup _ _ => changesOnly_of_only stepParts (execLkpHotLookup_only _ _ (Nat.and_self _)) (by decide)
  | .lkpRldLookup _ _ => changesOnly_of_only stepParts (execLkpRldLookup_only _ _ (Nat.and_self _)) (by decide)
  | .fwtLearn _ _ => changesOnly_of_only stepParts (execFwtLearn_only _ _ (Nat.and_self _)) (by decide)
  | .fwtRefresh _ _ => changesOnly_of_only stepParts (execFwtRefresh_only _ _ (Nat.and_self _)) (by decide)
  | .fwtWriteFlow _ _ => changesOnly_of_only stepParts (execFwtWriteFlow_only _ _ (Nat.and_self _)) (by decide)
  | .policeMeter _ _ => changesOnly_of_only (stepParts ++ ([.sw] : List Blk))
      (execPoliceMeter_only _ _ (Nat.and_self _)) (by decide)
  | .grnAlloc _ _ => changesOnly_of_only (stepParts ++ ([.draws] : List Blk))
      (execGrnAlloc_only _ _ (Nat.and_self _)) (by decide)
  | .grnFree _ _ => changesOnly_of_only stepParts (execGrnFree_only _ _ (Nat.and_self _)) (by decide)
  | .grnWaitRetry _ => changesOnly_of_only [.dev, .cnt, .seq, .grn, .draws]
      (execGrnWaitRetry_only _ (Nat.and_self _)) (by decide)
  | .grnWaitExpiry _ => changesOnly_of_only [.dev, .cnt, .seq, .grn] (execGrnWaitExpiry_only _ (Nat.and_self _)) (by decide)
  | .inlineScrubComplete _ => changesOnly_of_only
      [.dev, .cnt, .seq, .grn, .mac, .out, .draws]
      (execInlineScrubComplete_only _ (Nat.and_self _)) (by decide)
  | .backgroundScrub => changesOnly_of_only [.cnt, .grn, .out] (execBackgroundScrub_only (Nat.and_self _)) (by decide)
  | .grnQueryWrite _ => changesOnly_of_only [.grn] (execGrnQueryWrite_only _ (Nat.and_self _)) (by decide)
  | .grnQueryComplete => changesOnly_of_only [.grn] (execGrnQueryComplete_only (Nat.and_self _)) (by decide)
  | .cipRecord _ _ => changesOnly_of_only stepParts (execCipRecord_only _ _ (Nat.and_self _)) (by decide)
  | .recordFinish _ => changesOnly_of_only [.dev, .cnt, .seq, .grn, .cip, .twn, .out]
      (execRecordFinish_only _ (Nat.and_self _)) (by decide)
  | .claimExpiry _ => changesOnly_of_only stocksParts (execClaimExpiry_only _ (Nat.and_self _)) (by decide)
  | .dmawDeliver _ _ => changesOnly_of_only stepParts (execDmawDeliver_only _ _ (Nat.and_self _)) (by decide)
  | .dmarRead _ _ => changesOnly_of_only (stepParts ++ ([.draws] : List Blk))
      (execDmarRead_only _ _ (Nat.and_self _)) (by decide)
  | .xmitClass _ _ => changesOnly_of_only stepParts (execXmitClass_only _ _ (Nat.and_self _)) (by decide)
  | .xmitLoop _ _ => changesOnly_of_only stepParts (execXmitLoop_only _ _ (Nat.and_self _)) (by decide)
  | .xmitMirror _ _ => changesOnly_of_only (stepParts ++ ([.sw, .draws] : List Blk))
      (execXmitMirror_only _ _ (Nat.and_self _)) (by decide)
  | .haulStart _ _ => changesOnly_of_only (stepParts ++ ([.draws] : List Blk))
      (execHaulStart_only _ _ (Nat.and_self _)) (by decide)
  | .cntInc _ _ => changesOnly_of_only stepParts (execCntInc_only _ _ (Nat.and_self _)) (by decide)
  | .cntAdd _ _ => changesOnly_of_only stepParts (execCntAdd_only _ _ (Nat.and_self _)) (by decide)
  | .connGet _ _ => changesOnly_of_only stepParts (execConnGet_only _ _ (Nat.and_self _)) (by decide)
  | .connPutWrite _ _ => changesOnly_of_only stepParts (execConnPutWrite_only _ _ (Nat.and_self _)) (by decide)
  | .handoffSubmission _ _ => changesOnly_of_only
      (stepParts ++ ([.draws] : List Blk))
      (execHandoffSubmission_only _ _ (Nat.and_self _)) (by decide)
  | .handoffInbound _ _ => changesOnly_of_only
      (stepParts ++ ([.draws] : List Blk))
      (execHandoffInbound_only _ _ (Nat.and_self _)) (by decide)
  | .connPutComplete _ _ => changesOnly_of_only stepParts (execConnPutComplete_only _ _ (Nat.and_self _)) (by decide)
  | .connPutRelease _ _ => changesOnly_of_only stepParts (execConnPutRelease_only _ _ (Nat.and_self _)) (by decide)
  | .connPutFail _ _ => changesOnly_of_only stepParts (execConnPutFail_only _ _ (Nat.and_self _)) (by decide)
  | .turnDispatch _ => changesOnly_of_only [.seq, .stg] (execTurnDispatch_only _ (Nat.and_self _)) (by decide)
  | .slotExpiry _ _ => changesOnly_of_only [.dev, .cnt, .seq, .grn, .stg, .draws]
      (execSlotExpiry_only _ _ (Nat.and_self _)) (by decide)
  | .connectionTimerExpiry _ => changesOnly_of_only
      [.dev, .cnt, .seq, .grn, .stg, .draws]
      (execConnectionTimerExpiry_only _ (Nat.and_self _)) (by decide)
  | .timerCellRetry _ => changesOnly_of_only [.dev, .cnt, .seq, .grn, .stg, .draws]
      (execTimerCellRetry_only _ (Nat.and_self _)) (by decide)
  | .doorbell _ _ _ _ _ => changesOnly_of_only
      (stocksParts ++ ([.pci, .out] : List Blk))
      (execDoorbell_only _ _ _ _ _ (Nat.and_self _)) (by decide)
  | .inlinePush _ _ _ => changesOnly_of_only stocksParts (execInlinePush_only _ _ _ (Nat.and_self _)) (by decide)
  | .completionConsumerWrite _ _ _ => changesOnly_of_only
      (stocksParts ++ ([.pci, .out] : List Blk))
      (execCompletionConsumerWrite_only _ _ _ (Nat.and_self _)) (by decide)
  | .completionArm _ _ _ => changesOnly_of_only
      (stocksParts ++ ([.pci, .out] : List Blk))
      (execCompletionArm_only _ _ _ (Nat.and_self _)) (by decide)
  | .queueFetch _ _ => changesOnly_of_only [.cnt, .qm, .pci, .out, .draws]
      (execQueueFetch_only _ _ (Nat.and_self _)) (by decide)
  | .entryFetchComplete _ _ => changesOnly_of_only
      (stocksParts ++ ([.pci, .out, .draws] : List Blk))
      (execEntryFetchComplete_only _ _ (Nat.and_self _)) (by decide)
  | .frameReceived _ _ _ _ => changesOnly_of_only
      [.dev, .cnt, .seq, .grn, .mac, .draws]
      (execFrameReceived_only _ _ _ _ (Nat.and_self _)) (by decide)
  | .pfcPauseEnd _ _ => changesOnly_of_only [.mac] (execPfcPauseEnd_only _ _ (Nat.and_self _)) (by decide)
  | .pfcSend _ _ => changesOnly_of_only [.mac, .out] (execPfcSend_only _ _ (Nat.and_self _)) (by decide)
  | .pfcResend _ _ => changesOnly_of_only [.mac, .out] (execPfcResend_only _ _ (Nat.and_self _)) (by decide)
  | .transmitFrameStart _ => changesOnly_of_only [.cnt, .grn, .mac, .out]
      (execTransmitFrameStart_only _ (Nat.and_self _)) (by decide)
  | .txtsTagRead _ _ _ => changesOnly_of_only [.mac] (execTxtsTagRead_only _ _ _ (Nat.and_self _)) (by decide)
  | .macTimeStepWrite _ => changesOnly_of_only [.dev, .cnt, .mac] (execMacTimeStepWrite_only _ (Nat.and_self _)) (by decide)
  | .macTimeNsRead => changesOnly_of_only [.mac] (execMacTimeNsRead_only (Nat.and_self _)) (by decide)
  | .ppsInputEdge => changesOnly_of_only [.mac] (execPpsInputEdge_only (Nat.and_self _)) (by decide)
  | .ppsOutput => changesOnly_of_only [.mac] (execPpsOutput_only (Nat.and_self _)) (by decide)
  | .linkDown _ => changesOnly_of_only [.cnt, .grn, .mac, .pci, .out] (execLinkDown_only _ (Nat.and_self _)) (by decide)
  | .laneFault _ _ => changesOnly_of_only
      [.dev, .stw, .fmg, .cnt, .grn, .mac, .pci, .twn, .out]
      (execLaneFault_only _ _ (Nat.and_self _)) (by decide)
  | .cageFault _ _ => changesOnly_of_only [.dev, .cnt, .mac] (execCageFault_only _ _ (Nat.and_self _)) (by decide)
  | .agerVisit _ => changesOnly_of_only [.cnt, .fwt] (execAgerVisit_only _ (Nat.and_self _)) (by decide)
  | .homingMove _ _ _ => changesOnly_of_only [.fwt] (execHomingMove_only _ _ _ (Nat.and_self _)) (by decide)
  | .homingOverflowRemove _ _ _ => changesOnly_of_only [.fwt] (execHomingOverflowRemove_only _ _ _ (Nat.and_self _)) (by decide)
  | .lockExpiry _ _ _ => changesOnly_of_only stocksParts (execLockExpiry_only _ _ _ (Nat.and_self _)) (by decide)
  | .haulStartWrite _ _ _ => changesOnly_of_only [.cnt, .haul] (execHaulStartWrite_only _ _ _ (Nat.and_self _)) (by decide)
  | .haulAckWrite _ _ _ _ => changesOnly_of_only [.cnt, .haul] (execHaulAckWrite_only _ _ _ _ (Nat.and_self _)) (by decide)
  | .haulStopWrite _ _ => changesOnly_of_only [.cnt, .seq, .haul] (execHaulStopWrite_only _ _ (Nat.and_self _)) (by decide)
  | .watermarkHigh _ => changesOnly_of_only [.haul] (execWatermarkHigh_only _ (Nat.and_self _)) (by decide)
  | .runStart _ => changesOnly_of_only [.haul] (execRunStart_only _ (Nat.and_self _)) (by decide)
  | .haulNop _ _ => changesOnly_of_only
      (stocksParts ++ ([.pci, .out, .draws] : List Blk))
      (execHaulNop_only _ _ (Nat.and_self _)) (by decide)
  | .haulCopy _ _ => changesOnly_of_only
      (stocksParts ++ ([.stg, .pci, .fw, .out, .draws] : List Blk))
      (execHaulCopy_only _ _ (Nat.and_self _)) (by decide)
  | .haulZero _ _ => changesOnly_of_only
      (stocksParts ++ ([.stg, .pci, .fw, .out, .draws] : List Blk))
      (execHaulZero_only _ _ (Nat.and_self _)) (by decide)
  | .tblRead _ _ => changesOnly_of_only
      (stocksParts ++ ([.stg, .pci, .fw, .out, .draws] : List Blk))
      (execTblRead_only _ _ (Nat.and_self _)) (by decide)
  | .tblLockRead _ _ => changesOnly_of_only
      (stocksParts ++ ([.stg, .pci, .fw, .out, .draws] : List Blk))
      (execTblLockRead_only _ _ (Nat.and_self _)) (by decide)
  | .tblWriteUnlock _ _ => changesOnly_of_only
      (stocksParts ++ ([.pci, .out, .draws] : List Blk))
      (execTblWriteUnlock_only _ _ (Nat.and_self _)) (by decide)
  | .tblUnlock _ _ => changesOnly_of_only
      (stocksParts ++ ([.pci, .out, .draws] : List Blk))
      (execTblUnlock_only _ _ (Nat.and_self _)) (by decide)
  | .readCompletion _ _ _ _ _ => changesOnly_of_only
      [.dev, .cnt, .seq, .grn, .pci, .out, .draws]
      (execReadCompletion_only _ _ _ _ _ (Nat.and_self _)) (by decide)
  | .completionTimeout _ _ => changesOnly_of_only
      [.dev, .cnt, .seq, .grn, .pci, .out, .draws]
      (execCompletionTimeout_only _ _ (Nat.and_self _)) (by decide)
  | .tagQuarantineEnd _ _ => changesOnly_of_only [.pci, .out, .draws]
      (execTagQuarantineEnd_only _ _ (Nat.and_self _)) (by decide)
  | .busMasterEnableClear _ => changesOnly_of_only
      [.dev, .cnt, .seq, .qm, .grn, .mac, .haul, .pci, .draws]
      (execBusMasterEnableClear_only _ (Nat.and_self _)) (by decide)
  | .interruptDisableWrite _ => changesOnly_of_only [.pci, .out] (execInterruptDisableWrite_only _ (Nat.and_self _)) (by decide)
  | .msixUnmask _ _ => changesOnly_of_only [.pci, .out] (execMsixUnmask_only _ _ (Nat.and_self _)) (by decide)
  | .functionLevelReset _ => changesOnly_of_only stepParts (execFunctionLevelReset_only _ (Nat.and_self _)) (by decide)
  | .flrComplete _ => changesOnly_of_only
      (replyParts ++ ([.sw, .stg, .alm, .store] : List Blk))
      (execFlrComplete_only _ (Nat.and_self _)) (by decide)
  | .sriovVfEnableSet _ => changesOnly_of_only
      (replyParts ++ ([.stg] : List Blk))
      (execSriovVfEnableSet_only _ (Nat.and_self _)) (by decide)
  | .sriovVfDisable _ _ => changesOnly_of_only
      (replyParts ++ ([.stg] : List Blk))
      (execSriovVfDisable_only _ _ (Nat.and_self _)) (by decide)
  | .powerStateWrite _ _ => changesOnly_of_only
      [.dev, .stw, .fmg, .cnt, .seq, .qm, .grn, .mac, .haul, .pci, .twn, .alm, .store, .out, .draws]
      (execPowerStateWrite_only _ _ (Nat.and_self _)) (by decide)
  | .pmeTurnOff => changesOnly_of_only [.pci, .out] (execPmeTurnOff_only (Nat.and_self _)) (by decide)
  | .wakeEvent _ => changesOnly_of_only [.pci, .out] (execWakeEvent_only _ (Nat.and_self _)) (by decide)
  | .dlUp _ _ _ _ => changesOnly_of_only [.pci, .out] (execDlUp_only _ _ _ _ (Nat.and_self _)) (by decide)
  | .hotReset => changesOnly_of_only (replyParts ++ ([.stg, .alm, .store] : List Blk))
      (execHotReset_only (Nat.and_self _)) (by decide)
  | .perstAssert => changesOnly_of_only
      (stocksParts ++ ([.stw, .sw, .stg, .pci, .twn, .alm, .store, .fw, .life, .limits] : List Blk))
      (execPerstAssert_only (Nat.and_self _)) (by decide)
  | .perstRelease _ _ _ => changesOnly_of_only
      [.dev, .stw, .fmg, .cnt, .seq, .qm, .grn, .fwt, .mac, .cip, .haul, .stg, .pci, .alm, .store, .fw, .out, .draws]
      (execPerstRelease_only _ _ _ (Nat.and_self _)) (by decide)
  | .coldReset _ _ _ => changesOnly_of_only
      (replyParts ++ ([.sw, .stg, .alm, .store, .fw, .draws, .life, .limits] : List Blk))
      (execColdReset_only _ _ _ (Nat.and_self _)) (by decide)
  | .sramWipeEnd => changesOnly_of_only [.dev, .cnt, .grn] (execSramWipeEnd_only (Nat.and_self _)) (by decide)
  | .rldramWipeEnd => changesOnly_of_only
      (replyParts ++ ([.sw, .stg, .alm, .store, .fw, .draws, .life, .limits] : List Blk))
      (execRldramWipeEnd_only (Nat.and_self _)) (by decide)
  | .mainSupplyLoss => changesOnly_of_only
      (stocksParts ++ ([.stw, .sw, .stg, .pci, .twn, .alm, .store, .fw, .draws, .life, .limits] : List Blk))
      (execMainSupplyLoss_only (Nat.and_self _)) (by decide)
  | .auxPowerUp => changesOnly_of_only [.alm, .store] (execAuxPowerUp_only (Nat.and_self _)) (by decide)
  | .domainStart _ => changesOnly_of_only [.alm, .store] (execDomainStart_only _ (Nat.and_self _)) (by decide)
  | .domainReady _ => changesOnly_of_only (replyParts ++ ([.alm, .store] : List Blk))
      (execDomainReady_only _ (Nat.and_self _)) (by decide)
  | .domainIdleStop _ => changesOnly_of_only [.alm] (execDomainIdleStop_only _ (Nat.and_self _)) (by decide)
  | .stewardRestart => changesOnly_of_only [.stw, .fw] (execStewardRestart_only (Nat.and_self _)) (by decide)
  | .almanacRestart => changesOnly_of_only [.store] (execAlmanacRestart_only (Nat.and_self _)) (by decide)
  | .alarm _ _ => changesOnly_of_only
      [.dev, .stw, .fmg, .cnt, .seq, .grn, .cip, .pci, .twn, .alm, .store, .out]
      (execAlarm_only _ _ (Nat.and_self _)) (by decide)
  | .alarmClear _ => changesOnly_of_only [.dev, .cnt, .cip, .alm, .draws] (execAlarmClear_only _ (Nat.and_self _)) (by decide)
  | .thermalWarning _ => changesOnly_of_only [.dev, .cnt, .alm, .store] (execThermalWarning_only _ (Nat.and_self _)) (by decide)
  | .thermtrip _ => changesOnly_of_only [.alm, .store] (execThermtrip_only _ (Nat.and_self _)) (by decide)
  | .crystalFault => changesOnly_of_only [.dev, .cnt, .alm, .store] (execCrystalFault_only (Nat.and_self _)) (by decide)
  | .crystalRecovery => changesOnly_of_only [.alm] (execCrystalRecovery_only (Nat.and_self _)) (by decide)
  | .referenceClockFault _ => changesOnly_of_only
      (replyParts ++ ([.stg, .alm, .store] : List Blk))
      (execReferenceClockFault_only _ (Nat.and_self _)) (by decide)
  | .thermalDiodeFault _ => changesOnly_of_only [.dev, .cnt, .alm, .store]
      (execThermalDiodeFault_only _ (Nat.and_self _)) (by decide)
  | .wakeTimerFire => changesOnly_of_only [.dev, .cnt, .pci, .alm, .out] (execWakeTimerFire_only (Nat.and_self _)) (by decide)
  | .lifetimeSample _ => changesOnly_of_only [.alm, .store] (execLifetimeSample_only _ (Nat.and_self _)) (by decide)
  | .storeCommit => changesOnly_of_only [.store] (execStoreCommit_only (Nat.and_self _)) (by decide)
  | .cntSnapWrite _ => changesOnly_of_only [.cnt] (execCntSnapWrite_only _ (Nat.and_self _)) (by decide)
  | .snapshotCopyComplete => changesOnly_of_only [.cnt] (execSnapshotCopyComplete_only (Nat.and_self _)) (by decide)
  | .crierExport => changesOnly_of_only [.cnt, .seq, .haul] (execCrierExport_only (Nat.and_self _)) (by decide)
  | .fnSelWrite _ => changesOnly_of_only [.fmg] (execFnSelWrite_only _ (Nat.and_self _)) (by decide)
  | .fwtGrantSelWrite _ => changesOnly_of_only [.fwt] (execFwtGrantSelWrite_only _ (Nat.and_self _)) (by decide)
  | .fwtOvfSelWrite _ => changesOnly_of_only [.fwt, .draws] (execFwtOvfSelWrite_only _ (Nat.and_self _)) (by decide)
  | .cipSaSelWrite _ => changesOnly_of_only [.cip] (execCipSaSelWrite_only _ (Nat.and_self _)) (by decide)
  | .cipGrantSelWrite _ => changesOnly_of_only [.cip] (execCipGrantSelWrite_only _ (Nat.and_self _)) (by decide)
  | .stgConnSelWrite _ => changesOnly_of_only [.stg] (execStgConnSelWrite_only _ (Nat.and_self _)) (by decide)
  | .stgGrantSelWrite _ => changesOnly_of_only [.stg] (execStgGrantSelWrite_only _ (Nat.and_self _)) (by decide)
  | .twinLinkAuthenticated _ _ => changesOnly_of_only
      [.dev, .stw, .fmg, .cnt, .twn, .draws]
      (execTwinLinkAuthenticated_only _ _ (Nat.and_self _)) (by decide)
  | .heartbeatSend => changesOnly_of_only [.twn, .out] (execHeartbeatSend_only (Nat.and_self _)) (by decide)
  | .heartbeatReceived _ => changesOnly_of_only [.dev, .cnt, .twn] (execHeartbeatReceived_only _ (Nat.and_self _)) (by decide)
  | .heartbeatWindowEnd => changesOnly_of_only
      (replyParts ++ ([.sw, .stg, .store, .draws, .limits] : List Blk))
      (execHeartbeatWindowEnd_only (Nat.and_self _)) (by decide)
  | .armDeadline => changesOnly_of_only [.dev, .cnt, .twn] (execArmDeadline_only (Nat.and_self _)) (by decide)
  | .mirroredCommand _ _ => changesOnly_of_only
      (replyParts ++ ([.sw, .stg, .store, .draws, .limits] : List Blk))
      (execMirroredCommand_only _ _ (Nat.and_self _)) (by decide)
  | .leaseRecord _ _ _ => changesOnly_of_only
      [.dev, .cnt, .seq, .cip, .stg, .twn, .out]
      (execLeaseRecord_only _ _ _ (Nat.and_self _)) (by decide)
  | .replaySnapshot _ _ _ => changesOnly_of_only
      [.dev, .cnt, .seq, .cip, .stg, .twn, .out]
      (execReplaySnapshot_only _ _ _ (Nat.and_self _)) (by decide)
  | .storageRecord _ _ _ => changesOnly_of_only
      [.dev, .cnt, .seq, .cip, .stg, .twn, .out]
      (execStorageRecord_only _ _ _ (Nat.and_self _)) (by decide)
  | .bankImagePart _ _ _ => changesOnly_of_only
      [.dev, .cnt, .seq, .cip, .stg, .twn, .out]
      (execBankImagePart_only _ _ _ (Nat.and_self _)) (by decide)
  | .twinAcknowledgement _ _ _ => changesOnly_of_only replyParts
      (execTwinAcknowledgement_only _ _ _ (Nat.and_self _)) (by decide)
  | .twinResend _ => changesOnly_of_only [.dev, .stw, .fmg, .cnt, .twn, .out]
      (execTwinResend_only _ (Nat.and_self _)) (by decide)
  | .mirrorReplyTimeout => changesOnly_of_only replyParts (execMirrorReplyTimeout_only (Nat.and_self _)) (by decide)
  | .chainOfferSend => changesOnly_of_only [.fw, .out] (execChainOfferSend_only (Nat.and_self _)) (by decide)
  | .chainOfferReceived _ => changesOnly_of_only [.dev, .cnt, .pci, .fw, .out]
      (execChainOfferReceived_only _ (Nat.and_self _)) (by decide)
  | .chainRequestReceived _ => changesOnly_of_only [.out] (execChainRequestReceived_only _ (Nat.and_self _)) (by decide)
  | .chainDataReceived _ => changesOnly_of_only
      [.dev, .cnt, .pci, .store, .fw, .out, .draws, .fuses]
      (execChainDataReceived_only _ (Nat.and_self _)) (by decide)
  | .chainConfirmReceived _ => changesOnly_of_only [.dev, .cnt, .fw]
      (execChainConfirmReceived_only _ (Nat.and_self _)) (by decide)
  | .chainRefuseReceived _ => changesOnly_of_only [.fw] (execChainRefuseReceived_only _ (Nat.and_self _)) (by decide)
  | .chainFault _ _ => changesOnly_of_only [.dev, .cnt, .fw] (execChainFault_only _ _ (Nat.and_self _)) (by decide)
  | .spdmGetCertificate _ _ _ => changesOnly_of_only [.out] (execSpdmGetCertificate_only _ _ _ (Nat.and_self _)) (by decide)
  | .spdmChallenge _ _ => changesOnly_of_only [.out, .draws] (execSpdmChallenge_only _ _ (Nat.and_self _)) (by decide)
  | .getMeasurements _ _ _ => changesOnly_of_only [.out, .draws] (execGetMeasurements_only _ _ _ (Nat.and_self _)) (by decide)
  | .keyExchange _ _ _ => changesOnly_of_only [.dev, .cnt, .fw, .out, .draws]
      (execKeyExchange_only _ _ _ (Nat.and_self _)) (by decide)
  | .putImage _ _ _ _ => changesOnly_of_only [.fw, .out, .draws] (execPutImage_only _ _ _ _ (Nat.and_self _)) (by decide)
  | .linkUp _ _ => changesOnly_of_only [.dev, .cnt, .mac, .pci, .twn, .out] (execLinkUp_only _ _ (Nat.and_self _)) (by decide)
  | .laneFaultClear _ _ => changesOnly_of_only [.mac] (execLaneFaultClear_only _ _ (Nat.and_self _)) (by decide)
  | .cageFaultClear _ _ => changesOnly_of_only [.mac] (execCageFaultClear_only _ _ (Nat.and_self _)) (by decide)
  | .cageInterrupt _ => changesOnly_of_only [.mac] (execCageInterrupt_only _ (Nat.and_self _)) (by decide)
  | .twinLinkDown => changesOnly_of_only [.dev, .stw, .fmg, .cnt, .twn] (execTwinLinkDown_only (Nat.and_self _)) (by decide)
  | .takeoverComplete => changesOnly_of_only stepParts (execTakeoverComplete_only (Nat.and_self _)) (by decide)
  | .referenceClockRecovery _ => changesOnly_of_only [.dev, .cnt, .alm]
      (execReferenceClockRecovery_only _ (Nat.and_self _)) (by decide)
  | .thermalWarningClear _ => changesOnly_of_only [.alm, .store] (execThermalWarningClear_only _ (Nat.and_self _)) (by decide)
  | .thermtripRelease => changesOnly_of_only [.alm] (execThermtripRelease_only (Nat.and_self _)) (by decide)
  | .thermalDiodeFaultClear => changesOnly_of_only [.dev, .cnt, .alm]
      (execThermalDiodeFaultClear_only (Nat.and_self _)) (by decide)
  | .chainFaultClear _ _ => changesOnly_of_only [.pci, .fw, .out] (execChainFaultClear_only _ _ (Nat.and_self _)) (by decide)
  | .auxPowerLoss => changesOnly_of_only [.alm, .store] (execAuxPowerLoss_only (Nat.and_self _)) (by decide)
  | .busMasterEnableSet _ => changesOnly_of_only [.pci, .out] (execBusMasterEnableSet_only _ (Nat.and_self _)) (by decide)
  | .smbusClockLowTimeout => changesOnly_of_only [.out] (execSmbusClockLowTimeout_only (Nat.and_self _)) (by decide)
  | .stewardRestartComplete => changesOnly_of_only
      (replyParts ++ ([.stg, .alm, .store, .fw, .draws] : List Blk))
      (execStewardRestartComplete_only (Nat.and_self _)) (by decide)
  | .almanacRestartComplete => changesOnly_of_only
      (replyParts ++ ([.stg, .alm, .store] : List Blk))
      (execAlmanacRestartComplete_only (Nat.and_self _)) (by decide)
  | .almCalSecRead => changesOnly_of_only [.alm] (execAlmCalSecRead_only (Nat.and_self _)) (by decide)

/-- Settles O38: each command's frame (`exec_changesOnly`). -/
theorem commandsKeepToTheirParts : Obligations.CommandsKeepToTheirParts := by
  unfold Obligations.CommandsKeepToTheirParts
  intro i s t h
  have hkeeps := exec_changesOnly s i
  rwa [h] at hkeeps

end Sys2Proof.Machine

/-! PROOFS. What a step does (O39, O40), and what is burned into the fuses (O42). -/

namespace Sys2Proof.Machine

/-! ## A step -/

section Steps

variable {s t u : State}

/-- A step that goes on is a nanosecond, where no command waits, or the execution of the command at the front. -/
theorem step_cases (h : Machine.step s = .next t) :
    (s.pending = [] ∧ t = tickNs s) ∨
      ∃ i rest, s.pending = i :: rest ∧ exec i { s with pending := rest } = .next t := by
  rcases hpending : s.pending with _ | ⟨i, rest⟩
  case nil =>
    rw [Machine.step, hpending] at h
    exact .inl ⟨rfl, (Host.Outcome.next.inj h).symm⟩
  case cons =>
    rw [Machine.step, hpending] at h
    exact .inr ⟨i, rest, rfl, h⟩

/-- Settles O39: the step of a state whose queue has a front is defined so. -/
theorem stepRunsFrontCommand : Obligations.StepRunsFrontCommand := by
  unfold Obligations.StepRunsFrontCommand
  intro c rest s
  rw [Machine.step]

/-- Settles O40: neither a nanosecond nor a command changes the commands that wait (`exec_changesOnly`). -/
theorem stepTakesOneCommand : Obligations.StepTakesOneCommand := by
  unfold Obligations.StepTakesOneCommand
  intro s t h
  rcases step_cases h with ⟨hpending, ht⟩ | ⟨i, rest, hpending, hexec⟩
  · have hkept : (tickNs s).pending = s.pending :=
      ((tickNs_only (m := 0x3ffbff) rfl).mpr (Only.refl _ s)).eq .pending (by decide)
    rw [ht, hkept, hpending, List.tail_nil]
  · obtain ⟨hwaiting, -, -⟩ := touches_table i
    have hkept : t.pending = rest := commandsKeepToTheirParts i _ t hexec .pending hwaiting
    rw [hkept, hpending, List.tail_cons]

/-! ## The fuses (R477, R492) -/

/-- What is burned in a state is burned in another. -/
def FusesGrow (s t : State) : Prop :=
  (∀ c : Nat, floorOf s c ≤ floorOf t c) ∧ (∀ k : Nat, s.fw.revoked.testBit k = true → t.fw.revoked.testBit k = true) ∧
    (s.fw.ownerKey ≠ [] → t.fw.ownerKey = s.fw.ownerKey)

theorem FusesGrow.refl (s : State) : FusesGrow s s := ⟨fun _ => Nat.le_refl _, fun _ h => h, fun _ => rfl⟩

theorem FusesGrow.trans (h : FusesGrow s t) (h' : FusesGrow t u) : FusesGrow s u := by
  obtain ⟨hfloor, hrevoked, hkey⟩ := h
  obtain ⟨hfloor', hrevoked', hkey'⟩ := h'
  exact ⟨fun c => (hfloor c).trans (hfloor' c), fun k hk => hrevoked' k (hrevoked k hk),
    fun hs => (hkey' (by rwa [hkey hs])).trans (hkey hs)⟩

theorem fusesGrow_of_eq (h : t.fuses = s.fuses) : FusesGrow s t := by
  simp only [State.fuses, Fuses.mk.injEq] at h
  obtain ⟨hrevoked, hkey, hfloors⟩ := h
  simp [FusesGrow, floorOf, hrevoked, hkey, hfloors]

/-- What changes anything but the fuses burns nothing. -/
theorem Only.fusesGrow (h : Only 0x37fffff s t) : FusesGrow s t := fusesGrow_of_eq (h.eq .fuses (by decide))

theorem FusesGrow.only (h : FusesGrow s t) (h' : Only 0x37fffff t u) : FusesGrow s u := h.trans h'.fusesGrow

/-- A floor that is raised does not fall, and no other changes. -/
theorem raiseFloor_fusesGrow (s : State) (c v : Nat) : FusesGrow s (raiseFloor s c v) := by
  refine ⟨fun k => ?_, fun _ h => h, fun _ => rfl⟩
  simp only [floorOf, raiseFloor]
  by_cases hk : k = c
  · subst hk
    unfold tput
    split
    next hzero =>
      rw [(Nat.max_eq_zero_iff.mp hzero).1]
      exact Nat.zero_le _
    next => simp [tgetD]
  · rw [tgetD_tput_ne 0 0 _ _ hk]

theorem raiseFloors_fusesGrow (s : State) : FusesGrow s (raiseFloors s) := by
  have hall : ∀ (es : List ManEntry) (s : State),
      FusesGrow s (es.foldl (fun s e => raiseFloor s e.comp e.secVersion) s) := by
    intro es
    induction es with
    | nil => exact FusesGrow.refl
    | cons e es ih => exact fun s => (raiseFloor_fusesGrow s _ _).trans (ih _)
  unfold raiseFloors
  split
  · exact hall _ _
  · exact raiseFloor_fusesGrow _ _ _

/-- An activation that ends raises floors, and burns nothing else. -/
theorem endActivation_fusesGrow (s : State) (b : BgCmd) : FusesGrow s (endActivation s b) := by
  have hpointer : ∀ s : State, FusesGrow s (writePointer s) := fun s =>
    (raiseFloors_fusesGrow s).only (by simp [writePointer])
  have hwritten : FusesGrow s (writePointer (takeLibrary (actLabel s).2)) :=
    (Only.fusesGrow (by simp)).trans (hpointer _)
  exact hwritten.only (by simp [endActivation])

theorem execActivationStewardReady_fusesGrow (ready : Bool) (s : State) :
    FusesGrow s ((execActivationStewardReady ready s).after s) := by
  simp only [execActivationStewardReady, Res_next_after]
  split
  next => exact FusesGrow.refl s
  next b _ =>
    split
    · exact FusesGrow.refl s
    · split
      · exact Only.fusesGrow (by simp)
      · split
        next hflip =>
          cases snd_of hflip
          have hflipped : FusesGrow s (requestFlip (trialReady s)).2 := Only.fusesGrow (by simp)
          exact (hflipped.trans (endActivation_fusesGrow _ b)).only (by simp)
        next hflip =>
          cases snd_of hflip
          exact Only.fusesGrow (by simp)

theorem notePackage_fusesGrow (s : State) (c : Nat) (i : Image) : FusesGrow s (notePackage s c i) :=
  (Only.fusesGrow (by simp)).trans (raiseFloor_fusesGrow _ _ _)

/-- The mask of a package is ORed into the fuses. -/
theorem applyRevocation_fusesGrow (s : State) (i : Image) (plain : List Nat) :
    FusesGrow s (applyRevocation s i plain) := by
  have hored : FusesGrow s { s with fw := { s.fw with
      revoked := s.fw.revoked ||| Sys2Proof.Config.revocationMask plain % 2 ^ 32 } } :=
    ⟨fun _ => Nat.le_refl _, fun k hk => by simp only [Nat.testBit_or, hk, Bool.true_or], fun _ => rfl⟩
  exact (hored.trans (notePackage_fusesGrow _ 8 i)).only (by simp [applyRevocation])

/-- A package whose owner key conflicts with the one burned is refused. -/
theorem burnedKey_eq {plain k : List Nat} (h : burnedKey s plain = some k) (hs : s.fw.ownerKey ≠ []) :
    k = s.fw.ownerKey := by
  unfold burnedKey at h
  split at h
  · exact (Option.some.inj h).symm
  · split at h
    next hfits =>
      simp only [Bool.or_eq_true, List.isEmpty_iff, hs, decide_eq_true_eq, false_or] at hfits
      rw [← Option.some.inj h, hfits]
    next => cases h

theorem applyFuses_fusesGrow (i : Image) {key : List Nat} (h : s.fw.ownerKey ≠ [] → key = s.fw.ownerKey) :
    FusesGrow s (applyFuses s i key) := by
  have hburned : FusesGrow s { s with fw := { s.fw with ownerKey := key } } :=
    ⟨fun _ => Nat.le_refl _, fun _ hk => hk, h⟩
  exact (hburned.trans (notePackage_fusesGrow _ 9 i)).only (by simp [applyFuses])

theorem takePackage_fusesGrow (s : State) (id : PkgId) (bytes : List Nat) (i : Image) (plain : List Nat) :
    FusesGrow s (takePackage s id bytes i plain) := by
  have hnoted : FusesGrow s (logEvent s 0x0206 0xFFF [.num 1 id.kind, .num 4 i.version]) := Only.fusesGrow (by simp)
  have hfw : (logEvent s 0x0206 0xFFF [.num 1 id.kind, .num 4 i.version]).fw = s.fw :=
    ((logEvent_only _ _ _ rfl).mpr (Only.refl 0x11 s)).eq .fw (by decide)
  simp only [takePackage]
  split
  · exact Only.fusesGrow (by simp)
  · exact (hnoted.trans (applyRevocation_fusesGrow _ i plain)).only (by simp)
  · split
    next k hkey => exact (hnoted.trans (applyFuses_fusesGrow (key := k) i (hfw ▸ burnedKey_eq hkey))).only (by simp)
    next => exact Only.fusesGrow (by simp)

theorem execChainDataReceived_fusesGrow (frm : ChainFrame) (s : State) :
    FusesGrow s ((execChainDataReceived frm s).after s) := by
  have hverify : ∀ (s : State) (id : PkgId), FusesGrow s (verifyRx s id) := fun s id => by
    unfold verifyRx
    split
    · exact Only.fusesGrow (by simp)
    · exact takePackage_fusesGrow _ _ _ _ _
  simp only [execChainDataReceived, Res_next_after]
  split
  · exact Only.fusesGrow (by simp)
  · split
    · exact Only.fusesGrow (by simp)
    · split
      · exact Only.fusesGrow (by simp)
      · split
        · exact FusesGrow.trans (Only.fusesGrow (by simp)) (hverify _ _)
        · exact Only.fusesGrow (by simp)

theorem exec_fusesGrow {i : Instr} (h : exec i s = .next t) : FusesGrow s t := by
  by_cases hfuses : Blk.fuses ∈ touches i
  case neg => exact fusesGrow_of_eq (commandsKeepToTheirParts i s t h .fuses hfuses)
  case pos =>
    obtain ⟨-, hburns, -⟩ := touches_table i
    rcases hburns hfuses with ⟨ready, rfl⟩ | ⟨frm, rfl⟩
    · exact Host.Outcome.next.inj h ▸ execActivationStewardReady_fusesGrow ready s
    · exact Host.Outcome.next.inj h ▸ execChainDataReceived_fusesGrow frm s

end Steps

/-- Settles O42: a nanosecond burns nothing, and a command burns what it adds (`exec_fusesGrow`). -/
theorem fusesOnlyGrow : Obligations.FusesOnlyGrow := by
  unfold Obligations.FusesOnlyGrow
  intro s t h
  rcases step_cases h with ⟨-, ht⟩ | ⟨i, rest, -, hexec⟩
  · have htick : FusesGrow s (tickNs s) := Only.fusesGrow (by simp)
    rwa [ht]
  · have hgrow : FusesGrow { s with pending := rest } t := exec_fusesGrow hexec
    exact hgrow

end Sys2Proof.Machine

/-! PROOFS. The life cycle follows Table 16.7 (O43): five commands change it, and each begins a change that the table allows,
ends the one under way, or leaves the state and the record of the change as they were. -/

namespace Sys2Proof.Machine

section LifeCycle

variable {s t u : State}

/-! ## What keeps to Table 16.7 (R455, R458) -/

/-- From a life cycle whose change is one that the table allows, a state's life cycle moves by the table. -/
def LifeFollows (s t : State) : Prop :=
  lifeSound s = true → lifeSound t = true ∧
    (t.alm.lcState = s.alm.lcState ∨ (lcAuthority s.alm.lcState t.alm.lcState).isSome = true)

theorem lifeSound_iff : lifeSound s = true ↔ (s.stw.lcChange = true ∨ s.alm.wipePending = true →
    s.alm.lcTarget = s.alm.lcState ∨ (lcAuthority s.alm.lcState s.alm.lcTarget).isSome = true) := by
  cases hchange : s.stw.lcChange <;> cases hwipe : s.alm.wipePending <;> simp [lifeSound, hchange, hwipe]

theorem LifeFollows.refl (s : State) : LifeFollows s s := fun h => ⟨h, .inl rfl⟩

/-- Only the life cycles count. -/
theorem LifeFollows.congr {s' t' : State} (h : LifeFollows s t) (hs : s.life = s'.life) (ht : t.life = t'.life) :
    LifeFollows s' t' := by
  simp only [State.life, Life.mk.injEq] at hs ht
  obtain ⟨hs1, hs2, hs3, hs4⟩ := hs
  obtain ⟨ht1, ht2, ht3, ht4⟩ := ht
  simpa only [LifeFollows, lifeSound, hs1, hs2, hs3, hs4, ht1, ht2, ht3, ht4] using h

theorem lifeFollows_of_eq (h : t.life = s.life) : LifeFollows s t := (LifeFollows.refl s).congr rfl h.symm

/-- What changes anything but the life cycle keeps to the table. -/
theorem Only.lifeFollows (h : Only 0x2ffffff s t) : LifeFollows s t := lifeFollows_of_eq (h.eq .life (by decide))

theorem LifeFollows.only (h : LifeFollows s t) (h' : Only 0x2ffffff t u) : LifeFollows s u :=
  h.congr rfl (h'.eq .life (by decide)).symm

theorem Only.thenFollows (h : Only 0x2ffffff s t) (h' : LifeFollows t u) : LifeFollows s u :=
  h'.congr (h.eq .life (by decide)) rfl

/-- What ends the change under way, or all that was recorded of one, keeps to the table. -/
theorem lifeFollows_of_quiet (hstate : t.alm.lcState = s.alm.lcState) (htarget : t.alm.lcTarget = s.alm.lcTarget)
    (hchange : t.stw.lcChange = false) (hwipe : t.alm.wipePending = s.alm.wipePending) : LifeFollows s t := by
  intro hs
  rw [lifeSound_iff] at hs ⊢
  rw [hstate, htarget, hchange, hwipe]
  exact ⟨fun h => hs (.inr (h.resolve_left Bool.false_ne_true)), .inl rfl⟩

/-- The target of the change under way takes effect. -/
theorem lifeFollows_of_target (hunder : s.stw.lcChange = true ∨ s.alm.wipePending = true)
    (hstate : t.alm.lcState = s.alm.lcTarget) (htarget : t.alm.lcTarget = s.alm.lcTarget) : LifeFollows s t := by
  intro hs
  rw [lifeSound_iff] at hs ⊢
  rw [hstate, htarget]
  exact ⟨fun _ => .inl rfl, hs hunder⟩

/-! ## The commands that change the life cycle (R449, R455 to R458, R503) -/

/-- What a command's own rules leave is all that a command changes, but for its reply. -/
theorem runCmd_cases (m : Meta) (op : Nat) (objs : List Obj) (rld : Bool) (bad : Option Nat) (f : State → CmdOut)
    (s : State) : Only 0x8dbff s (runCmd m op objs rld bad f s) ∨
      ∃ y, Only 0x2 s y ∧ Only 0x8dbff (f y).s (runCmd m op objs rld bad f s) := by
  have hbegan : Only 0x8dbff s (takeAccepted s m op).2 := by simp
  unfold runCmd
  split
  · exact .inl (Only.refl _ _)
  · dsimp only
    split
    · exact .inl (by simp)
    · split
      · exact .inl (by simp)
      · split
        · exact .inl (by simp)
        · split
          · exact .inl (by simp)
          · split
            · exact .inl (by simp)
            · unfold settleCmd
              split
              · exact .inr ⟨(takeAccepted s m op).2, by simp, by simp⟩
              · split
                · exact .inl (by simp)
                · (repeat' split) <;> exact .inr ⟨(takeAccepted s m op).2, by simp, by simp⟩

/-- A change that begins has a target that the table allows. -/
theorem beginLcChange_lifeFollows {target : Nat} (h : (lcAuthority s.alm.lcState target).isSome = true) :
    LifeFollows s (beginLcChange s target) := by
  have hframe : Only 0x3feffff { s with alm := { s.alm with wipePending := true, lcTarget := target } }
      (beginLcChange s target) := by simp [beginLcChange]
  have halm : (beginLcChange s target).alm = { s.alm with wipePending := true, lcTarget := target } :=
    hframe.eq .alm (by decide)
  intro _
  rw [lifeSound_iff, halm]
  exact ⟨fun _ => .inr h, .inl rfl⟩

theorem execChangeLifeCycleState_lifeFollows (m : Meta) (target : Nat) (sig : List Nat) (s : State) :
    LifeFollows s ((execChangeLifeCycleState m target sig s).after s) := by
  have hnonce : ∀ t, LifeFollows s t → LifeFollows s (freshNonce t) := fun _ h => h.only (by simp)
  simp only [execChangeLifeCycleState, Res_next_after]
  generalize hrun : runCmd m 0x0A05 _ _ _ _ s = t
  have ht : LifeFollows s t := by
    rw [← hrun]
    rcases runCmd_cases m 0x0A05 [] false _ _ s with hkept | ⟨y, hy, hout⟩
    · exact (hkept.widen (by decide)).lifeFollows
    · refine Only.thenFollows (hy.widen (by decide)) (LifeFollows.only ?_ (hout.widen (by decide)))
      split
      · exact LifeFollows.refl y
      next owner hauth =>
        split
        · exact LifeFollows.refl y
        · split
          · exact LifeFollows.refl y
          · exact beginLcChange_lifeFollows (by rw [hauth]; rfl)
  split
  · exact ht
  · split
    · exact ht
    · exact hnonce t ht

/-- A reset ends the change under way; what the record says of it stays. -/
theorem resetBlocks_lifeFollows (s : State) : LifeFollows s (resetBlocks s) :=
  lifeFollows_of_quiet rfl rfl rfl rfl

theorem execPerstAssert_lifeFollows (s : State) : LifeFollows s ((execPerstAssert s).after s) := by
  simp only [execPerstAssert, Res_next_after]
  split
  · exact LifeFollows.refl s
  · exact (resetBlocks_lifeFollows s).only (by simp)

theorem execColdReset_lifeFollows (imageOk : Bool) (straps : Straps) (lib : TableSet) (s : State) :
    LifeFollows s ((execColdReset imageOk straps lib s).after s) := by
  simp only [execColdReset, Res_next_after]
  split
  · exact LifeFollows.refl s
  · exact (resetBlocks_lifeFollows s).only (by simp)

theorem execMainSupplyLoss_lifeFollows (s : State) : LifeFollows s ((execMainSupplyLoss s).after s) := by
  simp only [execMainSupplyLoss, Res_next_after]
  split
  · exact LifeFollows.refl s
  · refine Only.thenFollows (t := commitStore (bumpLife (histAppend (draw s).2
      ((Sys2Proof.Config.freeWord (draw s).1).toNat % 256) 0) 22 1)) (by simp) ?_
    exact (resetBlocks_lifeFollows _).only (by simp)

/-- A change's target takes effect, with every block at its reset values (R458). -/
def lcTakesEffect (s : State) : State :=
  { lcReset s with
    alm := { (lcReset s).alm with lcState := s.alm.lcTarget, wipePending := false }
    dev := { (lcReset s).dev with wipeDone := true }
    fmg := { (lcReset s).fmg with ready := true, fwAuthentic := s.fmg.fwAuthentic, isoHolds := s.fmg.isoHolds }
    grn := { (lcReset s).grn with ready := true }, cnt := { (lcReset s).cnt with ready := true }
    fwt := { (lcReset s).fwt with ready := true }, stg := { (lcReset s).stg with ready := true } }

/-- The end of a change brings its target. -/
theorem endLcChange_lifeFollows (b : BgCmd) (h : s.stw.lcChange = true) : LifeFollows s (endLcChange s b) := by
  have htaken : LifeFollows s (lcTakesEffect s) := lifeFollows_of_target (.inl h) rfl rfl
  simp only [endLcChange]
  split <;> exact htaken.only (by simp [lcTakesEffect])

/-- A start-up that completes a change brings its target. -/
theorem lcAtStart_lifeFollows (h : s.alm.wipePending = true) : LifeFollows s (lcAtStart s) := by
  have hdone : LifeFollows s { s with alm := { s.alm with lcState := s.alm.lcTarget, wipePending := false } } :=
    lifeFollows_of_target (.inr h) rfl rfl
  simp only [lcAtStart]
  split <;> exact hdone.only (by simp)

theorem lcChange_of_lcCmd {b : BgCmd} (h : lcCmd s = some b) : s.stw.lcChange = true := by
  unfold lcCmd at h
  split at h
  next hchange => exact hchange
  next => cases h

theorem execRldramWipeEnd_lifeFollows (s : State) : LifeFollows s ((execRldramWipeEnd s).after s) := by
  simp only [execRldramWipeEnd, Res_next_after]
  split
  · exact LifeFollows.refl s
  · have hwiped : Only 0x2101 s { s with
        dev := { s.dev with rldWiping := false, wipeDone := true }
        fwt := { s.fwt with ready := true }, stg := { s.stg with ready := true } } := by simp
    revert hwiped
    generalize ({ s with
      dev := { s.dev with rldWiping := false, wipeDone := true }
      fwt := { s.fwt with ready := true }, stg := { s.stg with ready := true } } : State) = s1
    intro hwiped
    have halm : s1.alm = s.alm := hwiped.eq .alm (by decide)
    have hwiped : Only 0x2ffffff s s1 := hwiped.widen (by decide)
    split
    next b hcmd => exact hwiped.thenFollows (endLcChange_lifeFollows b (lcChange_of_lcCmd hcmd))
    next =>
      split
      next hwipe => exact (hwiped.thenFollows (lcAtStart_lifeFollows (halm ▸ hwipe))).only (by simp)
      next => exact hwiped.lifeFollows.only (by simp)

theorem exec_lifeFollows {i : Instr} (h : exec i s = .next t) : LifeFollows s t := by
  by_cases hlife : Blk.life ∈ touches i
  case neg => exact lifeFollows_of_eq (commandsKeepToTheirParts i s t h .life hlife)
  case pos =>
    have hafter : t = Res.after (exec i s) s := by rw [h]; rfl
    rw [hafter]
    obtain ⟨-, -, hchanges⟩ := touches_table i
    rcases hchanges hlife with ⟨m, target, sig, rfl⟩ | rfl | ⟨imageOk, straps, lib, rfl⟩ | rfl | rfl
    · exact execChangeLifeCycleState_lifeFollows m target sig s
    · exact execPerstAssert_lifeFollows s
    · exact execColdReset_lifeFollows imageOk straps lib s
    · exact execRldramWipeEnd_lifeFollows s
    · exact execMainSupplyLoss_lifeFollows s

/-- DECOMMISSIONED has no exit (R455). -/
theorem lcAuthority_decommissioned (target : Nat) : lcAuthority 4 target = none := rfl

end LifeCycle

/-- Settles O43: a nanosecond leaves the life cycle as it is, and a command keeps to the table (`exec_lifeFollows`). -/
theorem lifeCycleFollowsTable : Obligations.LifeCycleFollowsTable := by
  unfold Obligations.LifeCycleFollowsTable
  intro s t hs hstep
  have hfollows : LifeFollows s t := by
    rcases step_cases hstep with ⟨-, ht⟩ | ⟨i, rest, -, hexec⟩
    · rw [ht]
      exact Only.lifeFollows (by simp)
    · exact (exec_lifeFollows hexec).congr rfl rfl
  obtain ⟨hsound, hmoved⟩ := hfollows hs
  refine ⟨hsound, hmoved, fun h4 => ?_⟩
  rw [h4, lcAuthority_decommissioned] at hmoved
  exact hmoved.resolve_right (by simp)

end Sys2Proof.Machine
